-- ==== Sys2Proof/Word.lean ====
section
/-! DEFINITION. The words of the machine: bytes, 64-bit registers, register numbers of an instruction. -/

namespace Sys2Proof

/-- A byte of memory. -/
abbrev Byte := BitVec 8

/-- A 16-bit half word (an immediate, a sample of the converters). -/
abbrev W16 := BitVec 16

/-- A 32-bit instruction word or configuration word. -/
abbrev W32 := BitVec 32

/-- A register of the device or a general register (R84, R239, R802). -/
abbrev W64 := BitVec 64

/-- A position count: signed 48 bits (R34). -/
abbrev Cnt := BitVec 48

/-- A 5-bit register field of an instruction (Table 6.3). -/
abbrev Reg := BitVec 5

end Sys2Proof
end

