-- ==== Sys2Proof/Syntax.lean ====
section
/-! DEFINITION. The commands of the block: one constructor per row of spec/opcode_table.json.
Names and rules are those of the table; the operands carry what the environment supplies (an address, a value, the outcome
of something outside the block), in log entry 8. -/

namespace Sys2Proof

/-- The source of a register access (R805): the supervisor program, partition p's program, or the host through PFf. -/
inductive Src where
  | sup
  | part (p : Nat)
  | pf (f : Nat)
  deriving DecidableEq, Repr

/-- One item of a CoaXPress stream (R91, R94): an image header, a line marker, pixels from index x of the current line.
fmts lists the planes' PFNC formats: 0 Mono8, 1 Mono10, 2 Mono12, 3 Mono16, 4 Mono10p, 5 Mono12p, others unsupported;
ok is false for a header outside Table 3.1 (tiled extension headers). -/
inductive StreamItem where
  | header (ok rect : Bool) (fmts : List Nat) (w h : Nat)
  | line (plane : Nat)
  | pixels (x : Nat) (vals : List Nat)
  deriving DecidableEq, Repr

/-- A stream packet (R94): camera, connection, packet tag, whether its CRC passed, whether its connection's FIFO overflowed
(R123), the calibration tables found damaged while it was corrected (R133), and its items. -/
structure StreamPacket where
  cam : Nat
  con : Nat
  tag : Nat
  crcOk : Bool
  ovf : Bool
  badTables : List Nat
  items : List StreamItem
  deriving DecidableEq, Repr

/-- The fields of a tile-issue instruction (Table 7.1), and the failing checks its parameter block read meets. -/
structure TiFields where
  dst : BitVec 4
  srca : BitVec 4
  srcb : BitVec 4
  np : Bool
  rb : Bool
  st : Bool
  pb : Reg
  flt : Nat
  deriving DecidableEq, Repr

/-- What the environment of the block supplies when a tile op ends: a detected error that no replay cleared or a source read
that failed after its retries (err), a compressed block damaged on its way (header address, check of Table 12.4), and the entries
of a sequence list whose HEAD others kept changing through 16 tries (R441). -/
structure OpEnv where
  err : Bool
  dmg : Option (Nat × Nat)
  conf : List Nat
  deriving DecidableEq, Repr

/-- A fabric block (Tables 14.1 and 14.2): header fields, ciphertext payload and tag. -/
structure Block where
  ctr : Nat
  off : Nat
  epoch : Nat
  dom : Nat
  seq : Nat
  last : Bool
  vc : Nat
  type : Nat
  plen : Nat
  src : Nat
  dst : Nat
  payload : List Byte
  tag : List Byte
  deriving DecidableEq, Repr

/-- Whose host-window read fails (R652): a mover's op, or a scalar load of a thread at an address. -/
inductive HostReader where
  | mover (uid : Nat)
  | scalar (th : Nat) (a : W64)
  deriving DecidableEq, Repr

/-- The commands (spec/opcode_table.json). -/
inductive Instr where
  /-- REGISTER_WRITE, R805. -/
  | registerWrite (src : Src) (off : Nat) (be : BitVec 8) (v : W64)
  /-- ENCODER_TRANSITION, R36. -/
  | encoderTransition (n : Nat) (a : Bool) (b : Bool)
  /-- Z_EDGE, R41. -/
  | zEdge (n : Nat)
  /-- AXIS_COUNTER_WRITE, R42. -/
  | axisCounterWrite (src : Src) (n : Nat) (v : W64)
  /-- AXIS_STOPPED, R48. -/
  | axisStopped (n : Nat)
  /-- VELOCITY_UPDATE, R51. -/
  | velocityUpdate
  /-- SLOT_ARM, R88. -/
  | slotArm (src : Src) (k : Nat) (v : W64)
  /-- SLOT_DISARM, R88. -/
  | slotDisarm (src : Src) (k : Nat) (v : W64)
  /-- TRIG_PULSE_START, R64. -/
  | trigPulseStart (o : Nat)
  /-- TRIG_PULSE_END, R64. -/
  | trigPulseEnd (o : Nat)
  /-- MARK_PULSE_START, R65. -/
  | markPulseStart (o : Nat)
  /-- MARK_PULSE_END, R65. -/
  | markPulseEnd (o : Nat)
  /-- BCAST_INTERVAL, R71. -/
  | bcastInterval
  /-- POS_PACKET_RECEIVE, R78. -/
  | posPacketReceive (q : Nat) (tApply : Nat) (tRes : Nat)
  /-- FOLLOWER_STEP, R79. -/
  | followerStep (n : Nat)
  /-- FOLLOWER_LOST, R81. -/
  | followerLost (n : Nat)
  /-- LINK_LATENCY_MEASURE, R75. -/
  | linkLatencyMeasure (q : Nat) (rtt : Nat) (res : Nat)
  /-- CAMERA_CONFIG_WRITE, R93. -/
  | cameraConfigWrite (src : Src) (k : Nat) (v : W64)
  /-- ING_CAMERA_ENABLE, R838. -/
  | ingCameraEnable (src : Src) (k : Nat) (v : W64)
  /-- CXP_STREAM_PACKET, R94. -/
  | cxpStreamPacket (p : StreamPacket)
  /-- CXP_LOCK_LOSS, R134. -/
  | cxpLockLoss (n : Nat)
  /-- CXP_LOCK_ACQUIRE, R134. -/
  | cxpLockAcquire (n : Nat)
  /-- UPLINK_TRIGGER_RISING, R98. -/
  | uplinkTriggerRising (k : Nat) (b : Nat) (fin : Nat)
  /-- UPLINK_TRIGGER_FALLING, R97. -/
  | uplinkTriggerFalling (k : Nat) (b : Nat) (fin : Nat)
  /-- CONTROL_SEND, R102. -/
  | controlSend (src : Src) (k : Nat) (v : W64)
  /-- CONTROL_RECEIVE, R102. -/
  | controlReceive (k : Nat) (payload : List Byte)
  /-- EVENT_PACKET_RECEIVE, R104. -/
  | eventPacketReceive (k : Nat) (payload : List Byte)
  /-- HEARTBEAT, R105. -/
  | heartbeat (k : Nat)
  /-- FIRE_RECORD_EXPIRE, R112. -/
  | fireRecordExpire (k : Nat)
  /-- CAL_LOAD, R124. -/
  | calLoad (src : Src) (t : Nat) (v : W64)
  /-- CAL_STORE, R132. -/
  | calStore (src : Src) (t : Nat) (v : W64)
  /-- JESD_CONFIG_WRITE, R107. -/
  | jesdConfigWrite (src : Src) (v : W64)
  /-- SYSREF_EDGE, R108. -/
  | sysrefEdge (phase : Nat)
  /-- JESD_BLOCK_COMPLETE, R115. -/
  | jesdBlockComplete (age : Nat) (samples : List W16) (crcLanes : List Nat)
  /-- JESD_LOCK_LOSS, R134. -/
  | jesdLockLoss (l : Nat)
  /-- PASS, R146. -/
  | pass (th : Nat) (gd : Reg) (ga : Reg) (sel : BitVec 16) (flt : Nat) (mflt : Nat)
  /-- VERD_OPEN, R155. -/
  | verdOpen (th : Nat) (gd : Reg) (ga : Reg) (sel : BitVec 14) (flt : Nat)
  /-- VERD_POST, R167. -/
  | verdPost (th : Nat) (gd : Reg) (ga : Reg) (sel : BitVec 14) (flt : Nat)
  /-- VERD_SEAL, R160. -/
  | verdSeal (th : Nat) (gd : Reg) (ga : Reg) (sel : BitVec 14) (flt : Nat)
  /-- VERD_CLOSE, R164. -/
  | verdClose (th : Nat) (gd : Reg) (ga : Reg) (sel : BitVec 14) (flt : Nat)
  /-- DIE_ACQUIRED, R158. -/
  | dieAcquired (e : Nat)
  /-- DIE_FORCE, R162. -/
  | dieForce (e : Nat)
  /-- VERDICT_RECORD_WRITE, R173. -/
  | verdictRecordWrite (r : Nat)
  /-- CONSUMER_INDEX_READ, R174. -/
  | consumerIndexRead (r : Nat)
  /-- INTERRUPT_MODERATION_EXPIRY, R178. -/
  | interruptModerationExpiry (r : Nat)
  /-- MTAB_WRITE, R699. -/
  | mtabWrite (src : Src) (p : Nat) (v : W64)
  /-- JOB_TAKE, R185. -/
  | jobTake (c : Nat) (x : Nat) (mflt : Nat)
  /-- INNINGS_BOUNDARY, R192. -/
  | inningsBoundary (c : Nat)
  /-- PREEMPT_TILE_BOUNDARY, R203. -/
  | preemptTileBoundary (c : Nat)
  /-- OVERRUN_FAULT, R208. -/
  | overrunFault (uid : Nat)
  /-- HOLD_FAULT, R210. -/
  | holdFault (c : Nat) (k : Nat)
  /-- SEM_CONFIG_WRITE, R209. -/
  | semConfigWrite (src : Src) (c : Nat) (k : Nat) (v : W64)
  /-- AGE_LIMIT_EXPIRY, R219. -/
  | ageLimitExpiry (p : Nat) (jseq : Nat)
  /-- DLM_RESEED, R222. -/
  | dlmReseed (src : Src) (p : Nat) (v : W64)
  /-- ADD, R247. -/
  | add (th : Nat) (gd : Reg) (ga : Reg) (gb : Reg)
  /-- SUB, R247. -/
  | sub (th : Nat) (gd : Reg) (ga : Reg) (gb : Reg)
  /-- AND, R247. -/
  | and_ (th : Nat) (gd : Reg) (ga : Reg) (gb : Reg)
  /-- OR, R247. -/
  | or_ (th : Nat) (gd : Reg) (ga : Reg) (gb : Reg)
  /-- XOR, R247. -/
  | xor (th : Nat) (gd : Reg) (ga : Reg) (gb : Reg)
  /-- ANDN, R247. -/
  | andn (th : Nat) (gd : Reg) (ga : Reg) (gb : Reg)
  /-- SLL, R247. -/
  | sll (th : Nat) (gd : Reg) (ga : Reg) (gb : Reg)
  /-- SRL, R247. -/
  | srl (th : Nat) (gd : Reg) (ga : Reg) (gb : Reg)
  /-- SRA, R247. -/
  | sra (th : Nat) (gd : Reg) (ga : Reg) (gb : Reg)
  /-- ROR, R247. -/
  | ror (th : Nat) (gd : Reg) (ga : Reg) (gb : Reg)
  /-- MIN, R247. -/
  | min (th : Nat) (gd : Reg) (ga : Reg) (gb : Reg)
  /-- MAX, R247. -/
  | max (th : Nat) (gd : Reg) (ga : Reg) (gb : Reg)
  /-- MINU, R247. -/
  | minu (th : Nat) (gd : Reg) (ga : Reg) (gb : Reg)
  /-- MAXU, R247. -/
  | maxu (th : Nat) (gd : Reg) (ga : Reg) (gb : Reg)
  /-- CLZ, R247. -/
  | clz (th : Nat) (gd : Reg) (ga : Reg) (gb : Reg)
  /-- POPC, R247. -/
  | popc (th : Nat) (gd : Reg) (ga : Reg) (gb : Reg)
  /-- SX48, R247. -/
  | sx48 (th : Nat) (gd : Reg) (ga : Reg) (gb : Reg)
  /-- ZX48, R247. -/
  | zx48 (th : Nat) (gd : Reg) (ga : Reg) (gb : Reg)
  /-- MUL, R247. -/
  | mul (th : Nat) (gd : Reg) (ga : Reg) (gb : Reg)
  /-- MULH, R247. -/
  | mulh (th : Nat) (gd : Reg) (ga : Reg) (gb : Reg)
  /-- MULHU, R247. -/
  | mulhu (th : Nat) (gd : Reg) (ga : Reg) (gb : Reg)
  /-- DIV, R248. -/
  | div (th : Nat) (gd : Reg) (ga : Reg) (gb : Reg)
  /-- DIVU, R248. -/
  | divu (th : Nat) (gd : Reg) (ga : Reg) (gb : Reg)
  /-- REM, R248. -/
  | rem (th : Nat) (gd : Reg) (ga : Reg) (gb : Reg)
  /-- REMU, R248. -/
  | remu (th : Nat) (gd : Reg) (ga : Reg) (gb : Reg)
  /-- CMPEQ, R247. -/
  | cmpeq (th : Nat) (gd : Reg) (ga : Reg) (gb : Reg)
  /-- CMPNE, R247. -/
  | cmpne (th : Nat) (gd : Reg) (ga : Reg) (gb : Reg)
  /-- CMPLT, R247. -/
  | cmplt (th : Nat) (gd : Reg) (ga : Reg) (gb : Reg)
  /-- CMPGE, R247. -/
  | cmpge (th : Nat) (gd : Reg) (ga : Reg) (gb : Reg)
  /-- CMPLTU, R247. -/
  | cmpltu (th : Nat) (gd : Reg) (ga : Reg) (gb : Reg)
  /-- CMPGEU, R247. -/
  | cmpgeu (th : Nat) (gd : Reg) (ga : Reg) (gb : Reg)
  /-- PAND, R247. -/
  | pand (th : Nat) (gd : Reg) (ga : Reg) (gb : Reg)
  /-- POR, R247. -/
  | por (th : Nat) (gd : Reg) (ga : Reg) (gb : Reg)
  /-- PXOR, R247. -/
  | pxor (th : Nat) (gd : Reg) (ga : Reg) (gb : Reg)
  /-- PANDN, R247. -/
  | pandn (th : Nat) (gd : Reg) (ga : Reg) (gb : Reg)
  /-- SEL, R247. -/
  | sel (th : Nat) (gd : Reg) (ga : Reg) (gb : Reg) (p : BitVec 3)
  /-- ADDI, R244. -/
  | addi (th : Nat) (gd : Reg) (ga : Reg) (imm : W16)
  /-- ANDI, R244. -/
  | andi (th : Nat) (gd : Reg) (ga : Reg) (imm : W16)
  /-- ORI, R244. -/
  | ori (th : Nat) (gd : Reg) (ga : Reg) (imm : W16)
  /-- XORI, R244. -/
  | xori (th : Nat) (gd : Reg) (ga : Reg) (imm : W16)
  /-- SETH, R244. -/
  | seth (th : Nat) (gd : Reg) (ga : Reg) (imm : W16)
  /-- INSH, R244. -/
  | insh (th : Nat) (gd : Reg) (ga : Reg) (imm : W16)
  /-- CMPI, R244. -/
  | cmpi (th : Nat) (gd : Reg) (ga : Reg) (imm : W16)
  /-- SHI, R244. -/
  | shi (th : Nat) (gd : Reg) (ga : Reg) (imm : W16)
  /-- LDBU, R249. -/
  | ldbu (th : Nat) (gt : Reg) (gb : Reg) (imm : W16) (flt : Nat)
  /-- LDHU, R249. -/
  | ldhu (th : Nat) (gt : Reg) (gb : Reg) (imm : W16) (flt : Nat)
  /-- LDWU, R249. -/
  | ldwu (th : Nat) (gt : Reg) (gb : Reg) (imm : W16) (flt : Nat)
  /-- LDW, R249. -/
  | ldw (th : Nat) (gt : Reg) (gb : Reg) (imm : W16) (flt : Nat)
  /-- LDD, R249. -/
  | ldd (th : Nat) (gt : Reg) (gb : Reg) (imm : W16) (flt : Nat)
  /-- STB, R249. -/
  | stb (th : Nat) (gt : Reg) (gb : Reg) (imm : W16) (flt : Nat)
  /-- STH, R249. -/
  | sth (th : Nat) (gt : Reg) (gb : Reg) (imm : W16) (flt : Nat)
  /-- STW, R249. -/
  | stw (th : Nat) (gt : Reg) (gb : Reg) (imm : W16) (flt : Nat)
  /-- STD, R249. -/
  | std (th : Nat) (gt : Reg) (gb : Reg) (imm : W16) (flt : Nat)
  /-- DLD, R249. -/
  | dld (th : Nat) (gt : Reg) (gb : Reg) (imm : W16) (flt : Nat)
  /-- DST, R249. -/
  | dst (th : Nat) (gt : Reg) (gb : Reg) (imm : W16) (flt : Nat)
  /-- AMOSWP, R251. -/
  | amoswp (th : Nat) (gd : Reg) (ga : Reg) (gb : Reg) (flt : Nat)
  /-- AMOADD, R251. -/
  | amoadd (th : Nat) (gd : Reg) (ga : Reg) (gb : Reg) (flt : Nat)
  /-- AMOAND, R251. -/
  | amoand (th : Nat) (gd : Reg) (ga : Reg) (gb : Reg) (flt : Nat)
  /-- AMOOR, R251. -/
  | amoor (th : Nat) (gd : Reg) (ga : Reg) (gb : Reg) (flt : Nat)
  /-- AMOCAS, R251. -/
  | amocas (th : Nat) (gd : Reg) (ga : Reg) (gb : Reg) (flt : Nat)
  /-- B, R253. -/
  | b (th : Nat) (p : BitVec 3) (n : Bool) (z : Bool) (off : BitVec 21)
  /-- BL, R253. -/
  | bl (th : Nat) (p : BitVec 3) (n : Bool) (z : Bool) (off : BitVec 21)
  /-- JR, R244. -/
  | jr (th : Nat) (gd : Reg) (ga : Reg) (gb : Reg) (fn : BitVec 11)
  /-- MFS, R280. -/
  | mfs (th : Nat) (gd : Reg) (ga : Reg) (n : BitVec 12)
  /-- MTS, R280. -/
  | mts (th : Nat) (gd : Reg) (ga : Reg) (n : BitVec 12)
  /-- FENCE, R279. -/
  | fence (th : Nat) (gd : Reg) (ga : Reg) (k : BitVec 12)
  /-- ERET, R256. -/
  | eret (th : Nat) (gd : Reg) (ga : Reg) (z : BitVec 12)
  /-- BRK, R280. -/
  | brk (th : Nat) (gd : Reg) (ga : Reg) (n : BitVec 12)
  /-- YIELD_INNINGS, R197. -/
  | yieldInnings (th : Nat) (gd : Reg) (ga : Reg) (z : BitVec 11)
  /-- YIELD_END, R277. -/
  | yieldEnd (th : Nat) (gd : Reg) (ga : Reg) (z : BitVec 11)
  /-- CAPRD, R320. -/
  | caprd (th : Nat) (gd : Reg) (ga : Reg) (n : BitVec 12)
  /-- TWAIT, R316. -/
  | twait (th : Nat) (gd : Reg) (ga : Reg) (z : BitVec 11) (eta : Nat)
  /-- TWAIT_TRY, R316. -/
  | twaitTry (th : Nat) (gd : Reg) (ga : Reg) (z : BitVec 11)
  /-- SEMACQ, R260. -/
  | semacq (th : Nat) (gd : Reg) (ga : Reg) (g : Bool) (z : BitVec 4) (base : Byte)
  /-- SEMACQ_TRY, R260. -/
  | semacqTry (th : Nat) (gd : Reg) (ga : Reg) (g : Bool) (z : BitVec 4) (base : Byte)
  /-- SEMREL, R262. -/
  | semrel (th : Nat) (gd : Reg) (ga : Reg) (g : Bool) (t : Bool) (z : BitVec 4) (base : Byte)
  /-- PWAIT_POSITION, R265. -/
  | pwaitPosition (th : Nat) (gd : Reg) (ga : Reg) (falling : Bool) (ax : BitVec 2) (scan : Bool) (z : Bool) (tmo : BitVec 10)
  /-- PWAIT_SLOT, R265. -/
  | pwaitSlot (th : Nat) (gd : Reg) (ga : Reg) (ax : BitVec 2) (scan : Bool) (z : Bool) (tmo : BitVec 10)
  /-- PWAIT_TIMEOUT, R266. -/
  | pwaitTimeout (th : Nat)
  /-- PARM, R268. -/
  | parm (th : Nat) (gd : Reg) (ga : Reg) (sel : BitVec 16) (flt : Nat)
  /-- DLSET_EXPLICIT, R275. -/
  | dlsetExplicit (th : Nat) (gd : Reg) (ga : Reg) (z : BitVec 13) (d : Bool)
  /-- DLSET_DEFAULT, R275. -/
  | dlsetDefault (th : Nat) (gd : Reg) (ga : Reg) (z : BitVec 13) (d : Bool)
  /-- DLSET_NONE, R275. -/
  | dlsetNone (th : Nat) (gd : Reg) (ga : Reg) (z : BitVec 13) (d : Bool)
  /-- CKPT, R281. -/
  | ckpt (th : Nat) (gd : Reg) (ga : Reg) (sel : BitVec 16) (flt : Nat)
  /-- CKPT_COMMIT, R284. -/
  | ckptCommit (uid : Nat) (err : Bool)
  /-- LOCKSTEP_MISMATCH, R291. -/
  | lockstepMismatch
  /-- SUPERVISOR_RESTART, R291. -/
  | supervisorRestart
  /-- MX_MUL, R332. -/
  | mxMul (th : Nat) (ti : TiFields)
  /-- CV_CONV, R335. -/
  | cvConv (th : Nat) (ti : TiFields)
  /-- VX_EW1, R337. -/
  | vxEw1 (th : Nat) (ti : TiFields)
  /-- VX_EW2, R337. -/
  | vxEw2 (th : Nat) (ti : TiFields)
  /-- VX_FMA, R337. -/
  | vxFma (th : Nat) (ti : TiFields)
  /-- VX_RED, R337. -/
  | vxRed (th : Nat) (ti : TiFields)
  /-- VX_SOFTMAX, R337. -/
  | vxSoftmax (th : Nat) (ti : TiFields)
  /-- VX_NORM, R337. -/
  | vxNorm (th : Nat) (ti : TiFields)
  /-- VX_QUANT, R368. -/
  | vxQuant (th : Nat) (ti : TiFields)
  /-- VX_DEQUANT, R337. -/
  | vxDequant (th : Nat) (ti : TiFields)
  /-- VX_AMAX, R337. -/
  | vxAmax (th : Nat) (ti : TiFields)
  /-- VX_POOL, R411. -/
  | vxPool (th : Nat) (ti : TiFields)
  /-- VX_DWCONV, R407. -/
  | vxDwconv (th : Nat) (ti : TiFields)
  /-- VX_HAD, R372. -/
  | vxHad (th : Nat) (ti : TiFields)
  /-- VX_OPT, R386. -/
  | vxOpt (th : Nat) (ti : TiFields)
  /-- VX_TRANS, R337. -/
  | vxTrans (th : Nat) (ti : TiFields)
  /-- VX_GATHER, R339. -/
  | vxGather (th : Nat) (ti : TiFields)
  /-- VX_SELECT, R340. -/
  | vxSelect (th : Nat) (ti : TiFields)
  /-- VX_FILL, R337. -/
  | vxFill (th : Nat) (ti : TiFields)
  /-- AT_ATTN, R459. -/
  | atAttn (th : Nat) (ti : TiFields)
  /-- AT_APPEND, R455. -/
  | atAppend (th : Nat) (ti : TiFields)
  /-- AT_PREFIX, R479. -/
  | atPrefix (th : Nat) (ti : TiFields)
  /-- AT_FORK, R470. -/
  | atFork (th : Nat) (ti : TiFields)
  /-- AT_FREE, R472. -/
  | atFree (th : Nat) (ti : TiFields)
  /-- SQ_CHUNK, R497. -/
  | sqChunk (th : Nat) (ti : TiFields)
  /-- SQ_STEP, R502. -/
  | sqStep (th : Nat) (ti : TiFields)
  /-- SQ_EVICT, R506. -/
  | sqEvict (th : Nat) (ti : TiFields)
  /-- SQ_CLEAR, R510. -/
  | sqClear (th : Nat) (ti : TiFields)
  /-- PP_CONV, R407. -/
  | ppConv (th : Nat) (ti : TiFields)
  /-- PP_STREAM, R418. -/
  | ppStream (th : Nat) (ti : TiFields)
  /-- CX_EXPAND, R521. -/
  | cxExpand (th : Nat) (ti : TiFields)
  /-- CX_COMPRESS, R531. -/
  | cxCompress (th : Nat) (ti : TiFields)
  /-- DM_COPY, R349. -/
  | dmCopy (th : Nat) (ti : TiFields)
  /-- DM_FILL, R581. -/
  | dmFill (th : Nat) (ti : TiFields)
  /-- DM_PROMOTE, R587. -/
  | dmPromote (th : Nat) (ti : TiFields)
  /-- DM_EVICT, R587. -/
  | dmEvict (th : Nat) (ti : TiFields)
  /-- PIECE_COMPLETE, R200. -/
  | pieceComplete (uid : Nat) (unit : Nat) (row : Nat) (n : Nat) (cc : Nat) (err : Bool)
  /-- TILE_OP_COMPLETE, R317. -/
  | tileOpComplete (uid : Nat) (env : OpEnv)
  /-- WEIGHT_BLOCK_LOADED, R398. -/
  | weightBlockLoaded (uid : Nat) (tile : Nat)
  /-- PP_STREAM_ENTRY, R420. -/
  | ppStreamEntry (n : Nat) (lbErr : Bool)
  /-- POOL_ALLOC, R447. -/
  | poolAlloc (src : Src) (p : Nat) (c : Nat)
  /-- POOL_FREE, R448. -/
  | poolFree (src : Src) (p : Nat) (c : Nat) (v : W64)
  /-- TABLE_ALLOC, R447. -/
  | tableAlloc (src : Src) (p : Nat)
  /-- TABLE_FREE, R448. -/
  | tableFree (src : Src) (p : Nat) (v : W64)
  /-- POOL_CONFIG_WRITE, R486. -/
  | poolConfigWrite (src : Src) (p : Nat) (c : Nat) (v : W64)
  /-- SQ_STREAM_CONFIG_WRITE, R492. -/
  | sqStreamConfigWrite (src : Src) (c : Nat) (k : Nat) (v : W64)
  /-- SQ_LIVE_WRITE, R493. -/
  | sqLiveWrite (src : Src) (c : Nat) (k : Nat) (v : W64)
  /-- SWAP_IN_COMPLETE, R507. -/
  | swapInComplete (c : Nat) (k : Nat) (fail : Bool)
  /-- SWAP_OUT_COMPLETE, R506. -/
  | swapOutComplete (c : Nat) (k : Nat)
  /-- BLOCK_REFETCH, R540. -/
  | blockRefetch (uid : Nat) (chk : Nat)
  /-- SRAM_CLEAR, R553. -/
  | sramClear (src : Src) (v : W64)
  /-- SRAM_CLEAR_DONE, R553. -/
  | sramClearDone
  /-- SCRUB_ADVANCE, R566. -/
  | scrubAdvance (src : Src) (v : W64)
  /-- ERASE_SCRUB_COMPLETE, R568. -/
  | eraseScrubComplete (r : Nat)
  /-- PATROL_SCRUB, R570. -/
  | patrolScrub (a : Nat) (fail : Bool)
  /-- CHANNEL_INIT_COMPLETE, R569. -/
  | channelInitComplete (ch : Nat)
  /-- ROTATION_START, R576. -/
  | rotationStart
  /-- MIGRATION_UNIT_COPY, R572. -/
  | migrationUnitCopy (bad : List Nat)
  /-- MIGRATION_COMPLETE, R574. -/
  | migrationComplete
  /-- RETRAIN_COMPLETE, R576. -/
  | retrainComplete (ch : Nat)
  /-- MOVEMENT_BLOCK, R582. -/
  | movementBlock (uid : Nat) (mism : Nat) (flt : Nat)
  /-- FILL_COMPLETE, R587. -/
  | fillComplete (uid : Nat) (err : Bool)
  /-- DRAIN_COMPLETE, R587. -/
  | drainComplete (uid : Nat) (err : Bool)
  /-- TDUNPIN, R590. -/
  | tdunpin (src : Src) (v : W64)
  /-- FABRIC_BLOCK_RECEIVE, R603. -/
  | fabricBlockReceive (q : Nat) (blk : Block) (crcOk : Bool)
  /-- ACK_RECEIVE, R605. -/
  | ackReceive (q : Nat) (seq : Nat)
  /-- NAK_RECEIVE, R606. -/
  | nakReceive (q : Nat) (seq : Nat)
  /-- REPLAY_TIMEOUT, R606. -/
  | replayTimeout (q : Nat)
  /-- ACK_DELAY_EXPIRY, R604. -/
  | ackDelayExpiry (q : Nat)
  /-- FAST_RETRAIN_COMPLETE, R608. -/
  | fastRetrainComplete (q : Nat) (bit0 : Bool) (bit1 : Bool) (rtt : Nat) (res : Nat)
  /-- PORT_TRAINING_START, R611. -/
  | portTrainingStart (q : Nat)
  /-- TRAINING_COMPLETE, R612. -/
  | trainingComplete (q : Nat) (nid : Nat) (nport : Nat) (w : Nat) (h : Nat) (loop : Bool) (rtt : Nat) (res : Nat)
  /-- TRAINING_TIMEOUT, R611. -/
  | trainingTimeout (q : Nat)
  /-- EQ_REQUEST, R613. -/
  | eqRequest (q : Nat) (lane : Nat) (req : Nat)
  /-- CREDIT_RETURN, R614. -/
  | creditReturn (q : Nat) (buf : Nat) (n : Nat)
  /-- BLOCK_SEND, R615. -/
  | blockSend (q : Nat) (tWait : Nat)
  /-- WR_RECEIVE, R626. -/
  | wrReceive (q : Nat)
  /-- WRACK_RECEIVE, R629. -/
  | wrackReceive (q : Nat)
  /-- WRNAK_RECEIVE, R628. -/
  | wrnakReceive (q : Nat)
  /-- RDREQ_RECEIVE, R630. -/
  | rdreqReceive (q : Nat) (flt : Nat)
  /-- RDRSP_RECEIVE, R630. -/
  | rdrspReceive (q : Nat)
  /-- RDNAK_RECEIVE, R630. -/
  | rdnakReceive (q : Nat)
  /-- FLAG_RECEIVE, R631. -/
  | flagReceive (q : Nat)
  /-- E2E_TIMEOUT, R628. -/
  | e2eTimeout (uid : Nat)
  /-- FABRIC_EPOCH_ADVANCE, R639. -/
  | fabricEpochAdvance (src : Src) (p : Nat) (v : W64)
  /-- FABRIC_EPOCH_RETIRE, R639. -/
  | fabricEpochRetire (src : Src) (p : Nat) (v : W64)
  /-- PCIE_LINK_UP, R644. -/
  | pcieLinkUp (width : Nat) (speed : Nat)
  /-- PCIE_LINK_DOWN, R652. -/
  | pcieLinkDown
  /-- CONFIG_REQUEST, R779. -/
  | configRequest (f : Nat) (wr : Bool) (off : Nat) (v : W32)
  /-- BAR2_READ, R649. -/
  | bar2Read (f : Nat) (off : Nat) (len : Nat) (flt : Nat)
  /-- BAR2_WRITE, R648. -/
  | bar2Write (f : Nat) (off : Nat) (data : List Byte)
  /-- HOST_READ_FAIL, R652. -/
  | hostReadFail (who : HostReader)
  /-- FUNCTION_LEVEL_RESET, R653. -/
  | functionLevelReset (f : Nat)
  /-- ENDPOINT_RESET, R653. -/
  | endpointReset
  /-- REQUEST_SCAN, R657. -/
  | requestScan (src : Src) (v : W64)
  /-- REQUEST_SCAN_COMPLETE, R657. -/
  | requestScanComplete (fails : List Nat)
  /-- EVPOST, R660. -/
  | evpost (src : Src) (v : W64)
  /-- EVENT_RECORD_WRITE, R661. -/
  | eventRecordWrite (f : Nat)
  /-- ERROR_WINDOW_END, R672. -/
  | errorWindowEnd (k : Nat) (u : Nat)
  /-- SUSPECT_EXPIRY, R673. -/
  | suspectExpiry (k : Nat) (u : Nat)
  /-- THRESHOLD_WRITE, R672. -/
  | thresholdWrite (src : Src) (k : Nat) (v : W64)
  /-- RETIRE_WRITE, R676. -/
  | retireWrite (src : Src) (k : Nat) (v : W64)
  /-- CHECKPOINT_DUE, R692. -/
  | checkpointDue
  /-- WATCHDOG_KICK, R693. -/
  | watchdogKick (src : Src) (v : W64)
  /-- WATCHDOG_EXPIRY, R693. -/
  | watchdogExpiry
  /-- REQUESTED_RESTART, R694. -/
  | requestedRestart (src : Src) (v : W64)
  /-- PARTITION_CREATE, R703. -/
  | partitionCreate (src : Src) (p : Nat) (v : W64)
  /-- PARTITION_RESIZE, R704. -/
  | partitionResize (src : Src) (p : Nat) (v : W64)
  /-- CLUSTER_CLEAR_COMPLETE, R705. -/
  | clusterClearComplete (c : Nat)
  /-- CFGWRITE, R722. -/
  | cfgwrite (src : Src) (blk : Nat) (flashOk : Bool)
  /-- STAGE, R728. -/
  | stage (src : Src) (blk : Nat)
  /-- UNSTAGE, R728. -/
  | unstage (src : Src) (blk : Nat)
  /-- EXTEND, R730. -/
  | extend (src : Src) (blk : Nat)
  /-- LOADSEED, R710. -/
  | loadseed (src : Src) (blk : Nat) (flashOk : Bool)
  /-- TRU_COMMAND_COMPLETE, R722. -/
  | truCommandComplete
  /-- KEY_DERIVE_COMPLETE, R712. -/
  | keyDeriveComplete (p : Nat)
  /-- KEY_ZEROISE, R713. -/
  | keyZeroise (p : Nat) (host : Bool)
  /-- RNG_RESEED, R709. -/
  | rngReseed
  /-- HOST_EPOCH_ADVANCE, R718. -/
  | hostEpochAdvance (src : Src) (p : Nat) (v : W64)
  /-- TEARDOWN, R736. -/
  | teardown (src : Src) (p : Nat) (v : W64)
  /-- TEARDOWN_SCRUB, R736. -/
  | teardownScrub (p : Nat)
  /-- TEARDOWN_COMPLETE, R736. -/
  | teardownComplete (p : Nat)
  /-- ATTEST_GO, R733. -/
  | attestGo (src : Src) (v : W64)
  /-- ATTEST_COMPLETE, R734. -/
  | attestComplete
  /-- CLAIM_PACKAGE, R727. -/
  | claimPackage (src : Src) (v : W64)
  /-- DEBUG_CHALLENGE, R744. -/
  | debugChallenge (src : Src)
  /-- DEBUG_TOKEN, R745. -/
  | debugToken (src : Src) (v : W64)
  /-- DEBUG_UNLOCK, R746. -/
  | debugUnlock
  /-- DEBUG_RELOCK, R746. -/
  | debugRelock (src : Src) (v : W64)
  /-- DEBUG_LIFE_EXPIRY, R746. -/
  | debugLifeExpiry
  /-- SLEEP_REQUEST, R766. -/
  | sleepRequest (src : Src) (v : W64)
  /-- SLEEP_PHASE_END, R768. -/
  | sleepPhaseEnd
  /-- WAKE_EVENT, R771. -/
  | wakeEvent (n : Nat) (sub : Nat)
  /-- AON_TIMER_MATCH, R771. -/
  | aonTimerMatch
  /-- SLEEP_EXIT, R773. -/
  | sleepExit
  /-- PLL_LOCK, R773. -/
  | pllLock (d : Nat)
  /-- CLOCK_SELECT, R773. -/
  | clockSelect (src : Src) (v : W64)
  /-- SELF_REFRESH_EXIT, R773. -/
  | selfRefreshExit (src : Src) (v : W64)
  /-- LEVEL_REQUEST, R758. -/
  | levelRequest (src : Src) (c : Nat) (v : W64)
  /-- LEVEL_SWITCH_COMPLETE, R758. -/
  | levelSwitchComplete (c : Nat)
  /-- THERMAL_SAMPLE, R762. -/
  | thermalSample (temps : List Int)
  /-- THROTTLE_STEP, R763. -/
  | throttleStep (c : Nat)
  /-- POWER_UP, R784. -/
  | powerUp
  /-- POWER_DOWN, R778. -/
  | powerDown
  /-- CHANNEL_TRAINING_COMPLETE, R784. -/
  | channelTrainingComplete
  /-- BOOT_IMAGE_VERIFY, R725. -/
  | bootImageVerify
  /-- WARM_RESET, R780. -/
  | warmReset (pin : Bool) (src : Src) (v : W64)
  /-- CLUSTER_RESET, R782. -/
  | clusterReset (src : Src) (c : Nat) (v : W64)
  /-- CLUSTER_POWER, R783. -/
  | clusterPower (src : Src) (c : Nat) (v : W64)
  /-- SEGMENT_ENABLE, R793. -/
  | segmentEnable (src : Src) (p : Nat) (i : Nat) (v : W64)
  /-- SEGMENT_DISABLE, R794. -/
  | segmentDisable (src : Src) (p : Nat) (i : Nat) (v : W64)
  /-- BASE_START, R242. -/
  | baseStart (src : Src) (c : Nat) (v : W64)
  /-- BASE_HALT, R810. -/
  | baseHalt (src : Src) (c : Nat) (v : W64)
  /-- TEST_MODE, R818. -/
  | testMode (level : Bool)
  /-- JTAG_EXTEST, R830. -/
  | jtagExtest (cells : Nat)
  /-- JTAG_IDCODE, R829. -/
  | jtagIdcode
  /-- JTAG_SAMPLE_PRELOAD, R829. -/
  | jtagSamplePreload (cells : Nat)
  /-- JTAG_EXTEST_PULSE, R830. -/
  | jtagExtestPulse (cells : Nat)
  /-- JTAG_EXTEST_TRAIN, R830. -/
  | jtagExtestTrain (cells : Nat)
  /-- JTAG_HIGHZ, R830. -/
  | jtagHighz
  /-- JTAG_CLAMP, R830. -/
  | jtagClamp
  /-- JTAG_TUCHAL, R744. -/
  | jtagTuchal
  /-- JTAG_DBGACC, R743. -/
  | jtagDbgacc (wr : Bool) (a : Nat) (v : W64)
  /-- JTAG_BYPASS, R829. -/
  | jtagBypass
  /-- SMB_TEMP, R831. -/
  | smbTemp
  /-- SMB_POWER, R831. -/
  | smbPower
  /-- SMB_HEALTH, R831. -/
  | smbHealth
  /-- SMB_STATE, R831. -/
  | smbState
  /-- SMB_IDENT, R831. -/
  | smbIdent
  /-- SMB_ALERT_RESPONSE, R831. -/
  | smbAlertResponse
  /-- JESD_LANE_LOCK, R838. -/
  | jesdLaneLock
  /-- CLUSTER_RESET_COMPLETE, R782. -/
  | clusterResetComplete (c : Nat)
  /-- RESERVED_OPCODE, R244. -/
  | reservedOpcode (th : Nat) (w : W32)
  /-- COUNTER_SNAPSHOT, R739. -/
  | counterSnapshot
  /-- POWER_AVERAGE_UPDATE, R741. -/
  | powerAverageUpdate (dev : Nat) (rails : List W64) (clus : List W64)
  /-- ERASE_SCRUB_BURST, R567. -/
  | eraseScrubBurst (a : Nat) (crcFail : Bool)
  deriving DecidableEq, Repr

end Sys2Proof
end

