-- ==== Sys2Proof/Decode.lean ====
section
/-! DEFINITION. The command that a word spells: the command table gives no row any bits, so no word spells one. -/

namespace Sys2Proof

/-- The command that the bits w spell. No row of spec/opcode_table.json has bits. -/
def decodeTableWord (_nbits _w : Nat) : Option Instr := none

end Sys2Proof
end

