-- ==== Sys2Proof/Machine/Bits.lean ====
section
/-! DEFINITION. Bit fields, sign extension, byte order and saturating counts: the small arithmetic of registers and records. -/

namespace Sys2Proof.Machine

open Sys2Proof

/-- Field [hi:lo] of a register, as a number. -/
def fld (v : W64) (hi lo : Nat) : Nat := (v.extractLsb' lo (hi + 1 - lo)).toNat

/-- Bit i of a register. -/
def bit (v : W64) (i : Nat) : Bool := v.getLsbD i

/-- The mask of field [hi:lo]. -/
def fmask (hi lo : Nat) : W64 := (BitVec.allOnes 64 >>> (64 - (hi + 1 - lo))) <<< lo

/-- Write a number into field [hi:lo]; it is cut to the field's width. -/
def setFld (v : W64) (hi lo x : Nat) : W64 :=
  (v &&& ~~~ fmask hi lo) ||| ((BitVec.ofNat 64 x <<< lo) &&& fmask hi lo)

/-- Write bit i. -/
def setBit (v : W64) (i : Nat) (b : Bool) : W64 := setFld v i i b.toNat

/-- A register with only field [hi:lo] set. -/
def mkFld (hi lo x : Nat) : W64 := setFld 0 hi lo x

/-- A count that stops at its field's largest value. -/
def satAdd (w a b : Nat) : Nat := min (a + b) (2 ^ w - 1)

/-- Add to the saturating field [hi:lo]. -/
def satFld (v : W64) (hi lo n : Nat) : W64 := setFld v hi lo (satAdd (hi + 1 - lo) (fld v hi lo) n)

/-- Add to the wrapping field [hi:lo]. -/
def wrapFld (v : W64) (hi lo n : Nat) : W64 := setFld v hi lo (fld v hi lo + n)

/-- Bytes of a number, lowest first. -/
def bytesOf : Nat → Nat → List Byte
  | 0, _ => []
  | n + 1, x => BitVec.ofNat 8 x :: bytesOf n (x / 256)

/-- The number of little-endian bytes. -/
def natOf : List Byte → Nat
  | [] => 0
  | b :: t => b.toNat + 256 * natOf t

/-- A little-endian field of a record: n bytes from byte o. -/
def recNat (r : List Byte) (o n : Nat) : Nat := natOf ((r.drop o).take n)

/-- Bytes of a number, highest first. -/
def bytesBE (n x : Nat) : List Byte := (bytesOf n x).reverse

/-- Zero bytes. -/
def zeros (n : Nat) : List Byte := List.replicate n 0

/-- Exactly n bytes: cut, or filled with zeros. -/
def fit (n : Nat) (l : List Byte) : List Byte := (l ++ zeros n).take n

/-- Write bytes over a record from byte o. -/
def patch (r : List Byte) (o : Nat) (b : List Byte) : List Byte := r.take o ++ b ++ r.drop (o + b.length)

/-- Sign-extend a 48-bit count to 64 bits. -/
def sx48 (c : Cnt) : W64 := c.signExtend 64

/-- The low 48 bits as a count. -/
def cntOf (v : W64) : Cnt := v.setWidth 48

/-- An integer as a 64-bit two's-complement word. -/
def w64OfInt (i : Int) : W64 := BitVec.ofInt 64 i

/-- An integer as a signed 48-bit count. -/
def cntOfInt (i : Int) : Cnt := BitVec.ofInt 48 i

/-- Replace the bytes of v that a byte-enable mask selects by those of w. -/
def mergeBytes (be : BitVec 8) (v w : W64) : W64 :=
  (List.range 8).foldl (fun a i => if be.getLsbD i then setFld a (8 * i + 7) (8 * i) (fld w (8 * i + 7) (8 * i)) else a) v

/-- The 64-bit mask of the bytes that a byte-enable mask selects. -/
def byteMask (be : BitVec 8) : W64 :=
  (List.range 8).foldl (fun a i => if be.getLsbD i then a ||| fmask (8 * i + 7) (8 * i) else a) 0

/-- The least multiple of m that is at least a. -/
def roundUp (a m : Nat) : Nat := (a + m - 1) / m * m

/-- Ceiling of a quotient. -/
def ceilDiv (a b : Nat) : Nat := (a + b - 1) / b

/-- Truncation toward zero of a quotient of integers, the '/' of the spec's pseudocode. -/
def tdiv (a b : Int) : Int := Int.tdiv a b

/-- An arithmetic shift right, the '>>' of the spec's pseudocode on signed values. -/
def ashr (a : Int) (k : Nat) : Int := a / (2 ^ k : Nat)

/-- Limit to a range. -/
def clampI (x lo hi : Int) : Int := max lo (min hi x)

/-- Microseconds in PTB ticks of 2.5 ns. -/
def usTicks (n : Nat) : Nat := n * 400

/-- Milliseconds in PTB ticks of 2.5 ns. -/
def msTicks (n : Nat) : Nat := n * 400000

/-- Seconds in PTB ticks of 2.5 ns. -/
def sTicks (n : Nat) : Nat := n * 400000000

end Sys2Proof.Machine
end

