-- ==== Sys2Proof/Machine/Num.lean ====
section
/-! DEFINITION. The number formats and FP32 arithmetic (R352 to R361, Tables 8.1 and 8.2): values as signs and exact rational
magnitudes, decoding, rounding, conversion, and results within an error bound (R388). -/

namespace Sys2Proof.Machine

open Sys2Proof

/-- A decoded value: its sign and magnitude; zeros keep their sign (R354). -/
inductive Val where
  | nan (neg : Bool)
  | inf (neg : Bool)
  | fin (neg : Bool) (m : Rat)
  deriving DecidableEq, Repr

/-- The number of a finite value; 0 for the others. -/
def Val.toRat : Val → Rat
  | .fin n m => if n then -m else m
  | _ => 0

/-- The sign of a value. -/
def Val.neg : Val → Bool
  | .nan n => n
  | .inf n => n
  | .fin n _ => n

/-- A value is finite. -/
def Val.isFin : Val → Bool
  | .fin _ _ => true
  | _ => false

/-- A value is a NaN. -/
def Val.isNan : Val → Bool
  | .nan _ => true
  | _ => false

/-- A finite value is zero. -/
def Val.isZero : Val → Bool
  | .fin _ m => m == 0
  | _ => false

/-- Positive zero. -/
def zeroV : Val := .fin false 0

/-- A number as a value; zero is positive. -/
def valOf (q : Rat) : Val := .fin (decide (q < 0)) (if q < 0 then -q else q)

/-- 2 to an integer power. -/
def pow2 (k : Int) : Rat := if 0 ≤ k then ((2 ^ k.toNat : Nat) : Rat) else 1 / ((2 ^ (-k).toNat : Nat) : Rat)

/-- The exponent of a positive number: the integer k with 2^k ≤ q < 2^(k+1). -/
def expo (q : Rat) : Int :=
  let k : Int := (q.num.natAbs.log2 : Int) - (q.den.log2 : Int)
  if q < pow2 k then k - 1 else k

/-- The shape of a floating-point format (Table 8.1). -/
structure FpFmt where
  ebits : Nat
  mbits : Nat
  bias : Nat
  fmax : Rat
  wide : Bool

/-- The floating-point formats, by code. -/
def fpFmt : Nat → FpFmt
  | 0 => ⟨8, 23, 127, (2 - pow2 (-23)) * pow2 127, true⟩
  | 1 => ⟨8, 7, 127, (2 - pow2 (-7)) * pow2 127, true⟩
  | 2 => ⟨5, 10, 15, 65504, true⟩
  | 3 => ⟨4, 3, 7, 448, false⟩
  | 4 => ⟨5, 2, 15, 57344, false⟩
  | 5 => ⟨3, 2, 3, 28, false⟩
  | 6 => ⟨2, 3, 1, 15 / 2, false⟩
  | _ => ⟨2, 1, 1, 6, false⟩

/-- A format is a floating-point one. -/
def isFp (f : Nat) : Bool := decide (f ≤ 7)

/-- A format is an unsigned integer one. -/
def isUint (f : Nat) : Bool := f == 11 || f == 12

/-- FMAX (Table 8.1). -/
def fmaxOf (f : Nat) : Rat :=
  if isFp f then (fpFmt f).fmax
  else match f with | 8 => 32767 | 9 => 127 | 10 => 7 | 11 => 255 | _ => 4095

/-- The value of a bit pattern of a format (R352, R355, R356). -/
def decodeFmt (f b : Nat) : Val :=
  if isFp f then
    let p := fpFmt f
    let m := b % 2 ^ p.mbits
    let e := b / 2 ^ p.mbits % 2 ^ p.ebits
    let s := (b / 2 ^ (p.mbits + p.ebits)) % 2 == 1
    let top := 2 ^ p.ebits - 1
    if (p.wide || f == 4) && e == top then (if m = 0 then .inf s else .nan s)
    else if f = 3 ∧ e = 15 ∧ m = 7 then .nan s
    else if e = 0 then .fin s ((m : Rat) * pow2 (1 - (p.bias : Int) - p.mbits))
    else .fin s (((2 ^ p.mbits + m : Nat) : Rat) * pow2 ((e : Int) - p.bias - p.mbits))
  else match f with
    | 8 => valOf ((BitVec.ofNat 16 b).toInt : Rat)
    | 9 => valOf ((BitVec.ofNat 8 b).toInt : Rat)
    | 10 => valOf ((BitVec.ofNat 4 b).toInt : Rat)
    | 11 => valOf ((b % 256 : Nat) : Rat)
    | _ => valOf ((b % 4096 : Nat) : Rat)

/-- How a conversion rounds: to nearest even, up in magnitude, or stochastically with a 16-bit draw (R357, R360). -/
inductive Mode where
  | rne
  | up
  | st (r : Nat)
  deriving DecidableEq, Repr

/-- The multiple that a non-negative quotient rounds to. -/
def roundN (x : Rat) (m : Mode) : Nat :=
  let n := x.floor.toNat
  let f := x - (n : Rat)
  if f = 0 then n
  else match m with
    | .rne => if f < 1 / 2 then n else if 1 / 2 < f then n + 1 else if n % 2 = 0 then n else n + 1
    | .up => n + 1
    | .st r => if r < (f * 65536).floor.toNat then n + 1 else n

/-- The step of a floating-point format at a magnitude, with an unbounded exponent range above. -/
def FpFmt.step (p : FpFmt) (m : Rat) : Rat :=
  let emin : Int := 1 - (p.bias : Int)
  pow2 ((if m = 0 then emin else max (expo m) emin) - p.mbits)

/-- A magnitude rounded to a floating-point format's values, ignoring its range. -/
def FpFmt.round (p : FpFmt) (m : Rat) (mode : Mode) : Rat := (roundN (m / p.step m) mode : Rat) * p.step m

/-- The bits of a magnitude that a format represents. -/
def FpFmt.bits (p : FpFmt) (neg : Bool) (m : Rat) : Nat :=
  let s := neg.toNat * 2 ^ (p.mbits + p.ebits)
  let emin : Int := 1 - (p.bias : Int)
  if m < pow2 emin then s + (m / pow2 (emin - p.mbits)).floor.toNat
  else
    let e := expo m
    s + (e + p.bias).toNat * 2 ^ p.mbits + ((m / pow2 (e - p.mbits)).floor.toNat - 2 ^ p.mbits)

/-- A quiet NaN of a wide format. -/
def FpFmt.qnan (p : FpFmt) (neg : Bool) : Nat :=
  neg.toNat * 2 ^ (p.mbits + p.ebits) + (2 ^ p.ebits - 1) * 2 ^ p.mbits + 2 ^ (p.mbits - 1)

/-- Infinity of a wide format. -/
def FpFmt.infBits (p : FpFmt) (neg : Bool) : Nat := neg.toNat * 2 ^ (p.mbits + p.ebits) + (2 ^ p.ebits - 1) * 2 ^ p.mbits

/-- Convert a value to a format (R357, R358, Table 8.2). -/
def convFmt (f : Nat) (mode : Mode) (v : Val) : Nat :=
  if isFp f then
    let p := fpFmt f
    match v with
    | .nan n => if p.wide then p.qnan n else if f = 4 then n.toNat * 128 + 0x7F else if f = 3 then n.toNat * 128 + 0x7F else 0
    | .inf n => if p.wide then p.infBits n else p.bits n p.fmax
    | .fin n m =>
      let r := p.round m mode
      if p.fmax < r then (if p.wide then p.infBits n else p.bits n p.fmax) else p.bits n r
  else
    let w := fmtWidth f
    let top := (fmaxOf f).floor.toNat
    match v with
    | .nan _ => 0
    | .inf n => if isUint f then (if n then 0 else top) else if n then 2 ^ w - top else top
    | .fin n m =>
      let r := min (roundN m mode) top
      if n then (if isUint f ∨ r = 0 then 0 else 2 ^ w - r) else r
where
  /-- Bits of an integer format. -/
  fmtWidth : Nat → Nat
    | 8 => 16 | 9 => 8 | 10 => 4 | 11 => 8 | _ => 16

/-! ## FP32 arithmetic (R359) -/

/-- The NaN that operations produce: 0x7FC0_0000. -/
def qNaN : Val := .nan false

/-- An exact number rounded to FP32, with the sign its zero takes. -/
def f32Of (neg0 : Bool) (q : Rat) : Val :=
  let p := fpFmt 0
  let m := if q < 0 then -q else q
  let r := p.round m .rne
  let n := if q = 0 then neg0 else decide (q < 0)
  if p.fmax < r then .inf n else .fin n r

/-- FP32 bits of a value. -/
def f32Bits (v : Val) : Nat := convFmt 0 .rne v

/-- The value of FP32 bits. -/
def f32 (b : Nat) : Val := decodeFmt 0 b

/-- Negation. -/
def fNeg : Val → Val
  | .nan _ => qNaN
  | .inf n => .inf (!n)
  | .fin n m => .fin (!n) m

/-- Absolute value. -/
def fAbs : Val → Val
  | .nan _ => qNaN
  | .inf _ => .inf false
  | .fin _ m => .fin false m

/-- Exact sum, before rounding: a special value, or a number with the sign of a zero result. -/
def exAdd (a b : Val) : Val ⊕ (Bool × Rat) :=
  match a, b with
  | .fin na ma, .fin nb mb => .inr (na && nb, (Val.fin na ma).toRat + (Val.fin nb mb).toRat)
  | .inf na, .inf nb => .inl (if na = nb then .inf na else qNaN)
  | .inf na, .fin _ _ => .inl (.inf na)
  | .fin _ _, .inf nb => .inl (.inf nb)
  | _, _ => .inl qNaN

/-- FP32 sum. -/
def fAdd (a b : Val) : Val := match exAdd a b with | .inl v => v | .inr (z, q) => f32Of z q

/-- FP32 difference. -/
def fSub (a b : Val) : Val := match b with | .nan _ => qNaN | _ => fAdd a (fNeg b)

/-- The exact product, unrounded. -/
def exMul (a b : Val) : Val :=
  match a, b with
  | .fin na ma, .fin nb mb => .fin (na != nb) (ma * mb)
  | .inf na, .inf nb => .inf (na != nb)
  | .inf na, .fin nb mb => if mb = 0 then qNaN else .inf (na != nb)
  | .fin na ma, .inf nb => if ma = 0 then qNaN else .inf (na != nb)
  | _, _ => qNaN

/-- Round an exact value to FP32. -/
def toF32 : Val → Val
  | .fin n m => f32Of n (Val.fin n m).toRat
  | .inf n => .inf n
  | .nan _ => qNaN

/-- FP32 product. -/
def fMul (a b : Val) : Val := toF32 (exMul a b)

/-- FP32 fused multiply-add. -/
def fFma (a b c : Val) : Val := fAddX (exMul a b) c
where
  /-- A sum of exact values, rounded once. -/
  fAddX (x y : Val) : Val := match exAdd x y with | .inl v => v | .inr (z, q) => f32Of z q

/-- FP32 quotient. -/
def fDiv (a b : Val) : Val :=
  match a, b with
  | .fin na ma, .fin nb mb =>
    if mb = 0 then (if ma = 0 then qNaN else .inf (na != nb))
    else f32Of (na != nb) ((Val.fin na ma).toRat / (Val.fin nb mb).toRat)
  | .inf na, .fin nb _ => .inf (na != nb)
  | .fin na _, .inf nb => .fin (na != nb) 0
  | _, _ => qNaN

/-- The square root of a non-negative number, rounded to nearest FP32. -/
def sqrtQ (q : Rat) : Rat :=
  if q = 0 then 0
  else
    let e := expo q / 2
    let st := pow2 (e - 23)
    let n := (q / (st * st)).floor.toNat.sqrt
    let h := ((n : Rat) + 1 / 2) * st
    if h * h < q then ((n + 1 : Nat) : Rat) * st else (n : Rat) * st

/-- FP32 square root. -/
def fSqrt : Val → Val
  | .nan _ => qNaN
  | .inf n => if n then qNaN else .inf false
  | .fin n m => if m = 0 then .fin n 0 else if n then qNaN else .fin false (sqrtQ m)

/-- Ordering of values that are not NaN; a negative zero is below a positive one. -/
def fLt (a b : Val) : Bool :=
  match a, b with
  | .inf n, .inf k => n && !k
  | .inf n, .fin _ _ => n
  | .fin _ _, .inf k => !k
  | .fin n m, .fin k l =>
    if m = 0 ∧ l = 0 then n && !k else decide ((Val.fin n m).toRat < (Val.fin k l).toRat)
  | _, _ => false

/-- FP32 maximum: a NaN input gives NaN. -/
def fMax (a b : Val) : Val := if a.isNan || b.isNan then qNaN else if fLt a b then b else a

/-- FP32 minimum: a NaN input gives NaN. -/
def fMin (a b : Val) : Val := if a.isNan || b.isNan then qNaN else if fLt b a then b else a

/-- a is greater than b as a number; false with a NaN (IEEE comparison). -/
def fGt (a b : Val) : Bool :=
  match a, b with
  | .fin n m, .fin k l => decide ((Val.fin k l).toRat < (Val.fin n m).toRat)
  | a, b => fLt b a

/-- A result that the device gives within a bound of the exact one: the FP32 pattern it produced where that lies within the
bound, the correctly rounded result otherwise (R388); zneg is the sign that IEEE 754 gives a zero here (R354). -/
def within (zneg : Bool) (exact bound : Rat) (bits : Nat) : Val :=
  match f32 bits with
  | .fin n m =>
    let d := (Val.fin n m).toRat - exact
    if d ≤ bound ∧ -bound ≤ d then .fin (if m = 0 then zneg else n) m else f32Of zneg exact
  | _ => f32Of zneg exact

/-- The device's own FP32 pattern where no rule states a result: any number, infinity, or the NaN that operations produce (R359). -/
def openV (bits : Nat) : Val := if (f32 bits).isNan then qNaN else f32 bits

/-- A value is one of a format's, ignoring its range (R360). -/
def represents (f : Nat) : Val → Bool
  | .fin _ m => if isFp f then (m / (fpFmt f).step m).den == 1 else m.den == 1
  | _ => true

/-- The bits of a value that a format holds; for the others as convFmt. -/
def exactFmt (f : Nat) (v : Val) : Nat :=
  match v with
  | .fin n m =>
    if isFp f then (fpFmt f).bits n m
    else if n ∧ m ≠ 0 then 2 ^ convFmt.fmtWidth f - m.floor.toNat else m.floor.toNat
  | .inf n => if f = 4 then n.toNat * 128 + 0x7C else convFmt f .rne v
  | .nan _ => convFmt f .rne v

/-- The unit roundoff u of Table 8.4. -/
def uRnd : Rat := pow2 (-24)

/-- A magnitude of a rational. -/
def absQ (q : Rat) : Rat := if q < 0 then -q else q

end Sys2Proof.Machine
end

