-- ==== Sys2Proof/Config.lean ====
section
/-! DEFINITION. What an implementation fixes and what the spec leaves open: constants and functions without a body.
Nothing can be proved about their values, so a statement holds whatever they are. -/

namespace Sys2Proof.Config

open Sys2Proof

/-- CV648-D96-E (true) or CV648-D48-E (false), R1, R836. -/
opaque isD96 : Bool

/-- GLB_UID0: low word of the device serial, fixed at manufacture (Table 18.6). -/
opaque uid0 : W64

/-- GLB_UID1: high word of the device serial (Table 18.6). -/
opaque uid1 : W64

/-- The cluster offset of the 64-byte record copies (R240): the spec names no address. -/
opaque recordBase : Nat

/-- A free value of the given width class: applied to the state's counter and an index. -/
opaque freeByte : Nat → Nat → Byte

/-- A free FP32 pattern: applied to the state's counter and an element index. -/
opaque freeFp : Nat → Nat → BitVec 32

/-- The order in which a unit's conversions take its draws (R361: it is not defined): which of the draws not yet taken comes next. -/
opaque drawOrder : Nat → Nat → Nat

/-- How many draws the failed attempts of a piece took from their unit's LFSR: state's counter, first row. -/
opaque failDraws : Nat → Nat → Nat

/-- The time that a Pepper engine took for a row of PP.STREAM, in core cycles (R229; no command carries it): state's counter, row. -/
opaque rowTime : Nat → Nat → Nat

/-- The code lengths a compressor chose among the least-cost prefix codes (R531, item 5). -/
opaque codeLengths : Nat → List Nat → List Nat

/-- SHAKE256 of FIPS 202 with a 256-bit output, as 32 bytes. -/
opaque shake256 : List Byte → List Byte

/-- KMAC256(K, X, L bits, S) of SP 800-185. -/
opaque kmac256 : List Byte → List Byte → Nat → String → List Byte

/-- SLH-DSA verification of FIPS 205: parameter set s (true) or f, public key, message, context, signature. -/
opaque slhVerify : Bool → List Byte → List Byte → String → List Byte → Bool

/-- SLH-DSA-SHAKE-256f signature by the identity key, with hedged randomness. -/
opaque slhSign : List Byte → List Byte → String → List Byte → List Byte

/-- SLH-DSA-SHAKE-256f public key generated from the three seeds. -/
opaque slhPublic : List Byte → List Byte

/-- AES-256-GCM seal: key, IV, additional data, plaintext; ciphertext and 16-byte tag. -/
opaque gcmSeal : List Byte → List Byte → List Byte → List Byte → List Byte × List Byte

/-- AES-256-GCM open: key, IV, additional data, ciphertext, tag; the plaintext when the tag passes. -/
opaque gcmOpen : List Byte → List Byte → List Byte → List Byte → List Byte → Option (List Byte)

/-- The output of the trust unit's random generator (R709), by the number of outputs drawn: 32 bytes. -/
opaque random : Nat → List Byte

/-- The device root reconstructed from the PUF and the helper data (R707). -/
opaque pufRoot : List Byte → List Byte

/-- The helper data written at enrolment (R707): 4 KiB. -/
opaque helperData : List Byte

/-- The digest of mask ROM (Table 16.4, ROMDIG). -/
opaque romDigest : List Byte

/-- The digest of the vendor root key held in mask ROM (R727). -/
opaque vendorRootDigest : List Byte

/-- A configuration-space dword that the spec does not name (the PCI Express standard's): function, dword. -/
opaque cfgDword : Nat → Nat → BitVec 32

/-- The dword of configuration space that holds the MSI-X control word (the standard's capability placement). -/
opaque msixDword : Nat

/-- The boundary register of the test access port: the cells of the device's functions (IEEE 1149.1). -/
opaque boundaryCells : Nat → Nat

/-- The tier directory entries of the fallback objects of a model-table entry: partition, entry index (R141 names the
objects, no rule says how the device finds their entries). -/
opaque fbObjects : Nat → Nat → List Nat

end Sys2Proof.Config
end

