-- ==== Sys2Proof/Machine/RegMap.lean ====
section
/-! DEFINITION. The register map: every register of the spec's register tables, its offset in the register region (R798,
R799), the repeated indices, its reset value, its writable and write-1-to-clear bits.
An offset is a byte offset from 0x7F00_0000_0000. -/

namespace Sys2Proof.Machine

open Sys2Proof

/-- The registers, by name (an indexed register is one name). -/
inductive RegId where
  | ptbAxCfg | ptbAxCnt | ptbAxVel | ptbAxVcfg | ptbAxStat | ptbAxZlat | ptbAxZload | ptbSlotCtl | ptbSlotTgt
  | ptbSlotStep | ptbSlotStat | ptbOutCfg | ptbOutStat | ptbPartScan | ptbBcastCfg | ptbLinkoff | ptbTime | ptbWake
  | ingCamCfg | ingCamOut | ingCamLat | ingCamFire | ingCalCfg | ingCalTgt | ingCalBnd | ingCalSrc | ingCalCtl
  | ingCalStat | ingBgLo | ingBgHi | ingRingBase | ingRingCfg | ingRingProd | ingRingCons0 | ingRingCons1
  | ingRingStat | cxpConCfg | cxpConStat | cxpCamCfg | cxpCamTrig | cxpCamCtl | cxpCamStat | cxpCamRxptr
  | cxpCamEvptr | cxpCtx | cxpCrx | cxpCev | jesCfg | jesLat | jesStat | jesLaneStat | vdlPartCfg | vdlPartBudget
  | vdlPartMtab | vdlPartQ | vdlPartStat | vdlRingBase | vdlRingCfg | vdlRingPaddr | vdlRingCaddr | vdlRingPidx
  | vdlRingStat | vdlHeld | schCfg | schOvr | schCtxStat | schSemCfg | schSemStat | schGsemCfg | schGsemStat
  | schAccA | schAccB | schAccC | dlmPartCfg | dlmPartEst | dlmPartWq | dlmCluStat | dlmDevStat | mtTileStat
  | mtTileCnt | ppEngCfg | ppEngStat | ppEngCur | ppEngCnt | awPartEpoch | awPartSafe | awPartTree | awPartTpoolBase
  | awPartTpoolRec | awPartTpoolCfg | awPartTalloc | awPartTfree | awPartTstat | awPartPoolBase | awPartPoolRec
  | awPartPoolCfg | awPartPoolAlloc | awPartPoolFree | awPartPoolStat | awStat | awCnt0 | awCnt1 | awBkt | sqStat
  | sqCnt | sqStrCfg | sqStrLive | sqStrBack | sqStrStat | cxStat | cxCnt0 | cxCnt1 | cxLast | memCfg | memStat
  | memRotCfg | memRotStat | memScrubCfg | memScrubCmd | memScrubStat | memSramclr | memTagerr | memTdunpin | memSlot
  | memChCfg | memChStat | memChCnt0 | memChCnt1 | memGen | dmMvStat | dmMvCnt | dmRes | fabCfg | fabDrop | fabE2e
  | fabRt | fabPortCfg | fabPortStat | fabPortCnt0 | fabPortCnt1 | fabPortLane | fabPartEpoch | fabPartStat
  | fabPartCtr | fabPartDom | fabPartImpBase | fabPartImpSize | fabPartImpLocal | pciLink | pciRqCmd | pciRqStat
  | pciEvpost | pciFnWin | pciFnHwbase | pciFnRqbase | pciFnRqcfg | pciFnRqmir | pciFnEvbase | pciFnEvcfg
  | pciFnEvpaddr | pciFnEvcaddr | pciFnEvpidx | pciFnStat | hltStat | hltCfg | hltSummary | hltCkptint | hltSramsp
  | hltSramsus | hltKindThr | hltKindRet | hltKindSus | hltKindCnt | hltWdog | hltWdkick | hltScctl | hltScstat
  | hltScthr | errHead | errCnt | errPevt | errRec | truStat | truCmd | truCmdstat | truCfgseq | truIdpk | truRecov
  | truNonce | truAttctl | truAttstat | truPartCfg | truPartCtl | truPartStat | truPartDreg | truPartHtag
  | truCluStat | truPwrview | truDbgchal | truDbgctl | truDbgstat | truReport | truLog | truCfgview | truToken
  | pmuStat | pmuSleep | pmuSleepstat | pmuLastwake | pmuWakeen | pmuWakepend | pmuGpiowake | pmuAontime | pmuAoncmp
  | pmuResume | pmuRstctl | pmuRststat | pmuVrcfg | pmuTherm | pmuDramctl | pmuPwr | pmuCluCtl | pmuCluStat
  | pmuTelRail | pmuTelClu | clkLive | clkLock | clkSel | clkStat | glbId | glbUid0 | glbUid1 | glbRomver | glbClumap
  | glbSegPa | glbSegTa | glbSegCfg | glbSegerr | cluStat | cluBasepc | cluBasectl | veEngStat | veEngCnt
  | pmuGpioDir | pmuGpioOut | pmuGpioIn | pmuGpioOd
  deriving DecidableEq, Repr

/-- One row: the name, the offset of its first register, the repeated indices (stride, count, first index), the reset value,
the bits a write sets, the bits that writing 1 clears. -/
structure RegRow where
  id : RegId
  base : Nat
  dims : List (Nat × Nat × Nat)
  reset : W64
  rw : W64
  w1c : W64
  deriving DecidableEq, Repr

/-- Registers of block 0x00 (Table 18.3). -/
def rows00 : List RegRow :=
  [⟨.glbId, 0x0, [], 0x1EA70648A1604500, 0x0, 0x0⟩,
   ⟨.glbUid0, 0x8, [], 0x0, 0x0, 0x0⟩,
   ⟨.glbUid1, 0x10, [], 0x0, 0x0, 0x0⟩,
   ⟨.glbRomver, 0x18, [], 0x10000, 0x0, 0x0⟩,
   ⟨.glbClumap, 0x100, [], 0x0, 0x0, 0x0⟩,
   ⟨.glbSegPa, 0x1000, [(0x800, 4, 1), (0x20, 32, 0)], 0x0, 0xFFFFFFFF0000, 0x0⟩,
   ⟨.glbSegTa, 0x1008, [(0x800, 4, 1), (0x20, 32, 0)], 0x0, 0xFFFFFFFF0000, 0x0⟩,
   ⟨.glbSegCfg, 0x1010, [(0x800, 4, 1), (0x20, 32, 0)], 0x0, 0xF01FFFFFF, 0x0⟩,
   ⟨.glbSegerr, 0x3000, [(0x8, 4, 1)], 0x0, 0x0, 0x10100⟩]

/-- Registers of block 0x01 (Table 18.3). -/
def rows01 : List RegRow :=
  [⟨.clkLive, 0x100000, [], 0x0, 0x0, 0x0⟩,
   ⟨.clkLock, 0x100008, [], 0x0, 0x0, 0x0⟩,
   ⟨.clkSel, 0x100010, [], 0x0, 0xFFFF, 0x0⟩,
   ⟨.clkStat, 0x100018, [], 0x0, 0x0, 0x1⟩]

/-- Registers of block 0x02 (Table 18.3). -/
def rows02 : List RegRow :=
  [⟨.ptbAxCfg, 0x200000, [(0x40, 4, 0)], 0x0, 0x3FF, 0x0⟩,
   ⟨.ptbAxCnt, 0x200008, [(0x40, 4, 0)], 0x0, 0xFFFFFFFFFFFF, 0x0⟩,
   ⟨.ptbAxVel, 0x200010, [(0x40, 4, 0)], 0x0, 0x0, 0x0⟩,
   ⟨.ptbAxVcfg, 0x200018, [(0x40, 4, 0)], 0x4003E80000, 0xFFFFFFFF0077, 0x0⟩,
   ⟨.ptbAxStat, 0x200020, [(0x40, 4, 0)], 0x2, 0x0, 0xF8⟩,
   ⟨.ptbAxZlat, 0x200028, [(0x40, 4, 0)], 0x0, 0x0, 0x0⟩,
   ⟨.ptbAxZload, 0x200030, [(0x40, 4, 0)], 0x0, 0xFFFFFFFFFFFF, 0x0⟩,
   ⟨.ptbSlotCtl, 0x201000, [(0x20, 64, 0)], 0x0, 0x7FFFFFFFF0003FD, 0x0⟩,
   ⟨.ptbSlotTgt, 0x201008, [(0x20, 64, 0)], 0x0, 0xFFFFFFFFFFFFFFFF, 0x0⟩,
   ⟨.ptbSlotStep, 0x201010, [(0x20, 64, 0)], 0x0, 0xFFFFFFFFFFFFFFFF, 0x0⟩,
   ⟨.ptbSlotStat, 0x201018, [(0x20, 64, 0)], 0x0, 0x0, 0xE00000000⟩,
   ⟨.ptbOutCfg, 0x202000, [(0x10, 12, 0)], 0x10000, 0x3FFFFFFFFF, 0x0⟩,
   ⟨.ptbOutStat, 0x202008, [(0x10, 12, 0)], 0x0, 0x0, 0x0⟩,
   ⟨.ptbPartScan, 0x203010, [(0x10, 4, 1)], 0x3E80000, 0xFFFF0003, 0x0⟩,
   ⟨.ptbBcastCfg, 0x203100, [], 0x100, 0x7FF0F, 0x0⟩,
   ⟨.ptbLinkoff, 0x203200, [(0x8, 4, 0)], 0x0, 0x0, 0x0⟩,
   ⟨.ptbTime, 0x203300, [], 0x0, 0x0, 0x0⟩,
   ⟨.ptbWake, 0x203400, [], 0x0, 0xF, 0x0⟩]

/-- Registers of block 0x03 (Table 18.3). -/
def rows03 : List RegRow :=
  [⟨.ingCamCfg, 0x300000, [(0x40, 4, 0)], 0x1400000000, 0xFF000FC001, 0x0⟩,
   ⟨.ingCamOut, 0x300008, [(0x40, 4, 0)], 0xB00, 0x1F0F, 0x0⟩,
   ⟨.ingCamLat, 0x300010, [(0x40, 4, 0)], 0x0, 0xFFFF, 0x0⟩,
   ⟨.ingCamFire, 0x300018, [(0x40, 4, 0)], 0x0, 0x0, 0x0⟩,
   ⟨.ingCalCfg, 0x300800, [(0x40, 8, 0)], 0x40010000405000, 0xFFFFFFFFFFFFFFF0, 0x0⟩,
   ⟨.ingCalTgt, 0x300808, [(0x40, 8, 0)], 0x0, 0xFFFFFFFF, 0x0⟩,
   ⟨.ingCalBnd, 0x300810, [(0x40, 8, 0)], 0x0, 0xFFFF007FFFFF, 0x0⟩,
   ⟨.ingCalSrc, 0x300818, [(0x40, 8, 0)], 0x0, 0xFFFFFFFFFFC0, 0x0⟩,
   ⟨.ingCalCtl, 0x300820, [(0x40, 8, 0)], 0x0, 0x4, 0x0⟩,
   ⟨.ingCalStat, 0x300828, [(0x40, 8, 0)], 0x0, 0x0, 0x1000000000000⟩,
   ⟨.ingBgLo, 0x301000, [(0x100, 4, 0), (0x10, 16, 0)], 0x0, 0xFFFFFFFFFFFF, 0x0⟩,
   ⟨.ingBgHi, 0x301008, [(0x100, 4, 0), (0x10, 16, 0)], 0x0, 0x8000FFFFFFFFFFFF, 0x0⟩,
   ⟨.ingRingBase, 0x302000, [(0x40, 9, 0)], 0x0, 0xFFFFFFFFFFFF, 0x0⟩,
   ⟨.ingRingCfg, 0x302008, [(0x40, 9, 0)], 0x0, 0x31F, 0x0⟩,
   ⟨.ingRingProd, 0x302010, [(0x40, 9, 0)], 0x0, 0x0, 0x0⟩,
   ⟨.ingRingCons0, 0x302018, [(0x40, 9, 0)], 0x0, 0x7FFFFF, 0x0⟩,
   ⟨.ingRingCons1, 0x302020, [(0x40, 9, 0)], 0x0, 0x7FFFFF, 0x0⟩,
   ⟨.ingRingStat, 0x302028, [(0x40, 9, 0)], 0x0, 0x0, 0x0⟩]

/-- Registers of block 0x04 (Table 18.3). -/
def rows04 : List RegRow :=
  [⟨.cxpConCfg, 0x400000, [(0x20, 8, 0)], 0x0, 0xF03, 0x0⟩,
   ⟨.cxpConStat, 0x400008, [(0x20, 8, 0)], 0x0, 0x0, 0x0⟩,
   ⟨.cxpCamCfg, 0x401000, [(0x40, 4, 0)], 0x0, 0x73FF007F, 0x0⟩,
   ⟨.cxpCamTrig, 0x401008, [(0x40, 4, 0)], 0x0, 0xFFFF, 0x0⟩,
   ⟨.cxpCamCtl, 0x401010, [(0x40, 4, 0)], 0x0, 0x1FFF0000, 0x0⟩,
   ⟨.cxpCamStat, 0x401018, [(0x40, 4, 0)], 0x0, 0x0, 0x1E⟩,
   ⟨.cxpCamRxptr, 0x401020, [(0x40, 4, 0)], 0x0, 0xFFF0000, 0x0⟩,
   ⟨.cxpCamEvptr, 0x401028, [(0x40, 4, 0)], 0x0, 0xFFF0000, 0x0⟩,
   ⟨.cxpCtx, 0x404000, [(0x1000, 4, 0), (0x8, 512, 0)], 0x0, 0x0, 0x0⟩,
   ⟨.cxpCrx, 0x408000, [(0x1000, 4, 0), (0x8, 512, 0)], 0x0, 0x0, 0x0⟩,
   ⟨.cxpCev, 0x40C000, [(0x1000, 4, 0), (0x8, 512, 0)], 0x0, 0x0, 0x0⟩]

/-- Registers of block 0x05 (Table 18.3). -/
def rows05 : List RegRow :=
  [⟨.jesCfg, 0x500000, [], 0x200000000000, 0x7FFFFFFFFFFFF01, 0x0⟩,
   ⟨.jesLat, 0x500008, [], 0x0, 0xFFFF, 0x0⟩,
   ⟨.jesStat, 0x500010, [], 0x0, 0x0, 0xC⟩,
   ⟨.jesLaneStat, 0x500100, [(0x10, 4, 0)], 0x0, 0x0, 0x0⟩]

/-- Registers of block 0x06 (Table 18.3). -/
def rows06 : List RegRow :=
  [⟨.vdlPartCfg, 0x600000, [(0x80, 4, 1)], 0xFF00, 0x1FFF0000FF01, 0x0⟩,
   ⟨.vdlPartBudget, 0x600008, [(0x80, 4, 1)], 0x3E801F4007D000C8, 0xFFFFFFFFFFFFFFFF, 0x0⟩,
   ⟨.vdlPartMtab, 0x600010, [(0x80, 4, 1)], 0x0, 0xFFFFFFFFFFC0, 0x0⟩,
   ⟨.vdlPartQ, 0x600020, [(0x80, 4, 1), (0x8, 4, 0)], 0x0, 0xFFFFFFFFFFFFF, 0x0⟩,
   ⟨.vdlPartStat, 0x600040, [(0x80, 4, 1)], 0x0, 0x0, 0x0⟩,
   ⟨.vdlRingBase, 0x601000, [(0x40, 8, 0)], 0x0, 0xFFFFFFFFFFFFF000, 0x0⟩,
   ⟨.vdlRingCfg, 0x601008, [(0x40, 8, 0)], 0x600, 0xFFFC7C1F0F, 0x0⟩,
   ⟨.vdlRingPaddr, 0x601010, [(0x40, 8, 0)], 0x0, 0xFFFFFFFFFFFFFFF8, 0x0⟩,
   ⟨.vdlRingCaddr, 0x601018, [(0x40, 8, 0)], 0x0, 0xFFFFFFFFFFFFFFF8, 0x0⟩,
   ⟨.vdlRingPidx, 0x601020, [(0x40, 8, 0)], 0x0, 0x0, 0x0⟩,
   ⟨.vdlRingStat, 0x601028, [(0x40, 8, 0)], 0x0, 0x0, 0x4⟩,
   ⟨.vdlHeld, 0x602000, [], 0x0, 0x0, 0x0⟩]

/-- Registers of block 0x07 (Table 18.3). -/
def rows07 : List RegRow :=
  [⟨.schGsemCfg, 0x700000, [(0x10, 64, 0)], 0x3E8000000000000, 0xFFFF0F0000000000, 0x0⟩,
   ⟨.schGsemStat, 0x700008, [(0x10, 64, 0)], 0xC00001, 0x0, 0x0⟩,
   ⟨.schAccA, 0x701000, [(0x800, 4, 1), (0x20, 64, 0)], 0x0, 0x0, 0x0⟩,
   ⟨.schAccB, 0x701008, [(0x800, 4, 1), (0x20, 64, 0)], 0x0, 0x0, 0x0⟩,
   ⟨.schAccC, 0x701010, [(0x800, 4, 1), (0x20, 64, 0)], 0x0, 0x0, 0x0⟩]

/-- Registers of block 0x08 (Table 18.3). -/
def rows08 : List RegRow :=
  [⟨.dlmPartCfg, 0x800000, [(0x400, 4, 1)], 0x32004003000001, 0xFFFF00F007000001, 0x0⟩,
   ⟨.dlmPartEst, 0x800100, [(0x400, 4, 1), (0x8, 64, 0)], 0x0, 0x0, 0x0⟩,
   ⟨.dlmPartWq, 0x800300, [(0x400, 4, 1), (0x8, 4, 0)], 0x0, 0x0, 0x0⟩,
   ⟨.dlmCluStat, 0x801000, [(0x8, 6, 0)], 0x0, 0x0, 0x0⟩,
   ⟨.dlmDevStat, 0x801100, [], 0x0, 0x0, 0x0⟩]

/-- Registers of block 0x09 (Table 18.3). -/
def rows09 : List RegRow :=
  [⟨.awPartEpoch, 0x900000, [(0x800, 4, 1)], 0x1, 0x0, 0x0⟩,
   ⟨.awPartSafe, 0x900008, [(0x800, 4, 1)], 0x1, 0x0, 0x0⟩,
   ⟨.awPartTree, 0x900010, [(0x800, 4, 1)], 0x0, 0xFFFFFFFFFFC0, 0x0⟩,
   ⟨.awPartTpoolBase, 0x900020, [(0x800, 4, 1)], 0x0, 0xFFFFFFFFFFC0, 0x0⟩,
   ⟨.awPartTpoolRec, 0x900028, [(0x800, 4, 1)], 0x0, 0xFFFFFFFFFFC0, 0x0⟩,
   ⟨.awPartTpoolCfg, 0x900030, [(0x800, 4, 1)], 0x0, 0x80FFFFFF, 0x0⟩,
   ⟨.awPartTalloc, 0x900038, [(0x800, 4, 1)], 0x0, 0x0, 0x0⟩,
   ⟨.awPartTfree, 0x900040, [(0x800, 4, 1)], 0x0, 0x0, 0x0⟩,
   ⟨.awPartTstat, 0x900048, [(0x800, 4, 1)], 0x0, 0x0, 0x1⟩,
   ⟨.awPartPoolBase, 0x900100, [(0x800, 4, 1), (0x40, 9, 0)], 0x0, 0xFFFFFFFFF000, 0x0⟩,
   ⟨.awPartPoolRec, 0x900108, [(0x800, 4, 1), (0x40, 9, 0)], 0x0, 0xFFFFFFFFFFC0, 0x0⟩,
   ⟨.awPartPoolCfg, 0x900110, [(0x800, 4, 1), (0x40, 9, 0)], 0x0, 0x80FFFFFF, 0x0⟩,
   ⟨.awPartPoolAlloc, 0x900118, [(0x800, 4, 1), (0x40, 9, 0)], 0x0, 0x0, 0x0⟩,
   ⟨.awPartPoolFree, 0x900120, [(0x800, 4, 1), (0x40, 9, 0)], 0x0, 0x0, 0x0⟩,
   ⟨.awPartPoolStat, 0x900128, [(0x800, 4, 1), (0x40, 9, 0)], 0x0, 0x0, 0x1⟩]

/-- Registers of block 0x0A (Table 18.3). -/
def rows0A : List RegRow :=
  [⟨.ppEngCfg, 0xA00000, [(0x100, 2, 0)], 0x0, 0xF, 0x0⟩,
   ⟨.ppEngStat, 0xA00008, [(0x100, 2, 0)], 0x1, 0x0, 0x18⟩,
   ⟨.ppEngCur, 0xA00010, [(0x100, 2, 0)], 0x0, 0x0, 0x0⟩,
   ⟨.ppEngCnt, 0xA00018, [(0x100, 2, 0)], 0x0, 0x0, 0x0⟩]

/-- Registers of block 0x0B (Table 18.3). -/
def rows0B : List RegRow :=
  [⟨.memCfg, 0xB00000, [], 0x0, 0x3, 0x0⟩,
   ⟨.memStat, 0xB00008, [], 0x0, 0x0, 0x8⟩,
   ⟨.memRotCfg, 0xB00010, [], 0x12C00000006, 0xFFFF0000000F, 0x0⟩,
   ⟨.memRotStat, 0xB00018, [], 0x0, 0x0, 0x0⟩,
   ⟨.memScrubCfg, 0xB00020, [], 0x1804, 0xFF1F, 0x0⟩,
   ⟨.memScrubCmd, 0xB00028, [], 0x0, 0x0, 0x0⟩,
   ⟨.memScrubStat, 0xB00030, [], 0x0, 0x0, 0x0⟩,
   ⟨.memSramclr, 0xB00038, [], 0x0, 0xFFFFFFFFFFFFFFFF, 0x0⟩,
   ⟨.memTagerr, 0xB00040, [], 0x0, 0x0, 0x0⟩,
   ⟨.memTdunpin, 0xB00048, [], 0x0, 0x0, 0x0⟩,
   ⟨.memSlot, 0xB00100, [(0x8, 24, 0)], 0x0, 0x3F, 0x0⟩,
   ⟨.memChCfg, 0xB00200, [(0x20, 26, 0)], 0x0, 0x7, 0x0⟩,
   ⟨.memChStat, 0xB00208, [(0x20, 26, 0)], 0x0, 0x0, 0x0⟩,
   ⟨.memChCnt0, 0xB00210, [(0x20, 26, 0)], 0x0, 0x0, 0x0⟩,
   ⟨.memChCnt1, 0xB00218, [(0x20, 26, 0)], 0x0, 0x0, 0x0⟩,
   ⟨.memGen, 0xB01000, [(0x8, 384, 0)], 0x10001, 0x0, 0x0⟩]

/-- Registers of block 0x0C (Table 18.3). -/
def rows0C : List RegRow :=
  [⟨.pciLink, 0xC00000, [], 0x0, 0x0, 0x0⟩,
   ⟨.pciRqCmd, 0xC00008, [], 0x0, 0x0, 0x0⟩,
   ⟨.pciRqStat, 0xC00010, [], 0x0, 0x0, 0x0⟩,
   ⟨.pciEvpost, 0xC00018, [], 0x0, 0x0, 0x0⟩,
   ⟨.pciFnWin, 0xC01000, [(0x100, 5, 0)], 0x0, 0xFFFC00000000, 0x0⟩,
   ⟨.pciFnHwbase, 0xC01008, [(0x100, 5, 0)], 0x0, 0xFFFFFFFFFFFFF000, 0x0⟩,
   ⟨.pciFnRqbase, 0xC01010, [(0x100, 5, 0)], 0x0, 0xFFFFFFFFFFFFFF00, 0x0⟩,
   ⟨.pciFnRqcfg, 0xC01018, [(0x100, 5, 0)], 0x0, 0x7FF0001, 0x0⟩,
   ⟨.pciFnRqmir, 0xC01020, [(0x100, 5, 0)], 0x0, 0xFFFFFFFFFFC0, 0x0⟩,
   ⟨.pciFnEvbase, 0xC01028, [(0x100, 5, 0)], 0x0, 0xFFFFFFFFFFFFF000, 0x0⟩,
   ⟨.pciFnEvcfg, 0xC01030, [(0x100, 5, 0)], 0x600, 0xFFFC001F01, 0x0⟩,
   ⟨.pciFnEvpaddr, 0xC01038, [(0x100, 5, 0)], 0x0, 0xFFFFFFFFFFFFFFF8, 0x0⟩,
   ⟨.pciFnEvcaddr, 0xC01040, [(0x100, 5, 0)], 0x0, 0xFFFFFFFFFFFFFFF8, 0x0⟩,
   ⟨.pciFnEvpidx, 0xC01048, [(0x100, 5, 0)], 0x0, 0x0, 0x0⟩,
   ⟨.pciFnStat, 0xC01050, [(0x100, 5, 0)], 0x0, 0x0, 0xE⟩]

/-- Registers of block 0x0D (Table 18.3). -/
def rows0D : List RegRow :=
  [⟨.truStat, 0xD00000, [], 0x0, 0x0, 0x0⟩,
   ⟨.truCmd, 0xD00008, [], 0x0, 0x0, 0x0⟩,
   ⟨.truCmdstat, 0xD00010, [], 0x0, 0x0, 0x100⟩,
   ⟨.truCfgseq, 0xD00018, [], 0x0, 0x0, 0x0⟩,
   ⟨.truIdpk, 0xD00020, [(0x8, 8, 0)], 0x0, 0x0, 0x0⟩,
   ⟨.truRecov, 0xD00060, [], 0x0, 0x0, 0x0⟩,
   ⟨.truNonce, 0xD00100, [(0x8, 4, 0)], 0x0, 0xFFFFFFFFFFFFFFFF, 0x0⟩,
   ⟨.truAttctl, 0xD00120, [], 0x0, 0x0, 0x0⟩,
   ⟨.truAttstat, 0xD00128, [], 0x0, 0x0, 0x0⟩,
   ⟨.truPartCfg, 0xD00200, [(0x40, 4, 1)], 0x0, 0x13F, 0x0⟩,
   ⟨.truPartCtl, 0xD00208, [(0x40, 4, 1)], 0x0, 0x0, 0x0⟩,
   ⟨.truPartStat, 0xD00210, [(0x40, 4, 1)], 0x0, 0x0, 0x100000000⟩,
   ⟨.truPartDreg, 0xD00218, [(0x40, 4, 1)], 0x0, 0x81FF01FF, 0x0⟩,
   ⟨.truPartHtag, 0xD00220, [(0x40, 4, 1)], 0x0, 0xFFFFFFFFFFFFFFE0, 0x0⟩,
   ⟨.truCluStat, 0xD00400, [(0x8, 6, 0)], 0x0, 0x0, 0x0⟩,
   ⟨.truPwrview, 0xD00500, [], 0x0, 0x0, 0x0⟩,
   ⟨.truDbgchal, 0xD00600, [(0x8, 4, 0)], 0x0, 0x0, 0x0⟩,
   ⟨.truDbgctl, 0xD00620, [], 0x0, 0x0, 0x0⟩,
   ⟨.truDbgstat, 0xD00628, [], 0x0, 0x0, 0x0⟩,
   ⟨.truReport, 0xD10000, [(0x8, 8192, 0)], 0x0, 0x0, 0x0⟩] ++
  [⟨.truLog, 0xD20000, [(0x8, 4096, 0)], 0x0, 0x0, 0x0⟩,
   ⟨.truCfgview, 0xD30000, [(0x8, 8192, 0)], 0x0, 0x0, 0x0⟩,
   ⟨.truToken, 0xD40000, [(0x8, 4096, 0)], 0x0, 0x0, 0x0⟩]

/-- Registers of block 0x10 (Table 18.3). -/
def rows10 : List RegRow :=
  [⟨.pmuStat, 0x1000000, [], 0x0, 0x0, 0xC⟩,
   ⟨.pmuSleep, 0x1000008, [], 0x0, 0x0, 0x0⟩,
   ⟨.pmuSleepstat, 0x1000010, [], 0x0, 0x0, 0x0⟩,
   ⟨.pmuLastwake, 0x1000018, [], 0x0, 0x0, 0x0⟩,
   ⟨.pmuWakeen, 0x1000020, [], 0x3, 0x1FFF, 0x0⟩,
   ⟨.pmuWakepend, 0x1000028, [], 0x0, 0x0, 0x1FFF⟩,
   ⟨.pmuGpiowake, 0x1000030, [], 0x0, 0xFF, 0x0⟩,
   ⟨.pmuAontime, 0x1000038, [], 0x0, 0x0, 0x0⟩,
   ⟨.pmuAoncmp, 0x1000040, [], 0xFFFFFFFFFFFF, 0xFFFFFFFFFFFF, 0x0⟩,
   ⟨.pmuResume, 0x1000048, [], 0x0, 0x8000FFFFFFFFFFC0, 0x0⟩,
   ⟨.pmuRstctl, 0x1000050, [], 0x0, 0x0, 0x0⟩,
   ⟨.pmuRststat, 0x1000058, [], 0x0, 0x0, 0x0⟩,
   ⟨.pmuVrcfg, 0x1000060, [], 0x320032, 0xFF0700, 0x0⟩,
   ⟨.pmuTherm, 0x1000068, [], 0x100557300670003, 0x100FFFF00FF000F, 0x0⟩,
   ⟨.pmuDramctl, 0x1000070, [], 0x0, 0x0, 0x0⟩,
   ⟨.pmuPwr, 0x1000078, [], 0x0, 0x0, 0x0⟩,
   ⟨.pmuCluCtl, 0x1000100, [(0x20, 6, 0)], 0x100, 0x107, 0x0⟩,
   ⟨.pmuCluStat, 0x1000108, [(0x20, 6, 0)], 0x0, 0x0, 0x0⟩,
   ⟨.pmuTelRail, 0x1001000, [(0x8, 7, 0)], 0x0, 0x0, 0x0⟩,
   ⟨.pmuTelClu, 0x1001100, [(0x8, 6, 0)], 0x0, 0x0, 0x0⟩] ++
  [⟨.pmuGpioDir, 0x1000200, [], 0x0, 0xFFFF, 0x0⟩,
   ⟨.pmuGpioOut, 0x1000208, [], 0x0, 0xFFFF, 0x0⟩,
   ⟨.pmuGpioIn, 0x1000210, [], 0x0, 0x0, 0x0⟩,
   ⟨.pmuGpioOd, 0x1000218, [], 0x0, 0xFFFF, 0x0⟩]

/-- Registers of block 0x11 (Table 18.3). -/
def rows11 : List RegRow :=
  [⟨.hltStat, 0x1100000, [], 0x0, 0x0, 0xC⟩,
   ⟨.hltCfg, 0x1100008, [], 0x10001, 0x1FFFF, 0x0⟩,
   ⟨.hltSummary, 0x1100010, [], 0x0, 0x0, 0x0⟩,
   ⟨.hltCkptint, 0x1100018, [], 0x1E, 0xFFFF, 0x0⟩,
   ⟨.hltSramsp, 0x1100020, [], 0x0, 0x0, 0x0⟩,
   ⟨.hltSramsus, 0x1102000, [(0x8, 40, 0)], 0x0, 0x0, 0x0⟩,
   ⟨.hltKindThr, 0x1100120, [(0x20, 13, 1)], 0xE102004000F4240, 0xFFFFF0FFFFFFFFFF, 0x0⟩,
   ⟨.hltKindRet, 0x1100128, [(0x20, 13, 1)], 0x0, 0xFFFFFFFFFFFFFFFF, 0x0⟩,
   ⟨.hltKindSus, 0x1100130, [(0x20, 13, 1)], 0x0, 0x0, 0x0⟩,
   ⟨.hltKindCnt, 0x1100138, [(0x20, 13, 1)], 0x0, 0x0, 0x0⟩,
   ⟨.hltWdog, 0x1101000, [], 0x1000007D0, 0x10000FFFF, 0x0⟩,
   ⟨.hltWdkick, 0x1101008, [], 0x0, 0x0, 0x0⟩,
   ⟨.hltScctl, 0x1101010, [], 0x0, 0x0, 0x0⟩,
   ⟨.hltScstat, 0x1101018, [], 0x0, 0x0, 0x0⟩,
   ⟨.hltScthr, 0x1101020, [], 0x3E80003, 0xFFFF000F, 0x0⟩]

/-- Registers of block 0x12 (Table 18.3). -/
def rows12 : List RegRow :=
  [⟨.errHead, 0x1200000, [], 0x0, 0x0, 0x0⟩,
   ⟨.errCnt, 0x1200008, [], 0x0, 0x0, 0x0⟩,
   ⟨.errPevt, 0x1200010, [], 0x6, 0xF, 0x0⟩,
   ⟨.errRec, 0x1210000, [(0x40, 4096, 0), (0x8, 8, 0)], 0x0, 0x0, 0x0⟩]

/-- Registers of block 0x13 (Table 18.3). -/
def rows13 : List RegRow :=
  [⟨.fabCfg, 0x1300000, [], 0x7D0000000000000, 0xFFFF0FFF03FF01FF, 0x0⟩,
   ⟨.fabDrop, 0x1300008, [], 0x0, 0x0, 0x0⟩,
   ⟨.fabE2e, 0x1300010, [], 0x0, 0x0, 0x0⟩,
   ⟨.fabRt, 0x1300100, [(0x8, 13, 0)], 0x0, 0xFFFFFFFFFFFFFFFF, 0x0⟩,
   ⟨.fabPortCfg, 0x1301000, [(0x40, 4, 0)], 0x0, 0x3D, 0x0⟩,
   ⟨.fabPortStat, 0x1301008, [(0x40, 4, 0)], 0x300000000, 0x0, 0x80⟩,
   ⟨.fabPortCnt0, 0x1301010, [(0x40, 4, 0)], 0x0, 0x0, 0x0⟩,
   ⟨.fabPortCnt1, 0x1301018, [(0x40, 4, 0)], 0x0, 0x0, 0x0⟩,
   ⟨.fabPortLane, 0x1301020, [(0x40, 4, 0)], 0x0, 0x0, 0x0⟩,
   ⟨.fabPartEpoch, 0x1302000, [(0x100, 4, 1)], 0x1, 0x0, 0x0⟩,
   ⟨.fabPartStat, 0x1302008, [(0x100, 4, 1)], 0x0, 0x0, 0x3⟩,
   ⟨.fabPartCtr, 0x1302010, [(0x100, 4, 1)], 0x0, 0x0, 0x0⟩,
   ⟨.fabPartDom, 0x1302018, [(0x100, 4, 1)], 0x0, 0xFF, 0x0⟩,
   ⟨.fabPartImpBase, 0x1302040, [(0x100, 4, 1), (0x18, 8, 0)], 0x0, 0xE00000007FFF0000, 0x0⟩,
   ⟨.fabPartImpSize, 0x1302048, [(0x100, 4, 1), (0x18, 8, 0)], 0x0, 0xFFFF0000, 0x0⟩,
   ⟨.fabPartImpLocal, 0x1302050, [(0x100, 4, 1), (0x18, 8, 0)], 0x0, 0xFFFFFFFF0000, 0x0⟩]

/-- Registers of block 0x20 (Table 18.3) and of every cluster block. -/
def rows20 : List RegRow :=
  [⟨.schCfg, 0x2020000, [(0x100000, 6, 0)], 0xFA0100F000, 0xFFF03F0F0F1, 0x0⟩,
   ⟨.schOvr, 0x2020010, [(0x100000, 6, 0)], 0x0, 0x0, 0x0⟩,
   ⟨.schCtxStat, 0x2020100, [(0x100000, 6, 0), (0x8, 64, 0)], 0x0, 0x0, 0x0⟩,
   ⟨.schSemCfg, 0x2021000, [(0x100000, 6, 0), (0x10, 256, 0)], 0x3E8000000000000, 0xFFFF0F0000000000, 0x0⟩,
   ⟨.schSemStat, 0x2021008, [(0x100000, 6, 0), (0x10, 256, 0)], 0xC00001, 0x0, 0x0⟩,
   ⟨.mtTileStat, 0x2040000, [(0x100000, 6, 0), (0x20, 8, 0)], 0x1, 0x0, 0x0⟩,
   ⟨.mtTileCnt, 0x2040008, [(0x100000, 6, 0), (0x20, 8, 0)], 0x0, 0x0, 0x0⟩,
   ⟨.awStat, 0x2080000, [(0x100000, 6, 0)], 0xF1, 0x0, 0x0⟩,
   ⟨.awCnt0, 0x2080008, [(0x100000, 6, 0)], 0x0, 0x0, 0x0⟩,
   ⟨.awCnt1, 0x2080010, [(0x100000, 6, 0)], 0x0, 0x0, 0x0⟩,
   ⟨.awBkt, 0x2080100, [(0x100000, 6, 0), (0x8, 9, 0)], 0x0, 0x0, 0x0⟩,
   ⟨.sqStat, 0x20A0000, [(0x100000, 6, 0)], 0xF1, 0x0, 0x0⟩,
   ⟨.sqCnt, 0x20A0008, [(0x100000, 6, 0)], 0x0, 0x0, 0x0⟩,
   ⟨.sqStrCfg, 0x20A1000, [(0x100000, 6, 0), (0x20, 256, 0)], 0x0, 0x93F00FFF, 0x0⟩,
   ⟨.sqStrLive, 0x20A1008, [(0x100000, 6, 0), (0x20, 256, 0)], 0x0, 0xFFFFFFFFFFC0, 0x0⟩,
   ⟨.sqStrBack, 0x20A1010, [(0x100000, 6, 0), (0x20, 256, 0)], 0x0, 0xFFFFFFFFFFC0, 0x0⟩,
   ⟨.sqStrStat, 0x20A1018, [(0x100000, 6, 0), (0x20, 256, 0)], 0x0, 0x0, 0x10000000000⟩,
   ⟨.cxStat, 0x20C0000, [(0x100000, 6, 0)], 0xF1, 0x0, 0x8⟩,
   ⟨.cxCnt0, 0x20C0008, [(0x100000, 6, 0)], 0x0, 0x0, 0x0⟩,
   ⟨.cxCnt1, 0x20C0010, [(0x100000, 6, 0)], 0x0, 0x0, 0x0⟩] ++
  [⟨.cxLast, 0x20C0018, [(0x100000, 6, 0)], 0x0, 0x0, 0x0⟩,
   ⟨.dmMvStat, 0x20E0000, [(0x100000, 6, 0), (0x20, 4, 0)], 0xF1, 0x0, 0x0⟩,
   ⟨.dmMvCnt, 0x20E0008, [(0x100000, 6, 0), (0x20, 4, 0)], 0x0, 0x0, 0x0⟩,
   ⟨.dmRes, 0x20E0080, [(0x100000, 6, 0)], 0x0, 0x0, 0x0⟩,
   ⟨.cluStat, 0x2000000, [(0x100000, 6, 0)], 0x100, 0x0, 0x0⟩,
   ⟨.cluBasepc, 0x2000008, [(0x100000, 6, 0)], 0x0, 0xFFFFFFFFFFFC, 0x0⟩,
   ⟨.cluBasectl, 0x2000010, [(0x100000, 6, 0)], 0x2, 0x1, 0x4⟩,
   ⟨.veEngStat, 0x2060000, [(0x100000, 6, 0), (0x20, 2, 0)], 0x1, 0x0, 0x0⟩,
   ⟨.veEngCnt, 0x2060008, [(0x100000, 6, 0), (0x20, 2, 0)], 0x0, 0x0, 0x0⟩]

/-- The rows of a block. -/
def blockRows (b : Nat) : List RegRow :=
  match b with
  | 0x00 => rows00
  | 0x01 => rows01
  | 0x02 => rows02
  | 0x03 => rows03
  | 0x04 => rows04
  | 0x05 => rows05
  | 0x06 => rows06
  | 0x07 => rows07
  | 0x08 => rows08
  | 0x09 => rows09
  | 0x0A => rows0A
  | 0x0B => rows0B
  | 0x0C => rows0C
  | 0x0D => rows0D
  | 0x10 => rows10
  | 0x11 => rows11
  | 0x12 => rows12
  | 0x13 => rows13
  | _ => if 0x20 ≤ b ∧ b < 0x26 then rows20 else []

/-- The indices of an offset rem from a row's first register, outermost first. -/
def dimIndex : List (Nat × Nat × Nat) → Nat → Option (List Nat)
  | [], 0 => some []
  | [], _ + 1 => none
  | (st, n, f) :: t, rem =>
    if rem / st < n then (dimIndex t (rem % st)).map (fun l => (rem / st + f) :: l) else none

/-- Find an offset in a list of rows. -/
def findRow : List RegRow → Nat → Option (RegRow × List Nat)
  | [], _ => none
  | r :: t, off =>
    if r.base ≤ off then
      match dimIndex r.dims (off - r.base) with
      | some ix => some (r, ix)
      | none => findRow t off
    else findRow t off

/-- The register at an offset, with its indices; none for a reserved offset (R801). -/
def locate (off : Nat) : Option (RegRow × List Nat) := findRow (blockRows (off / 0x100000)) off

/-- The first index of a register. -/
def ix0 (l : List Nat) : Nat := l.headD 0

/-- The second index of a register. -/
def ix1 (l : List Nat) : Nat := l.tail.headD 0

/-- Reset values that depend on the index or on the part: a slot names its channel, channels 24 and 25 are spares at reset,
the part's capacity and serial number. -/
def resetOf (off : Nat) : W64 :=
  match locate off with
  | none => 0
  | some (r, ix) =>
    match r.id with
    | .memSlot => BitVec.ofNat 64 (ix0 ix)
    | .memChCfg => if 24 ≤ ix0 ix then 1 else 0
    | .memChStat => 6
    | .glbId => setFld r.reset 23 16 (if Config.isD96 then 0x60 else 0x30)
    | .glbUid0 => Config.uid0
    | .glbUid1 => Config.uid1
    | _ => r.reset

namespace Addr

/-- PTB_AXn_CFG. -/
def ptbAxCfg (n : Nat) : Nat := 0x200000 + n * 0x40
/-- PTB_AXn_CNT. -/
def ptbAxCnt (n : Nat) : Nat := 0x200008 + n * 0x40
/-- PTB_AXn_VEL. -/
def ptbAxVel (n : Nat) : Nat := 0x200010 + n * 0x40
/-- PTB_AXn_VCFG. -/
def ptbAxVcfg (n : Nat) : Nat := 0x200018 + n * 0x40
/-- PTB_AXn_STAT. -/
def ptbAxStat (n : Nat) : Nat := 0x200020 + n * 0x40
/-- PTB_AXn_ZLAT. -/
def ptbAxZlat (n : Nat) : Nat := 0x200028 + n * 0x40
/-- PTB_AXn_ZLOAD. -/
def ptbAxZload (n : Nat) : Nat := 0x200030 + n * 0x40
/-- PTB_SLOTs_CTL. -/
def ptbSlotCtl (s : Nat) : Nat := 0x201000 + s * 0x20
/-- PTB_SLOTs_TGT. -/
def ptbSlotTgt (s : Nat) : Nat := 0x201008 + s * 0x20
/-- PTB_SLOTs_STEP. -/
def ptbSlotStep (s : Nat) : Nat := 0x201010 + s * 0x20
/-- PTB_SLOTs_STAT. -/
def ptbSlotStat (s : Nat) : Nat := 0x201018 + s * 0x20
/-- PTB_OUTo_CFG. -/
def ptbOutCfg (o : Nat) : Nat := 0x202000 + o * 0x10
/-- PTB_OUTo_STAT. -/
def ptbOutStat (o : Nat) : Nat := 0x202008 + o * 0x10
/-- PTB_PARTp_SCAN. -/
def ptbPartScan (p : Nat) : Nat := 0x203010 + (p - 1) * 0x10
/-- PTB_BCAST_CFG. -/
def ptbBcastCfg : Nat := 0x203100
/-- PTB_LINKOFFq. -/
def ptbLinkoff (q : Nat) : Nat := 0x203200 + q * 0x8
/-- PTB_TIME. -/
def ptbTime : Nat := 0x203300
/-- PTB_WAKE. -/
def ptbWake : Nat := 0x203400
/-- ING_CAMk_CFG. -/
def ingCamCfg (k : Nat) : Nat := 0x300000 + k * 0x40
/-- ING_CAMk_OUT. -/
def ingCamOut (k : Nat) : Nat := 0x300008 + k * 0x40
/-- ING_CAMk_LAT. -/
def ingCamLat (k : Nat) : Nat := 0x300010 + k * 0x40
/-- ING_CAMk_FIRE. -/
def ingCamFire (k : Nat) : Nat := 0x300018 + k * 0x40
/-- ING_CALt_CFG. -/
def ingCalCfg (t : Nat) : Nat := 0x300800 + t * 0x40
/-- ING_CALt_TGT. -/
def ingCalTgt (t : Nat) : Nat := 0x300808 + t * 0x40
/-- ING_CALt_BND. -/
def ingCalBnd (t : Nat) : Nat := 0x300810 + t * 0x40
/-- ING_CALt_SRC. -/
def ingCalSrc (t : Nat) : Nat := 0x300818 + t * 0x40
/-- ING_CALt_CTL. -/
def ingCalCtl (t : Nat) : Nat := 0x300820 + t * 0x40
/-- ING_CALt_STAT. -/
def ingCalStat (t : Nat) : Nat := 0x300828 + t * 0x40
/-- ING_BGk_i_LO. -/
def ingBgLo (k : Nat) (i : Nat) : Nat := 0x301000 + k * 0x100 + i * 0x10
/-- ING_BGk_i_HI. -/
def ingBgHi (k : Nat) (i : Nat) : Nat := 0x301008 + k * 0x100 + i * 0x10
/-- ING_RINGr_BASE. -/
def ingRingBase (r : Nat) : Nat := 0x302000 + r * 0x40
/-- ING_RINGr_CFG. -/
def ingRingCfg (r : Nat) : Nat := 0x302008 + r * 0x40
/-- ING_RINGr_PROD. -/
def ingRingProd (r : Nat) : Nat := 0x302010 + r * 0x40
/-- ING_RINGr_CONS0. -/
def ingRingCons0 (r : Nat) : Nat := 0x302018 + r * 0x40
/-- ING_RINGr_CONS1. -/
def ingRingCons1 (r : Nat) : Nat := 0x302020 + r * 0x40
/-- ING_RINGr_STAT. -/
def ingRingStat (r : Nat) : Nat := 0x302028 + r * 0x40
/-- CXP_CONn_CFG. -/
def cxpConCfg (n : Nat) : Nat := 0x400000 + n * 0x20
/-- CXP_CONn_STAT. -/
def cxpConStat (n : Nat) : Nat := 0x400008 + n * 0x20
/-- CXP_CAMk_CFG. -/
def cxpCamCfg (k : Nat) : Nat := 0x401000 + k * 0x40
/-- CXP_CAMk_TRIG. -/
def cxpCamTrig (k : Nat) : Nat := 0x401008 + k * 0x40
/-- CXP_CAMk_CTL. -/
def cxpCamCtl (k : Nat) : Nat := 0x401010 + k * 0x40
/-- CXP_CAMk_STAT. -/
def cxpCamStat (k : Nat) : Nat := 0x401018 + k * 0x40
/-- CXP_CAMk_RXPTR. -/
def cxpCamRxptr (k : Nat) : Nat := 0x401020 + k * 0x40
/-- CXP_CAMk_EVPTR. -/
def cxpCamEvptr (k : Nat) : Nat := 0x401028 + k * 0x40
/-- CXP_CTX. -/
def cxpCtx (k : Nat) (w : Nat) : Nat := 0x404000 + k * 0x1000 + w * 0x8
/-- CXP_CRX. -/
def cxpCrx (k : Nat) (w : Nat) : Nat := 0x408000 + k * 0x1000 + w * 0x8
/-- CXP_CEV. -/
def cxpCev (k : Nat) (w : Nat) : Nat := 0x40C000 + k * 0x1000 + w * 0x8
/-- JES_CFG. -/
def jesCfg : Nat := 0x500000
/-- JES_LAT. -/
def jesLat : Nat := 0x500008
/-- JES_STAT. -/
def jesStat : Nat := 0x500010
/-- JES_LANEl_STAT. -/
def jesLaneStat (l : Nat) : Nat := 0x500100 + l * 0x10
/-- VDL_PARTp_CFG. -/
def vdlPartCfg (p : Nat) : Nat := 0x600000 + (p - 1) * 0x80
/-- VDL_PARTp_BUDGET. -/
def vdlPartBudget (p : Nat) : Nat := 0x600008 + (p - 1) * 0x80
/-- VDL_PARTp_MTAB. -/
def vdlPartMtab (p : Nat) : Nat := 0x600010 + (p - 1) * 0x80
/-- VDL_PARTp_Qn. -/
def vdlPartQ (p : Nat) (n : Nat) : Nat := 0x600020 + (p - 1) * 0x80 + n * 0x8
/-- VDL_PARTp_STAT. -/
def vdlPartStat (p : Nat) : Nat := 0x600040 + (p - 1) * 0x80
/-- VDL_RINGv_BASE. -/
def vdlRingBase (v : Nat) : Nat := 0x601000 + v * 0x40
/-- VDL_RINGv_CFG. -/
def vdlRingCfg (v : Nat) : Nat := 0x601008 + v * 0x40
/-- VDL_RINGv_PADDR. -/
def vdlRingPaddr (v : Nat) : Nat := 0x601010 + v * 0x40
/-- VDL_RINGv_CADDR. -/
def vdlRingCaddr (v : Nat) : Nat := 0x601018 + v * 0x40
/-- VDL_RINGv_PIDX. -/
def vdlRingPidx (v : Nat) : Nat := 0x601020 + v * 0x40
/-- VDL_RINGv_STAT. -/
def vdlRingStat (v : Nat) : Nat := 0x601028 + v * 0x40
/-- VDL_HELD. -/
def vdlHeld : Nat := 0x602000
/-- SCH_CFG. -/
def schCfg (c : Nat) : Nat := 0x2020000 + c * 0x100000
/-- SCH_OVR. -/
def schOvr (c : Nat) : Nat := 0x2020010 + c * 0x100000
/-- SCH_CTXn_STAT. -/
def schCtxStat (c : Nat) (n : Nat) : Nat := 0x2020100 + c * 0x100000 + n * 0x8
/-- SCH_SEMs_CFG. -/
def schSemCfg (c : Nat) (s : Nat) : Nat := 0x2021000 + c * 0x100000 + s * 0x10
/-- SCH_SEMs_STAT. -/
def schSemStat (c : Nat) (s : Nat) : Nat := 0x2021008 + c * 0x100000 + s * 0x10
/-- SCH_GSEMs_CFG. -/
def schGsemCfg (s : Nat) : Nat := 0x700000 + s * 0x10
/-- SCH_GSEMs_STAT. -/
def schGsemStat (s : Nat) : Nat := 0x700008 + s * 0x10
/-- SCH_ACCp_c_A. -/
def schAccA (p : Nat) (c : Nat) : Nat := 0x701000 + (p - 1) * 0x800 + c * 0x20
/-- SCH_ACCp_c_B. -/
def schAccB (p : Nat) (c : Nat) : Nat := 0x701008 + (p - 1) * 0x800 + c * 0x20
/-- SCH_ACCp_c_C. -/
def schAccC (p : Nat) (c : Nat) : Nat := 0x701010 + (p - 1) * 0x800 + c * 0x20
/-- DLM_PARTp_CFG. -/
def dlmPartCfg (p : Nat) : Nat := 0x800000 + (p - 1) * 0x400
/-- DLM_PARTp_ESTm. -/
def dlmPartEst (p : Nat) (m : Nat) : Nat := 0x800100 + (p - 1) * 0x400 + m * 0x8
/-- DLM_PARTp_WQn. -/
def dlmPartWq (p : Nat) (n : Nat) : Nat := 0x800300 + (p - 1) * 0x400 + n * 0x8
/-- DLM_CLUc_STAT. -/
def dlmCluStat (c : Nat) : Nat := 0x801000 + c * 0x8
/-- DLM_DEV_STAT. -/
def dlmDevStat : Nat := 0x801100
/-- MT_TILEt_STAT. -/
def mtTileStat (c : Nat) (t : Nat) : Nat := 0x2040000 + c * 0x100000 + t * 0x20
/-- MT_TILEt_CNT. -/
def mtTileCnt (c : Nat) (t : Nat) : Nat := 0x2040008 + c * 0x100000 + t * 0x20
/-- PP_ENGn_CFG. -/
def ppEngCfg (n : Nat) : Nat := 0xA00000 + n * 0x100
/-- PP_ENGn_STAT. -/
def ppEngStat (n : Nat) : Nat := 0xA00008 + n * 0x100
/-- PP_ENGn_CUR. -/
def ppEngCur (n : Nat) : Nat := 0xA00010 + n * 0x100
/-- PP_ENGn_CNT. -/
def ppEngCnt (n : Nat) : Nat := 0xA00018 + n * 0x100
/-- AW_PARTp_EPOCH. -/
def awPartEpoch (p : Nat) : Nat := 0x900000 + (p - 1) * 0x800
/-- AW_PARTp_SAFE. -/
def awPartSafe (p : Nat) : Nat := 0x900008 + (p - 1) * 0x800
/-- AW_PARTp_TREE. -/
def awPartTree (p : Nat) : Nat := 0x900010 + (p - 1) * 0x800
/-- AW_PARTp_TPOOL_BASE. -/
def awPartTpoolBase (p : Nat) : Nat := 0x900020 + (p - 1) * 0x800
/-- AW_PARTp_TPOOL_REC. -/
def awPartTpoolRec (p : Nat) : Nat := 0x900028 + (p - 1) * 0x800
/-- AW_PARTp_TPOOL_CFG. -/
def awPartTpoolCfg (p : Nat) : Nat := 0x900030 + (p - 1) * 0x800
/-- AW_PARTp_TALLOC. -/
def awPartTalloc (p : Nat) : Nat := 0x900038 + (p - 1) * 0x800
/-- AW_PARTp_TFREE. -/
def awPartTfree (p : Nat) : Nat := 0x900040 + (p - 1) * 0x800
/-- AW_PARTp_TSTAT. -/
def awPartTstat (p : Nat) : Nat := 0x900048 + (p - 1) * 0x800
/-- AW_PARTp_POOLc_BASE. -/
def awPartPoolBase (p : Nat) (c : Nat) : Nat := 0x900100 + (p - 1) * 0x800 + c * 0x40
/-- AW_PARTp_POOLc_REC. -/
def awPartPoolRec (p : Nat) (c : Nat) : Nat := 0x900108 + (p - 1) * 0x800 + c * 0x40
/-- AW_PARTp_POOLc_CFG. -/
def awPartPoolCfg (p : Nat) (c : Nat) : Nat := 0x900110 + (p - 1) * 0x800 + c * 0x40
/-- AW_PARTp_POOLc_ALLOC. -/
def awPartPoolAlloc (p : Nat) (c : Nat) : Nat := 0x900118 + (p - 1) * 0x800 + c * 0x40
/-- AW_PARTp_POOLc_FREE. -/
def awPartPoolFree (p : Nat) (c : Nat) : Nat := 0x900120 + (p - 1) * 0x800 + c * 0x40
/-- AW_PARTp_POOLc_STAT. -/
def awPartPoolStat (p : Nat) (c : Nat) : Nat := 0x900128 + (p - 1) * 0x800 + c * 0x40
/-- AW_STAT. -/
def awStat (c : Nat) : Nat := 0x2080000 + c * 0x100000
/-- AW_CNT0. -/
def awCnt0 (c : Nat) : Nat := 0x2080008 + c * 0x100000
/-- AW_CNT1. -/
def awCnt1 (c : Nat) : Nat := 0x2080010 + c * 0x100000
/-- AW_BKTb. -/
def awBkt (c : Nat) (b : Nat) : Nat := 0x2080100 + c * 0x100000 + b * 0x8
/-- SQ_STAT. -/
def sqStat (c : Nat) : Nat := 0x20A0000 + c * 0x100000
/-- SQ_CNT. -/
def sqCnt (c : Nat) : Nat := 0x20A0008 + c * 0x100000
/-- SQ_STRs_CFG. -/
def sqStrCfg (c : Nat) (s : Nat) : Nat := 0x20A1000 + c * 0x100000 + s * 0x20
/-- SQ_STRs_LIVE. -/
def sqStrLive (c : Nat) (s : Nat) : Nat := 0x20A1008 + c * 0x100000 + s * 0x20
/-- SQ_STRs_BACK. -/
def sqStrBack (c : Nat) (s : Nat) : Nat := 0x20A1010 + c * 0x100000 + s * 0x20
/-- SQ_STRs_STAT. -/
def sqStrStat (c : Nat) (s : Nat) : Nat := 0x20A1018 + c * 0x100000 + s * 0x20
/-- CX_STAT. -/
def cxStat (c : Nat) : Nat := 0x20C0000 + c * 0x100000
/-- CX_CNT0. -/
def cxCnt0 (c : Nat) : Nat := 0x20C0008 + c * 0x100000
/-- CX_CNT1. -/
def cxCnt1 (c : Nat) : Nat := 0x20C0010 + c * 0x100000
/-- CX_LAST. -/
def cxLast (c : Nat) : Nat := 0x20C0018 + c * 0x100000
/-- MEM_CFG. -/
def memCfg : Nat := 0xB00000
/-- MEM_STAT. -/
def memStat : Nat := 0xB00008
/-- MEM_ROT_CFG. -/
def memRotCfg : Nat := 0xB00010
/-- MEM_ROT_STAT. -/
def memRotStat : Nat := 0xB00018
/-- MEM_SCRUB_CFG. -/
def memScrubCfg : Nat := 0xB00020
/-- MEM_SCRUB_CMD. -/
def memScrubCmd : Nat := 0xB00028
/-- MEM_SCRUB_STAT. -/
def memScrubStat : Nat := 0xB00030
/-- MEM_SRAMCLR. -/
def memSramclr : Nat := 0xB00038
/-- MEM_TAGERR. -/
def memTagerr : Nat := 0xB00040
/-- MEM_TDUNPIN. -/
def memTdunpin : Nat := 0xB00048
/-- MEM_SLOTn. -/
def memSlot (n : Nat) : Nat := 0xB00100 + n * 0x8
/-- MEM_CHc_CFG. -/
def memChCfg (c : Nat) : Nat := 0xB00200 + c * 0x20
/-- MEM_CHc_STAT. -/
def memChStat (c : Nat) : Nat := 0xB00208 + c * 0x20
/-- MEM_CHc_CNT0. -/
def memChCnt0 (c : Nat) : Nat := 0xB00210 + c * 0x20
/-- MEM_CHc_CNT1. -/
def memChCnt1 (c : Nat) : Nat := 0xB00218 + c * 0x20
/-- MEM_GENr. -/
def memGen (r : Nat) : Nat := 0xB01000 + r * 0x8
/-- DM_MVm_STAT. -/
def dmMvStat (c : Nat) (m : Nat) : Nat := 0x20E0000 + c * 0x100000 + m * 0x20
/-- DM_MVm_CNT. -/
def dmMvCnt (c : Nat) (m : Nat) : Nat := 0x20E0008 + c * 0x100000 + m * 0x20
/-- DM_RES. -/
def dmRes (c : Nat) : Nat := 0x20E0080 + c * 0x100000
/-- FAB_CFG. -/
def fabCfg : Nat := 0x1300000
/-- FAB_DROP. -/
def fabDrop : Nat := 0x1300008
/-- FAB_E2E. -/
def fabE2e : Nat := 0x1300010
/-- FAB_RTk. -/
def fabRt (k : Nat) : Nat := 0x1300100 + k * 0x8
/-- FAB_PORTq_CFG. -/
def fabPortCfg (q : Nat) : Nat := 0x1301000 + q * 0x40
/-- FAB_PORTq_STAT. -/
def fabPortStat (q : Nat) : Nat := 0x1301008 + q * 0x40
/-- FAB_PORTq_CNT0. -/
def fabPortCnt0 (q : Nat) : Nat := 0x1301010 + q * 0x40
/-- FAB_PORTq_CNT1. -/
def fabPortCnt1 (q : Nat) : Nat := 0x1301018 + q * 0x40
/-- FAB_PORTq_LANE. -/
def fabPortLane (q : Nat) : Nat := 0x1301020 + q * 0x40
/-- FAB_PARTp_EPOCH. -/
def fabPartEpoch (p : Nat) : Nat := 0x1302000 + (p - 1) * 0x100
/-- FAB_PARTp_STAT. -/
def fabPartStat (p : Nat) : Nat := 0x1302008 + (p - 1) * 0x100
/-- FAB_PARTp_CTR. -/
def fabPartCtr (p : Nat) : Nat := 0x1302010 + (p - 1) * 0x100
/-- FAB_PARTp_DOM. -/
def fabPartDom (p : Nat) : Nat := 0x1302018 + (p - 1) * 0x100
/-- FAB_PARTp_IMPi_BASE. -/
def fabPartImpBase (p : Nat) (i : Nat) : Nat := 0x1302040 + (p - 1) * 0x100 + i * 0x18
/-- FAB_PARTp_IMPi_SIZE. -/
def fabPartImpSize (p : Nat) (i : Nat) : Nat := 0x1302048 + (p - 1) * 0x100 + i * 0x18
/-- FAB_PARTp_IMPi_LOCAL. -/
def fabPartImpLocal (p : Nat) (i : Nat) : Nat := 0x1302050 + (p - 1) * 0x100 + i * 0x18
/-- PCI_LINK. -/
def pciLink : Nat := 0xC00000
/-- PCI_RQ_CMD. -/
def pciRqCmd : Nat := 0xC00008
/-- PCI_RQ_STAT. -/
def pciRqStat : Nat := 0xC00010
/-- PCI_EVPOST. -/
def pciEvpost : Nat := 0xC00018
/-- PCI_FNf_WIN. -/
def pciFnWin (f : Nat) : Nat := 0xC01000 + f * 0x100
/-- PCI_FNf_HWBASE. -/
def pciFnHwbase (f : Nat) : Nat := 0xC01008 + f * 0x100
/-- PCI_FNf_RQBASE. -/
def pciFnRqbase (f : Nat) : Nat := 0xC01010 + f * 0x100
/-- PCI_FNf_RQCFG. -/
def pciFnRqcfg (f : Nat) : Nat := 0xC01018 + f * 0x100
/-- PCI_FNf_RQMIR. -/
def pciFnRqmir (f : Nat) : Nat := 0xC01020 + f * 0x100
/-- PCI_FNf_EVBASE. -/
def pciFnEvbase (f : Nat) : Nat := 0xC01028 + f * 0x100
/-- PCI_FNf_EVCFG. -/
def pciFnEvcfg (f : Nat) : Nat := 0xC01030 + f * 0x100
/-- PCI_FNf_EVPADDR. -/
def pciFnEvpaddr (f : Nat) : Nat := 0xC01038 + f * 0x100
/-- PCI_FNf_EVCADDR. -/
def pciFnEvcaddr (f : Nat) : Nat := 0xC01040 + f * 0x100
/-- PCI_FNf_EVPIDX. -/
def pciFnEvpidx (f : Nat) : Nat := 0xC01048 + f * 0x100
/-- PCI_FNf_STAT. -/
def pciFnStat (f : Nat) : Nat := 0xC01050 + f * 0x100
/-- HLT_STAT. -/
def hltStat : Nat := 0x1100000
/-- HLT_CFG. -/
def hltCfg : Nat := 0x1100008
/-- HLT_SUMMARY. -/
def hltSummary : Nat := 0x1100010
/-- HLT_CKPTINT. -/
def hltCkptint : Nat := 0x1100018
/-- HLT_SRAMSP. -/
def hltSramsp : Nat := 0x1100020
/-- HLT_SRAMSUSi. -/
def hltSramsus (i : Nat) : Nat := 0x1102000 + i * 0x8
/-- HLT_KINDk_THR. -/
def hltKindThr (k : Nat) : Nat := 0x1100120 + (k - 1) * 0x20
/-- HLT_KINDk_RET. -/
def hltKindRet (k : Nat) : Nat := 0x1100128 + (k - 1) * 0x20
/-- HLT_KINDk_SUS. -/
def hltKindSus (k : Nat) : Nat := 0x1100130 + (k - 1) * 0x20
/-- HLT_KINDk_CNT. -/
def hltKindCnt (k : Nat) : Nat := 0x1100138 + (k - 1) * 0x20
/-- HLT_WDOG. -/
def hltWdog : Nat := 0x1101000
/-- HLT_WDKICK. -/
def hltWdkick : Nat := 0x1101008
/-- HLT_SCCTL. -/
def hltScctl : Nat := 0x1101010
/-- HLT_SCSTAT. -/
def hltScstat : Nat := 0x1101018
/-- HLT_SCTHR. -/
def hltScthr : Nat := 0x1101020
/-- ERR_HEAD. -/
def errHead : Nat := 0x1200000
/-- ERR_CNT. -/
def errCnt : Nat := 0x1200008
/-- ERR_PEVT. -/
def errPevt : Nat := 0x1200010
/-- ERR_RECi. -/
def errRec (i : Nat) (w : Nat) : Nat := 0x1210000 + i * 0x40 + w * 0x8
/-- TRU_STAT. -/
def truStat : Nat := 0xD00000
/-- TRU_CMD. -/
def truCmd : Nat := 0xD00008
/-- TRU_CMDSTAT. -/
def truCmdstat : Nat := 0xD00010
/-- TRU_CFGSEQ. -/
def truCfgseq : Nat := 0xD00018
/-- TRU_IDPKi. -/
def truIdpk (i : Nat) : Nat := 0xD00020 + i * 0x8
/-- TRU_RECOV. -/
def truRecov : Nat := 0xD00060
/-- TRU_NONCEi. -/
def truNonce (i : Nat) : Nat := 0xD00100 + i * 0x8
/-- TRU_ATTCTL. -/
def truAttctl : Nat := 0xD00120
/-- TRU_ATTSTAT. -/
def truAttstat : Nat := 0xD00128
/-- TRU_PARTp_CFG. -/
def truPartCfg (p : Nat) : Nat := 0xD00200 + (p - 1) * 0x40
/-- TRU_PARTp_CTL. -/
def truPartCtl (p : Nat) : Nat := 0xD00208 + (p - 1) * 0x40
/-- TRU_PARTp_STAT. -/
def truPartStat (p : Nat) : Nat := 0xD00210 + (p - 1) * 0x40
/-- TRU_PARTp_DREG. -/
def truPartDreg (p : Nat) : Nat := 0xD00218 + (p - 1) * 0x40
/-- TRU_PARTp_HTAG. -/
def truPartHtag (p : Nat) : Nat := 0xD00220 + (p - 1) * 0x40
/-- TRU_CLUc_STAT. -/
def truCluStat (c : Nat) : Nat := 0xD00400 + c * 0x8
/-- TRU_PWRVIEW. -/
def truPwrview : Nat := 0xD00500
/-- TRU_DBGCHAL. -/
def truDbgchal (i : Nat) : Nat := 0xD00600 + i * 0x8
/-- TRU_DBGCTL. -/
def truDbgctl : Nat := 0xD00620
/-- TRU_DBGSTAT. -/
def truDbgstat : Nat := 0xD00628
/-- TRU_REPORT. -/
def truReport (w : Nat) : Nat := 0xD10000 + w * 0x8
/-- TRU_LOG. -/
def truLog (w : Nat) : Nat := 0xD20000 + w * 0x8
/-- TRU_CFGVIEW. -/
def truCfgview (w : Nat) : Nat := 0xD30000 + w * 0x8
/-- TRU_TOKEN. -/
def truToken (w : Nat) : Nat := 0xD40000 + w * 0x8
/-- PMU_STAT. -/
def pmuStat : Nat := 0x1000000
/-- PMU_SLEEP. -/
def pmuSleep : Nat := 0x1000008
/-- PMU_SLEEPSTAT. -/
def pmuSleepstat : Nat := 0x1000010
/-- PMU_LASTWAKE. -/
def pmuLastwake : Nat := 0x1000018
/-- PMU_WAKEEN. -/
def pmuWakeen : Nat := 0x1000020
/-- PMU_WAKEPEND. -/
def pmuWakepend : Nat := 0x1000028
/-- PMU_GPIOWAKE. -/
def pmuGpiowake : Nat := 0x1000030
/-- PMU_AONTIME. -/
def pmuAontime : Nat := 0x1000038
/-- PMU_AONCMP. -/
def pmuAoncmp : Nat := 0x1000040
/-- PMU_RESUME. -/
def pmuResume : Nat := 0x1000048
/-- PMU_RSTCTL. -/
def pmuRstctl : Nat := 0x1000050
/-- PMU_RSTSTAT. -/
def pmuRststat : Nat := 0x1000058
/-- PMU_VRCFG. -/
def pmuVrcfg : Nat := 0x1000060
/-- PMU_THERM. -/
def pmuTherm : Nat := 0x1000068
/-- PMU_DRAMCTL. -/
def pmuDramctl : Nat := 0x1000070
/-- PMU_PWR. -/
def pmuPwr : Nat := 0x1000078
/-- PMU_CLUc_CTL. -/
def pmuCluCtl (c : Nat) : Nat := 0x1000100 + c * 0x20
/-- PMU_CLUc_STAT. -/
def pmuCluStat (c : Nat) : Nat := 0x1000108 + c * 0x20
/-- PMU_TEL_RAILr. -/
def pmuTelRail (r : Nat) : Nat := 0x1001000 + r * 0x8
/-- PMU_TEL_CLUc. -/
def pmuTelClu (c : Nat) : Nat := 0x1001100 + c * 0x8
/-- CLK_LIVE. -/
def clkLive : Nat := 0x100000
/-- CLK_LOCK. -/
def clkLock : Nat := 0x100008
/-- CLK_SEL. -/
def clkSel : Nat := 0x100010
/-- CLK_STAT. -/
def clkStat : Nat := 0x100018
/-- GLB_ID. -/
def glbId : Nat := 0x0
/-- GLB_UID0. -/
def glbUid0 : Nat := 0x8
/-- GLB_UID1. -/
def glbUid1 : Nat := 0x10
/-- GLB_ROMVER. -/
def glbRomver : Nat := 0x18
/-- GLB_CLUMAP. -/
def glbClumap : Nat := 0x100
/-- GLB_SEGp_i_PA. -/
def glbSegPa (p : Nat) (i : Nat) : Nat := 0x1000 + (p - 1) * 0x800 + i * 0x20
/-- GLB_SEGp_i_TA. -/
def glbSegTa (p : Nat) (i : Nat) : Nat := 0x1008 + (p - 1) * 0x800 + i * 0x20
/-- GLB_SEGp_i_CFG. -/
def glbSegCfg (p : Nat) (i : Nat) : Nat := 0x1010 + (p - 1) * 0x800 + i * 0x20
/-- GLB_SEGERRp. -/
def glbSegerr (p : Nat) : Nat := 0x3000 + (p - 1) * 0x8
/-- CLU_STAT. -/
def cluStat (c : Nat) : Nat := 0x2000000 + c * 0x100000
/-- CLU_BASEPC. -/
def cluBasepc (c : Nat) : Nat := 0x2000008 + c * 0x100000
/-- CLU_BASECTL. -/
def cluBasectl (c : Nat) : Nat := 0x2000010 + c * 0x100000
/-- VE_ENGe_STAT. -/
def veEngStat (c : Nat) (e : Nat) : Nat := 0x2060000 + c * 0x100000 + e * 0x20
/-- VE_ENGe_CNT. -/
def veEngCnt (c : Nat) (e : Nat) : Nat := 0x2060008 + c * 0x100000 + e * 0x20
/-- PMU_GPIO_DIR. -/
def pmuGpioDir : Nat := 0x1000200
/-- PMU_GPIO_OUT. -/
def pmuGpioOut : Nat := 0x1000208
/-- PMU_GPIO_IN. -/
def pmuGpioIn : Nat := 0x1000210
/-- PMU_GPIO_OD. -/
def pmuGpioOd : Nat := 0x1000218

end Addr

end Sys2Proof.Machine
end

