-- ==== Sys2Proof/Machine/Sparse.lean ====
section
/-! DEFINITION. Sparse maps from numbers: lists of (key, value) in one canonical form.
A key that is not listed reads the value of a default function; a write of that value takes the entry out. -/

namespace Sys2Proof.Machine

open Sys2Proof

/-- A sparse map: (key, value) pairs. -/
abbrev Sparse (β : Type) := List (Nat × β)

/-- The value at a key; d gives what an unlisted key reads as. -/
def Sparse.get {β : Type} (d : Nat → β) : Sparse β → Nat → β
  | [], k => d k
  | (a, v) :: t, k => if a = k then v else Sparse.get d t k

/-- Take every entry of a key out. -/
def Sparse.erase {β : Type} : Sparse β → Nat → Sparse β
  | [], _ => []
  | (a, v) :: t, k => if a = k then Sparse.erase t k else (a, v) :: Sparse.erase t k

/-- Put an entry at its place in the rising order of keys. -/
def Sparse.ins {β : Type} : Sparse β → Nat → β → Sparse β
  | [], k, v => [(k, v)]
  | (a, w) :: t, k, v => if k < a then (k, v) :: (a, w) :: t else (a, w) :: Sparse.ins t k v

/-- Write a value at a key. -/
def Sparse.set {β : Type} [DecidableEq β] (d : Nat → β) (m : Sparse β) (k : Nat) (v : β) : Sparse β :=
  if v = d k then m.erase k else (m.erase k).ins k v

/-- Keep only the keys that satisfy a test; the others read the default again. -/
def Sparse.keep {β : Type} (p : Nat → Bool) (m : Sparse β) : Sparse β := m.filter fun e => p e.1

/-- Every key of the list lies above a bound. -/
def Sparse.above {β : Type} (b : Nat) : Sparse β → Bool
  | [] => true
  | (a, _) :: t => decide (b < a) && Sparse.above b t

/-- The canonical form: keys strictly rising, no entry equal to what its key reads as when unlisted. -/
def Sparse.wf {β : Type} [DecidableEq β] (d : Nat → β) : Sparse β → Bool
  | [] => true
  | (a, v) :: t => decide (v ≠ d a) && Sparse.above a t && Sparse.wf d t

/-- Memory in canonical form: addresses strictly rising, no byte listed that reads as an unlisted one does (log entry 7: zero). -/
def Memory.wf (m : Sparse Byte) : Bool := Sparse.wf (fun _ => 0) m

end Sys2Proof.Machine
end

