-- ==== Sys2Proof/Machine/State.lean ====
section
/-! DEFINITION. The state of the block, as plain data, and the state right after reset.
Every register of the register tables is one key of regs; what the spec gives the block beside them has a field of its own. -/

namespace Sys2Proof.Machine

open Sys2Proof

/-- The check bits of a 64-byte line or burst (R546, R554): valid, partition tag, generation, a stored check that is wrong,
poison. -/
structure LineMeta where
  valid : Bool
  tag : Nat
  gen : Nat
  bad : Bool
  poison : Bool
  deriving DecidableEq, Repr

/-- One pending or running output pulse (R64, R65), in units of 0.5 ns, and what its fire record holds (R111). -/
structure Pulse where
  start : Nat
  stop : Nat
  fire : Nat
  slot : Nat
  cnts : List Cnt
  lost : List Bool
  deriving DecidableEq, Repr

/-- A limit of one record per interval: the time of the last record, the occurrences held back since (R687). -/
structure Lim where
  at_ : Option Nat
  held : Nat
  deriving DecidableEq, Repr

/-- What an encoder axis holds beside its registers: accepted input levels and the samples that accepted them (R37), the last accepted
Z edge (its sample, the counter before its action, ZMODE; R41), instant of the last count, update count and samples of the velocity
estimator (R51), the record limiter (R40), the follower's held steps, phase, applied packets and last velocity, the tick of its last
step and the instant of its last packet (R78 to R83), an illegal transition since the last position packet (Table 2.2). -/
structure AxisX where
  a : Bool
  b : Bool
  aAt : Option Nat
  bAt : Option Nat
  z : Option (Nat × Cnt × Nat)
  cerr : Bool
  last : Nat
  k : Nat
  hist : List Cnt
  lim : Lim
  hold : Nat
  phase : Nat
  applied : Nat
  pv : Int
  stepAt : Option Nat
  pktAt : Nat
  deriving DecidableEq, Repr

/-- What an output holds beside its registers: pending pulses, the running pulse, the sample of the last fire (R67). -/
structure OutX where
  q : List Pulse
  run : Option Pulse
  lastFire : Option Nat
  deriving DecidableEq, Repr

/-- One entry of the counter history of the ingest unit (R110): the four counters and LOST bits from a tick on. -/
structure HistEntry where
  time : Nat
  cnts : List Cnt
  lost : List Bool
  deriving DecidableEq, Repr

/-- A fire record (R111), with LOST of the scan axis at its sample (R119). -/
structure FireRec where
  cnt : Cnt
  lost : Bool
  time : Nat
  slot : Nat
  deriving DecidableEq, Repr

/-- The stamp of a line, frame or block (R113 to R115). -/
structure Stamp where
  cnt : Cnt
  time : Nat
  axis : Nat
  follower : Bool
  lost : Bool
  nofire : Bool
  slot : Nat
  deriving DecidableEq, Repr

/-- An accepted image header. -/
structure Hdr where
  rect : Bool
  fmts : List Nat
  w : Nat
  h : Nat
  deriving DecidableEq, Repr

/-- A line being received: its plane, its place in the image, its pixels so far and how far they reach, its marks. -/
structure LineBuf where
  plane : Nat
  y : Nat
  pix : Sparse Nat
  upto : Nat
  dmg : Bool
  inc : Bool
  deriving DecidableEq, Repr

/-- The uplink trigger generator of a camera (R97 to R101), in units of 0.5 ns: the edge of the accepted fire, whether its
rising packet has been sent, and the end of the last packet. -/
structure Uplink where
  edge : Nat
  risen : Bool
  busy : Bool
  fin : Nat
  deriving DecidableEq, Repr

/-- What a camera holds beside its registers (R93 to R95, R111 to R114, R134): the packets held for their order with their arrival, the last
tag of each connection, the image and the line in progress, a gap since the last marker; sent is the last uplink packet's payload, trig the
last trigger packet (rising or not, its delay in 0.5 ns), hbAt the time of the last heartbeat or of the enabling (R105). -/
structure Cam where
  applied : Bool
  expect : Option Nat
  held : List (Nat × StreamPacket)
  tops : Sparse Nat
  hdr : Option Hdr
  line : Option LineBuf
  lastPlane : Nat
  y : Nat
  stamp : Option Stamp
  fires : List FireRec
  up : Uplink
  lim : Lim
  sent : List Byte
  trig : Option (Bool × Nat)
  gap : Bool
  hbAt : Nat
  deriving DecidableEq, Repr

/-- What an ingest ring holds beside its registers: next SEQ, an entry dropped since the last one written (R119). -/
structure Ring where
  seq : Nat
  drop : Bool
  deriving DecidableEq, Repr

/-- An entry of a calibration table (section Live dark and flat-field correction). -/
structure CalEntry where
  code : Nat
  dseed : Nat
  gseed : Nat
  gain : Nat
  deriving DecidableEq, Repr

/-- A calibration table (R124 to R133): entries, drift, window sums and counts, lines in the window, loaded since reset,
applied to the present image (R136), a LOAD that waits for the line boundary, a STORE that waits for it. -/
structure Cal where
  ents : Sparse CalEntry
  delta : Int
  sums : Sparse Int
  ns : Sparse Nat
  lines : Nat
  loaded : Bool
  fits : Bool
  waiting : Bool
  storing : Bool
  deriving DecidableEq, Repr

/-- What the JESD204C receiver holds beside its registers (R108, R134). -/
structure Jes where
  applied : Bool
  lemc : Option Nat
  inc : Bool
  laneLim : Sparse Lim
  deriving DecidableEq, Repr

/-- A job (Table 4.3) with its partition, its place in creation order, the time it entered its queue, the reason it runs its
fallback (R167), and what it has contributed: 0 nothing, 1 its own POST, 2 a contribution of the device. -/
structure Job where
  part : Nat
  die : Nat
  tier : Nat
  fb : Bool
  dlmode : Nat
  ddir : Bool
  model : Nat
  client : Nat
  prio : Nat
  deadline : Cnt
  agelim : Nat
  age0 : Nat
  acq : Cnt
  npass : Nat
  data : Nat
  dlen : Nat
  jseq : Nat
  user : List Byte
  born : Nat
  qAt : Nat
  reason : Nat
  posted : Nat
  deriving DecidableEq, Repr

/-- A contribution to a die (Table 4.6). -/
structure Contrib where
  outcome : Nat
  cls : Nat
  path : Nat
  reason : Nat
  tier : Nat
  client : Nat
  dacq : Cnt
  detail : List Byte
  deriving DecidableEq, Repr

/-- The state of a die entry: free, open, or posted and held for its ring. -/
inductive DieSt where
  | free
  | opened
  | held
  deriving DecidableEq, Repr

/-- A die entry of the verdict ledger (R155 to R170); tpost is the time its record was built. -/
structure Die where
  st : DieSt
  gen : Nat
  part : Nat
  dieid : Nat
  ring : Nat
  dir : Bool
  endc : Cnt
  acq : Option Nat
  sealed : Bool
  openJobs : Nat
  njob : Nat
  best : Option Contrib
  ndefect : Nat
  nfb : Nat
  ndefer : Nat
  forced : Bool
  lateOpen : Bool
  lostPos : Bool
  closed : Bool
  tpost : Nat
  deriving DecidableEq, Repr

/-- A producer and consumer ring in host memory (R172 to R178): the posted dies in posting order, the cached consumer index
and the time of its last read, stopped by an index error, the last interrupt, the functions whose interrupts wait for the spacing,
the function in whose name the last record and index were written (R177). -/
structure VRing where
  q : List Nat
  cons : Nat
  readAt : Option Nat
  stopped : Bool
  intAt : Option Nat
  intPend : List Nat
  rid : Nat
  deriving DecidableEq, Repr

/-- A matrix tile's weight buffer (R391, R398): loading for the next block, and the op whose block is active. -/
structure TileX where
  loading : Option Nat
  active : Option Nat
  deriving DecidableEq, Repr

/-- The state of a context (Table 5.7). -/
inductive CtxSt where
  | free
  | ready
  | run
  | wtkt
  | wsem
  | wpos
  | ending
  deriving DecidableEq, Repr

/-- A context of a cluster (R183, R201, R699): the job, the model entry's values, RUN time in ticks, when it last started to
run, debt in us, round-robin stamp, an end put off until its non-pre-emptible op ends (with the fallback switch flag), the blocks of its
ops in the cluster's arrays when it was saved (R201). -/
structure Ctx where
  st : CtxSt
  job : Job
  fullpc : Nat
  fbpc : Nat
  run : Nat
  since : Nat
  debt : Nat
  rr : Nat
  switching : Bool
  nofb : Bool
  arr : List TileX
  deriving DecidableEq, Repr

/-- What a cluster's scheduler holds (R191 to R207): the running thread (a context, or 64 for the base thread), the end of
the innings, a boundary put off by a non-pre-emptible op, a pre-emption that waits for the tile boundary, the priority lent
to a holder for its innings, whether it is a base thread raised for a device semaphore (R214), whether the running job has given up
its innings while a non-pre-emptible op of it ends (R194), the next round-robin stamp. -/
structure Clu where
  running : Option Nat
  innEnd : Nat
  deferred : Option Nat
  preempt : Bool
  lent : Option Nat
  dev : Bool
  giving : Bool
  rr : Nat
  deriving DecidableEq, Repr

/-- A semaphore: holders with the time of their grant, earliest first, and waiters in order (R209 to R215). -/
structure Sem where
  holders : List (Nat × Nat)
  waiters : List Nat
  deriving DecidableEq, Repr

/-- What a thread waits for (R195, R196, R265, R278, R299, R316). -/
inductive Wait where
  | none
  | tkt (t : W64) (gd : Reg) (eta : Nat) (at_ : Nat)
  | sem (key : Nat) (gd : Reg)
  | pos (ax : Nat) (falling : Bool) (c : Cnt) (gd : Reg) (till : Option Nat)
  | slot (s : Nat) (gd : Reg) (till : Option Nat)
  | stall
  | idle
  deriving DecidableEq, Repr

/-- The status of a ticket (Table 7.5). -/
structure Tkt where
  serial : Nat
  st : Nat
  flags : Nat
  deriving DecidableEq, Repr

/-- A thread (R239, Table 6.4, R318); wrapped: its serial numbers have wrapped (R315). -/
structure Thread where
  g : Sparse W64
  p : Sparse Bool
  d : Sparse (BitVec 256)
  pc : W64
  ehand : W64
  ecause : W64
  epc : W64
  eval : W64
  scr : Sparse W64
  lastTkt : W64
  wait : Wait
  serial : Nat
  tkts : List Tkt
  wrapped : Bool
  deriving DecidableEq, Repr

/-- The state of the supervisor pair: off, stopped by a mismatch, in the boot ROM, running its program. -/
inductive SupSt where
  | off
  | stopped
  | rom
  | run
  deriving DecidableEq, Repr

/-- What the supervisor pair holds beside its thread (R291, R693 to R697): restart cause to report, recent restarts, the last
watchdog write, the last checkpoint event. -/
structure Sup where
  st : SupSt
  cause : Nat
  g1 : Nat
  restart : W64
  lockstat : W64
  recent : List Nat
  kick : Nat
  ckpt : Nat
  deriving DecidableEq, Repr

/-- A range of device bytes, first and one past the last. -/
structure Ext where
  lo : Nat
  hi : Nat
  deriving DecidableEq, Repr

/-- A segment of a partition as an op keeps it (R795). -/
structure Seg where
  pa : Nat
  ta : Nat
  size : Nat
  rd : Bool
  wr : Bool
  deriving DecidableEq, Repr

/-- A piece attempt history: first row, the unit and number of failed attempts. -/
structure Try where
  row : Nat
  unit : Nat
  n : Nat
  deriving DecidableEq, Repr

/-- A piece done: its first row of D and its rows, its core cycles, its unit, the attempts that failed before it and their unit. -/
structure PieceRec where
  row : Nat
  n : Nat
  cc : Nat
  unit : Nat
  fails : Nat
  funit : Nat
  deriving DecidableEq, Repr

/-- A transfer of a data mover that waits for a remote device (R626 to R631): what was sent (0 data, 1 a request, 2 a flag, 3 a
commit record), the remote device, the OFF of its last block or of the request, the bytes asked for, when, what came, and the epoch
and CTR values (from the first up to the second) that its blocks were sealed with. -/
structure Xfer where
  kind : Nat
  dev : Nat
  off : Nat
  len : Nat
  at_ : Nat
  got : Nat
  buf : List Byte
  epoch : Nat
  ctr0 : Nat
  ctr1 : Nat
  deriving DecidableEq, Repr

/-- An operation in flight or in the replay window (R297, R315, R326 to R329): its issue (thread, ticket serial, class,
operation, flags, declared bound), the descriptors D, A, B and the one named in its area, its parameter block, the segments
it was translated with, its extents (destination, sources), its units, whether it has started and when, the pieces done, attempts,
the LFSRs loaded with its seed, bytes moved, re-sends of the present block, a transfer that waits, a fill it waited on that failed,
whether it is finished and its status, flags, count, class-specific data, a damaged block (header address, check, fetch), and whether a page was found corrupt. -/
structure Op where
  uid : Nat
  th : Nat
  part : Nat
  serial : Nat
  cls : Nat
  opc : Nat
  np : Bool
  rb : Bool
  st : Bool
  npb : Nat
  dD : BitVec 256
  dA : BitVec 256
  dB : BitVec 256
  dX : BitVec 256
  pb : List Byte
  units : Nat
  unit : Nat
  segs : List Seg
  dst : List Ext
  srcs : List Ext
  start : Option Nat
  done : Bool
  rows : List PieceRec
  tries : List Try
  seeded : List Nat
  moved : Nat
  resend : Nat
  xfer : Option Xfer
  late : Bool
  status : Nat
  flags : Nat
  count : Nat
  aux : List Nat
  vals : List W64
  dmg : List Nat
  corrupt : Bool
  deriving DecidableEq, Repr

/-- An error record (Table 15.4). -/
structure ErrRec where
  hseq : Nat
  kind : Nat
  cond : Nat
  sev : Nat
  part : Nat
  unit : Nat
  count : Nat
  jseq : Nat
  time : Nat
  addr : Nat
  sub : Nat
  detail : List Byte
  tlast : Nat
  dlv : Nat
  deriving DecidableEq, Repr

/-- The health counts of a unit (R671 to R673). -/
structure UnitH where
  ops : Nat
  errs : Nat
  exh : List Nat
  deriving DecidableEq, Repr

/-- An input line of a PP.STREAM: FLAGS, COUNT, SEQ, TIME and CALGEN of its descriptor, its stored elements, a damaged line
buffer (R421, R424). -/
structure PpLine where
  flags : Nat
  cnt : Nat
  seq : Nat
  time : Nat
  calgen : Nat
  vals : List Nat
  bad : Bool
  deriving DecidableEq, Repr

/-- An output row that a PP.STREAM holds in D: its FP32 results, how many of them were flushed (R369, R380). -/
structure OutRow where
  bits : List Nat
  flushed : Nat
  deriving DecidableEq, Repr

/-- A Pepper engine (R343, R417 to R425): its queue of ops, first running; of a running PP.STREAM the format of its input, W, the
lines consumed, the output rows that D holds by their place, and of the rows overwritten since the nonzero and the flushed results. -/
structure PpX where
  q : List Nat
  fmt : Nat
  w : Nat
  lines : List PpLine
  outs : List (Nat × OutRow)
  nz : Nat
  flushed : Nat
  deriving DecidableEq, Repr

/-- A migration of a slot (R572 to R578). -/
structure Mig where
  slot : Nat
  src : Nat
  dst : Nat
  upper : Bool
  cp : Nat
  retire : Bool
  deriving DecidableEq, Repr

/-- A fabric block sent and not yet acknowledged, with the retries counted for it. -/
structure Sent where
  blk : Block
  tries : Nat
  deriving DecidableEq, Repr

/-- The transmit coefficients of a lane (Table 14.3, EQ; R613): preset and the single steps applied since. -/
structure EqTap where
  preset : Nat
  pre : Int
  post : Int
  deriving DecidableEq, Repr

/-- A fabric port (R602 to R615): next SEQ to send and to accept, unacknowledged blocks, NAK sent since the last accepted
block, accepted blocks not yet acknowledged and the time of the first, time of the last acknowledgement progress, time of the last
latency measurement (R75), start of the training in progress (R615), credits of the three buffers at the partner, received blocks and blocks to send with their times, control words to send (0 ACK, 1 NAK
with a SEQ, 2 CRD with a buffer, 3 RESYNC), whether it holds its buffer after an escalation, lanes declared permanently
faulty, trainings failed in a row. -/
structure Port where
  txSeq : Nat
  rxSeq : Nat
  replay : List Sent
  nakSent : Bool
  unacked : Nat
  unackedAt : Nat
  progressAt : Nat
  credits : List Nat
  rx : List (Block × Nat)
  tx : List (Block × Nat)
  ctl : List (Nat × Nat)
  again : Nat
  esc : Bool
  declared : Bool
  fails : Nat
  turn : Nat
  latAt : Nat
  trainAt : Nat
  eq : List EqTap
  out : Option Block
  deriving DecidableEq, Repr

/-- A fabric or host-page key kept by the trust unit: its epoch, its bytes, and when it stopped being current (R713). -/
structure HeldKey where
  epoch : Nat
  key : List Byte
  retired : Option Nat
  deriving DecidableEq, Repr

/-- The keys of a partition (R708 to R718): ERA, domain seed, fabric keys, host-page keys, page counter, fabric counter. -/
structure Keys where
  era : Nat
  seed : Option (List Byte)
  fab : List HeldKey
  host : List HeldKey
  hctr : Nat
  deriving DecidableEq, Repr

/-- An MSI-X state of a function (R654): table entries by byte offset, enable, function mask, pending bits, vectors raised. -/
structure Msix where
  table : Sparse Byte
  enable : Bool
  mask : Bool
  pend : List Nat
  raised : Sparse Nat
  deriving DecidableEq, Repr

/-- A record waiting for its event ring (R659, R661). -/
structure EvRec where
  type : Nat
  time : Nat
  body : List Byte
  deriving DecidableEq, Repr

/-- An event ring of a function. -/
structure EvRing where
  q : List EvRec
  cons : Nat
  readAt : Option Nat
  stopped : Bool
  intAt : Option Nat
  intPend : Bool
  deriving DecidableEq, Repr

/-- The PCI Express endpoint: functions enumerated, configuration space words written, MSI-X, the reply to the last request,
a request scan in progress. -/
structure Pcie where
  nfunc : Option Nat
  cfg : Sparse (BitVec 32)
  msix : Sparse Msix
  reply : List Byte
  status : Nat
  scan : Option (Nat × Nat)
  aer : Nat
  deriving DecidableEq, Repr

/-- A domain entry of the sealed area (Table 16.3). -/
structure DomEnt where
  dom : Nat
  seedOk : Bool
  highEra : Nat
  seed : List Byte
  deriving DecidableEq, Repr

/-- The trust unit (R707 to R746): the device root, the selected configuration record and the one in effect since power-up
(R720, R723), its slot, the domain entries and the ERA floor, random outputs drawn, the running and the staged image (digest,
VERSION, LOADADDR, length of header and body, ENTRY), measurements, log digest and count, a claim package to look at, the result of
the command in progress, the report being signed, the nonce of a pending request, the debug challenge, a token being verified, the
always-on time at which debug relocks, TELEM at power-up. -/
structure Trust where
  root : List Byte
  record : Option (List Byte)
  eff : Option (List Byte)
  slotB : Bool
  doms : List DomEnt
  eraFloor : Nat
  drawn : Nat
  rundig : List Byte
  runver : Nat
  runaddr : Nat
  runlen : Nat
  runentry : Nat
  stagedig : List Byte
  stagever : Nat
  stageaddr : Nat
  stagelen : Nat
  stageentry : Nat
  supmeas : List Byte
  cmeas : List (List Byte)
  logdig : List Byte
  logn : Nat
  claim : Option Nat
  result : Option Nat
  signing : Option (List Byte)
  pending : Option (List Byte)
  challenge : Option (List Byte)
  token : Bool
  unlockEnd : Option Nat
  telem : Bool
  deriving DecidableEq, Repr

/-- A teardown in progress (R736, R737). -/
structure Tear where
  step : Nat
  t1 : Nat
  t4 : Nat
  fabCur : Nat
  hCur : Nat
  jobs : Nat
  dies : Nat
  epdisc : Nat
  scrubbed : Bool
  deriving DecidableEq, Repr

/-- Power, sleep and clocks (R748 to R786): whether power is good, boot step (1 on FIRC, 2 record selected, 3 channels trained),
the sleep state requested, the one the clusters are stopped for (0 awake), pending wake events (source, sub), whether DDR5 was in
self-refresh at the sleep request, target levels of switches, levels that throttling lowers clusters to, clusters whose level rises
again, last sensor readings, a thermal entry, clusters being cleared (R705), fractions of an always-on tick. -/
structure Pmu where
  on : Bool
  boot : Nat
  req : Nat
  asleep : Nat
  wakes : List (Nat × Nat)
  svSr : Bool
  target : Sparse Nat
  cap : Sparse Nat
  raising : List Nat
  temps : List Int
  thermal : Bool
  clearing : List Nat
  tick32 : Nat
  deriving DecidableEq, Repr

/-- The pins, the test access port and the SMBus port (R816 to R832): GPIO levels driven from outside, TEST_EN, the opcode in the
test instruction register, the boundary cells, the data register that the instruction selects, the last SMBus reply (empty where the
port did not answer), the SMBus address sampled at power-up. -/
structure Pins where
  gpio : W16
  test : Bool
  ir : Byte
  cells : Nat
  dr : Nat
  smb : List Byte
  smbAddr : Byte
  deriving DecidableEq, Repr

/-- A register access held at a stopped clock domain (R752). -/
structure Held where
  src : Src
  off : Nat
  be : BitVec 8
  v : W64
  deriving DecidableEq, Repr

/-- The reasons a command stops the model. -/
inductive Fault where
  /-- Raised by every meaning whose operand names a unit, a thread, a register or a partition that the device does not have
  (an axis above 3, a cluster above 5). No such command exists on the hardware; the stop is safe. -/
  | noSuchUnit
  deriving DecidableEq, Repr

/-- The reasons a command has no meaning. -/
inductive Refusal where
  /-- Raised by the dispatch of a command that has no meaning yet; safe. -/
  | notModelled (mnemonic : String)
  deriving DecidableEq, Repr

/-- The state of the block. -/
structure State where
  /-- The commands that wait, first in, first out. -/
  pending : List Instr
  /-- The model's own counter of free values (log entry 2). -/
  freeCtr : Nat
  /-- PTB_TIME: ticks of 2.5 ns (R49). -/
  time : Nat
  /-- Every register, by offset in the register region. -/
  regs : Sparse W64
  /-- The upper halves latched by 4-byte reads with a side effect (R803). -/
  latch : W64
  /-- The value that the last register read returned. -/
  lastRd : W64
  /-- Counts as they stood at the last snapshot (R739). -/
  snap : Sparse W64
  /-- Register accesses held at stopped domains (R752). -/
  held : List Held
  /-- Bytes of device memory. -/
  mem : Sparse Byte
  /-- Check bits of the lines and bursts, by address / 64. -/
  lines : Sparse LineMeta
  /-- Bytes of host memory. -/
  host : Sparse Byte
  /-- Bytes of the flash. -/
  flash : Sparse Byte
  axes : Sparse AxisX
  outs : Sparse OutX
  /-- Slots whose REMAIN was 0 at arming (R57). -/
  noLimit : List Nat
  bcastSeq : Nat
  /-- PTB_TIME of the last position packet of the owner. -/
  bcastAt : Nat
  /-- Source and number of the position packets last used, newest first (R73). -/
  posSeqs : List (Nat × Nat)
  /-- The 4,000-tick interval of PTB_TIME in which the velocities were last updated (R51). -/
  velN : Nat
  cams : Sparse Cam
  rings : Sparse Ring
  cals : Sparse Cal
  jes : Jes
  conLim : Sparse Lim
  hist : List HistEntry
  /-- The queued jobs, in creation order. -/
  queued : List Job
  jseqs : Sparse Nat
  born : Nat
  dies : Sparse Die
  vrings : Sparse VRing
  ctxs : Sparse Ctx
  clus : Sparse Clu
  sems : Sparse Sem
  threads : Sparse Thread
  /-- Instructions retired by each core since its last counted operation (Table 15.2). -/
  retired : Sparse Nat
  pevt : Sparse W64
  sup : Sup
  ops : List Op
  opCount : Nat
  lfsr : Sparse (BitVec 32)
  tiles : Sparse TileX
  pps : Sparse PpX
  /-- The op that each cluster's expander served last (R537). -/
  expTurn : Sparse Nat
  pools : Sparse (List Nat)
  mig : Option Mig
  /-- PTB_TIME at each channel's last training. -/
  trained : Sparse Nat
  /-- PTB_TIME at the start of the last rotation (R576). -/
  rotAt : Nat
  scrubQ : List Nat
  pendAdv : List Nat
  resid : Sparse (List Nat)
  ports : Sparse Port
  /-- Remote writes with a block that failed: sender, domain, reason (R626, R638). -/
  wrFail : List (Nat × Nat × Nat)
  keys : Sparse Keys
  pcie : Pcie
  evrings : Sparse EvRing
  recs : Sparse ErrRec
  health : Sparse UnitH
  badLines : Sparse Nat
  spares : Sparse Nat
  groupsOut : List Nat
  trust : Trust
  tear : Sparse Tear
  pmu : Pmu
  pins : Pins
  deriving DecidableEq, Repr

/-- No record yet. -/
def lim0 : Lim := ⟨none, 0⟩

/-- An encoder axis after reset (log entry 3). -/
def axis0 : AxisX := ⟨false, false, none, none, none, false, 0, 0, [], lim0, 0, 0, 0, 0, none, 0⟩

/-- An output after reset. -/
def out0 : OutX := ⟨[], none, none⟩

/-- An idle uplink. -/
def uplink0 : Uplink := ⟨0, false, false, 0⟩

/-- A camera after reset. -/
def cam0 : Cam := ⟨false, none, [], [], none, none, 0, 0, none, [], uplink0, lim0, [], none, false, 0⟩

/-- An ingest ring after reset. -/
def ring0 : Ring := ⟨0, false⟩

/-- A calibration table that was never loaded (R125). -/
def cal0 : Cal := ⟨[], 0, [], [], 0, false, true, false, false⟩

/-- The JESD204C receiver after reset. -/
def jes0 : Jes := ⟨false, none, false, []⟩

/-- No job. -/
def job0 : Job := ⟨0, 0, 0, false, 0, false, 0, 0, 0, 0, 0, 0, 0, 0, 0, 0, 0, [], 0, 0, 0, 0⟩

/-- A free die entry. -/
def die0 : Die := ⟨.free, 0, 0, 0, 0, false, 0, none, false, 0, 0, none, 0, 0, 0, false, false, false, false, 0⟩

/-- An empty ring. -/
def vring0 : VRing := ⟨[], 0, none, false, none, [], 0⟩

/-- A free context. -/
def ctx0 : Ctx := ⟨.free, job0, 0, 0, 0, 0, 0, 0, false, false, []⟩

/-- An idle scheduler. -/
def clu0 : Clu := ⟨none, 0, none, false, none, false, false, 0⟩

/-- A semaphore with every unit free. -/
def sem0 : Sem := ⟨[], []⟩

/-- A thread at its start: every register zero (R240, R242). -/
def thread0 : Thread := ⟨[], [], [], 0, 0, 0, 0, 0, [], 0, .none, 0, [], false⟩

/-- No record. -/
def err0 : ErrRec := ⟨0, 0, 0, 0, 0, 0, 0, 0, 0, 0, 0, [], 0, 0⟩

/-- No count. -/
def unit0 : UnitH := ⟨0, 0, []⟩

/-- An empty tile. -/
def tile0 : TileX := ⟨none, none⟩

/-- An idle Pepper engine. -/
def pp0 : PpX := ⟨[], 0, 0, [], [], 0, 0⟩

/-- A fabric port after reset: no block sent or expected yet, no credit. -/
def port0 : Port := ⟨0, 0, [], false, 0, 0, 0, [0, 0, 0], [], [], [], 0, false, false, 0, 0, 0, 0, [⟨0, 0, 0⟩, ⟨0, 0, 0⟩], none⟩

/-- No keys. -/
def keys0 : Keys := ⟨0, none, [], [], 0⟩

/-- MSI-X not enabled. -/
def msix0 : Msix := ⟨[], false, false, [], []⟩

/-- The endpoint before boot. -/
def pcie0 : Pcie := ⟨none, [], [], [], 0, none, 0⟩

/-- An empty event ring. -/
def evring0 : EvRing := ⟨[], 0, none, false, none, false⟩

/-- The trust unit at power-up (R730, R731: measurements and log digest zero). -/
def trust0 : Trust :=
  { root := [], record := none, eff := none, slotB := false, doms := [], eraFloor := 0, drawn := 0, rundig := [], runver := 0,
    runaddr := 0, runlen := 0, runentry := 0, stagedig := [], stagever := 0, stageaddr := 0, stagelen := 0, stageentry := 0,
    supmeas := List.replicate 32 0, cmeas := List.replicate 6 (List.replicate 32 0), logdig := List.replicate 32 0, logn := 0,
    claim := none, result := none, signing := none, pending := none, challenge := none, token := false, unlockEnd := none,
    telem := false }

/-- No teardown. -/
def tear0 : Tear := ⟨0, 0, 0, 0, 0, 0, 0, 0, false⟩

/-- Power off. -/
def pmu0 : Pmu :=
  { on := false, boot := 0, req := 0, asleep := 0, wakes := [], svSr := false, target := [], cap := [],
    raising := [], temps := [], thermal := false, clearing := [], tick32 := 0 }

/-- The pins before power-up. -/
def pins0 : Pins := ⟨0, false, 1, 0, 0x106485C5, [], 0x58⟩

/-- The supervisor pair before power-up. -/
def sup0 : Sup := ⟨.off, 0, 0, 0, 0, [], 0, 0⟩

/-- The value of an unlisted flash byte: erased (log entry 5). -/
def flash0 : Byte := 0xFF

/-- The block right after reset: power off, every register at its reset value, nothing listed (log entries 1 to 5). -/
def State.reset : State :=
  { pending := [], freeCtr := 0, time := 0, regs := [], latch := 0, lastRd := 0, snap := [], held := [], mem := [], lines := [],
    host := [], flash := [], axes := [], outs := [], noLimit := [], bcastSeq := 0, bcastAt := 0, posSeqs := [], velN := 0, cams := [], rings := [],
    cals := [], jes := jes0, conLim := [], hist := [], queued := [], jseqs := [], born := 0, dies := [], vrings := [],
    ctxs := [], clus := [], sems := [], threads := [], retired := [], pevt := [], sup := sup0, ops := [], opCount := 0, lfsr := [],
    tiles := [], pps := [], expTurn := [], pools := [], mig := none, trained := [], rotAt := 0, scrubQ := [],
    pendAdv := [], resid := [], ports := [], wrFail := [], keys := [],
    pcie := pcie0, evrings := [], recs := [], health := [], badLines := [], spares := [], groupsOut := [], trust := trust0,
    tear := [], pmu := pmu0, pins := pins0 }

end Sys2Proof.Machine
end

