-- ==== Sys2Proof/Machine/Ops.lean ====
section
/-! DEFINITION. The named operations over registers, unit state, time, error records, events and interrupts. -/

namespace Sys2Proof.Machine

open Sys2Proof

/-! ## Registers -/

/-- Read a register. -/
def State.rd (s : State) (off : Nat) : W64 := Sparse.get resetOf s.regs off

/-- Write a register. -/
def State.wr (s : State) (off : Nat) (v : W64) : State := { s with regs := Sparse.set resetOf s.regs off v }

/-- Read field [hi:lo] of a register. -/
def State.rf (s : State) (off hi lo : Nat) : Nat := fld (s.rd off) hi lo

/-- Read bit i of a register. -/
def State.rb (s : State) (off i : Nat) : Bool := bit (s.rd off) i

/-- Write field [hi:lo] of a register. -/
def State.wf (s : State) (off hi lo x : Nat) : State := s.wr off (setFld (s.rd off) hi lo x)

/-- Write bit i of a register. -/
def State.wb (s : State) (off i : Nat) (b : Bool) : State := s.wf off i i b.toNat

/-- Add to a saturating field of a register. -/
def State.sat (s : State) (off hi lo n : Nat) : State := s.wr off (satFld (s.rd off) hi lo n)

/-- Add to a wrapping field of a register. -/
def State.inc (s : State) (off hi lo n : Nat) : State := s.wr off (wrapFld (s.rd off) hi lo n)

/-- Give back their reset values to the registers of a set of offsets. -/
def State.resetRegs (s : State) (p : Nat → Bool) : State := { s with regs := Sparse.keep (fun k => !p k) s.regs }

/-- Replace the register bits that a write sets and clear the bits that writing 1 clears (R802, R803). -/
def storeReg (row : RegRow) (old v : W64) (be : BitVec 8) : W64 :=
  let bm := byteMask be
  (((old &&& ~~~ (row.rw &&& bm)) ||| (v &&& row.rw &&& bm)) &&& ~~~ (row.w1c &&& v &&& bm))

/-! ## Unit state -/

/-- An encoder axis. -/
def State.axis (s : State) (n : Nat) : AxisX := Sparse.get (fun _ => axis0) s.axes n
/-- Set an encoder axis. -/
def State.setAxis (s : State) (n : Nat) (x : AxisX) : State := { s with axes := Sparse.set (fun _ => axis0) s.axes n x }
/-- An output. -/
def State.out (s : State) (o : Nat) : OutX := Sparse.get (fun _ => out0) s.outs o
/-- Set an output. -/
def State.setOut (s : State) (o : Nat) (x : OutX) : State := { s with outs := Sparse.set (fun _ => out0) s.outs o x }
/-- A camera. -/
def State.cam (s : State) (k : Nat) : Cam := Sparse.get (fun _ => cam0) s.cams k
/-- Set a camera. -/
def State.setCam (s : State) (k : Nat) (x : Cam) : State := { s with cams := Sparse.set (fun _ => cam0) s.cams k x }
/-- An ingest ring. -/
def State.ring (s : State) (r : Nat) : Ring := Sparse.get (fun _ => ring0) s.rings r
/-- Set an ingest ring. -/
def State.setRing (s : State) (r : Nat) (x : Ring) : State := { s with rings := Sparse.set (fun _ => ring0) s.rings r x }
/-- A calibration table. -/
def State.cal (s : State) (t : Nat) : Cal := Sparse.get (fun _ => cal0) s.cals t
/-- Set a calibration table. -/
def State.setCal (s : State) (t : Nat) (x : Cal) : State := { s with cals := Sparse.set (fun _ => cal0) s.cals t x }
/-- A die entry. -/
def State.die (s : State) (e : Nat) : Die := Sparse.get (fun _ => die0) s.dies e
/-- Set a die entry. -/
def State.setDie (s : State) (e : Nat) (x : Die) : State := { s with dies := Sparse.set (fun _ => die0) s.dies e x }
/-- A verdict ring. -/
def State.vring (s : State) (v : Nat) : VRing := Sparse.get (fun _ => vring0) s.vrings v
/-- Set a verdict ring. -/
def State.setVring (s : State) (v : Nat) (x : VRing) : State := { s with vrings := Sparse.set (fun _ => vring0) s.vrings v x }
/-- Context x of cluster c. -/
def State.ctx (s : State) (c x : Nat) : Ctx := Sparse.get (fun _ => ctx0) s.ctxs (c * 128 + x)
/-- Set context x of cluster c. -/
def State.setCtx (s : State) (c x : Nat) (v : Ctx) : State := { s with ctxs := Sparse.set (fun _ => ctx0) s.ctxs (c * 128 + x) v }
/-- The scheduler of cluster c. -/
def State.clu (s : State) (c : Nat) : Clu := Sparse.get (fun _ => clu0) s.clus c
/-- Set the scheduler of cluster c. -/
def State.setClu (s : State) (c : Nat) (x : Clu) : State := { s with clus := Sparse.set (fun _ => clu0) s.clus c x }
/-- A semaphore: cluster c's S number i has key c * 256 + i, device semaphore Gi has key 1536 + i. -/
def State.sem (s : State) (k : Nat) : Sem := Sparse.get (fun _ => sem0) s.sems k
/-- Set a semaphore. -/
def State.setSem (s : State) (k : Nat) (x : Sem) : State := { s with sems := Sparse.set (fun _ => sem0) s.sems k x }
/-- The device ID. -/
def State.fabId (s : State) : Nat := s.rf Addr.fabCfg 8 0
/-- The domain of a partition; 0 none. -/
def State.domOf (s : State) (p : Nat) : Nat := if p = 0 then 0 else s.rf (Addr.fabPartDom p) 7 0
/-- A thread, by bits [41:32] of its tickets (R315). -/
def State.thread (s : State) (t : Nat) : Thread := Sparse.get (fun _ => thread0) s.threads t
/-- Set a thread. -/
def State.setThread (s : State) (t : Nat) (x : Thread) : State :=
  { s with threads := Sparse.set (fun _ => thread0) s.threads t x }
/-- SY_PEVT of core c (7: the supervisor pair). -/
def State.pend (s : State) (c : Nat) : W64 := Sparse.get (fun _ => 0) s.pevt c
/-- Set SY_PEVT of core c. -/
def State.setPend (s : State) (c : Nat) (v : W64) : State := { s with pevt := Sparse.set (fun _ => 0) s.pevt c v }
/-- A matrix tile. -/
def State.tile (s : State) (k : Nat) : TileX := Sparse.get (fun _ => tile0) s.tiles k
/-- Set a matrix tile. -/
def State.setTile (s : State) (k : Nat) (x : TileX) : State := { s with tiles := Sparse.set (fun _ => tile0) s.tiles k x }
/-- A Pepper engine. -/
def State.pp (s : State) (n : Nat) : PpX := Sparse.get (fun _ => pp0) s.pps n
/-- Set a Pepper engine. -/
def State.setPp (s : State) (n : Nat) (x : PpX) : State := { s with pps := Sparse.set (fun _ => pp0) s.pps n x }
/-- The free objects of a pool, next first. -/
def State.pool (s : State) (k : Nat) : List Nat := Sparse.get (fun _ => []) s.pools k
/-- Set the free objects of a pool. -/
def State.setPool (s : State) (k : Nat) (x : List Nat) : State := { s with pools := Sparse.set (fun _ => []) s.pools k x }
/-- The residency table of cluster c (R592). -/
def State.res (s : State) (c : Nat) : List Nat := Sparse.get (fun _ => []) s.resid c
/-- Set the residency table of cluster c. -/
def State.setRes (s : State) (c : Nat) (x : List Nat) : State :=
  let s := { s with resid := Sparse.set (fun _ => []) s.resid c x }
  s.wf (Addr.dmRes c) 6 0 x.length
/-- A fabric port. -/
def State.port (s : State) (q : Nat) : Port := Sparse.get (fun _ => port0) s.ports q
/-- Set a fabric port. -/
def State.setPort (s : State) (q : Nat) (x : Port) : State := { s with ports := Sparse.set (fun _ => port0) s.ports q x }
/-- The keys of partition p. -/
def State.key (s : State) (p : Nat) : Keys := Sparse.get (fun _ => keys0) s.keys p
/-- Set the keys of partition p. -/
def State.setKey (s : State) (p : Nat) (x : Keys) : State := { s with keys := Sparse.set (fun _ => keys0) s.keys p x }
/-- The MSI-X state of function f. -/
def State.msi (s : State) (f : Nat) : Msix := Sparse.get (fun _ => msix0) s.pcie.msix f
/-- Set the MSI-X state of function f. -/
def State.setMsi (s : State) (f : Nat) (x : Msix) : State :=
  { s with pcie := { s.pcie with msix := Sparse.set (fun _ => msix0) s.pcie.msix f x } }
/-- The event ring of function f. -/
def State.evring (s : State) (f : Nat) : EvRing := Sparse.get (fun _ => evring0) s.evrings f
/-- Set the event ring of function f. -/
def State.setEvring (s : State) (f : Nat) (x : EvRing) : State :=
  { s with evrings := Sparse.set (fun _ => evring0) s.evrings f x }
/-- The health counts of unit u of kind k. -/
def State.hu (s : State) (k u : Nat) : UnitH := Sparse.get (fun _ => unit0) s.health (k * 4096 + u)
/-- Set the health counts of unit u of kind k. -/
def State.setHu (s : State) (k u : Nat) (x : UnitH) : State :=
  { s with health := Sparse.set (fun _ => unit0) s.health (k * 4096 + u) x }
/-- A stochastic-rounding LFSR (R361: 0x0000_0001 at reset). -/
def State.lf (s : State) (k : Nat) : BitVec 32 := Sparse.get (fun _ => 1) s.lfsr k
/-- Set an LFSR. -/
def State.setLf (s : State) (k : Nat) (v : BitVec 32) : State := { s with lfsr := Sparse.set (fun _ => 1) s.lfsr k v }
/-- The teardown of partition p. -/
def State.td (s : State) (p : Nat) : Tear := Sparse.get (fun _ => tear0) s.tear p
/-- Set the teardown of partition p. -/
def State.setTd (s : State) (p : Nat) (x : Tear) : State := { s with tear := Sparse.set (fun _ => tear0) s.tear p x }

/-- Take a fresh number for a free value. -/
def State.fresh (s : State) : Nat × State := (s.freeCtr, { s with freeCtr := s.freeCtr + 1 })

/-! ## Threads -/

/-- Bits [41:32] of the tickets of thread x of cluster c: x 0 to 63 a context, 64 the base thread (R315). -/
def tid (c x : Nat) : Nat := c * 128 + x

/-- The supervisor thread (R315: thread 65, cluster 7). -/
def supTid : Nat := 961

/-- The cluster of a thread; 7 for the supervisor thread. -/
def thClu (t : Nat) : Nat := t / 128

/-- The context of a thread, 64 for a base thread, 65 for the supervisor thread. -/
def thCtx (t : Nat) : Nat := t % 128

/-- A thread number that exists. -/
def okTid (t : Nat) : Bool := (thClu t < 6 && thCtx t ≤ 64) || t == supTid

/-- The execution classes (R236). -/
inductive Class where
  | job
  | base
  | sup
  deriving DecidableEq, Repr

/-- The class of a thread. -/
def thClass (t : Nat) : Class := if t = supTid then .sup else if thCtx t = 64 then .base else .job

/-- g register n of a thread: g0 reads zero (R239). -/
def Thread.gr (t : Thread) (n : Reg) : W64 := if n = 0 then 0 else Sparse.get (fun _ => 0) t.g n.toNat

/-- Write a g register; a write of g0 is discarded. -/
def Thread.setG (t : Thread) (n : Reg) (v : W64) : Thread :=
  if n = 0 then t else { t with g := Sparse.set (fun _ => 0) t.g n.toNat v }

/-- p register n: p0 reads 1. -/
def Thread.pr (t : Thread) (n : BitVec 3) : Bool := if n = 0 then true else Sparse.get (fun _ => false) t.p n.toNat

/-- Write a p register; a write of p0 is discarded. -/
def Thread.setP (t : Thread) (n : BitVec 3) (v : Bool) : Thread :=
  if n = 0 then t else { t with p := Sparse.set (fun _ => false) t.p n.toNat v }

/-- Descriptor register n. -/
def Thread.dr (t : Thread) (n : BitVec 4) : BitVec 256 := Sparse.get (fun _ => 0) t.d n.toNat

/-- Write a descriptor register. -/
def Thread.setD (t : Thread) (n : BitVec 4) (v : BitVec 256) : Thread :=
  { t with d := Sparse.set (fun _ => 0) t.d n.toNat v }

/-- An address of the program counter: [1:0] and [63:48] zero (Table 6.2). -/
def pcOf (v : W64) : W64 := v &&& 0x0000FFFFFFFFFFFC

/-- Write a g register of a thread of the state. -/
def State.setG (s : State) (t : Nat) (n : Reg) (v : W64) : State := s.setThread t ((s.thread t).setG n v)

/-- Clear a thread's wait. -/
def State.wake (s : State) (t : Nat) : State := s.setThread t { s.thread t with wait := .none }

/-! ## Partitions, clusters, clocks -/

/-- The partition of cluster c, 0 none (CLU_STAT.PART). -/
def State.cluPart (s : State) (c : Nat) : Nat := s.rf (Addr.cluStat c) 2 0

/-- Cluster c is in service (R679, CLU_STAT.INSERV). -/
def State.cluLive (s : State) (c : Nat) : Bool := s.rb (Addr.cluStat c) 8

/-- The partition of a thread; 0 for the supervisor thread. -/
def State.thPart (s : State) (t : Nat) : Nat := if t = supTid then 0 else s.cluPart (thClu t)

/-- The clusters of partition p, in order. -/
def State.partClus (s : State) (p : Nat) : List Nat := (List.range 6).filter fun c => s.cluPart c == p

/-- TRU_PARTp_STAT.STATE: 0 FREE, 1 ACTIVE, 2 TEARDOWN. -/
def State.partState (s : State) (p : Nat) : Nat := s.rf (Addr.truPartStat p) 1 0

/-- Bit i of CLK_LIVE: the clock of a domain runs (R748). -/
def State.clk (s : State) (i : Nat) : Bool := s.rb Addr.clkLive i

/-- The clock of the position timebase runs. -/
def State.ptbOn (s : State) : Bool := s.clk 8

/-- The clock of the ingest unit runs. -/
def State.ingOn (s : State) : Bool := s.clk 9

/-- The clock of the mesh runs. -/
def State.meshOn (s : State) : Bool := s.clk 7

/-- An OWNER field: values 5 to 7 are treated as 0. -/
def ownerOf (x : Nat) : Nat := if x ≤ 4 then x else 0

/-- The owner of camera k (R26). -/
def State.camOwner (s : State) (k : Nat) : Nat := ownerOf (s.rf (Addr.cxpCamCfg k) 30 28)

/-- The owner of the JESD204C link (R26). -/
def State.jesOwner (s : State) : Nat := ownerOf (s.rf Addr.jesCfg 58 56)

/-- The scan axis of partition p; axis 0 where the partition is none. -/
def State.scanAxis (s : State) (p : Nat) : Nat := if p = 0 then 0 else s.rf (Addr.ptbPartScan p) 1 0

/-- The counter of axis n. -/
def State.cnt (s : State) (n : Nat) : Cnt := cntOf (s.rd (Addr.ptbAxCnt n))

/-- The four counters. -/
def State.cnts (s : State) : List Cnt := (List.range 4).map s.cnt

/-- PTB_AXn_STAT.LOST. -/
def State.axLost (s : State) (n : Nat) : Bool := s.rb (Addr.ptbAxStat n) 7

/-- The four LOST bits. -/
def State.losts (s : State) : List Bool := (List.range 4).map s.axLost

/-- PTB_AXn_VEL.VALID. -/
def State.velValid (s : State) (n : Nat) : Bool := s.rb (Addr.ptbAxVel n) 32

/-- The velocity of axis n, Q16.16 counts per microsecond. -/
def State.vel (s : State) (n : Nat) : Int := (BitVec.ofNat 32 (s.rf (Addr.ptbAxVel n) 31 0)).toInt

/-! ## Interrupts and events -/

/-- Raise MSI-X vector v of function f (R654): nothing while MSI-X is not enabled, a pending bit while it is masked. -/
def State.raiseMsi (s : State) (f v : Nat) : State :=
  let m := s.msi f
  if !m.enable then s
  else if m.mask || (Sparse.get (fun i => if i % 16 = 12 then 1 else 0) m.table (v * 16 + 12)).getLsbD 0 then
    s.setMsi f { m with pend := if m.pend.contains v then m.pend else m.pend ++ [v] }
  else s.setMsi f { m with raised := Sparse.set (fun _ => 0) m.raised v (Sparse.get (fun _ => 0) m.raised v + 1) }

/-- Deliver an event to the supervisor pair: it leaves YIELD (R278). -/
def State.supEvent (s : State) : State :=
  match (s.thread supTid).wait with
  | .idle => s.wake supTid
  | _ => s

/-- Put a record into the queue of function f's event ring (R659, R661); the answer is whether there was room. -/
def State.evPush (s : State) (f type : Nat) (body : List Byte) : Bool × State :=
  let r := s.evring f
  if r.q.length < 256 then (true, s.setEvring f { r with q := r.q ++ [⟨type, s.time, fit 48 body⟩] })
  else (false, s.sat (Addr.pciFnStat f) 63 32 1)

/-- The bytes of an error record (Table 15.4). -/
def ErrRec.bytes (r : ErrRec) : List Byte :=
  bytesOf 4 r.hseq ++ bytesOf 1 r.kind ++ bytesOf 1 r.cond ++ bytesOf 1 r.sev ++ bytesOf 1 r.part ++ bytesOf 2 r.unit ++
  bytesOf 2 r.count ++ bytesOf 4 r.jseq ++ bytesOf 8 r.time ++ bytesOf 6 r.addr ++ bytesOf 2 r.sub ++ fit 16 r.detail ++
  bytesOf 8 r.tlast ++ bytesOf 1 r.dlv ++ zeros 7

/-- Condition codes (Table 15.5). -/
inductive Cond where
  | detect | exhaust | lost | suspect | retire | spare | corrupt | lockstep | watchdog | fault | signal | access | config
  | floor | noSpare | damaged | thread
  deriving DecidableEq, Repr

/-- The code of a condition. -/
def Cond.code : Cond → Nat
  | .detect => 1 | .exhaust => 2 | .lost => 3 | .suspect => 4 | .retire => 5 | .spare => 6 | .corrupt => 7 | .lockstep => 8
  | .watchdog => 9 | .fault => 10 | .signal => 11 | .access => 12 | .config => 13 | .floor => 14 | .noSpare => 15
  | .damaged => 16 | .thread => 17

/-- The severity of a condition (Table 15.4: 0 recovered, 1 data lost, 2 unit retired, 3 notice). DESIGN CHOICE where no
chapter names it (log entry 9). -/
def Cond.sev : Cond → Nat
  | .detect => 0 | .exhaust => 0 | .lost => 1 | .retire => 2 | .corrupt => 1 | .damaged => 0 | .lockstep => 0
  | _ => 3

/-- What a record says beside its time and serial number. -/
structure Report where
  kind : Nat
  cond : Cond
  unit : Nat
  part : Nat
  jseq : Nat
  addr : Nat
  sub : Nat
  detail : List Byte
  n : Nat

/-- A report with only its kind, condition, unit and partition. -/
def report (kind : Nat) (cond : Cond) (unit part : Nat) : Report := ⟨kind, cond, unit, part, 0, 0, 0, [], 1⟩

/-- The serial number after HSEQ h: from 1, wrapping to 1 (R685). -/
def nextSerial (h : Nat) : Nat := if h + 1 ≥ 2 ^ 32 then 1 else h + 1

/-- Keep a new record in the ledger and place its host form in the event rings (R660, R685 to R689). -/
def State.newRec (s : State) (r : Report) : State :=
  let h := nextSerial (s.rf Addr.errHead 31 0)
  let e : ErrRec := ⟨h, r.kind, r.cond.code, r.cond.sev, r.part, r.unit, min r.n 65535, r.jseq, s.time, r.addr, r.sub,
    fit 16 r.detail, s.time, 0⟩
  let s := s.wf Addr.errHead 31 0 h
  let lo := 16 * e.sev
  let s := s.sat Addr.errCnt (lo + 15) lo 1
  let s := s.sat Addr.hltSummary 15 0 1
  let (k0, s) := s.evPush 0 1 (e.bytes.take 48)
  let (k1, s) := if r.part = 0 then (true, s) else s.evPush r.part 1 ({ e with addr := 0 }.bytes.take 48)
  let dlv := k0.toNat + 2 * (k1 && r.part != 0).toNat + 4 * (!k0 || !k1).toNat
  let s := { s with recs := Sparse.set (fun _ => err0) s.recs (h % 4096) { e with dlv := dlv } }
  if bit (s.rd Addr.errPevt) e.sev then s.supEvent else s

/-- A record that a new occurrence merges into (R687). -/
def ErrRec.takes (e : ErrRec) (r : Report) (now window : Nat) : Bool :=
  e.kind == r.kind && e.cond == r.cond.code && e.unit == r.unit && e.part == r.part && e.sev != 2 && decide (now ≤ e.time + window)

/-- Report an occurrence to the health ledger: merged into a record of the same kind, condition, unit and partition within
HLT_CFG.MERGE ms, else a new record (R687). -/
def State.record (s : State) (r : Report) : State :=
  let w := s.rf Addr.hltCfg 15 0
  match s.recs.find? fun e => w != 0 && e.2.takes r s.time (msTicks w) with
  | some (k, e) =>
    { s with recs := Sparse.set (fun _ => err0) s.recs k { e with count := satAdd 16 e.count r.n, tlast := s.time } }
  | none => s.newRec r

end Sys2Proof.Machine
end

