-- ==== Sys2Proof/Machine/Lines.lean ====
section
/-! DEFINITION. The device address map (R788), the placement of DDR5 addresses on channels (R560 to R563, R572), raw bytes and
check bits of lines and bursts. The checked accesses of readers and writers are in Machine/Mem.lean. -/

namespace Sys2Proof.Machine

open Sys2Proof

/-- The regions of Table 18.1. -/
inductive Region where
  | global
  | cluster (c : Nat)
  | tile (c t : Nat)
  | ddr
  | fabric
  | host
  | reg
  | none
  deriving DecidableEq, Repr

/-- Two addresses lie in one contiguous region: the same memory, or the tiles of one cluster. -/
def Region.joins : Region → Region → Bool
  | .tile c _, .tile k _ => c == k
  | x, y => x == y

/-- The first DDR5 address. -/
def ddrBase : Nat := 0x1000000000

/-- The capacity of DDR5 in full mode (R788). -/
def ddrCap : Nat := if Config.isD96 then 0x1800000000 else 0xC00000000

/-- The window base of cluster c. -/
def cluBase (c : Nat) : Nat := 0x10000000 + c * 0x2000000

/-- The region of a device address (Table 18.1). -/
def region (a : Nat) : Region :=
  if a < 0x1000000 then .global
  else if 0x10000000 ≤ a ∧ a < 0x1C000000 then
    let c := (a - 0x10000000) / 0x2000000
    let o := (a - 0x10000000) % 0x2000000
    if o < 0x800000 then .cluster c else if 0x1000000 ≤ o then .tile c ((o - 0x1000000) / 0x200000) else .none
  else if ddrBase ≤ a ∧ a < ddrBase + ddrCap then .ddr
  else if 0x7D0000000000 ≤ a ∧ a < 0x7E0000000000 then .fabric
  else if 0x7E0000000000 ≤ a ∧ a < 0x7F0000000000 then .host
  else if 0x7F0000000000 ≤ a ∧ a < 0x7F0004000000 then .reg
  else .none

/-- An on-chip SRAM address. -/
def onChip (a : Nat) : Bool := match region a with | .global | .cluster _ | .tile _ _ => true | _ => false

/-- The number of an SRAM group (R674). -/
def groupOf (a : Nat) : Nat :=
  match region a with
  | .global => a / 65536
  | .cluster c => 256 + 384 * c + (a - cluBase c) / 65536
  | .tile c t => 256 + 384 * c + 128 + 32 * t + (a - cluBase c - 0x1000000 - t * 0x200000) / 65536
  | _ => 0

/-- The capacity of one channel: a slot in full mode. -/
def chanCap : Nat := ddrCap / 24

/-- The slot of a DDR5 offset (R560). -/
def slotOf (o : Nat) : Nat := o / 1024 % 24

/-- The offset within the slot (R560). -/
def slotOff (o : Nat) : Nat := o / 24576 * 1024 + o % 1024

/-- The place of a byte on channel ch at offset o: a key of memory above every device address. -/
def chanKey (ch o : Nat) : Nat := 0x1000000000000 + ch * 0x10000000000 + o

/-- Channel and offset of slot n's byte o. -/
def State.slotKey (s : State) (n o : Nat) : Nat :=
  chanKey (s.rf (Addr.memSlot n) 4 0) (o + (if s.rb (Addr.memSlot n) 5 then chanCap / 2 else 0))

/-- The keys of a migration's target for slot offset o. -/
def Mig.key (m : Mig) (o : Nat) : Nat := chanKey m.dst (o + if m.upper then chanCap / 2 else 0)

/-- Slot offset o of slot n lies below the copy pointer of a migration of n (R572). -/
def State.copied (s : State) (n o : Nat) : Option Nat :=
  match s.mig with
  | some m => if m.slot = n ∧ o < m.cp * 4096 then some (m.key o) else none
  | none => none

/-- The memory key a read of a device address uses (R572). -/
def State.rkey (s : State) (a : Nat) : Nat :=
  match region a with
  | .ddr =>
    let n := slotOf (a - ddrBase)
    let o := slotOff (a - ddrBase)
    (s.copied n o).getD (s.slotKey n o)
  | _ => a

/-- The memory keys a write of a device address uses: both copies below the copy pointer (R572). -/
def State.wkeys (s : State) (a : Nat) : List Nat :=
  match region a with
  | .ddr =>
    let n := slotOf (a - ddrBase)
    let o := slotOff (a - ddrBase)
    s.slotKey n o :: (s.copied n o).toList
  | _ => [a]

/-- What an unlisted line reads as: on-chip lines invalid with tag 0 (R548, R780), bursts as the initial write left them
(R569). -/
def lineDefault (k : Nat) : LineMeta := ⟨decide (0x40000000000 ≤ k), 0, if 0x40000000000 ≤ k then 1 else 0, false, false⟩

/-- The check bits at a memory key. -/
def State.line (s : State) (k : Nat) : LineMeta := Sparse.get lineDefault s.lines (k / 64)

/-- Set the check bits at a memory key. -/
def State.setLine (s : State) (k : Nat) (m : LineMeta) : State := { s with lines := Sparse.set lineDefault s.lines (k / 64) m }

/-- The byte at a memory key: log entry 7, unwritten memory holds zero (R548, R569 read it as zero). -/
def State.byte (s : State) (k : Nat) : Byte := Sparse.get (fun _ => 0) s.mem k

/-- Set the byte at a memory key. -/
def State.setByte (s : State) (k : Nat) (v : Byte) : State := { s with mem := Sparse.set (fun _ => 0) s.mem k v }

/-- n bytes from a memory key. -/
def State.bytes (s : State) (k n : Nat) : List Byte := (List.range n).map fun i => s.byte (k + i)

/-- Write bytes from a memory key. -/
def State.setBytes (s : State) (k : Nat) : List Byte → State
  | [] => s
  | b :: t => (s.setByte k b).setBytes (k + 1) t

/-- The scrub region of a device address (256 MiB of DDR5 offset). -/
def scrubRegion (a : Nat) : Nat := (a - ddrBase) / 0x10000000

/-- The current generation of a region (R564). -/
def State.gen (s : State) (r : Nat) : Nat := s.rf (Addr.memGen r) 11 0

/-- The limit of usable DDR5 in the present mode (R562). -/
def State.ddrLimit (s : State) : Nat := if s.rb Addr.memCfg 1 then ddrCap / 2 else ddrCap

/-- A device address that memory answers: on-chip, or DDR5 below the limit of the mode (R562). -/
def State.memAddr (s : State) (a : Nat) : Bool :=
  match region a with
  | .global | .cluster _ | .tile _ _ => true
  | .ddr => decide (a - ddrBase < s.ddrLimit)
  | _ => false

/-- DDR5 answers an address: access enabled, channels not in self-refresh, slot not lost (R561, R580, R753). -/
def State.ddrUp (s : State) (a : Nat) : Bool :=
  s.rb Addr.memCfg 0 && !s.rb Addr.pmuStat 1 && !s.rb (Addr.memSlot (slotOf (a - ddrBase))) 6

/-- The bytes at a device address as they stand, without checks; what a device reader that cannot be refused sees. -/
def State.peek (s : State) (a n : Nat) : List Byte :=
  (List.range n).map fun i =>
    let k := s.rkey (a + i)
    let m := s.line k
    if !m.valid || (decide (region (a + i) = .ddr) && decide (m.gen ≠ s.gen (scrubRegion (a + i)))) then 0 else s.byte k

/-- A little-endian number at a device address, without checks. -/
def State.peekNat (s : State) (a n : Nat) : Nat := natOf (s.peek a n)

/-- Memory answers a read of a device address and its line or burst stands without a failure. -/
def State.sound (s : State) (a : Nat) : Bool :=
  let m := s.line (s.rkey a)
  s.memAddr a && !m.bad && !m.poison && (if onChip a then !s.groupsOut.contains (groupOf a) else s.ddrUp a)

/-- Change bytes of lines in place, keeping their tags: a device update of its own fields of an object. -/
def State.poke (s : State) (a : Nat) (bs : List Byte) : State :=
  (List.range bs.length).foldl (fun s i => (s.wkeys (a + i)).foldl (fun s k => s.setByte k (bs.getD i 0)) s) s

/-- One bit of CRC-64/ECMA-182. -/
def crc64Bit (h : BitVec 64) (b : Bool) : BitVec 64 := if h.getLsbD 63 != b then (h <<< 1) ^^^ 0x42F0E1EBA9EA3693 else h <<< 1

/-- CRC-64/ECMA-182 over bytes from an initial register (R478). -/
def crc64 (h : BitVec 64) (l : List Byte) : BitVec 64 :=
  l.foldl (fun h b => (List.range 8).foldl (fun h i => crc64Bit h (b.getLsbD (7 - i))) h) h

/-! ## Segments (R791, R792) -/

/-- Segment i of partition p as it stands; none while it is disabled. -/
def State.seg (s : State) (p i : Nat) : Option Seg :=
  let c := s.rd (Addr.glbSegCfg p i)
  if bit c 35 then
    some ⟨s.rf (Addr.glbSegPa p i) 47 16 * 65536, s.rf (Addr.glbSegTa p i) 47 16 * 65536, fld c 24 0 * 65536, bit c 32, bit c 33⟩
  else none

/-- The enabled segments of partition p. -/
def State.segsOf (s : State) (p : Nat) : List Seg := (List.range 32).filterMap (s.seg p)

/-- The kinds of access a segment permits. -/
inductive Acc where
  | read
  | write
  | atomic
  deriving DecidableEq, Repr

/-- A segment's permission for an access. -/
def Seg.allows (g : Seg) : Acc → Bool
  | .read => g.rd
  | .write => g.wr
  | .atomic => g.rd && g.wr

/-- Translate an address range through a list of segments: the one segment that contains all of it and permits the access. -/
def translate (segs : List Seg) (k : Acc) (a n : Nat) : Option Nat :=
  (segs.find? fun g => g.allows k && decide (g.pa ≤ a) && decide (a + n ≤ g.pa + g.size)).map fun g => g.ta + (a - g.pa)

/-- The device address of partition p's address a for an access of n bytes; the supervisor's addresses (p = 0) and the
register region are not translated (R790, R792). -/
def State.devAddr (s : State) (p : Nat) (k : Acc) (a n : Nat) : Option Nat :=
  if p = 0 ∨ 0x7F0000000000 ≤ a then some a else translate (s.segsOf p) k a n

/-- A device address as partition p's programs see it: through the first segment whose target holds it; the device address
itself where none does. -/
def State.asSeen (s : State) (p a : Nat) : Nat :=
  if p = 0 then a
  else match (s.segsOf p).find? fun g => decide (g.ta ≤ a) && decide (a < g.ta + g.size) with
    | some g => g.pa + (a - g.ta)
    | none => a

/-- The slot of the record copy of context x in cluster c (R240): 64 bytes in cluster SRAM; the place is not stated. -/
def recordSlot (c x : Nat) : Nat := cluBase c + Config.recordBase % 131008 * 64 + 64 * x

end Sys2Proof.Machine
end

