-- ==== Sys2Proof/Machine/Desc.lean ====
section
/-! DEFINITION. Tile descriptors, where their elements and tables lie (R300 to R308, R374), result areas (R314), and the
destination of an op that did not complete. -/

namespace Sys2Proof.Machine

open Sys2Proof

/-- Field [hi:lo] of a descriptor. -/
def dfld (v : BitVec 256) (hi lo : Nat) : Nat := (v.extractLsb' lo (hi + 1 - lo)).toNat

/-- A tile descriptor (Table 7.3); dimensions and strides as the fields hold them. -/
structure Desc where
  base : Nat
  fmt : Nat
  comp : Nat
  rank : Nat
  dim : List Nat
  stride : List Nat
  sref : Nat
  scl : Bool
  sdyn : Bool
  s2mode : Nat
  rot : Nat
  zp : Bool
  amx : Bool
  resv : Nat
  deriving DecidableEq, Repr

/-- The fields of a descriptor register. -/
def descOf (v : BitVec 256) : Desc :=
  { base := dfld v 47 0, fmt := dfld v 52 48, comp := dfld v 55 53, rank := dfld v 59 58,
    dim := [dfld v 75 60, dfld v 91 76, dfld v 107 92, dfld v 123 108],
    stride := [1, dfld v 147 124, dfld v 171 148, dfld v 195 172], sref := dfld v 227 196, scl := v.getLsbD 228,
    sdyn := v.getLsbD 229, s2mode := dfld v 231 230, rot := dfld v 233 232, zp := v.getLsbD 234, amx := v.getLsbD 235,
    resv := dfld v 255 236 }

/-- The size of dimension i: 1 from the rank up (R301). -/
def Desc.size (d : Desc) (i : Nat) : Nat := if i ≤ d.rank then d.dim.getD i 0 + 1 else 1

/-- The stride of dimension i in elements. -/
def Desc.str (d : Desc) (i : Nat) : Nat := d.stride.getD i 0

/-- The width of an element in bits (R302). -/
def fmtBits : Nat → Nat
  | 0 => 32 | 1 => 16 | 2 => 16 | 3 => 8 | 4 => 8 | 5 => 6 | 6 => 6 | 7 => 4 | 8 => 16 | 9 => 8 | 10 => 4 | 11 => 8 | _ => 16

/-- The format codes of Table 8.1. -/
def okFmt (f : Nat) : Bool := decide (f ≤ 12)

/-- The rows of a tensor: (i1, i2, i3), i1 fastest (R308). -/
def Desc.rows (d : Desc) : List (Nat × Nat × Nat) :=
  (List.range (d.size 3)).flatMap fun k => (List.range (d.size 2)).flatMap fun j => (List.range (d.size 1)).map fun i => (i, j, k)

/-- How many rows. -/
def Desc.nRows (d : Desc) : Nat := d.size 1 * d.size 2 * d.size 3

/-- How many elements. -/
def Desc.count (d : Desc) : Nat := d.size 0 * d.nRows

/-- Blocks of 32 elements in a row. -/
def Desc.nBlocks (d : Desc) : Nat := ceilDiv (d.size 0) 32

/-- The bit of an element, counted from BASE (R302). -/
def Desc.elemBit (d : Desc) (i0 : Nat) (r : Nat × Nat × Nat) : Nat :=
  (i0 + r.1 * d.str 1 + r.2.1 * d.str 2 + r.2.2 * d.str 3) * fmtBits d.fmt

/-- The bytes of each row, or of the whole stream of a compressed tensor: first byte as the thread sees it, length. -/
def Desc.ranges (d : Desc) : List (Nat × Nat) :=
  if d.comp ≠ 0 then [(d.base, 64 * d.str 1)]
  else d.rows.map fun r =>
    let b := d.elemBit 0 r
    (d.base + b / 8, (b + d.size 0 * fmtBits d.fmt + 7) / 8 - b / 8)

/-- The bytes from BASE to the end of the last element, or of the stream. -/
def Desc.span (d : Desc) : Nat :=
  if d.comp ≠ 0 then 64 * d.str 1
  else (d.elemBit (d.size 0 - 1) (d.size 1 - 1, d.size 2 - 1, d.size 3 - 1) + fmtBits d.fmt + 7) / 8

/-- The bytes of the elements: of a compressed tensor those of its decoded elements laid out without gaps. -/
def Desc.elemSpan (d : Desc) : Nat := if d.comp ≠ 0 then (d.count * fmtBits d.fmt + 7) / 8 else d.span

/-- The same shape uncompressed and without gaps: the layout of a compressed tensor's decoded elements. -/
def Desc.dense (d : Desc) : Desc :=
  { d with comp := 0, stride := [1, d.size 0, d.size 0 * d.size 1, d.size 0 * d.size 1 * d.size 2] }

/-! ## Scale and amax tables (R308, R374) -/

/-- Bytes of the first area. -/
def Desc.l1Len (d : Desc) : Nat := roundUp (d.nBlocks * d.nRows) 64
/-- Second-level values. -/
def Desc.l2Count (d : Desc) : Nat := if d.s2mode = 1 then d.nRows else if d.s2mode = 2 then ceilDiv d.elemSpan 65536 else 0
/-- Bytes of the second area. -/
def Desc.l2Len (d : Desc) : Nat := roundUp (4 * d.l2Count) 64
/-- Bytes of one zero point. -/
def Desc.zpSize (d : Desc) : Nat := if d.fmt = 11 then 1 else 2
/-- Bytes of the zero-point area. -/
def Desc.zpLen (d : Desc) : Nat := if d.zp then roundUp (d.zpSize * d.nRows) 64 else 0
/-- Bytes of the scale table. -/
def Desc.scaleLen (d : Desc) : Nat := if d.scl then d.l1Len + d.l2Len + d.zpLen else 0
/-- Bytes of the amax table. -/
def Desc.amxLen (d : Desc) : Nat := if d.amx then (if d.scl then d.l1Len else 0) + roundUp (4 * (d.nBlocks * d.nRows)) 64 else 0
/-- The device address of the tables for a thread of cluster c. -/
def Desc.tab (d : Desc) (c : Nat) : Nat := cluBase c + d.sref * 64

/-! ## Operands of an op -/

/-- Byte i of an op's parameter block. -/
def Op.byte (o : Op) (i : Nat) : Nat := recNat o.pb i 1

/-- The descriptors D, A and B that an operation uses (Tables 7.9 to 7.16). -/
def opUse (cls opc : Nat) : Bool × Bool × Bool :=
  match cls, opc with
  | 0, _ | 1, _ => (true, true, true)
  | 2, 1 | 2, 2 | 2, 4 | 2, 5 | 2, 10 | 2, 12 | 2, 14 => (true, true, true)
  | 2, 16 => (true, false, false)
  | 2, _ => (true, true, false)
  | 3, 0 => (true, true, false)
  | 3, 1 => (false, true, true)
  | 4, 0 | 4, 1 => (true, true, true)
  | 5, 0 => (true, true, true)
  | 5, 1 => (true, false, true)
  | 6, _ => (true, true, true)
  | 7, 0 => (true, true, false)
  | 7, 1 => (true, false, false)
  | _, _ => (false, false, false)

/-! ## Raw writes -/

/-- Write bytes to memory without meeting checks; a line that held nothing of the tag is zero elsewhere. -/
def State.rawWrite (s : State) (tag a : Nat) (bs : List Byte) : State :=
  (List.range bs.length).foldl (fun s i =>
    let b := a + i
    let up := if onChip b then !s.groupsOut.contains (groupOf b) else s.ddrUp b
    if !up then s
    else (s.wkeys b).foldl (fun s k =>
      let m := s.line k
      let g := if onChip b then 0 else s.gen (scrubRegion b)
      let keep := m.valid && (onChip b || m.gen == g) && (m.tag == 0 || tag == 0 || m.tag == tag)
      let s := if keep then s else s.setBytes (k / 64 * 64) (zeros 64)
      (s.setByte k (bs.getD i 0)).setLine k ⟨true, tag, g, m.bad && keep, m.poison && keep⟩) s) s

/-- Write bytes where an op's address lies: memory, or host memory through the host window. -/
def State.opWrite (s : State) (o : Op) (a : Nat) (bs : List Byte) : State :=
  match (if o.th = supTid then (if a < 0x7F0000000000 then some a else none) else translate o.segs .write a bs.length) with
  | none => s
  | some d =>
    if decide (region d = .host) then
      (List.range bs.length).foldl (fun s i =>
        { s with host := Sparse.set (fun _ => 0) s.host (s.rf (Addr.pciFnHwbase o.part) 63 12 * 4096 + (d - 0x7E0000000000) + i) (bs.getD i 0) }) s
    else if s.memAddr d then s.rawWrite o.part d bs else s

/-- Free bytes over the elements and the written tables of a destination descriptor. -/
def State.undefDesc (s : State) (o : Op) (i : Nat) (d : Desc) : State :=
  let s := d.ranges.foldl (fun s (r : Nat × Nat) =>
    s.opWrite o r.1 ((List.range r.2).map fun k => Config.freeByte i (r.1 + k))) s
  let t := d.tab (thClu o.th)
  let lo := if o.cls < 7 && d.scl && d.sdyn then t else t + d.scaleLen
  let hi := t + d.scaleLen + d.amxLen
  if lo < hi then s.rawWrite o.part lo ((List.range (hi - lo)).map fun k => Config.freeByte i (lo + k)) else s

/-- The destination of an op that did not complete is undefined: free bytes over D, the tables the device would have written,
and the state that VX.OPT writes back (R190, R208, Table 7.5). -/
def State.undefDst (s : State) (o : Op) : State :=
  if o.cls < 8 ∧ (opUse o.cls o.opc).1 then
    let (i, s) := s.fresh
    let s := s.undefDesc o i (descOf o.dD)
    if o.cls = 2 ∧ o.opc = 12 then s.undefDesc o i { descOf o.dB with sdyn := true } else s
  else s

/-! ## Result areas (R314) -/

/-- The result-area address of an op, as the thread sees it; 0 for none. -/
def Op.resAddr (o : Op) : Nat := if o.cls < 8 then recNat o.pb 10 6 else 0

/-- Write the result area: status, flags, count and the values of the class table. -/
def State.writeRes (s : State) (o : Op) (st flags : Nat) : State :=
  if o.resAddr = 0 then s
  else s.opWrite o o.resAddr (fit 64 (bytesOf 1 st ++ bytesOf 1 flags ++ zeros 2 ++ bytesOf 4 o.count ++
    o.vals.flatMap fun v => bytesOf 8 v.toNat))

/-- The entries of a cancelled AT.APPEND, none of them published: NOTDONE (R458). -/
def State.notDone (s : State) (o : Op) : State :=
  if o.cls = 3 ∧ o.opc = 1 then
    (List.range (recNat o.pb 22 2)).foldl (fun s i =>
      let a := recNat o.pb 16 6 + 16 * i
      (s.opWrite o (a + 10) (bytesOf 1 10)).opWrite o (a + 12) (zeros 2)) s
  else s

/-- What an op leaves in memory when it ends: an undefined destination unless it did its work or was refused, the statuses of a cancelled
append, and its result area. -/
def State.leave (s : State) (o : Op) (st flags : Nat) : State :=
  let s := if st = 2 then s.notDone o else s
  let s := if st = 2 ∨ st = 3 ∨ st = 6 ∨ (st = 5 ∧ o.cls ≠ 3) then s.undefDst o else s
  s.writeRes o st flags

end Sys2Proof.Machine
end

