-- ==== Sys2Proof/Machine/Jobs.lean ====
section
/-! DEFINITION. Jobs and their schedulers: semaphores, tickets, innings and pre-emption, contributions and dies, ending and
switching a job (chapters 4, 5 and the waits of chapter 6). -/

namespace Sys2Proof.Machine

open Sys2Proof

/-! ## Job records and handles -/

/-- The bytes of a job record (Table 4.3). -/
def Job.bytes (j : Job) : List Byte :=
  bytesOf 4 j.die ++ bytesOf 1 (j.tier + 4 * j.fb.toNat + 8 * j.dlmode + 32 * j.ddir.toNat) ++ bytesOf 1 j.model ++
  bytesOf 1 j.client ++ bytesOf 1 j.prio ++ bytesOf 6 j.deadline.toNat ++ bytesOf 2 j.agelim ++ bytesOf 8 j.age0 ++
  bytesOf 6 j.acq.toNat ++ bytesOf 1 j.npass ++ zeros 1 ++ bytesOf 6 j.data ++ zeros 2 ++ bytesOf 4 j.dlen ++
  bytesOf 4 j.jseq ++ fit 16 j.user

/-- The model-table entry of a job: TIER × 16 + MODEL (R138). -/
def Job.entry (j : Job) : Nat := j.tier * 16 + j.model

/-- The age limit of a job in ms (R50, R143). -/
def State.ageLim (s : State) (j : Job) : Nat :=
  if j.agelim = 0 then max 1 (min 60000 (s.rf (Addr.ptbPartScan j.part) 31 16)) else min j.agelim 60000

/-- The handle of die entry e (R157). -/
def dieHandle (e gen : Nat) : Nat := e + gen * 4096

/-- The open entry that a handle names: index in range, generation current, not yet posted (R157, R166). -/
def State.openDie (s : State) (h : Nat) : Option Nat :=
  let e := h % 4096
  let d := s.die e
  if h ≠ 0 ∧ d.st = .opened ∧ d.gen = h / 4096 then some e else none

/-! ## Accounting (R231) -/

/-- Count a job created. -/
def State.accIssued (s : State) (p c : Nat) : State := s.inc (Addr.schAccA p c) 63 32 1
/-- Count a job ended by the end form of YIELD. -/
def State.accCompleted (s : State) (p c : Nat) : State := s.inc (Addr.schAccA p c) 31 0 1
/-- Count a context saved while its job was ready. -/
def State.accPreempt (s : State) (p c : Nat) : State := s.inc (Addr.schAccB p c) 63 32 1
/-- Count a switch to a fallback. -/
def State.accFellback (s : State) (p c : Nat) : State := s.inc (Addr.schAccB p c) 31 0 1
/-- Count a DEFER outcome. -/
def State.accDeferred (s : State) (p c : Nat) : State := s.inc (Addr.schAccC p c) 31 0 1

/-! ## Context status -/

/-- The code of a context state (Table 5.7). -/
def CtxSt.code : CtxSt → Nat
  | .free => 0 | .ready => 1 | .run => 2 | .wtkt => 3 | .wsem => 4 | .wpos => 5 | .ending => 6

/-- A context holds a job that can use an innings: ready, or blocked in TWAIT (log entry 10). -/
def CtxSt.eligible : CtxSt → Bool
  | .ready | .run | .wtkt => true
  | _ => false

/-- The register of a semaphore's configuration. -/
def semCfg (k : Nat) : Nat := if k < 1536 then Addr.schSemCfg (k / 256) (k % 256) else Addr.schGsemCfg (k - 1536)

/-- The register of a semaphore's status. -/
def semStat (k : Nat) : Nat := if k < 1536 then Addr.schSemStat (k / 256) (k % 256) else Addr.schGsemStat (k - 1536)

/-- The capacity of a semaphore. -/
def State.semCap (s : State) (k : Nat) : Nat := s.rf (semCfg k) 43 40 + 1

/-- The HOLD bound of a semaphore in ticks; 0 is treated as 1 us. -/
def State.semHold (s : State) (k : Nat) : Nat := usTicks (max 1 (s.rf (semCfg k) 63 48))

/-- Free units of a semaphore. -/
def State.semFree (s : State) (k : Nat) : Nat := s.semCap k - (s.sem k).holders.length

/-- A thread holds a unit of a semaphore. -/
def State.holds (s : State) (k t : Nat) : Bool := (s.sem k).holders.any fun h => h.1 == t

/-- Bring a semaphore's status register to its holders (Table 5.9). -/
def State.semSync (s : State) (k : Nat) : State :=
  let v := setFld (s.rd (semStat k)) 4 0 (s.semFree k)
  match (s.sem k).holders with
  | [] => s.wr (semStat k) (setFld (setFld (setFld v 26 24 0) 23 22 3) 21 16 0)
  | (t, _) :: _ =>
    let kind := if t = supTid then 2 else if thCtx t = 64 then 1 else 0
    s.wr (semStat k) (setFld (setFld (setFld v 26 24 (if k < 1536 ∨ t = supTid then 0 else thClu t)) 23 22 kind) 21 16
      (if kind = 0 then thCtx t else 0))

/-- The keys of the semaphores on which something is held or waits. -/
def State.semKeys (s : State) : List Nat := s.sems.map (·.1)

/-- The largest of a list of priorities. -/
def maxPrio (l : List Nat) : Nat := l.foldl max 0

/-- The PRIO of a job thread; 0 for the others. -/
def State.prioOf (s : State) (t : Nat) : Nat :=
  if thClass t = .job then (s.ctx (thClu t) (thCtx t)).job.prio else 0

/-- The highest PRIO among the jobs that wait on a device semaphore held by a thread (R213). -/
def State.raised (s : State) (t : Nat) : Nat :=
  maxPrio ((s.semKeys.filter fun k => 1536 ≤ k ∧ s.holds k t).flatMap fun k => (s.sem k).waiters.map s.prioOf)

/-- A job waits on a device semaphore that a thread holds. -/
def State.raisedBy (s : State) (t : Nat) : Bool :=
  s.semKeys.any fun k => decide (1536 ≤ k) && s.holds k t && (s.sem k).waiters.any fun w => thClass w == .job

/-- The effective priority of context x of cluster c (R193, R211, R213). -/
def State.eff (s : State) (c x : Nat) : Nat :=
  let own := max (s.ctx c x).job.prio (s.raised (tid c x))
  let k := s.clu c
  if k.running = some x then max own (k.lent.getD 0) else own

/-- Bring a context's status register to the context (Table 5.7). -/
def State.ctxSync (s : State) (c x : Nat) : State :=
  let v := s.ctx c x
  let off := Addr.schCtxStat c x
  if v.st = .free then s.wr off 0
  else
    let j := v.job
    s.wr off (BitVec.ofNat 64 (v.st.code + v.debt * 2 ^ 8 + j.part * 2 ^ 16 + s.eff c x * 2 ^ 19 + j.tier * 2 ^ 22 +
      (j.posted == 1).toNat * 2 ^ 24 + j.fb.toNat * 2 ^ 25 + j.client * 2 ^ 26 + j.jseq * 2 ^ 32))

/-- Change a context and its status register. -/
def State.putCtx (s : State) (c x : Nat) (v : Ctx) : State := (s.setCtx c x v).ctxSync c x

/-! ## Ops in flight -/

/-- The ops of a thread that have not completed. -/
def State.flying (s : State) (t : Nat) : List Op := s.ops.filter fun o => o.th == t && !o.done

/-- A non-pre-emptible op of a thread is in flight. -/
def State.npFlying (s : State) (t : Nat) : Bool := (s.flying t).any (·.np)

/-- The thread of an op has its engines: a job or base thread in its innings, or the supervisor thread (R194). -/
def State.inInnings (s : State) (t : Nat) : Bool :=
  match thClass t with
  | .sup => true
  | .base => (s.clu (thClu t)).running == some 64
  | .job => (s.clu (thClu t)).running == some (thCtx t)

/-- A block is one that the waiting transfer of an op sent: by this device, in its domain, epoch and CTR values (R635). -/
def State.sentBy (s : State) (o : Op) (b : Block) : Bool :=
  match o.xfer with
  | some x => b.src == s.fabId && b.dom == s.domOf o.part && b.epoch == x.epoch && decide (x.ctr0 ≤ b.ctr) && decide (b.ctr < x.ctr1)
  | none => false

/-- The blocks of an op's transfer that have not left their ports take no credits any more (R217). -/
def State.unsend (s : State) (o : Op) : State :=
  if o.xfer.isNone then s
  else { s with ports := s.ports.map fun (e : Nat × Port) => (e.1, { e.2 with tx := e.2.tx.filter fun b => !s.sentBy o b.1 }) }

/-! ## Innings (R191 to R207) -/

/-- The length of an innings of cluster c in us (Table 5.6). -/
def State.innings (s : State) (c : Nat) : Nat := max 16 (min 4000 (s.rf (Addr.schCfg c) 43 32))

/-- The contexts of a cluster that may be given an innings: eligible, or waiting on a cluster semaphore (R211). -/
def State.claimants (s : State) (c : Nat) : List Nat :=
  (List.range 64).filter fun x =>
    match (s.ctx c x).st with
    | .ready | .run | .wtkt => true
    | .wsem => match (s.thread (tid c x)).wait with | .sem k _ => decide (k < 1536) | _ => false
    | _ => false

/-- Follow donation from thread t along cluster semaphores, up to n links, to the thread that receives the innings (R211,
R212). -/
def State.chain (s : State) : Nat → Nat → Nat
  | 0, t => t
  | n + 1, t =>
    match (s.thread t).wait with
    | .sem k _ => if k < 1536 then (match (s.sem k).holders with | (h, _) :: _ => s.chain n h | [] => t) else t
    | _ => t

/-- A thread can run in an innings given to it: an eligible context, or a base thread that does not wait. -/
def State.canRun (s : State) (t : Nat) : Bool :=
  match thClass t with
  | .job => (s.ctx (thClu t) (thCtx t)).st.eligible
  | .base => (s.thread t).wait == .none && !s.rb (Addr.cluBasectl (thClu t)) 1
  | .sup => false

/-- The candidates for the next innings, best first: by effective priority, then by round-robin stamp; context 64 stands for
a base thread raised under R214. -/
def State.order (s : State) (c : Nat) : List Nat :=
  let l := s.claimants c ++ (if s.raisedBy (tid c 64) && s.canRun (tid c 64) then [64] else [])
  let pr := fun x => if x = 64 then s.raised (tid c 64) else s.eff c x
  l.mergeSort fun x y => decide (pr y < pr x) || (pr x == pr y && decide ((s.ctx c x).rr ≤ (s.ctx c y).rr))

/-- The arrays of cluster c hold the blocks that context x's ops had in them when it was saved: weights are reloaded at restore
(R201). -/
def State.loadArr (s : State) (c x : Nat) : State :=
  let a := (s.ctx c x).arr
  (List.range 8).foldl (fun s t => s.setTile (8 * c + t) (a.getD t tile0)) s

/-- Give an innings of cluster c to its base thread; dev: raised for a device semaphore (R214). -/
def State.runBase (s : State) (c : Nat) (lent : Option Nat) (dev : Bool) : State :=
  (s.setClu c { s.clu c with running := some 64, lent := lent, dev := dev, preempt := false, deferred := none,
                             innEnd := s.time + usTicks (s.innings c) }).loadArr c 64

/-- Give an innings of cluster c to context x, shortened by its debt (R207). -/
def State.runCtx (s : State) (c x : Nat) (lent : Option Nat) : State :=
  let v := s.ctx c x
  let s := (s.loadArr c x).setClu c { s.clu c with running := some x, lent := lent, dev := false, preempt := false, deferred := none,
                                                    innEnd := s.time + usTicks (s.innings c - v.debt) }
  s.putCtx c x { v with st := if v.st = .wtkt then .wtkt else .run, since := s.time, debt := 0 }

/-- Give the next innings: the first candidate that can use it, directly or by donation; one whose debt covers the innings is
passed over and pays, once (paid: the threads that did) (R192, R207, R211, R212). -/
def State.pickFrom (s : State) (c : Nat) (paid : List Nat) : List Nat → State
  | [] => s
  | x :: rest =>
    let t := s.chain 8 (tid c x)
    let lent := if t = tid c x ∧ x ≠ 64 then none else some (if x = 64 then s.raised (tid c 64) else s.eff c x)
    if thClu t ≠ c ∨ !s.canRun t ∨ paid.contains t then s.pickFrom c paid rest
    else if thCtx t = 64 then s.runBase c lent (x == 64)
    else
      let v := s.ctx c (thCtx t)
      if s.innings c ≤ v.debt then (s.putCtx c (thCtx t) { v with debt := v.debt - s.innings c }).pickFrom c (t :: paid) rest
      else s.runCtx c (thCtx t) lent

/-- Give the next innings of cluster c. With no job that can run, the base thread executes (R236); where every job paid its
debt with this innings, nothing runs in it. -/
def State.pick (s : State) (c : Nat) : State :=
  let s := s.setClu c { s.clu c with running := none, lent := none, dev := false, giving := false, preempt := false,
                                     deferred := none, innEnd := s.time + usTicks (s.innings c) }
  let l := s.order c
  let s' := s.pickFrom c [] l
  if (s'.clu c).running.isSome then s'
  else if (s.claimants c).all (fun x => (s.ctx c x).st != .ready && (s.ctx c x).st != .wtkt) && !s.rb (Addr.cluBasectl c) 1 then
    s'.runBase c none false
  else s'

/-- Take the innings from the running thread: RUN time is added, what its ops have in the arrays is kept, a running job becomes READY behind
its equals. -/
def State.unrun (s : State) (c : Nat) : State :=
  let k := s.clu c
  let arr := (List.range 8).map fun t => s.tile (8 * c + t)
  let s := s.setClu c { k with running := none, giving := false, rr := k.rr + 1 }
  match k.running with
  | none => s
  | some x =>
    let v := s.ctx c x
    if x = 64 then s.setCtx c x { v with rr := k.rr + 1, arr := arr }
    else s.putCtx c x { v with st := if v.st = .run then .ready else v.st, run := v.run + (s.time - v.since), since := s.time,
                                rr := k.rr + 1, arr := arr }

/-- Give the core to the next thread. A job saved while READY that gives way to another job counts as a pre-emption, unless its own innings
was given by donation (R198, R216, R231). -/
def State.switchOut (s : State) (c : Nat) : State :=
  let k := s.clu c
  let s' := (s.unrun c).pick c
  match k.running, (s'.clu c).running with
  | some x, some y =>
    let v := s.ctx c x
    if x ≠ 64 ∧ y ≠ 64 ∧ x ≠ y ∧ (v.st = .run ∨ v.st = .ready) ∧ k.lent = none then s'.accPreempt v.job.part v.job.client else s'
  | _, _ => s'

/-- The running job gives up its innings, which ends early (R195, R197); while a non-pre-emptible op of it is in flight the engines stay
its own, and the next innings begins at the op's end (R194, R206). -/
def State.giveUp (s : State) (c x : Nat) : State :=
  if s.npFlying (tid c x) then s.setClu c { s.clu c with giving := true } else s.switchOut c

/-- A pre-emption of the running thread begins: it waits for the tile boundary (R203); one that falls while a
non-pre-emptible op runs is put off to the op's end (R206). -/
def State.askPreempt (s : State) (c : Nat) : State :=
  let k := s.clu c
  match k.running with
  | none => s.pick c
  | some x =>
    let np := s.npFlying (tid c x)
    s.setClu c { k with preempt := true, deferred := if np then some (k.deferred.getD s.time) else k.deferred }

/-- Something of cluster c became able to run: it starts at once when nothing runs, suspends the base thread (R237), or
pre-empts as an urgent job a job, or a base thread that runs at a lent priority (R199, R214). -/
def State.offer (s : State) (c x : Nat) : State :=
  match (s.clu c).running with
  | none => s.pick c
  | some y =>
    let urgent := fun (p : Nat) =>
      let u := s.rd (Addr.schCfg c)
      bit u 15 && decide (fld u 14 12 ≤ (s.ctx c x).job.prio) && decide (p < s.eff c x)
    let now := if y = 64 then (match (s.clu c).lent with | none => true | some p => urgent p) else urgent (s.eff c y)
    if now then s.askPreempt c else s

/-- Context x of cluster c becomes READY. -/
def State.becomeReady (s : State) (c x : Nat) : State :=
  (s.putCtx c x { s.ctx c x with st := .ready }).offer c x

/-- A thread's wait ends: a job in WTKT that still has its innings goes on running, any other job becomes READY. -/
def State.resume (s : State) (t : Nat) : State :=
  let s := s.wake t
  if thClass t = .job then
    let c := thClu t
    let x := thCtx t
    if (s.ctx c x).st = .wtkt ∧ (s.clu c).running = some x then s.putCtx c x { s.ctx c x with st := .run }
    else s.becomeReady c x
  else if thClass t = .base ∧ (s.clu (thClu t)).running = none then s.pick (thClu t)
  else s

/-- A job begins to wait and gives up its innings (R195); the base and supervisor threads idle (R267). -/
def State.block (s : State) (t : Nat) (w : Wait) (st : CtxSt) : State :=
  let s := s.setThread t { s.thread t with wait := w }
  if thClass t = .job then
    let c := thClu t
    let x := thCtx t
    let s := s.putCtx c x { s.ctx c x with st := st }
    if (s.clu c).running = some x then s.giveUp c x else s
  else s

/-! ## Semaphores (R209 to R215, R260 to R263) -/

/-- Grant one unit to a thread. -/
def State.grant (s : State) (k t : Nat) : State :=
  let q := s.sem k
  (s.setSem k { holders := q.holders ++ [(t, s.time)], waiters := q.waiters.filter (· != t) }).semSync k

/-- The waiter that a free unit goes to: the highest effective priority, then the earliest (R261). -/
def State.nextWaiter (s : State) (k : Nat) : Option Nat :=
  let pr := fun t => s.eff (thClu t) (thCtx t)
  match (s.sem k).waiters with
  | [] => none
  | w :: rest => some (rest.foldl (fun b t => if pr b < pr t then t else b) w)

/-- Grant free units to waiters, at most n of them; each writes 0 to its gd and goes on. -/
def State.grantAll : Nat → State → Nat → State
  | 0, s, _ => s
  | n + 1, s, k =>
    if s.semFree k = 0 then s
    else match s.nextWaiter k with
      | none => s
      | some t =>
        let gd := match (s.thread t).wait with | .sem _ g => g | _ => 0
        State.grantAll n (((s.grant k t).setG t gd 0).resume t) k

/-- A base thread that ran at the raised priority of R213 gives way to the jobs of its cluster once no job waits on a device semaphore that
it holds (R214). -/
def State.dropRaise (s : State) (t : Nat) : State :=
  let c := thClu t
  if thClass t = .base ∧ (s.clu c).running = some 64 ∧ (s.clu c).dev ∧ !s.raisedBy t ∧ !(s.claimants c).isEmpty then s.askPreempt c else s

/-- Take away one unit of a thread, its earliest, and grant it again. -/
def State.release (s : State) (k t : Nat) : State :=
  let q := s.sem k
  let s := (s.setSem k { q with holders := q.holders.eraseP fun h => h.1 == t }).semSync k
  (State.grantAll 16 s k).dropRaise t

/-- A forced release counts (R210, Table 5.9). -/
def State.forceRel (s : State) (k t : Nat) : State := (s.sat (semStat k) 15 8 1).release k t

/-- Take a thread off every list of waiters: its issue has stopped (R190, item 1). -/
def State.unwait (s : State) (t : Nat) : State :=
  s.semKeys.foldl (fun s k => s.setSem k { s.sem k with waiters := (s.sem k).waiters.filter (· != t) }) s

/-- Release every unit a thread holds (R190, item 4); counted in FORCEREL where a job ends (Table 5.9). -/
def State.releaseAll (s : State) (t : Nat) (count : Bool) : State :=
  (s.unwait t).semKeys.foldl (fun s k =>
    let n := ((s.sem k).holders.filter fun h => h.1 == t).length
    (List.range n).foldl (fun s _ => if count then s.forceRel k t else s.release k t) s) (s.unwait t)

/-- Every thread of holders is blocked behind thread a, following at most n waits among semaphores of one kind (R215). -/
def State.behind (s : State) (a : Nat) (dev : Bool) : Nat → Nat → Bool
  | 0, t => t == a
  | n + 1, t =>
    t == a ||
    match (s.thread t).wait with
    | .sem k _ => (decide (1536 ≤ k) == dev) && !(s.sem k).holders.isEmpty && (s.sem k).holders.all fun h => s.behind a dev n h.1
    | _ => false

/-- A wait of thread a on semaphore k closes a cycle (R215). -/
def State.cycle (s : State) (a k : Nat) : Bool :=
  !(s.sem k).holders.isEmpty && (s.sem k).holders.all fun h => s.behind a (decide (1536 ≤ k)) 64 h.1

/-! ## Tickets (R315 to R318) -/

/-- The ticket of a serial number of a thread. -/
def ticket (t serial : Nat) : W64 := BitVec.ofNat 64 (serial + t * 2 ^ 32)

/-- The ticket entry a serial number has among a thread's 256 most recent. -/
def Thread.tkt (t : Thread) (serial : Nat) : Option Tkt := t.tkts.find? fun k => k.serial == serial

/-- The value a TWAIT returns for a status and flags (R316). -/
def tktVal (st flags : Nat) : W64 := BitVec.ofNat 64 (st + flags * 256)

/-- A ticket completes: its status is kept where it is among the thread's 256 most recent, else it is FORGOTTEN (R316, R318); the thread that
waits for it, or for room in flight, goes on. -/
def State.tktDone (s : State) (t serial st flags : Nat) : State :=
  let th := s.thread t
  let old := (th.tkts.drop 256).any fun k => k.serial == serial
  let (st, flags) := if old then (7, 0) else (st, flags)
  let l := if old then th.tkts.filter fun k => k.serial != serial
    else th.tkts.map fun k => if k.serial = serial then ⟨serial, st, flags⟩ else k
  let s := s.setThread t { th with tkts := l }
  match th.wait with
  | .tkt w gd _ _ => if w = ticket t serial then (s.setG t gd (tktVal st flags)).resume t else s
  | .stall => s.resume t
  | _ => s

/-- A new ticket of a thread, pending; of the tickets older than the 256 most recent only the pending ones are kept (R318). -/
def State.newTkt (s : State) (t : Nat) : Nat × State :=
  let th := s.thread t
  let n := nextSerial th.serial
  (n, s.setThread t { th with serial := n, wrapped := th.wrapped || (n == 1 && th.serial != 0),
                              tkts := ⟨n, 1, 0⟩ :: th.tkts.take 255 ++ (th.tkts.drop 255).filter fun k => k.st == 1 })

/-! ## Contributions and dies (R155 to R170) -/

/-- Precedence of a contribution (Table 4.8); outcomes: 0 CLEAN, 1 DEFECT, 2 FALLBACK, 3 DEFER. -/
def Contrib.rank (k : Contrib) : Nat :=
  if k.outcome = 1 then 1 else if k.outcome = 2 ∧ k.cls ≠ 0 then 2 else if k.outcome = 3 then 3 else if k.outcome = 2 then 4 else 5

/-- The better of two contributions; the first to arrive among equals. -/
def better (a : Option Contrib) (b : Contrib) : Contrib :=
  match a with
  | none => b
  | some a => if b.rank < a.rank then b else a

/-- A contribution arrives at the entry of a handle. -/
def State.contribute (s : State) (h : Nat) (k : Contrib) : State :=
  match s.openDie h with
  | none => s
  | some e =>
    let d := s.die e
    s.setDie e { d with best := some (better d.best k), ndefect := d.ndefect + (k.outcome == 1).toNat,
                        nfb := satAdd 8 d.nfb (k.outcome == 2).toNat, ndefer := satAdd 8 d.ndefer (k.outcome == 3).toNat }

/-- Entries in use of partition p (VDL_PARTp_STAT). -/
def State.inUse (s : State) (p : Nat) : Nat := (s.dies.filter fun e => e.2.part == p && e.2.st != .free).length

/-- Bring the count of entries in use of a partition up to date. -/
def State.useSync (s : State) (p : Nat) : State := s.wf (Addr.vdlPartStat p) 63 48 (s.inUse p)

/-- The entry joins the posted dies of its ring and waits for its record to be written (R161, R172, R176). -/
def State.postDie (s : State) (e : Nat) : State :=
  let d := s.die e
  let s := s.setDie e { d with st := .held, tpost := s.time }
  let r := s.vring d.ring
  let s := s.setVring d.ring { r with q := r.q ++ [e] }
  (s.wb (Addr.vdlRingStat d.ring) 0 true).wf Addr.vdlHeld 12 0 (s.rf Addr.vdlHeld 12 0 + 1)

/-- Post a die that is ACQUIRED and SEALED and has no open job (R161). -/
def State.maybePost (s : State) (e : Nat) : State :=
  let d := s.die e
  if d.st = .opened ∧ d.acq.isSome ∧ d.sealed ∧ d.openJobs = 0 then s.postDie e else s

/-- A job with a handle ended: OPENJOBS falls and the die may be posted (R157, R161). -/
def State.jobGone (s : State) (h : Nat) : State :=
  match s.openDie h with
  | none => s
  | some e => (s.setDie e { s.die e with openJobs := (s.die e).openJobs - 1 }).maybePost e

/-- A DEFER that the device contributes for a job that has contributed nothing; a detached job's is only counted (R153,
R231). -/
def State.deferFor (s : State) (j : Job) (path reason : Nat) : State :=
  if j.posted ≠ 0 then s
  else
    (s.contribute j.die ⟨3, 0, path, reason, j.tier, j.client, j.acq, zeros 16⟩).accDeferred j.part j.client

/-! ## Ending and switching (R188 to R190, R226) -/

/-- Cancel an op: it leaves the list, and its ticket completes with CANCELLED (R190, item 3). -/
def State.cancelOp (s : State) (o : Op) : State :=
  let s := (s.unsend o).leave o 2 o.flags
  let s := { s with ops := s.ops.filter fun q => q.uid != o.uid,
                    pps := s.pps.map fun (e : Nat × PpX) => (e.1, { e.2 with q := e.2.q.filter (· != o.uid) }) }
  s.tktDone o.th o.serial 2 o.flags

/-- The tier directory after a fill or drain that failed or was cancelled: a fill returns the entry to ABSENT with the pins taken
since it began removed, a drain to RESIDENT, and the source's SHOLD falls (R589); the tile ops that waited on the fill are marked
(R593). The op's data: 1, entry, source entry, pins, the cluster of the upper copy + 1, its address and length. -/
def State.dropDir (s : State) (o : Op) : State :=
  if o.cls = 7 ∧ (o.opc = 2 ∨ o.opc = 3) ∧ o.aux.getD 0 0 = 1 then
    let e := o.aux.getD 1 0
    let src := o.aux.getD 2 0
    let c := o.aux.getD 4 0
    let up := o.aux.getD 5 0
    let s := s.poke (e + 15) (bytesOf 1 (if o.opc = 2 then 0 else 2))
    let s := if o.opc = 2 then s.poke (e + 16) (bytesOf 2 (s.peekNat (e + 16) 2 - o.aux.getD 3 0)) else s
    let s := s.poke (e + 32) (bytesOf 8 s.time)
    let s := if src = 0 then s else s.poke (src + 18) (bytesOf 2 (s.peekNat (src + 18) 2 - 1))
    let s := if c = 0 then s
      else s.setRes (c - 1) (if o.opc = 2 then (s.res (c - 1)).filter (· != e) else s.res (c - 1) ++ [e])
    if o.opc = 2 ∧ c ≠ 0 then
      let waits := fun (q : Op) => !q.done && q.start.isNone && decide (q.cls < 7) && thClass q.th == .job && thClu q.th + 1 == c &&
        q.srcs.any fun x => decide (x.lo < up + o.aux.getD 6 0) && decide (up < x.hi)
      { s with ops := s.ops.map fun (q : Op) => if waits q then { q with late := true } else q }
    else s
  else s

/-- Stop every pre-emptible op of a thread in flight (R190, items 2 and 3). -/
def State.stopOps (s : State) (t : Nat) : State :=
  ((s.flying t).filter fun o => !o.np).foldl (fun s o => (s.dropDir o).cancelOp o) s

/-- The address of a record copy as the thread sees it (R240). -/
def State.copyAddr (s : State) (c x : Nat) : W64 := BitVec.ofNat 64 (s.asSeen (s.cluPart c) (recordSlot c x))

/-- n bytes at a device address meet the record copy of a context that holds a job (R241). -/
def State.inRecord (s : State) (d n : Nat) : Bool :=
  (List.range 6).any fun c => (List.range 64).any fun x =>
    (s.ctx c x).st != .free && decide (recordSlot c x < d + n) && decide (d < recordSlot c x + 64)

/-- The registers a job thread starts with (R240); tickets go on across a switch (R315). -/
def State.startThread (s : State) (c x pc : Nat) (keep : Bool) : State :=
  let t := s.thread (tid c x)
  let n := { thread0 with pc := pcOf (BitVec.ofNat 64 pc) }.setG 1 (s.copyAddr c x)
  s.setThread (tid c x) (if keep then { n with serial := t.serial, tkts := t.tkts, lastTkt := t.lastTkt, wrapped := t.wrapped } else n)

/-- Keep the record copy current (R241). -/
def State.syncCopy (s : State) (c x : Nat) : State := s.poke (recordSlot c x) ((s.ctx c x).job.bytes.take 30)

/-- The last steps of an end or a switch, once no op of the job is in flight (R190, items 4 to 6; R226). -/
def State.finish (s : State) (c x : Nat) : State :=
  let t := tid c x
  let v := s.ctx c x
  let s := s.releaseAll t (!v.switching)
  if v.switching then
    let s := s.startThread c x v.fbpc true
    let run := (s.clu c).running = some x
    let j := { v.job with fb := true }
    let s := s.putCtx c x { v with job := j, run := 0, since := s.time, switching := false, st := if run then .run else .ready }
    let s := s.syncCopy c x
    if run then s else s.offer c x
  else
    let run := (s.clu c).running = some x
    let s := s.setThread t { s.thread t with wait := .none }
    let s := if run then s.unrun c else s
    let s := s.putCtx c x ctx0
    let s := s.jobGone v.job.die
    if run then s.pick c else s

/-- Stop the job of a context: issue stops, its pre-emptible ops are cancelled; a non-pre-emptible op runs to its end first
(R190). -/
def State.stopCtx (s : State) (c x : Nat) (switch : Bool) : State :=
  let v := s.ctx c x
  if v.st = .free then s
  else
    let s := (s.setThread (tid c x) { s.thread (tid c x) with wait := .none }).unwait (tid c x)
    let s := s.putCtx c x { v with st := .ending, switching := switch }
    let s := s.stopOps (tid c x)
    if s.npFlying (tid c x) then s else s.finish c x

/-- End the job of a context with a device contribution if it has made none (R190, Table 4.6). -/
def State.endCtx (s : State) (c x path reason : Nat) : State :=
  let v := s.ctx c x
  if v.st = .free then s
  else
    let s := s.deferFor v.job path reason
    let s := s.setCtx c x { v with job := { v.job with posted := if v.job.posted = 0 then 2 else v.job.posted } }
    s.stopCtx c x false

/-- End a queued job with a device contribution (R189). -/
def State.endQueued (s : State) (j : Job) (path reason : Nat) : State :=
  let s := s.deferFor j path reason
  ({ s with queued := s.queued.filter fun q => q.born != j.born }).jobGone j.die

/-- A context holds a job that has not been ended; one that stops for its fallback goes on. -/
def Ctx.live (v : Ctx) : Bool := v.st != .free && (v.st != .ending || v.switching)

/-- The jobs that have not been ended, each with its context or none for a queued one. -/
def State.jobsOf (s : State) (p : Job → Bool) : List (Job × Option (Nat × Nat)) :=
  (s.queued.filter p).map (fun j => (j, none)) ++
  ((s.ctxs.filter fun e => e.2.live && p e.2.job).map fun e => (e.2.job, some (e.1 / 128, e.1 % 128)))

/-- End a job wherever it is. -/
def State.endJob (s : State) (j : Job × Option (Nat × Nat)) (path reason : Nat) : State :=
  match j.2 with
  | some (c, x) => s.endCtx c x path reason
  | none => s.endQueued j.1 path reason

/-- Force or close a die: every job that carries its handle is ended with DEFER, then the die is posted (R162, R164). -/
def State.forceDie (s : State) (e path : Nat) : State :=
  let d := s.die e
  let h := dieHandle e d.gen
  let s := (s.jobsOf fun j => j.die == h).foldl (fun s j => s.endJob j path 0) s
  if (s.die e).st = .opened then s.postDie e else s

/-! ## The deadline monitors (R218 to R229) -/

/-- The level factor k of an arithmetic level (Table 5.3). -/
def levelK : Nat → Nat
  | 0 => 65536 | 1 => 80659 | 2 => 104857 | 3 => 174762 | _ => 524288

/-- The level factor of cluster c: of the slower level while it switches (R760). -/
def State.cluK (s : State) (c : Nat) : Nat :=
  let e := s.rf (Addr.pmuCluStat c) 2 0
  levelK (if s.rb (Addr.pmuCluStat c) 4 then max e (Sparse.get (fun _ => 0) s.pmu.target c) else e)

/-- Counts to go (R47). -/
def State.toGo (s : State) (j : Job) : Int :=
  let g := j.deadline.toInt - (s.cnt (s.scanAxis j.part)).toInt
  if j.ddir then -g else g

/-- A job's deadline has passed (R47, R145). -/
def State.passed (s : State) (j : Job) : Bool := j.dlmode != 2 && decide (s.toGo j ≤ 0)

/-- A job's age limit has passed (R50). -/
def State.tooOld (s : State) (j : Job) : Bool := decide (j.age0 + msTicks (s.ageLim j) ≤ s.time)

/-- Available time before the deadline, us; none is unbounded (R221). -/
def State.tDl (s : State) (j : Job) : Option Int :=
  let n := s.scanAxis j.part
  if j.dlmode = 2 ∨ !s.velValid n then none
  else
    let vs := if j.ddir then - s.vel n else s.vel n
    if 0 < vs then some (tdiv (s.toGo j * 65536) vs) else none

/-- Available time before the age limit, us. -/
def State.tAge (s : State) (j : Job) : Int := (j.age0 / 400 : Nat) + (s.ageLim j * 1000 : Nat) - (s.time / 400 : Nat)

/-- Available time (R221). -/
def State.tLim (s : State) (j : Job) : Int := match s.tDl j with | some d => min d (s.tAge j) | none => s.tAge j

/-- The quantities of a prediction. -/
structure Predict where
  need : Int
  wait : Int
  miss : Bool
  wlate : Bool
  needFb : Int
  tLim : Int

/-- The prediction of R221: n the share, run and wait in us, k the level factor. -/
def State.predictWith (s : State) (j : Job) (n run wait k : Nat) : Predict :=
  let est := s.rd (Addr.dlmPartEst j.part j.entry)
  let full := fld est 15 0 * k / 65536
  let fb := fld est 31 16 * k / 65536
  let e := if j.fb then fb else full
  let margin := s.rf (Addr.dlmPartCfg j.part) 63 48
  let need : Int := wait + (max (e - run) (e / 8)) * n + margin
  let lim := s.tLim j
  let miss := decide (lim < need)
  { need := need, wait := wait, miss := miss, wlate := miss && decide (need - wait ≤ lim), needFb := fb * n + margin, tLim := lim }

/-- NCAP (Table 5.12). -/
def State.ncap (s : State) (p : Nat) : Nat := max 1 (min 8 (s.rf (Addr.dlmPartCfg p) 39 36))

/-- RUN time of a context in us. -/
def State.runUs (s : State) (c x : Nat) : Nat :=
  let v := s.ctx c x
  (v.run + (if (s.clu c).running = some x then s.time - v.since else 0)) / 400

/-- The share of a job: contexts READY or RUN at its effective priority or above, the job included (R221). -/
def State.share (s : State) (c x : Nat) : Nat :=
  ((List.range 64).filter fun y =>
    y == x || (((s.ctx c y).st == .ready || (s.ctx c y).st == .run) && decide (s.eff c x ≤ s.eff c y))).length

/-- The ETA of the data-mover ticket a thread is blocked on, us. -/
def State.etaOf (s : State) (t : Nat) : Nat :=
  match (s.thread t).wait with
  | .tkt _ _ eta at_ => eta - (s.time - at_) / 400
  | _ => 0

/-- The prediction for the job of a context; an ETA given replaces that of its wait. -/
def State.predictCtx (s : State) (c x : Nat) (eta : Option Nat) : Predict :=
  let v := s.ctx c x
  s.predictWith v.job (min (s.ncap v.job.part) (s.share c x)) (s.runUs c x) (eta.getD (s.etaOf (tid c x))) (s.cluK c)

/-- The prediction for a queued job. -/
def State.predictQueued (s : State) (j : Job) : Predict :=
  s.predictWith j 1 0 (s.rf (Addr.dlmPartWq j.part j.tier) 15 0) 65536

/-- The rows of Table 5.2. -/
inductive Row where
  | age | passed | overrun | corrupt | wlate | miss
  deriving DecidableEq, Repr

/-- The reason of a row (Table 4.7). -/
def Row.reason : Row → Nat
  | .age => 0 | .passed => 1 | .overrun => 3 | .corrupt => 4 | .wlate => 2 | .miss => 1

/-- The row that holds by the monitor's own evaluation (R224). -/
def State.rowOf (s : State) (j : Job) (p : Predict) : Option Row :=
  if s.tooOld j then some .age
  else if s.passed j then some .passed
  else if s.rb (Addr.dlmPartCfg j.part) 0 && p.miss then some (if p.wlate then .wlate else .miss)
  else none

/-- Count an end or a switch in a monitor's status register, each end once (Table 5.11). -/
def State.dlmCount (s : State) (off : Nat) : Row → State
  | .age => s.sat off 15 0 1
  | .passed => s.sat off 31 16 1
  | _ => s.sat off 47 32 1

/-- The fallback objects of a job's entry are RESIDENT (R141, R225): the STATE of each one's directory entry, where its line stands without a
failure. Which entries they are no rule says (log entry 145). -/
def State.fbResident (s : State) (j : Job) : Bool :=
  (Config.fbObjects j.part j.entry).all fun e => s.sound (e + 15) && s.peekNat (e + 15) 1 == 2

/-- The reason to end a job in place of switching it (R225); none where the switch is carried out. -/
def State.noSwitch (s : State) (j : Job) (nofb : Bool) (p : Predict) (r : Nat) : Option Nat :=
  if nofb then some r else if !s.fbResident j then some 5 else if p.tLim < p.needFb then some r else none

/-- Apply a row of Table 5.2 to the job of a context. One that is stopping for its fallback can still end by rows 1 and 2; a switch is not
made twice. -/
def State.applyRow (s : State) (c x : Nat) (row : Row) (p : Predict) : State :=
  let v := s.ctx c x
  let off := Addr.dlmCluStat c
  if !v.live || (v.switching && row != .age && row != .passed) then s
  else if v.job.posted ≠ 0 then
    match row with
    | .wlate | .miss => s
    | .age | .passed => (s.dlmCount off row).endCtx c x 0 0
    | _ => s.endCtx c x 0 0
  else match row with
    | .age => (s.dlmCount off row).endCtx c x 3 0
    | .passed => (s.dlmCount off row).endCtx c x 2 1
    | _ =>
      if v.job.fb then (s.dlmCount off row).endCtx c x 2 row.reason
      else match s.noSwitch v.job v.nofb p row.reason with
        | some r => (s.dlmCount off row).endCtx c x 2 r
        | none =>
          let s := (s.sat off 63 48 1).accFellback v.job.part v.job.client
          let s := s.setCtx c x { v with job := { v.job with reason := row.reason } }
          s.stopCtx c x true

/-- A cluster monitor evaluates the job of a context (R218, R219). -/
def State.evalCtx (s : State) (c x : Nat) : State :=
  let v := s.ctx c x
  if !v.live then s
  else
    let p := s.predictCtx c x none
    match s.rowOf v.job p with
    | some row => s.applyRow c x row p
    | none => s

/-- Another unit requests a switch of a job, or a fault befalls it (R224); the age limit and the deadline come first. -/
def State.request (s : State) (c x : Nat) (row : Row) : State :=
  let v := s.ctx c x
  let p := s.predictCtx c x none
  s.applyRow c x (if s.tooOld v.job then .age else if s.passed v.job then .passed else row) p

/-- The flags of a job's model-table entry say NOFB (read as it stands). -/
def State.entryNofb (s : State) (j : Job) : Bool :=
  (s.peekNat (s.rf (Addr.vdlPartMtab j.part) 47 6 * 64 + j.entry * 32 + 16) 1).testBit 1

/-- The device monitor evaluates a queued job (R218, R226). -/
def State.evalQueued (s : State) (j : Job) : State :=
  let p := s.predictQueued j
  let off := Addr.dlmDevStat
  match s.rowOf j p with
  | none => s
  | some .age => (s.dlmCount off .age).endQueued j 3 0
  | some .passed => (s.dlmCount off .passed).endQueued j 2 1
  | some row =>
    if j.fb then (s.dlmCount off row).endQueued j 2 row.reason
    else match s.noSwitch j (s.entryNofb j) p row.reason with
      | some r => (s.dlmCount off row).endQueued j 2 r
      | none =>
        let s := (s.sat off 63 48 1).accFellback j.part j.client
        { s with queued := s.queued.map fun q => if q.born = j.born then { q with fb := true, reason := row.reason } else q }

/-- A job that has just been queued with its deadline or age limit passed is found out at once (R219). -/
def State.watchNew (s : State) (j : Job) : State := if s.passed j || s.tooOld j then s.evalQueued j else s

/-- Every monitor evaluates every job it watches (R218). -/
def State.evalAll (s : State) : State :=
  let s := s.queued.foldl (fun s j => s.evalQueued j) s
  (s.ctxs.map (·.1)).foldl (fun s k => s.evalCtx (k / 128) (k % 128)) s

/-- Only the deadline and age checks of R219, of the jobs of partitions whose scan axis is n. -/
def State.checkPassed (s : State) (n : Nat) : State :=
  let hit := fun (s : State) (j : Job) => s.scanAxis j.part == n && s.passed j
  let s := (s.queued.filter (hit s)).foldl (fun s j => s.evalQueued j) s
  (s.ctxs.map (·.1)).foldl (fun s k =>
    if hit s (s.ctx (k / 128) (k % 128)).job then s.evalCtx (k / 128) (k % 128) else s) s

end Sys2Proof.Machine
end

