-- ==== Sys2Proof/Machine/Health.lean ====
section
/-! DEFINITION. The health ledger: counting of operations, detected errors and exhaustions, suspicion, declaration and
retirement of units (chapter 15), the ends of ops that follow, and the retirement of memory channels (R577 to R580). -/

namespace Sys2Proof.Machine

open Sys2Proof

/-! ## Ends of ops -/

/-- A boundary put off by a non-pre-emptible op is carried out (R192, R198, R206): the running job continues when it is
chosen again, otherwise it is pre-empted at the tile boundary. -/
def State.boundary (s : State) (c : Nat) : State :=
  let r := (s.clu c).running
  let s' := (s.unrun c).pick c
  if (s'.clu c).running = r then s' else s.askPreempt c

/-- The overrun of context x of cluster c past its deferred boundary, t0: its debt, and the counts of SCH_OVR (R206, Table 5.5). -/
def State.addDebt (s : State) (c x t0 : Nat) : State :=
  let v := s.ctx c x
  let late := (s.time - t0) / 400
  let s := s.putCtx c x { v with debt := min 255 (v.debt + late) }
  let s := (s.sat (Addr.schOvr c) 47 32 1).wf (Addr.schOvr c) 15 0 (min 65535 late)
  s.setClu c { s.clu c with deferred := none }

/-- A non-pre-emptible op of a thread has ended: an overrun is added to the debt (R206); an end, a switch, an innings given up or a boundary
that was put off follows (R190, R194, R204). -/
def State.npEnd (s : State) (t : Nat) : State :=
  if thClass t ≠ .job ∨ s.npFlying t then s
  else
    let c := thClu t
    let x := thCtx t
    let k := s.clu c
    let run := k.running == some x
    let due := run && k.deferred.isSome
    let s := if due then s.addDebt c x (k.deferred.getD 0) else s
    let s := if (s.ctx c x).st = .ending then s.finish c x else s
    if !run || (s.clu c).running != some x then s
    else if k.giving then s.switchOut c
    else if due && !(s.clu c).preempt then s.boundary c else s

/-- The op is taken out of the Pepper engines' queues. -/
def State.popPp (s : State) (uid : Nat) : State :=
  { s with pps := s.pps.map fun (e : Nat × PpX) => (e.1, { e.2 with q := e.2.q.filter (· != uid) }) }

/-- The replay window (R329): the last 16 ops of a thread that completed since its most recent replay barrier. -/
def trimWindow (t : Nat) (ops : List Op) : List Op :=
  let done := ops.filter fun o => o.th == t && o.done
  let keep := (done.reverse.takeWhile fun o => !o.rb).take 16
  ops.filter fun o => !(o.th == t && o.done) || keep.any fun k => k.uid == o.uid

/-- An op ends with a status and flags: one that did its work goes behind the others into the replay window, which so stands in the order of
completion, any other leaves the list; its
ticket completes, and what waited for the end of a non-pre-emptible op follows. -/
def State.endOp (s : State) (o : Op) (st flags : Nat) : State :=
  let s := ((s.unsend o).leave o st flags).popPp o.uid
  let rest := s.ops.filter fun q => q.uid != o.uid
  let ops := if st = 0 then trimWindow o.th (rest ++ [{ o with done := true, status := st, flags := flags }]) else rest
  let s := { s with ops := ops }
  let s := s.tktDone o.th o.serial st flags
  if o.np then s.npEnd o.th else s

/-- An op in flight completes with ERROR. -/
def State.failOp (s : State) (o : Op) : State := (s.dropDir o).endOp o 3 o.flags

/-- The cluster whose mover an op runs on. -/
def Op.moverClu (o : Op) : Nat := if o.th = supTid then o.count else thClu o.th

/-- CUROP of an op (Table 13.8). -/
def Op.curop (o : Op) : Nat := if o.cls = 8 then 0xC else o.opc

/-- DETAIL of a record about an op: its ticket, for a mover also CUROP (Table 15.6). -/
def Op.detail (o : Op) : List Byte :=
  bytesOf 4 o.serial ++ (if 7 ≤ o.cls then zeros 4 ++ bytesOf 1 o.curop else [])

/-- The job of an op's thread; 0 for none. -/
def State.opJob (s : State) (o : Op) : Nat := if thClass o.th = .job then (s.ctx (thClu o.th) (thCtx o.th)).job.jseq else 0

/-- A report about an op: kind, condition, unit, subcode. -/
def State.opReport (s : State) (o : Op) (k : Nat) (c : Cond) (u sub : Nat) : Report :=
  { report k c u o.part with jseq := s.opJob o, sub := sub, detail := o.detail }

/-- An op completes with ERROR, with a record of what was lost (Table 15.5). -/
def State.lostOp (s : State) (o : Op) (k u sub : Nat) : State := (s.record (s.opReport o k .lost u sub)).failOp o

/-! ## Status of units -/

/-- Bring GLB_CLUMAP to the clusters' status registers (Table 18.6). -/
def State.mapSync (s : State) : State :=
  (List.range 6).foldl (fun s c => s.wf Addr.glbClumap (4 * c + 3) (4 * c) (s.cluPart c + 8 * (!s.cluLive c).toNat)) s

/-- HLT_STAT.ALERT, ALERT_N (R690). -/
def State.alertSync (s : State) : State :=
  s.wb Addr.hltStat 4 (s.rb Addr.hltCfg 16 && (s.rb Addr.hltStat 1 || s.rb Addr.hltStat 2 || s.rb Addr.memStat 2))

/-- Tiles of cluster c in service, one bit each. -/
def State.tilesUp (s : State) (c : Nat) : List Nat := (List.range 8).filter fun t => s.rb (Addr.mtTileStat c t) 0

/-- Vector engines of cluster c in service. -/
def State.vesUp (s : State) (c : Nat) : List Nat := (List.range 2).filter fun e => s.rb (Addr.veEngStat c e) 0

/-- Data movers of cluster c in service. -/
def State.moversUp (s : State) (c : Nat) : List Nat := (List.range 4).filter fun m => s.rb (Addr.dmMvStat c m) 0

/-- Channels not retired. -/
def State.chansUp (s : State) : List Nat := (List.range 26).filter fun c => s.rf (Addr.memChStat c) 2 0 != 5

/-- A fabric port is retired: both its lanes are. -/
def State.portRetired (s : State) (q : Nat) : Bool := s.rf (Addr.fabPortLane q) 1 0 == 3

/-- The device is at or above its degradation floor (R683). -/
def State.aboveFloor (s : State) : Bool :=
  s.sup.st != .off && ((List.range 6).any fun c => s.cluLive c && decide (4 ≤ (s.tilesUp c).length)) &&
  decide (12 ≤ s.chansUp.length) &&
  ((List.range 4).all (fun q => (let m := s.rf Addr.fabCfg (34 + 3 * q) (32 + 3 * q); m == 0 || decide (4 < m))) ||
    (List.range 4).any fun q => !s.portRetired q)

/-- Bring the FLOOR bits to the device's state; a fall below the floor writes a record, under the unit that brought it about (log entry
165), and an event (R684). -/
def State.floorCheck (s : State) (k u : Nat) : State :=
  let was := s.rb Addr.hltStat 1
  let now := !s.aboveFloor
  let s := (s.wb Addr.hltStat 1 now).wb Addr.hltSummary 16 now
  (if now && !was then (s.record (report k .floor u 0)).supEvent else s).alertSync

/-! ## Suspicion (R671 to R673) -/

/-- XWIN in ticks; 0 is treated as 1 s. -/
def State.xwin (s : State) (k : Nat) : Nat := sTicks (max 1 (s.rf (Addr.hltKindThr k) 63 48))
/-- XMAX; 0 is treated as 1. -/
def State.xmax (s : State) (k : Nat) : Nat := max 1 (s.rf (Addr.hltKindThr k) 47 44)
/-- EMAX; 0 is treated as 1. -/
def State.emax (s : State) (k : Nat) : Nat := max 1 (s.rf (Addr.hltKindThr k) 39 32)
/-- OPSW; 0 is treated as 1. -/
def State.opsw (s : State) (k : Nat) : Nat := max 1 (s.rf (Addr.hltKindThr k) 31 0)

/-- A unit is suspect (R673). -/
def State.suspect (s : State) (k u : Nat) : Bool :=
  let h := s.hu k u
  decide (0 < h.errs) || h.exh.any fun t => decide (s.time ≤ t + s.xwin k)

/-- The suspect bit of a unit: register and bit (R673, R674). -/
def susBit (k u : Nat) : Nat × Nat := if k = 10 then (Addr.hltSramsus (u / 64), u % 64) else (Addr.hltKindSus k, u)

/-- Bring a unit's suspect bits up to date; a unit that becomes suspect writes a SUSPECT record. -/
def State.susSync (s : State) (k u : Nat) : State :=
  let (off, b) := susBit k u
  let now := s.suspect k u
  let was := s.rb off b
  let s := s.wb off b now
  let s := if k = 1 then s.wb (Addr.mtTileStat (u / 8) (u % 8)) 3 now else if k = 2 then s.wb (Addr.veEngStat (u / 2) (u % 2)) 3 now else s
  if now && !was then s.record (report k .suspect u 0) else s

/-- A window of OPSW operations that is over gives way to the next (R672). -/
def State.rollWindow (s : State) (k u : Nat) : State :=
  let h := s.hu k u
  if s.opsw k ≤ h.ops then (s.setHu k u { h with ops := h.ops % s.opsw k, errs := 0 }).susSync k u else s

/-- Count operations of a unit in service (R664). -/
def State.countOps (s : State) (k u n : Nat) : State :=
  if s.rb (Addr.hltKindRet k) u && decide (u < 64) then s
  else let h := s.hu k u; s.setHu k u { h with ops := h.ops + n }

/-! ## Memory channels (R572 to R580) -/

/-- The slots that a channel hosts. -/
def State.slotsOn (s : State) (ch : Nat) : List Nat :=
  (List.range 24).filter fun n => s.rf (Addr.memSlot n) 4 0 == ch && !s.rb (Addr.memSlot n) 6

/-- The role of a channel: 0 IN, 1 SPARE, 2 SOURCE, 3 TARGET, 4 RETRAIN, 5 RETIRED, 6 INIT. -/
def State.role (s : State) (ch : Nat) : Nat := s.rf (Addr.memChStat ch) 2 0

/-- Set the role of a channel. -/
def State.setRole (s : State) (ch r : Nat) : State := s.wf (Addr.memChStat ch) 2 0 r

/-- Bring the rotation registers to the migration (Table 13.6). -/
def State.rotSync (s : State) : State :=
  match s.mig with
  | none => (s.wb Addr.memStat 1 false).wr Addr.memRotStat 0
  | some m =>
    (s.wb Addr.memStat 1 true).wr Addr.memRotStat
      (BitVec.ofNat 64 (m.slot * 2 ^ 59 + m.src * 2 ^ 54 + m.dst * 2 ^ 49 + m.upper.toNat * 2 ^ 48 + m.cp % 2 ^ 32))

/-- A target for a migration away from channel f: a spare; in half mode also the free half of a channel with one slot (R572,
R579). -/
def State.target (s : State) (f : Nat) : Option (Nat × Bool) :=
  match (List.range 26).find? fun c => s.role c == 1 with
  | some c => some (c, false)
  | none =>
    if s.rb Addr.memCfg 1 then
      ((List.range 26).find? fun c => c != f && s.role c == 0 && (s.slotsOn c).length == 1).map fun c =>
        (c, (s.slotsOn c).all fun n => !s.rb (Addr.memSlot n) 5)
    else none

/-- Start a migration of a slot. -/
def State.startMig (s : State) (slot src dst : Nat) (upper retire : Bool) : State :=
  let s := (s.setRole src 2).setRole dst 3
  let s := ({ s with mig := some ⟨slot, src, dst, upper, 0, retire⟩ }).rotSync
  if retire then s.record { report 11 .spare src 0 with sub := slot } else s

/-- Abandon a migration: the slot stays on its source, the target is free again (R578). -/
def State.dropMig (s : State) : State :=
  match s.mig with
  | none => s
  | some m =>
    let s := { s with mig := none }
    ((s.setRole m.src 0).setRole m.dst (if (s.slotsOn m.dst).isEmpty then 1 else 0)).rotSync

/-- A retirement that finds no target (R577, last row; R580). -/
def State.noTarget (s : State) (f : Nat) : State :=
  if ((s.chansUp.filter (· != f)).length < 12) then
    ((s.slotsOn f).foldl (fun s n => s.wb (Addr.memSlot n) 6 true) s).setRole f 5
  else
    let s := (s.wb Addr.memStat 2 true).wb Addr.hltSummary 18 true
    ((s.record (report 11 .noSpare f 0)).supEvent).alertSync

/-- Migrate a slot of channel f away for its retirement, or find that there is no target. -/
def State.evacuate (s : State) (f : Nat) : State :=
  match s.slotsOn f with
  | [] => s.setRole f 5
  | n :: _ =>
    match s.target f with
    | some (c, u) => s.startMig n f c u true
    | none => s.noTarget f

/-- Retire memory channel f (R577). -/
def State.retireChan (s : State) (f : Nat) : State :=
  match s.mig with
  | some m =>
    if m.src = f then { s with mig := some { m with retire := true } }
    else if m.dst = f then (s.dropMig).setRole f 5
    else if (s.slotsOn f).isEmpty then s.setRole f 5
    else if (s.target f).isSome || m.retire then s
    else (s.dropMig).evacuate f
  | none => if (s.slotsOn f).isEmpty then s.setRole f 5 else s.evacuate f

/-! ## Retirement (R675 to R684) -/

/-- A cluster leaves service (R680). -/
def State.leaveService (s : State) (c : Nat) : State :=
  if !s.cluLive c then s
  else
    let s := (s.wb (Addr.cluStat c) 8 false).mapSync
    let s := (List.range 64).foldl (fun s x => s.endCtx c x 6 0) s
    let s := s.wf (Addr.cluBasectl c) 1 0 2
    let s := (s.stopOps (tid c 64))
    let s := if (s.clu c).running = some 64 then s.setClu c { s.clu c with running := none } else s
    s.supEvent

/-- The register and bit of a unit's INSERV and RETIRED marks. -/
def inservBit (k u : Nat) : Option (Nat × Option Nat) :=
  match k with
  | 1 => some (Addr.mtTileStat (u / 8) (u % 8), some 4)
  | 2 => some (Addr.veEngStat (u / 2) (u % 2), some 4)
  | 3 => some (Addr.awStat u, none)
  | 4 => some (Addr.sqStat u, none)
  | 5 => some (Addr.cxStat u, none)
  | 6 => some (Addr.dmMvStat (u / 4) (u % 4), none)
  | 7 => some (Addr.ppEngStat u, none)
  | _ => none

/-- Ops in flight of a class on a cluster. -/
def State.classOps (s : State) (cls c : Nat) : List Op := s.ops.filter fun o => !o.done && o.cls == cls && thClu o.th == c

/-- A port with no lane left is retired: the blocks of its buffers are discarded and counted (R610). -/
def State.portOut (s : State) (q : Nat) : State :=
  let x := s.port q
  let s := s.sat (Addr.fabPortCnt1 q) 15 0 (x.replay.length + x.rx.length)
  let s := s.sat Addr.fabDrop 63 32 x.tx.length
  let s := s.setPort q { x with replay := [], rx := [], tx := [], ctl := [], again := 0, esc := false }
  s.wf (Addr.fabPortStat q) 2 0 5

/-- A fabric lane (2q + l) is retired (R608 to R610). -/
def State.laneOut (s : State) (u : Nat) : State :=
  let q := u / 2
  let s := s.wf (Addr.fabPortLane q) (u % 2) (u % 2) 1
  let s := s.wf (Addr.fabPortStat q) 33 32 (3 - s.rf (Addr.fabPortLane q) 1 0)
  if s.portRetired q then s.portOut q
  else if s.rf (Addr.fabPortStat q) 2 0 = 2 then s.wf (Addr.fabPortStat q) 2 0 3 else s

/-- What a retirement does to work in flight (Table 15.3). -/
def State.retireEffect (s : State) (k u : Nat) : State :=
  match k with
  | 2 => if (s.vesUp (u / 2)).isEmpty then s.leaveService (u / 2) else s
  | 3 => (s.classOps 3 u).foldl (fun s o => s.lostOp o k u 0) s
  | 4 => (s.classOps 4 u).foldl (fun s o => s.lostOp o k u 0) s
  | 5 => (s.classOps 6 u ++ (s.classOps 0 u).filter fun o => (descOf o.dB).comp != 0).foldl (fun s o => s.lostOp o k u 0) s
  | 6 =>
    match s.moversUp (u / 4) with
    | [] => s.leaveService (u / 4)
    | m :: _ => { s with ops := s.ops.map fun o =>
        if !o.done ∧ (o.cls = 7 ∨ o.cls = 8) ∧ o.moverClu = u / 4 ∧ o.unit = u % 4 then { o with unit := m } else o }
  | 7 => ((s.ops.filter fun o => !o.done && o.cls == 5 && o.unit == u)).foldl (fun s o => s.lostOp o k u 0) s
  | 8 => s.leaveService u
  | 11 => s.retireChan u
  | 12 => s.laneOut u
  | _ => s

/-- Retire a unit (R676). -/
def State.retire (s : State) (k u : Nat) : State :=
  if k = 9 ∨ k = 10 ∨ k = 13 ∨ s.rb (Addr.hltKindRet k) u then s
  else
    let s := s.wb (Addr.hltKindRet k) u true
    let s := match inservBit k u with
      | some (off, r) =>
        let s := s.wb off 0 false
        match r with | some b => s.wb off b true | none => s
      | none => s
    let s := s.sat Addr.hltSummary 31 24 1
    let s := (s.record (report k .retire u 0)).supEvent
    (s.retireEffect k u).floorCheck k u

/-- Replace the lines of an SRAM group that failed twice by spares; a group without a spare is marked out (R681, R682). -/
def State.spareGroup (s : State) (g : Nat) : State :=
  let bad := (s.badLines.filter fun e => groupOf (e.1 * 64) == g && decide (4 ≤ e.2)).map (·.1)
  let s := bad.foldl (fun s l =>
    if s.groupsOut.contains g then s
    else
      let used := Sparse.get (fun _ => 0) s.spares g
      if used < 16 then
        let s := { s with spares := Sparse.set (fun _ => 0) s.spares g (used + 1), badLines := s.badLines.erase l }
        let s := s.setLine (l * 64) { s.line (l * 64) with valid := true, bad := true }
        let s := s.sat Addr.hltSramsp 15 0 1
        s.record { report 10 .spare g 0 with addr := l * 64, detail := bytesOf 6 (l * 64) ++ bytesOf 1 (15 - used) }
      else
        let s := { s with groupsOut := s.groupsOut ++ [g] }
        ((s.wb Addr.hltStat 0 true).sat Addr.hltSramsp 31 16 1).supEvent) s
  let s := s.setHu 10 g unit0
  let s := s.susSync 10 g
  if s.groupsOut.contains g && decide (256 ≤ g) && decide (128 ≤ (g - 256) % 384) then
    s.retire 1 ((g - 256) / 384 * 8 + ((g - 256) % 384 - 128) / 32)
  else s

/-- Declare a unit permanently faulty (R671, R675). -/
def State.declare (s : State) (k u : Nat) : State :=
  let s := s.sat (Addr.hltKindCnt k) 15 0 1
  match k with
  | 9 => ((s.wb Addr.hltStat 2 true).wb Addr.hltSummary 17 true).alertSync
  | 10 => s.spareGroup u
  | 12 => s.setPort (u / 2) { s.port (u / 2) with declared := true }
  | 13 => s.wb Addr.hltStat 3 true
  | _ => s.retire k u

/-- A detected error of a unit (R664, R671). -/
def State.detect (s : State) (k u : Nat) : State :=
  let s := s.rollWindow k u
  let h := s.hu k u
  let s := s.setHu k u { h with errs := h.errs + 1 }
  let s := s.sat (Addr.hltKindCnt k) 63 32 1
  let s := s.susSync k u
  if h.errs + 1 = s.emax k then s.declare k u else s

/-- A retry exhaustion of a unit, with its record (R664, R671). -/
def State.exhaustWith (s : State) (k u : Nat) (r : Report) : State :=
  let h := s.hu k u
  let past := h.exh.filter fun t => decide (s.time ≤ t + s.xwin k)
  let s := s.setHu k u { h with exh := s.time :: past }
  let s := s.sat (Addr.hltKindCnt k) 31 16 1
  let s := (s.susSync k u).record r
  if s.xmax k ≤ past.length + 1 then s.declare k u else s

/-- A retry exhaustion of a unit. -/
def State.exhaust (s : State) (k u : Nat) : State := s.exhaustWith k u (report k .exhaust u 0)

end Sys2Proof.Machine
end

