-- ==== Sys2Proof/Machine/Mem.lean ====
section
/-! DEFINITION. Checked accesses to device memory and host memory: line and burst checks, partition tags, generations, merges
(R546 to R559, R564, R565), and the host window (R651). -/

namespace Sys2Proof.Machine

open Sys2Proof

/-- The channel of a DDR5 memory key. -/
def chanOf (k : Nat) : Nat := (k - 0x1000000000000) / 0x10000000000

/-- A tag mismatch on a read by partition p: counted and recorded (R549, R558). -/
def State.tagErr (s : State) (p a : Nat) : State :=
  let s := s.sat Addr.memTagerr 31 0 1
  let (k, u) := if onChip a then (10, groupOf a) else (11, chanOf (s.rkey a))
  s.record { report k .access u p with addr := a / 64 * 64 }

/-- Line failures of an SRAM group since power-up. -/
def State.groupFails (s : State) (g : Nat) : Nat :=
  ((s.badLines.filter fun e => groupOf (e.1 * 64) == g).map fun e => e.2 / 2).sum

/-- A line of on-chip SRAM fails its check once (R664, kind 0x0A): a second failure with no full-line write between is an
exhaustion. A line's entry holds twice its failures since power-up, plus one while it has failed since its last full write. -/
def State.lineFail (s : State) (a : Nat) : State :=
  let g := groupOf a
  let n := Sparse.get (fun _ => 0) s.badLines (a / 64)
  let s := { s with badLines := Sparse.set (fun _ => 0) s.badLines (a / 64) (n / 2 * 2 + 3) }
  let left := 16 - Sparse.get (fun _ => 0) s.spares g
  let d := bytesOf 6 (a / 64 * 64) ++ bytesOf 1 left
  let s := s.record { report 10 .detect g 0 with addr := a / 64 * 64, sub := s.groupFails g, detail := d }
  let s := s.detect 10 g
  if n % 2 = 1 then s.exhaust 10 g else s

/-- A burst of a memory channel is declared failed (R556): a record with the mismatching LPAR bits (a free value) and the
slot. -/
def State.burstFail (s : State) (a : Nat) (count : Bool) : State :=
  let ch := chanOf (s.rkey a)
  let (i, s) := s.fresh
  let d := bytesOf 4 (Config.freeFp i 0).toNat ++ bytesOf 2 (slotOf (a - ddrBase))
  let s := s.record { report 11 .lost ch 0 with addr := a / 64 * 64, detail := d }
  if count then s.exhaust 11 ch else s

/-- n failing checks of reads of one burst, each a retry (R556). -/
def State.burstRetry (s : State) (ch : Nat) : Nat → State
  | 0 => s
  | n + 1 => ((s.sat (Addr.memChCnt1 ch) 31 16 1).detect 11 ch).burstRetry ch n

/-- n failing checks of writes of one burst, each sent again (R556). -/
def State.writeRetry (s : State) (ch : Nat) : Nat → State
  | 0 => s
  | n + 1 => ((s.sat (Addr.memChCnt1 ch) 15 0 1).detect 11 ch).writeRetry ch n

/-- What a checked read answers: the state, the bytes, and whether the check passed in the end. -/
structure ReadRes where
  s : State
  data : List Byte
  ok : Bool

/-- Read n bytes at offset o of the line at la for partition p (0: the supervisor program or the device), meeting flt failing
checks on the way. -/
def State.readLine (s : State) (p la o n flt : Nat) : ReadRes :=
  let k := s.rkey la
  let m := s.line k
  if onChip la then
    if s.groupsOut.contains (groupOf la) then ⟨s, zeros n, false⟩
    else if !m.valid then ⟨s, zeros n, true⟩
    else
      let s := s.countOps 10 (groupOf la) 1
      if m.bad || decide (2 ≤ flt) then ⟨(s.lineFail la).lineFail la, zeros n, false⟩
      else
        let s := if flt = 1 then s.lineFail la else s
        if m.tag ≠ 0 ∧ p ≠ 0 ∧ m.tag ≠ p then ⟨s.tagErr p la, zeros n, true⟩ else ⟨s, s.bytes (k + o) n, true⟩
  else if !s.ddrUp la then ⟨s, zeros n, false⟩
  else
    let ch := chanOf k
    let s := (s.inc (Addr.memChCnt0 ch) 63 32 1).countOps 11 ch 1
    if m.poison then ⟨s.burstFail la false, zeros n, false⟩
    else if m.bad || decide (4 ≤ flt) then ⟨(s.burstRetry ch 3).burstFail la true, zeros n, false⟩
    else
      let s := s.burstRetry ch flt
      let s := if flt = 0 then s else s.record { report 11 .detect ch 0 with addr := la, sub := flt }
      if m.gen ≠ s.gen (scrubRegion la) then ⟨s, zeros n, true⟩
      else if m.tag ≠ 0 ∧ p ≠ 0 ∧ m.tag ≠ p then ⟨s.tagErr p la, zeros n, true⟩
      else ⟨s, s.bytes (k + o) n, true⟩

/-- The parts of a byte range by lines: line address, offset in the line, offset in the range, length. -/
def lineParts (a n : Nat) : List (Nat × Nat × Nat × Nat) :=
  if n = 0 then []
  else (List.range ((a % 64 + n + 63) / 64)).map fun i =>
    let la := a / 64 * 64 + 64 * i
    let lo := max a la
    (la, lo - la, lo - a, min (a + n) (la + 64) - lo)

/-- Read n bytes of memory at a device address; the failing checks meet the first line. -/
def State.readMem (s : State) (p a n flt : Nat) : ReadRes :=
  (lineParts a n).foldl (fun r (la, o, _, l) =>
    let q := r.s.readLine p la o l (if la = a / 64 * 64 then flt else 0)
    ⟨q.s, r.data ++ q.data, r.ok && q.ok⟩) ⟨s, [], true⟩

/-- Write bytes at offset o of the line at la with a tag, merging into the line when they do not fill it (R547, R550, R559). -/
def State.writeLine (s : State) (tag la o : Nat) (bs : List Byte) : State :=
  let k := s.rkey la
  let m := s.line k
  let full := decide (bs.length = 64)
  let foreign := decide (m.tag ≠ 0) && decide (tag ≠ 0) && decide (m.tag ≠ tag)
  if onChip la then
    if s.groupsOut.contains (groupOf la) then s
    else
      let n := Sparse.get (fun _ => 0) s.badLines (la / 64)
      let s := if full then { s with badLines := Sparse.set (fun _ => 0) s.badLines (la / 64) (n / 2 * 2) } else s
      let bad := !full && m.valid && m.bad
      let s := if !full && m.valid then s.countOps 10 (groupOf la) 1 else s
      let s := if bad then (s.lineFail la).lineFail la else s
      let s := if !full && m.valid && !bad && foreign then s.tagErr tag la else s
      let s := if !full && (!m.valid || (!bad && foreign)) then s.setBytes k (zeros 64) else s
      (s.setBytes (k + o) bs).setLine k ⟨true, tag, 0, bad, false⟩
  else if !s.ddrUp la then s
  else
    let stale := decide (m.gen ≠ s.gen (scrubRegion la))
    let lost := !full && (m.poison || m.bad)
    let s := (s.inc (Addr.memChCnt0 (chanOf k)) 31 0 1).countOps 11 (chanOf k) 1
    let s := if full then s else (s.inc (Addr.memChCnt0 (chanOf k)) 63 32 1).countOps 11 (chanOf k) 1
    let s := if !full && m.bad && !m.poison then (s.burstRetry (chanOf k) 3).burstFail la true else s
    let s := if !full && !lost && !stale && foreign then s.tagErr tag la else s
    let clear := !full && !lost && (stale || foreign)
    (s.wkeys la).foldl (fun s k =>
      let s := if clear then s.setBytes k (zeros 64) else s
      (s.setBytes (k + o) bs).setLine k ⟨true, tag, s.gen (scrubRegion la), false, lost⟩) s

/-- Write bytes to memory at a device address with a tag. -/
def State.writeMem (s : State) (tag a : Nat) (bs : List Byte) : State :=
  (lineParts a bs.length).foldl (fun s (la, o, d, l) => s.writeLine tag la o ((bs.drop d).take l)) s

/-- Write bytes of one line that the memory signals as failed n times: a DDR5 burst is sent again up to three times; after the fourth failure
it is declared failed and reads as failed until a write of all 64 bytes replaces it (R556, log entry 161). -/
def State.writeMemF (s : State) (tag a : Nat) (bs : List Byte) (n : Nat) : State :=
  if region a ≠ .ddr ∨ n = 0 ∨ 4 < n ∨ !s.ddrUp a then s.writeMem tag a bs
  else
    let ch := chanOf (s.rkey a)
    let s := (s.writeMem tag a bs).writeRetry ch (min n 3)
    if n < 4 then s.record { report 11 .detect ch 0 with addr := a / 64 * 64, sub := n }
    else (s.wkeys a).foldl (fun s k => s.setLine k { s.line k with bad := true }) (s.burstFail a true)

/-- Every byte of a range is answered by memory (R562, R789). -/
def State.memRange (s : State) (a n : Nat) : Bool := n == 0 || ((lineParts a n).all fun q => s.memAddr q.1)

/-- The channel that hosts slot n is still being written at power-up (R569). -/
def State.slotInit (s : State) (n : Nat) : Bool := s.rb Addr.memCfg 0 && s.role (s.rf (Addr.memSlot n) 4 0) == 6

/-- An access to an address waits: its region's scrub generation has an advance outstanding (R568), its channel has not been written (R569),
or its cluster is being cleared or reset (R705, R782). -/
def State.mustWait (s : State) (a : Nat) : Bool :=
  match region a with
  | .ddr => s.pendAdv.contains (scrubRegion a) || s.slotInit (slotOf (a - ddrBase))
  | .cluster c | .tile c _ => s.pmu.clearing.contains c || s.rb (Addr.cluStat c) 9
  | _ => false

/-- Some access to an extent waits. -/
def State.extWaits (s : State) (e : Ext) : Bool :=
  decide (e.lo < e.hi) && match region e.lo with
    | .ddr =>
      let a := (e.lo - ddrBase) / 1024
      let k := (e.hi - 1 - ddrBase) / 1024 - a
      (s.pendAdv.any fun r => decide (e.lo < ddrBase + (r + 1) * 0x10000000) && decide (ddrBase + r * 0x10000000 < e.hi)) ||
        (List.range 24).any fun n => decide ((n + 24 - a % 24) % 24 ≤ k) && s.slotInit n
    | _ => s.mustWait e.lo

/-- The PCI Express link is up. -/
def State.linkUp (s : State) : Bool := s.rb Addr.pciLink 8

/-- The host address of offset a of the host window of function f (R651). -/
def State.hostAddr (s : State) (f a : Nat) : Nat := s.rf (Addr.pciFnHwbase f) 63 12 * 4096 + a

/-- n bytes of host memory. -/
def State.hostRead (s : State) (a n : Nat) : List Byte := (List.range n).map fun i => Sparse.get (fun _ => 0) s.host (a + i)

/-- Write host memory. -/
def State.hostWrite (s : State) (a : Nat) : List Byte → State
  | [] => s
  | b :: t => ({ s with host := Sparse.set (fun _ => 0) s.host a b }).hostWrite (a + 1) t

end Sys2Proof.Machine
end

