-- ==== Sys2Proof/Machine/Ptb.lean ====
section
/-! DEFINITION. The position timebase (chapter 2): encoder counting, velocity, compare slots, outputs, follower axes. -/

namespace Sys2Proof.Machine

open Sys2Proof

/-! ## Shared -/

/-- Whether a limited source writes a record now, with how many occurrences, and the limiter after (R687). -/
def Lim.pass (l : Lim) (now window : Nat) : Option Nat × Lim :=
  match l.at_ with
  | some t => if now < t + window then (none, { l with held := l.held + 1 }) else (some (l.held + 1), ⟨some now, 0⟩)
  | none => (some (l.held + 1), ⟨some now, 0⟩)

/-- A source is the supervisor program. -/
def isSup : Src → Bool
  | .sup => true
  | _ => false

/-- A source is the supervisor program or the program of partition p (p = 0: only the supervisor program). -/
def mayOwn (r : Src) (p : Nat) : Bool :=
  match r with
  | .sup => true
  | .part q => q == p && p != 0
  | .pf _ => false

/-- The bit of PMU_WAKEEN and PMU_WAKEPEND of a wake source (Table 17.7). -/
def wakeBit (n sub : Nat) : Nat :=
  match n with
  | 1 => 0 | 2 => 1 | 3 => 2 + sub | 4 => 6 | 5 => 7 + sub | 6 => 11 | _ => 12

/-- A wake source fires: it is pending until cleared (R771, R772). -/
def State.raiseWake (s : State) (n sub : Nat) : State :=
  let s := s.wb Addr.pmuWakepend (wakeBit n sub) true
  { s with pmu := { s.pmu with wakes := if s.pmu.wakes.contains (n, sub) then s.pmu.wakes else s.pmu.wakes ++ [(n, sub)] } }

/-! ## Waits on positions and slot events (R265 to R267) -/

/-- A position condition holds (R46). -/
def condHolds (falling : Bool) (p c : Cnt) : Bool := if falling then decide (c.toInt ≤ p.toInt) else decide (p.toInt ≤ c.toInt)

/-- The threads, by number. -/
def State.tids (s : State) : List Nat := s.threads.map (·.1)

/-- End the PWAIT of a thread with a status. -/
def State.endPwait (s : State) (t : Nat) (gd : Reg) (st : Nat) : State := (s.setG t gd (BitVec.ofNat 64 st)).resume t

/-- Threads waiting on axis n whose condition holds, or whose axis is LOST, go on (R266, R267). -/
def State.wakePos (s : State) (n : Nat) : State :=
  s.tids.foldl (fun s t =>
    match (s.thread t).wait with
    | .pos ax f c gd _ =>
      if ax ≠ n then s
      else if s.axLost n then s.endPwait t gd 2
      else if condHolds f c (s.cnt n) then s.endPwait t gd 0 else s
    | _ => s) s

/-- A position event of slot k reaches core c (R246): the bit is set, and threads of the core that wait for it go on and
clear it (R265). -/
def State.posEvent (s : State) (c k : Nat) : State :=
  let waits := s.tids.filter fun t => thClu t == c && (match (s.thread t).wait with | .slot j _ _ => j == k | _ => false)
  if waits.isEmpty then s.setPend c (setBit (s.pend c) k true)
  else
    waits.foldl (fun s t => match (s.thread t).wait with | .slot _ gd _ => s.endPwait t gd 0 | _ => s)
      (s.setPend c (setBit (s.pend c) k false))

/-! ## Outputs (R62 to R70) -/

/-- Push a fire record on camera k's queue; the oldest of 64 goes to UNMATCHED (R111, R112). -/
def State.pushFire (s : State) (k : Nat) (cnts : List Cnt) (lost : List Bool) (time slot : Nat) : State :=
  let n := s.scanAxis (s.camOwner k)
  let f : FireRec := ⟨cnts.getD n 0, lost.getD n false, time, slot⟩
  let m := s.cam k
  if m.fires.length < 64 then s.setCam k { m with fires := m.fires ++ [f] }
  else (s.setCam k { m with fires := m.fires.tail ++ [f] }).sat (Addr.ingCamFire k) 15 0 1

/-- Cameras that stamp from the fires of output o (R111). -/
def State.stamped (s : State) (o : Nat) : List Nat :=
  (List.range 4).filter fun k => s.rb (Addr.ingCamCfg k) 15 && s.rf (Addr.ingCamCfg k) 19 16 == o

/-- Camera k is enabled: EN set and its configuration applied (R93, R97). -/
def State.camOn (s : State) (k : Nat) : Bool := s.rb (Addr.cxpCamCfg k) 0 && (s.cam k).applied

/-- A fire sent to CXT k (R97, R101). -/
def State.cxtFire (s : State) (k slot : Nat) : State :=
  if !s.camOn k then s
  else
    let m := s.cam k
    if m.up.busy || decide (5 * s.time < m.up.fin) then s.sat (Addr.cxpCamStat k) 47 32 1
    else
      let s := s.setCam k { m with up := ⟨5 * s.time, false, true, m.up.fin⟩ }
      if s.rb (Addr.ingCamCfg k) 15 && s.rf (Addr.ingCamCfg k) 19 16 == 12 + k then s.pushFire k s.cnts s.losts s.time slot else s

/-- Duration of an output's pulse in 0.5 ns (R64 to R66). -/
def State.pulseLen (s : State) (o : Nat) : Nat :=
  let w := max 1 (s.rf (Addr.ptbOutCfg o) 31 16)
  if 8 ≤ o ∧ s.rb (Addr.ptbOutCfg o) 34 then w * 2000 else w * 4

/-- Start of an output's pulse after a fire in this sample, in 0.5 ns (R64, R65). -/
def State.pulseAt (s : State) (o : Nat) : Nat :=
  5 * s.time + (if o < 8 then 24 else 40) + 4 * s.rf (Addr.ptbOutCfg o) 15 0

/-- A fire sent to TRIG or MARK output o (R64 to R69). -/
def State.outFire (s : State) (o slot : Nat) : State :=
  let x := s.out o
  if !s.rb (Addr.ptbOutCfg o) 32 ∨ x.lastFire = some s.time then s
  else
    let s := s.setOut o { x with lastFire := some s.time }
    let start := s.pulseAt o
    let prev := match x.q.getLast? with | some p => p.stop | none => match x.run with | some p => p.stop | none => 0
    if start < prev ∨ 16 ≤ x.q.length then s.sat (Addr.ptbOutStat o) 15 0 1
    else s.setOut o { x with q := x.q ++ [⟨start, start + s.pulseLen o, s.time, slot, s.cnts, s.losts⟩], lastFire := some s.time }

/-- A slot of an owner may drive an output (R62). -/
def State.mayDrive (s : State) (owner o : Nat) : Bool :=
  owner == 0 || (if o < 12 then ownerOf (s.rf (Addr.ptbOutCfg o) 37 35) == owner else s.camOwner (o - 12) == owner)

/-- A fire goes to the outputs of the slot's OUTMASK, and its position event to its cores (R62). An OWNER of 5 to 7 counts as 0 (log entry
139). -/
def State.fireOuts (s : State) (k : Nat) : State :=
  let c := s.rd (Addr.ptbSlotCtl k)
  let owner := ownerOf (fld c 58 56)
  let s := (List.range 16).foldl (fun s o =>
    if bit c (24 + o) && s.mayDrive owner o then (if o < 12 then s.outFire o k else s.cxtFire (o - 12) k) else s) s
  if !bit c 6 then s
  else if owner = 0 then (s.posEvent 7 k).supEvent
  else
    let s := (s.partClus owner).foldl (fun s c => s.posEvent c k) s
    if bit c 7 then (s.posEvent 7 k).supEvent else s

/-! ## Compare slots (R53 to R61, R88) -/

/-- A target or step register as a fixed-point number: integer part times 65,536 plus fraction. -/
def fixOf (v : W64) : Int := (cntOf v).toInt * 65536 + fld v 63 48

/-- A fixed-point number as a target register. -/
def fixReg (x : Int) : W64 :=
  setFld ((cntOfInt (x / 65536)).zeroExtend 64) 63 48 (x % 65536).toNat

/-- A movement crosses a target (R54); qualifiers 1 rising, 2 falling, 3 either. -/
def crosses (q : Nat) (old new t : Int) : Bool :=
  (q.testBit 0 && decide (old < t) && decide (t ≤ new)) || (q.testBit 1 && decide (t < old) && decide (new ≤ t))

/-- How many successive targets of a periodic slot a movement crosses, the first included (R58). -/
def crossed (old new t step : Int) : Nat :=
  let lo := if old < new then (old + 1) * 65536 else new * 65536
  let hi := if old < new then new * 65536 + 65535 else old * 65536 - 1
  if step = 0 then 1
  else if 0 < step then ((hi - t) / step + 1).toNat
  else ((t - lo) / (-step) + 1).toNat

/-- Disarm a slot. -/
def State.disarm (s : State) (k : Nat) : State := (s.wb (Addr.ptbSlotCtl k) 0 false).wb (Addr.ptbSlotStat k) 32 false

/-- A slot fires, having crossed n targets (R56 to R58). -/
def State.slotFire (s : State) (k n : Nat) : State :=
  let s := s.sat (Addr.ptbSlotStat k) 15 0 1
  let s :=
    if s.rb (Addr.ptbSlotCtl k) 4 then
      let t := fixOf (s.rd (Addr.ptbSlotTgt k)) + n * fixOf (s.rd (Addr.ptbSlotStep k))
      let s := (s.wr (Addr.ptbSlotTgt k) (fixReg t)).sat (Addr.ptbSlotStat k) 31 16 (n - 1)
      if s.noLimit.contains k then s
      else
        let r := s.rf (Addr.ptbSlotCtl k) 55 40 - n
        let s := s.wf (Addr.ptbSlotCtl k) 55 40 r
        if r = 0 then (s.disarm k).wb (Addr.ptbSlotStat k) 34 true else s
    else s.disarm k
  s.fireOuts k

/-- Every armed slot of an axis is evaluated on a movement (R54, R60). -/
def State.evalSlots (s : State) (n : Nat) (old new : Cnt) : State :=
  (List.range 64).foldl (fun s k =>
    let c := s.rd (Addr.ptbSlotCtl k)
    let t := s.rd (Addr.ptbSlotTgt k)
    if s.rb (Addr.ptbSlotStat k) 32 && fld c 9 8 == n && crosses (fld c 3 2) old.toInt new.toInt (cntOf t).toInt then
      s.slotFire k (crossed old.toInt new.toInt (fixOf t) (fixOf (s.rd (Addr.ptbSlotStep k))))
    else s) s

/-- Arm a slot afresh (R55, R57, R61, R88). A qualifier of 0 arms nothing and leaves FIRED and SKIP (log entry 139). -/
def State.arm (s : State) (k : Nat) : State :=
  let c := s.rd (Addr.ptbSlotCtl k)
  let q := fld c 3 2
  if q = 0 then (s.disarm k).wb (Addr.ptbSlotStat k) 35 true
  else
    let s := (s.wf (Addr.ptbSlotStat k) 31 0 0).wb (Addr.ptbSlotStat k) 32 true
    let others := s.noLimit.filter (· != k)
    let s := { s with noLimit := if fld c 55 40 = 0 then others ++ [k] else others }
    let t := (cntOf (s.rd (Addr.ptbSlotTgt k))).toInt
    let x := (s.cnt (fld c 9 8)).toInt
    let late := match q with | 1 => decide (t ≤ x) | 2 => decide (x ≤ t) | _ => decide (x = t)
    if !late then s
    else
      let s := s.wb (Addr.ptbSlotStat k) 33 true
      if bit c 5 then s.slotFire k 1 else s

/-- A write of PTB_SLOTs_CTL (R53, R88): OWNER by the supervisor program only. -/
def State.slotCtl (s : State) (r : Src) (k : Nat) (v : W64) (be : BitVec 8) : State :=
  let off := Addr.ptbSlotCtl k
  let old := s.rd off
  if !mayOwn r (ownerOf (fld old 58 56)) then s
  else
    let m := byteMask be &&& (if isSup r then 0x07FFFFFFFF0003FD else 0x00FFFFFFFF0003FD)
    let s := s.wr off ((old &&& ~~~ m) ||| (v &&& m))
    if !be.getLsbD 0 then s else if bit v 0 then s.arm k else s.disarm k

/-! ## Counters (R34 to R43) -/

/-- How far back the model keeps the counters, in ticks: 40 us, since it looks an instant up when the line or the block is complete, where
the device does when the header or the first frame comes (R110, log entry 143). -/
def histTicks : Nat := 16000

/-- The counters before their first change: zero, not LOST. -/
def hist0 : HistEntry := ⟨0, List.replicate 4 0, List.replicate 4 false⟩

/-- Keep the counter history of the ingest unit: one entry per change (R110). -/
def State.noteHist (s : State) : State :=
  let old := (if s.hist.isEmpty then [hist0] else s.hist).filter fun h => h.time != s.time
  let young := old.filter fun h => decide (s.time ≤ h.time + histTicks)
  let before := (old.filter fun h => decide (h.time + histTicks < s.time)).take 1
  { s with hist := ⟨s.time, s.cnts, s.losts⟩ :: (young ++ before) }

/-- What follows any change of counter n: history, position waits, deadlines (R219). -/
def State.afterCount (s : State) (n : Nat) : State := ((s.noteHist).wakePos n).checkPassed n

/-- A movement of counter n to a new value: slots are evaluated on it (R54). -/
def State.moveTo (s : State) (n : Nat) (new : Cnt) : State :=
  let old := s.cnt n
  let s := s.wf (Addr.ptbAxCnt n) 47 0 new.toNat
  (s.evalSlots n old new).afterCount n

/-- One accepted count up or down (R35, R36, R48). -/
def State.count (s : State) (n : Nat) (down : Bool) : State :=
  let old := s.cnt n
  let new := if down then old - 1 else old + 1
  let wrap := if down then old == BitVec.intMin 48 else old == BitVec.intMax 48
  let st := Addr.ptbAxStat n
  let s := s.setAxis n { s.axis n with last := s.time }
  let s := ((s.wb st 0 down).wb st 1 false)
  let s := if wrap then s.wb st 4 true else s
  s.moveTo n new

/-- Restart the velocity estimator from the present counter (R51, R52). -/
def State.velRestart (s : State) (n : Nat) : State :=
  let s := s.setAxis n { s.axis n with k := 0, hist := [s.cnt n] }
  s.wr (Addr.ptbAxVel n) 0

/-- Axis n takes its counts from position packets. -/
def State.follows (s : State) (n : Nat) : Bool := s.rb (Addr.ptbAxCfg n) 0 && s.rb (Addr.ptbAxCfg n) 1

/-- Load counter n: not a movement (R42, R43). The estimator restarts (R52); a follower keeps the velocity of its last packet (R83). -/
def State.loadCnt (s : State) (n : Nat) (v : Cnt) : State :=
  let s := s.wf (Addr.ptbAxCnt n) 47 0 v.toNat
  let s := s.wb (Addr.ptbAxStat n) 7 false
  (if s.follows n then s else s.velRestart n).afterCount n

/-- A write of PTB_AXn_CNT by the supervisor program (R42). -/
def State.cntWrite (s : State) (r : Src) (n : Nat) (v : W64) (be : BitVec 8) : State :=
  if isSup r then s.loadCnt n (cntOf (mergeBytes be (s.rd (Addr.ptbAxCnt n)) v)) else s

/-- A write of PTB_AXn_CFG: enabling the axis, or changing its source, takes s[0] and starts a follower without a packet (R51, R83; log
entry 140). -/
def State.axCfgWrite (s : State) (n : Nat) (new : W64) : State :=
  let old := s.rd (Addr.ptbAxCfg n)
  let s := s.wr (Addr.ptbAxCfg n) new
  if bit new 0 && (!bit old 0 || bit old 1 != bit new 1) then
    (s.setAxis n { s.axis n with hold := 0, phase := 0, applied := 0, pv := 0, last := s.time, pktAt := s.time }).velRestart n
  else s

/-- Count up on a transition: A leads B (R36). -/
def countsUp (oldA : Bool) (a b : Bool) : Bool := if oldA != a then a != b else a == b

/-- An illegal transition (R40). -/
def State.illegal (s : State) (n : Nat) : State :=
  let s := (s.wb (Addr.ptbAxStat n) 3 true).sat (Addr.ptbAxStat n) 31 16 1
  let (w, l) := (s.axis n).lim.pass s.time (msTicks 1)
  let s := s.setAxis n { s.axis n with lim := l, cerr := true }
  match w with
  | some k => s.record { report 16 .signal n 0 with n := k }
  | none => s

/-- A new level can have been accepted by now, m filter times after the sample of the last one (R37): F + 1 samples make a filter time. -/
def State.filtered (s : State) (n m : Nat) (last : Option Nat) : Bool :=
  match last with
  | some t => decide (t + m * (s.rf (Addr.ptbAxCfg n) 6 2 + 1) ≤ s.time)
  | none => true

/-- The action of a rising Z edge under ZMODE m (R41): latch, or latch and homing load. -/
def State.zAct (s : State) (n m : Nat) : State :=
  match m with
  | 1 => (s.wf (Addr.ptbAxZlat n) 47 0 (s.cnt n).toNat).wb (Addr.ptbAxStat n) 5 true
  | 2 =>
    let s := (s.wf (Addr.ptbAxZlat n) 47 0 (s.cnt n).toNat).wb (Addr.ptbAxStat n) 5 true
    (s.wf (Addr.ptbAxCfg n) 9 8 1).loadCnt n (cntOf (s.rd (Addr.ptbAxZload n)))
  | _ => s

/-- An accepted count of a local axis. A Z edge of the same sample acts after it, on the counter as it stands after the count (R41). -/
def State.countZ (s : State) (n : Nat) (down : Bool) : State :=
  match (s.axis n).z with
  | some (t, old, m) => if t = s.time then ((s.wf (Addr.ptbAxCnt n) 47 0 old.toNat).count n down).zAct n m else s.count n down
  | none => s.count n down

/-- ENCODER_TRANSITION: new accepted levels of A and B of axis n (R36, R37, R40, R44). A level that the filter cannot have accepted yet is
none. -/
def State.encoder (s : State) (n : Nat) (a b : Bool) : State :=
  let x := s.axis n
  if x.a = a ∧ x.b = b then s
  else
    let s := if s.rb Addr.ptbWake n then s.raiseWake 4 n else s
    if !s.ptbOn || (x.a != a && !s.filtered n 1 x.aAt) || (x.b != b && !s.filtered n 1 x.bAt) then s
    else
      let s := s.setAxis n { x with a := a, b := b, aAt := if x.a = a then x.aAt else some s.time, bAt := if x.b = b then x.bAt else some s.time }
      let cfg := s.rd (Addr.ptbAxCfg n)
      if !bit cfg 0 || bit cfg 1 then s
      else if x.a ≠ a ∧ x.b ≠ b then s.illegal n
      else s.countZ n (countsUp x.a a b == bit cfg 7)

/-- Meaning of ENCODER_TRANSITION. -/
def execEncoderTransition (n : Nat) (a b : Bool) (s : State) : Host.Outcome State Fault Refusal :=
  if n < 4 then .next (s.encoder n a b) else .fault .noSuchUnit

/-- An accepted rising Z edge of axis n (R37, R41): between two of them the filter accepts a low level. On a disabled axis it does nothing;
on a follower it acts as on a local axis (log entry 140). -/
def State.zEdge (s : State) (n : Nat) : State :=
  let cfg := s.rd (Addr.ptbAxCfg n)
  let x := s.axis n
  if !s.ptbOn || !bit cfg 0 || !s.filtered n 2 (x.z.map (·.1)) then s
  else (s.setAxis n { x with z := some (s.time, s.cnt n, fld cfg 9 8) }).zAct n (fld cfg 9 8)

/-- Meaning of Z_EDGE. -/
def execZEdge (n : Nat) (s : State) : Host.Outcome State Fault Refusal :=
  if n < 4 then .next (s.zEdge n) else .fault .noSuchUnit

/-- Meaning of AXIS_STOPPED (R48): no count accepted for STOPT us. -/
def execAxisStopped (n : Nat) (s : State) : Host.Outcome State Fault Refusal :=
  if n < 4 then
    .next (if s.ptbOn ∧ (s.axis n).last + usTicks (max 1 (s.rf (Addr.ptbAxVcfg n) 31 16)) ≤ s.time
      then s.wb (Addr.ptbAxStat n) 1 true else s)
  else .fault .noSuchUnit

/-! ## Velocity (R51, R52) -/

/-- One velocity update of local axis n. -/
def State.velUpdate (s : State) (n : Nat) : State :=
  let cfg := s.rd (Addr.ptbAxCfg n)
  if !bit cfg 0 || bit cfg 1 then s
  else
    let x := s.axis n
    let k := x.k + 1
    let h := (s.cnt n :: x.hist).take 129
    let s := s.setAxis n { x with k := k, hist := h }
    let v := s.rd (Addr.ptbAxVcfg n)
    let w := min (2 ^ fld v 2 0) k
    let d := ((h.getD 0 0 - h.getD w 0 : Cnt)).toInt
    let raw := tdiv (d * 65536) (w * 10)
    let kk := fld v 6 4
    let new := if k ≤ 2 then 0 else if k = 3 ∨ kk = 0 then raw else s.vel n + ashr (raw - s.vel n) kk
    s.wr (Addr.ptbAxVel n) (setFld (setFld 0 31 0 (BitVec.ofInt 32 new).toNat) 32 32 (decide (3 ≤ k)).toNat)

/-- A velocity update is due: PTB_TIME has reached a multiple of 4,000 ticks since the last one (R51). -/
def State.velDue (s : State) : Bool := s.ptbOn && decide (s.velN < s.time / 4000)

/-- Meaning of VELOCITY_UPDATE: every local axis is sampled, then every monitor evaluates its jobs (R51, R218). -/
def execVelocityUpdate (s : State) : Host.Outcome State Fault Refusal :=
  .next (if s.velDue then ((List.range 4).foldl (fun (t : State) n => t.velUpdate n) { s with velN := s.time / 4000 }).evalAll else s)

/-! ## Pulses -/

/-- An output starts its next pulse when its instant has come, and pushes its fire records (R64, R65, R111). -/
def State.pulseStart (s : State) (o : Nat) : State :=
  let x := s.out o
  match x.q, x.run with
  | p :: q, none =>
    if p.start < 5 * s.time + 5 then
      let s := s.setOut o { x with q := q, run := some p }
      (s.stamped o).foldl (fun s k => s.pushFire k p.cnts p.lost p.fire p.slot) s
    else s
  | _, _ => s

/-- An output ends its pulse when its instant has come. -/
def State.pulseEnd (s : State) (o : Nat) : State :=
  let x := s.out o
  match x.run with
  | some p => if p.stop < 5 * s.time + 5 then s.setOut o { x with run := none } else s
  | none => s

/-- The level of an output's ball (R69). -/
def State.outLevel (s : State) (o : Nat) : Bool :=
  (s.rb (Addr.ptbOutCfg o) 32 && (s.out o).run.isSome) != s.rb (Addr.ptbOutCfg o) 33

/-- A write of PTB_OUTo_CFG (R89, Table 2.3): OWNER by the supervisor program only; DROP clears. Clearing EN drops the running pulse and
the pending ones: a disabled output holds its inactive level (R69, log entry 139). -/
def State.outCfgWrite (s : State) (r : Src) (o : Nat) (old new : W64) : State :=
  let s := (s.wr (Addr.ptbOutCfg o) (if isSup r then new else setFld new 37 35 (fld old 37 35))).wr (Addr.ptbOutStat o) 0
  if bit new 32 then s else s.setOut o { s.out o with q := [], run := none }

/-- Meaning of TRIG_PULSE_START. -/
def execTrigPulseStart (o : Nat) (s : State) : Host.Outcome State Fault Refusal :=
  if o < 8 then .next (if s.ptbOn then s.pulseStart o else s) else .fault .noSuchUnit

/-- Meaning of TRIG_PULSE_END. -/
def execTrigPulseEnd (o : Nat) (s : State) : Host.Outcome State Fault Refusal :=
  if o < 8 then .next (if s.ptbOn then s.pulseEnd o else s) else .fault .noSuchUnit

/-- Meaning of MARK_PULSE_START: output 8 + o. -/
def execMarkPulseStart (o : Nat) (s : State) : Host.Outcome State Fault Refusal :=
  if o < 4 then .next (if s.ptbOn then s.pulseStart (8 + o) else s) else .fault .noSuchUnit

/-- Meaning of MARK_PULSE_END: output 8 + o. -/
def execMarkPulseEnd (o : Nat) (s : State) : Host.Outcome State Fault Refusal :=
  if o < 4 then .next (if s.ptbOn then s.pulseEnd (8 + o) else s) else .fault .noSuchUnit

/-! ## Follower axes (R78 to R83) -/

/-- The counter a packet stands for at the instant of application (R78), with L in 0.25 ns units. -/
def chat (count v : Int) (l : Nat) : Int := count + tdiv (v * l + 131072000) 262144000

/-- Move a follower counter by e counts: a movement, wrapping modulo 2^48 (R35). -/
def State.followBy (s : State) (n : Nat) (e : Int) : State :=
  if e = 0 then s
  else
    let new := (s.cnt n).toInt + e
    let s := s.setAxis n { s.axis n with last := s.time }
    let s := (s.wb (Addr.ptbAxStat n) 0 (decide (e < 0))).wb (Addr.ptbAxStat n) 1 false
    let s := if (cntOfInt new).toInt = new then s else s.wb (Addr.ptbAxStat n) 4 true
    s.moveTo n (cntOfInt new)

/-- Follower axis n applies a packet (R78, R80, R82, R83). Where R78 adds |e| to hold and R79 lets a new packet replace hold, hold is
|e|; the phase starts again; e is the 48-bit difference; a lost axis's direct set is a movement and no correction; the packet's FLAGS are
not used (log entry 141). -/
def State.applyPacket (s : State) (n : Nat) (count : Cnt) (v : Int) (l : Nat) : State :=
  if !s.follows n then s
  else
    let x := s.axis n
    let e := (cntOfInt (chat count.toInt v l) - s.cnt n : Cnt).toInt
    let lost := s.axLost n
    let applied := if lost then 1 else x.applied + 1
    let s := s.wr (Addr.ptbAxVel n) (if applied < 2 then 0 else setFld (setFld 0 31 0 (BitVec.ofInt 32 v).toNat) 32 32 1)
    let jump := !lost && decide ((s.rf (Addr.ptbAxVcfg n) 47 32 : Int) < |e|)
    let s := if jump then (s.wb (Addr.ptbAxStat n) 6 true).record (report 16 .signal n 0) else s
    let x := { x with applied := applied, pv := v, phase := 0, hold := 0, pktAt := s.time }
    if lost then ((s.setAxis n x).wb (Addr.ptbAxStat n) 7 false).followBy n e
    else if v = 0 ∨ e.sign = v.sign then (s.setAxis n x).followBy n e
    else s.setAxis n { x with hold := e.natAbs }

/-- One step of a follower's phase accumulator is due (R79): 400 × 65,536 phase units make one count. -/
def stepPhase : Nat := 26214400

/-- A step of follower axis n is due: a count's worth of phase, and no step yet in this tick (R79). -/
def State.stepDue (s : State) (n : Nat) : Bool :=
  s.ptbOn && s.follows n && !s.axLost n && decide (stepPhase ≤ (s.axis n).phase) && (s.axis n).stepAt != some s.time

/-- Meaning of FOLLOWER_STEP: the counter moves by one, or the step is taken from hold (R79). -/
def execFollowerStep (n : Nat) (s : State) : Host.Outcome State Fault Refusal :=
  if n < 4 then
    let x := { s.axis n with phase := (s.axis n).phase - stepPhase, stepAt := some s.time }
    .next (
      if !s.stepDue n then s
      else if 0 < x.hold then s.setAxis n { x with hold := x.hold - 1 }
      else (s.setAxis n x).count n (decide (x.pv < 0)))
  else .fault .noSuchUnit

/-- The broadcast interval that PTB_BCAST_CFG gives (R71, Table 2.9), in ticks. -/
def State.bcastIntv (s : State) : Nat := usTicks (10 * max 1 (min 100 (s.rf Addr.ptbBcastCfg 15 8)))

/-- A follower axis has missed three intervals since its last packet (R81); a follower reckons with the interval of its own PTB_BCAST_CFG
(log entry 141). -/
def State.lostDue (s : State) (n : Nat) : Bool :=
  s.ptbOn && s.follows n && !s.axLost n && decide ((s.axis n).pktAt + 3 * s.bcastIntv ≤ s.time)

/-- Meaning of FOLLOWER_LOST: three intervals missed (R81). -/
def execFollowerLost (n : Nat) (s : State) : Host.Outcome State Fault Refusal :=
  if n < 4 then
    .next (
      if !s.lostDue n then s
      else
        let s := s.setAxis n { s.axis n with applied := 0, pv := 0, phase := 0, hold := 0 }
        let s := (s.wb (Addr.ptbAxStat n) 7 true).wr (Addr.ptbAxVel n) 0
        ((s.record (report 16 .signal n 0)).noteHist).wakePos n)
  else .fault .noSuchUnit

/-- The phase of every follower advances by one tick, by at most a count (R79). -/
def State.phaseTick (s : State) : State :=
  (List.range 4).foldl (fun s n =>
    if s.follows n && !s.axLost n && (s.axis n).pv != 0 then
      s.setAxis n { s.axis n with phase := (s.axis n).phase + min stepPhase (s.axis n).pv.natAbs }
    else s) s

/-- The always-on timer after 2.5 ns: a tick of 32.768 kHz is 390,625 / 32 ticks of the position timebase (PMU_AONTIME). -/
def State.aonTick (s : State) : State :=
  if !s.pmu.on then s
  else
    let n := s.pmu.tick32 + 32
    if n < 390625 then { s with pmu := { s.pmu with tick32 := n } }
    else ({ s with pmu := { s.pmu with tick32 := n - 390625 } }).inc Addr.pmuAontime 47 0 1

/-- 2.5 ns pass: PTB_TIME advances while its clock runs, and the followers' phases with it (R49, R79; log entry 6). -/
def State.tick (s : State) : State :=
  (if s.ptbOn then ({ s with time := s.time + 1 }).phaseTick else s).aonTick

/-- The port's one-way latency, (round trip − neighbour residence) / 2 (R75). -/
def State.setLatency (s : State) (q rtt res : Nat) : State :=
  (s.setPort q { s.port q with latAt := s.time }).wf (Addr.ptbLinkoff q) 23 0 ((rtt - res) / 2)

/-- A latency measurement of port q is due: the link is up (STATE UP or NARROW) and 1 s has passed since the last (R75). -/
def State.latDue (s : State) (q : Nat) : Bool :=
  let st := s.rf (Addr.fabPortStat q) 2 0
  s.ptbOn && (st == 2 || st == 3) && decide ((s.port q).latAt + usTicks 1000000 ≤ s.time)

/-- Meaning of LINK_LATENCY_MEASURE (R75). -/
def execLinkLatencyMeasure (q rtt res : Nat) (s : State) : Host.Outcome State Fault Refusal :=
  if q < 4 then .next (if s.latDue q then s.setLatency q rtt res else s) else .fault .noSuchUnit

end Sys2Proof.Machine
end

