-- ==== Sys2Proof/Machine/Issue.lean ====
section
/-! DEFINITION. Issue of instructions by the threads of the Clove cores: who may issue, exceptions and fatal exceptions
(R255 to R257), stops of the supervisor pair (R291), instruction words for SY_EVAL (Table 6.3). -/

namespace Sys2Proof.Machine

open Sys2Proof

/-- Exception codes (Table 6.7, Table 7.6). -/
inductive Exc where
  | illegal | priv | align | access | dataErr | ctxReq | semNum | semCycle | semState | brk | ckptArg
  | npBound | tiop | descArg | pbArg | shape | extent | units | fmt | compr
  deriving DecidableEq, Repr

/-- The code of an exception. -/
def Exc.code : Exc → Nat
  | .illegal => 0x01 | .priv => 0x02 | .align => 0x03 | .access => 0x04 | .dataErr => 0x05 | .ctxReq => 0x06 | .semNum => 0x07
  | .semCycle => 0x08 | .semState => 0x09 | .brk => 0x0A | .ckptArg => 0x0B | .npBound => 0x10 | .tiop => 0x11
  | .descArg => 0x12 | .pbArg => 0x13 | .shape => 0x14 | .extent => 0x15 | .units => 0x16 | .fmt => 0x17 | .compr => 0x18

/-- Cluster c works: it is in service, its clock runs, it is not being reset or cleared (R705, R748, R782). -/
def State.cluUp (s : State) (c : Nat) : Bool :=
  s.cluLive c && s.clk (1 + c) && !s.rb (Addr.cluStat c) 9 && !s.pmu.clearing.contains c

/-- A thread may issue an instruction: its core's clock runs, it has the core, and it does not wait (R236, R255). -/
def State.canIssue (s : State) (t : Nat) : Bool :=
  match thClass t with
  | .sup => s.clk 0 && s.sup.st == .run && (s.thread t).wait == .none
  | .base =>
    s.cluUp (thClu t) && (s.clu (thClu t)).running == some 64 && (s.thread t).wait == .none &&
      !s.rb (Addr.cluBasectl (thClu t)) 1
  | .job =>
    s.cluUp (thClu t) && (s.clu (thClu t)).running == some (thCtx t) &&
      (s.ctx (thClu t) (thCtx t)).st == .run && (s.thread t).wait == .none

/-- Count an instruction of a thread's core as retired: 1,024 are one counted operation (kinds 0x08 and 0x09 of Table 15.2). -/
def State.tally (s : State) (t : Nat) : State :=
  let c := thClu t
  let n := Sparse.get (fun _ => 0) s.retired c + 1
  let s := { s with retired := Sparse.set (fun _ => 0) s.retired c (n % 1024) }
  if n % 1024 = 0 then (if c = 7 then s.countOps 9 0 1 else s.countOps 8 c 1) else s

/-- The thread's instruction is done and the thread goes on at an address. -/
def State.goTo (s : State) (t : Nat) (pc : W64) : State := (s.setThread t { s.thread t with pc := pcOf pc }).tally t

/-- The thread goes on to the next instruction. -/
def State.nextPc (s : State) (t : Nat) : State := s.goTo t ((s.thread t).pc + 4)

/-- The thread's instruction writes a g register and is done. -/
def State.retG (s : State) (t : Nat) (gd : Reg) (v : W64) : State := (s.setG t gd v).nextPc t

/-- The thread's instruction writes a p register and is done. -/
def State.retP (s : State) (t : Nat) (pd : BitVec 3) (v : Bool) : State :=
  (s.setThread t ((s.thread t).setP pd v)).nextPc t

/-- Restarts of the pair within ROMWIN before now (R697). -/
def State.recentRestarts (s : State) : List Nat :=
  s.sup.recent.filter fun t => decide (s.time ≤ t + msTicks (max 1 (s.rf Addr.hltScthr 31 16)))

/-- The supervisor pair stops and waits for its restart (R291, R292, R695): code is the cause of HLT_SCSTAT, g1 the value it
will start with. -/
def State.stopPair (s : State) (code g1 : Nat) : State :=
  let s := s.releaseAll supTid false
  let s := s.setThread supTid { s.thread supTid with wait := .none }
  let s := s.wf Addr.hltScstat 2 0 code
  let s := if code = 3 then s.sat Addr.hltScstat 63 48 1 else if code = 4 then s.sat Addr.hltScstat 47 32 1 else s
  let s := { s with sup := { s.sup with st := .stopped, g1 := g1 }, held := s.held.filter fun (h : Held) => h.src != .sup }
  if code = 4 then s else s.exhaust 9 0

/-- The base thread of cluster c halts (R810). -/
def State.haltBase (s : State) (c : Nat) : State :=
  let s := s.wf (Addr.cluBasectl c) 1 0 2
  let t := tid c 64
  let s := (s.stopOps t).setThread t { s.thread t with wait := .none }
  if (s.clu c).running = some 64 then (s.unrun c).pick c else s

/-- A fatal exception (R257). -/
def State.fatal (s : State) (t : Nat) (code : Nat) : State :=
  match thClass t with
  | .job => s.endCtx (thClu t) (thCtx t) 6 0
  | .base =>
    let c := thClu t
    let s := (s.haltBase c).wb (Addr.cluBasectl c) 2 true
    (s.record (report 8 .thread c (s.cluPart c))).supEvent
  | .sup =>
    let s := { s with sup := { s.sup with lockstat := setFld s.sup.lockstat 7 0 code } }
    s.stopPair 2 code

/-- An instruction raises an exception: its handler is entered, or it is fatal (R256, R257). -/
def State.raise (s : State) (t : Nat) (e : Exc) (val : W64) : State :=
  let th := s.thread t
  if th.ehand = 0 ∨ bit th.ecause 8 then s.fatal t e.code
  else
    s.setThread t { th with epc := th.pc, ecause := BitVec.ofNat 64 (256 + e.code), eval := val, pc := pcOf th.ehand }

/-- An instruction runs when its thread may issue it; otherwise the command has no effect. -/
def State.issue (s : State) (t : Nat) (f : State → State) : State := if s.canIssue t then f s else s

/-- The meaning of an instruction command: a thread that the device has, and the instruction's effect. -/
def instr (t : Nat) (f : State → State) (s : State) : Host.Outcome State Fault Refusal :=
  if okTid t then .next (s.issue t f) else .fault .noSuchUnit

/-- An instruction word of format RR (Table 6.3). -/
def wordRR (op : Nat) (gd ga gb : Reg) (func : Nat) : W64 :=
  BitVec.ofNat 64 (op * 2 ^ 26 + gd.toNat * 2 ^ 21 + ga.toNat * 2 ^ 16 + gb.toNat * 2 ^ 11 + func)

/-- An instruction word of format RI, LS or SY: two registers and 16 bits. -/
def wordSY (op : Nat) (gd ga : Reg) (sel : Nat) : W64 :=
  BitVec.ofNat 64 (op * 2 ^ 26 + gd.toNat * 2 ^ 21 + ga.toNat * 2 ^ 16 + sel)

/-- A conditional use of an exception: raised when the test fails. -/
def State.must (s : State) (t : Nat) (ok : Bool) (e : Exc) (val : W64) (f : State → State) : State :=
  if ok then f s else s.raise t e val

end Sys2Proof.Machine
end

