-- ==== Sys2Proof/Machine/Ledger.lean ====
section
/-! DEFINITION. The verdict ledger (chapter 4): PASS, VERD, dies, verdict rings, and rings in host memory in general. -/

namespace Sys2Proof.Machine

open Sys2Proof

/-! ## Blocks of PASS and VERD (R271 to R274) -/

/-- The device address of an instruction's block: in the issuing cluster's cluster SRAM, or in global SRAM for the supervisor
thread (R268, R274, R281). -/
def State.blockAddr (s : State) (t a n : Nat) : Option Nat :=
  match s.devAddr (s.thPart t) .read a n with
  | none => none
  | some d =>
    let inside := fun d => if t = supTid then decide (region d = .global) else decide (region d = .cluster (thClu t))
    if inside d && inside (d + n - 1) then some d else none

/-- Read an instruction's block of n bytes and go on with its bytes; ACCESS or DATAERR otherwise. -/
def State.withBytes (s : State) (t : Nat) (a : W64) (n flt : Nat) (f : State → List Byte → State) : State :=
  match s.blockAddr t a.toNat n with
  | none => s.raise t .access a
  | some d =>
    let r := s.readMem (s.thPart t) d n flt
    if r.ok then f r.s r.data else r.s.raise t .dataErr a

/-- The block of a PASS or VERD, which must be aligned to its length (R274). -/
def State.withBlock (s : State) (t : Nat) (a : W64) (n flt : Nat) (f : State → List Byte → State) : State :=
  if a.toNat % n ≠ 0 then s.raise t .align a else s.withBytes t a n flt f

/-- The partition a PASS or VERD names or runs in; none where the supervisor's field names no partition (R271). -/
def State.namedPart (s : State) (t sel : Nat) : Option Nat :=
  let p := if t = supTid then sel else s.thPart t
  if 1 ≤ p ∧ p ≤ 4 then some p else none

/-- A partition accepts PASS and VERD: it is ACTIVE (R271). -/
def State.partActive (s : State) (p : Nat) : Bool := s.partState p == 1

/-! ## The model table -/

/-- A model-table entry (Table 4.2). -/
structure ModelEntry where
  fullpc : Nat
  fcost : Nat
  fbpc : Nat
  bcost : Nat
  valid : Bool
  nofb : Bool

/-- An entry from its 32 bytes. -/
def modelOf (b : List Byte) : ModelEntry :=
  ⟨recNat b 0 6, recNat b 6 2, recNat b 8 6, recNat b 14 2, (recNat b 16 1).testBit 0, (recNat b 16 1).testBit 1⟩

/-- Read entry i of partition p's model table; one that cannot be read is recorded and counts as invalid (R154). -/
def State.readModel (s : State) (p i flt : Nat) : State × Option ModelEntry :=
  let a := s.rf (Addr.vdlPartMtab p) 47 6 * 64 + 32 * i
  if !s.memRange a 32 then (s.record (report 18 .config 0 p), none)
  else
    let r := s.readMem p a 32 flt
    if r.ok then (r.s, some (modelOf r.data)) else (r.s.record (report 18 .lost 0 p), none)

/-! ## PASS (R146 to R154) -/

/-- A record's reserved fields are zero and its DLMODE is not reserved (R154). -/
def recordOk (b : List Byte) : Bool :=
  recNat b 4 1 / 64 == 0 && recNat b 4 1 / 8 % 4 != 3 && recNat b 5 1 < 16 && recNat b 6 1 < 64 && recNat b 7 1 < 8 &&
  recNat b 31 1 == 0 && recNat b 38 2 == 0

/-- The queue depth of tier n of partition p (R137, Table 4.11). -/
def State.qDepth (s : State) (p n : Nat) : Nat := 2 ^ max 4 (min 12 (s.rf (Addr.vdlPartQ p n) 51 48))

/-- The budget of tier n, us; 0 is treated as 1. -/
def State.budget (s : State) (p n : Nat) : Nat := max 1 (s.rf (Addr.vdlPartBudget p) (16 * n + 15) (16 * n))

/-- The default deadline of R144 for acquisition count acq: DLMODE, deadline, DDIR; none leaves no deadline. -/
def State.defaultDeadline (s : State) (p tier : Nat) (acq : Cnt) : Option (Cnt × Bool) :=
  let n := s.scanAxis p
  let v := s.vel n
  if !s.velValid n ∨ v = 0 then none
  else
    let d := (s.budget p tier * v.natAbs + 65535) / 65536
    some (cntOfInt (acq.toInt + v.sign * d), decide (v < 0))

/-- The job that a record and its passer make (Table 4.3, R144, R147, R148). -/
def State.makeJob (s : State) (p : Nat) (b : List Byte) (by_ : Option Job) : Job :=
  let tier := match by_ with | some j => j.tier + 1 | none => 0
  let acq : Cnt := BitVec.ofNat 48 (recNat b 24 6)
  let mode := recNat b 4 1
  let m := mode / 8 % 4
  let own : Cnt := BitVec.ofNat 48 (recNat b 8 6)
  let (dlmode, dl, dir) :=
    if m = 1 then (match s.defaultDeadline p tier acq with | some (d, r) => (0, d, r) | none => (2, own, mode.testBit 5))
    else (m, own, mode.testBit 5)
  { part := p, die := (by_.map (·.die)).getD (recNat b 0 4), tier := tier, fb := false, dlmode := dlmode, ddir := dir,
    model := recNat b 5 1, client := (by_.map (·.client)).getD (recNat b 6 1), prio := recNat b 7 1, deadline := dl,
    agelim := recNat b 14 2, age0 := (by_.map (·.age0)).getD (recNat b 16 8), acq := acq, npass := 0, data := recNat b 32 6,
    dlen := recNat b 40 4, jseq := nextSerial (Sparse.get (fun _ => 0) s.jseqs p), user := (b.drop 48).take 16,
    born := s.born, qAt := s.time, reason := 0, posted := 0 }

/-- Free bytes: what the private layout of a tier queue holds (R137). -/
def freeBytes (i n : Nat) : List Byte := (List.range n).map (Config.freeByte i)

/-- Put a job into its queue: serial number, queue area, OPENJOBS, the passer's NPASS, accounting (R146, R147, R157). -/
def State.enqueue (s : State) (j : Job) (by_ : Option (Nat × Nat)) : State :=
  let p := j.part
  let (i, s) := s.fresh
  let s := { s with queued := s.queued ++ [j], jseqs := Sparse.set (fun _ => 0) s.jseqs p j.jseq, born := s.born + 1 }
  let q := s.rd (Addr.vdlPartQ p j.tier)
  let s := s.writeMem p (fld q 47 0 / 64 * 64 + 64 * (j.born % s.qDepth p j.tier)) (freeBytes i 64)
  let s := match s.openDie j.die with
    | some e => s.setDie e { s.die e with openJobs := (s.die e).openJobs + 1, njob := (s.die e).njob + 1 }
    | none => s
  let s := match by_ with
    | some (c, x) => let v := s.ctx c x; s.setCtx c x { v with job := { v.job with npass := v.job.npass + 1 } }
    | none => s
  s.accIssued p j.client

/-- The job running on a thread. -/
def State.jobOn (s : State) (t : Nat) : Option Job := if thClass t = .job then some (s.ctx (thClu t) (thCtx t)).job else none

/-- The status that a T0 PASS or a VERD returns for a handle: 0, or DIE, or STALE (R146, R148, Table 4.5). An index that names another
partition's die is DIE whatever the generation; a die that was posted is STALE also where it was sealed (R165; log entry 146). -/
def State.handleStatus (s : State) (p h : Nat) (sealCounts : Bool) : Nat :=
  let d := s.die (h % 4096)
  if d.st ≠ .free ∧ d.part ≠ p then 4
  else if d.st ≠ .opened ∨ d.gen ≠ h / 4096 then 3
  else if sealCounts && d.sealed then 4 else 0

/-- Count a STALE return. -/
def State.staleCount (s : State) (p : Nat) : State := s.sat (Addr.vdlPartStat p) 47 32 1

/-- PASS with its record read, in the order of R146. -/
def State.passBlock (s : State) (t : Nat) (gd : Reg) (sel mflt : Nat) (b : List Byte) : State :=
  let by_ := s.jobOn t
  if (by_.map (·.tier)) = some 3 then s.retG t gd 2
  else match s.namedPart t sel with
    | none => s.retG t gd 6
    | some p =>
      if !s.partActive p || !recordOk b then s.retG t gd 6
      else
        let j := s.makeJob p b by_
        let (s, m) := s.readModel p j.entry mflt
        if !((m.map (·.valid)).getD false) then s.retG t gd 6
        else
          let h := match by_ with
            | some k => if k.die = 0 ∨ (s.openDie k.die).isSome then 0 else 3
            | none => if j.die = 0 then 0 else s.handleStatus p j.die true
          if h = 4 then s.retG t gd 4
          else if h = 3 then (s.staleCount p).retG t gd 3
          else
            let maxp := max 1 (s.rf (Addr.vdlPartCfg p) 15 8)
            let big := (match by_ with | some k => decide (maxp ≤ k.npass) | none => false) ||
              (match s.openDie j.die with | some e => decide (65535 ≤ (s.die e).njob) | none => false)
            if big then s.retG t gd 5
            else if s.qDepth p j.tier ≤ (s.queued.filter fun q => q.part == p && q.tier == j.tier).length then
              (s.sat (Addr.vdlPartStat p) 31 16 1).retG t gd 1
            else
              ((s.enqueue j (if by_.isSome then some (thClu t, thCtx t) else none)).retG t gd 0).watchNew j

/-- Meaning of PASS (R146, R271 to R274). -/
def execPass (t : Nat) (gd ga : Reg) (sel : BitVec 16) (flt mflt : Nat) (s : State) : Host.Outcome State Fault Refusal :=
  instr t (fun s =>
    let n := sel.toNat
    if 8 ≤ n ∨ (t ≠ supTid ∧ n ≠ 0) then s.raise t .illegal (wordSY 0x2C gd ga n)
    else s.withBlock t ((s.thread t).gr ga) 64 flt fun s b => s.passBlock t gd n mflt b) s

/-! ## VERD (R155 to R168) -/

/-- VERD up to its block: the reserved fields of sel (here sel[15:2]) and the block (R273, R274). -/
def State.verd (s : State) (t : Nat) (gd ga : Reg) (sel : BitVec 14) (op flt : Nat) (f : State → Nat → List Byte → State) : State :=
  let n := sel.toNat
  if 8 ≤ n ∨ (t ≠ supTid ∧ n ≠ 0) then s.raise t .illegal (wordSY 0x2D gd ga (n * 4 + op))
  else s.withBlock t ((s.thread t).gr ga) 32 flt fun s b =>
    match s.namedPart t n with
    | none => s.retG t gd 6
    | some p => if s.partActive p then f s p b else s.retG t gd 6

/-- All bytes are zero. -/
def allZero (l : List Byte) : Bool := l.all (· == 0)

/-- The generation after one: 1 to 0xF_FFFF (R157). -/
def nextGen (g : Nat) : Nat := if g + 1 > 0xFFFFF then 1 else g + 1

/-- Partition p's quota of die entries (Table 4.12). -/
def State.quota (s : State) (p : Nat) : Nat := min 4096 (s.rf (Addr.vdlPartCfg p) 44 32)

/-- VERD OPEN with its block (R155, R156, R159). -/
def State.openBlock (s : State) (t : Nat) (gd : Reg) (p : Nat) (b : List Byte) : State :=
  let ring := recNat b 4 1
  let cfg := s.rd (Addr.vdlRingCfg ring)
  if 8 ≤ ring || decide (1 < recNat b 5 1) || !allZero ((b.drop 6).take 2) || !allZero (b.drop 14) ||
      ownerOf (fld cfg 3 1) != p || !bit cfg 0 then s.retG t gd 6
  else if !s.rb (Addr.vdlPartCfg p) 0 || decide (s.quota p ≤ s.inUse p) then s.retG t gd 9
  else match (List.range 4096).find? fun e => (s.die e).st == .free with
    | none => s.retG t gd 9
    | some e =>
      let g := nextGen (s.die e).gen
      let endc : Cnt := BitVec.ofNat 48 (recNat b 8 6)
      let dir := recNat b 5 1 == 1
      let n := s.scanAxis p
      let now := condHolds dir endc (s.cnt n)
      let d := { die0 with st := .opened, gen := g, part := p, dieid := recNat b 0 4, ring := ring, dir := dir, endc := endc,
                           acq := if now then some s.time else none, lateOpen := now, lostPos := now && s.axLost n }
      ((s.setDie e d).useSync p).retG t gd (BitVec.ofNat 64 (dieHandle e g))

/-- Meaning of VERD OPEN. -/
def execVerdOpen (t : Nat) (gd ga : Reg) (sel : BitVec 14) (flt : Nat) (s : State) : Host.Outcome State Fault Refusal :=
  instr t (fun s => s.verd t gd ga sel 0 flt fun s p b => s.openBlock t gd p b) s

/-- The contribution of a POST (Table 4.6); none for OUTCOME NONE. -/
def postContrib (j : Job) (outcome cls : Nat) (detail : List Byte) : Option Contrib :=
  match outcome with
  | 1 => some ⟨if j.fb then 2 else 0, 0, if j.fb then 1 else 0, if j.fb then j.reason else 0, j.tier, j.client, j.acq, detail⟩
  | 2 => some ⟨if j.fb then 2 else 1, cls, if j.fb then 1 else 0, if j.fb then j.reason else 0, j.tier, j.client, j.acq, detail⟩
  | 3 => some ⟨3, 0, 5, if j.fb then j.reason else 0, j.tier, j.client, j.acq, detail⟩
  | _ => none

/-- The first POST of a detached job: it reaches no die, and counts as the contribution it would have made (R231, log entry 146). -/
def State.postDetached (s : State) (t out : Nat) : State :=
  let v := s.ctx (thClu t) (thCtx t)
  if v.job.posted ≠ 0 ∨ 4 ≤ out then s
  else
    let s := if out = 3 then s.accDeferred v.job.part v.job.client else s
    s.putCtx (thClu t) (thCtx t) { v with job := { v.job with posted := 1 } }

/-- VERD POST with its block (R167, R168, R153). -/
def State.postBlock (s : State) (t : Nat) (gd : Reg) (p : Nat) (b : List Byte) : State :=
  match s.jobOn t with
  | none => s.retG t gd 8
  | some j =>
    let out := recNat b 0 1
    let cls := recNat b 1 1
    if j.die = 0 then (s.postDetached t out).retG t gd 8
    else if 4 ≤ out || (out == 2) == (cls == 0) || !allZero ((b.drop 2).take 14) then s.retG t gd 6
    else if j.posted = 1 then s.retG t gd 7
    else if j.posted = 2 ∨ (s.openDie j.die).isNone then (s.staleCount p).retG t gd 3
    else
      let c := thClu t
      let x := thCtx t
      let s := match postContrib j out cls ((b.drop 16).take 16) with
        | some k => s.contribute j.die k
        | none => s
      let s := if out = 3 then s.accDeferred j.part j.client else s
      (s.putCtx c x { s.ctx c x with job := { j with posted := 1 } }).retG t gd 0

/-- Meaning of VERD POST. -/
def execVerdPost (t : Nat) (gd ga : Reg) (sel : BitVec 14) (flt : Nat) (s : State) : Host.Outcome State Fault Refusal :=
  instr t (fun s => s.verd t gd ga sel 1 flt fun s p b => s.postBlock t gd p b) s

/-- VERD SEAL with its block (R160, R161). -/
def State.sealBlock (s : State) (t : Nat) (gd : Reg) (p : Nat) (b : List Byte) : State :=
  let h := recNat b 0 4
  if !allZero (b.drop 4) then s.retG t gd 6
  else match s.handleStatus p h false with
    | 0 => ((s.setDie (h % 4096) { s.die (h % 4096) with sealed := true }).retG t gd 0).maybePost (h % 4096)
    | 3 => (s.staleCount p).retG t gd 3
    | st => s.retG t gd (BitVec.ofNat 64 st)

/-- Meaning of VERD SEAL. -/
def execVerdSeal (t : Nat) (gd ga : Reg) (sel : BitVec 14) (flt : Nat) (s : State) : Host.Outcome State Fault Refusal :=
  instr t (fun s => s.verd t gd ga sel 2 flt fun s p b => s.sealBlock t gd p b) s

/-- VERD CLOSE with its block (R164). -/
def State.closeBlock (s : State) (t : Nat) (gd : Reg) (p : Nat) (b : List Byte) : State :=
  let h := recNat b 0 4
  let e := h % 4096
  if !allZero (b.drop 4) then s.retG t gd 6
  else match s.handleStatus p h false with
    | 0 =>
      let d := s.die e
      let lost := if d.acq.isSome then d.lostPos else s.axLost (s.scanAxis p)
      let s := s.setDie e { d with closed := true, acq := some (d.acq.getD s.time), lostPos := lost }
      (s.retG t gd 0).forceDie e 5
    | 3 => (s.staleCount p).retG t gd 3
    | st => s.retG t gd (BitVec.ofNat 64 st)

/-- Meaning of VERD CLOSE. -/
def execVerdClose (t : Nat) (gd ga : Reg) (sel : BitVec 14) (flt : Nat) (s : State) : Host.Outcome State Fault Refusal :=
  instr t (fun s => s.verd t gd ga sel 3 flt fun s p b => s.closeBlock t gd p b) s

/-! ## Dies (R158, R162) -/

/-- Meaning of DIE_ACQUIRED: the scan axis meets END of an open die (R158). -/
def execDieAcquired (e : Nat) (s : State) : Host.Outcome State Fault Refusal :=
  if e < 4096 then
    let d := s.die e
    let n := s.scanAxis d.part
    .next (if s.ptbOn ∧ d.st = .opened ∧ d.acq.isNone ∧ condHolds d.dir d.endc (s.cnt n) then
      (s.setDie e { d with acq := some s.time, lostPos := s.axLost n }).maybePost e else s)
  else .fault .noSuchUnit

/-- Meaning of DIE_FORCE: PTB_TIME has reached TEND + 15,900 us (R162). -/
def execDieForce (e : Nat) (s : State) : Host.Outcome State Fault Refusal :=
  if e < 4096 then
    let d := s.die e
    .next (match d.acq with
      | some t =>
        if d.st = .opened ∧ t + usTicks 15900 ≤ s.time then
          ((s.setDie e { d with forced := true }).sat (Addr.vdlPartStat d.part) 15 0 1).forceDie e 4
        else s
      | none => s)
  else .fault .noSuchUnit

/-! ## Rings in host memory (R171 to R178) -/

/-- The length of a ring: 2^SIZE records, SIZE 6 to 16 (Table 4.13). -/
def ringLog (x : Nat) : Nat := max 6 (min 16 x)

/-- A consumer index read is in range: from the previous value up to the producer index (R175). -/
def cidxOk (prev new pidx : Nat) : Bool :=
  decide ((new + 2 ^ 32 - prev) % 2 ^ 32 ≤ (pidx + 2 ^ 32 - prev) % 2 ^ 32)

/-- A ring is full (R174). -/
def ringFull (pidx cons log : Nat) : Bool := (pidx + 2 ^ 32 - cons) % 2 ^ 32 == 2 ^ log

/-- A data mover that can post a die of partition p in ring r: the configured one where it lies inside the partition that opened the die, else
the lowest in service of that partition, else of the device (R177); cluster and mover. -/
def State.poster (s : State) (r p : Nat) : Option (Nat × Nat) :=
  let cfg := s.rd (Addr.vdlRingCfg r)
  let c := fld cfg 22 20
  let m := fld cfg 19 18
  if c < 6 && s.cluPart c == p && p != 0 && s.cluLive c && s.rb (Addr.dmMvStat c m) 0 then some (c, m)
  else
    let first := fun (l : List Nat) => (l.filter fun c => s.cluLive c && !(s.moversUp c).isEmpty).head?.map fun c =>
      (c, (s.moversUp c).headD 0)
    match first (if p = 0 then [] else s.partClus p) with
    | some x => some x
    | none => first (List.range 6)

/-- The bytes of the verdict record of a die (Table 4.9). -/
def dieRecord (d : Die) (rseq phase : Nat) (late : Bool) : List Byte :=
  let k := d.best.getD ⟨3, 0, 7, 0, 0, 0, 0, zeros 16⟩
  bytesOf 4 d.dieid ++ bytesOf 4 rseq ++ bytesOf 1 k.outcome ++ bytesOf 1 (if k.outcome = 1 ∨ k.outcome = 2 then k.cls else 0) ++
  bytesOf 1 k.path ++ bytesOf 1 k.reason ++
  bytesOf 1 (d.forced.toNat + 2 * d.lateOpen.toNat + 4 * d.lostPos.toNat + 8 * late.toNat + 16 * d.closed.toNat +
    32 * d.dir.toNat + 128 * phase) ++
  bytesOf 1 (k.tier + 16 * d.part) ++ bytesOf 1 k.client ++ zeros 1 ++ bytesOf 6 k.dacq.toNat ++ zeros 2 ++
  bytesOf 8 (d.acq.getD 0) ++ bytesOf 8 d.tpost ++ bytesOf 2 d.njob ++ bytesOf 2 d.ndefect ++ bytesOf 1 d.nfb ++
  bytesOf 1 d.ndefer ++ zeros 2 ++ fit 16 k.detail

/-- Interrupts of a verdict ring are raised for the functions of fs, and the spacing starts anew. -/
def State.ringRaise (s : State) (r : Nat) (fs : List Nat) : State :=
  fs.foldl (fun s f => s.raiseMsi f (s.rf (Addr.vdlRingCfg r) 31 27)) (s.setVring r { s.vring r with intAt := some s.time, intPend := [] })

/-- An advance of a verdict ring's producer index by a die of function f asks for its interrupt; inside the spacing it waits for the
interval's end (R178). -/
def State.ringInt (s : State) (r f : Nat) : State :=
  let cfg := s.rd (Addr.vdlRingCfg r)
  let x := s.vring r
  let fs := if x.intPend.contains f then x.intPend else x.intPend ++ [f]
  if !bit cfg 26 || !(s.msi f).enable then s
  else match x.intAt with
    | some t => if s.time < t + usTicks (fld cfg 39 32) then s.setVring r { x with intPend := fs } else s.ringRaise r fs
    | none => s.ringRaise r fs

/-- Bring a verdict ring's FULL and HELD bits up to date. -/
def State.ringSync (s : State) (r : Nat) : State :=
  let x := s.vring r
  let full := ringFull (s.rf (Addr.vdlRingPidx r) 31 0) x.cons (ringLog (s.rf (Addr.vdlRingCfg r) 12 8))
  (s.wb (Addr.vdlRingStat r) 1 full).wb (Addr.vdlRingStat r) 0 (!x.q.isEmpty)

/-- Write the record of the oldest posted die of a ring, then its producer index (R32, R172, R173, R176, R177). -/
def State.writeRecord (s : State) (r : Nat) : State :=
  let x := s.vring r
  let cfg := s.rd (Addr.vdlRingCfg r)
  let log := ringLog (fld cfg 12 8)
  let pidx := s.rf (Addr.vdlRingPidx r) 31 0
  match x.q, x.q.head?.bind fun e => s.poster r (s.die e).part with
  | e :: q, some (c, m) =>
    if !bit cfg 0 || x.stopped || !s.linkUp || !s.meshOn || ringFull pidx x.cons log then s
    else
      let d := s.die e
      let late := match d.acq with | some t => decide (t + msTicks 16 < s.time) | none => false
      let phase := pidx / 2 ^ log % 2
      let s := s.hostWrite (s.rf (Addr.vdlRingBase r) 63 12 * 4096 + 64 * (pidx % 2 ^ log)) (dieRecord d pidx phase late)
      let s := s.hostWrite (s.rf (Addr.vdlRingPaddr r) 63 3 * 8) (bytesOf 4 (pidx + 1))
      let s := s.inc (Addr.vdlRingPidx r) 31 0 1
      let s := if late then s.sat (Addr.vdlRingStat r) 63 32 1 else s
      let s := (s.inc (Addr.dmMvCnt c m) 63 24 1).countOps 6 (4 * c + m) 1
      let s := (s.setDie e { die0 with gen := d.gen }).setVring r { x with q := q, rid := d.part }
      let s := (s.wf Addr.vdlHeld 12 0 (s.rf Addr.vdlHeld 12 0 - 1)).useSync d.part
      (s.ringInt r d.part).ringSync r
  | _, _ => s

/-- Meaning of VERDICT_RECORD_WRITE. -/
def execVerdictRecordWrite (r : Nat) (s : State) : Host.Outcome State Fault Refusal :=
  if r < 8 then .next (s.writeRecord r) else .fault .noSuchUnit

/-- A verdict ring reads its consumer index while it shows no space or is stopped, at most once every 2 us (R174, R175). -/
def State.readCons (s : State) (r : Nat) : State :=
  let x := s.vring r
  let pidx := s.rf (Addr.vdlRingPidx r) 31 0
  let log := ringLog (s.rf (Addr.vdlRingCfg r) 12 8)
  let due := match x.readAt with | some t => decide (t + usTicks 2 ≤ s.time) | none => true
  if !(x.stopped || ringFull pidx x.cons log) || !due || !s.linkUp || !s.meshOn then s
  else
    let v := natOf (s.hostRead (s.rf (Addr.vdlRingCaddr r) 63 3 * 8) 4)
    if cidxOk x.cons v pidx then (s.setVring r { x with cons := v, readAt := some s.time, stopped := false }).ringSync r
    else
      let s := s.setVring r { x with readAt := some s.time, stopped := true }
      (s.wb (Addr.vdlRingStat r) 2 true).record (report 18 .access r (ownerOf (s.rf (Addr.vdlRingCfg r) 3 1)))

/-- Bring nothing but the cached index of an event ring up to date: rings 8 to 12 of the command stand for the event rings of
functions 0 to 4 (R659). -/
def State.readEvCons (s : State) (f : Nat) : State :=
  let x := s.evring f
  let pidx := s.rf (Addr.pciFnEvpidx f) 31 0
  let log := ringLog (s.rf (Addr.pciFnEvcfg f) 12 8)
  let due := match x.readAt with | some t => decide (t + usTicks 2 ≤ s.time) | none => true
  if !(x.stopped || ringFull pidx x.cons log) || !due || !s.linkUp then s
  else
    let v := natOf (s.hostRead (s.rf (Addr.pciFnEvcaddr f) 63 3 * 8) 4)
    if cidxOk x.cons v pidx then s.setEvring f { x with cons := v, readAt := some s.time, stopped := false }
    else
      let s := s.setEvring f { x with readAt := some s.time, stopped := true }
      (s.wb (Addr.pciFnStat f) 3 true).record (report 20 .access f f)

/-- Meaning of CONSUMER_INDEX_READ: verdict rings 0 to 7, event rings of functions 0 to 4 as 8 to 12. -/
def execConsumerIndexRead (r : Nat) (s : State) : Host.Outcome State Fault Refusal :=
  if r < 8 then .next (s.readCons r) else if r < 13 then .next (s.readEvCons (r - 8)) else .fault .noSuchUnit

/-- The interrupt that waited for its spacing is raised at the interval's end (R178). -/
def State.modExpiry (s : State) (r : Nat) : State :=
  let x := s.vring r
  match x.intPend, x.intAt with
  | [], _ | _, none => s
  | fs, some t => if t + usTicks (s.rf (Addr.vdlRingCfg r) 39 32) ≤ s.time then s.ringRaise r fs else s

/-- The same for an event ring. -/
def State.evModExpiry (s : State) (f : Nat) : State :=
  let x := s.evring f
  let cfg := s.rd (Addr.pciFnEvcfg f)
  match x.intPend, x.intAt with
  | true, some t =>
    if t + usTicks (fld cfg 39 32) ≤ s.time then
      (s.setEvring f { x with intAt := some s.time, intPend := false }).raiseMsi f (fld cfg 31 27)
    else s
  | _, _ => s

/-- Meaning of INTERRUPT_MODERATION_EXPIRY: rings numbered as in CONSUMER_INDEX_READ. -/
def execInterruptModerationExpiry (r : Nat) (s : State) : Host.Outcome State Fault Refusal :=
  if r < 8 then .next (s.modExpiry r) else if r < 13 then .next (s.evModExpiry (r - 8)) else .fault .noSuchUnit

end Sys2Proof.Machine
end

