-- ==== Sys2Proof/Machine/Sched.lean ====
section
/-! DEFINITION. The innings schedulers and deadline monitors as commands (chapter 5): taking a job, boundaries, pre-emption,
overrun and hold faults, estimates. -/

namespace Sys2Proof.Machine

open Sys2Proof

/-! ## Estimates (R222, R223) -/

/-- One step of the estimate filter: est + ((x − est) >> kc), kept to 16 bits. -/
def filterStep (est x kc : Nat) : Nat := (clampI (est + ashr (x - est) kc) 0 65535).toNat

/-- KC of partition p. -/
def State.kc (s : State) (p : Nat) : Nat := s.rf (Addr.dlmPartCfg p) 26 24

/-- Seed the estimates of partition p from its model table; an entry that cannot be read keeps its estimates (log entry 11). -/
def State.reseed (s : State) (p : Nat) : State :=
  (List.range 64).foldl (fun s i =>
    match s.readModel p i 0 with
    | (s, some m) => (s.wf (Addr.dlmPartEst p i) 15 0 m.fcost).wf (Addr.dlmPartEst p i) 31 16 m.bcost
    | (s, none) => s) s

/-- The estimate of the model that the job of a context completed (R222). -/
def State.learn (s : State) (c x : Nat) : State :=
  let j := (s.ctx c x).job
  let rho := s.runUs c x * 65536 / s.cluK c
  let off := Addr.dlmPartEst j.part j.entry
  if j.fb then s.wf off 31 16 (filterStep (s.rf off 31 16) rho (s.kc j.part))
  else s.wf off 15 0 (filterStep (s.rf off 15 0) rho (s.kc j.part))

/-! ## Taking a job (R183 to R187, R240) -/

/-- Contexts of a cluster that hold detached jobs. -/
def State.detached (s : State) (c : Nat) : Nat :=
  ((List.range 64).filter fun x => (s.ctx c x).st != .free && (s.ctx c x).job.die == 0).length

/-- Cluster c may take a queued job (R184, R186). -/
def State.serves (s : State) (c : Nat) (j : Job) : Bool :=
  j.part == s.cluPart c && s.rb (Addr.schCfg c) (4 + j.tier) &&
    (j.die != 0 || decide (s.detached c < s.rf (Addr.schCfg c) 25 20))

/-- Job a is chosen before job b (R185). -/
def State.before (s : State) (a b : Job) : Bool :=
  decide (b.prio < a.prio) || (a.prio == b.prio &&
    (decide (s.tLim a < s.tLim b) || (decide (s.tLim a = s.tLim b) && decide (a.born < b.born))))

/-- The job that cluster c takes. -/
def State.nextJob (s : State) (c : Nat) : Option Job :=
  match s.queued.filter (s.serves c) with
  | [] => none
  | j :: rest => some (rest.foldl (fun a b => if s.before b a then b else a) j)

/-- The job leaves its queue, and the wait estimate follows its residence time (R223). -/
def State.dequeue (s : State) (j : Job) : State :=
  let off := Addr.dlmPartWq j.part j.tier
  let s := { s with queued := s.queued.filter fun q => q.born != j.born }
  s.wf off 15 0 (filterStep (s.rf off 15 0) ((s.time - j.qAt) / 400) (s.kc j.part))

/-- Cluster c takes a job into context x: its entry is read, its record copied, its thread started (R185, R240, R699). A job
that cannot read its entry ends at once (R154). -/
def State.take (s : State) (c x mflt : Nat) (j : Job) : State :=
  let s := s.dequeue j
  match s.readModel j.part j.entry mflt with
  | (s, none) => (s.deferFor j 6 0).jobGone j.die
  | (s, some m) =>
    let s := s.setThread (tid c x) thread0
    let s := s.setCtx c x { ctx0 with st := .ready, job := j, fullpc := m.fullpc, fbpc := m.fbpc, since := s.time,
                                      rr := (s.clu c).rr, nofb := m.nofb }
    let s := s.setClu c { s.clu c with rr := (s.clu c).rr + 1 }
    let s := s.writeMem j.part (recordSlot c x) j.bytes
    let s := s.startThread c x (if j.fb then m.fbpc else m.fullpc) false
    let s := s.evalCtx c x
    if (s.ctx c x).st = .ready then s.becomeReady c x else s

/-- Meaning of JOB_TAKE. -/
def execJobTake (c x mflt : Nat) (s : State) : Host.Outcome State Fault Refusal :=
  if c < 6 ∧ x < 64 then
    .next (if s.cluUp c && s.rb (Addr.schCfg c) 0 && (s.ctx c x).st == .free && s.partActive (s.cluPart c) then
      (match s.nextJob c with | some j => s.take c x mflt j | none => s) else s)
  else .fault .noSuchUnit

/-! ## Boundaries and pre-emption (R191 to R207) -/

/-- An innings boundary: the running job's monitor evaluates it; a non-pre-emptible op puts the boundary off (R192, R206,
R218). -/
def State.inningsEnd (s : State) (c : Nat) : State :=
  match (s.clu c).running with
  | none => s.pick c
  | some x =>
    let s := if x = 64 then s else s.evalCtx c x
    let k := s.clu c
    if k.running ≠ some x ∨ s.time < k.innEnd then s
    else if s.npFlying (tid c x) then s.setClu c { k with deferred := some (k.deferred.getD s.time) }
    else s.boundary c

/-- Meaning of INNINGS_BOUNDARY. -/
def execInningsBoundary (c : Nat) (s : State) : Host.Outcome State Fault Refusal :=
  if c < 6 then .next (if s.cluUp c && decide ((s.clu c).innEnd ≤ s.time) && !(s.clu c).preempt then s.inningsEnd c else s)
  else .fault .noSuchUnit

/-- Meaning of PREEMPT_TILE_BOUNDARY: every pre-emptible op of the outgoing thread has reached a tile boundary (R203). A
block of a transfer takes its credit as it leaves; those that have not left take none until the job resumes (State.heldBack, R217). -/
def execPreemptTileBoundary (c : Nat) (s : State) : Host.Outcome State Fault Refusal :=
  if c < 6 then
    .next (match (s.clu c).running with
      | some x => if s.cluUp c && (s.clu c).preempt && !s.npFlying (tid c x) then s.switchOut c else s
      | none => s)
  else .fault .noSuchUnit

/-! ## Faults and limits (R208, R210, R219) -/

/-- A fault of a thread's job enters Table 5.2 with reason OVERRUN; the base and supervisor threads go on. -/
def State.overrun (s : State) (t : Nat) : State :=
  if thClass t = .job then s.request (thClu t) (thCtx t) .overrun else s

/-- Meaning of OVERRUN_FAULT: a non-pre-emptible op has run for twice its declared bound (R208). A job that was only waiting for the op, to end
or to switch, ends or switches as it was to. -/
def execOverrunFault (uid : Nat) (s : State) : Host.Outcome State Fault Refusal :=
  .next (match s.ops.find? fun o => o.uid == uid with
    | some o =>
      match o.start with
      | some t0 =>
        if !o.np ∨ o.done ∨ s.time < t0 + usTicks (2 * o.npb) then s
        else
          let c := thClu o.th
          let j := (s.jobOn o.th).map (·.jseq)
          let s := s.sat (Addr.schOvr c) 63 48 1
          let s := s.record { report 19 .fault c o.part with jseq := j.getD 0 }
          let stopping := thClass o.th = .job ∧ (s.ctx c (thCtx o.th)).st = .ending
          let s := s.endOp o 2 o.flags
          if stopping then s else s.overrun o.th
      | none => s
    | none => s)

/-- The semaphore key of cluster c's semaphore k, or of device semaphore k for c = 6. -/
def semKey (c k : Nat) : Nat := if c < 6 then c * 256 + k else 1536 + k

/-- A semaphore number that exists. -/
def okSem (c k : Nat) : Bool := if c < 6 then decide (k < 256) else c == 6 && decide (k < 64)

/-- Meaning of HOLD_FAULT: the earliest unit of a semaphore has been held beyond its bound (R210, R263). -/
def execHoldFault (c k : Nat) (s : State) : Host.Outcome State Fault Refusal :=
  if okSem c k then
    let q := semKey c k
    .next (match (s.sem q).holders with
      | (t, at_) :: _ =>
        if s.time ≤ at_ + s.semHold q then s
        else
          let s := s.forceRel q t
          let s := s.record { report 19 .fault (thClu t) (s.thPart t) with jseq := ((s.jobOn t).map (·.jseq)).getD 0 }
          s.overrun t
      | [] => s)
  else .fault .noSuchUnit

/-- Meaning of AGE_LIMIT_EXPIRY: a job whose age limit has passed (R219). -/
def execAgeLimitExpiry (p jseq : Nat) (s : State) : Host.Outcome State Fault Refusal :=
  if 1 ≤ p ∧ p ≤ 4 then
    let hit := fun (j : Job) => j.part == p && j.jseq == jseq && s.tooOld j
    .next (match s.queued.find? hit with
      | some j => s.evalQueued j
      | none =>
        match s.ctxs.find? fun (e : Nat × Ctx) => e.2.st != .free && hit e.2.job with
        | some (k, _) => s.evalCtx (k / 128) (k % 128)
        | none => s)
  else .fault .noSuchUnit

end Sys2Proof.Machine
end

