-- ==== Sys2Proof/Machine/Scalar.lean ====
section
/-! DEFINITION. Integer, compare, predicate, immediate and branch instructions of the Clove cores (R244, R247, R248, R253). -/

namespace Sys2Proof.Machine

open Sys2Proof

/-! ## Arithmetic of Table 6.6 -/

/-- The least and greatest signed 64-bit values. -/
def minS : W64 := 0x8000000000000000
/-- The greatest signed 64-bit value. -/
def maxS : W64 := 0x7FFFFFFFFFFFFFFF

/-- Signed division, truncated toward zero, with the saturating cases of R248. -/
def divS (a b : W64) : W64 :=
  if b = 0 then (if a.toInt < 0 then minS else maxS)
  else if a = minS ∧ b = -1 then maxS
  else w64OfInt (tdiv a.toInt b.toInt)

/-- Unsigned division (R248). -/
def divU (a b : W64) : W64 := if b = 0 then -1 else a / b

/-- Signed remainder, with the sign of a (R248). -/
def remS (a b : W64) : W64 := if b = 0 then 0 else if a = minS ∧ b = -1 then 0 else w64OfInt (Int.tmod a.toInt b.toInt)

/-- Unsigned remainder (R248). -/
def remU (a b : W64) : W64 := if b = 0 then 0 else a % b

/-- The shift amount gb[5:0]. -/
def amount (b : W64) : Nat := b.toNat % 64

/-- Leading zeros; 64 for zero. -/
def clz (a : W64) : W64 := if a = 0 then 64 else BitVec.ofNat 64 (63 - a.toNat.log2)

/-- Bits set. -/
def popc (a : W64) : W64 := BitVec.ofNat 64 ((List.range 64).countP fun i => a.getLsbD i)

/-- Signed less-than. -/
def ltS (a b : W64) : Bool := decide (a.toInt < b.toInt)

/-- Unsigned less-than. -/
def ltU (a b : W64) : Bool := decide (a.toNat < b.toNat)

/-! ## Operand forms -/

/-- An RR operation of two g registers into a g register. -/
def State.rr (s : State) (t : Nat) (gd ga gb : Reg) (f : W64 → W64 → W64) : State :=
  let th := s.thread t
  s.retG t gd (f (th.gr ga) (th.gr gb))

/-- A single-operand RR operation: gb is g0, anything else is a nonzero reserved field (R244, R247). -/
def State.r1 (s : State) (t : Nat) (gd ga gb : Reg) (func : Nat) (f : W64 → W64) : State :=
  if gb = 0 then s.retG t gd (f ((s.thread t).gr ga)) else s.raise t .illegal (wordRR 0 gd ga gb func)

/-- The p register in the low three bits of a register field. -/
def pField (r : Reg) : BitVec 3 := r.setWidth 3

/-- The two bits above it. -/
def pRest (r : Reg) : Nat := r.toNat / 8

/-- A compare to a p register: [25:24] are zero (Table 6.6). -/
def State.cmp (s : State) (t : Nat) (gd ga gb : Reg) (func : Nat) (f : W64 → W64 → Bool) : State :=
  let th := s.thread t
  if pRest gd = 0 then s.retP t (pField gd) (f (th.gr ga) (th.gr gb)) else s.raise t .illegal (wordRR 2 gd ga gb func)

/-- A predicate operation: the other bits of the three fields are zero (Table 6.6). -/
def State.plog (s : State) (t : Nat) (gd ga gb : Reg) (func : Nat) (f : Bool → Bool → Bool) : State :=
  let th := s.thread t
  if pRest gd = 0 ∧ pRest ga = 0 ∧ pRest gb = 0 then s.retP t (pField gd) (f (th.pr (pField ga)) (th.pr (pField gb)))
  else s.raise t .illegal (wordRR 3 gd ga gb func)

/-- An RI operation of a g register and the immediate into a g register. -/
def State.ri (s : State) (t : Nat) (gd ga : Reg) (f : W64 → W64) : State := s.retG t gd (f ((s.thread t).gr ga))

/-- The shift of a kind: SLL, SRL, SRA, ROR. -/
def shiftBy (kind n : Nat) (a : W64) : W64 :=
  match kind with
  | 0 => a <<< n
  | 1 => a >>> n
  | 2 => a.sshiftRight n
  | _ => a.rotateRight n

/-! ## Table 6.6 -/

/-- Meaning of ADD. -/
def execAdd (th : Nat) (gd ga gb : Reg) (s : State) : Host.Outcome State Fault Refusal :=
  instr th (fun s => s.rr th gd ga gb fun a b => a + b) s

/-- Meaning of SUB. -/
def execSub (th : Nat) (gd ga gb : Reg) (s : State) : Host.Outcome State Fault Refusal :=
  instr th (fun s => s.rr th gd ga gb fun a b => a - b) s

/-- Meaning of AND. -/
def execAnd (th : Nat) (gd ga gb : Reg) (s : State) : Host.Outcome State Fault Refusal :=
  instr th (fun s => s.rr th gd ga gb fun a b => a &&& b) s

/-- Meaning of OR. -/
def execOr (th : Nat) (gd ga gb : Reg) (s : State) : Host.Outcome State Fault Refusal :=
  instr th (fun s => s.rr th gd ga gb fun a b => a ||| b) s

/-- Meaning of XOR. -/
def execXor (th : Nat) (gd ga gb : Reg) (s : State) : Host.Outcome State Fault Refusal :=
  instr th (fun s => s.rr th gd ga gb fun a b => a ^^^ b) s

/-- Meaning of ANDN. -/
def execAndn (th : Nat) (gd ga gb : Reg) (s : State) : Host.Outcome State Fault Refusal :=
  instr th (fun s => s.rr th gd ga gb fun a b => a &&& ~~~b) s

/-- Meaning of SLL. -/
def execSll (th : Nat) (gd ga gb : Reg) (s : State) : Host.Outcome State Fault Refusal :=
  instr th (fun s => s.rr th gd ga gb fun a b => shiftBy 0 (amount b) a) s

/-- Meaning of SRL. -/
def execSrl (th : Nat) (gd ga gb : Reg) (s : State) : Host.Outcome State Fault Refusal :=
  instr th (fun s => s.rr th gd ga gb fun a b => shiftBy 1 (amount b) a) s

/-- Meaning of SRA. -/
def execSra (th : Nat) (gd ga gb : Reg) (s : State) : Host.Outcome State Fault Refusal :=
  instr th (fun s => s.rr th gd ga gb fun a b => shiftBy 2 (amount b) a) s

/-- Meaning of ROR. -/
def execRor (th : Nat) (gd ga gb : Reg) (s : State) : Host.Outcome State Fault Refusal :=
  instr th (fun s => s.rr th gd ga gb fun a b => shiftBy 3 (amount b) a) s

/-- Meaning of MIN. -/
def execMin (th : Nat) (gd ga gb : Reg) (s : State) : Host.Outcome State Fault Refusal :=
  instr th (fun s => s.rr th gd ga gb fun a b => if ltS b a then b else a) s

/-- Meaning of MAX. -/
def execMax (th : Nat) (gd ga gb : Reg) (s : State) : Host.Outcome State Fault Refusal :=
  instr th (fun s => s.rr th gd ga gb fun a b => if ltS a b then b else a) s

/-- Meaning of MINU. -/
def execMinu (th : Nat) (gd ga gb : Reg) (s : State) : Host.Outcome State Fault Refusal :=
  instr th (fun s => s.rr th gd ga gb fun a b => if ltU b a then b else a) s

/-- Meaning of MAXU. -/
def execMaxu (th : Nat) (gd ga gb : Reg) (s : State) : Host.Outcome State Fault Refusal :=
  instr th (fun s => s.rr th gd ga gb fun a b => if ltU a b then b else a) s

/-- Meaning of CLZ. -/
def execClz (th : Nat) (gd ga gb : Reg) (s : State) : Host.Outcome State Fault Refusal :=
  instr th (fun s => s.r1 th gd ga gb 0xE clz) s

/-- Meaning of POPC. -/
def execPopc (th : Nat) (gd ga gb : Reg) (s : State) : Host.Outcome State Fault Refusal :=
  instr th (fun s => s.r1 th gd ga gb 0xF popc) s

/-- Meaning of SX48. -/
def execSx48 (th : Nat) (gd ga gb : Reg) (s : State) : Host.Outcome State Fault Refusal :=
  instr th (fun s => s.r1 th gd ga gb 0x10 (fun a => (cntOf a).signExtend 64)) s

/-- Meaning of ZX48. -/
def execZx48 (th : Nat) (gd ga gb : Reg) (s : State) : Host.Outcome State Fault Refusal :=
  instr th (fun s => s.r1 th gd ga gb 0x11 (fun a => (cntOf a).setWidth 64)) s

/-- Meaning of MUL. -/
def execMul (th : Nat) (gd ga gb : Reg) (s : State) : Host.Outcome State Fault Refusal :=
  instr th (fun s => s.rr th gd ga gb fun a b => a * b) s

/-- Meaning of MULH. -/
def execMulh (th : Nat) (gd ga gb : Reg) (s : State) : Host.Outcome State Fault Refusal :=
  instr th (fun s => s.rr th gd ga gb fun a b => w64OfInt (a.toInt * b.toInt / 2 ^ 64)) s

/-- Meaning of MULHU. -/
def execMulhu (th : Nat) (gd ga gb : Reg) (s : State) : Host.Outcome State Fault Refusal :=
  instr th (fun s => s.rr th gd ga gb fun a b => BitVec.ofNat 64 (a.toNat * b.toNat / 2 ^ 64)) s

/-- Meaning of DIV. -/
def execDiv (th : Nat) (gd ga gb : Reg) (s : State) : Host.Outcome State Fault Refusal :=
  instr th (fun s => s.rr th gd ga gb fun a b => divS a b) s

/-- Meaning of DIVU. -/
def execDivu (th : Nat) (gd ga gb : Reg) (s : State) : Host.Outcome State Fault Refusal :=
  instr th (fun s => s.rr th gd ga gb fun a b => divU a b) s

/-- Meaning of REM. -/
def execRem (th : Nat) (gd ga gb : Reg) (s : State) : Host.Outcome State Fault Refusal :=
  instr th (fun s => s.rr th gd ga gb fun a b => remS a b) s

/-- Meaning of REMU. -/
def execRemu (th : Nat) (gd ga gb : Reg) (s : State) : Host.Outcome State Fault Refusal :=
  instr th (fun s => s.rr th gd ga gb fun a b => remU a b) s

/-- Meaning of CMPEQ. -/
def execCmpeq (th : Nat) (gd ga gb : Reg) (s : State) : Host.Outcome State Fault Refusal :=
  instr th (fun s => s.cmp th gd ga gb 0 fun a b => a == b) s

/-- Meaning of CMPNE. -/
def execCmpne (th : Nat) (gd ga gb : Reg) (s : State) : Host.Outcome State Fault Refusal :=
  instr th (fun s => s.cmp th gd ga gb 1 fun a b => a != b) s

/-- Meaning of CMPLT. -/
def execCmplt (th : Nat) (gd ga gb : Reg) (s : State) : Host.Outcome State Fault Refusal :=
  instr th (fun s => s.cmp th gd ga gb 2 fun a b => ltS a b) s

/-- Meaning of CMPGE. -/
def execCmpge (th : Nat) (gd ga gb : Reg) (s : State) : Host.Outcome State Fault Refusal :=
  instr th (fun s => s.cmp th gd ga gb 3 fun a b => !ltS a b) s

/-- Meaning of CMPLTU. -/
def execCmpltu (th : Nat) (gd ga gb : Reg) (s : State) : Host.Outcome State Fault Refusal :=
  instr th (fun s => s.cmp th gd ga gb 4 fun a b => ltU a b) s

/-- Meaning of CMPGEU. -/
def execCmpgeu (th : Nat) (gd ga gb : Reg) (s : State) : Host.Outcome State Fault Refusal :=
  instr th (fun s => s.cmp th gd ga gb 5 fun a b => !ltU a b) s

/-- Meaning of PAND. -/
def execPand (th : Nat) (gd ga gb : Reg) (s : State) : Host.Outcome State Fault Refusal :=
  instr th (fun s => s.plog th gd ga gb 0 fun a b => a && b) s

/-- Meaning of POR. -/
def execPor (th : Nat) (gd ga gb : Reg) (s : State) : Host.Outcome State Fault Refusal :=
  instr th (fun s => s.plog th gd ga gb 1 fun a b => a || b) s

/-- Meaning of PXOR. -/
def execPxor (th : Nat) (gd ga gb : Reg) (s : State) : Host.Outcome State Fault Refusal :=
  instr th (fun s => s.plog th gd ga gb 2 fun a b => a != b) s

/-- Meaning of PANDN. -/
def execPandn (th : Nat) (gd ga gb : Reg) (s : State) : Host.Outcome State Fault Refusal :=
  instr th (fun s => s.plog th gd ga gb 3 fun a b => a && !b) s

/-- Meaning of SEL. -/
def execSel (th : Nat) (gd ga gb : Reg) (p : BitVec 3) (s : State) : Host.Outcome State Fault Refusal :=
  instr th (fun s => let c := (s.thread th).pr p; s.rr th gd ga gb fun a b => if c then a else b) s

/-! ## RI instructions (Table 6.5) -/

/-- Meaning of ADDI. -/
def execAddi (th : Nat) (gd ga : Reg) (imm : W16) (s : State) : Host.Outcome State Fault Refusal :=
  instr th (fun s => s.ri th gd ga fun a => a + imm.signExtend 64) s

/-- Meaning of ANDI. -/
def execAndi (th : Nat) (gd ga : Reg) (imm : W16) (s : State) : Host.Outcome State Fault Refusal :=
  instr th (fun s => s.ri th gd ga fun a => a &&& imm.setWidth 64) s

/-- Meaning of ORI. -/
def execOri (th : Nat) (gd ga : Reg) (imm : W16) (s : State) : Host.Outcome State Fault Refusal :=
  instr th (fun s => s.ri th gd ga fun a => a ||| imm.setWidth 64) s

/-- Meaning of XORI. -/
def execXori (th : Nat) (gd ga : Reg) (imm : W16) (s : State) : Host.Outcome State Fault Refusal :=
  instr th (fun s => s.ri th gd ga fun a => a ^^^ imm.setWidth 64) s

/-- h of SETH and INSH: [17:16]; [20:18] are zero. -/
def hField (ga : Reg) : Nat := ga.toNat % 4

/-- Meaning of SETH. -/
def execSeth (th : Nat) (gd ga : Reg) (imm : W16) (s : State) : Host.Outcome State Fault Refusal :=
  instr th (fun s => 
    if ga.toNat < 4 then s.retG th gd (imm.signExtend 64 <<< (16 * hField ga))
    else s.raise th .illegal (wordSY 0x0C gd ga imm.toNat)) s

/-- Meaning of INSH. -/
def execInsh (th : Nat) (gd ga : Reg) (imm : W16) (s : State) : Host.Outcome State Fault Refusal :=
  instr th (fun s => 
    if ga.toNat < 4 then s.retG th gd (setFld ((s.thread th).gr gd) (16 * hField ga + 15) (16 * hField ga) imm.toNat)
    else s.raise th .illegal (wordSY 0x0D gd ga imm.toNat)) s

/-- The condition of CMPI: EQ, NE, LT, GE, signed. -/
def cmpiHolds (cond : Nat) (a b : W64) : Bool :=
  match cond with
  | 0 => a == b
  | 1 => a != b
  | 2 => ltS a b
  | _ => !ltS a b

/-- Meaning of CMPI. -/
def execCmpi (th : Nat) (gd ga : Reg) (imm : W16) (s : State) : Host.Outcome State Fault Refusal :=
  instr th (fun s => s.retP th (pField gd) (cmpiHolds (pRest gd) ((s.thread th).gr ga) (imm.signExtend 64))) s

/-- Meaning of SHI. -/
def execShi (th : Nat) (gd ga : Reg) (imm : W16) (s : State) : Host.Outcome State Fault Refusal :=
  instr th (fun s => 
    if imm.toNat < 256 then s.ri th gd ga fun a => shiftBy (imm.toNat / 64) (imm.toNat % 64) a
    else s.raise th .illegal (wordSY 0x0F gd ga imm.toNat)) s

/-! ## Branches (R253, Table 6.5) -/

/-- The word of a BR instruction. -/
def wordBR (op : Nat) (p : BitVec 3) (n z : Bool) (off : BitVec 21) : W64 :=
  BitVec.ofNat 64 (op * 2 ^ 26 + p.toNat * 2 ^ 23 + n.toNat * 2 ^ 22 + z.toNat * 2 ^ 21 + off.toNat)

/-- A branch: taken when predicate p equals 1 − N, to PC + 4 × the signed offset. -/
def State.branch (s : State) (t : Nat) (p : BitVec 3) (n : Bool) (off : BitVec 21) : State :=
  let th := s.thread t
  if th.pr p = !n then s.goTo t (th.pc + off.signExtend 64 * 4) else s.nextPc t

/-- Meaning of B. -/
def execB (th : Nat) (p : BitVec 3) (n z : Bool) (off : BitVec 21) (s : State) : Host.Outcome State Fault Refusal :=
  instr th (fun s => 
    if z then s.raise th .illegal (wordBR 0x20 p n z off) else s.branch th p n off) s

/-- Meaning of BL: the link register is written where the branch is taken (log entry 12). -/
def execBl (th : Nat) (p : BitVec 3) (n z : Bool) (off : BitVec 21) (s : State) : Host.Outcome State Fault Refusal :=
  instr th (fun s => 
    if z then s.raise th .illegal (wordBR 0x21 p n z off)
    else if (s.thread th).pr p = !n then (s.setG th 31 (pcOf ((s.thread th).pc + 4))).branch th p n off
    else s.branch th p n off) s

/-- Meaning of JR. -/
def execJr (th : Nat) (gd ga gb : Reg) (fn : BitVec 11) (s : State) : Host.Outcome State Fault Refusal :=
  instr th (fun s => 
    if gb ≠ 0 ∨ fn ≠ 0 then s.raise th .illegal (wordRR 0x22 gd ga gb fn.toNat)
    else
      let a := (s.thread th).gr ga
      (s.setG th gd (pcOf ((s.thread th).pc + 4))).goTo th a) s

end Sys2Proof.Machine
end

