-- ==== Sys2Proof/Machine/System.lean ====
section
/-! DEFINITION. The system group, semaphores, PWAIT, PARM, DLSET, reserved opcodes and the restart of the supervisor pair
(chapter 6). -/

namespace Sys2Proof.Machine

open Sys2Proof

/-! ## System registers (Table 6.4) -/

/-- The access a class has to a system register. -/
inductive SyAcc where
  | none
  | ro
  | rw
  | w1c
  deriving DecidableEq, Repr

/-- Table 6.4. -/
def syAcc (k : Class) (n : Nat) : SyAcc :=
  match n with
  | 0x000 => .ro
  | 0x001 => if k = .sup then .none else .ro
  | 0x002 => if k = .job then .ro else .none
  | 0x003 => if k = .sup then .none else .ro
  | 0x004 => .rw
  | 0x005 => .ro
  | 0x006 => .rw
  | 0x007 => .ro
  | 0x008 => .ro
  | 0x009 => if k = .sup then .none else .ro
  | 0x00A => if k = .sup then .none else .ro
  | 0x00B => .w1c
  | 0x00C => .rw
  | 0x00D => .rw
  | 0x00E => .rw
  | 0x00F => .rw
  | 0x100 => if k = .sup then .rw else .none
  | 0x101 => if k = .sup then .ro else .none
  | _ => .none

/-- The value of a system register of a thread. -/
def State.syRead (s : State) (t n : Nat) : W64 :=
  let th := s.thread t
  match n with
  | 0x000 => BitVec.ofNat 64 (thClu t * 256 + s.thPart t)
  | 0x001 =>
    if thClass t = .job then
      let j := (s.ctx (thClu t) (thCtx t)).job
      BitVec.ofNat 64 (j.jseq * 2 ^ 32 + 2 ^ 7 + j.fb.toNat * 2 ^ 6 + thCtx t)
    else 0
  | 0x002 => s.copyAddr (thClu t) (thCtx t)
  | 0x003 => th.lastTkt
  | 0x004 => th.ehand
  | 0x005 => th.ecause
  | 0x006 => th.epc
  | 0x007 => th.eval
  | 0x008 => BitVec.ofNat 64 s.time
  | 0x009 => sx48 (s.cnt (s.scanAxis (s.thPart t)))
  | 0x00A => s.rd (Addr.ptbAxVel (s.scanAxis (s.thPart t)))
  | 0x00B => s.pend (thClu t)
  | 0x100 => s.sup.restart
  | 0x101 => s.sup.lockstat
  | n => Sparse.get (fun _ => 0) th.scr n

/-- Write a system register that a thread may write. -/
def State.syWrite (s : State) (t n : Nat) (v : W64) : State :=
  let th := s.thread t
  match n with
  | 0x004 => s.setThread t { th with ehand := v }
  | 0x006 => s.setThread t { th with epc := v }
  | 0x00B => s.setPend (thClu t) (s.pend (thClu t) &&& ~~~v)
  | 0x100 => { s with sup := { s.sup with restart := v } }
  | n => s.setThread t { th with scr := Sparse.set (fun _ => 0) th.scr n v }

/-- The word of a system-group instruction. -/
def wordSG (kind : Nat) (gd ga : Reg) (low : Nat) : W64 := wordSY 0x28 gd ga (kind * 4096 + low)

/-- Meaning of MFS (R245, R280). -/
def execMfs (th : Nat) (gd ga : Reg) (n : BitVec 12) (s : State) : Host.Outcome State Fault Refusal :=
  instr th (fun s =>
    if syAcc (thClass th) n.toNat = .none then s.raise th .illegal (wordSG 0 gd ga n.toNat)
    else s.retG th gd (s.syRead th n.toNat)) s

/-- Meaning of MTS (R245, R280). -/
def execMts (th : Nat) (_gd ga : Reg) (n : BitVec 12) (s : State) : Host.Outcome State Fault Refusal :=
  instr th (fun s =>
    match syAcc (thClass th) n.toNat with
    | .rw | .w1c => (s.syWrite th n.toNat ((s.thread th).gr ga)).nextPc th
    | _ => s.raise th .priv (n.setWidth 64)) s

/-! ## FENCE, ERET, BRK, YIELD, CAPRD -/

/-- The thread stays at its instruction until one of its tickets completes, and keeps its innings (R196, R299). -/
def State.holdAt (s : State) (t : Nat) (w : Wait) : State :=
  let s := s.setThread t { s.thread t with wait := w }
  if thClass t = .job then s.putCtx (thClu t) (thCtx t) { s.ctx (thClu t) (thCtx t) with st := .wtkt } else s

/-- Meaning of FENCE (R279, R289). Stores are visible at once and no instruction cache is modelled, so only kind T waits. -/
def execFence (th : Nat) (gd ga : Reg) (k : BitVec 12) (s : State) : Host.Outcome State Fault Refusal :=
  instr th (fun s =>
    if 16 ≤ k.toNat then s.raise th .illegal (wordSG 2 gd ga k.toNat)
    else if k.getLsbD 1 && !(s.flying th).isEmpty then s.holdAt th .stall
    else s.nextPc th) s

/-- Meaning of ERET (R256). -/
def execEret (th : Nat) (gd ga : Reg) (z : BitVec 12) (s : State) : Host.Outcome State Fault Refusal :=
  instr th (fun s =>
    let t := s.thread th
    if !bit t.ecause 8 then s.raise th .illegal (wordSG 3 gd ga z.toNat)
    else (s.setThread th { t with ecause := setBit t.ecause 8 false }).goTo th t.epc) s

/-- Meaning of BRK (R280). -/
def execBrk (th : Nat) (_gd _ga : Reg) (n : BitVec 12) (s : State) : Host.Outcome State Fault Refusal :=
  instr th (fun s => s.raise th .brk (n.setWidth 64)) s

/-- Meaning of the innings form of YIELD (R197, R278). -/
def execYieldInnings (th : Nat) (gd ga : Reg) (z : BitVec 11) (s : State) : Host.Outcome State Fault Refusal :=
  instr th (fun s =>
    if z ≠ 0 then s.raise th .illegal (wordSG 5 gd ga (z.toNat * 2))
    else match thClass th with
      | .job =>
        let s := s.nextPc th
        let c := thClu th
        (s.putCtx c (thCtx th) { s.ctx c (thCtx th) with st := .ready }).giveUp c (thCtx th)
      | .base => s.nextPc th
      | .sup => let s := s.nextPc th; s.setThread th { s.thread th with wait := .idle }) s

/-- Meaning of the end form of YIELD (R188, R222, R231, R278). -/
def execYieldEnd (th : Nat) (gd ga : Reg) (z : BitVec 11) (s : State) : Host.Outcome State Fault Refusal :=
  instr th (fun s =>
    if z ≠ 0 then s.raise th .illegal (wordSG 5 gd ga (z.toNat * 2 + 1))
    else
      let s := s.nextPc th
      match thClass th with
      | .job =>
        let c := thClu th
        let x := thCtx th
        let j := (s.ctx c x).job
        ((s.learn c x).accCompleted j.part j.client).endCtx c x 6 0
      | .base => s.haltBase (thClu th)
      | .sup => s.setThread th { s.thread th with wait := .idle }) s

/-- One bit for each number of a list. -/
def bitsOf (l : List Nat) : Nat := (l.map fun i => 2 ^ i).sum

/-- The capabilities of Table 7.7 (R320 to R322); units in service as one bit each (log entry 14). -/
def State.cap (s : State) (c n : Nat) : Nat :=
  match n with
  | 0x000 => 0xA10100
  | 0x001 => 128 + 128 * 2 ^ 16
  | 0x002 => bitsOf (s.tilesUp c)
  | 0x003 => 0x484084444110
  | 0x004 => 0x200000 + 0x800000 * 2 ^ 32
  | 0x005 => 256 + bitsOf (s.vesUp c) * 2 ^ 16 + 3 * 2 ^ 18
  | 0x006 => 11 + 8 * 2 ^ 8 + 255 * 2 ^ 16
  | 0x007 => 16 + 9 * 2 ^ 8 + 4 * 2 ^ 16 + 8 * 2 ^ 24
  | 0x008 => 16384 + 0x1FF * 2 ^ 16
  | 0x009 => 65536 + 64 * 2 ^ 17 + 4096 * 2 ^ 24 + 256 * 2 ^ 37
  | 0x00A => 4096 + 3 * 2 ^ 13 + 7 * 2 ^ 15 + 32768 * 2 ^ 18 + 4 * 2 ^ 34 + 256 * 2 ^ 42
  | 0x00B => bitsOf (s.moversUp c)
  | 0x00C => 1600 + 20 * 2 ^ 16 + 32 * 2 ^ 24 + 256 * 2 ^ 32
  | 0x00D => 0x1FFF
  | _ => 0

/-- Meaning of CAPRD (R320, Table 6.8). -/
def execCaprd (th : Nat) (gd ga : Reg) (n : BitVec 12) (s : State) : Host.Outcome State Fault Refusal :=
  instr th (fun s =>
    if ga ≠ 0 ∨ thClass th = .sup then s.raise th .illegal (wordSG 6 gd ga n.toNat)
    else s.retG th gd (BitVec.ofNat 64 (s.cap (thClu th) n.toNat))) s

/-! ## TWAIT (R316 to R318, R286) -/

/-- What a TWAIT finds at once: NOTMINE, FORGOTTEN, or the ticket's status and flags. Once the serial numbers have wrapped, every one has been
issued. -/
def State.tktFind (s : State) (t : Nat) (w : W64) : Nat × Nat :=
  let th := s.thread t
  let n := w.toNat % 2 ^ 32
  if w.toNat / 2 ^ 32 ≠ t ∨ n = 0 ∨ (th.serial < n ∧ !th.wrapped) then (8, 0)
  else match th.tkt n with
    | some k => (k.st, k.flags)
    | none => (7, 0)

/-- An SQ.CHUNK or SQ.STEP waits for a swap-in: a stream it names is OUT, SWAPIN or SWAPOUT (R507, R512). -/
def State.onSwapIn (s : State) (o : Op) : Bool :=
  o.cls == 4 && decide (o.opc < 2) && o.start.isNone &&
    o.aux.any fun h => let r := s.rf (Addr.sqStrStat (thClu o.th) (h % 256)) 34 32; decide (2 ≤ r) && decide (r ≤ 4)

/-- The op of a ticket is a data mover's: a DM op or a CKPT transfer, or an SQ op that waits for a swap-in (R512). -/
def State.onMover (s : State) (t serial : Nat) : Bool :=
  s.ops.any fun o => o.th == t && o.serial == serial && !o.done && (decide (7 ≤ o.cls) || s.onSwapIn o)

/-- Meaning of the wait form of TWAIT; eta is the data movers' estimate in us, of the last of its streams' swap-ins for an SQ op (R218,
R221, R512). -/
def execTwait (th : Nat) (gd ga : Reg) (z : BitVec 11) (eta : Nat) (s : State) : Host.Outcome State Fault Refusal :=
  instr th (fun s =>
    let w := (s.thread th).gr ga
    if z ≠ 0 then s.raise th .illegal (wordSG 7 gd ga (z.toNat * 2))
    else match s.tktFind th w with
      | (1, _) =>
        let dm := s.onMover th (w.toNat % 2 ^ 32)
        let s := (s.nextPc th).holdAt th (.tkt w gd (if dm then eta else 0) s.time)
        if dm ∧ thClass th = .job then s.evalCtx (thClu th) (thCtx th) else s
      | (st, fl) => s.retG th gd (tktVal st fl)) s

/-- Meaning of the try form of TWAIT. -/
def execTwaitTry (th : Nat) (gd ga : Reg) (z : BitVec 11) (s : State) : Host.Outcome State Fault Refusal :=
  instr th (fun s =>
    if z ≠ 0 then s.raise th .illegal (wordSG 7 gd ga (z.toNat * 2 + 1))
    else let (st, fl) := s.tktFind th ((s.thread th).gr ga); s.retG th gd (tktVal st fl)) s

/-! ## SEMACQ and SEMREL (R259 to R263) -/

/-- The word of a semaphore instruction. -/
def wordSem (op : Nat) (gd ga : Reg) (g t : Bool) (z : BitVec 4) (base : Byte) : W64 :=
  wordSY 0x29 gd ga (op * 2 ^ 14 + g.toNat * 2 ^ 13 + t.toNat * 2 ^ 12 + z.toNat * 2 ^ 8 + base.toNat)

/-- The semaphore number, base + ga over 64 bits; SEMNUM where it is out of range (R259). -/
def State.withSem (s : State) (t : Nat) (ga : Reg) (g : Bool) (base : Byte) (f : State → Nat → W64 → State) : State :=
  let n := base.setWidth 64 + (s.thread t).gr ga
  if (if g then 64 else 256) ≤ n.toNat then s.raise t .semNum n
  else f s (if g then 1536 + n.toNat else thClu t * 256 + n.toNat) n

/-- A waiter joins a semaphore. -/
def State.joinSem (s : State) (k t : Nat) : State :=
  s.setSem k { s.sem k with waiters := (s.sem k).waiters ++ [t] }

/-- Meaning of the wait form of SEMACQ (R195, R215, R260). -/
def execSemacq (th : Nat) (gd ga : Reg) (g : Bool) (z : BitVec 4) (base : Byte) (s : State) : Host.Outcome State Fault Refusal :=
  instr th (fun s =>
    if z ≠ 0 then s.raise th .illegal (wordSem 0 gd ga g false z base)
    else if thClass th ≠ .job then s.raise th .ctxReq (wordSem 0 gd ga g false z base)
    else s.withSem th ga g base fun s k n =>
      if s.semFree k ≠ 0 then (s.grant k th).retG th gd 0
      else if s.cycle th k then s.raise th .semCycle n
      else ((s.nextPc th).joinSem k th).block th (.sem k gd) .wsem) s

/-- Meaning of the try form of SEMACQ (R260). -/
def execSemacqTry (th : Nat) (gd ga : Reg) (g : Bool) (z : BitVec 4) (base : Byte) (s : State) :
    Host.Outcome State Fault Refusal :=
  instr th (fun s =>
    if z ≠ 0 ∨ (thClass th = .sup ∧ !g) then s.raise th .illegal (wordSem 0 gd ga g true z base)
    else s.withSem th ga g base fun s k _ =>
      if s.semFree k ≠ 0 then (s.grant k th).retG th gd 0 else s.retG th gd 1) s

/-- Meaning of SEMREL (R262). -/
def execSemrel (th : Nat) (gd ga : Reg) (g t : Bool) (z : BitVec 4) (base : Byte) (s : State) :
    Host.Outcome State Fault Refusal :=
  instr th (fun s =>
    if t ∨ z ≠ 0 ∨ (thClass th = .sup ∧ !g) then s.raise th .illegal (wordSem 1 gd ga g t z base)
    else s.withSem th ga g base fun s k n =>
      if s.holds k th then (s.retG th gd 0).release k th else s.raise th .semState n) s

/-! ## PWAIT (R264 to R267) -/

/-- The word of a PWAIT. -/
def wordPw (mode : Nat) (gd ga : Reg) (ax : BitVec 2) (scan z : Bool) (tmo : BitVec 10) : W64 :=
  wordSY 0x2A gd ga (mode * 2 ^ 14 + ax.toNat * 2 ^ 12 + scan.toNat * 2 ^ 11 + z.toNat * 2 ^ 10 + tmo.toNat)

/-- The end of a timeout in units of 10 us; 0 is none. -/
def State.until (s : State) (tmo : BitVec 10) : Option Nat := if tmo = 0 then none else some (s.time + usTicks (10 * tmo.toNat))

/-- Meaning of PWAIT in a position mode. -/
def execPwaitPosition (th : Nat) (gd ga : Reg) (falling : Bool) (ax : BitVec 2) (scan z : Bool) (tmo : BitVec 10) (s : State) :
    Host.Outcome State Fault Refusal :=
  instr th (fun s =>
    if z ∨ (scan ∧ (ax ≠ 0 ∨ thClass th = .sup)) then s.raise th .illegal (wordPw falling.toNat gd ga ax scan z tmo)
    else
      let n := if scan then s.scanAxis (s.thPart th) else ax.toNat
      let c := cntOf ((s.thread th).gr ga)
      if s.axLost n then s.retG th gd 2
      else if condHolds falling c (s.cnt n) then s.retG th gd 0
      else (s.nextPc th).block th (.pos n falling c gd (s.until tmo)) .wpos) s

/-- A thread may wait for the events of slot k (R266). -/
def State.slotMine (s : State) (t k : Nat) : Bool :=
  let c := s.rd (Addr.ptbSlotCtl k)
  let owner := ownerOf (fld c 58 56)
  if thClass t = .sup then owner == 0 || bit c 7 else owner == s.thPart t && owner != 0

/-- Meaning of PWAIT in slot-event mode. -/
def execPwaitSlot (th : Nat) (gd ga : Reg) (ax : BitVec 2) (scan z : Bool) (tmo : BitVec 10) (s : State) :
    Host.Outcome State Fault Refusal :=
  instr th (fun s =>
    if z ∨ (scan ∧ (ax ≠ 0 ∨ thClass th = .sup)) then s.raise th .illegal (wordPw 2 gd ga ax scan z tmo)
    else
      let k := ((s.thread th).gr ga).toNat % 64
      let c := thClu th
      if !s.slotMine th k then s.retG th gd 3
      else if bit (s.pend c) k then (s.setPend c (setBit (s.pend c) k false)).retG th gd 0
      else (s.nextPc th).block th (.slot k gd (s.until tmo)) .wpos) s

/-- Meaning of PWAIT_TIMEOUT: the timeout of a waiting PWAIT has run out (R266). -/
def execPwaitTimeout (th : Nat) (s : State) : Host.Outcome State Fault Refusal :=
  if okTid th then
    .next (match (s.thread th).wait with
      | .pos _ _ _ gd (some t) => if t ≤ s.time then s.endPwait th gd 1 else s
      | .slot _ gd (some t) => if t ≤ s.time then s.endPwait th gd 1 else s
      | _ => s)
  else .fault .noSuchUnit

/-! ## PARM and DLSET (R268 to R270, R275, R276) -/

/-- Arming slot k with control image v would be late (R55). -/
def State.slotLate (s : State) (k : Nat) (v : W64) : Bool :=
  let t := (cntOf (s.rd (Addr.ptbSlotTgt k))).toInt
  let x := (s.cnt (fld v 9 8)).toInt
  match fld v 3 2 with
  | 1 => decide (t ≤ x)
  | 2 => decide (x ≤ t)
  | 3 => decide (x = t)
  | _ => false

/-- PARM with its block read. -/
def State.parm (s : State) (t : Nat) (gd : Reg) (k : Nat) (b : List Byte) : State :=
  let r := if t = supTid then Src.sup else .part (s.thPart t)
  if !mayOwn r (ownerOf (s.rf (Addr.ptbSlotCtl k) 58 56)) then s.retG t gd 1
  else
    let v := setFld (BitVec.ofNat 64 (recNat b 16 8)) 58 56 (s.rf (Addr.ptbSlotCtl k) 58 56)
    let s := s.wr (Addr.ptbSlotTgt k) (BitVec.ofNat 64 (recNat b 0 8))
    let s := s.wr (Addr.ptbSlotStep k) (BitVec.ofNat 64 (recNat b 8 8))
    let st := if !bit v 0 then 0 else if fld v 3 2 = 0 then 2 else if s.slotLate k v then 3 else 0
    (s.retG t gd (BitVec.ofNat 64 st)).slotCtl r k v 0xFF

/-- Meaning of PARM. The spec names no exception for nonzero bytes 24 to 31 of the block: they are not looked at (log entry
15). -/
def execParm (th : Nat) (gd ga : Reg) (sel : BitVec 16) (flt : Nat) (s : State) : Host.Outcome State Fault Refusal :=
  instr th (fun s =>
    if 64 ≤ sel.toNat then s.raise th .illegal (wordSY 0x2B gd ga sel.toNat)
    else s.withBytes th ((s.thread th).gr ga) 32 flt fun s b => s.parm th gd sel.toNat b) s

/-- Change the job of a running thread, with its record copy (R241). -/
def State.setJob (s : State) (t : Nat) (j : Job) : State :=
  let c := thClu t
  let x := thCtx t
  (s.putCtx c x { s.ctx c x with job := j }).syncCopy c x

/-- DLSET: reserved fields are zero, a job context is needed; a deadline that has passed already is found out at once (R219, R276). -/
def State.dlset (s : State) (t : Nat) (gd ga : Reg) (z : BitVec 13) (mode : Nat) (d bad : Bool) (f : Job → W64 → Job) : State :=
  let w := wordSY 0x2E gd ga (z.toNat * 8 + mode * 2 + d.toNat)
  if gd ≠ 0 ∨ z ≠ 0 ∨ bad then s.raise t .illegal w
  else if thClass t ≠ .job then s.raise t .ctxReq w
  else
    let j := f (s.ctx (thClu t) (thCtx t)).job ((s.thread t).gr ga)
    let s := (s.setJob t j).nextPc t
    if s.passed j then s.evalCtx (thClu t) (thCtx t) else s

/-- Meaning of DLSET in mode 0b00. -/
def execDlsetExplicit (th : Nat) (gd ga : Reg) (z : BitVec 13) (d : Bool) (s : State) : Host.Outcome State Fault Refusal :=
  instr th (fun s => s.dlset th gd ga z 0 d false fun j v => { j with deadline := cntOf v, ddir := d, dlmode := 0 }) s

/-- Meaning of DLSET in mode 0b01 (R144). -/
def execDlsetDefault (th : Nat) (gd ga : Reg) (z : BitVec 13) (d : Bool) (s : State) : Host.Outcome State Fault Refusal :=
  instr th (fun s => s.dlset th gd ga z 1 d d fun j v =>
    match s.defaultDeadline j.part j.tier (cntOf v) with
    | some (dl, r) => { j with acq := cntOf v, deadline := dl, ddir := r, dlmode := 0 }
    | none => { j with acq := cntOf v, dlmode := 2 }) s

/-- Meaning of DLSET in mode 0b10. -/
def execDlsetNone (th : Nat) (gd ga : Reg) (z : BitVec 13) (d : Bool) (s : State) : Host.Outcome State Fault Refusal :=
  instr th (fun s => s.dlset th gd ga z 2 d false fun j _ => { j with dlmode := 2 }) s

/-! ## Reserved opcodes (R244, R319) -/

/-- The number of operations of a tile class. -/
def tiOps : Nat → Nat
  | 0 => 1 | 1 => 1 | 2 => 17 | 3 => 5 | 4 => 4 | 5 => 2 | 6 => 2 | 7 => 4 | _ => 0

/-- A word with a reserved major opcode, func or sel value (Tables 6.5 and 6.6, R259, R264, R275). -/
def reservedWord (w : W32) : Bool :=
  let op := w.toNat / 2 ^ 26
  let func := w.toNat % 2 ^ 11
  let sel := w.toNat % 2 ^ 16
  match op with
  | 0x00 => decide (0x12 ≤ func)
  | 0x01 => decide (7 ≤ func)
  | 0x02 => decide (6 ≤ func)
  | 0x03 => decide (4 ≤ func) && func % 256 != 0x10
  | 0x1B => decide (5 ≤ func)
  | 0x28 => decide (8 ≤ sel / 4096)
  | 0x29 => decide (2 ≤ sel / 2 ^ 14)
  | 0x2A => sel / 2 ^ 14 == 3
  | 0x2E => sel / 2 % 4 == 3
  | op => decide (4 ≤ op ∧ op ≤ 7) || decide (0x1C ≤ op ∧ op ≤ 0x1F) || decide (0x23 ≤ op ∧ op ≤ 0x27) || decide (0x38 ≤ op)

/-- The word is a tile issue of an operation that its class does not define. -/
def badTileOp (w : W32) : Bool :=
  let op := w.toNat / 2 ^ 26
  decide (0x30 ≤ op ∧ op ≤ 0x37) && decide (tiOps (op - 0x30) ≤ w.toNat / 2 ^ 20 % 64)

/-- Meaning of RESERVED_OPCODE: ILLEGAL, or TIOP for an undefined tile operation; nothing for any other word. -/
def execReservedOpcode (th : Nat) (w : W32) (s : State) : Host.Outcome State Fault Refusal :=
  instr th (fun s =>
    if reservedWord w ∨ (badTileOp w ∧ thClass th = .sup) then s.raise th .illegal (w.setWidth 64)
    else if badTileOp w then s.raise th .tiop (BitVec.ofNat 64 (w.toNat * 256 + 5))
    else s) s

/-! ## The supervisor pair (R291, R292, R695, R697) -/

/-- Meaning of LOCKSTEP_MISMATCH (R291). -/
def execLockstepMismatch (s : State) : Host.Outcome State Fault Refusal :=
  .next (if !s.clk 0 ∨ s.sup.st = .off ∨ s.sup.st = .stopped then s
    else
      let s := s.record (report 9 .lockstep 0 0)
      let l := setFld (satFld s.sup.lockstat 31 16 1) 7 0 0xFF
      let s := { s with sup := { s.sup with lockstat := l } }
      (s.detect 9 0).stopPair 1 0xFF)

/-- The pair starts again: at SY_RESTART, at the warm entry where that is zero or restarts come too often. -/
def State.restartPair (s : State) : State :=
  let recent := s.recentRestarts ++ [s.time]
  let rom := decide (max 2 (s.rf Addr.hltScthr 3 0) ≤ recent.length)
  let s := (s.wb Addr.hltScstat 3 rom).wf Addr.hltScstat 31 24 (min 255 recent.length)
  let entry := rom || s.sup.restart == 0
  let th := { thread0 with pc := if entry then 0 else pcOf s.sup.restart }.setG 1 (BitVec.ofNat 64 s.sup.g1)
  let old := s.thread supTid
  let s := s.setThread supTid { th with serial := old.serial, tkts := old.tkts }
  { s with sup := { s.sup with st := if entry then .rom else .run, recent := recent } }

/-- Meaning of SUPERVISOR_RESTART: the stopped pair restarts. -/
def execSupervisorRestart (s : State) : Host.Outcome State Fault Refusal :=
  .next (if s.clk 0 ∧ s.sup.st = .stopped then s.restartPair else s)

end Sys2Proof.Machine
end

