-- ==== Sys2Proof/Machine/Ingest.lean ====
section
/-! DEFINITION. Sensor ingest (chapter 3): cameras, reassembly, stamps, rings, uplinks, calibration, the JESD204C link. -/

namespace Sys2Proof.Machine

open Sys2Proof

/-! ## Cameras (R91 to R93) -/

/-- Connections of a camera by NCON; none for a reserved code. -/
def nconOf : Nat → Option Nat
  | 0 => some 1 | 1 => some 2 | 2 => some 4 | 3 => some 8 | _ => none

/-- First connection and number of connections of camera k. -/
def State.camCons (s : State) (k : Nat) : Nat × Nat :=
  let c := s.rd (Addr.cxpCamCfg k)
  (fld c 3 1, (nconOf (fld c 6 4)).getD 1)

/-- A camera's configuration can be applied (R92, R93). -/
def State.camFits (s : State) (k : Nat) : Bool :=
  let c := s.rd (Addr.cxpCamCfg k)
  match nconOf (fld c 6 4) with
  | none => false
  | some n =>
    let b := fld c 3 1
    decide (b % n = 0) && decide (b + n ≤ 8) && ownerOf (fld c 30 28) != 0 &&
      (List.range 4).all fun j =>
        j == k || !s.camOn j || (let (b', n') := s.camCons j; decide (b + n ≤ b') || decide (b' + n' ≤ b))

/-- A camera's stream starts afresh. -/
def Cam.fresh (m : Cam) : Cam :=
  { m with expect := none, held := [], tops := [], hdr := none, line := none, lastPlane := 0, y := 0, stamp := none }

/-- The ingest unit receives camera k's stream (R838). -/
def State.receiving (s : State) (k : Nat) : Bool := s.ingOn && s.camOn k && s.rb (Addr.ingCamCfg k) 0

/-! ## Stamps (R110 to R116) -/

/-- The counters and LOST bits at a tick (R110). -/
def State.histAt (s : State) (t : Nat) : List Cnt × List Bool :=
  match s.hist.find? fun h => decide (h.time ≤ t) with
  | some h => (h.cnts, h.lost)
  | none => match s.hist.getLast? with
    | some h => (h.cnts, h.lost)
    | none => (s.cnts, s.losts)

/-- The tick at an age in 0.25 ns units before now. -/
def State.ago (s : State) (q : Nat) : Nat := (s.time * 10 - q) / 10

/-- A latency field in 0.25 ns units: at most 8 us (R116). -/
def latOf (x : Nat) : Nat := min x 32000

/-- A stamp of an owner's scan axis at a tick. -/
def State.stampAt (s : State) (owner t : Nat) (nofire : Bool) (slot : Nat) : Stamp :=
  let n := s.scanAxis owner
  let (c, l) := s.histAt t
  ⟨c.getD n 0, t, n, s.rb (Addr.ptbAxCfg n) 1, l.getD n false, nofire, slot⟩

/-- A fire record of camera k is older than MAXAGE (R112). -/
def State.stale (s : State) (k : Nat) (f : FireRec) : Bool :=
  decide (f.time + usTicks (max 1 (s.rf (Addr.ingCamCfg k) 39 32)) < s.time)

/-- The fire records that are too old are discarded and counted (R112). -/
def State.expireFires (s : State) (k : Nat) : State :=
  let m := s.cam k
  let old := m.fires.filter (s.stale k)
  if old.isEmpty then s
  else (s.setCam k { m with fires := m.fires.filter fun f => !s.stale k f }).sat (Addr.ingCamFire k) 15 0 old.length

/-- The stamp of the acquisition that camera k's header begins: the oldest fire record, else the count at the header's arrival, tick
arr, less the latency (R113, R114). -/
def State.takeStamp (s : State) (k arr : Nat) : Stamp × State :=
  let s := s.expireFires k
  let owner := s.camOwner k
  let m := s.cam k
  match s.rb (Addr.ingCamCfg k) 15, m.fires with
  | true, f :: rest =>
    ({ s.stampAt owner f.time false f.slot with cnt := f.cnt, lost := f.lost },
      (s.setCam k { m with fires := rest }).wf (Addr.ingCamFire k) 47 16 (satAdd 32 (s.rf (Addr.ingCamFire k) 47 16) 1))
  | _, _ => (s.stampAt owner ((arr * 10 - latOf (s.rf (Addr.ingCamLat k) 15 0)) / 10) true 0xFF, s)

/-! ## Rings (R117 to R122) -/

/-- The owner of a ring. -/
def State.ringOwner (s : State) (r : Nat) : Nat := if r = 8 then s.jesOwner else s.camOwner (r / 2)

/-- The size of a ring. -/
def State.ringSize (s : State) (r : Nat) : Nat := 2 ^ max 16 (min 23 (s.rf (Addr.ingRingCfg r) 4 0))

/-- The counted consumer offsets of a ring (R120). -/
def State.consumers (s : State) (r : Nat) : List Nat :=
  let n := s.rf (Addr.ingRingCfg r) 9 8
  (if n.testBit 0 then [s.rf (Addr.ingRingCons0 r) 22 0] else []) ++
  (if n.testBit 1 || n == 0 then [s.rf (Addr.ingRingCons1 r) 22 0] else [])

/-- An entry of a length fits a ring: at least 64 bytes stay free before every counted consumer (R122). -/
def State.ringFits (s : State) (r len : Nat) : Bool :=
  let size := s.ringSize r
  let prod := s.rf (Addr.ingRingProd r) 22 0
  (s.consumers r).all fun c => decide ((prod + size - c % size) % size + len + 64 ≤ size)

/-- An entry is dropped: counted, and marked on the next (R119, R122). -/
def State.ringDrop (s : State) (r : Nat) : State :=
  (s.setRing r { s.ring r with drop := true }).sat (Addr.ingRingStat r) 31 0 1

/-- Write bytes into a ring from an offset, wrapping at its size. -/
def State.ringWrite (s : State) (r off : Nat) (bs : List Byte) : State :=
  let size := s.ringSize r
  let base := s.rf (Addr.ingRingBase r) 47 0 / size * size
  let n := min bs.length (size - off)
  let s := s.writeMem (s.ringOwner r) (base + off) (bs.take n)
  if n < bs.length then s.writeMem (s.ringOwner r) base (bs.drop n) else s

/-- Write an entry, then advance the producer index (R121); nothing for a partition in teardown (R736, step 1). -/
def State.ringPut (s : State) (r : Nat) (entry : List Byte) : State :=
  let e := fit (roundUp entry.length 64) entry
  if s.ringOwner r ≠ 0 ∧ s.partState (s.ringOwner r) = 2 then s
  else if !s.ringFits r e.length then s.ringDrop r
  else
    let prod := s.rf (Addr.ingRingProd r) 22 0
    let s := s.ringWrite r prod e
    (s.setRing r { s.ring r with drop := false }).wf (Addr.ingRingProd r) 22 0 ((prod + e.length) % s.ringSize r)

/-- The bytes of a descriptor (Table 3.3). -/
def descrBytes (p : Stamp) (src seq len calgen flags y : Nat) : List Byte :=
  bytesOf 6 p.cnt.toNat ++ bytesOf 1 (p.axis + 4 * p.follower.toNat) ++ bytesOf 1 src ++ bytesOf 8 p.time ++ bytesOf 4 seq ++
  bytesOf 2 len ++ bytesOf 2 calgen ++ bytesOf 2 flags ++ bytesOf 2 y ++ bytesOf 1 p.slot ++ zeros 3

/-! ## Calibration (R124 to R133) -/

/-- Bits of the four Mono formats and their packed forms; the largest raw value (R129). -/
def rawMax : Nat → Nat
  | 0 => 255 | 1 => 1023 | 2 => 4095 | 3 => 65535 | 4 => 1023 | 5 => 4095 | _ => 255

/-- The entry of a pixel: a run of 2^CW pixels, and on an area camera of 2^CH lines. -/
def State.calEntry (s : State) (t : Nat) (h : Hdr) (x y : Nat) : Nat :=
  let c := s.rd (Addr.ingCalCfg t)
  let w := 2 ^ fld c 6 4
  if h.rect then y / 2 ^ fld c 9 7 * ceilDiv h.w w + x / w else x / w

/-- How many entries an image needs (R136). -/
def State.calNeed (s : State) (t : Nat) (h : Hdr) : Nat :=
  let c := s.rd (Addr.ingCalCfg t)
  let n := ceilDiv h.w (2 ^ fld c 6 4)
  if h.rect then ceilDiv h.h (2 ^ fld c 9 7) * n else n

/-- An entry of a table that was never loaded: no offset, gain 1.0 (R125). -/
def calUnit : CalEntry := ⟨0, 0, 16384, 16384⟩

/-- The entry with which a pixel is corrected. -/
def Cal.at (c : Cal) (e : Nat) : CalEntry :=
  if c.loaded && c.fits then Sparse.get (fun _ => ⟨0, 0, 0, 0⟩) c.ents e else calUnit

/-- The drift that applies. -/
def Cal.drift (c : Cal) : Int := if c.loaded && c.fits then c.delta else 0

/-- v of R126, in units of 2^-18 raw. -/
def calV (e : CalEntry) (delta : Int) (r : Nat) : Int := (16 * (r : Int) - (e.dseed + delta)) * e.gain

/-- The output bytes of a corrected pixel (R126). -/
def calOut (fmt sh : Nat) (v : Int) : List Byte :=
  let q := ashr (v + 2 ^ (17 + sh)) (18 + sh)
  match fmt with
  | 0x0C => bytesOf 2 (clampI q 0 4095).toNat
  | 0x02 => bytesOf 2 (convFmt 2 .rne (valOf ((v : Rat) / 262144)))
  | _ => bytesOf 1 (clampI q 0 255).toNat

/-- A loaded entry from its memory format (R124). -/
def calLoadEntry (w : Nat) : CalEntry := ⟨w / 2 ^ 62, w / 2 ^ 42 % 2 ^ 20, w % 2 ^ 16, w % 2 ^ 16⟩

/-- Entries of a calibration table. -/
def calSize : Nat := 16384

/-- The device address of ING_CALt_SRC for a read or a write: the owner's segments translate it (R28, R792). -/
def State.calAddr (s : State) (t : Nat) (k : Acc) : Option Nat :=
  s.devAddr (s.camOwner (t / 2)) k (s.rf (Addr.ingCalSrc t) 47 6 * 64) (8 * calSize)

/-- Table t is loaded from memory (R124); a detected error in table memory loads it in the same way (R133). A source that no segment
maps loads nothing (log entry 144). -/
def State.calLoadNow (s : State) (t : Nat) : State :=
  match s.calAddr t .read with
  | none => s.setCal t { s.cal t with waiting := false }
  | some a =>
    let r := s.readMem (s.camOwner (t / 2)) a (8 * calSize) 0
    let s := r.s
    let ents : Sparse CalEntry := (List.range calSize).filterMap fun i =>
      let e := calLoadEntry (recNat r.data (8 * i) 8)
      if e = ⟨0, 0, 0, 0⟩ then none else some (i, e)
    let c := s.cal t
    let s := s.setCal t { c with ents := ents, delta := 0, sums := [], ns := [], lines := 0, loaded := true, waiting := false }
    s.inc (Addr.ingCalStat t) 15 0 1

/-- The bytes of a stored entry (R132). -/
def calStoreEntry (e : CalEntry) (delta : Int) : List Byte :=
  bytesOf 8 (e.code * 2 ^ 62 + (clampI (e.dseed + delta) 0 (2 ^ 20 - 1)).toNat * 2 ^ 42 + e.gain)

/-- An entry as a STORE writes it: that of a table never loaded has no offset and gain 1.0 (R125). -/
def Cal.stored (c : Cal) (e : Nat) : CalEntry := if c.loaded then Sparse.get (fun _ => ⟨0, 0, 0, 0⟩) c.ents e else calUnit

/-- Table t is written to memory as it stands (R132); nothing where no segment maps the place (log entry 144). -/
def State.calStoreNow (s : State) (t : Nat) : State :=
  let c := s.cal t
  let s := match s.calAddr t .write with
    | none => s
    | some a => s.writeMem (s.camOwner (t / 2)) a ((List.range calSize).flatMap fun i => calStoreEntry (c.stored i) c.delta)
  s.setCal t { s.cal t with storing := false }

/-- A line of table t is being received: its boundary is still to come. -/
def State.inLine (s : State) (t : Nat) : Bool :=
  match (s.cam (t / 2)).line with | some l => l.plane == t % 2 | none => false

/-- A LOAD of table t: at the boundary of the line in progress, at once where there is none (R124). -/
def State.calLoad (s : State) (t : Nat) : State := if s.inLine t then s.setCal t { s.cal t with waiting := true } else s.calLoadNow t

/-- A write of ING_CALt_CTL (R124, R131, R132). -/
def State.calCtl (s : State) (t : Nat) (v : W64) : State :=
  let s := s.wb (Addr.ingCalCtl t) 2 (bit v 2)
  let s := if !bit v 1 then s else if s.inLine t then s.setCal t { s.cal t with storing := true } else s.calStoreNow t
  if bit v 0 then s.calLoad t else s

/-- A STORE and a LOAD of table t that waited for a line boundary (R127, R131, R132). -/
def State.calDue (s : State) (t : Nat) : State :=
  let s := if (s.cal t).storing then s.calStoreNow t else s
  if (s.cal t).waiting then s.calLoadNow t else s

/-- Camera k's stream starts afresh; a line in progress is dropped, which is its boundary for a LOAD or STORE that waits. -/
def State.camFresh (s : State) (k : Nat) : State := ((s.setCam k (s.cam k).fresh).calDue (2 * k)).calDue (2 * k + 1)

/-- A write of CXP_CAMk_CFG: applied, or refused with CFGERR (R93). -/
def State.camCfgWrite (s : State) (k : Nat) (new : W64) : State :=
  let s := s.camFresh k
  let s := s.setCam k { s.cam k with applied := false }
  let s := s.wr (Addr.cxpCamCfg k) new
  if !bit new 0 then s
  else if s.camFits k then s.setCam k { s.cam k with applied := true, hbAt := s.time }
  else s.wb (Addr.cxpCamStat k) 1 true

/-- A write of ING_CAMk_CFG: the fire counts are cleared, and enabling starts SEQ from 0 (R838, Table 3.5). -/
def State.ingCfgWrite (s : State) (k : Nat) (new : W64) : State :=
  let old := s.rd (Addr.ingCamCfg k)
  let s := (s.wr (Addr.ingCamCfg k) new).wr (Addr.ingCamFire k) 0
  if bit new 0 = bit old 0 then s
  else
    let s := s.camFresh k
    if bit new 0 then
      (s.setRing (2 * k) { s.ring (2 * k) with seq := 0 }).setRing (2 * k + 1) { s.ring (2 * k + 1) with seq := 0 }
    else s

/-- FREEZE of table t. -/
def State.frozen (s : State) (t : Nat) : Bool := s.rb (Addr.ingCalCtl t) 2

/-- A count lies in an active background interval of camera k (R128). -/
def State.inBg (s : State) (k : Nat) (c : Cnt) : Bool :=
  (List.range 16).any fun i =>
    s.rb (Addr.ingBgHi k i) 63 && decide ((cntOf (s.rd (Addr.ingBgLo k i))).toInt ≤ c.toInt) &&
      decide (c.toInt ≤ (cntOf (s.rd (Addr.ingBgHi k i))).toInt)

/-- The gain part of one line: background-eligible pixels near the target enter the sums (R129). -/
def Cal.feed (c : Cal) (b tol rmax : Nat) (ix : Nat → Nat) (pix : List Nat) : Cal :=
  (pix.zipIdx).foldl (fun c (r, x) =>
    let k := ix x
    let e := c.at k
    let d := 16 * (r : Int) - (e.dseed + c.delta)
    let v := ashr (d * e.gain) 14
    if e.code = 1 ∧ r < rmax ∧ (v - 16 * b).natAbs ≤ 16 * tol then
      { c with sums := Sparse.set (fun _ => 0) c.sums k (Sparse.get (fun _ => 0) c.sums k + d),
               ns := Sparse.set (fun _ => 0) c.ns k (Sparse.get (fun _ => 0) c.ns k + 1) }
    else c) c

/-- The dark part of one line: the drift follows the mean of the dark reference pixels (R129). -/
def Cal.dark (c : Cal) (kd dmax : Nat) (ix : Nat → Nat) (pix : List Nat) : Cal :=
  let ds := pix.zipIdx.filterMap fun (r, x) =>
    let e := c.at (ix x)
    if e.code = 2 then some (16 * (r : Int) - e.dseed) else none
  if ds.isEmpty then c
  else
    let m := tdiv ds.sum ds.length
    { c with delta := clampI (c.delta + ashr (m - c.delta) kd) (-(16 * dmax : Nat)) (16 * dmax : Nat) }

/-- The gain update of one entry: the new gain, and whether it met its bound (R129, R130). -/
def gainStep (e : CalEntry) (b kg gstep bnd : Nat) (sum : Int) (n : Nat) : Nat × Bool :=
  let gt := tdiv ((b : Int) * 262144 * n + tdiv sum 2) sum
  let dg := clampI (ashr (gt - e.gain) kg) (-(gstep : Int)) gstep
  let lo : Int := e.gseed - e.gseed * bnd / 256
  let hi : Int := min 65535 (e.gseed + e.gseed * bnd / 256)
  let g := e.gain + dg
  ((clampI g lo hi).toNat, decide (g < lo) || decide (hi < g))

/-- A window ends (R129, R130). -/
def State.windowEnd (s : State) (t : Nat) : State :=
  let c := s.cal t
  let cleared := { c with sums := [], ns := [], lines := 0 }
  if s.frozen t then s.setCal t cleared
  else
    let cfg := s.rd (Addr.ingCalCfg t)
    let bnd := s.rd (Addr.ingCalBnd t)
    let nmin := max 1 (fld cfg 31 16)
    let res : Sparse CalEntry × Nat × Nat := c.ns.foldl (fun (r : Sparse CalEntry × Nat × Nat) (k, n) =>
      let (ents, nonpos, hits) := r
      if n < nmin then r
      else
        let sum := Sparse.get (fun _ => 0) c.sums k
        if sum ≤ 0 then (ents, nonpos + 1, hits)
        else
          let e := Sparse.get (fun _ => ⟨0, 0, 0, 0⟩) ents k
          let (g, hit) := gainStep e (s.rf (Addr.ingCalTgt t) 31 16) (fld cfg 15 13) (fld bnd 47 32) (min 64 (fld bnd 22 16)) sum n
          (Sparse.set (fun _ => ⟨0, 0, 0, 0⟩) ents k { e with gain := g }, nonpos, hits + hit.toNat)) (c.ents, 0, 0)
    let (ents, nonpos, hits) := res
    let s := s.setCal t { cleared with ents := ents }
    let off := Addr.ingCalStat t
    let s := ((s.wf off 47 32 (min nonpos 65535)).wf off 31 16 (min hits 65535)).inc off 15 0 1
    if fld cfg 63 48 < hits then (s.wb off 48 true).record (report 17 .signal t (s.camOwner (t / 2))) else s

/-- What follows a line of table t at its boundary: live update, then a STORE or LOAD that waited; a LOAD discards the
window's update (R127 to R132). -/
def State.lineBoundary (s : State) (t : Nat) (h : Hdr) (l : LineBuf) (fmt : Nat) (bg : Bool) (pix : List Nat) : State :=
  let c := s.cal t
  let cfg := s.rd (Addr.ingCalCfg t)
  let tgt := s.rd (Addr.ingCalTgt t)
  let ix := fun x => s.calEntry t h x l.y
  let live := c.loaded && c.fits && !l.dmg && !l.inc
  let s :=
    if !live then s
    else
      let c1 := if bg then c.feed (fld tgt 31 16) (fld tgt 15 0) (rawMax fmt) ix pix else c
      let c2 := if s.frozen t then c1 else c1.dark (fld cfg 12 10) (s.rf (Addr.ingCalBnd t) 15 0) ix pix
      let s := s.setCal t { c2 with lines := c2.lines + bg.toNat }
      if bg && decide (max 1 (fld cfg 47 32) ≤ c2.lines + 1) && !c.waiting then s.windowEnd t else s
  s.calDue t

/-! ## Lines -/

/-- The line in progress of camera k ends: corrected, written to its ring, used for calibration (R118, R121, R126, R134). -/
def State.lineEnd (s : State) (k : Nat) : State :=
  let m := s.cam k
  match m.line, m.hdr, m.stamp with
  | some l, some h, some p =>
    let s := s.setCam k { m with line := none }
    let t := 2 * k + l.plane
    let c := s.cal t
    let l := if l.upto < h.w then { l with inc := true } else l
    let pix := (List.range h.w).map fun x => Sparse.get (fun _ => 0) l.pix x
    let fmt := h.fmts.getD l.plane 0
    let bg := s.inBg k p.cnt && c.loaded && c.fits && !l.dmg && !l.inc
    let r := s.ring t
    let out := s.rd (Addr.ingCamOut k)
    let flags := p.nofire.toNat + 2 * l.dmg.toNat + 4 * l.inc.toNat + 8 * r.drop.toNat + 16 * (!(c.loaded && c.fits)).toNat +
      32 * p.lost.toNat + 64 * (h.rect && l.y == 0).toNat + 128 * (h.rect && l.y + 1 == h.h).toNat + 256 * bg.toNat
    let data := pix.zipIdx.flatMap fun (v, x) =>
      calOut (fld out 12 8) (min 8 (fld out 3 0)) (calV (c.at (s.calEntry t h x l.y)) c.drift v)
    let d := descrBytes p (k + 4 * l.plane) r.seq h.w (s.rf (Addr.ingCalStat t) 15 0) flags (if h.rect then l.y else 0)
    let s := s.setRing t { r with seq := (r.seq + 1) % 2 ^ 32 }
    let s := if l.dmg && s.rb (Addr.ingCamCfg k) 14 then s.ringDrop t else s.ringPut t (d ++ data)
    s.lineBoundary t h l fmt bg pix
  | _, _, _ => s.setCam k { m with line := none }

/-- A header is within Table 3.1. -/
def hdrOk (ok rect : Bool) (fmts : List Nat) (w h : Nat) : Bool :=
  ok && decide (1 ≤ fmts.length) && decide (fmts.length ≤ 2) && fmts.all (fun f => decide (f ≤ 5)) && decide (16 ≤ w) &&
    decide (w ≤ 32768) && (!rect || (decide (1 ≤ h) && decide (h ≤ 65535)))

/-- An image header of camera k, arrived at tick arr (R95, R113, R136). -/
def State.header (s : State) (k arr : Nat) (ok rect : Bool) (fmts : List Nat) (w h : Nat) : State :=
  let s := s.lineEnd k
  if !hdrOk ok rect fmts w h then
    ((s.setCam k { s.cam k with hdr := none, stamp := none, gap := false }).wb (Addr.cxpCamStat k) 2 true).record
      (report 17 .signal k (s.camOwner k))
  else
    let d : Hdr := ⟨rect, fmts, w, h⟩
    let s := (List.range 2).foldl (fun s q =>
      s.setCal (2 * k + q) { s.cal (2 * k + q) with fits := decide (s.calNeed (2 * k + q) d ≤ calSize) }) s
    let s := s.setCam k { s.cam k with hdr := some d, y := 0, lastPlane := 2, stamp := none, gap := false }
    if rect then let (p, s) := s.takeStamp k arr; s.setCam k { s.cam k with stamp := some p } else s

/-- A line marker of camera k: planes of one line share an acquisition (R113); a plane that does not follow the last one
begins the next line. A line whose marker was lost in a gap is INCOMPLETE (inc). -/
def State.newLine (s : State) (k arr plane : Nat) (dmg inc : Bool) : State :=
  let s := s.lineEnd k
  let m := s.cam k
  match m.hdr with
  | none => s
  | some h =>
    if h.fmts.length ≤ plane then s
    else
      let first := decide (plane ≤ m.lastPlane)
      let y := if first && m.lastPlane != 2 then m.y + 1 else m.y
      let s := if first && !h.rect then (let (p, s) := s.takeStamp k arr; s.setCam k { s.cam k with stamp := some p }) else s
      s.setCam k { s.cam k with y := y, lastPlane := plane, line := some ⟨plane, y, [], 0, dmg, inc⟩, gap := false }

/-- Pixels of the line in progress; a full line ends. -/
def State.pixels (s : State) (k x : Nat) (vals : List Nat) : State :=
  let m := s.cam k
  match m.line, m.hdr with
  | some l, some h =>
    let vals := vals.take (h.w - x)
    let pix := vals.zipIdx.foldl (fun p (v, i) => Sparse.set (fun _ => 0) p (x + i) v) l.pix
    let l := { l with pix := pix, upto := max l.upto (x + vals.length), inc := l.inc || decide (l.upto < x) }
    let s := s.setCam k { m with line := some l }
    if h.w ≤ l.upto then s.lineEnd k else s
  | _, _ => s

/-- After a gap, pixels that belong to no line in progress begin the next line, whose marker was lost: INCOMPLETE (R134). -/
def State.lostMarker (s : State) (k arr x : Nat) (dmg : Bool) : State :=
  let m := s.cam k
  match m.hdr with
  | none => s
  | some h =>
    let begun := match m.line with | some l => decide (l.upto ≤ x) | none => false
    if !m.gap || begun then s
    else s.newLine k arr (if m.lastPlane = 2 then 0 else (m.lastPlane + 1) % max 1 h.fmts.length) dmg true

/-- The items of a packet that arrived at tick arr, in order; a packet whose CRC failed damages the lines it touches, an overflow
completes the line with zeros (R123, R134). -/
def State.items (s : State) (arr : Nat) (p : StreamPacket) : State :=
  let dmg := !p.crcOk
  let k := p.cam
  let mark := fun (s : State) =>
    match (s.cam k).line with
    | some l => s.setCam k { s.cam k with line := some { l with dmg := l.dmg || dmg } }
    | none => s
  let s := p.items.foldl (fun s i =>
    match i with
    | .header ok rect fmts w h => s.header k arr ok rect fmts w h
    | .line plane => s.newLine k arr plane dmg false
    | .pixels x vals => (mark (s.lostMarker k arr x dmg)).pixels k x vals) s
  let s := if p.ovf then s.lineEnd k else s
  p.badTables.foldl (fun s t =>
    if t / 2 = k ∧ (s.cal t).loaded then (s.calLoad t).record (report 17 .signal t (s.camOwner k)) else s) s

/-- A record limited to one per millisecond for a camera (R134). -/
def State.camRecord (s : State) (k : Nat) : State :=
  let (w, l) := (s.cam k).lim.pass s.time (msTicks 1)
  let s := s.setCam k { s.cam k with lim := l }
  match w with
  | some n => s.record { report 17 .signal (s.camCons k).1 (s.camOwner k) with n := n }
  | none => s

/-- A record limited to one per millisecond for a connection (R134). -/
def State.conRecord (s : State) (n k : Nat) : State :=
  let (w, l) := (Sparse.get (fun _ => lim0) s.conLim n).pass s.time (msTicks 1)
  let s := { s with conLim := Sparse.set (fun _ => lim0) s.conLim n l }
  match w with
  | some m => s.record { report 17 .signal n (s.camOwner k) with n := m }
  | none => s

/-- How far tag b is ahead of tag a. -/
def tagAhead (a b : Nat) : Nat := (b + 256 - a % 256) % 256

/-- The held packet that comes next, with its arrival and whether it follows a gap: the one with the expected tag, or, once 16 us have
passed or every connection has brought a later tag, the one with the least tag ahead, which is a gap where a tag was expected (R94, R134). -/
def State.nextPacket (s : State) (k : Nat) : Option ((Nat × StreamPacket) × Bool) :=
  let m := s.cam k
  match m.held.find? fun h => m.expect == some h.2.tag with
  | some h => some (h, false)
  | none =>
    let (b, n) := s.camCons k
    let all := (List.range n).all fun i => match m.tops.find? fun t => t.1 == b + i with
      | some t => match m.expect with
        | some e => decide (0 < tagAhead e t.2) && decide (tagAhead e t.2 < 128)
        | none => true
      | none => false
    let old := m.held.any fun h => decide (h.1 + 6400 ≤ s.time)
    if !(all || old) then none
    else match m.held with
      | [] => none
      | h :: rest =>
        let e := m.expect.getD ((h.2.tag + 128) % 256)
        some (rest.foldl (fun a b => if tagAhead e b.2.tag < tagAhead e a.2.tag then b else a) h, m.expect.isSome)

/-- Deliver the held packets that are in order, at most n of them. -/
def State.deliver (s : State) (k : Nat) : Nat → State
  | 0 => s
  | n + 1 =>
    match s.nextPacket k with
    | none => s
    | some ((arr, p), gap) =>
      let m := s.cam k
      let s := if !gap then s
        else (s.setCam k { m with line := m.line.map fun l => { l with inc := true }, gap := true }).camRecord k
      let m := s.cam k
      let s := s.setCam k { m with held := m.held.filter (fun h => h.2.tag != p.tag), expect := some ((p.tag + 1) % 256) }
      (s.items arr p).deliver k n

/-- A stream packet arrives (R94, R134, R838): its connection counts errors while its own EN is set; camera k takes it while every
connection of the camera has lock. -/
def State.streamPacket (s : State) (p : StreamPacket) : State :=
  let k := p.cam
  let n := p.con
  let (b, w) := s.camCons k
  if !s.ingOn || !s.rb (Addr.cxpConCfg n) 0 || !s.rb (Addr.cxpConStat n) 0 then s
  else
    let s := if p.crcOk then s else s.sat (Addr.cxpConStat n) 47 16 1
    let s := if p.ovf then s.sat (Addr.cxpConStat n) 63 48 1 else s
    if !s.receiving k || decide (n < b) || decide (b + w ≤ n) || !(List.range w).all (fun i => s.rb (Addr.cxpConStat (b + i)) 0) then s
    else
      let s := if p.crcOk then s else s.conRecord n k
      let m := s.cam k
      let s := s.setCam k { m with held := m.held ++ [(s.time, p)], tops := Sparse.set (fun _ => 256) m.tops n p.tag }
      s.deliver k 256

/-- Meaning of CXP_STREAM_PACKET. -/
def execCxpStreamPacket (p : StreamPacket) (s : State) : Host.Outcome State Fault Refusal :=
  if p.cam < 4 ∧ p.con < 8 ∧ p.tag < 256 then .next (s.streamPacket p) else .fault .noSuchUnit

/-- Meaning of CXP_LOCK_LOSS (R134). -/
def execCxpLockLoss (n : Nat) (s : State) : Host.Outcome State Fault Refusal :=
  if n < 8 then
    .next (if !s.ingOn || !s.rb (Addr.cxpConStat n) 0 then s
      else
        let s := s.wb (Addr.cxpConStat n) 0 false
        let ks := (List.range 4).filter fun k => s.receiving k && (let (b, w) := s.camCons k; decide (b ≤ n) && decide (n < b + w))
        let s := s.record (report 17 .signal n ((ks.head?.map s.camOwner).getD 0))
        ks.foldl (fun s k =>
          let m := s.cam k
          let s := match m.line with
            | some l => (s.setCam k { m with line := some { l with inc := true } }).lineEnd k
            | none => s
          s.camFresh k) s)
  else .fault .noSuchUnit

/-- A rate code that a connection accepts. -/
def rateOk (r : Nat) : Bool := [1, 2, 3, 5, 6, 10, 12].contains r

/-- A write of CXP_CONn_CFG: a connection that is off, by EN or by a reserved RATE, has no lock (Table 3.8). -/
def State.conCfgWrite (s : State) (n : Nat) (new : W64) : State :=
  let s := s.wr (Addr.cxpConCfg n) new
  if bit new 0 && rateOk (fld new 11 8) then s else s.wb (Addr.cxpConStat n) 0 false

/-- Meaning of CXP_LOCK_ACQUIRE: an enabled connection with a valid rate locks. -/
def execCxpLockAcquire (n : Nat) (s : State) : Host.Outcome State Fault Refusal :=
  if n < 8 then
    .next (if s.ingOn && s.rb (Addr.cxpConCfg n) 0 && rateOk (s.rf (Addr.cxpConCfg n) 11 8) then s.wb (Addr.cxpConStat n) 0 true else s)
  else .fault .noSuchUnit

/-! ## Uplinks (R97 to R105) -/

/-- The width of camera k's trigger pulses in 0.5 ns. -/
def State.trigWidth (s : State) (k : Nat) : Nat := 4 * max 1 (s.rf (Addr.cxpCamTrig k) 15 0)

/-- One character of camera k's master uplink in 0.5 ns: 240 ns, or 480 ns on the low-speed uplink (R98; HSUP of Table 3.8). -/
def State.charTime (s : State) (k : Nat) : Nat := if s.rb (Addr.cxpConCfg (s.camCons k).1) 1 then 480 else 960

/-- A trigger packet of camera k may start at the character boundary b (0.5 ns): the first one that is 20 ns after its edge and not
before the end of the packet before it, so within a character of that instant; and now (R98). -/
def State.mayStart (s : State) (k edge b fin : Nat) : Bool :=
  let lo := max (edge + 40) (s.cam k).up.fin
  decide (lo ≤ b) && decide (b < lo + s.charTime k) && decide (b + s.charTime k ≤ fin) && decide (b < 5 * s.time + 5)

/-- Meaning of UPLINK_TRIGGER_RISING: the rising-edge packet starts at character boundary b and ends at fin (R97, R98). -/
def execUplinkTriggerRising (k b fin : Nat) (s : State) : Host.Outcome State Fault Refusal :=
  if k < 4 then
    let m := s.cam k
    .next (if s.ingOn && m.up.busy && !m.up.risen && s.mayStart k m.up.edge b fin then
        s.setCam k { m with up := { m.up with risen := true, fin := fin }, trig := some (true, b - m.up.edge - 40) }
      else s)
  else .fault .noSuchUnit

/-- Meaning of UPLINK_TRIGGER_FALLING: the edge is WIDTH × 2 ns after the rising edge (R97, R98, R101). -/
def execUplinkTriggerFalling (k b fin : Nat) (s : State) : Host.Outcome State Fault Refusal :=
  if k < 4 then
    let m := s.cam k
    let edge := m.up.edge + s.trigWidth k
    .next (if s.ingOn && m.up.busy && m.up.risen && s.mayStart k edge b fin then
        s.setCam k { m with up := { m.up with busy := false, risen := false, fin := fin }, trig := some (false, b - edge - 40) }
      else s)
  else .fault .noSuchUnit

/-- Bytes of a buffer held in 64-bit registers. -/
def State.bufRead (s : State) (reg : Nat → Nat) (off n : Nat) : List Byte :=
  (List.range n).map fun i => ((s.rd (reg ((off + i) % 4096 / 8))).extractLsb' (8 * ((off + i) % 8)) 8)

/-- Write bytes into a 4 KiB buffer held in 64-bit registers, wrapping. -/
def State.bufWrite (s : State) (reg : Nat → Nat) (off : Nat) (bs : List Byte) : State :=
  bs.zipIdx.foldl (fun s (b, i) =>
    let o := (off + i) % 4096
    s.wf (reg (o / 8)) (8 * (o % 8) + 7) (8 * (o % 8)) b.toNat) s

/-- A record enters a circular buffer whose pointers are at ptr: tail in [27:16], head in [11:0]; false where it does not fit
(R103, R104). -/
def State.bufPut (s : State) (ptr : Nat) (reg : Nat → Nat) (bs : List Byte) : Bool × State :=
  let head := s.rf ptr 11 0
  let tail := s.rf ptr 27 16
  let bs := fit (roundUp bs.length 4) bs
  if (head + 4096 - tail % 4096) % 4096 + bs.length < 4096 then
    (true, (s.bufWrite reg head bs).wf ptr 11 0 ((head + bs.length) % 4096))
  else (false, s)

/-- A write of CXP_CAMk_CTL; SEND sends the control packet (R102). -/
def State.ctlWrite (s : State) (k : Nat) (new : W64) (send : Bool) : State :=
  let s := s.wr (Addr.cxpCamCtl k) new
  if send && s.ingOn then s.setCam k { s.cam k with sent := s.bufRead (Addr.cxpCtx k) 0 (min 4096 (fld new 28 16)) } else s

/-- Meaning of CONTROL_RECEIVE (R102, R103). -/
def execControlReceive (k : Nat) (payload : List Byte) (s : State) : Host.Outcome State Fault Refusal :=
  if k < 4 then
    .next (if !s.ingOn then s
      else match s.bufPut (Addr.cxpCamRxptr k) (Addr.cxpCrx k) (bytesOf 4 payload.length ++ payload) with
        | (true, s) => s
        | (false, s) => s.wb (Addr.cxpCamStat k) 3 true)
  else .fault .noSuchUnit

/-- Meaning of EVENT_PACKET_RECEIVE (R104). -/
def execEventPacketReceive (k : Nat) (payload : List Byte) (s : State) : Host.Outcome State Fault Refusal :=
  if k < 4 then
    .next (if !s.ingOn then s
      else match s.bufPut (Addr.cxpCamEvptr k) (Addr.cxpCev k) (bytesOf 4 payload.length ++ bytesOf 8 s.time ++ payload) with
        | (true, s) => s
        | (false, s) => s.wb (Addr.cxpCamStat k) 4 true)
  else .fault .noSuchUnit

/-- A heartbeat of camera k is due: HB ms, at most 1,000, since the last or since the camera was enabled (R105, Table 3.9). -/
def State.hbDue (s : State) (k : Nat) : Bool :=
  let hb := min 1000 (s.rf (Addr.cxpCamCfg k) 25 16)
  s.ingOn && s.camOn k && hb != 0 && decide ((s.cam k).hbAt + msTicks hb ≤ s.time)

/-- Meaning of HEARTBEAT: PTB_TIME × 2.5 ns is sent on the master uplink (R105). -/
def execHeartbeat (k : Nat) (s : State) : Host.Outcome State Fault Refusal :=
  if k < 4 then .next (if s.hbDue k then s.setCam k { s.cam k with sent := bytesOf 8 (s.time * 5 / 2), hbAt := s.time } else s)
  else .fault .noSuchUnit

/-- Meaning of FIRE_RECORD_EXPIRE (R112). -/
def execFireRecordExpire (k : Nat) (s : State) : Host.Outcome State Fault Refusal :=
  if k < 4 then
    let m := s.cam k
    .next (match m.fires with
      | f :: rest =>
        if s.stale k f then
          (s.setCam k { m with fires := rest }).sat (Addr.ingCamFire k) 15 0 1
        else s
      | [] => s)
  else .fault .noSuchUnit

/-! ## The JESD204C link (R106 to R109, R115) -/

/-- Fields of JES_CFG: lanes, converters, octets, N', samples. -/
def jesOk (v : W64) : Bool :=
  let l := fld v 24 23 + 1
  let m := fld v 27 25 + 1
  let f := fld v 31 28 + 1
  let np := if bit v 37 then 16 else 12
  let sm := (bit v 38).toNat + 1
  let e := fld v 42 39 + 1
  decide (3000 ≤ fld v 22 8) && decide (fld v 22 8 ≤ 12375) && decide (f * 8 * l = m * sm * np) && decide (fld v 36 32 + 1 ≤ np) &&
    decide (fld v 55 46 ≤ e * 32 - 1)

/-- A write of JES_CFG (R107). -/
def State.jesCfgWrite (s : State) (new : W64) : State :=
  let s := s.wr Addr.jesCfg new
  let ok := bit new 0 && jesOk new && ownerOf (fld new 58 56) != 0
  let s := { s with jes := { s.jes with applied := ok, lemc := none, inc := false } }
  let s := (s.wb Addr.jesStat 0 false).wb Addr.jesStat 1 false
  let s := (List.range 4).foldl (fun s l => s.wf (Addr.jesLaneStat l) 1 0 0) s
  if bit new 0 && !ok then s.wb Addr.jesStat 2 true else s

/-- Meaning of SYSREF_EDGE: phase in device-clock cycles (R108). -/
def execSysrefEdge (phase : Nat) (s : State) : Host.Outcome State Fault Refusal :=
  .next (if !s.ingOn || !s.jes.applied then s
    else
      let period := (s.rf Addr.jesCfg 42 39 + 1) * 32
      let p := phase % period
      match s.jes.lemc with
      | none => ({ s with jes := { s.jes with lemc := some p } }).wb Addr.jesStat 1 true
      | some q =>
        let d := (p + period - q) % period
        if !s.rb Addr.jesCfg 43 ∨ d ≤ 1 ∨ d = period - 1 then s
        else
          let s := { s with jes := { s.jes with lemc := some p } }
          (s.wb Addr.jesStat 3 true).record (report 17 .signal 0 s.jesOwner))

/-- Meaning of JESD_LANE_LOCK: every lane of the link locks; at link up SEQ starts from 0 (R838). -/
def execJesdLaneLock (s : State) : Host.Outcome State Fault Refusal :=
  .next (if !s.ingOn || !s.jes.applied || s.jes.lemc.isNone then s
    else
      let s := (List.range (s.rf Addr.jesCfg 24 23 + 1)).foldl (fun s l => s.wf (Addr.jesLaneStat l) 1 0 3) s
      if s.rb Addr.jesStat 0 then s else (s.setRing 8 { s.ring 8 with seq := 0 }).wb Addr.jesStat 0 true)

/-- Meaning of JESD_LOCK_LOSS (R134): the block in progress is incomplete. -/
def execJesdLockLoss (l : Nat) (s : State) : Host.Outcome State Fault Refusal :=
  if l < 4 then
    .next (if !s.ingOn || !s.rb Addr.jesStat 0 then s
      else
        let s := s.wf (Addr.jesLaneStat l) 1 0 0
        let s := { s with jes := { s.jes with inc := true } }
        s.record (report 17 .signal l s.jesOwner))
  else .fault .noSuchUnit

/-- A sample as the link carries it, sign-extended from N bits to 16 (R118). -/
def sample16 (n : Nat) (v : W16) : List Byte :=
  bytesOf 2 (BitVec.ofInt 16 (BitVec.ofNat n v.toNat).toInt).toNat

/-- A record limited to one per millisecond for a lane (R134). -/
def State.laneRecord (s : State) (l : Nat) : State :=
  let (w, m) := (Sparse.get (fun _ => lim0) s.jes.laneLim l).pass s.time (msTicks 1)
  let s := { s with jes := { s.jes with laneLim := Sparse.set (fun _ => lim0) s.jes.laneLim l m } }
  match w with
  | some n => s.record { report 17 .signal l s.jesOwner with n := n }
  | none => s

/-- A block of the JESD204C link, whose first frame was released age × 0.25 ns ago (R115, R118, R134). -/
def State.jesBlock (s : State) (age : Nat) (samples : List W16) (bad : List Nat) : State :=
  let cfg := s.rd Addr.jesCfg
  let frames := 64 * 2 ^ fld cfg 45 44
  let need := frames * (fld cfg 27 25 + 1) * ((bit cfg 38).toNat + 1)
  let s := (bad.filter (· < 4)).foldl (fun s l => (s.sat (Addr.jesLaneStat l) 47 16 1).laneRecord l) s
  let p := s.stampAt s.jesOwner (s.ago (age + latOf (s.rf Addr.jesLat 15 0))) false 0xFF
  let r := s.ring 8
  let inc := s.jes.inc || decide (samples.length < need)
  let flags := 2 * (!bad.isEmpty).toNat + 4 * inc.toNat + 8 * r.drop.toNat + 32 * p.lost.toNat
  let data := ((samples ++ List.replicate need 0).take need).flatMap (sample16 (fld cfg 36 32 + 1))
  let s := { s with jes := { s.jes with inc := false } }
  let s := s.setRing 8 { r with seq := (r.seq + 1) % 2 ^ 32 }
  s.ringPut 8 (descrBytes p 8 r.seq frames 0 flags 0 ++ data)

/-- Meaning of JESD_BLOCK_COMPLETE. -/
def execJesdBlockComplete (age : Nat) (samples : List W16) (crcLanes : List Nat) (s : State) : Host.Outcome State Fault Refusal :=
  .next (if s.ingOn && s.jes.applied && s.rb Addr.jesStat 0 then s.jesBlock age samples crcLanes else s)

end Sys2Proof.Machine
end

