-- ==== Sys2Proof/Machine/Fabric.lean ====
section
/-! DEFINITION. The Volson fabric: sealing and opening of blocks, epochs, routing, the link layer, training, position packets
(chapter 14, R71 to R78). -/

namespace Sys2Proof.Machine

open Sys2Proof

/-! ## Ports and routing -/

/-- W, the columns. -/
def State.fabW (s : State) : Nat := min 19 (s.rf Addr.fabCfg 20 16) + 1
/-- H, the rows. -/
def State.fabH (s : State) : Nat := min 19 (s.rf Addr.fabCfg 25 21) + 1
/-- The x coordinate of a device. -/
def devX (id : Nat) : Nat := id % 20
/-- The y coordinate of a device. -/
def devY (id : Nat) : Nat := id / 20
/-- The direction of port q: 0 none, 1 +x, 2 −x, 3 +y, 4 −y. -/
def State.portDir (s : State) (q : Nat) : Nat := let m := s.rf Addr.fabCfg (34 + 3 * q) (32 + 3 * q); if m ≤ 4 then m else 0
/-- The port of a direction. -/
def State.dirPort (s : State) (d : Nat) : Option Nat := (List.range 4).find? fun q => s.portDir q == d
/-- FAB_PORTq_STAT.STATE: 0 DISABLED, 1 TRAIN, 2 UP, 3 HALF, 4 DOWN, 5 RETIRED. -/
def State.portState (s : State) (q : Nat) : Nat := s.rf (Addr.fabPortStat q) 2 0
/-- Set STATE: in DISABLED and DOWN the blocks that wait to leave are dropped and counted (R621). -/
def State.setPortState (s : State) (q n : Nat) : State :=
  let s := s.wf (Addr.fabPortStat q) 2 0 n
  if n = 0 ∨ n = 4 then
    let x := s.port q
    (s.setPort q { x with tx := [] }).sat Addr.fabDrop 63 32 x.tx.length
  else s
/-- The port carries blocks, on two lanes or one. -/
def State.portUp (s : State) (q : Nat) : Bool := s.clk (11 + q) && (s.portState q == 2 || s.portState q == 3)
/-- Lanes of a port not retired. -/
def State.lanesIn (s : State) (q : Nat) : List Nat := (List.range 2).filter fun l => !s.rb (Addr.fabPortLane q) l

/-- The shorter way along a ring of n from a to b: 0 +, 1 −; + on a tie (R618). -/
def shortWay (n a b : Nat) : Nat :=
  let f := (b % n + n - a % n) % n
  if n < 2 * f then 1 else 0

/-- Every route entry takes the shorter direction (R618). -/
def State.routeReset (s : State) : State :=
  let (x, y, w, h) := (devX s.fabId, devY s.fabId, s.fabW, s.fabH)
  (List.range 13).foldl (fun s k =>
    s.wr (Addr.fabRt k) (BitVec.ofNat 64 (((List.range 32).map fun i =>
      let d := 32 * k + i
      if d < 400 then (shortWay w x (devX d) + 2 * shortWay h y (devY d)) * 4 ^ i else 0).foldl (· + ·) 0))) s

/-- A write of FAB_CFG (R617, R618); PMAP decides with the ports whether the device is below its floor (R683). -/
def State.fabCfgWrite (s : State) (new : W64) : State :=
  let t := s.wr Addr.fabCfg new
  (if t.fabId = s.fabId ∧ t.fabW = s.fabW ∧ t.fabH = s.fabH then t else t.routeReset).floorCheck 12 0

/-- The direction a block for dst leaves in; none when it is this device's. -/
def State.routeDir (s : State) (dst : Nat) : Option Nat :=
  let e := s.rd (Addr.fabRt (dst / 32))
  if devX s.fabId ≠ devX dst then some (if bit e (2 * (dst % 32)) then 2 else 1)
  else if devY s.fabId ≠ devY dst then some (if bit e (2 * (dst % 32) + 1) then 4 else 3)
  else none

/-- A block leaving in direction d crosses the dateline of its dimension (R619). -/
def State.dateline (s : State) (d : Nat) : Bool :=
  let (x, y) := (devX s.fabId, devY s.fabId)
  match d with
  | 1 => x + 1 == s.fabW
  | 2 => x == 0
  | 3 => y + 1 == s.fabH
  | 4 => y == 0
  | _ => false

/-- Queue a block at a port (R621): a TRAIN port makes it wait, a DOWN, RETIRED or unassigned one drops it. -/
def State.queueAt (s : State) (q : Option Nat) (b : Block) : State :=
  match q with
  | none => s.sat Addr.fabDrop 63 32 1
  | some q =>
    let st := s.portState q
    if st = 0 ∨ st = 4 ∨ st = 5 then s.sat Addr.fabDrop 63 32 1
    else s.setPort q { s.port q with tx := (s.port q).tx ++ [(b, s.time)] }

/-- The queue of blocks that the device sends to itself without a port (R625). -/
def inner : Nat := 4

/-- Send a block on: of arriving port's direction din (0 for a local sender) (R618, R619, R625). -/
def State.sendOn (s : State) (din : Nat) (b : Block) : State :=
  match s.routeDir b.dst with
  | none =>
    match (List.range 4).find? fun q => s.portUp q && s.rb (Addr.fabPortCfg q) 2 with
    | some q => s.queueAt (some q) b
    | none => s.setPort inner { s.port inner with rx := (s.port inner).rx ++ [(b, s.time)] }
  | some d =>
    let turn := decide (din = 0) || decide ((din + 1) / 2 ≠ (d + 1) / 2)
    let vc := if s.dateline d then 1 else if turn then 0 else b.vc
    s.queueAt (s.dirPort d) { b with vc := vc }

/-! ## Domains, keys and epochs (R634 to R640) -/

/-- The partition of a domain. -/
def State.domPart (s : State) (dom : Nat) : Option Nat :=
  if dom = 0 then none else (List.range 5).find? fun p => decide (0 < p) && s.rf (Addr.fabPartDom p) 7 0 == dom

/-- The fabric key of an epoch. -/
def State.fabKey (s : State) (p e : Nat) : Option (List Byte) := ((s.key p).fab.find? fun k => k.epoch == e).map (·.key)

/-- The header of a block as 16 bytes (Table 14.2). -/
def hdrBytes (b : Block) (seq : Nat) : List Byte :=
  bytesOf 16 (b.dst % 512 + b.src % 512 * 2 ^ 9 + b.plen % 256 * 2 ^ 18 + b.type % 16 * 2 ^ 26 + b.vc % 2 * 2 ^ 30 +
    b.last.toNat * 2 ^ 31 + seq % 65536 * 2 ^ 32 + b.dom % 256 * 2 ^ 48 + b.epoch % 256 * 2 ^ 56 + b.off % 2 ^ 25 * 2 ^ 64 +
    b.ctr % 2 ^ 39 * 2 ^ 89)

/-- The IV of a block (R635). -/
def fabIv (src ctr : Nat) : List Byte := bytesBE 4 src ++ bytesBE 8 ctr

/-- A block of partition p can be sealed: it has a domain, the key of its epoch is placed and CTR is not used up (R634 to R636). -/
def State.canSeal (s : State) (p : Nat) : Bool :=
  s.domOf p != 0 && (s.fabKey p (s.rf (Addr.fabPartEpoch p) 7 0)).isSome && s.rf (Addr.fabPartCtr p) 38 0 != 2 ^ 39 - 1

/-- Seal a block of partition p with this device as its sender: its key's CTR rises, and sets CTREXH where it reaches its last value;
none where CTR is used up or no key is placed (R635, R636). -/
def State.seal (s : State) (p : Nat) (b : Block) : Option Block × State :=
  let e := s.rf (Addr.fabPartEpoch p) 7 0
  match (if s.domOf p = 0 then none else s.fabKey p e) with
  | none => (none, s)
  | some k =>
    let ctr := s.rf (Addr.fabPartCtr p) 38 0
    if ctr = 2 ^ 39 - 1 then (none, s)
    else
      let b := { b with src := s.fabId, dom := s.domOf p, epoch := e, ctr := ctr, plen := b.payload.length / 4 }
      let c := Config.gcmSeal k (fabIv b.src ctr) (hdrBytes b 0) b.payload
      let s := s.wf (Addr.fabPartCtr p) 38 0 (ctr + 1)
      (some { b with payload := c.1, tag := c.2 }, if ctr + 1 = 2 ^ 39 - 1 then (s.wb (Addr.fabPartStat p) 0 true).supEvent else s)

/-- Open a block of partition p under the key of its epoch. -/
def State.open_ (s : State) (p : Nat) (b : Block) : Option (List Byte) :=
  match s.fabKey p b.epoch with
  | none => none
  | some k => Config.gcmOpen k (fabIv b.src b.ctr) (hdrBytes b 0) b.payload b.tag

/-- An epoch is accepted on arrival (R637). -/
def State.epochOk (s : State) (p e : Nat) : Bool :=
  let r := s.rd (Addr.fabPartEpoch p)
  e == fld r 7 0 || (bit r 16 && e == fld r 15 8)

/-- A block with a payload in the clear. -/
def mkBlk (type dst off : Nat) (last : Bool) (payload : List Byte) : Block :=
  ⟨0, off, 0, 0, 0, last, 0, type, payload.length / 4, 0, dst, payload, []⟩

/-- Seal and send a block of partition p; the answer is whether it went. -/
def State.inject (s : State) (p : Nat) (b : Block) : Bool × State :=
  match s.seal p b with
  | (some b, s) => (true, s.sendOn 0 b)
  | (none, s) => (false, s)

/-- A fabric key stops being current (R713): it is kept until KEY_ZEROISE. -/
def retireKeys (keep : Nat → Bool) (now : Nat) (l : List HeldKey) : List HeldKey :=
  l.map fun k => if keep k.epoch then { k with retired := none } else match k.retired with
    | some _ => k
    | none => { k with retired := some now }

/-- Keys that are current: CUR, CUR + 1, and PREV while it is accepted (R712, R713). -/
def State.fabKeySync (s : State) (p : Nat) : State :=
  let r := s.rd (Addr.fabPartEpoch p)
  let keep := fun e => e == fld r 7 0 || e == fld r 7 0 + 1 || (bit r 16 && e == fld r 15 8)
  s.setKey p { s.key p with fab := retireKeys keep s.time (s.key p).fab }

/-- The advance of the fabric epoch; forced by a teardown it needs no key (R639). -/
def State.fabAdvance (s : State) (p : Nat) (retire force : Bool) : State :=
  let c := s.rf (Addr.fabPartEpoch p) 7 0
  if !force && (decide (c = 255) || (s.fabKey p (c + 1)).isNone) then s.wb (Addr.fabPartStat p) 1 true
  else
    let s := s.wr (Addr.fabPartEpoch p) (BitVec.ofNat 64 ((if c = 255 then 0 else c + 1) + c * 2 ^ 8 + (!retire).toNat * 2 ^ 16))
    (s.wr (Addr.fabPartCtr p) 0).fabKeySync p

/-- A write of FAB_PARTp_EPOCH (R639). -/
def State.fabEpochWrite (s : State) (p : Nat) (v : W64) : State :=
  if bit v 24 then s.fabAdvance p (bit v 25) false
  else if bit v 25 then (s.wb (Addr.fabPartEpoch p) 16 false).fabKeySync p
  else s

/-! ## Link layer (R602 to R608) -/

/-- The detected errors and operations of a port's lanes in service (Table 15.2, 0x0C). -/
def State.onLanes (s : State) (q : Nat) (f : State → Nat → State) : State := (s.lanesIn q).foldl (fun s l => f s (2 * q + l)) s

/-- Put a control word into the queue. -/
def State.ctlWord (s : State) (q k v : Nat) : State := s.setPort q { s.port q with ctl := (s.port q).ctl ++ [(k, v)] }

/-- Send an ACK of every block accepted so far. -/
def State.sendAck (s : State) (q : Nat) : State :=
  let x := s.port q
  s.setPort q { x with ctl := x.ctl ++ [(0, (x.rxSeq + 65535) % 65536)], unacked := 0 }

/-- A block is discarded: NAK at the first discard since the last accepted one (R603). -/
def State.discard (s : State) (q : Nat) : State :=
  let s := s.onLanes q fun s u => s.detect 12 u
  let x := s.port q
  if x.nakSent then s else s.setPort q { x with ctl := x.ctl ++ [(1, x.rxSeq)], nakSent := true }

/-- The buffer of a block: 0 VC0, 1 VC1, 2 position packets (R614). -/
def bufOf (b : Block) : Nat := if b.type = 8 then 2 else b.vc % 2

/-- The receiver's buffer place is free again. -/
def State.credit (s : State) (q : Nat) (b : Block) : State := if q = inner then s else s.ctlWord q 2 (16 * bufOf b + 1)

/-- A block with fields that no block may have counts as one with a wrong CRC (R600). -/
def badBlock (b : Block) : Bool := decide (128 < b.plen) || b.dom == 0 || b.epoch == 0 || b.type == 0 || decide (9 ≤ b.type)

/-- An accepted block goes on, or is kept for this device when its domain and epoch are (R618, R637, R642). -/
def State.place (s : State) (q : Nat) (b : Block) : State :=
  if b.dst ≠ 0x1FF ∧ b.dst ≠ s.fabId then (s.sendOn (s.portDir q) b).credit q b
  else match s.domPart b.dom with
    | none => (s.sat Addr.fabDrop 31 0 1).credit q b
    | some p =>
      if s.epochOk p b.epoch then s.setPort q { s.port q with rx := (s.port q).rx ++ [(b, s.time)] }
      else (s.sat (Addr.fabPartStat p) 63 48 1).credit q b

/-- A block arrives (R603, R604). -/
def State.blockIn (s : State) (q : Nat) (b : Block) (crcOk : Bool) : State :=
  let s := s.onLanes q fun s u => s.countOps 12 u 1
  let x := s.port q
  if !crcOk || badBlock b then (s.sat (Addr.fabPortCnt1 q) 63 48 1).discard q
  else if b.seq ≠ x.rxSeq then
    let back := (x.rxSeq + 65536 - b.seq % 65536) % 65536
    if 1 ≤ back ∧ back ≤ 64 then (s.onLanes q fun s u => s.detect 12 u).sendAck q else s.discard q
  else
    let s := s.setPort q { x with rxSeq := (x.rxSeq + 1) % 65536, nakSent := false, unacked := x.unacked + 1,
                                  unackedAt := if x.unacked = 0 then s.time else x.unackedAt }
    let s := s.inc (Addr.fabPortCnt0 q) 31 0 1
    let s := if 8 ≤ x.unacked + 1 then s.sendAck q else s
    s.place q b

/-- Meaning of FABRIC_BLOCK_RECEIVE: in SL1 and SL2 a block received is a wake event (Table 17.7). -/
def execFabricBlockReceive (q : Nat) (blk : Block) (crcOk : Bool) (s : State) : Host.Outcome State Fault Refusal :=
  if q < 4 then .next (if s.portUp q then (if s.clk 0 then s else s.raiseWake 5 q).blockIn q blk crcOk else s) else .fault .noSuchUnit

/-- How far SEQ b lies behind a, counted modulo 65,536. -/
def seqBack (a b : Nat) : Nat := (a % 65536 + 65536 - b % 65536) % 65536

/-- Meaning of ACK_RECEIVE: the blocks up to SEQ leave the replay buffer (R605). -/
def execAckReceive (q seq : Nat) (s : State) : Host.Outcome State Fault Refusal :=
  if q < 4 then
    .next (if s.portUp q then
      let x := s.port q
      let rest := x.replay.filter fun b => !decide (seqBack seq b.blk.seq < 64)
      if rest.length < x.replay.length then
        s.setPort q { x with replay := rest, again := min x.again rest.length, progressAt := s.time }
      else s
    else s)
  else .fault .noSuchUnit

/-- A replay starts; at 8 retries of the oldest block the port escalates and fast-retrains (R606, R607). -/
def State.startReplay (s : State) (q : Nat) : State :=
  let x := s.port q
  match x.replay with
  | [] => s
  | b :: rest =>
    let s := s.sat (Addr.fabPortCnt1 q) 47 32 1
    let n := b.tries + 1
    let x := { x with replay := { b with tries := n } :: rest, progressAt := s.time }
    if n < 8 then s.setPort q { x with again := x.replay.length, ctl := x.ctl ++ [(3, 0)] }
    else
      let s := (s.setPort q { x with esc := true, again := 0, trainAt := s.time }).setPortState q 1
      let s := s.sat (Addr.fabPortCnt1 q) 31 16 1
      let d := bytesOf 2 b.blk.seq ++ bytesOf 1 (s.lanesIn q).length
      s.onLanes q fun s u => s.exhaustWith 12 u { report 12 .exhaust u 0 with sub := n, detail := d }

/-- Meaning of NAK_RECEIVE. -/
def execNakReceive (q _seq : Nat) (s : State) : Host.Outcome State Fault Refusal :=
  if q < 4 then .next (if s.portUp q then s.startReplay q else s) else .fault .noSuchUnit

/-- Meaning of REPLAY_TIMEOUT: 4 us with no ACK progress. -/
def execReplayTimeout (q : Nat) (s : State) : Host.Outcome State Fault Refusal :=
  if q < 4 then .next (if s.portUp q ∧ (s.port q).progressAt + usTicks 4 ≤ s.time then s.startReplay q else s) else .fault .noSuchUnit

/-- Meaning of ACK_DELAY_EXPIRY: 500 ns after the first unacknowledged block. -/
def execAckDelayExpiry (q : Nat) (s : State) : Host.Outcome State Fault Refusal :=
  if q < 4 then
    .next (if s.portUp q ∧ 0 < (s.port q).unacked ∧ (s.port q).unackedAt + 200 ≤ s.time then s.sendAck q else s)
  else .fault .noSuchUnit

/-- Meaning of CREDIT_RETURN: a CRD word for buffer buf. -/
def execCreditReturn (q buf n : Nat) (s : State) : Host.Outcome State Fault Refusal :=
  if q < 4 ∧ buf < 3 then
    .next (if s.portUp q ∧ 1 ≤ n ∧ n ≤ 8 then
      let x := s.port q
      s.setPort q { x with credits := x.credits.set buf (min (if buf = 2 then 4 else 16) (x.credits.getD buf 0 + n)) }
    else s)
  else .fault .noSuchUnit

/-- A position packet with its accumulated latency raised (Table 2.2, R77). -/
def addLat (pay : List Byte) (t : Nat) : List Byte := patch pay 8 (bytesOf 4 (recNat pay 8 4 + t))

/-- The wire form of a block about to leave: a position packet is sealed now (R642, R643). -/
def State.wire (s : State) (b : Block) : Option Block × State :=
  if b.type = 8 then match s.domPart b.dom with | some p => s.seal p b | none => (none, s)
  else (some b, s)

/-- A queued block takes no credit while the job of the transfer that sent it is pre-empted (R217). -/
def State.heldBack (s : State) (b : Block) : Bool :=
  s.ops.any fun o => !o.done && !o.np && s.sentBy o b && !s.inInnings o.th

/-- The position packets of domains that no partition holds any more leave a port's queue (R642). -/
def State.dropPos (s : State) (q : Nat) : State :=
  let x := s.port q
  s.setPort q { x with tx := x.tx.filter fun e => e.1.type != 8 || (s.domPart e.1.dom).isSome }

/-- The next block that may leave, in the order of R615: a position packet, then the channels in turn, and on a channel local
and forwarded blocks in turn. -/
def State.nextOut (s : State) (q : Nat) : Option (Block × Nat) :=
  let x := s.port q
  let have_ := fun b => 0 < x.credits.getD (bufOf b) 0
  let ofVc := fun (v : Nat) =>
    let l := x.tx.filter fun e => e.1.type != 8 && bufOf e.1 == v && !s.heldBack e.1
    let mine := l.find? fun e => e.1.src == s.fabId
    let fwd := l.find? fun e => e.1.src != s.fabId
    if x.credits.getD v 0 = 0 then none
    else if x.turn.testBit (1 + v) then mine.orElse fun _ => fwd else fwd.orElse fun _ => mine
  let sealable := fun b => match s.domPart b.dom with | some p => s.canSeal p | none => false
  match x.tx.find? fun e => e.1.type == 8 && decide (have_ e.1) && sealable e.1 with
  | some e => some e
  | none => if x.turn.testBit 0 then (ofVc 1).orElse fun _ => ofVc 0 else (ofVc 0).orElse fun _ => ofVc 1

/-- Bit i of a number takes a value. -/
def putBit (n i : Nat) (b : Bool) : Nat := if b = n.testBit i then n else if b then n + 2 ^ i else n - 2 ^ i

/-- A block boundary (R615): control words leave, then a replayed block, or the next ready block. tWait is the time the block
waited, in 0.25 ns (R77, R643). -/
def State.blockOut (s : State) (q tWait : Nat) : State :=
  let x := s.port q
  let s := s.setPort q { x with ctl := [] }
  if 0 < x.again then
    match x.replay[x.replay.length - x.again]? with
    | some b =>
      let w := if b.blk.type = 8 then { b.blk with payload := addLat b.blk.payload tWait } else b.blk
      match s.wire w with
      | (some w, s) =>
        (s.setPort q { s.port q with again := x.again - 1, out := some { w with seq := b.blk.seq } }).inc (Addr.fabPortCnt0 q) 63 32 1
      | (none, s) => s
    | none => s
  else if 64 ≤ x.replay.length then s
  else
    let s := s.dropPos q
    match s.nextOut q with
    | none => s
    | some (b, t0) =>
      let b' := if b.type = 8 then { b with payload := addLat b.payload tWait } else b
      match s.wire b' with
      | (none, s) => s
      | (some w, s) =>
        let x := s.port q
        let keep := { b' with seq := x.txSeq }
        let v := bufOf b
        let turn := if v = 2 then x.turn else putBit (putBit x.turn 0 (v == 0)) (1 + v) (b.src != s.fabId)
        let s := s.setPort q { x with
          tx := x.tx.erase (b, t0), txSeq := (x.txSeq + 1) % 65536, replay := x.replay ++ [⟨keep, 0⟩],
          progressAt := if x.replay.isEmpty then s.time else x.progressAt,
          credits := x.credits.set v (x.credits.getD v 0 - 1), turn := turn, out := some { w with seq := x.txSeq } }
        s.inc (Addr.fabPortCnt0 q) 63 32 1

/-- Meaning of BLOCK_SEND. -/
def execBlockSend (q tWait : Nat) (s : State) : Host.Outcome State Fault Refusal :=
  if q < 4 then .next (if s.portUp q then s.blockOut q tWait else s) else .fault .noSuchUnit

/-! ## Training (R608 to R613) -/

/-- A write of FAB_PORTq_CFG: EN cleared stops the port, EN set makes it wait for its partner. -/
def State.portCfgWrite (s : State) (q : Nat) (new : W64) : State :=
  let st := s.portState q
  let s := s.wr (Addr.fabPortCfg q) new
  if st = 5 then s
  else if !bit new 0 then s.setPortState q 0
  else if st = 0 then s.setPortState q 4 else s

/-- Meaning of PORT_TRAINING_START: the partner transmits and EN is set (R611). -/
def execPortTrainingStart (q : Nat) (s : State) : Host.Outcome State Fault Refusal :=
  if q < 4 then
    .next (if s.clk (11 + q) ∧ s.rb (Addr.fabPortCfg q) 0 ∧ s.portState q ≠ 5 then
      let p := s.rf (Addr.fabPortCfg q) 5 3
      (s.setPort q { s.port q with esc := false, trainAt := s.time, eq := [⟨p, 0, 0⟩, ⟨p, 0, 0⟩] }).setPortState q 1
    else s)
  else .fault .noSuchUnit

/-- The neighbour expected in the direction of port q (R612). -/
def State.neighbour (s : State) (q : Nat) : Nat :=
  let (x, y, w, h) := (devX s.fabId, devY s.fabId, s.fabW, s.fabH)
  match s.portDir q with
  | 1 => (x + 1) % w + 20 * y
  | 2 => (x + w - 1) % w + 20 * y
  | 3 => x + 20 * ((y + 1) % h)
  | _ => x + 20 * ((y + h - 1) % h)

/-- The partner passes the check of R612. -/
def State.partnerOk (s : State) (q nid nport w h : Nat) (loop : Bool) : Bool :=
  if s.portDir q = 0 then s.rb (Addr.fabPortCfg q) 2 && loop && nid == s.fabId && nport != q
  else nid == s.neighbour q && w == s.fabW && h == s.fabH

/-- STATE of a port with its lanes. -/
def State.goUp (s : State) (q : Nat) : State := s.setPortState q (if (s.lanesIn q).length = 2 then 2 else 3)

/-- Meaning of TRAINING_COMPLETE (R612, Table 14.5): SEQ starts at 0, the receive credits are advertised; blocks that the
partner never acknowledged are sent again. -/
def execTrainingComplete (q nid nport w h : Nat) (loop : Bool) (rtt res : Nat) (s : State) : Host.Outcome State Fault Refusal :=
  if q < 4 then
    .next (if s.clk (11 + q) ∧ s.portState q = 1 ∧ !(s.port q).esc then
      if s.partnerOk q nid nport w h loop then
        let x := s.port q
        let s := s.setPort q { x with
          txSeq := 0, rxSeq := 0, replay := [], tx := (x.replay.map fun b => (b.blk, s.time)) ++ x.tx, nakSent := false, unacked := 0,
          credits := [0, 0, 0], ctl := [(2, 8), (2, 8), (2, 24), (2, 24), (2, 36)], again := 0, fails := 0, progressAt := s.time }
        (((s.wf (Addr.fabPortStat q) 48 40 nid).wf (Addr.fabPortStat q) 54 52 nport).setLatency q rtt res).goUp q
      else
        let s := (s.wb (Addr.fabPortStat q) 7 true).setPortState q 4
        s.record (report 12 .config (2 * q) 0)
    else s)
  else .fault .noSuchUnit

/-- Meaning of TRAINING_TIMEOUT: 10 ms without UP; the third failure in a row retires the port (R610, R611). -/
def execTrainingTimeout (q : Nat) (s : State) : Host.Outcome State Fault Refusal :=
  if q < 4 then
    .next (if s.clk (11 + q) ∧ s.portState q = 1 ∧ (s.port q).trainAt + usTicks 10000 ≤ s.time then
      let n := (s.port q).fails + 1
      let s := s.setPort q { s.port q with fails := n, esc := false, trainAt := s.time }
      if n < 3 then s else (s.retire 12 (2 * q)).retire 12 (2 * q + 1)
    else s)
  else .fault .noSuchUnit

/-- The lane that a fast retrain retires (R608). -/
def State.worseLane (s : State) (q : Nat) (bit0 bit1 : Bool) : Nat :=
  match s.lanesIn q with
  | [l] => l
  | _ =>
    if bit0 && !bit1 then 0 else if bit1 && !bit0 then 1
    else if s.rf (Addr.fabPortLane q) 63 48 < s.rf (Addr.fabPortLane q) 47 32 then 0 else 1

/-- Meaning of FAST_RETRAIN_COMPLETE: a declared port loses a lane, then replays from its oldest block with retry count 0
(R607, R608). -/
def execFastRetrainComplete (q : Nat) (bit0 bit1 : Bool) (rtt res : Nat) (s : State) : Host.Outcome State Fault Refusal :=
  if q < 4 then
    .next (if s.clk (11 + q) ∧ s.portState q = 1 ∧ (s.port q).esc then
      let x := s.port q
      let s := s.setPort q { x with esc := false, declared := false, fails := 0, replay := x.replay.map fun (b : Sent) => { b with tries := 0 },
                                    again := x.replay.length, ctl := [(3, 0)], progressAt := s.time }
      let s := if x.declared then s.retire 12 (2 * q + s.worseLane q bit0 bit1) else s
      if s.portState q = 5 then s else (s.setLatency q rtt res).goUp q
    else s)
  else .fault .noSuchUnit

/-- A coefficient request is applied (Table 14.3, EQ). -/
def EqTap.apply (t : EqTap) (req : Nat) : EqTap :=
  match req % 16 with
  | 1 => { t with pre := t.pre + 1 }
  | 2 => { t with pre := t.pre - 1 }
  | 3 => { t with post := t.post + 1 }
  | 4 => { t with post := t.post - 1 }
  | 5 => ⟨req / 16 % 16, 0, 0⟩
  | _ => t

/-- Meaning of EQ_REQUEST (R613). -/
def execEqRequest (q lane req : Nat) (s : State) : Host.Outcome State Fault Refusal :=
  if q < 4 ∧ lane < 2 then
    .next (if s.clk (11 + q) ∧ (s.portState q = 1 ∨ s.portUp q) then
      let x := s.port q
      s.setPort q { x with eq := x.eq.set lane ((x.eq.getD lane ⟨0, 0, 0⟩).apply req) }
    else s)
  else .fault .noSuchUnit

/-! ## Position packets (R71 to R78, R641, R642) -/

/-- Put a position packet into the queue of the port of a direction (R621). -/
def State.sendPos (s : State) (dom d : Nat) (pay : List Byte) : State :=
  s.queueAt (s.dirPort d) { mkBlk 8 0x1FF 0 true pay with dom := dom, src := s.fabId }

/-- The part of a packet for axis n (Table 2.2). -/
def State.posAxis (s : State) (n : Nat) : List Byte :=
  bytesOf 6 (s.cnt n).toNat ++
  bytesOf 2 ((s.velValid n).toNat + 2 * (s.axis n).cerr.toNat + 4 * (s.rb (Addr.ptbAxStat n) 1).toNat + 8 * (s.axLost n).toNat) ++
  bytesOf 4 (BitVec.ofInt 32 (s.vel n)).toNat

/-- Meaning of BCAST_INTERVAL (R71 to R74): the owner samples the selected counters and sends one packet; without a domain to send it under
(PART 0, or 5 to 7, which count as 0; log entry 142) there is none. -/
def execBcastInterval (s : State) : Host.Outcome State Fault Refusal :=
  let c := s.rd Addr.ptbBcastCfg
  let axes := (List.range 4).filter fun n => bit c n
  let dom := s.domOf (ownerOf (fld c 18 16))
  .next (if s.ptbOn ∧ axes ≠ [] ∧ s.bcastAt + s.bcastIntv ≤ s.time then
    if dom = 0 then { s with bcastAt := s.time }
    else
      let pay := bytesOf 2 s.fabId ++ bytesOf 2 s.bcastSeq ++ bytesOf 1 (fld c 3 0) ++ zeros 7 ++ axes.flatMap s.posAxis
      let s := { s with bcastSeq := (s.bcastSeq + 1) % 65536, bcastAt := s.time }
      let s := axes.foldl (fun s n => s.setAxis n { s.axis n with cerr := false }) s
      [1, 2, 3, 4].foldl (fun s d => s.sendPos dom d pay) s
  else s)

/-- The opposite of a direction. -/
def backDir (d : Nat) : Nat := match d with | 1 => 2 | 2 => 1 | 3 => 4 | 4 => 3 | _ => 0

/-- The directions a packet that travelled in direction d is forwarded in (R73); hops counts this hop. -/
def State.posNext (s : State) (d hops owner : Nat) : List Nat :=
  let row := [3, 4]
  let (y, oy, h) := (devY s.fabId, devY owner, s.fabH)
  match d with
  | 1 => (if hops < 10 then [1] else []) ++ row
  | 2 => (if hops < 9 then [2] else []) ++ row
  | 3 => if (y + h - oy % h) % h < 10 then [3] else []
  | 4 => if (oy + h - y % h) % h < 9 then [4] else []
  | _ => []

/-- The axes of a packet are applied to the followers (R78): t is the time from arrival to application. -/
def State.applyPos (s : State) (q : Nat) (pay : List Byte) (t : Nat) : State :=
  let axes := (List.range 4).filter fun n => (recNat pay 4 1).testBit n
  let l := recNat pay 8 4 + s.rf (Addr.ptbLinkoff q) 23 0 + t
  (List.range axes.length).foldl (fun s i =>
    let o := 12 + 12 * i
    s.applyPacket (axes.getD i 0) (BitVec.ofNat 48 (recNat pay o 6)) (BitVec.ofNat 32 (recNat pay (o + 8) 4)).toInt l) s

/-- A received packet: opened under its domain's key, forwarded with its latency raised, applied once (R73, R642). A later copy is one whose
source and number are among those of the 64 packets last used (log entry 142). -/
def State.posIn (s : State) (q : Nat) (b : Block) (tApply tRes : Nat) : State :=
  match s.domPart b.dom with
  | none => s.sat Addr.fabDrop 31 0 1
  | some p => match s.open_ p b with
    | none => s.sat (Addr.fabPartStat p) 47 32 1
    | some pay =>
      let name := (recNat pay 0 2, recNat pay 2 2)
      if s.posSeqs.contains name then s
      else
        let s := { s with posSeqs := (name :: s.posSeqs).take 64 }
        let hops := recNat pay 5 1 + 1
        let fwd := addLat (patch pay 5 (bytesOf 1 hops)) (s.rf (Addr.ptbLinkoff q) 23 0 + tRes)
        let s := (s.posNext (backDir (s.portDir q)) hops (recNat pay 0 2)).foldl (fun s d => s.sendPos b.dom d fwd) s
        if s.ptbOn then s.applyPos q pay tApply else s

/-- Meaning of POS_PACKET_RECEIVE: the block at the head of port q's receive buffer (log entry 8: tApply and tRes, in 0.25 ns,
are the times to application and to the output ports). -/
def execPosPacketReceive (q tApply tRes : Nat) (s : State) : Host.Outcome State Fault Refusal :=
  if q < 4 then
    .next (match (s.port q).rx with
      | (b, _) :: rest =>
        if s.clk (11 + q) ∧ b.type = 8 then
          ((s.setPort q { s.port q with rx := rest }).credit q b).posIn q b tApply tRes
        else s
      | [] => s)
  else .fault .noSuchUnit

end Sys2Proof.Machine
end

