-- ==== Sys2Proof/Machine/Elem.lean ====
section
/-! DEFINITION. Element functions of the engines: sums and products within the bounds of Table 8.4, the transcendental functions,
the activations of Table 7.8.
The device's result is the FP32 pattern it produced where that lies within the bound, the correctly rounded one otherwise (log
entry 16); the exact values of irrational functions are taken as rationals to within a relative 2^-60. -/

namespace Sys2Proof.Machine

open Sys2Proof

/-! ## Irrational functions as rationals -/

/-- Cut a rational to about 96 significant bits. -/
def cutQ (q : Rat) : Rat :=
  if q = 0 then 0
  else
    let st := pow2 (expo (absQ q) - 96)
    ((q / st).floor : Rat) * st

/-- The first terms of the exponential series at x. -/
def expSeries (x : Rat) : Nat → Rat × Rat
  | 0 => (1, 1)
  | n + 1 =>
    let (sum, term) := expSeries x n
    let t := cutQ (term * x / ((n + 1 : Nat) : Rat))
    (sum + t, t)

/-- Square n times, cutting each time. -/
def squares : Nat → Rat → Rat
  | 0, q => q
  | n + 1, q => squares n (cutQ (q * q))

/-- e to a rational power, limited to the range where FP32 neither overflows nor underflows. -/
def expQ (x : Rat) : Rat :=
  let y := max (-300) (min 300 x)
  squares 10 (expSeries (y / 1024) 24).1

/-- A Newton step for the logarithm of x. -/
def logStep (x y : Rat) : Rat :=
  let e := expQ y
  cutQ (y + 2 * (x - e) / (x + e))

/-- The natural logarithm of a positive rational. -/
def logQ (x : Rat) : Rat :=
  let y0 : Rat := (expo x : Rat) * (693147 / 1000000)
  logStep x (logStep x (logStep x (logStep x (logStep x y0))))

/-- The square root of a non-negative rational. -/
def rootQ (q : Rat) : Rat :=
  if q = 0 then 0
  else
    let st := pow2 (expo q / 2 - 70)
    ((q / (st * st)).floor.toNat.sqrt : Rat) * st

/-- tanh of a rational. -/
def tanhQ (x : Rat) : Rat := 1 - 2 / (expQ (2 * max (-50) (min 50 x)) + 1)

/-- The square root of 2/π. -/
def sqrt2pi : Rat := 797884560802865355879892 / 1000000000000000000000000

/-- One unit in the last place of FP32 at a number. -/
def ulp (q : Rat) : Rat := (fpFmt 0).step (absQ q)

/-- A result within n ulp of an exact value. -/
def ulps (exact : Rat) (n : Rat) (bits : Nat) : Val := within (decide (exact < 0)) exact (n * ulp exact) bits

/-! ## Sums -/

/-- The exact sum of two values; a zero with the sign IEEE 754 gives it (R354). -/
def addX (a b : Val) : Val := match exAdd a b with | .inl w => w | .inr (z, q) => if q = 0 then .fin z 0 else valOf q

/-- The exact sum of values: NaN, infinity, or a number; a negative zero where every term is one. -/
def sumX : List Val → Val
  | [] => zeroV
  | [v] => v
  | v :: t => addX v (sumX t)

/-- The sum of magnitudes of the finite values. -/
def sumAbs (l : List Val) : Rat := (l.map fun v => absQ v.toRat).foldl (· + ·) 0

/-- A sum within a bound; special values pass. -/
def sumWithin (l : List Val) (bound : Rat) (bits : Nat) : Val :=
  match sumX l with
  | .fin n m => within (n && m == 0) (Val.fin n m).toRat bound bits
  | v => v

/-- act(ALPHA × Σ terms + extra) before the activation: the matrix-product row of Table 8.4, with kf its factor. -/
def dotWithin (alpha : Val) (terms extra : List Val) (kf : Rat) (bits : Nat) : Val :=
  let scaled := exMul alpha (sumX terms)
  let bound := kf * uRnd * absQ alpha.toRat * sumAbs terms + 2 * uRnd * sumAbs extra
  sumWithin (scaled :: extra) bound bits

/-! ## Functions -/

/-- exp. -/
def fExp (v : Val) (bits : Nat) : Val :=
  match v with
  | .nan _ => qNaN
  | .inf n => if n then zeroV else .inf false
  | .fin n m => ulps (expQ (Val.fin n m).toRat) 2 bits

/-- log; of zero and of a negative number as IEEE 754 gives them (R359, log entry 16). -/
def fLog (v : Val) (bits : Nat) : Val :=
  match v with
  | .nan _ => qNaN
  | .inf n => if n then qNaN else .inf false
  | .fin n m => if m = 0 then .inf true else if n then qNaN else ulps (logQ m) 2 bits

/-- 1 / x. -/
def fRecip (v : Val) (bits : Nat) : Val :=
  match v with
  | .fin n m => if m = 0 then .inf n else ulps (1 / (Val.fin n m).toRat) 1 bits
  | v => fDiv (valOf 1) v

/-- 1 / √x. -/
def fRsqrt (v : Val) (bits : Nat) : Val :=
  match v with
  | .fin n m => if m = 0 then .inf n else if n then qNaN else ulps (1 / rootQ m) 1 bits
  | v => fDiv (valOf 1) (fSqrt v)

/-- A smooth activation: exact at a rational, within 4 ulp or 2^-24; its limits at the infinities. -/
def smooth (f : Rat → Rat) (lo hi : Val) (v : Val) (bits : Nat) : Val :=
  match v with
  | .nan _ => qNaN
  | .inf n => if n then lo else hi
  | .fin n m =>
    let y := f (Val.fin n m).toRat
    within n y (max (4 * ulp y) (pow2 (-24))) bits

/-- Table 7.8: an activation code on a value, with the limits of a clamp. -/
def act (code : Nat) (clo chi : Val) (v : Val) (bits : Nat) : Val :=
  match code with
  | 0 => v
  | 1 => fMax v zeroV
  | 2 => smooth (fun x => x / 2 * (1 + tanhQ (sqrt2pi * (x + 44715 / 1000000 * x * x * x)))) zeroV (.inf false) v bits
  | 3 => smooth (fun x => x / (1 + expQ (-x))) zeroV (.inf false) v bits
  | 4 => smooth (fun x => 1 / (1 + expQ (-x))) zeroV (valOf 1) v bits
  | 5 => smooth tanhQ (valOf (-1)) (valOf 1) v bits
  | _ => fMin (fMax v clo) chi

/-- VX.EW1 (Table 7.11). -/
def ew1 (func : Nat) (p0 p1 : Val) (v : Val) (bits : Nat) : Val :=
  match func with
  | 0 => v
  | 1 => fAbs v
  | 2 => fNeg v
  | 3 => fExp v bits
  | 4 => fLog v bits
  | 5 => fSqrt v
  | 6 => fRsqrt v bits
  | 7 => fRecip v bits
  | 8 => fFma v p0 p1
  | f => act (f - 16) p0 p1 v bits

/-- VX.EW2 (Table 7.11). -/
def ew2 (func : Nat) (a b : Val) : Val :=
  match func with
  | 0 => fAdd a b
  | 1 => fSub a b
  | 2 => fMul a b
  | 3 => fDiv a b
  | 4 => fMax a b
  | 5 => fMin a b
  | 6 => if fGt a b then valOf 1 else zeroV
  | _ => fAbs (fSub a b)

/-- The largest magnitude; a NaN gives NaN (R359). -/
def amaxV (l : List Val) : Val := l.foldl (fun m v => fMax m (fAbs v)) zeroV

/-- VX.RED over a list (Table 7.11). -/
def redV (func : Nat) (l : List Val) (bits : Nat) : Val :=
  let n : Rat := (l.length : Nat)
  match func with
  | 0 => sumWithin l ((n + 1) * uRnd * sumAbs l) bits
  | 1 => sumWithin (l.map fun v => exMul v (valOf (1 / n))) ((n + 1) * uRnd * sumAbs l) bits
  | 2 => match l with | [] => zeroV | h :: t => t.foldl fMax h
  | 3 => match l with | [] => zeroV | h :: t => t.foldl fMin h
  | 4 =>
    let sq := l.map fun v => exMul v v
    sumWithin sq ((n + 1) * uRnd * sumAbs sq) bits
  | _ => amaxV l

/-- The maximum of rationals, d for none. -/
def maxQ (d : Rat) (l : List Rat) : Rat := l.foldl max d

/-- softmax of a row of exact values; bits gives the device's pattern of each element. A NaN in the row, or a row of −∞ alone, makes every
element NaN (R359); for a row with +∞ no rule states the result: free values (log entry 17). -/
def softmaxRow (z : List Val) (bits : Nat → Nat) : List Val :=
  let fin := z.filter Val.isFin
  let nan := z.any Val.isNan || z.all (· == .inf true)
  let open_ := z.any (· == .inf false)
  let top := maxQ ((fin.headD zeroV).toRat) (fin.map Val.toRat)
  let e := z.map fun v => if v.isFin then expQ (v.toRat - top) else 0
  let sum := e.foldl (· + ·) 0
  let n : Rat := (z.length : Nat)
  (List.range z.length).map fun i =>
    if nan then qNaN
    else if open_ then openV (bits i)
    else
      let y := e.getD i 0 / sum
      within false y ((2 * n + 16) * uRnd * y) (bits i)

/-- Normalise a row along dim 0 (VX.NORM): rms or layer, times w, plus β. A NaN in the row or in EPS makes every element NaN, one in w or β
its element (R359); for other values that are not finite, or a variance with EPS not above zero, no rule states the result (log entry
17). -/
def normRow (rms : Bool) (eps : Val) (x w β : List Val) (bits : Nat → Nat) : List Val :=
  let nan := eps.isNan || x.any Val.isNan
  let open_ := !eps.isFin || (x ++ w ++ β).any fun v => !v.isFin
  let n : Rat := (x.length : Nat)
  let q := x.map Val.toRat
  let mean := if rms then 0 else q.foldl (· + ·) 0 / n
  let var := (q.map fun a => (a - mean) * (a - mean)).foldl (· + ·) 0 / n
  let den := var + eps.toRat
  (List.range x.length).map fun i =>
    if nan || (w.getD i (valOf 1)).isNan || (β.getD i zeroV).isNan then qNaN
    else if open_ ∨ den ≤ 0 then openV (bits i)
    else
      let y := (q.getD i 0 - mean) / rootQ den * (w.getD i (valOf 1)).toRat + (β.getD i zeroV).toRat
      let z := (x.getD i zeroV).neg != (w.getD i (valOf 1)).neg
      within (rms && z && (β.isEmpty || (β.getD i zeroV).neg)) y ((2 * n + 16) * uRnd * absQ y) (bits i)

/-- The parity of the bits that two numbers share. -/
def odd (i j : Nat) : Bool := ((List.range 7).filter fun k => i.testBit k && j.testBit k).length % 2 == 1

/-- A row in blocks of n along dim 0, each turned by the orthonormal Hadamard matrix (R372). -/
def hadRow (n : Nat) (x : List Val) (bits : Nat → Nat) : List Val :=
  (List.range x.length).map fun k =>
    let g := (x.drop (k / n * n)).take n
    let terms := (List.range g.length).map fun j => let v := g.getD j zeroV; if odd (k % n) j then fNeg v else v
    let r := rootQ ((n : Nat) : Rat)
    let norm := rootQ ((g.map fun v => v.toRat * v.toRat).foldl (· + ·) 0)
    let lg : Rat := if n = 32 then 5 else 7
    match sumX terms with
    | .fin s m => within (s && m == 0) ((Val.fin s m).toRat / r) ((lg + 2) * uRnd * norm) (bits k)
    | v => v

end Sys2Proof.Machine
end

