-- ==== Sys2Proof/Machine/HealthCmds.lean ====
section
/-! DEFINITION. The health ledger's commands (chapter 15): windows, suspicion, thresholds, retirement, the supervisor watchdog
and restarts on request. -/

namespace Sys2Proof.Machine

open Sys2Proof

/-- Units of a kind (Table 15.2). -/
def kindUnits : Nat → Nat
  | 1 => 48 | 2 => 12 | 3 => 6 | 4 => 6 | 5 => 6 | 6 => 24 | 7 => 2 | 8 => 6 | 9 => 1 | 10 => 2560 | 11 => 26 | 12 => 8 | 13 => 36 | _ => 0

/-- Meaning of ERROR_WINDOW_END: a window of OPSW operations ends, the next begins with no error (R672). -/
def execErrorWindowEnd (k u : Nat) (s : State) : Host.Outcome State Fault Refusal :=
  if u < kindUnits k then .next (s.rollWindow k u) else .fault .noSuchUnit

/-- Meaning of SUSPECT_EXPIRY: a unit whose last exhaustion lies XWIN back is suspect no more (R673). -/
def execSuspectExpiry (k u : Nat) (s : State) : Host.Outcome State Fault Refusal :=
  if u < kindUnits k then .next (s.susSync k u) else .fault .noSuchUnit

/-- A write of HLT_KINDk_THR restarts every window of the kind and clears its exhaustions (R672). -/
def State.thrWrite (s : State) (k : Nat) (new : W64) : State :=
  let s := s.wr (Addr.hltKindThr k) new
  ((s.health.filter fun e => e.1 / 4096 == k).map fun e => e.1 % 4096).foldl (fun s u => (s.setHu k u unit0).susSync k u) s

/-- A write of HLT_KINDk_RET: each unit whose bit is 1 is retired (R676). -/
def State.retWrite (s : State) (k : Nat) (v : W64) : State :=
  ((List.range (min 64 (kindUnits k))).filter fun u => bit v u).foldl (fun s u => s.retire k u) s

/-- Meaning of CHECKPOINT_DUE (R692). -/
def execCheckpointDue (s : State) : Host.Outcome State Fault Refusal :=
  let n := s.rf Addr.hltCkptint 15 0
  .next (if s.ptbOn ∧ n ≠ 0 ∧ s.sup.ckpt + sTicks n ≤ s.time then
    ({ s with sup := { s.sup with ckpt := s.time } }).supEvent else s)

/-- The pair executes: its program, or the boot ROM. -/
def State.pairUp (s : State) : Bool := s.clk 0 && (s.sup.st == .run || s.sup.st == .rom)

/-- Meaning of WATCHDOG_EXPIRY (R693, R695). -/
def execWatchdogExpiry (s : State) : Host.Outcome State Fault Refusal :=
  let w := s.rd Addr.hltWdog
  .next (if s.pairUp && bit w 32 && decide (s.sup.kick + msTicks (max 1 (fld w 15 0)) ≤ s.time) then
      let s := s.record (report 9 .watchdog 0 0)
      ({ s with sup := { s.sup with kick := s.time } }).stopPair 3 0x101
    else s)

/-- A write of HLT_WDKICK (R693). -/
def State.wdKick (s : State) : State := { s with sup := { s.sup with kick := s.time } }

/-- A write of 1 to HLT_SCCTL.RESTART (R694, R695). -/
def State.scRestart (s : State) (v : W64) : State := if bit v 0 && s.pairUp then s.stopPair 4 0x102 else s

end Sys2Proof.Machine
end

