-- ==== Sys2Proof/Machine/MemTiers.lean ====
section
/-! DEFINITION. The memory tiers (chapter 13): the SRAM clear, scrub generations and the scrub engine, migrations, rotation and
retraining of channels, unpinning of tier directory entries. -/

namespace Sys2Proof.Machine

open Sys2Proof

/-! ## The check bits that memory holds (R546, R554, R555)

State keeps of a line's or burst's check only whether it is the right one for what stands there (LineMeta.bad); the bits follow. -/

/-- CRC-16 with polynomial 0x1021 from 0xFFFF, most significant bit first (R546). -/
def crc16 (l : List Byte) : BitVec 16 :=
  l.foldl (fun h b => (List.range 8).foldl (fun h i =>
    if h.getLsbD 15 != b.getLsbD (7 - i) then (h <<< 1) ^^^ 0x1021 else h <<< 1) h) 0xFFFF

/-- The check that the on-chip line at an address holds; the complement of the right one where it fails (R546, R550). -/
def State.lineCheck (s : State) (la : Nat) : BitVec 16 :=
  let c := crc16 (s.bytes la 64 ++ bytesOf 6 (la / 64))
  if (s.line la).bad then ~~~c else c

/-- The address word of a burst at a channel's offset (R555). -/
def burstWord (ch o tag gen : Nat) : Nat := ch + o / 64 * 2 ^ 5 + tag * 2 ^ 41 + gen * 2 ^ 45

/-- The 128 check bits of the burst at a memory key whose CRC passes (Table 13.2); a poisoned one has GEN 0xFFF (R557). -/
def State.burstCheck (s : State) (k : Nat) : BitVec 128 :=
  let m := s.line k
  let gen := if m.poison then 0xFFF else m.gen
  let data := s.bytes (k / 64 * 64) 64
  let lpar := (List.range 16).foldl (fun (x : BitVec 32) b => x ^^^ BitVec.ofNat 32 (recNat data (4 * b) 4)) 0
  let word := burstWord (chanOf k) ((k - 0x1000000000000) % 0x10000000000) m.tag gen
  BitVec.ofNat 128 (gen * 2 ^ 100 + m.tag * 2 ^ 96 + lpar.toNat * 2 ^ 64 + (crc64 (BitVec.allOnes 64) (data ++ bytesOf 8 word)).toNat)

/-! ## SRAM clear (R553) -/

/-- A write of MEM_SRAMCLR: GO clears the valid bit and the tag of every line of the range; GO reads 1 until SRAM_CLEAR_DONE. -/
def State.sramClear (s : State) (new : W64) : State :=
  let go := s.rb Addr.memSramclr 63
  let s := s.wr Addr.memSramclr (setBit new 63 (go || bit new 63))
  let lo := fld new 41 0
  let hi := lo + fld new 62 42
  if bit new 63 then { s with lines := Sparse.keep (fun k => !(decide (lo ≤ k) && decide (k < hi) && onChip (k * 64))) s.lines } else s

/-- Meaning of SRAM_CLEAR_DONE. -/
def execSramClearDone (s : State) : Host.Outcome State Fault Refusal :=
  .next (if s.meshOn then s.wb Addr.memSramclr 63 false else s)

/-! ## Scrub generations (R564 to R571) -/

/-- The generation after one (R566). -/
def nextScrubGen (g : Nat) : Nat := if g + 1 > 0xFFE then 1 else g + 1

/-- Show the region in erase scrub. -/
def State.scrubSync (s : State) : State := s.wf Addr.memScrubStat 40 32 (s.scrubQ.headD 0)

/-- Advance one region's generation and queue its erase scrub; an advance that would meet LOW waits (R566, R568). -/
def State.advanceRegion (s : State) (r : Nat) : State :=
  let g := nextScrubGen (s.gen r)
  if g = s.rf (Addr.memGen r) 27 16 then { s with pendAdv := s.pendAdv ++ [r] }
  else
    let s := s.wf (Addr.memGen r) 11 0 g
    ({ s with scrubQ := if s.scrubQ.contains r then s.scrubQ else s.scrubQ ++ [r] }).scrubSync

/-- A write of MEM_SCRUB_CMD (R566). -/
def State.scrubCmd (s : State) (v : W64) : State :=
  if bit v 40 then
    ((List.range 384).filter fun r => decide (fld v 8 0 ≤ r) && decide (r ≤ fld v 24 16)).foldl (fun s r => s.advanceRegion r) s
  else s

/-- The DDR5 address that a channel's memory key holds: of the slot hosted there, or being copied there. -/
def State.addrOfKey (s : State) (k : Nat) : Option Nat :=
  let ch := chanOf k
  let o := (k - 0x1000000000000) % 0x10000000000
  let at_ := fun (n b : Nat) => if b ≤ o then some (ddrBase + (o - b) / 1024 * 24576 + n * 1024 + (o - b) % 1024) else none
  if k < 0x1000000000000 then none
  else
    let half := s.rb Addr.memCfg 1
    let own := (List.range 24).find? fun n =>
      s.rf (Addr.memSlot n) 4 0 == ch && (!half || s.rb (Addr.memSlot n) 5 == decide (chanCap / 2 ≤ o))
    match own, s.mig with
    | some n, _ => at_ n (if s.rb (Addr.memSlot n) 5 then chanCap / 2 else 0)
    | none, some m => if m.dst = ch then at_ m.slot (if m.upper then chanCap / 2 else 0) else none
    | none, none => none

/-- A burst that an erase scrub of region r rewrites: its CRC fails or its GEN is not the current one (R567). -/
def State.staleKey (s : State) (r k : Nat) : Bool :=
  match s.addrOfKey (k / 64 * 64) with
  | some a => let m := s.line k; scrubRegion a == r && (m.bad || m.poison || m.gen != s.gen r)
  | none => false

/-- Zeros under the current GEN and TAG 0 are written to a burst. -/
def State.eraseBurst (s : State) (la : Nat) : State :=
  (s.wkeys la).foldl (fun s k => (s.setBytes k (zeros 64)).setLine k ⟨true, 0, s.gen (scrubRegion la), false, false⟩) s

/-- Bursts of a region of 256 MiB. -/
def regionBursts : Nat := 4194304

/-- Count bursts of migration and scrub on a channel. -/
def State.moveBursts (s : State) (ch n : Nat) : State := (s.inc (Addr.memChCnt1 ch) 63 32 n).countOps 11 ch n

/-- A burst that a scrub or a migration reads is declared failed when its CRC still fails after its retries; a poisoned one is
declared failed at once (R556, R557). -/
def State.scrubRead (s : State) (la : Nat) (fail : Bool) : State :=
  let k := s.rkey la
  let s := s.moveBursts (chanOf k) 1
  if (s.line k).poison then s.burstFail la false
  else if (s.line k).bad || fail then (s.burstRetry (chanOf k) 3).burstFail la true
  else s

/-- ERASE_SCRUB_BURST: one burst of the region in erase scrub (R567). -/
def State.eraseScrub (s : State) (a : Nat) (crcFail : Bool) : State :=
  let la := a / 64 * 64
  let k := s.rkey la
  let m := s.line k
  let r := scrubRegion la
  if !(s.memAddr la && s.ddrUp la && s.scrubQ.head? == some r) then s
  else
    let s := s.moveBursts (chanOf k) 1
    let s := if !m.poison && (m.bad || crcFail) then (s.burstRetry (chanOf k) 3).burstFail la true else s
    if m.bad || m.poison || crcFail || m.gen != s.gen r then
      ((s.eraseBurst la).moveBursts (chanOf k) 1).inc Addr.memScrubStat 31 0 1
    else s

/-- Meaning of ERASE_SCRUB_BURST: a DDR5 burst. -/
def execEraseScrubBurst (a : Nat) (crcFail : Bool) (s : State) : Host.Outcome State Fault Refusal :=
  if region a = .ddr then .next (s.eraseScrub a crcFail) else .fault .noSuchUnit

/-- The erase scrub of region r ends: every burst still stale has been rewritten, LOW becomes GEN, and the advances that waited
are carried out (R567, R568). A rewritten burst reads zero under any generation, so it is taken off the lists. -/
def State.scrubEnd (s : State) (r : Nat) : State :=
  let cur := s.gen r
  let mine := fun k => match s.addrOfKey (k * 64) with | some a => scrubRegion a == r | none => false
  let fresh := (s.lines.filter fun e => mine e.1 && !s.staleKey r (e.1 * 64)).length
  let old := (s.lines.filter fun e => mine e.1 && s.staleKey r (e.1 * 64)).length
  let n := if cur = 1 then old else regionBursts - fresh
  let s := { s with
    mem := Sparse.keep (fun k => !s.staleKey r k) s.mem, lines := Sparse.keep (fun k => !s.staleKey r (k * 64)) s.lines }
  let s := (s.inc Addr.memScrubStat 31 0 n).wf (Addr.memGen r) 27 16 cur
  let waits := s.pendAdv.filter (· == r)
  let s := ({ s with scrubQ := s.scrubQ.erase r, pendAdv := s.pendAdv.filter (· != r) }).scrubSync
  waits.foldl (fun s r => s.advanceRegion r) s

/-- Meaning of ERASE_SCRUB_COMPLETE. -/
def execEraseScrubComplete (r : Nat) (s : State) : Host.Outcome State Fault Refusal :=
  if r < 384 then .next (if s.rb Addr.memStat 0 && s.scrubQ.head? == some r then s.scrubEnd r else s) else .fault .noSuchUnit

/-- Meaning of PATROL_SCRUB: one burst is read, and counted and recorded when it is declared failed (R570). -/
def execPatrolScrub (a : Nat) (fail : Bool) (s : State) : Host.Outcome State Fault Refusal :=
  let la := a / 64 * 64
  if region a = .ddr then
    .next (if s.rf Addr.memScrubCfg 15 8 ≠ 0 ∧ s.memAddr la ∧ s.ddrUp la then s.scrubRead la fail else s)
  else .fault .noSuchUnit

/-! ## Channels -/

/-- Meaning of CHANNEL_INIT_COMPLETE: the channel has been written whole; it takes the role restored for it (R569, Table 13.6). -/
def execChannelInitComplete (ch : Nat) (s : State) : Host.Outcome State Fault Refusal :=
  if ch < 26 then
    .next (if s.pmu.boot = 3 ∧ s.role ch = 6 then
      let s := s.setRole ch (s.rf (Addr.memChCfg ch) 2 0)
      s.wb Addr.memStat 0 ((List.range 26).all fun c => s.role c != 6)
    else s)
  else .fault .noSuchUnit

/-- Copy units of 4 KiB in a slot. -/
def State.slotUnits (s : State) : Nat := (if s.rb Addr.memCfg 1 then chanCap / 2 else chanCap) / 4096

/-- The in-service channel that hosts a slot and was trained least recently, the lowest of equals (R576). -/
def State.oldest (s : State) : Option Nat :=
  ((List.range 26).filter fun c => s.role c == 0 && !(s.slotsOn c).isEmpty).foldl (fun (b : Option Nat) c =>
    match b with
    | some x => if Sparse.get (fun _ => 0) s.trained c < Sparse.get (fun _ => 0) s.trained x then some c else b
    | none => some c) none

/-- Meaning of ROTATION_START: due PERIOD seconds after the one before (R576). -/
def execRotationStart (s : State) : Host.Outcome State Fault Refusal :=
  .next (if s.rotAt + sTicks (max 1 (s.rf Addr.memRotCfg 47 32)) ≤ s.time ∧ s.rb Addr.memRotCfg 0 ∧ s.rb Addr.memStat 0 ∧
      !s.rb Addr.pmuStat 1 ∧ s.mig.isNone then
    match (List.range 26).find? fun c => s.role c == 1, s.oldest with
    | some sp, some p => match s.slotsOn p with | n :: _ => { s.startMig n p sp false false with rotAt := s.time } | [] => s
    | _, _ => s
  else s)

/-- Copy burst i of the unit at the copy pointer (R573). -/
def State.copyBurst (s : State) (m : Mig) (bad : List Nat) (i : Nat) : State :=
  let o := m.cp * 4096 + 64 * i
  let a := ddrBase + o / 1024 * 24576 + m.slot * 1024 + o % 1024
  let sk := s.slotKey m.slot o
  let dk := m.key o
  let l := s.line sk
  let s := (s.scrubRead a (bad.contains i)).moveBursts m.dst 1
  let lost := l.poison || l.bad || bad.contains i
  (s.setBytes dk (s.bytes sk 64)).setLine dk ⟨true, l.tag, l.gen, false, lost⟩

/-- Meaning of MIGRATION_UNIT_COPY: the 4 KiB unit at CP is copied; bad lists the bursts of the unit that failed on the source
(R572, R573). -/
def execMigrationUnitCopy (bad : List Nat) (s : State) : Host.Outcome State Fault Refusal :=
  .next (match s.mig with
    | some m =>
      if m.cp < s.slotUnits ∧ !s.rb Addr.pmuStat 1 then
        let s := (List.range 64).foldl (fun s i => s.copyBurst m bad i) s
        ({ s with mig := s.mig.map fun (q : Mig) => if q.slot = m.slot then { q with cp := m.cp + 1 } else q }).rotSync
      else s
    | none => s)

/-- Channels of the ledger's retired units that still host slots: their retirements go on, or find that there is no target (R577). -/
def State.evacuateNext (s : State) : State :=
  if s.mig.isSome then s
  else match (List.range 26).find? fun c =>
      s.rb (Addr.hltKindRet 11) c && s.role c != 5 && !(s.slotsOn c).isEmpty && ((s.target c).isSome || !s.rb Addr.memStat 2) with
    | some f => s.evacuate f
    | none => s

/-- The migration of a slot is complete: the slot moves to the target, the source retrains or is retired, or its other slot is
moved (R574, R577, R579). -/
def State.migDone (s : State) (m : Mig) : State :=
  let s := (s.wf (Addr.memSlot m.slot) 4 0 m.dst).wb (Addr.memSlot m.slot) 5 m.upper
  let s := ({ s with mig := none }).setRole m.dst 0
  let s := match s.slotsOn m.src with
    | [] => s.setRole m.src (if m.retire then 5 else 4)
    | n :: _ =>
      let s := s.setRole m.src 0
      match s.target m.src with
      | some (c, u) => s.startMig n m.src c u m.retire
      | none => s
  (s.rotSync).evacuateNext

/-- Meaning of MIGRATION_COMPLETE: CP has reached the end of the slot. -/
def execMigrationComplete (s : State) : Host.Outcome State Fault Refusal :=
  .next (match s.mig with
    | some m => if s.slotUnits ≤ m.cp then s.migDone m else s
    | none => s)

/-- Meaning of RETRAIN_COMPLETE: the channel becomes a spare (R576). -/
def execRetrainComplete (ch : Nat) (s : State) : Host.Outcome State Fault Refusal :=
  if ch < 26 then
    .next (if s.role ch = 4 then
      let s := s.setRole ch 1
      { s with trained := Sparse.set (fun _ => 0) s.trained ch s.time }
    else s)
  else .fault .noSuchUnit

/-- Seconds since the last training of a channel (MEM_CHc_STAT). -/
def State.sinceTrained (s : State) (ch : Nat) : Nat := (s.time - Sparse.get (fun _ => 0) s.trained ch) / sTicks 1

/-! ## Tier directory -/

/-- A write of MEM_TDUNPIN: the entry's pin count falls; a count of zero sets UNPINERR (R590). The address is the writer's. -/
def State.unpin (s : State) (p : Nat) (a : Nat) : State :=
  match s.devAddr p .write a 64 with
  | some d =>
    if decide (region d = .global) && decide (d % 64 = 0) then
      let n := s.peekNat (d + 16) 2
      if n = 0 then s.wb Addr.memStat 3 true else s.poke (d + 16) (bytesOf 2 (n - 1))
    else s
  | none => s

end Sys2Proof.Machine
end

