-- ==== Sys2Proof/Machine/TileIssue.lean ====
section
/-! DEFINITION. The issue of tile operations (chapter 7): the instruction word, the parameter block, the checks of Table 7.6,
extents and their order (R326, R327), acceptance. -/

namespace Sys2Proof.Machine

open Sys2Proof

/-! ## Operands and areas -/

/-- The descriptor D of an op. -/
def Op.D (o : Op) : Desc := descOf o.dD
/-- The descriptor A of an op. -/
def Op.A (o : Op) : Desc := descOf o.dA
/-- The descriptor B of an op. -/
def Op.B (o : Op) : Desc := descOf o.dB
/-- The descriptor named in the operation area. -/
def Op.X (o : Op) : Desc := descOf o.dX
/-- A number of the parameter block: n bytes from byte i. -/
def Op.num (o : Op) (i n : Nat) : Nat := recNat o.pb i n
/-- Bit k of byte i of the parameter block. -/
def Op.flag (o : Op) (i k : Nat) : Bool := (o.byte i).testBit k

/-- An op is of a class and operation. -/
def Op.is (o : Op) (cls opc : Nat) : Bool := o.cls == cls && o.opc == opc

/-- A convolution with the area of CV.CONV: CV.CONV, VX.DWCONV, PP.CONV, PP.STREAM (R407). -/
def Op.conv (o : Op) : Bool := o.cls == 1 || o.is 2 10 || o.cls == 5

/-- The descriptor register that the operation area names: a codebook, C, or β. -/
def Op.xReg (o : Op) : Option Nat :=
  if o.cls = 0 then (if o.flag 17 4 then some (o.byte 17 % 16) else none)
  else if o.is 2 2 then some (o.byte 16 % 16)
  else if o.is 2 5 then (if o.flag 17 4 then some (o.byte 17 % 16) else none)
  else none

/-- B is used by this op: by its table, and a mask or a codebook only where the op has one. -/
def Op.usesB (o : Op) : Bool :=
  (opUse o.cls o.opc).2.2 && (!o.is 2 4 || o.flag 16 0) &&
  (!o.is 6 0 || decide (o.A.comp ≤ 2)) && (!o.is 6 1 || decide (o.D.comp ≠ 4))

/-- The descriptors of the op with their operand numbers (Table 7.6). -/
def Op.descs (o : Op) : List (Nat × Desc) :=
  let u := opUse o.cls o.opc
  (if u.1 then [(0, o.D)] else []) ++ (if u.2.1 then [(1, o.A)] else []) ++ (if o.usesB then [(2, o.B)] else []) ++
  (if o.xReg.isSome then [(4, o.X)] else [])

/-- MODE of a convolution. -/
def Op.mode (o : Op) : Nat := o.byte 16 % 4
/-- The filter of a convolution: D in mode 2, else B. -/
def Op.filter (o : Op) : Desc := if o.cls = 1 ∧ o.mode = 2 then o.D else o.B
/-- The image of a convolution: D in mode 1, else A. -/
def Op.image (o : Op) : Desc := if o.cls = 1 ∧ o.mode = 1 then o.D else o.A
/-- The output, or its gradient. -/
def Op.output (o : Op) : Desc := if o.cls = 1 then (if o.mode = 0 then o.D else if o.mode = 1 then o.A else o.B) else o.D
/-- BIASEN of MX.MUL and the convolutions. -/
def Op.biasen (o : Op) : Bool := if o.cls = 0 ∨ o.conv then o.flag 16 3 else false
/-- ACC of MX.MUL and CV.CONV. -/
def Op.acc (o : Op) : Bool := if o.cls = 0 ∨ o.conv then o.flag 16 2 else false
/-- The bias address and its length in values. -/
def Op.bias (o : Op) : Nat × Nat :=
  if o.cls = 0 then (o.num 24 6, if o.flag 16 1 then o.B.size 0 else o.B.size 1) else (o.num 36 6, o.output.size 0)

/-- Where an area may lie (R331, R430, R465, R585, Table 7.14). -/
inductive Place where
  | csram | local_ | wide | any | pepper | list | global
  deriving DecidableEq, Repr

/-- What an area is for the order of ops: a source, a destination, or neither. -/
inductive Role where
  | src | dst | free
  deriving DecidableEq, Repr

/-- A byte range an op names: its operand number, the address as the thread sees it, length, access, place and role. -/
structure Area where
  opn : Nat
  a : Nat
  n : Nat
  acc : Acc
  place : Place
  role : Role
  deriving DecidableEq, Repr

/-- The place of a class's tensor operands. -/
def clsPlace : Nat → Place
  | 3 | 6 => .wide
  | 5 => .pepper
  | 7 => .any
  | _ => .local_

/-- Rows of the handle table of an SQ op. -/
def Op.sqRows (o : Op) : Nat := if o.opc < 2 then o.A.size 2 else o.num 30 2

/-- The length of D's destination: of PP.STREAM with the sideband array (R421). -/
def Op.dLen (o : Op) : Nat :=
  let d := o.D
  if o.is 5 1 then roundUp (d.base + d.span) 64 - d.base + 32 * d.size 2 else d.span

/-- D is also read: accumulation, master weights. -/
def Op.readsD (o : Op) : Bool := o.acc || o.is 2 12

/-- B is a codebook: of a CX op that has one (Table 7.15). -/
def Op.bookB (o : Op) : Bool := o.is 6 0 || (o.is 6 1 && o.D.comp != 3)

/-- The tensor areas of an op; a codebook lies in the cluster for every class (R331). -/
def Op.tensorAreas (o : Op) : List Area :=
  o.descs.map fun q =>
    let pl := if o.bookB && q.1 == 2 then .local_ else clsPlace o.cls
    if q.1 = 0 then ⟨0, q.2.base, o.dLen, if o.readsD then .atomic else .write, pl, .dst⟩
    else if o.is 2 12 ∧ q.1 = 2 then ⟨2, q.2.base, q.2.span, .atomic, pl, .dst⟩
    else ⟨q.1, q.2.base, q.2.span, .read, pl, .src⟩

/-- The areas that the parameter block names; a bias vector lies in the cluster for every class (R331). -/
def Op.pbAreas (o : Op) : List Area :=
  let bias := if o.biasen then [(⟨3, o.bias.1, 4 * o.bias.2, .read, .local_, .src⟩ : Area)] else []
  let own := match o.cls, o.opc with
    | 3, 0 | 3, 1 => [(⟨3, o.num 16 6, 16 * o.num 22 2, .atomic, .list, .dst⟩ : Area)]
    | 3, 2 => [⟨3, o.num 16 6, 4 * o.num 22 2, .read, .wide, .src⟩]
    | 3, 3 => [⟨3, o.num 16 6, 64, .read, .list, .src⟩, ⟨3, o.num 24 6, 64, .atomic, .list, .dst⟩]
    | 3, 4 => [⟨3, o.num 16 6, 64, .atomic, .list, .dst⟩]
    | 4, 0 | 4, 1 =>
      (if o.num 18 6 = 0 then [] else [⟨3, o.num 18 6, 4 * o.sqRows, .read, .local_, .src⟩]) ++
      (if o.num 24 6 = 0 then [] else [⟨3, o.num 24 6, 8 * (o.A.size 1 * ceilDiv o.sqRows 64), .read, .local_, .src⟩])
    | 4, _ => [⟨3, o.num 18 6, 4 * o.sqRows, .read, .local_, .src⟩]
    | 7, 0 => if o.flag 16 1 && o.flag 16 2 then [⟨3, o.num 18 6, 8, .write, .any, .free⟩] else []
    | 7, 2 | 7, 3 => [⟨3, o.num 16 6, 64, .atomic, .global, .free⟩]
    | _, _ => []
  let res := if o.resAddr = 0 then [] else [(⟨3, o.resAddr, 64, .write, .csram, .dst⟩ : Area)]
  bias ++ own ++ res

/-- All areas. -/
def Op.areas (o : Op) : List Area := o.tensorAreas ++ o.pbAreas

/-- A device address lies where a place allows, for a thread of cluster c and partition p. -/
def State.placeOk (s : State) (c p : Nat) (pl : Place) (d : Nat) : Bool :=
  match pl, region d with
  | .csram, .cluster k => k == c
  | .local_, .cluster k | .local_, .tile k _ => k == c
  | .wide, .cluster k | .wide, .tile k _ => k == c
  | .wide, .global | .wide, .ddr => true
  | .any, .reg | .any, .none => false
  | .any, _ => true
  | .pepper, .cluster k => s.cluPart k == p
  | .pepper, .global | .pepper, .ddr => true
  | .list, .cluster k => k == c
  | .list, .global => true
  | .global, .global => true
  | _, _ => false

/-- The device range of an area of an op: in one segment, whole within one region that its place allows, and written nowhere on the record
copy of a context that holds a job (R241). -/
def State.areaDev (s : State) (o : Op) (q : Area) : Option Nat :=
  match translate o.segs q.acc q.a q.n with
  | some d =>
    let c := thClu o.th
    if s.placeOk c o.part q.place d && s.placeOk c o.part q.place (d + q.n - 1) && (region d).joins (region (d + q.n - 1)) &&
      (q.acc == .read || !s.inRecord d q.n) then some d else none
  | none => none

/-- The tables of the op's descriptors: operand number, device address, length, role (R308, R374). -/
def Op.tables (o : Op) : List (Nat × Nat × Nat × Role) :=
  (o.descs.filter fun q => q.2.scl || q.2.amx).map fun q =>
    (q.1, q.2.tab (thClu o.th), q.2.scaleLen + q.2.amxLen, if q.1 = 0 || (o.is 2 12 && q.1 == 2) then .dst else .src)

/-- A table lies wholly in the cluster's SRAM or in its tiles' SRAM. -/
def tabOk (c a n : Nat) : Bool :=
  (decide (cluBase c ≤ a) && decide (a + n ≤ cluBase c + 0x800000)) ||
  (decide (cluBase c + 0x1000000 ≤ a) && decide (a + n ≤ cluBase c + 0x2000000))

/-- The extent of n bytes from a, widened to whole lines. -/
def extOf (a n : Nat) : Ext := ⟨a / 64 * 64, roundUp (a + n) 64⟩

/-- Two extents overlap; extents in the host and fabric windows are not compared (R326, item 5). -/
def Ext.meets (x y : Ext) : Bool :=
  decide (x.lo < 0x7D0000000000) && decide (y.lo < 0x7D0000000000) && decide (x.lo < y.hi) && decide (y.lo < x.hi)

/-- Two lists of extents overlap. -/
def meetAny (l m : List Ext) : Bool := l.any fun x => m.any fun y => x.meets y

/-- The op's extents of a role, each with its operand number. -/
def State.extents (s : State) (o : Op) (r : Role) : List (Nat × Ext) :=
  ((o.areas.filter fun q => q.role == r).filterMap fun q => (s.areaDev o q).map fun d => (q.opn, extOf d q.n)) ++
  ((o.tables.filter fun q => q.2.2.2 == r).map fun q => (q.1, extOf q.2.1 q.2.2.1))

/-! ## Checks at issue (Table 7.6) -/

/-- A check: it passes, the exception, the operand. -/
abbrev Check := Bool × Exc × Nat

/-- The bytes of the operation area that an operation defines (R310). -/
def areaBytes (cls opc : Nat) : List (Nat × Nat) :=
  match cls, opc with
  | 0, _ => [(16, 18), (20, 30), (32, 40)]
  | 1, _ | 2, 10 | 5, 0 => [(16, 19), (20, 42), (44, 52)]
  | 5, _ => [(16, 19), (20, 42), (44, 53), (54, 56)]
  | 2, 0 => [(16, 17), (20, 28)]
  | 2, 1 | 2, 2 | 2, 11 | 2, 13 => [(16, 17)]
  | 2, 3 => [(16, 18)]
  | 2, 4 | 2, 15 => [(16, 17), (20, 24)]
  | 2, 5 => [(16, 18), (20, 24)]
  | 2, 9 => [(16, 21), (22, 32)]
  | 2, 12 => [(16, 17), (20, 44)]
  | 2, 16 => [(20, 24)]
  | 3, 0 => [(16, 29)]
  | 3, 1 | 3, 2 => [(16, 24)]
  | 3, 3 => [(16, 22), (24, 30)]
  | 3, _ => [(16, 22)]
  | 4, 0 | 4, 1 => [(16, 30)]
  | 4, _ => [(18, 24), (30, 32)]
  | 6, 1 => [(16, 18)]
  | 7, 0 => [(16, 32)]
  | 7, 1 => [(24, 32)]
  | 7, 2 => [(16, 24)]
  | 7, 3 => [(16, 22)]
  | _, _ => []

/-- FP32 bits are finite. -/
def finBits (b : Nat) : Bool := decide (b / 2 ^ 23 % 256 ≠ 255)
/-- Finite and not negative; a negative zero counts as zero. -/
def nonNegBits (b : Nat) : Bool := finBits b && (decide (b < 2 ^ 31) || b == 2 ^ 31)
/-- Finite, 0 or more and below 1. -/
def unitBits (b : Nat) : Bool := nonNegBits b && (decide (b < 0x3F800000) || b == 2 ^ 31)

/-- The parameters of a window are in range: strides, dilation, filter limits by class (R336, R344). -/
def Op.winOk (o : Op) (sx sy dx dy pad : Nat) : Bool :=
  let (ms, md) := if o.cls = 5 then (4, 8) else (8, 255)
  decide (1 ≤ o.byte sx) && decide (o.byte sx ≤ ms) && decide (1 ≤ o.byte sy) && decide (o.byte sy ≤ ms) &&
  decide (1 ≤ o.byte dx) && decide (o.byte dx ≤ md) && decide (1 ≤ o.byte dy) && decide (o.byte dy ≤ md) &&
  (List.range 4).all fun i => decide (o.num (pad + 2 * i) 2 ≤ 4095)

/-- The codes and parameters of the operation area are in range. -/
def State.areaOk (s : State) (o : Op) : Bool :=
  let le (i m : Nat) : Bool := decide (o.byte i ≤ m)
  let aligned (i m : Nat) : Bool := o.num i 6 % m == 0
  if o.conv then
    decide (o.mode ≠ 3) && le 16 (16 * 6 + 15) && o.winOk 17 18 22 23 24 && decide (1 ≤ o.num 20 2) && finBits (o.num 32 4) &&
    (o.mode == 0 || (!o.biasen && decide (o.byte 16 / 16 = 0))) && (o.mode == 2 || !o.acc) && (o.cls == 1 || o.mode == 0) &&
    (!o.is 5 1 || (le 52 8 && decide (1 ≤ o.num 54 2) && (o.byte 52 != 8 || !s.rb Addr.jesCfg 38) &&
      s.ringOwner (o.byte 52) == o.part))
  else match o.cls, o.opc with
    | 0, _ => le 16 (16 * 6 + 15) && le 17 31
    | 2, 0 => le 16 8 || (decide (0x10 ≤ o.byte 16) && le 16 0x16)
    | 2, 1 => le 16 7
    | 2, 2 => le 16 15
    | 2, 3 => le 16 5 && le 17 3
    | 2, 4 | 2, 11 => le 16 1
    | 2, 5 => le 16 1 && le 17 31
    | 2, 9 => le 16 2 && o.winOk 17 18 22 23 24 && decide (1 ≤ o.byte 19) && le 19 11 && decide (1 ≤ o.byte 20) && le 20 11
    | 2, 12 => le 16 1 && nonNegBits (o.num 20 4) && unitBits (o.num 24 4) && unitBits (o.num 28 4) &&
        nonNegBits (o.num 32 4) && o.num 32 4 % 2 ^ 31 != 0 && nonNegBits (o.num 36 4)
    | 2, 13 => le 16 2
    | 2, 15 => le 16 1 && decide (o.resAddr ≠ 0)
    | 3, 0 => decide (1 ≤ o.num 22 2) && decide (o.num 22 2 ≤ 1024) && le 28 3
    | 3, 1 => decide (1 ≤ o.num 22 2) && decide (o.num 22 2 ≤ 1024)
    | 3, 2 => decide (1 ≤ o.num 22 2) && decide (o.num 22 2 ≤ 16384)
    | 3, 3 => aligned 16 64 && aligned 24 64
    | 3, 4 => aligned 16 64
    | 4, 0 | 4, 1 => le 16 1 && decide (1 ≤ o.byte 17) && le 17 64 && aligned 18 4 && aligned 24 8
    | 4, _ => decide (1 ≤ o.num 30 2) && decide (o.num 30 2 ≤ 256) && aligned 18 4
    | 6, 1 => if o.D.comp = 3 then decide (4 ≤ o.num 16 2) && decide (o.num 16 2 ≤ 256) && o.num 16 2 % 4 == 0
        else o.num 16 2 == 0
    | 7, 0 => le 16 7 && le 17 63 && aligned 18 8
    | 7, 2 => aligned 16 64 && le 22 3 && le 23 1
    | 7, 3 => aligned 16 64
    | _, _ => true

/-- Largest UNITS mask of a class. -/
def unitsMax : Nat → Nat
  | 0 | 1 => 255 | 2 => 3 | 5 => 2 | 7 => 15 | _ => 0

/-- The device address of an op's address lies in the fabric window. -/
def Op.inFabric (o : Op) (k : Acc) (a : Nat) : Bool := match translate o.segs k a 1 with | some d => decide (region d = .fabric) | none => false

/-- A copy to the fabric window does not release a device semaphore (R624). -/
def Op.signalOk (o : Op) : Bool := !(o.is 7 0 && o.flag 16 1 && !o.flag 16 2 && o.inFabric .write o.D.base)

/-- An operand in the fabric window starts on a line, covers whole lines and names one device (R624). -/
def Op.fabricOk (o : Op) (n : Nat) (d : Desc) : Bool :=
  let k : Acc := if n = 0 then .write else .read
  !o.inFabric k d.base ||
    ((d.ranges.all fun r => r.1 % 64 == 0 && r.2 % 64 == 0) &&
      match translate o.segs k d.base 1 with
      | some x => x / 2 ^ 31 == (x + d.span - 1) / 2 ^ 31
      | none => true)

/-- The parameter block passes (R296, R310, Table 7.4). -/
def State.pbOk (s : State) (o : Op) : Bool :=
  o.num 0 2 == o.cls * 64 + o.opc && decide (o.byte 8 ≤ 1) && decide (o.byte 9 ≤ unitsMax o.cls) && o.resAddr % 64 == 0 &&
  ((List.range 48).all fun i => o.byte (16 + i) == 0 ||
    (areaBytes o.cls o.opc).any fun r => decide (r.1 ≤ 16 + i) && decide (16 + i < r.2)) &&
  s.areaOk o && o.signalOk

/-- A format takes scales (R306). -/
def sclFmt (f : Nat) : Bool := (decide (3 ≤ f) && decide (f ≤ 7)) || (decide (9 ≤ f) && decide (f ≤ 12))

/-- A descriptor is well formed by itself (Table 7.3, R301, R303, R305, R306). -/
def Desc.ok (d : Desc) (dst : Bool) : Bool :=
  d.resv == 0 && decide (d.comp ≤ 4) && decide (d.rot ≠ 3) && decide (d.s2mode ≠ 3) && okFmt d.fmt &&
  ((List.range 4).all fun i => decide (i ≤ d.rank) ||
    (d.dim.getD i 0 == 0 && (d.str i == 0 || (i == 1 && decide (d.comp ≠ 0))))) &&
  (if d.comp = 0 then
    let m := if fmtBits d.fmt = 6 then 4 else if fmtBits d.fmt = 4 then 2 else 1
    [1, 2, 3].all fun i => d.str i % m == 0
   else d.str 2 == 0 && d.str 3 == 0) &&
  (!d.scl || sclFmt d.fmt) && (!d.zp || (d.scl && decide (11 ≤ d.fmt))) && (dst || (!d.sdyn && !d.amx))

/-- Formats that MX.MUL takes for A and B (R333). -/
def mxFmt (f : Nat) : Bool := (decide (1 ≤ f) && decide (f ≤ 7)) || f == 9 || f == 10 || f == 11
/-- A narrow format. -/
def narrow (f : Nat) : Bool := (decide (3 ≤ f) && decide (f ≤ 7)) || f == 9 || f == 10 || f == 11
/-- FP32, BF16 or FP16 without scales. -/
def Desc.plain (d : Desc) : Bool := decide (d.fmt ≤ 2) && !d.scl
/-- D of a matrix op: FP32, BF16, FP16 or a narrow format with SCL. -/
def Desc.mxD (d : Desc) : Bool := decide (d.fmt ≤ 2) || (narrow d.fmt && d.scl)

/-- The rotation block. -/
def Desc.rotN (d : Desc) : Nat := if d.rot = 1 then 32 else if d.rot = 2 then 128 else 1
/-- An op accepts a rotated operand (R309). -/
def Op.rotOp (o : Op) : Bool := o.cls == 0 || o.is 2 11 || o.is 2 6 || o.is 2 7 || o.cls == 6 || o.is 7 0

/-- K lies in dim 1 of A. -/
def Op.tA (o : Op) : Bool := o.flag 16 0
/-- K lies in dim 1 of B. -/
def Op.tB (o : Op) : Bool := o.flag 16 1

/-- The ROT values are a combination of R373; MX.MUL's lie along the reduction dimension (R309), VX.HAD's are none that R373 lists but 0b00
(log entry 150). -/
def Op.rotOk (o : Op) : Bool :=
  let (d, a, b) := (o.D.rot, o.A.rot, o.B.rot)
  if o.cls = 0 then d == 0 && a == b && (a == 0 || (!o.tA && !o.tB))
  else if o.is 2 6 then a == 0 || a == d
  else if o.is 2 7 then d == 0 || a == d
  else if o.cls = 6 ∨ o.is 7 0 then a == d
  else if o.is 2 11 then a == 0 && d == 0
  else true

/-- The A and B formats of a matrix or convolution op: each accepted, both floating-point or both integer (R333, R413). -/
def Op.mixOk (o : Op) : Bool :=
  let a := if o.is 5 1 then (if o.byte 52 = 8 then 8 else 11) else o.A.fmt
  let b := o.B.fmt
  let wide := o.cls == 5 && (a == 8 || a == 12)
  (mxFmt a || wide) && mxFmt b && (decide (a ≤ 7) == decide (b ≤ 7))

/-- A codebook descriptor for a stream's format (R520). -/
def bookFmt (x : Desc) (f : Nat) : Bool := x.fmt == f && !x.scl && x.comp == 0 && x.rot == 0

/-- The format checks of an op beyond the general ones. -/
def Op.fmtChecks (o : Op) : List Check :=
  let (d, a, b) := (o.D, o.A, o.B)
  let out : List Check := [(d.mxD, .fmt, 0)]
  if o.cls = 0 then
    out ++ [(!o.acc || decide (d.fmt ≤ 1), .fmt, 0), (mxFmt a.fmt && !(o.tA && a.scl), .fmt, 1),
      (mxFmt b.fmt && !(o.tB && b.scl) && o.mixOk, .fmt, 2),
      (!o.flag 17 4 || bookFmt o.X b.fmt, .fmt, 4)]
  else if o.conv ∧ o.cls ≠ 2 then
    out ++ [(!o.acc || decide (d.fmt ≤ 1), .fmt, 0), (o.mixOk, .fmt, if o.is 5 1 then 2 else 1)]
  else match o.cls, o.opc with
    | 2, 6 => [(narrow d.fmt && d.scl, .fmt, 0)]
    | 2, 7 => [(decide (d.fmt ≤ 2), .fmt, 0), (narrow a.fmt, .fmt, 1)]
    | 2, 8 => [(d.fmt == 0, .fmt, 0)]
    | 2, 12 => [(d.fmt == 1, .fmt, 0), (a.fmt == 4 || a.fmt == 1, .fmt, 1),
        (b.fmt == 3 && b.scl && b.s2mode == 1, .fmt, 2)]
    | 2, 14 => [(b.fmt == 8, .fmt, 2)]
    | 2, 15 => [(d.fmt == 8, .fmt, 0)]
    | 3, 0 => [(d.mxD, .fmt, 0), (mxFmt a.fmt, .fmt, 1)]
    | 3, 1 => [(a.plain, .fmt, 1), (b.plain, .fmt, 2)]
    | 4, 0 | 4, 1 => [(d.plain, .fmt, 0), (a.plain, .fmt, 1), (b.plain, .fmt, 2)]
    | 6, 0 => [(a.comp != 3 || ([1, 3, 4].contains a.fmt && !a.scl), .fmt, 1), (!o.usesB || bookFmt b a.fmt, .fmt, 2)]
    | 6, 1 =>
      if d.comp = 3 then [([1, 3, 4].contains d.fmt && !d.scl, .fmt, 0)]
      else [(a.fmt == d.fmt && a.scl == d.scl && a.s2mode == d.s2mode && a.zp == d.zp && a.comp == 0, .fmt, 1),
        (!o.usesB || bookFmt b d.fmt, .fmt, 2)]
    | 7, 0 => [(a.fmt == d.fmt, .fmt, 1)]
    | _, _ => []

/-- An operand may be compressed as it is (R333, Table 7.15, Table 7.16). -/
def Op.compOk (o : Op) (n : Nat) (d : Desc) : Bool :=
  if d.comp = 0 then !(o.is 6 0 && n == 1) && !(o.is 6 1 && n == 0)
  else match o.cls with
    | 0 => n == 2 && (d.comp == 4 || (d.comp != 3 && o.flag 17 4))
    | 1 | 5 => n == 2 && d.comp == 4 && o.mode != 2
    | 6 => (o.is 6 0 && n == 1) || (o.is 6 1 && n == 0)
    | 7 => o.is 7 0
    | _ => false

/-- The sizes of a descriptor. -/
def Desc.sizes (d : Desc) : List Nat := [d.size 0, d.size 1, d.size 2, d.size 3]

/-- Each size equals the other's or is 1 (a broadcast, Table 7.11). -/
def Desc.broad (b d : Desc) : Bool := (List.range 4).all fun i => b.size i == d.size i || b.size i == 1

/-- A codebook's sizes: vector length, entries (R346). -/
def Desc.bookOk (b : Desc) : Bool :=
  (b.size 0 == 4 || b.size 0 == 8) && decide (b.size 1 ≤ 4096) && b.size 2 == 1 && b.size 3 == 1

/-- Rank 2 or 3 (Table 7.9). -/
def Desc.rank23 (d : Desc) : Bool := d.rank == 1 || d.rank == 2

/-- The output size of a window along one dimension; none below 1 (R336). -/
def outSize (w pl pr dx kw sx : Nat) : Option Nat :=
  if w + pl + pr < dx * (kw - 1) + 1 then none else some ((w + pl + pr - dx * (kw - 1) - 1) / sx + 1)

/-- The output sizes of a window over an image agree with an output descriptor. -/
def Op.winShape (o : Op) (img out : Desc) (kw kh sx sy dx dy pad : Nat) : Bool :=
  outSize (img.size 1) (o.num pad 2) (o.num (pad + 2) 2) (o.byte dx) kw (o.byte sx) == some (out.size 1) &&
  outSize (img.size 2) (o.num (pad + 4) 2) (o.num (pad + 6) 2) (o.byte dy) kh (o.byte sy) == some (out.size 2) &&
  img.size 3 == out.size 3

/-- The channels of a convolution's input; of PP.STREAM one, or the link's converters (R418). -/
def State.cIn (s : State) (o : Op) : Nat :=
  if o.is 5 1 then (if o.byte 52 = 8 then s.rf Addr.jesCfg 27 25 + 1 else 1) else o.image.size 0

/-- The shape of a convolution (R336, R344, R407). -/
def State.convShape (s : State) (o : Op) : List Check :=
  let f := o.filter
  let img := o.image
  let out := o.output
  let c := s.cIn o
  let g := o.num 20 2
  let kmax := if o.cls = 5 then 9 else 11
  let fop := if o.cls = 1 ∧ o.mode = 2 then 0 else 2
  if o.is 2 10 then
    [(g == c, .shape, 3), (f.size 0 == c && decide (f.size 1 ≤ 11) && decide (f.size 2 ≤ 11) && f.size 3 == 1, .shape, 2),
     (out.size 0 == c && o.winShape img out (f.size 1) (f.size 2) 17 18 22 23 24, .shape, 0)]
  else
    [(c % g == 0 && out.size 0 % g == 0 && !(decide (1 < g) && c == g && o.cls == 1), .shape, 3),
     (f.size 0 * g == c && f.size 3 == out.size 0 && decide (f.size 1 ≤ kmax) && decide (f.size 2 ≤ kmax), .shape, fop)] ++
    (if o.cls = 5 then
      [((decide (c ≤ 16) || decide (out.size 0 ≤ 16)) && decide (c ≤ 256) && decide (out.size 0 ≤ 256), .shape, 0)] else []) ++
    (if o.is 5 1 then [] else [(o.winShape img out (f.size 1) (f.size 2) 17 18 22 23 24, .shape, 0)])

/-- The shape checks of an op. -/
def State.shapeChecks (s : State) (o : Op) : List Check :=
  let (d, a, b) := (o.D, o.A, o.B)
  let same : List Check := [(d.sizes == a.sizes, .shape, 1)]
  if o.conv then s.convShape o
  else match o.cls, o.opc with
    | 0, _ =>
      let (k, m) := if o.tA then (a.size 1, a.size 0) else (a.size 0, a.size 1)
      let (kb, n) := if o.tB then (b.size 1, b.size 0) else (b.size 0, b.size 1)
      [(d.size 0 == n && d.size 1 == m && d.rank23, .shape, 0), (a.size 2 == d.size 2 && a.rank23, .shape, 1),
       (kb == k && (b.size 2 == d.size 2 || b.size 2 == 1) && b.rank23, .shape, 2)] ++
      (if o.xReg.isSome then [(o.X.bookOk, .shape, 4)] else [])
    | 2, 0 | 2, 6 | 2, 7 => same
    | 2, 1 => same ++ [(b.broad d, .shape, 2)]
    | 2, 2 => same ++ [(b.broad d, .shape, 2), (o.X.broad d, .shape, 4)]
    | 2, 3 => [((List.range 4).all fun i => d.size i == if i = o.byte 17 then 1 else a.size i, .shape, 1)]
    | 2, 4 => same ++ (if o.usesB then [(b.broad d, .shape, 2)] else [])
    | 2, 5 => same ++ [(b.rank == 0 && b.size 0 == a.size 0, .shape, 2)] ++
        (if o.xReg.isSome then [(o.X.rank == 0 && o.X.size 0 == a.size 0, .shape, 4)] else [])
    | 2, 8 => [(d.size 0 == a.nBlocks && [1, 2, 3].all fun i => d.size i == a.size i, .shape, 1)]
    | 2, 9 => [(d.size 0 == a.size 0 && o.winShape a d (o.byte 19) (o.byte 20) 17 18 22 23 24, .shape, 0)]
    | 2, 11 => same ++ [(a.size 0 % (if o.flag 16 0 then 128 else 32) == 0, .shape, 1)]
    | 2, 12 =>
      same ++ (if o.flag 16 0 then
        [(decide (d.rank ≤ 2), .shape, 0),
         (b.rank == d.rank + 1 && (List.range 4).all fun i => b.size i == if i = d.rank + 1 then 2 else d.size i, .shape, 2)]
      else [(b.sizes == d.sizes, .shape, 2)])
    | 2, 13 =>
      let (i, j) := if o.byte 16 = 0 then (0, 1) else if o.byte 16 = 1 then (0, 2) else (1, 2)
      [((List.range 4).all fun k => d.size k == a.size (if k = i then j else if k = j then i else k), .shape, 1)]
    | 2, 14 => [(b.rank == 0, .shape, 2), (d.size 0 == a.size 0 && d.size 1 == b.size 0 &&
        d.size 2 == 1 && d.size 3 == 1 && a.size 2 == 1 && a.size 3 == 1, .shape, 0)]
    | 2, 15 => [(decide (a.size 0 ≤ 32768) && decide (a.size 1 ≤ 32768) && a.size 2 == 1 && a.size 3 == 1, .shape, 1),
        (d.size 0 == 2 && d.size 2 == 1 && d.size 3 == 1, .shape, 0)]
    | 3, 0 => same ++ [(a.size 3 == 1, .shape, 1)]
    | 3, 1 => [(a.size 3 == 1, .shape, 1), (b.sizes == a.sizes, .shape, 2)]
    | 4, 0 | 4, 1 =>
      same ++ [(decide (a.size 0 ≤ 4096) && decide (a.size 2 ≤ 256) && a.size 3 == 1 && (o.opc == 0 || a.size 1 == 1), .shape, 1),
        (b.size 1 == a.size 0 && b.size 2 == 1 && b.size 3 == 1 &&
          (if o.flag 16 0 then b.size 0 == 3 * o.byte 17 + 1
           else o.num 18 6 == 0 || decide (b.size 0 ≤ o.byte 17 + 1)), .shape, 2)]
    | 6, 0 =>
      same ++ (if a.comp = 3 then [(a.rank == 1, .shape, 1)] else []) ++
      (if o.usesB then [(b.bookOk && a.size 0 % b.size 0 == 0, .shape, 2)] else [])
    | 6, 1 =>
      if d.comp = 3 then
        [(a.size 0 == o.num 16 2 && a.size 2 == 1 && a.size 3 == 1, .shape, 1),
         (b.size 0 == o.num 16 2 && b.size 2 == 1 && b.size 3 == 1, .shape, 2),
         (d.rank == 1 && d.size 0 == b.size 1 && d.size 1 == a.size 1, .shape, 0)]
      else same ++ (if o.usesB then
        [(b.bookOk && a.size 0 % b.size 0 == 0, .shape, 2)] else [])
    | 7, 0 => same ++ [(d.comp == a.comp, .shape, 1)]
    | _, _ => []

/-- A destination's strides do not overlap (R304). -/
def Desc.strideOk (d : Desc) : Bool :=
  d.comp != 0 ||
  ((d.size 1 == 1 || decide (d.size 0 ≤ d.str 1)) && (d.size 2 == 1 || decide (d.str 1 * d.size 1 ≤ d.str 2)) &&
   (d.size 3 == 1 || decide (d.str 2 * d.size 2 ≤ d.str 3)))

/-- Ops whose destination may alias a source exactly (R327). -/
def Op.mayAlias (o : Op) : Bool := o.is 2 0 || o.is 2 1 || o.is 2 2 || o.is 2 12 || o.is 7 0

/-- A source has exactly D's base, format, shape and strides. -/
def Desc.aliases (a d : Desc) : Bool :=
  a.base == d.base && a.fmt == d.fmt && a.comp == d.comp && a.sizes == d.sizes && a.stride == d.stride

/-- An extent of an op: its operand number, whether the op reads it, whether it writes it, whether it holds an operand's elements. -/
structure Use where
  opn : Nat
  rd : Bool
  wr : Bool
  elem : Bool
  ext : Ext

/-- The extents of an op's operands, areas and tables. -/
def State.uses (s : State) (o : Op) : List Use :=
  let at_ := fun (elem : Bool) (q : Area) =>
    (s.areaDev o q).map fun d => (⟨q.opn, q.acc != .write, q.role == .dst, elem, extOf d q.n⟩ : Use)
  (o.tensorAreas.filterMap (at_ true)) ++ ((o.pbAreas.filter fun q => q.role != .free).filterMap (at_ false)) ++
  o.tables.map fun q => ⟨q.1, q.2.2.2 == .src, q.2.2.2 == .dst, false, extOf q.2.1 q.2.2.1⟩

/-- An extent that the op writes overlaps another that it reads where that is forbidden (R327): the exception is of elements alone. -/
def State.overlaps (s : State) (o : Op) : Bool :=
  let l := s.uses o
  let alias_ := fun (x y : Use) => o.mayAlias && y.opn == 0 && x.elem && y.elem && o.descs.any fun q => q.1 == x.opn && q.2.aliases o.D
  l.zipIdx.any fun x => x.1.rd && l.zipIdx.any fun y => x.2 != y.2 && y.1.wr && y.1.ext.meets x.1.ext && !alias_ x.1 y.1

/-- The Pepper engine an op selects (Table 7.4). -/
def State.ppPick (s : State) (o : Op) : Option Nat :=
  let fits := fun n => s.rb (Addr.ppEngStat n) 0 && s.rb (Addr.ppEngCfg n) 0 && ownerOf (s.rf (Addr.ppEngCfg n) 3 1) == o.part
  let n := o.byte 9
  if n = 1 then (if fits 0 then some 0 else none) else if n = 2 then (if fits 1 then some 1 else none)
  else [0, 1].find? fits

/-- A unit of the class is in service in the cluster. -/
def State.hasUnit (s : State) (o : Op) : Bool :=
  let c := thClu o.th
  match o.cls with
  | 0 => !(s.tilesUp c).isEmpty && (o.B.comp == 0 || s.rb (Addr.cxStat c) 0)
  | 1 => !(s.tilesUp c).isEmpty
  | 2 => !(s.vesUp c).isEmpty
  | 3 => s.rb (Addr.awStat c) 0
  | 4 => s.rb (Addr.sqStat c) 0
  | 5 => (s.ppPick o).isSome
  | 6 => s.rb (Addr.cxStat c) 0
  | _ => !(s.moversUp c).isEmpty

/-- ENC of a copy is accepted: one operand lies in the host window, 4 KiB aligned, in whole pages (R349). -/
def State.encOk (s : State) (o : Op) : Bool :=
  let win := fun (q : Area) => match s.areaDev o q with | some d => decide (region d = .host) | none => false
  match o.tensorAreas.filter win with
  | [q] => q.a % 4096 == 0 && q.n % 4096 == 0
  | _ => false

/-- All checks after the operation's existence, in order (R319). -/
def State.checks (s : State) (o : Op) : List Check :=
  [(s.pbOk o, .pbArg, 3), (!o.np || (decide (1 ≤ o.npb) && decide (o.npb ≤ 20)), .npBound, 3)] ++
  o.descs.map (fun q => (q.2.ok (q.1 == 0), .descArg, q.1)) ++
  o.descs.map (fun q => (!(q.2.zp && q.2.s2mode != 0) &&
    (q.2.rot == 0 || (o.rotOp && q.1 != 4 && q.2.size 0 % q.2.rotN == 0)), .fmt, q.1)) ++
  [(o.rotOk, .fmt, 0)] ++ o.fmtChecks ++
  o.descs.map (fun q => (o.compOk q.1 q.2, .compr, q.1)) ++
  s.shapeChecks o ++
  [(!(opUse o.cls o.opc).1 || o.D.strideOk, .extent, 0)] ++
  o.tables.map (fun q => (tabOk (thClu o.th) q.2.1 q.2.2.1, .extent, q.1)) ++
  o.areas.map (fun q => ((s.areaDev o q).isSome, .extent, q.opn)) ++
  (if o.cls = 7 then o.descs.map fun q => (o.fabricOk q.1 q.2, .extent, q.1) else []) ++
  [(!(o.is 7 0 && o.flag 16 0) || s.encOk o, .extent, 0), (!s.overlaps o, .extent, 0), (s.hasUnit o, .units, 5)]

/-! ## Acceptance -/

/-- The word of a tile-issue instruction (Table 7.1). -/
def tiWord (cls opc : Nat) (ti : TiFields) : Nat :=
  (0x30 + cls) * 2 ^ 26 + opc * 2 ^ 20 + ti.dst.toNat * 2 ^ 16 + ti.srca.toNat * 2 ^ 12 + ti.srcb.toNat * 2 ^ 8 +
  ti.np.toNat * 128 + ti.rb.toNat * 64 + ti.st.toNat * 32 + ti.pb.toNat

/-- Descriptor fields that the operation does not use are zero (R295). -/
def unusedZero (cls opc : Nat) (ti : TiFields) : Bool :=
  let u := opUse cls opc
  (u.1 || ti.dst == 0) && (u.2.1 || ti.srca == 0) && (u.2.2 || ti.srcb == 0)

/-- The op that an issue describes. -/
def State.mkOp (s : State) (t cls opc : Nat) (ti : TiFields) (pb : List Byte) : Op :=
  let th := s.thread t
  let p := s.thPart t
  let u := opUse cls opc
  let z : BitVec 256 := 0
  let o : Op :=
    { uid := s.opCount, th := t, part := p, serial := 0, cls := cls, opc := opc, np := ti.np, rb := ti.rb, st := ti.st,
      npb := recNat pb 2 2, dD := if u.1 then th.dr ti.dst else z, dA := if u.2.1 then th.dr ti.srca else z,
      dB := if u.2.2 then th.dr ti.srcb else z, dX := z, pb := pb, units := recNat pb 9 1, unit := 0, segs := s.segsOf p,
      dst := [], srcs := [], start := none, done := false, rows := [], tries := [], seeded := [], moved := 0,
      resend := 0, xfer := none, late := false, status := 0, flags := 0, count := 0, aux := [], vals := [], dmg := [], corrupt := false }
  { o with dX := match o.xReg with | some r => th.dr (BitVec.ofNat 4 r) | none => z }

/-- Units of the op's class in service, by number; a walker, engine or codec is unit 0. -/
def State.classUnits (s : State) (o : Op) : List Nat :=
  let c := thClu o.th
  match o.cls with
  | 0 | 1 => s.tilesUp c
  | 2 => s.vesUp c
  | 5 => [o.unit]
  | 7 | 8 => s.moversUp c
  | _ => [0]

/-- The units an op runs on: those of its mask in service, or all in service where the mask names none (R313). -/
def State.opUnits (s : State) (o : Op) : List Nat :=
  let up := s.classUnits o
  let m := if o.cls = 5 then 0 else o.units
  let l := up.filter fun u => m == 0 || m.testBit u
  if l.isEmpty then up else l

/-- Ticket flag MASKSUB. -/
def flMasksub : Nat := 32

/-- A nonzero mask names no unit in service: flag MASKSUB. -/
def State.maskSub (s : State) (o : Op) : Bool :=
  decide (o.cls ≠ 5) && o.units != 0 && ((s.classUnits o).filter fun u => o.units.testBit u).isEmpty

/-- Ops in flight on mover m of cluster c, in acceptance order (R584). -/
def State.moverQ (s : State) (c m : Nat) : List Op :=
  s.ops.filter fun o => !o.done && decide (7 ≤ o.cls) && o.unit == m && (if o.th = supTid then o.count else thClu o.th) == c

/-- The mover for a new op: of its units the one with the fewest ops, the lowest of equals. -/
def State.pickMover (s : State) (c : Nat) (l : List Nat) : Nat :=
  (l.foldl (fun (b : Option Nat) m => match b with
    | some x => if (s.moverQ c m).length < (s.moverQ c x).length then some m else b
    | none => some m) none).getD 0

/-- The key of a unit's stochastic-rounding LFSR: tiles 0 to 7, vector engines 8 and 9, walker 10, sequence engine 11, codec 12
of each cluster; Pepper engines from 192. -/
def lfKey (cls c u : Nat) : Nat :=
  match cls with
  | 0 | 1 => c * 32 + u
  | 2 => c * 32 + 8 + u
  | 3 => c * 32 + 10
  | 4 => c * 32 + 11
  | 5 => 192 + u
  | _ => c * 32 + 12

/-- The units that a piece of an op on unit u uses, with their indices (R311): u; of a walker op the tiles in service and the codec too; the
codec for a compressed B. -/
def State.seedUnits (s : State) (o : Op) (u : Nat) : List (Nat × Nat) :=
  let c := thClu o.th
  let cx := if s.rb (Addr.cxStat c) 0 then [(lfKey 6 c 0, 0)] else []
  [(lfKey o.cls c u, if o.cls ≤ 2 then u else 0)] ++
  (if o.cls = 3 then (s.tilesUp c).map (fun t => (lfKey 0 c t, t)) ++ cx else if o.cls < 2 ∧ o.B.comp ≠ 0 then cx else [])

/-- SEEDLD: each unit loads its LFSR before its first piece of the op (R311). -/
def State.seedLoad (s : State) (o : Op) (u : Nat) : State × Op :=
  if o.byte 8 % 2 = 1 ∧ o.cls < 7 then
    let l := (s.seedUnits o u).filter fun q => !o.seeded.contains q.1
    (l.foldl (fun s q =>
      let v := BitVec.ofNat 32 (o.num 4 4) ^^^ (BitVec.ofNat 32 q.2 * 0x9E3779B9)
      s.setLf q.1 (if v = 0 then 1 else v)) s, { o with seeded := o.seeded ++ l.map (·.1) })
  else (s, o)

/-- Add an accepted op: its ticket, its extents, its unit; the ticket goes to SY_LASTTKT (R297). -/
def State.accept (s : State) (o : Op) : State :=
  let (n, s) := s.newTkt o.th
  let m := s.maskSub o
  let u := if o.cls = 5 then (s.ppPick o).getD 0 else if o.cls = 7 then s.pickMover (thClu o.th) (s.opUnits o) else 0
  let o : Op := { o with
    serial := n, unit := u, np := o.np && o.cls != 5, flags := if m then flMasksub else 0, dst := (s.extents o .dst).map (·.2),
    srcs := (s.extents o .src).map (·.2) }
  let s := { s with ops := s.ops ++ [o], opCount := s.opCount + 1 }
  let s := if o.cls = 5 then s.setPp u { s.pp u with q := (s.pp u).q ++ [o.uid] } else s
  let s := s.setThread o.th { s.thread o.th with lastTkt := ticket o.th n }
  s.nextPc o.th

/-- The queue of the Pepper engine an op selects is full (R417). -/
def State.ppFull (s : State) (o : Op) : Bool :=
  o.cls == 5 && match s.ppPick o with | some n => decide (16 ≤ (s.pp n).q.length) | none => false

end Sys2Proof.Machine
end

