-- ==== Sys2Proof/Machine/Tensor.lean ====
section
/-! DEFINITION. Reading tensors through an op's translation, decoding with scales (R363 to R367), converting and writing a
destination: static and computed scales, misfits, amax tables, underflow (R368 to R381). -/

namespace Sys2Proof.Machine

open Sys2Proof

/-- A tensor's rows of values, in the order of its descriptor's rows. -/
abbrev Ten := List (List Val)

/-- The row number of (i1, i2, i3). -/
def Desc.rowIx (d : Desc) (i1 i2 i3 : Nat) : Nat := i1 + d.size 1 * (i2 + d.size 2 * i3)

/-- An element of a tensor; an index in a dimension of size 1 is that of a broadcast. -/
def Ten.at (t : Ten) (d : Desc) (i0 i1 i2 i3 : Nat) : Val :=
  let c := fun i k => if d.size k = 1 then 0 else i
  (t.getD (d.rowIx (c i1 1) (c i2 2) (c i3 3)) []).getD (c i0 0) zeroV

/-- Build a tensor from its elements; the function also gets the element's ordinal. -/
def Desc.build (d : Desc) (f : Nat → Nat → Nat → Nat → Nat → Val) : Ten :=
  d.rows.map fun (i1, i2, i3) => (List.range (d.size 0)).map fun i0 => f i0 i1 i2 i3 (i0 + d.size 0 * d.rowIx i1 i2 i3)

/-! ## Bytes -/

/-- Read n bytes of an op's operand at the thread's address a, meeting flt failing checks: memory or the host window; a read that
fails answers not ok. -/
def State.opReadF (s : State) (o : Op) (a n flt : Nat) : ReadRes :=
  match (if o.th = supTid then some a else translate o.segs .read a n) with
  | none => ⟨s, zeros n, false⟩
  | some d =>
    if decide (region d = .host) then ⟨s, s.hostRead (s.hostAddr o.part (d - 0x7E0000000000)) n, s.linkUp⟩
    else if s.memRange d n then s.readMem o.part d n flt
    else ⟨s, zeros n, false⟩

/-- Read n bytes of an op's operand. -/
def State.opRead (s : State) (o : Op) (a n : Nat) : ReadRes := s.opReadF o a n 0

/-- Write bytes of memory, but none on the record copy of a context that holds a job (R241). -/
def State.spareWrite (s : State) (tag d : Nat) (bs : List Byte) : State :=
  if !s.inRecord d bs.length then s.writeMem tag d bs
  else (List.range bs.length).foldl (fun s i => if s.inRecord (d + i) 1 then s else s.writeMem tag (d + i) [bs.getD i 0]) s

/-- Write bytes of an op's destination at the thread's address a, with the partition's tag. -/
def State.opStore (s : State) (o : Op) (a : Nat) (bs : List Byte) : State :=
  match (if o.th = supTid then some a else translate o.segs .write a bs.length) with
  | none => s
  | some d =>
    if decide (region d = .host) then (if s.linkUp then s.hostWrite (s.hostAddr o.part (d - 0x7E0000000000)) bs else s)
    else if s.memRange d bs.length then s.spareWrite o.part d bs
    else s

/-- w bits of a byte list from bit b. -/
def bitsAt (n b w : Nat) : Nat := n / 2 ^ b % 2 ^ w

/-- Put elements of w bits into the bytes from bit b, leaving the other bits (R303). -/
def packBits (old : List Byte) (b w : Nat) (q : List Nat) : List Byte :=
  let len := q.length * w
  let v := (List.range q.length).foldl (fun a i => a + q.getD i 0 * 2 ^ (b + i * w)) 0
  let o := natOf old
  bytesOf old.length (o % 2 ^ b + v + o / 2 ^ (b + len) * 2 ^ (b + len))

/-- The stored elements of a row from its bytes. -/
def unpackBits (bytes : List Byte) (b w n : Nat) : List Nat :=
  let v := natOf bytes
  (List.range n).map fun i => bitsAt v (b + i * w) w

/-- The stored elements of one row of an uncompressed tensor. -/
def State.readRow (s : State) (o : Op) (d : Desc) (r : Nat × Nat × Nat) : State × Option (List Nat) :=
  let b := d.elemBit 0 r
  let w := fmtBits d.fmt
  let n := (b + d.size 0 * w + 7) / 8 - b / 8
  let q := s.opRead o (d.base + b / 8) n
  (q.s, if q.ok then some (unpackBits q.data (b % 8) w (d.size 0)) else none)

/-- The stored elements of every row; none when a read fails. -/
def State.readRaw (s : State) (o : Op) (d : Desc) : State × Option (List (List Nat)) :=
  d.rows.foldl (fun (a : State × Option (List (List Nat))) r =>
    match a.2 with
    | none => a
    | some l =>
      let (s, q) := a.1.readRow o d r
      (s, q.map fun x => l ++ [x])) (s, some [])

/-- Write the stored elements of one row. -/
def State.writeRow (s : State) (o : Op) (d : Desc) (r : Nat × Nat × Nat) (q : List Nat) : State :=
  let b := d.elemBit 0 r
  let w := fmtBits d.fmt
  let n := (b + q.length * w + 7) / 8 - b / 8
  let a := d.base + b / 8
  let old := match translate o.segs .write a n with | some k => s.peek k n | none => zeros n
  s.opStore o a (packBits old (b % 8) w q)

/-! ## Scales -/

/-- A tensor's scales: first-level codes, second-level values, zero points. -/
structure Scales where
  codes : List Nat
  s2 : List Nat
  zp : List Nat
  deriving DecidableEq, Repr

/-- The scales in a table's bytes. -/
def Desc.scalesOf (d : Desc) (b : List Byte) : Scales :=
  let nb := d.nBlocks * d.nRows
  { codes := (b.take nb).map (·.toNat), s2 := (List.range d.l2Count).map fun i => recNat b (d.l1Len + 4 * i) 4,
    zp := if d.zp then (List.range d.nRows).map fun i =>
        recNat b (d.l1Len + d.l2Len + d.zpSize * i) d.zpSize % 4096 else [] }

/-- Read a tensor's scale table at its device address. -/
def State.readScales (s : State) (o : Op) (d : Desc) : State × Option Scales :=
  let q := s.readMem o.part (d.tab (thClu o.th)) d.scaleLen 0
  (q.s, if q.ok then some (d.scalesOf q.data) else none)

/-- The second-level index of block b of row r (R308, R366). -/
def Desc.s2Ix (d : Desc) (r b : Nat) : Nat :=
  if d.s2mode = 1 then r else d.elemBit (32 * b) (d.rows.getD r (0, 0, 0)) / 8 / 65536

/-- A first-level code is usable (R364). -/
def okCode (c : Nat) : Bool := decide (c ≤ 0x7E)
/-- A second-level value is positive, normal and finite (R366). -/
def okS2 (b : Nat) : Bool := decide (0x800000 ≤ b) && decide (b < 0x7F800000)

/-- Every value of a table is usable. -/
def Scales.ok (c : Scales) : Bool := c.codes.all okCode && c.s2.all okS2

/-- The value of a code. -/
def codeQ (c : Nat) : Rat := (decodeFmt 3 c).toRat

/-- s1 and s2 of block b of row r. -/
def Scales.at (c : Scales) (d : Desc) (r b : Nat) : Nat × Rat :=
  (c.codes.getD (r * d.nBlocks + b) 0, if d.s2mode = 0 then 1 else (f32 (c.s2.getD (d.s2Ix r b) 0x3F800000)).toRat)

/-- The decoded value of a stored element (R363, R364). -/
def decodeElem (d : Desc) (c : Option Scales) (r i q : Nat) : Val :=
  match c with
  | none => decodeFmt d.fmt q
  | some c =>
    let (code, s2) := c.at d r (i / 32)
    if code = 0 then zeroV
    else if d.zp then valOf ((decodeFmt d.fmt q).toRat * codeQ code + (c.zp.getD r 0 : Nat))
    else exMul (decodeFmt d.fmt q) (valOf (codeQ code * s2))

/-- Why a source cannot be used: a read failed, or a reserved scale in a table at an address. -/
inductive Bad where
  | read
  | scale (a : Nat)
  deriving DecidableEq, Repr

/-- Decode rows of stored elements with the descriptor's scales. -/
def State.decodeRows (s : State) (o : Op) (d : Desc) (raw : List (List Nat)) : State × Except Bad Ten :=
  let dec := fun (c : Option Scales) => (List.range raw.length).map fun r =>
    let row := raw.getD r []
    (List.range row.length).map fun i => decodeElem d c r i (row.getD i 0)
  if d.scl then
    match s.readScales o d with
    | (s, none) => (s, .error .read)
    | (s, some c) => (s, if c.ok then .ok (dec (some c)) else .error (.scale (d.tab (thClu o.th))))
  else (s, .ok (dec none))

/-- Read and decode an uncompressed tensor. -/
def State.readTen (s : State) (o : Op) (d : Desc) : State × Except Bad Ten :=
  match s.readRaw o d with
  | (s, none) => (s, .error .read)
  | (s, some raw) => s.decodeRows o d raw

/-! ## Computed scales (R369, R370) -/

/-- The finite magnitudes of a list. -/
def finAbs (l : List Val) : List Rat := (l.filter Val.isFin).map fun v => absQ v.toRat

/-- The code of roundup(t): the least E4M3 value at least t, or 448. -/
def roundUpCode (t : Rat) : Nat := ((List.range 126).find? fun c => decide (t ≤ codeQ (c + 1))).elim 0x7E (· + 1)

/-- The code of a block under a given s2 (R369). -/
def blockCode (fmax s2 : Rat) (x : List Val) : Nat :=
  let ab := maxQ 0 (finAbs x)
  if ab = 0 then (if x.all Val.isFin then 0 else 0x38) else roundUpCode (ab / (fmax * s2))

/-- The second-level value of a unit (R369), FP32 bits. -/
def unitS2 (fmax : Rat) (x : List Val) : Nat :=
  let a := maxQ 0 (finAbs x)
  if a = 0 then 0x3F800000
  else (fpFmt 0).bits false (max ((fpFmt 0).round (a / (fmax * 448)) .up) (pow2 (-126)))

/-- Block b of a row. -/
def blockOf (x : List Val) (b : Nat) : List Val := (x.drop (32 * b)).take 32

/-- Scales computed for a signed format, or UINT without zero points (R369). -/
def Desc.dynScales (d : Desc) (x : Ten) : Scales :=
  let fmax := fmaxOf d.fmt
  let blocks := (List.range x.length).flatMap fun r => (List.range d.nBlocks).map fun b => (r, b)
  let s2 := (List.range d.l2Count).map fun u =>
    unitS2 fmax ((blocks.filter fun q => d.s2Ix q.1 q.2 == u).flatMap fun q => blockOf (x.getD q.1 []) q.2)
  let val := fun q : Nat × Nat => if d.s2mode = 0 then (1 : Rat) else (f32 (s2.getD (d.s2Ix q.1 q.2) 0x3F800000)).toRat
  { codes := blocks.map fun q => blockCode fmax (val q) (blockOf (x.getD q.1 []) q.2), s2 := s2, zp := [] }

/-- The least and greatest finite values of a list; 0 for none. -/
def minMax (l : List Val) : Rat × Rat :=
  let f := (l.filter Val.isFin).map Val.toRat
  match f with | [] => (0, 0) | h :: t => (t.foldl min h, t.foldl max h)

/-- Zero point and codes of one row (R370). -/
def zpRow (fmax : Rat) (nb : Nat) (x : List Val) : Nat × List Nat :=
  let fin := x.filter Val.isFin
  let (lo, hi) := minMax x
  let eq := !fin.isEmpty && decide (lo = hi)
  let zp := if fin.isEmpty then 0
    else if eq then roundN (max 0 (min fmax lo)) .rne
    else (max 0 (min fmax (lo.floor : Rat))).floor.toNat
  (zp, (List.range nb).map fun b =>
    let y := blockOf x b
    let hb := (minMax y).2
    if y.all Val.isZero then 0
    else if eq then 0x38
    else if (y.filter Val.isFin).isEmpty ∨ hb = (zp : Nat) then 0x38
    else roundUpCode ((hb - (zp : Nat)) / fmax))

/-- Scales computed for UINT with zero points. -/
def Desc.zpScales (d : Desc) (x : Ten) : Scales :=
  let l := x.map (zpRow (fmaxOf d.fmt) d.nBlocks)
  { codes := l.flatMap (·.2), s2 := [], zp := l.map (·.1) }

/-! ## Conversion of results -/

/-- One converted element: its bits, whether it saturates (R376), whether it was flushed. -/
structure Conv where
  q : Nat
  sat : Bool
  flush : Bool
  deriving DecidableEq, Repr

/-- What element i of row r is converted from, and whether it saturates (R368, R376). It is none in a null block, whose elements are written
as zero; s1 counts as 0 there, so everything but a zero saturates (log entry 148). -/
def Desc.scaled (d : Desc) (c : Option Scales) (r i : Nat) (x : Val) : Option Val × Bool :=
  match c with
  | none => (some x, false)
  | some c =>
    let (code, s2) := c.at d r (i / 32)
    if code = 0 then (none, !x.isZero)
    else if d.zp then
      match x with
      | .fin _ _ =>
        let y := (x.toRat - (c.zp.getD r 0 : Nat)) / codeQ code
        (some (valOf y), decide (y < 0) || decide (fmaxOf d.fmt < y))
      | _ => (some x, true)
    else
      match x with
      | .fin n m => let y := m / (codeQ code * s2); (some (.fin n y), decide (fmaxOf d.fmt < y))
      | _ => (some x, true)

/-- Convert element i of row r (R357, R368, R376); same: from the same format without scales, which is exact (Table 8.4). -/
def convElem (d : Desc) (c : Option Scales) (r i : Nat) (same : Bool) (mode : Mode) (x : Val) : Conv :=
  match d.scaled c r i x with
  | (none, sat) => ⟨0, sat, !x.isNan && !x.isZero⟩
  | (some y, sat) =>
    let q := if same then exactFmt d.fmt y else convFmt d.fmt (if d.fmt = 0 then .rne else mode) y
    ⟨q, sat, !x.isNan && !x.isZero && (decodeFmt d.fmt q).isZero⟩

/-- The conversion of element i of row r consumes a draw: what it converts is no value of the format (R360). -/
def Desc.draws (d : Desc) (c : Option Scales) (r i : Nat) (x : Val) : Bool :=
  match (d.scaled c r i x).1 with
  | some y => d.fmt != 0 && !represents d.fmt y
  | none => false

/-! ## Stochastic draws (R311, R312, R360, R361) -/

/-- One shift of the Galois LFSR with mask 0x8020_0003 (R361). -/
def lfsrStep (v : BitVec 32) : BitVec 32 := if v.getLsbD 0 then (v >>> 1) ^^^ 0x80200003 else v >>> 1

/-- n shifts of the LFSR: the bits shifted out, the first as bit 0, and the register after them. -/
def lfsrRun : Nat → BitVec 32 → Nat × BitVec 32
  | 0, v => (0, v)
  | n + 1, v => let r := lfsrRun n (lfsrStep v); ((v.getLsbD 0).toNat + 2 * r.1, r.2)

/-- n draws of 16 bits, in order, and the register after them. -/
def lfsrDraws : Nat → BitVec 32 → List Nat × BitVec 32
  | 0, v => ([], v)
  | n + 1, v => let d := lfsrRun 16 v; let r := lfsrDraws n d.2; (d.1 :: r.1, r.2)

/-- A list in an order that pick chooses, one after another among those left. -/
def inOrder (pick : Nat → Nat) : Nat → List Nat → List Nat
  | 0, _ => []
  | n + 1, l => let k := pick n % l.length; l.getD k 0 :: inOrder pick n (l.eraseIdx k)

/-- How the conversions of some elements by a unit round: to nearest even, or stochastically, each element that needs a draw with one of the
next draws of the unit's LFSR; which one is not defined (R361). -/
def State.modes (s : State) (o : Op) (key : Nat) (need : List Nat) : State × (Nat → Mode) :=
  if !o.st then (s, fun _ => .rne)
  else
    let (i, s) := s.fresh
    let d := lfsrDraws need.length (s.lf key)
    let l := need.zip (inOrder (Config.drawOrder i) need.length d.1)
    (s.setLf key d.2, fun k => .st (((l.find? fun e => e.1 == k).map (·.2)).getD 0))

/-- The draws that the failed attempts of a piece took (R390). -/
def State.failedDraws (s : State) (o : Op) (p : PieceRec) : State :=
  if !o.st ∨ p.fails = 0 then s
  else
    let (i, s) := s.fresh
    let k := lfKey o.cls (thClu o.th) p.funit
    s.setLf k (lfsrRun (16 * Config.failDraws i p.row) (s.lf k)).2

/-- Some block of a row lies beyond four times its range (R377). -/
def farBlock (d : Desc) (c : Scales) (r b : Nat) (x : List Val) : Bool :=
  let (code, s2) := c.at d r b
  let y := blockOf x b
  let inf := y.any fun v => !v.isFin
  if d.zp then
    let zp : Rat := (c.zp.getD r 0 : Nat)
    (y.any fun v => match v with | .nan _ => true | .inf n => !n | _ => false) ||
      (!(y.filter Val.isFin).isEmpty && decide (4 * fmaxOf d.fmt * codeQ code < (minMax y).2 - zp))
  else inf || decide (4 * fmaxOf d.fmt * codeQ code * s2 < maxQ 0 (finAbs y))

/-- The replaced code of a block that saturates (R378). -/
def newCode (d : Desc) (c : Scales) (r b : Nat) (x : List Val) : Nat :=
  let y := blockOf x b
  if d.zp then
    if (y.filter Val.isFin).isEmpty then 0x38 else roundUpCode (((minMax y).2 - (c.zp.getD r 0 : Nat)) / fmaxOf d.fmt)
  else roundUpCode (maxQ 0 (finAbs y) / (fmaxOf d.fmt * (c.at d r b).2))

/-- The NEXT code of a block (R381): heavy underflow, computed scales. -/
def nextCode (d : Desc) (c : Scales) (r b : Nat) (heavy : Bool) (x : List Val) : Nat :=
  let (code, s2) := c.at d r b
  let y := blockOf x b
  let ab := maxQ 0 (finAbs y)
  if d.zp then roundUpCode (((minMax y).2 - (c.zp.getD r 0 : Nat)) / fmaxOf d.fmt)
  else
    let t := roundUpCode (ab / (fmaxOf d.fmt * s2))
    if ab = 0 then (if d.sdyn then 0 else code)
    else if heavy then t
    else if codeQ t ≤ codeQ code ∧ codeQ code / 16 < codeQ t then code
    else t

/-- The amax of a block: FP32 bits, a NaN counts as infinity (R375). -/
def amaxBits (x : List Val) : Nat :=
  if x.all Val.isFin then (fpFmt 0).bits false ((fpFmt 0).round (maxQ 0 (finAbs x)) .rne) else 0x7F800000

/-- A scale replay of a piece that took cc core cycles is carried out (R229, R378). -/
def State.replayOk (s : State) (o : Op) (cc : Nat) : Bool :=
  match thClass o.th with
  | .job =>
    let c := thClu o.th
    let x := thCtx o.th
    let v := s.ctx c x
    let p := s.predictCtx c x none
    let n := min (s.ncap v.job.part) (s.share c x)
    decide (p.need + ((cc * s.cluK c / (800 * 65536) * n : Nat) : Int) ≤ p.tLim)
  | _ => true

/-- What a conversion of a destination yields: converted rows, scales, flags, whether a static table was mended. -/
structure Stored where
  rows : List (List Conv)
  sc : Option Scales
  flags : Nat
  fixed : Bool

/-- Convert the rows of a piece on its unit. -/
def State.convRows (s : State) (o : Op) (d : Desc) (c : Option Scales) (same : Bool) (x : Ten) (p : PieceRec) : State × List (List Conv) :=
  let need := (List.range p.n).flatMap fun k =>
    let r := p.row + k
    let row := x.getD r []
    ((List.range row.length).filter fun i => d.draws c r i (row.getD i zeroV)).map fun i => i + d.size 0 * r
  let (s, mode) := s.modes o (lfKey o.cls (thClu o.th) p.unit) need
  (s, (List.range p.n).map fun k =>
    let r := p.row + k
    let row := x.getD r []
    (List.range row.length).map fun i => convElem d c r i same (mode (i + d.size 0 * r)) (row.getD i zeroV))

/-- Flags as the ticket's byte (Table 7.5, bits 8 to 14). -/
def flSat : Nat := 1
/-- UFLOW. -/
def flUflow : Nat := 2
/-- REPLAYED. -/
def flReplayed : Nat := 4
/-- SCALEFIX. -/
def flScalefix : Nat := 8
/-- IDXOOB. -/
def flIdxoob : Nat := 16
/-- REFETCHED. -/
def flRefetched : Nat := 64

/-- Convert one piece: a scale misfit replays it once with new codes, or keeps it saturated (R377 to R379). -/
def State.convPiece (s : State) (o : Op) (d : Desc) (same : Bool) (x : Ten) (a : Stored) (p : PieceRec) : State × Stored :=
  let lo := p.row
  let (s, l) := (s.failedDraws o p).convRows o d a.sc same x p
  let sats := (l.flatMap id).filter Conv.sat
  match a.sc with
  | none => (s, { a with rows := a.rows ++ l })
  | some c =>
    if d.sdyn then (s, { a with rows := a.rows ++ l, flags := if sats.isEmpty then a.flags else a.flags ||| flSat })
    else
      let blocks := (List.range p.n).flatMap fun k => (List.range d.nBlocks).map fun b => (lo + k, b)
      let misfit := decide (p.n * d.size 0 < 256 * sats.length) || blocks.any fun q => farBlock d c q.1 q.2 (x.getD q.1 [])
      if !misfit then (s, { a with rows := a.rows ++ l })
      else if !s.replayOk o p.cc then (s, { a with rows := a.rows ++ l, flags := a.flags ||| flSat })
      else
        let hit := blocks.filter fun q => (((l.getD (q.1 - lo) []).drop (32 * q.2)).take 32).any Conv.sat
        let codes := hit.foldl (fun cs q => cs.set (q.1 * d.nBlocks + q.2) (newCode d c q.1 q.2 (x.getD q.1 []))) c.codes
        let c' : Scales := { c with codes := codes }
        let (s, l') := s.convRows o d (some c') same x p
        let still := hit.any fun q => codes.getD (q.1 * d.nBlocks + q.2) 0 == 0x7E &&
          (((l'.getD (q.1 - lo) []).drop (32 * q.2)).take 32).any Conv.sat
        (s, { rows := a.rows ++ l', sc := some c', fixed := true, flags := (a.flags ||| flScalefix) ||| (if still then flSat else 0) })

/-- Write a table's bytes where the test says so; the other bytes stay. -/
def State.writeTab (s : State) (o : Op) (a : Nat) (new : List Byte) (keep : Nat → Bool) : State :=
  let old := s.peek a new.length
  s.writeMem o.part a ((List.range new.length).map fun i => if keep i then new.getD i 0 else old.getD i 0)

/-- Some row of second-level unit u is written. -/
def Desc.keepUnit (d : Desc) (keep : Nat → Bool) (u : Nat) : Bool :=
  if d.s2mode = 1 then keep u
  else (List.range d.nRows).any fun r => keep r && (List.range d.nBlocks).any fun b => d.s2Ix r b == u

/-- The scales that D is converted with: none without SCL, computed from x with SDYN, else D's static table; why it cannot be used. -/
def State.scalesFor (s : State) (o : Op) (d : Desc) (x : Ten) : State × Option Scales × Option Bad :=
  if !d.scl then (s, none, none)
  else if d.sdyn then (s, some (if d.zp then d.zpScales x else d.dynScales x), none)
  else
    let r := s.readScales o d
    match r.2 with
    | none => (r.1, none, some .read)
    | some k => (r.1, some k, if k.ok then none else some (.scale (d.tab (thClu o.th))))

/-- Write the scale table of a conversion: all of it with SDYN, the first level where a static table was mended. -/
def State.writeScales (s : State) (o : Op) (d : Desc) (fixed : Bool) (k : Scales) (keep : Nat → Bool) : State :=
  let t := d.tab (thClu o.th)
  let codes := k.codes.map (BitVec.ofNat 8)
  let rowB := fun (i : Nat) => keep (i / d.nBlocks)
  if d.sdyn then
    let s := s.writeTab o t (fit d.l1Len codes) rowB
    let s := if d.l2Len = 0 then s else
      s.writeTab o (t + d.l1Len) (fit d.l2Len (k.s2.flatMap (bytesOf 4))) fun i => d.keepUnit keep (i / 4)
    if d.zp then s.writeTab o (t + d.l1Len + d.l2Len) (fit d.zpLen (k.zp.flatMap (bytesOf d.zpSize))) fun i => keep (i / d.zpSize)
    else s
  else if fixed then s.writeTab o t codes rowB
  else s

/-- Write the AMX table of a conversion: the NEXT codes where there are scales, then the block maxima. -/
def State.writeAmx (s : State) (o : Op) (d : Desc) (x : Ten) (sc : Option Scales) (heavy : Bool) (keep : Nat → Bool) : State :=
  let blocks := (List.range d.nRows).flatMap fun r => (List.range d.nBlocks).map fun b => (r, b)
  let a := d.tab (thClu o.th) + d.scaleLen
  let s := match sc with
    | some k => s.writeTab o a (fit d.l1Len (blocks.map fun (q : Nat × Nat) =>
        BitVec.ofNat 8 (nextCode d k q.1 q.2 heavy (x.getD q.1 [])))) fun i => keep (i / d.nBlocks)
    | none => s
  let n1 := if d.scl then d.l1Len else 0
  s.writeTab o (a + n1) (fit (d.amxLen - n1)
    (blocks.flatMap fun (q : Nat × Nat) => bytesOf 4 (amaxBits (blockOf (x.getD q.1 []) q.2)))) fun i => keep (i / (4 * d.nBlocks))

/-- What the conversion of a destination came to: flags, its nonzero results, the flushed ones of each row, the scales it used. -/
structure Wrote where
  flags : Nat
  nz : Nat
  flushes : List (Nat × Nat)
  sc : Option Scales

/-- Heavy underflow of an op with nz nonzero results, some of them flushed (R380). -/
def heavyFlow (d : Desc) (nz flushed : Nat) : Bool := narrow d.fmt && decide (256 ≤ nz) && decide (nz < 2 * flushed)

/-- Convert x to D's format and write it with its scale table; keep marks the rows that are written. It stops where D's static table cannot
be used. -/
def State.convTen (s : State) (o : Op) (d : Desc) (x : Ten) (pieces : List PieceRec) (keep : Nat → Bool) (same : Bool) :
    State × Except Bad Wrote :=
  let f := s.scalesFor o d x
  match f.2.2 with
  | some b => (f.1, .error b)
  | none =>
    let (s, st) := pieces.foldl (fun (a : State × Stored) p => a.1.convPiece o d same x a.2 p) (f.1, ⟨[], f.2.1, 0, false⟩)
    let order := pieces.flatMap fun p => (List.range p.n).map fun k => p.row + k
    let s := (order.zip st.rows).foldl (fun s (q : Nat × List Conv) =>
      if keep q.1 then s.writeRow o d (d.rows.getD q.1 (0, 0, 0)) (q.2.map Conv.q) else s) s
    let s := match st.sc with
      | some k => s.writeScales o d st.fixed k keep
      | none => s
    let nz := (order.flatMap fun r => (x.getD r []).filter fun v => !v.isZero).length
    (s, .ok ⟨st.flags, nz, (order.zip st.rows).map fun q => (q.1, (q.2.filter Conv.flush).length), st.sc⟩)

/-- Convert x to D's format and write it with all its tables. -/
def State.storeTen (s : State) (o : Op) (d : Desc) (x : Ten) (pieces : List PieceRec) (keep : Nat → Bool) (same : Bool) :
    State × Except Bad Nat :=
  match s.convTen o d x pieces keep same with
  | (s, .error b) => (s, .error b)
  | (s, .ok w) =>
    let heavy := heavyFlow d w.nz (w.flushes.map (·.2)).sum
    (if d.amx then s.writeAmx o d x w.sc heavy keep else s, .ok (w.flags ||| if heavy then flUflow else 0))

end Sys2Proof.Machine
end

