-- ==== Sys2Proof/Machine/Saffron.lean ====
section
/-! DEFINITION. The Saffron codec (chapter 12): blocks and their checks (Table 12.4), expansion of vector-quantised, stored and
low-rank streams, compression. -/

namespace Sys2Proof.Machine

open Sys2Proof

/-! ## Checksums and prefix codes -/

/-- One byte into the reflected CRC-32C register (R516). -/
def crc32cByte (c : BitVec 32) (b : Byte) : BitVec 32 :=
  (List.range 8).foldl (fun c _ => if c.getLsbD 0 then (c >>> 1) ^^^ 0x82F63B78 else c >>> 1) (c ^^^ b.setWidth 32)

/-- CRC-32C of bytes (R516). -/
def crc32c (l : List Byte) : Nat := ((l.foldl crc32cByte 0xFFFFFFFF) ^^^ 0xFFFFFFFF).toNat

/-- Canonical codes of a table of lengths (R524): (length, code, symbol). -/
def canonical (lens : List Nat) : List (Nat × Nat × Nat) :=
  let count := fun l => if l = 0 then 0 else (lens.filter (· == l)).length
  let first := fun l => (List.range l).foldl (fun code k => (code + count k) * 2) 0
  (List.range lens.length).filterMap fun s =>
    let l := lens.getD s 0
    if l = 0 then none else some (l, first l + ((lens.take s).filter (· == l)).length, s)

/-- A table of lengths is legal (R523). -/
def okTable (lens : List Nat) : Bool :=
  let used := lens.filter (· != 0)
  lens.all (fun l => decide (l ≤ 16)) &&
  ((used.map fun l => 2 ^ (16 - l)).sum == 65536 || used == [1])

/-- The bits of bytes, from bit 7 of each (R525). -/
def bitsOfBytes (l : List Byte) : List Bool := l.flatMap fun b => (List.range 8).map fun i => b.getLsbD (7 - i)

/-- One symbol off the front of a bit list: at most 16 bits. -/
def takeSym (tab : List (Nat × Nat × Nat)) : Nat → Nat → Nat → List Bool → Option (Nat × List Bool)
  | 0, _, _, _ => none
  | _, _, _, [] => none
  | f + 1, len, code, b :: t =>
    let l := len + 1
    let c := code * 2 + b.toNat
    match tab.find? fun e => e.1 == l && e.2.1 == c with
    | some e => some (e.2.2, t)
    | none => takeSym tab f l c t

/-- n symbols; none for an invalid pattern or when the bits run out. -/
def takeSyms (tab : List (Nat × Nat × Nat)) : Nat → List Bool → Option (List Nat × List Bool)
  | 0, b => some ([], b)
  | n + 1, b =>
    match takeSym tab 16 0 0 b with
    | none => none
    | some (s, b) => (takeSyms tab n b).map fun q => (s :: q.1, q.2)

/-! ## Blocks -/

/-- A block header (Table 12.1). -/
structure BlkHdr where
  kind : Nat
  code : Nat
  plen : Nat
  bidx : Nat
  tid : Nat
  bk : Nat
  bn : Nat
  chk : Nat
  hiKind : Nat
  deriving DecidableEq, Repr

/-- A header's fields. -/
def hdrOf (b : List Byte) : BlkHdr :=
  { kind := recNat b 0 1 % 16, hiKind := recNat b 0 1 / 16, code := recNat b 1 1, plen := recNat b 2 2, bidx := recNat b 4 2,
    tid := recNat b 6 2, bk := recNat b 8 2, bn := recNat b 10 2, chk := recNat b 12 4 }

/-- What a stream's decoding has so far: position, blocks, tables, the current table, the panels' elements, the nominal extents,
the low-rank head and its factors' rows. -/
structure Dec where
  pos : Nat
  n : Nat
  tables : Nat
  lens : List Nat
  panels : List (List Nat)
  bkn : Nat
  bnn : Nat
  head : Option (List Byte)
  u : Ten
  v : Ten
  deriving DecidableEq, Repr

/-- The start of a stream. -/
def dec0 : Dec := ⟨0, 0, 0, [], [], 0, 0, none, [], []⟩

/-- How a stream's decoding ends. -/
inductive DecRes where
  | ok (d : Dec)
  | damaged (addr chk : Nat)
  | failed
  deriving DecidableEq, Repr

/-- A codebook: its vector length and its entries' stored elements. -/
structure Book where
  vl : Nat
  ents : List (List Nat)
  deriving DecidableEq, Repr

/-- Panels along dims 0 and 1 with nominal extents. -/
def Desc.panelGrid (d : Desc) (bk bn : Nat) : Nat × Nat := (ceilDiv (d.size 0) bk, ceilDiv (d.size 1) bn)

/-- The extents of panel number i (R518). -/
def Desc.panelExt (d : Desc) (bk bn i : Nat) : Nat × Nat :=
  let (nk, nn) := d.panelGrid bk bn
  (min bk (d.size 0 - i % nk * bk), min bn (d.size 1 - i / nk % nn * bn))

/-- How many panels a stream holds. -/
def Desc.panelCount (d : Desc) (bk bn : Nat) : Nat :=
  let (nk, nn) := d.panelGrid bk bn
  nk * nn * d.size 2 * d.size 3

/-- A panel's geometry is legal (R519). -/
def panelOk (d : Desc) (vl bk bn : Nat) : Bool :=
  let w := fmtBits d.fmt
  decide (1 ≤ bk) && decide (1 ≤ bn) && decide (bk ≤ 32768) && decide (bn ≤ 32768) && decide (bk * bn * w ≤ 262144) &&
  (d.comp == 4 || bk % vl == 0) && (w != 6 || bk % 4 == 0) && (w != 4 || bk % 2 == 0)

/-- Bytes of one row of a factor's block: elements, then first-level codes for FP8 (R529). -/
def factorLen (fmt r rows : Nat) : Nat :=
  let e := rows * r * fmtBits fmt / 8
  if fmt = 1 then e else roundUp e 4 + rows * ceilDiv r 32

/-- The rows of a FACTOR block; none when a first-level code is reserved (R529, R530). -/
def factorRows (fmt r rows s2 : Nat) (pay : List Byte) : Option Ten :=
  let w := fmtBits fmt
  let q := unpackBits (pay.take (rows * r * w / 8)) 0 w (rows * r)
  let cs := (pay.drop (roundUp (rows * r * w / 8) 4)).map (·.toNat)
  let nb := ceilDiv r 32
  if fmt ≠ 1 ∧ !(cs.take (rows * nb)).all okCode then none
  else some ((List.range rows).map fun j => (List.range r).map fun k =>
    let v := decodeFmt fmt (q.getD (j * r + k) 0)
    if fmt = 1 then exMul v (f32 s2)
    else
      let code := cs.getD (j * nb + k / 32) 0
      if code = 0 then zeroV else exMul (exMul v (valOf (codeQ code))) (f32 s2))

/-- The LRHEAD agrees with the descriptor (R528). -/
def headOk (d : Desc) (p : List Byte) : Bool :=
  let r := recNat p 0 2
  decide (4 ≤ r) && decide (r ≤ 256) && r % 4 == 0 && recNat p 2 2 + 1 == d.size 1 && recNat p 4 2 + 1 == d.size 0 &&
  recNat p 6 1 == d.fmt && recNat p 7 1 == 0 && d.rank == 1 && !d.scl && okS2 (recNat p 8 4) && okS2 (recNat p 12 4) &&
  (d.fmt != 1 || (recNat p 8 4 == 0x3F800000 && recNat p 12 4 == 0x3F800000))

/-- The check that a block fails, 0 for none (Table 12.4), and the decoding after it. -/
def decBlock (d : Desc) (bk : Book) (st : Dec) (h : BlkHdr) (hb pay : List Byte) (limit : Nat) : Nat × Dec :=
  let vlc := if h.code % 2 = 1 then 8 else 4
  let cw := h.code / 2 % 4
  let e := bk.ents.length
  let panel := h.kind == 1 || h.kind == 2 || h.kind == 3
  let permitted := match d.comp with
    | 1 => h.kind == 1
    | 2 => h.kind == 3 || h.kind == 4 || (h.kind == 2 && decide (0 < st.tables))
    | 3 => if st.head.isNone then h.kind == 5 else h.kind == 6
    | _ => h.kind == 3
  let codeOk := match h.kind with
    | 1 => decide (h.code < 8) && decide (cw ≠ 3) && vlc == bk.vl && decide (e ≤ 2 ^ (8 + 2 * cw))
    | 2 => decide (h.code < 2) && vlc == bk.vl
    | 6 => decide (h.code < 2)
    | _ => h.code == 0
  let tidOk := if h.kind = 2 then h.tid == (st.tables - 1) % 2 ^ 16 else h.tid == 0
  let bkn := if st.panels.isEmpty then h.bk else st.bkn
  let bnn := if st.panels.isEmpty then h.bn else st.bnn
  let r := match st.head with | some p => recNat p 0 2 | none => 0
  let inU := decide (st.u.length < d.size 1)
  let uRow := if h.code = 0 then d.size 1 - st.u.length else d.size 0 - st.v.length
  let fn := if inU then st.bkn else st.bnn
  let geomOk :=
    if panel then
      decide (1 ≤ bkn ∧ 1 ≤ bnn) && d.panelExt bkn bnn st.panels.length == (h.bk, h.bn) && panelOk d bk.vl h.bk h.bn
    else if h.kind = 6 then
      h.bk == r && h.code == (!inU).toNat && decide (1 ≤ h.bn) && (if fn = 0 then decide (h.bn ≤ uRow) else h.bn == min fn uRow)
    else h.bk == 0 && h.bn == 0
  let nel := h.bk * h.bn
  let stored := (nel * fmtBits d.fmt + 7) / 8
  let ncode := nel / bk.vl
  let bits := ncode * (8 + 2 * cw)
  let lenOk := decide (st.pos + 16 + h.plen ≤ limit) && decide (1 ≤ h.plen) && decide (h.plen ≤ 32768) &&
    (match h.kind with
     | 1 => h.plen == (bits + 7) / 8 && natOf pay / 2 ^ bits == 0
     | 2 => decide (h.plen < stored)
     | 3 => h.plen == stored && natOf pay / 2 ^ (nel * fmtBits d.fmt) == 0
     | 4 => true
     | 5 => h.plen == 16
     | _ => h.plen == factorLen d.fmt r h.bn)
  let crcOk := crc32c (hb.take 12 ++ pay) == h.chk
  let fixed := (List.range ncode).map fun i => bitsAt (natOf pay) (i * (8 + 2 * cw)) (8 + 2 * cw)
  let syms := takeSyms (canonical st.lens) ncode (bitsOfBytes pay)
  let lens := pay.map (·.toNat)
  let s2 := match st.head with | some p => recNat p (if inU then 8 else 12) 4 | none => 0
  let frows := factorRows d.fmt r h.bn s2 pay
  let put := fun (cs : List Nat) => cs.flatMap fun c => bk.ents.getD c []
  let next : Dec := { st with pos := roundUp (st.pos + 16 + h.plen) 64, n := st.n + 1 }
  if h.hiKind ≠ 0 ∨ !permitted ∨ !codeOk then (1, st)
  else if h.bidx ≠ st.n % 2 ^ 16 ∨ !tidOk then (2, st)
  else if !geomOk then (3, st)
  else if !lenOk then (4, st)
  else if !crcOk then (5, st)
  else match h.kind with
    | 1 => if fixed.all fun c => decide (c < e) then (0, { next with panels := st.panels ++ [put fixed], bkn := bkn, bnn := bnn }) else (6, st)
    | 2 =>
      match syms with
      | some (cs, rest) =>
        if decide (rest.length ≤ 7) && rest.all (! ·) then (0, { next with panels := st.panels ++ [put cs], bkn := bkn, bnn := bnn })
        else (7, st)
      | none => (7, st)
    | 3 => (0, { next with panels := st.panels ++ [unpackBits pay 0 (fmtBits d.fmt) nel], bkn := bkn, bnn := bnn })
    | 4 => if h.plen == e && okTable lens then (0, { next with tables := st.tables + 1, lens := lens }) else (8, st)
    | 5 => if headOk d pay then (0, { next with head := some pay }) else (9, st)
    | _ =>
      match frows with
      | some rows =>
        (0, if inU then { next with u := st.u ++ rows, bkn := if st.bkn = 0 then h.bn else st.bkn }
            else { next with v := st.v ++ rows, bnn := if st.bnn = 0 then h.bn else st.bnn })
      | none => (9, st)

/-- A stream is complete: every panel, or both factors. -/
def Dec.full (d : Desc) (st : Dec) : Bool :=
  if d.comp = 3 then d.size 1 ≤ st.u.length && d.size 0 ≤ st.v.length && st.head.isSome
  else !st.panels.isEmpty && d.panelCount st.bkn st.bnn ≤ st.panels.length

/-- Decode blocks until the stream is complete; every block takes at least 64 bytes of the stream. -/
def State.decStream (s : State) (o : Op) (d : Desc) (bk : Book) : Nat → Dec → State × DecRes
  | 0, st => (s, .damaged (d.base + st.pos) 4)
  | f + 1, st =>
    if st.full d then (s, .ok st)
    else
      let limit := 64 * d.str 1
      if limit < st.pos + 16 then (s, .damaged (d.base + st.pos) 4)
      else
        let q := s.opRead o (d.base + st.pos) 16
        if !q.ok then (q.s, .failed)
        else
          let h := hdrOf q.data
          let p := q.s.opRead o (d.base + st.pos + 16) (min h.plen (limit - st.pos - 16))
          if !p.ok then (p.s, .failed)
          else
            let (chk, st') := decBlock d bk st h q.data p.data limit
            if chk = 0 then p.s.decStream o d bk f st' else (p.s, .damaged (d.base + st.pos) chk)

/-- Read a codebook's stored entries. -/
def State.readBook (s : State) (o : Op) (d : Option Desc) : State × Option Book :=
  match d with
  | none => (s, some ⟨1, []⟩)
  | some b =>
    match s.readRaw o b with
    | (s, some l) => (s, some ⟨b.size 0, l⟩)
    | (s, none) => (s, none)

/-- Decode the stream of a descriptor with its codebook; its blocks are counted. -/
def State.readStream (s : State) (o : Op) (d : Desc) (book : Option Desc) : State × DecRes :=
  match s.readBook o book with
  | (s, none) => (s, .failed)
  | (s, some bk) =>
    match s.decStream o d bk (d.str 1 + 1) dec0 with
    | (s, .ok st) => ((s.inc (Addr.cxCnt0 (thClu o.th)) 63 32 st.n).countOps 5 (thClu o.th) st.n, .ok st)
    | r => r

/-- The stored element (i0, row) of the panels (R518, R519). -/
def Dec.elem (st : Dec) (d : Desc) (i0 i1 i2 i3 : Nat) : Nat :=
  let (nk, nn) := d.panelGrid st.bkn st.bnn
  let p := i0 / st.bkn + nk * (i1 / st.bnn + nn * (i2 + d.size 2 * i3))
  let ext := d.panelExt st.bkn st.bnn p
  (st.panels.getD p []).getD (i0 % st.bkn + i1 % st.bnn * ext.1) 0

/-- The stored elements of a stream, by rows. -/
def Dec.raw (st : Dec) (d : Desc) : List (List Nat) :=
  d.rows.map fun (i1, i2, i3) => (List.range (d.size 0)).map fun i0 => st.elem d i0 i1 i2 i3

/-- The product of a low-rank stream's factors (R530). -/
def Dec.product (st : Dec) (d : Desc) (bits : Nat → Nat) : Ten :=
  let r := match st.head with | some p => recNat p 0 2 | none => 0
  d.build fun n m _ _ e =>
    let terms := (List.range r).map fun k => exMul ((st.u.getD m []).getD k zeroV) ((st.v.getD n []).getD k zeroV)
    dotWithin (valOf 1) terms [] ((r + 4 : Nat) : Rat) (bits e)

/-! ## Compression (R531 to R533) -/

/-- The bytes of a block: header with its CHK, payload, padding to 64. -/
def mkBlock (kind code bidx tid bk bn : Nat) (pay : List Byte) : List Byte :=
  let h := bytesOf 1 kind ++ bytesOf 1 code ++ bytesOf 2 pay.length ++ bytesOf 2 bidx ++ bytesOf 2 tid ++ bytesOf 2 bk ++ bytesOf 2 bn
  let b := h ++ bytesOf 4 (crc32c (h ++ pay)) ++ pay
  fit (roundUp b.length 64) b

/-- The squared Euclidean distance of two vectors in FP32: exact, rounded once (log entry 51). -/
def distF32 (v e : List Val) : Val :=
  let t := (v.zip e).map fun q => match exAdd q.1 (fNeg q.2) with
    | .inl x => exMul x x
    | .inr (_, d) => .fin false (d * d)
  if t.any Val.isNan then qNaN else if t.any fun x => !x.isFin then .inf false else f32Of false (t.map Val.toRat).sum

/-- The index of the least of some distances, the lowest of equals (R456, R531); a NaN among them has no stated order: a free index (log
entry 157). -/
def leastDist (free : Nat) (l : List Val) : Nat :=
  if l.any Val.isNan then free % l.length
  else ((List.range l.length).foldl (fun (b : Option (Nat × Val)) i =>
    let x := l.getD i qNaN
    match b with
    | some (_, y) => if fLt x y then some (i, x) else b
    | none => some (i, x)) none).elim 0 (·.1)

/-- The entry of least squared distance on stored values decoded without scales (R531, item 3). -/
def nearest (f : Nat) (ents : List (List Nat)) (free : Nat) (v : List Nat) : Nat :=
  leastDist free (ents.map fun e => distF32 (v.map (decodeFmt f)) (e.map (decodeFmt f)))

/-- Panel extents of the compressor (R531, item 2). -/
def Desc.compPanel (d : Desc) (vl : Nat) : Nat × Nat :=
  let k := min (if d.fmt = 7 ∨ d.fmt = 10 then 256 else 128) (d.size 0)
  let bk := if d.comp = 4 then k else k / vl * vl
  let bn := ((List.range (min 128 (d.size 1))).filter fun n => bk * (n + 1) * fmtBits d.fmt ≤ 262144).length
  (bk, max 1 bn)

/-- Put a package in its place by weight. -/
def insertW (p : Nat × List Nat) : List (Nat × List Nat) → List (Nat × List Nat)
  | [] => [p]
  | q :: t => if p.1 < q.1 then p :: q :: t else q :: insertW p t

/-- Pair neighbours of a list of packages. -/
def pairW : List (Nat × List Nat) → List (Nat × List Nat)
  | a :: b :: t => (a.1 + b.1, a.2 ++ b.2) :: pairW t
  | _ => []

/-- Least-cost code lengths of at most 16 bits, by merging packages. -/
def bestLens (counts : List Nat) : List Nat :=
  let items := ((List.range counts.length).filter fun i => counts.getD i 0 != 0).foldl
    (fun l i => insertW (counts.getD i 0, [i]) l) []
  let lists := (List.range 15).foldl (fun l _ => (pairW l).foldl (fun m p => insertW p m) items) items
  let n := items.length
  let picked := (lists.take (2 * n - 2)).flatMap (·.2)
  (List.range counts.length).map fun i => if n = 1 then (if counts.getD i 0 = 0 then 0 else 1) else picked.count i

/-- The total bits of a table over counts. -/
def codeCost (counts lens : List Nat) : Nat := ((List.range counts.length).map fun i => counts.getD i 0 * lens.getD i 0).sum

/-- The lengths that the device chose among the least-cost codes (item 5): its own where they are such a code. -/
def chosenLens (i : Nat) (counts : List Nat) : List Nat :=
  let own := Config.codeLengths i counts
  let best := bestLens counts
  let covers := (List.range counts.length).all fun k => counts.getD k 0 == 0 || own.getD k 0 != 0
  if own.length = counts.length ∧ okTable own ∧ covers ∧ codeCost counts own ≤ codeCost counts best then own else best

/-- Bits, first one in bit 7 of the first byte, as bytes. -/
def bytesOfBits (b : List Bool) : List Byte :=
  (List.range ((b.length + 7) / 8)).map fun i =>
    (List.range 8).foldl (fun v k => v * 2 + BitVec.ofNat 8 (b.getD (8 * i + k) false).toNat) (0 : Byte)

/-- The bits of a symbol in a table. -/
def symBits (tab : List (Nat × Nat × Nat)) (s : Nat) : List Bool :=
  match tab.find? fun e => e.2.2 == s with
  | some (l, c, _) => (List.range l).map fun i => c.testBit (l - 1 - i)
  | none => []

/-- Cut a list into parts of n. -/
def chunksOf (n : Nat) (l : List Nat) : List (List Nat) :=
  (List.range (l.length / n)).map fun i => (l.drop (i * n)).take n

/-- The stored elements of panel p. -/
def Desc.panelElems (d : Desc) (raw : List (List Nat)) (bk bn p : Nat) : List Nat :=
  let (nk, nn) := d.panelGrid bk bn
  let ext := d.panelExt bk bn p
  let j := p / nk / nn
  (List.range ext.2).flatMap fun n => (List.range ext.1).map fun k =>
    (raw.getD (d.rowIx (p / nk % nn * bn + n) (j % d.size 2) (j / d.size 2)) []).getD (p % nk * bk + k) 0

/-- The stream of a vector-quantised or stored tensor: its bytes, its blocks, the STORED ones among them. -/
def Desc.compress (d : Desc) (i : Nat) (bk : Book) (raw : List (List Nat)) : List Byte × Nat × Nat :=
  let (pk, pn) := d.compPanel bk.vl
  let w := fmtBits d.fmt
  let e := bk.ents.length
  let vl := (bk.vl == 8).toNat
  let ps := (List.range (d.panelCount pk pn)).map fun p => (d.panelExt pk pn p, d.panelElems raw pk pn p)
  let codes := fun (p : Nat) =>
    let l := chunksOf bk.vl (ps.getD p ((0, 0), [])).2
    (List.range l.length).map fun k => nearest d.fmt bk.ents (Config.freeFp i (p * 65536 + k)).toNat (l.getD k [])
  let stored := fun (x : List Nat) => packBits (zeros ((x.length * w + 7) / 8)) 0 w x
  match d.comp with
  | 1 =>
    let cw := if e ≤ 256 then 0 else if e ≤ 1024 then 1 else 2
    let n := 8 + 2 * cw
    ((List.range ps.length).flatMap fun j =>
      let q := ps.getD j ((0, 0), [])
      let c := codes j
      mkBlock 1 (vl + 2 * cw) j 0 q.1.1 q.1.2 (packBits (zeros ((c.length * n + 7) / 8)) 0 n c), ps.length, 0)
  | 2 =>
    let cs := (List.range ps.length).map codes
    let counts := (List.range e).map fun s => (cs.map fun c => c.count s).sum
    let lens := chosenLens i counts
    let tab := canonical lens
    let parts := (List.range ps.length).map fun j =>
      let q := ps.getD j ((0, 0), [])
      let pay := bytesOfBits ((cs.getD j []).flatMap (symBits tab))
      let st := stored q.2
      if pay.length < st.length then (mkBlock 2 vl (j + 1) 0 q.1.1 q.1.2 pay, 0) else (mkBlock 3 0 (j + 1) 0 q.1.1 q.1.2 st, 1)
    (mkBlock 4 0 0 0 0 0 (lens.map (BitVec.ofNat 8)) ++ parts.flatMap (·.1), ps.length + 1, (parts.map (·.2)).sum)
  | _ =>
    ((List.range ps.length).flatMap fun j =>
      let q := ps.getD j ((0, 0), [])
      mkBlock 3 0 j 0 q.1.1 q.1.2 (stored q.2), ps.length, 0)

/-- The second-level scale of a factor, FP32 bits (R532). -/
def factorS2 (fmt : Nat) (x : Ten) : Nat := if fmt = 1 then 0x3F800000 else unitS2 (fmaxOf fmt) (x.flatMap id)

/-- The first-level code of block b of a factor's row. -/
def factorCode (fmt s2 : Nat) (row : List Val) (b : Nat) : Nat := blockCode (fmaxOf fmt) (f32 s2).toRat (blockOf row b)

/-- What element i of a factor's row is converted from; none in a null block. -/
def factorFrom (fmt s2 : Nat) (row : List Val) (i : Nat) : Option Val :=
  let v := row.getD i zeroV
  if fmt = 1 then some v
  else
    let c := factorCode fmt s2 row (i / 32)
    if c = 0 then none
    else match v with
      | .fin n y => some (.fin n (y / (codeQ c * (f32 s2).toRat)))
      | v => some v

/-- The elements of a factor whose conversions need a draw, by row * r + column (R360). -/
def factorNeed (fmt r : Nat) (x : Ten) : List Nat :=
  let s2 := factorS2 fmt x
  (List.range x.length).flatMap fun k =>
    let row := x.getD k []
    ((List.range row.length).filter fun i => match factorFrom fmt s2 row i with
      | some v => !represents fmt v
      | none => false).map fun i => k * r + i

/-- A factor written in a format: its second-level scale and its blocks' payloads with their rows (R532). -/
def factorPay (fmt r : Nat) (mode : Nat → Mode) (x : Ten) : Nat × List (Nat × List Byte) :=
  let s2 := factorS2 fmt x
  let bn := max 1 (((List.range (min x.length 32768)).filter fun n => factorLen fmt r (n + 1) ≤ 32768).length)
  let nb := ceilDiv r 32
  (s2, (List.range (ceilDiv x.length bn)).map fun j =>
    let rows := (x.drop (j * bn)).take bn
    let q := (List.range rows.length).flatMap fun k =>
      let row := rows.getD k []
      (List.range row.length).map fun i =>
        (factorFrom fmt s2 row i).elim 0 (convFmt fmt (mode ((j * bn + k) * r + i)))
    let e := packBits (zeros (rows.length * r * fmtBits fmt / 8)) 0 (fmtBits fmt) q
    let cs := rows.flatMap fun row => (List.range nb).map fun b => BitVec.ofNat 8 (factorCode fmt s2 row b)
    (rows.length, if fmt = 1 then e else fit (roundUp e.length 4) e ++ cs))

/-- The elements of two factors whose conversions need a draw. -/
def Desc.lowRankNeed (d : Desc) (r : Nat) (u v : Ten) : List Nat :=
  factorNeed d.fmt r u ++ (factorNeed d.fmt r v).map (· + 2 ^ 32)

/-- The stream of two factors: its bytes and its blocks (R528, R532). -/
def Desc.lowRank (d : Desc) (r : Nat) (mode : Nat → Mode) (u v : Ten) : List Byte × Nat :=
  let (s2u, bu) := factorPay d.fmt r mode u
  let (s2v, bv) := factorPay d.fmt r (fun k => mode (k + 2 ^ 32)) v
  let head := bytesOf 2 r ++ bytesOf 2 (d.size 1 - 1) ++ bytesOf 2 (d.size 0 - 1) ++ bytesOf 1 d.fmt ++ bytesOf 1 0 ++
    bytesOf 4 s2u ++ bytesOf 4 s2v
  let l := bu.map (fun q => (0, q)) ++ bv.map fun q => (1, q)
  (mkBlock 5 0 0 0 0 0 head ++ (List.range l.length).flatMap fun j =>
    let q := l.getD j (0, 0, [])
    mkBlock 6 q.1 (j + 1) 0 r q.2.1 q.2.2, l.length + 1)

end Sys2Proof.Machine
end

