-- ==== Sys2Proof/Machine/Engines.lean ====
section
/-! DEFINITION. What the matrix, convolution, vector and Pepper operations compute (chapters 7 to 9), and the codec's tensors. -/

namespace Sys2Proof.Machine

open Sys2Proof

/-- Why an op's result cannot be computed: a source that fails, or a damaged block (header address, check). -/
inductive Stop where
  | bad (b : Bad)
  | damaged (a chk : Nat)
  deriving DecidableEq, Repr

/-- An op's result: D's values, which of its rows are written, flags, the count of its result area, and whether its elements are a source's of
the same format without scales, which D takes exactly (Table 8.4). -/
structure Out where
  x : Ten
  keep : Nat → Bool
  flags : Nat
  count : Nat
  same : Bool

/-- A result that writes every row. -/
def Out.of (x : Ten) : Out := ⟨x, fun _ => true, 0, 0, false⟩

/-- A and D have one format without scales. -/
def Op.same (o : Op) : Bool := o.A.fmt == o.D.fmt && !o.A.scl && !o.D.scl

/-- A result whose elements are A's own. -/
def Out.moved (o : Op) (x : Ten) : Out := ⟨x, fun _ => true, 0, 0, o.same⟩

/-- A tensor rounded to FP32: the results of arithmetic on exactly decoded operands (R359, Table 8.4). -/
def Ten.f32 (t : Ten) : Ten := t.map fun r => r.map toF32

/-- A computation over the state that may stop. -/
abbrev Eng (α : Type) := State × Except Stop α

/-- Go on with a value. -/
def Eng.then {α β : Type} (e : Eng α) (f : State → α → Eng β) : Eng β :=
  match e with
  | (s, .error x) => (s, .error x)
  | (s, .ok a) => f s a

/-- A computation that may meet a bad source. -/
def engOf {α : Type} (e : State × Except Bad α) : Eng α :=
  match e with
  | (s, .ok t) => (s, .ok t)
  | (s, .error b) => (s, .error (.bad b))

/-- The value of an uncompressed operand. -/
def State.ten (s : State) (o : Op) (d : Desc) : Eng Ten := engOf (s.readTen o d)

/-- The value of an operand that may be a vector-quantised or stored stream. -/
def State.tenC (s : State) (o : Op) (d : Desc) (book : Option Desc) : Eng Ten :=
  if d.comp = 0 then s.ten o d
  else match s.readStream o d book with
    | (s, .failed) => (s, .error (.bad .read))
    | (s, .damaged a c) => (s, .error (.damaged a c))
    | (s, .ok st) =>
      match s.decodeRows o d.dense (st.raw d) with
      | (s, .ok t) => (s, .ok t)
      | (s, .error b) => (s, .error (.bad b))

/-- FP32 values from an address of the parameter block. -/
def State.vec (s : State) (o : Op) (a n : Nat) : Eng (List Val) :=
  let q := s.opRead o a (4 * n)
  (q.s, if q.ok then .ok ((List.range n).map fun i => f32 (recNat q.data (4 * i) 4)) else .error (.bad .read))

/-- The bias vector; empty without BIASEN. -/
def State.biasVec (s : State) (o : Op) : Eng (List Val) := if o.biasen then s.vec o o.bias.1 o.bias.2 else (s, .ok [])

/-- The old values of D where the op adds to them. -/
def State.oldD (s : State) (o : Op) : Eng Ten := if o.readsD then s.ten o o.D else (s, .ok [])

/-- The device's own FP32 patterns for an op's elements (log entry 16). -/
def devBits (i k : Nat) : Nat := (Config.freeFp i k).toNat

/-- Matrix-like finish: ALPHA, terms, bias and ACC terms, a bound added for padding, the activation (R399). -/
def finishDot (code : Nat) (clo chi alpha : Val) (terms extra : List Val) (kf more : Rat) (bits : Nat) : Val :=
  let bound := kf * uRnd * absQ alpha.toRat * sumAbs terms + 2 * uRnd * sumAbs extra + more
  act code clo chi (sumWithin (exMul alpha (sumX terms) :: extra) bound bits) bits

/-- The factor of the matrix-product row for n products (Table 8.4): integers without scales are exact. -/
def prodFactor (a b : Desc) (n : Nat) : Rat :=
  if a.fmt ≤ 7 then ((n + 4 : Nat) : Rat) else if a.scl || b.scl then ((ceilDiv n 32 + 4 : Nat) : Rat) else 0

/-! ## MX.MUL (R332) -/

/-- MX.MUL. -/
def State.mxMul (s : State) (o : Op) (i : Nat) : Eng Out :=
  let (d, a, b) := (o.D, o.A, o.B)
  (s.ten o a).then fun s ta => (s.tenC o b (o.xReg.map fun _ => o.X)).then fun s tb =>
  (s.oldD o).then fun s old => (s.biasVec o).then fun s bias =>
  let bd := if b.comp = 0 then b else b.dense
  let k := if o.tA then a.size 1 else a.size 0
  let alpha := f32 (o.num 20 4)
  (s, .ok (Out.of (d.build fun n m z _ e =>
    let terms := (List.range k).map fun j =>
      exMul (if o.tA then ta.at a m j z 0 else ta.at a j m z 0) (if o.tB then tb.at bd n j z 0 else tb.at bd j n z 0)
    let extra := (if o.biasen then [bias.getD n zeroV] else []) ++ (if o.acc then [old.at d n m z 0] else [])
    finishDot (o.byte 16 / 16) (f32 (o.num 32 4)) (f32 (o.num 36 4)) alpha terms extra (prodFactor a b k) 0 (devBits i e))))

/-! ## Convolution (R401 to R410) -/

/-- The window of a convolution or pooling op: strides, dilation, left and top padding. -/
structure Win where
  sx : Nat
  sy : Nat
  dx : Nat
  dy : Nat
  pl : Nat
  pt : Nat

/-- The window of an op's area. -/
def Op.win (o : Op) : Win := ⟨o.byte 17, o.byte 18, o.byte 22, o.byte 23, o.num 24 2, o.num 28 2⟩

/-- The input column of a tap; none in padding. -/
def tapAt (out s p k d w : Nat) : Option Nat :=
  let x := out * s + k * d
  if p ≤ x ∧ x - p < w then some (x - p) else none

/-- The taps (kx, ky) of a filter. -/
def taps (kw kh : Nat) : List (Nat × Nat) := (List.range kh).flatMap fun y => (List.range kw).map fun x => (x, y)

/-- One output of a forward convolution: terms inside the image and the filter sum over padded taps. -/
def convAt (w : Win) (wid hei kw kh cg : Nat) (inp : Nat → Nat → Nat → Val) (flt : Nat → Nat → Nat → Val) (xo yo : Nat) :
    List Val × List Val :=
  (taps kw kh).foldl (fun a (t : Nat × Nat) =>
    match tapAt xo w.sx w.pl t.1 w.dx wid, tapAt yo w.sy w.pt t.2 w.dy hei with
    | some x, some y => (a.1 ++ (List.range cg).map (fun c => exMul (inp c x y) (flt c t.1 t.2)), a.2)
    | _, _ => (a.1, a.2 ++ (List.range cg).map fun c => flt c t.1 t.2)) ([], [])

/-- Forward convolution over an image given by its elements, into the shape of d, whose row yo is output row rowOf yo; depthwise
where each output has one input channel. -/
def Op.forward (o : Op) (d : Desc) (rowOf : Nat → Nat) (i : Nat) (c wid hei : Nat) (bias : List Val) (fd : Desc) (tb : Ten)
    (exact : Bool) (scaled : Bool) (inp : Nat → Nat → Nat → Nat → Val) : Ten :=
  let dw := o.is 2 10
  let g := if dw then c else o.num 20 2
  let cg := c / g
  let cog := max 1 (d.size 0 / g)
  let padv := f32 (o.num 32 4)
  d.build fun co xo yo z e =>
    let grp := co / cog
    let flt := fun cc kx ky => if dw then tb.at fd co kx ky 0 else tb.at fd cc kx ky co
    let (terms, padded) := convAt o.win wid hei (fd.size 1) (fd.size 2) cg (fun cc x y => inp (grp * cg + cc) x y z) flt xo (rowOf yo)
    let n := terms.length
    let kf : Rat := if !exact then ((n + 4 : Nat) : Rat) else if scaled then ((ceilDiv n 32 + 4 : Nat) : Rat) else 0
    let pad := if padv.isZero ∨ padded.isEmpty then [] else [exMul padv (sumX padded)]
    let more : Rat := if pad.isEmpty then 0
      else ((cg * fd.size 1 * fd.size 2 + 4 : Nat) : Rat) * uRnd * absQ padv.toRat * sumAbs padded
    finishDot (o.byte 16 / 16) (f32 (o.num 44 4)) (f32 (o.num 48 4)) (valOf 1) terms
      ((if o.biasen then [bias.getD co zeroV] else []) ++ pad) kf more (devBits i e)

/-- CV.CONV mode 0, VX.DWCONV and PP.CONV. -/
def State.convForward (s : State) (o : Op) (i : Nat) : Eng Out :=
  let (a, b) := (o.A, o.B)
  (s.ten o a).then fun s ta => (s.tenC o b none).then fun s tb => (s.biasVec o).then fun s bias =>
  let fd := if b.comp = 0 then b else b.dense
  (s, .ok (Out.of (o.forward o.D id i (a.size 0) (a.size 1) (a.size 2) bias fd tb (decide (8 ≤ a.fmt) && decide (8 ≤ b.fmt)) (a.scl || b.scl)
    fun c x y z => ta.at a c x y z)))

/-- The output positions whose tap lands on an input position (R409). -/
def landing (x p k d s n : Nat) : Option Nat :=
  if k * d ≤ x + p ∧ (x + p - k * d) % s = 0 ∧ (x + p - k * d) / s < n then some ((x + p - k * d) / s) else none

/-- CV.CONV mode 1: the input gradient (R409). -/
def State.convInput (s : State) (o : Op) (i : Nat) : Eng Out :=
  let (d, a, b) := (o.D, o.A, o.B)
  (s.ten o a).then fun s ta => (s.tenC o b none).then fun s tb =>
  let fd := if b.comp = 0 then b else b.dense
  let g := o.num 20 2
  let cg := d.size 0 / g
  let cog := a.size 0 / g
  let w := o.win
  (s, .ok (Out.of (d.build fun c x y z e =>
    let terms := (taps (fd.size 1) (fd.size 2)).flatMap fun t =>
      match landing x w.pl t.1 w.dx w.sx (a.size 1), landing y w.pt t.2 w.dy w.sy (a.size 2) with
      | some xo, some yo => (List.range cog).map fun q =>
          exMul (tb.at fd (c % cg) t.1 t.2 (c / cg * cog + q)) (ta.at a (c / cg * cog + q) xo yo z)
      | _, _ => []
    finishDot 0 zeroV zeroV (valOf 1) terms [] (prodFactor a b terms.length) 0 (devBits i e))))

/-- CV.CONV mode 2: the filter gradient (R410). -/
def State.convFilter (s : State) (o : Op) (i : Nat) : Eng Out :=
  let (d, a, b) := (o.D, o.A, o.B)
  (s.ten o a).then fun s ta => (s.ten o b).then fun s tb => (s.oldD o).then fun s old =>
  let g := o.num 20 2
  let cg := a.size 0 / g
  let cog := b.size 0 / g
  let w := o.win
  let padv := f32 (o.num 32 4)
  let pos := (List.range (b.size 3)).flatMap fun z => (List.range (b.size 2)).flatMap fun y => (List.range (b.size 1)).map fun x => (x, y, z)
  (s, .ok (Out.of (d.build fun cc kx ky co e =>
    let (terms, padded) := pos.foldl (fun acc (p : Nat × Nat × Nat) =>
      let q := tb.at b co p.1 p.2.1 p.2.2
      match tapAt p.1 w.sx w.pl kx w.dx (a.size 1), tapAt p.2.1 w.sy w.pt ky w.dy (a.size 2) with
      | some x, some y => (acc.1 ++ [exMul (ta.at a (co / cog * cg + cc) x y p.2.2) q], acc.2)
      | _, _ => (acc.1, acc.2 ++ [q])) (([] : List Val), ([] : List Val))
    let pad := if padv.isZero ∨ padded.isEmpty then [] else [exMul padv (sumX padded)]
    let more : Rat := if pad.isEmpty then 0 else ((padded.length + 4 : Nat) : Rat) * uRnd * absQ padv.toRat * sumAbs padded
    finishDot 0 zeroV zeroV (valOf 1) terms (pad ++ if o.acc then [old.at d cc kx ky co] else []) (prodFactor a b terms.length) more
      (devBits i e))))

/-! ## VX (R337) -/

/-- VX.POOL (R411). -/
def Op.pool (o : Op) (i : Nat) (ta : Ten) : Ten :=
  let (d, a) := (o.D, o.A)
  let w := o.win
  d.build fun c xo yo z e =>
    let vals := (taps (o.byte 19) (o.byte 20)).filterMap fun t =>
      match tapAt xo w.sx w.pl t.1 w.dx (a.size 1), tapAt yo w.sy w.pt t.2 w.dy (a.size 2) with
      | some x, some y => some (ta.at a c x y z)
      | _, _ => none
    let n := if o.byte 16 = 2 then o.byte 19 * o.byte 20 else vals.length
    match vals with
    | [] => zeroV
    | h :: t =>
      if o.byte 16 = 0 then t.foldl fMax h
      else sumWithin (vals.map fun v => exMul v (valOf (1 / (n : Nat)))) (((vals.length + 1 : Nat) : Rat) * uRnd * sumAbs vals) (devBits i e)

/-- A row's values of a broadcast operand. -/
def Ten.rowOf (t : Ten) (b : Desc) (n i1 i2 i3 : Nat) : List Val := (List.range n).map fun i0 => t.at b i0 i1 i2 i3

/-- A power of a rational by repeated squaring, cut at each step. -/
def powQ (q : Rat) (n : Nat) : Rat :=
  ((List.range 32).foldl (fun (a : Rat × Rat) k => (if n.testBit k then cutQ (a.1 * a.2) else a.1, cutQ (a.2 * a.2))) (1, q)).1

/-- STEP of VX.OPT; 0 counts as 1 (R385). -/
def Op.step (o : Op) : Nat := max 1 (o.num 40 4)

/-- R386 with every operation in FP32: the new weight, and the new m and u. -/
def Op.optFp (o : Op) (g w m u : Val) : Val × Val × Val :=
  let p := fun k => f32 (o.num k 4)
  let (lr, b1, b2, eps, wd) := (p 20, p 24, p 28, p 32, p 36)
  let one := valOf 1
  let bias := fun (b : Val) => f32Of false (1 - powQ b.toRat o.step)
  if o.byte 16 = 0 then
    let m' := fAdd (fMul b1 m) g
    (fSub w (fMul lr (fAdd m' (fMul wd w))), m', zeroV)
  else
    let m' := fAdd (fMul b1 m) (fMul (fSub one b1) g)
    let v := fAdd (fMul (fMul b2 u) u) (fMul (fMul (fSub one b2) g) g)
    let q := fDiv (fDiv m' (bias b1)) (fAdd (fSqrt (fDiv v (bias b2))) eps)
    (fSub w (fMul lr (fAdd q (fMul wd w))), m', fSqrt v)

/-- R386 exactly, on finite numbers. -/
def Op.optQ (o : Op) (g w m u : Rat) : Rat × Rat × Rat :=
  let p := fun k => (f32 (o.num k 4)).toRat
  let (lr, b1, b2, eps, wd) := (p 20, p 24, p 28, p 32, p 36)
  if o.byte 16 = 0 then
    let m' := b1 * m + g
    (w - lr * (m' + wd * w), m', 0)
  else
    let m' := b1 * m + (1 - b1) * g
    let v := b2 * u * u + (1 - b2) * g * g
    let mh := m' / (1 - powQ b1 o.step)
    let vh := v / (1 - powQ b2 o.step)
    (w - lr * (mh / (rootQ vh + eps) + wd * w), m', rootQ v)

/-- One element of VX.OPT (R386): the new weight, and the new m and u, within their bounds; on values that are not finite, what FP32
arithmetic gives (R359). -/
def Op.optElem (o : Op) (g w m u : Val) (bits : Nat → Nat) : Val × Val × Val :=
  let f := o.optFp g w m u
  let q := if g.isFin && w.isFin && m.isFin && u.isFin then o.optQ g.toRat w.toRat m.toRat u.toRat
    else (f.1.toRat, f.2.1.toRat, f.2.2.toRat)
  let near := fun (v : Val) (q : Rat) k =>
    if v.isFin || (g.isFin && w.isFin && m.isFin && u.isFin) then within v.neg q (16 * uRnd * absQ q) (bits k) else v
  (near f.1 q.1 0, near f.2.1 q.2.1 1, near f.2.2 q.2.2 2)

/-- VX.OPT: the new weights and the new state (R383 to R386). -/
def State.opt (s : State) (o : Op) (i : Nat) : Eng (Ten × Ten) :=
  let (d, a, b) := (o.D, o.A, o.B)
  (s.ten o a).then fun s ta => (s.ten o b).then fun s tb => (s.ten o d).then fun s td =>
  let kind := o.byte 16
  let at_ := fun (h i0 i1 i2 i3 : Nat) =>
    if kind = 0 then tb.at b i0 i1 i2 i3
    else match d.rank with
      | 0 => tb.at b i0 h 0 0
      | 1 => tb.at b i0 i1 h 0
      | _ => tb.at b i0 i1 i2 h
  let el := fun (i0 i1 i2 i3 : Nat) =>
    o.optElem (ta.at a i0 i1 i2 i3) (td.at d i0 i1 i2 i3) (at_ 0 i0 i1 i2 i3) (at_ 1 i0 i1 i2 i3)
      fun k => devBits i (3 * (i0 + d.size 0 * d.rowIx i1 i2 i3) + k)
  let w := d.build fun i0 i1 i2 i3 _ => (el i0 i1 i2 i3).1
  let st := b.build fun i0 i1 i2 i3 _ =>
    if kind = 0 then (el i0 i1 i2 i3).2.1
    else
      let pick := fun h q => if h = 0 then q.2.1 else q.2.2
      match d.rank with
      | 0 => pick i1 (el i0 0 0 0)
      | 1 => pick i2 (el i0 i1 0 0)
      | _ => pick i3 (el i0 i1 i2 0)
  (s, .ok (w, st))

/-- Rotate the rows of a tensor by a descriptor's ROT (R373). -/
def rotate (n : Nat) (i : Nat) (t : Ten) : Ten :=
  if n = 1 then t
  else (List.range t.length).map fun r => let row := t.getD r []; hadRow n row fun k => devBits i (r * row.length + k)

/-- VX.SELECT: the places of the elements above the threshold (R340). -/
def Op.select (o : Op) (ta : Ten) : List (Nat × Nat) :=
  let a := o.A
  let thr := f32 (o.num 20 4)
  (List.range (a.size 1)).flatMap fun i1 => (List.range (a.size 0)).filterMap fun i0 =>
    let v := ta.at a i0 i1 0 0
    if fGt (if o.flag 16 0 then fAbs v else v) thr then some (i0, i1) else none

/-- The vector operations but VX.OPT: computed on exactly decoded operands, their results in FP32; copies, conversions and moves pass their
elements on as they are. -/
def State.vx (s : State) (o : Op) (i : Nat) : Eng Out :=
  let (d, a, b) := (o.D, o.A, o.B)
  let p0 := f32 (o.num 20 4)
  let one := fun (f : Ten → Ten) => (s.ten o a).then fun s ta => ((s, .ok (Out.of (f ta).f32)) : Eng Out)
  let pass := fun (f : Ten → Ten) => (s.ten o a).then fun s ta => ((s, .ok (Out.moved o (f ta))) : Eng Out)
  match o.opc with
  | 0 => if o.byte 16 = 0 then pass id
    else one fun ta => d.build fun i0 i1 i2 i3 e => ew1 (o.byte 16) p0 (f32 (o.num 24 4)) (ta.at a i0 i1 i2 i3) (devBits i e)
  | 1 => (s.ten o a).then fun s ta => (s.ten o b).then fun s tb =>
      (s, .ok (Out.of (d.build fun i0 i1 i2 i3 _ => ew2 (o.byte 16) (ta.at a i0 i1 i2 i3) (tb.at b i0 i1 i2 i3)).f32))
  | 2 => (s.ten o a).then fun s ta => (s.ten o b).then fun s tb => (s.ten o o.X).then fun s tx =>
      (s, .ok (Out.of (d.build fun i0 i1 i2 i3 _ => fFma (ta.at a i0 i1 i2 i3) (tb.at b i0 i1 i2 i3) (tx.at o.X i0 i1 i2 i3))))
  | 3 => one fun ta => d.build fun i0 i1 i2 i3 e =>
      let ax := o.byte 17
      redV (o.byte 16) ((List.range (a.size ax)).map fun k =>
        ta.at a (if ax = 0 then k else i0) (if ax = 1 then k else i1) (if ax = 2 then k else i2) (if ax = 3 then k else i3)) (devBits i e)
  | 4 =>
    (s.ten o a).then fun s ta => (if o.usesB then s.ten o b else (s, .ok [])).then fun s tb =>
      (s, .ok (Out.of (d.rows.map fun (i1, i2, i3) =>
        let z := (List.range (d.size 0)).map fun i0 =>
          let v := exMul (ta.at a i0 i1 i2 i3) p0
          if o.usesB then addX v (tb.at b i0 i1 i2 i3) else v
        softmaxRow z fun k => devBits i (k + d.size 0 * d.rowIx i1 i2 i3))))
  | 5 =>
    (s.ten o a).then fun s ta => (s.ten o b).then fun s tb =>
    (if o.xReg.isSome then s.ten o o.X else (s, .ok [])).then fun s tx =>
      (s, .ok (Out.of (d.rows.map fun (i1, i2, i3) =>
        normRow (o.byte 16 == 1) p0 (ta.rowOf a (a.size 0) i1 i2 i3) (tb.getD 0 []) (tx.getD 0 [])
          fun k => devBits i (k + d.size 0 * d.rowIx i1 i2 i3))))
  | 6 => pass fun ta => rotate (if a.rot = d.rot then 1 else d.rotN) i ta
  | 7 => pass fun ta => rotate (if a.rot = d.rot then 1 else a.rotN) i ta
  | 8 => one fun ta => d.build fun i0 i1 i2 i3 _ => amaxV (blockOf (ta.getD (a.rowIx i1 i2 i3) []) i0)
  | 9 => one fun ta => o.pool i ta
  | 10 => s.convForward o i
  | 11 => one fun ta => rotate (if o.flag 16 0 then 128 else 32) i ta
  | 13 => pass fun ta => d.build fun i0 i1 i2 i3 _ =>
      if o.byte 16 = 0 then ta.at a i1 i0 i2 i3 else if o.byte 16 = 1 then ta.at a i2 i1 i0 i3 else ta.at a i0 i2 i1 i3
  | 14 => (s.ten o a).then fun s ta => (s.ten o b).then fun s tb =>
      let ix := (tb.getD 0 []).map fun v => v.toRat.floor
      let oob := fun (k : Int) => decide (k < 0) || decide ((a.size 1 : Int) ≤ k)
      (s, .ok ⟨d.build fun i0 i1 _ _ _ => let k := ix.getD i1 (-1); if oob k then zeroV else ta.at a i0 k.toNat 0 0,
        fun _ => true, if ix.any oob then flIdxoob else 0, 0, o.same⟩)
  | 15 => (s.ten o a).then fun s ta =>
      let l := o.select ta
      (s, .ok ⟨d.build fun i0 i1 _ _ _ => let q := l.getD i1 (0, 0); valOf ((if i0 = 0 then q.1 else q.2 : Nat)),
        fun r => decide (r < l.length), 0, min l.length (2 ^ 31 - 1), false⟩)
  | 16 => (s, .ok (Out.of (d.build fun _ _ _ _ _ => p0)))
  | _ => (s, .ok (Out.of []))

/-! ## CX.EXPAND -/

/-- CX.EXPAND (R521, R530), with the number of blocks decoded. -/
def State.expand (s : State) (o : Op) (i : Nat) : Eng (Ten × Nat) :=
  let a := o.A
  match s.readStream o a (if o.usesB then some o.B else none) with
  | (s, .failed) => (s, .error (.bad .read))
  | (s, .damaged x c) => (s, .error (.damaged x c))
  | (s, .ok st) =>
    if a.comp = 3 then (s, .ok (st.product a (devBits i), st.n))
    else match s.decodeRows o a.dense (st.raw a) with
      | (s, .ok t) => (s, .ok (t, st.n))
      | (s, .error b) => (s, .error (.bad b))

/-- CX.COMPRESS: the stream's bytes, its blocks, the STORED ones among a packed stream's (R531, R532). -/
def State.compressOp (s : State) (o : Op) (i : Nat) : Eng (List Byte × Nat × Nat) :=
  let (d, a, b) := (o.D, o.A, o.B)
  if d.comp = 3 then
    (s.ten o a).then fun s u => (s.ten o b).then fun s v =>
      let (s, mode) := s.modes o (lfKey 6 (thClu o.th) 0) (d.lowRankNeed (o.num 16 2) u v)
      let q := d.lowRank (o.num 16 2) mode u v
      (s, .ok (q.1, q.2, 0))
  else
    match s.readRaw o a with
    | (s, none) => (s, .error (.bad .read))
    | (s, some raw) =>
      match s.readBook o (if o.usesB then some b else none) with
      | (s, none) => (s, .error (.bad .read))
      | (s, some bk) => (s, .ok (d.compress i bk raw))

end Sys2Proof.Machine
end

