-- ==== Sys2Proof/Machine/Pools.lean ====
section
/-! DEFINITION. Pools of pages and page-table slots, epochs and reference counts (R443 to R449, R486), and the reads and writes
of the attention walker through an op's translation. -/

namespace Sys2Proof.Machine

open Sys2Proof

/-! ## Pools: class c 0 to 8 is a page pool, 9 the table pool -/

/-- The key of a pool's free list. -/
def poolKey (p c : Nat) : Nat := p * 16 + c
/-- The base of a pool's objects. -/
def State.poolBase (s : State) (p c : Nat) : Nat :=
  if c = 9 then s.rf (Addr.awPartTpoolBase p) 47 0 else s.rf (Addr.awPartPoolBase p c) 47 0
/-- The base of a pool's records. -/
def State.poolRec (s : State) (p c : Nat) : Nat :=
  if c = 9 then s.rf (Addr.awPartTpoolRec p) 47 0 else s.rf (Addr.awPartPoolRec p c) 47 0
/-- The configuration register of a pool. -/
def poolCfg (p c : Nat) : Nat := if c = 9 then Addr.awPartTpoolCfg p else Addr.awPartPoolCfg p c
/-- The status register of a pool. -/
def poolStat (p c : Nat) : Nat := if c = 9 then Addr.awPartTstat p else Addr.awPartPoolStat p c
/-- Bytes of an object. -/
def objSize (c : Nat) : Nat := if c = 9 then 576 else 4096 * 2 ^ c

/-- The object of a pool at a device address; none outside the pool. -/
def State.objOf (s : State) (p c a : Nat) : Option Nat :=
  let b := s.poolBase p c
  let i := (a - b) / objSize c
  if b ≤ a ∧ (a - b) % objSize c = 0 ∧ i < s.rf (poolCfg p c) 23 0 then some i else none

/-- Field of object i's record: n bytes from byte k. -/
def State.recGet (s : State) (p c i k n : Nat) : Nat := s.peekNat (s.poolRec p c + 16 * i + k) n
/-- Write n bytes of object i's record from byte k. -/
def State.recPut (s : State) (p c i k n v : Nat) : State := s.writeMem p (s.poolRec p c + 16 * i + k) (bytesOf n v)

/-- Set a pool's free list and NFREE. -/
def State.putPool (s : State) (p c : Nat) (l : List Nat) : State :=
  (s.setPool (poolKey p c) l).wf (poolStat p c) 63 40 l.length

/-- The partition's epoch. -/
def State.epoch (s : State) (p : Nat) : Nat := s.rf (Addr.awPartEpoch p) 63 0

/-- The least epoch that an AT op of the partition holds, or the current one (R446). -/
def State.safeEpoch (s : State) (p : Nat) : Nat :=
  ((s.ops.filter fun o => !o.done && o.part == p && o.cls == 3 && o.start.isSome).map fun o => o.aux.getD 0 0).foldl min (s.epoch p)

/-- Allocate an object: the head of the free list when its epoch is safe; its device address (R447). -/
def State.alloc (s : State) (p c : Nat) : Option Nat × State :=
  if !s.rb (poolCfg p c) 31 then (none, s)
  else match s.pool (poolKey p c) with
    | i :: rest =>
      if s.recGet p c i 8 8 < s.safeEpoch p then
        (some (s.poolBase p c + i * objSize c), ((s.recPut p c i 0 2 1).recPut p c i 2 1 1).putPool p c rest)
      else (none, s.sat (poolStat p c) 39 24 1)
    | [] => (none, s.sat (poolStat p c) 39 24 1)

/-- Retire object i: FREEEP takes the epoch, which advances; a corrupt object is not appended to the list (R445, R448). -/
def State.retireObj (s : State) (p c i : Nat) : State :=
  let s := (s.recPut p c i 8 8 (s.epoch p)).inc (Addr.awPartEpoch p) 63 0 1
  if s.recGet p c i 2 1 = 2 then s.sat (poolStat p c) 23 8 1
  else (s.recPut p c i 2 1 0).putPool p c (s.pool (poolKey p c) ++ [i])

/-- Release the object at a device address (R448, R449). -/
def State.releaseObj (s : State) (p c : Nat) (a : Option Nat) : State :=
  match a.bind (s.objOf p c) with
  | none => s.wb (poolStat p c) 0 true
  | some i =>
    let n := s.recGet p c i 0 2
    if n = 0 then s.wb (poolStat p c) 0 true
    else
      let s := s.recPut p c i 0 2 (n - 1)
      if n = 1 then s.retireObj p c i else s

/-- A write of a pool's CFG: every record reads REFCNT 0, STATE FREE, FREEEP 0, and the list is in index order (R486); no object is held
out of use any more (R448). -/
def State.poolCfgWrite (s : State) (p c : Nat) (new : W64) : State :=
  let s := s.wr (poolCfg p c) new
  let n := fld new 23 0
  let lo := s.poolRec p c
  let hi := lo + 16 * n
  let s := { s with mem := Sparse.keep (fun k => !(decide (lo ≤ k) && decide (k < hi))) s.mem }
  (s.putPool p c (List.range n)).wf (poolStat p c) 23 8 0

/-- A partition or the supervisor program allocates through a register: the address as it sees it, or 0. -/
def State.allocReg (s : State) (view p c : Nat) : W64 × State :=
  match s.alloc p c with
  | (some a, s) => (BitVec.ofNat 64 (s.asSeen view a), s)
  | (none, s) => (0, s)

/-- A release through a register: the address is the writer's. -/
def State.freeReg (s : State) (view p c a : Nat) : State := s.releaseObj p c (s.devAddr view .read a 1)

/-! ## Accesses of an op -/

/-- Bytes at the op's address as they stand. -/
def State.opPeek (s : State) (o : Op) (a n : Nat) : List Byte :=
  match translate o.segs .read a n with
  | some d => if s.memAddr d then s.peek d n else zeros n
  | none => zeros n

/-- A number at the op's address as it stands. -/
def State.opPeekNat (s : State) (o : Op) (a n : Nat) : Nat := natOf (s.opPeek o a n)

/-- Bytes at the op's address, read with checks. -/
def State.eread (s : State) (o : Op) (a n : Nat) : Eng (List Byte) :=
  let q := s.opRead o a n
  (q.s, if q.ok then .ok q.data else .error (.bad .read))

/-- Run a computation over a list, keeping the answers in order. -/
def eachE {α β : Type} (l : List α) (f : State → α → Eng β) (s : State) : Eng (List β) :=
  l.foldl (fun (a : Eng (List β)) x => a.then fun s out => (f s x).then fun s y => (s, .ok (out ++ [y]))) (s, .ok [])

/-- A device address as the op's thread sees it. -/
def Op.seen (o : Op) (d : Nat) : Nat :=
  match o.segs.find? fun g => decide (g.ta ≤ d) && decide (d < g.ta + g.size) with
  | some g => g.pa + (d - g.ta)
  | none => d

/-- The device address of an op's address. -/
def Op.dev (o : Op) (a : Nat) : Option Nat := translate o.segs .read a 1

end Sys2Proof.Machine
end

