-- ==== Sys2Proof/Machine/Attention.lean ====
section
/-! DEFINITION. The attention walker: sequences, page tables, AT.ATTN, AT.APPEND, AT.PREFIX, AT.FORK and AT.FREE (chapter 10). -/

namespace Sys2Proof.Machine

open Sys2Proof

/-! ## Records -/

/-- A sequence descriptor (Table 10.1). -/
structure Sq where
  ok : Bool
  head : Nat
  pclass : Nat
  tppl : Nat
  kvh : Nat
  hd : Nat
  kfmt : Nat
  kvq : Bool
  vfmt : Nat
  vvq : Bool
  layer : Nat
  ks2 : Nat
  vs2 : Nat
  kcb : Nat
  kcbn : Nat
  vcb : Nat
  vcbn : Nat
  deriving DecidableEq, Repr

/-- Codes per vector length and width of a VQ side: vector length, code width, entries. -/
def cbOf (n : Nat) : Nat × Nat × Nat :=
  (if n.testBit 12 then 8 else 4, [8, 10, 12].getD (n / 8192 % 4) 8, n % 4096 + 1)

/-- Bytes of one key or value row of a page (Table 10.2). -/
def rowBytes (hd fmt : Nat) (vq : Bool) (cbn : Nat) : Nat :=
  if vq then let (vl, cw, _) := cbOf cbn; ceilDiv (hd / vl * cw) 8 else hd * fmtBits fmt / 8

/-- Tokens of a page. -/
def Sq.tpp (q : Sq) : Nat := 2 ^ q.tppl
/-- Bytes of a key row. -/
def Sq.kRow (q : Sq) : Nat := rowBytes q.hd q.kfmt q.kvq q.kcbn
/-- Bytes of a value row. -/
def Sq.vRow (q : Sq) : Nat := rowBytes q.hd q.vfmt q.vvq q.vcbn
/-- Rows of a page. -/
def Sq.rows (q : Sq) : Nat := q.kvh * q.tpp
/-- First-level codes of a row; none for BF16 and VQ. -/
def sRow (hd fmt : Nat) (vq : Bool) : Nat := if vq || fmt == 1 then 0 else hd / 32
/-- The offsets of the value, key-scale and value-scale areas, and the end. -/
def Sq.areas (q : Sq) : Nat × Nat × Nat × Nat :=
  let v := roundUp (q.rows * q.kRow) 64
  let ks := v + roundUp (q.rows * q.vRow) 64
  let vs := ks + roundUp (q.rows * sRow q.hd q.kfmt q.kvq) 64
  (v, ks, vs, vs + roundUp (q.rows * sRow q.hd q.vfmt q.vvq) 64)

/-- One side's format byte is allowed (R431). -/
def sideOk (b n : Nat) : Bool :=
  (b / 32 == 0 && [1, 3, 4, 7, 9].contains (b % 32)) || (b == 32 && decide (n / 8192 % 4 ≤ 2) && decide (n < 32768))

/-- The fields of a descriptor's bytes; ok says that it is accepted (R431, R434). -/
def sqOf (b : List Byte) : Sq :=
  let n := fun i k => recNat b i k
  let q : Sq :=
    { ok := true, head := n 0 8, pclass := n 8 1, tppl := n 9 1, kvh := n 10 1 + 1, hd := (n 11 1 + 1) * 32, kfmt := n 12 1 % 32,
      kvq := n 12 1 / 32 == 1, vfmt := n 13 1 % 32, vvq := n 13 1 / 32 == 1, layer := n 14 1, ks2 := n 16 4, vs2 := n 20 4,
      kcb := n 24 6, kcbn := n 30 2, vcb := n 32 6, vcbn := n 38 2 }
  let fields := decide (q.pclass ≤ 8) && decide (4 ≤ q.tppl) && decide (q.tppl ≤ 12) && decide (q.kvh ≤ 64) && decide (q.hd ≤ 256) &&
    sideOk (n 12 1) (n 30 2) && sideOk (n 13 1) (n 38 2) && decide (q.layer ≤ 63) && n 15 1 == 0 && okS2 q.ks2 && okS2 q.vs2 &&
    (b.drop 40).all (· == 0)
  { q with ok := fields && decide (q.areas.2.2.2 ≤ objSize q.pclass) }

/-- The root address and generation of a HEAD. -/
def headRoot (h : Nat) : Nat := h % 2 ^ 48
/-- The next HEAD: GEN + 1 and a root (R439). -/
def nextHead (h root : Nat) : Nat := (h / 2 ^ 48 + 1) % 65536 * 2 ^ 48 + root

/-- A root and its leaves (Tables 10.3, 10.4): page entries by leaf; a leaf without address has none. -/
structure Root where
  len : Nat
  pdepth : Nat
  ndrop : Nat
  pref : Nat
  leaves : List Nat
  ents : List (List Nat)
  deriving DecidableEq, Repr

/-- The empty root. -/
def root0 : Root := ⟨0, 0, 0, 0, List.replicate 64 0, List.replicate 64 []⟩

/-- Read a root. -/
def State.readRoot (s : State) (o : Op) (a : Nat) : Eng Root :=
  if a = 0 then (s, .ok root0)
  else (s.eread o a 576).then fun s b =>
    let leaves := (List.range 64).map fun i => recNat b (64 + 8 * i) 8
    (eachE leaves (fun s l => if l = 0 then (s, .ok []) else
      (s.eread o l 512).then fun s e => (s, .ok ((List.range 64).map fun i => recNat e (8 * i) 8))) s).then fun s ents =>
    (s, .ok ⟨recNat b 0 2, recNat b 2 2, recNat b 4 2, recNat b 8 6, leaves, ents⟩)

/-- The entry of page n. -/
def Root.ent (r : Root) (n : Nat) : Nat := (r.ents.getD (n / 64) []).getD (n % 64) 0
/-- The state of an entry: 0 absent, 1 present, 2 dropped. -/
def entSt (e : Nat) : Nat := e / 2 ^ 62 % 4
/-- The page of an entry. -/
def entPage (e : Nat) : Nat := e / 4096 % 2 ^ 36 * 4096
/-- A present entry. -/
def mkEnt (a : Nat) : Nat := 2 ^ 62 + a / 4096 * 4096
/-- Pages that hold own tokens. -/
def Root.pages (r : Root) (q : Sq) : Nat := ceilDiv r.len q.tpp

/-- Put an entry. -/
def Root.put (r : Root) (n e : Nat) : Root :=
  let l := r.ents.getD (n / 64) []
  let l := if l.isEmpty then List.replicate 64 0 else l
  { r with ents := r.ents.set (n / 64) (l.set (n % 64) e) }

/-- The bytes of a root with its leaves at addresses. -/
def Root.bytes (r : Root) (leaves : List Nat) : List Byte :=
  bytesOf 2 r.len ++ bytesOf 2 r.pdepth ++ bytesOf 2 r.ndrop ++ zeros 2 ++ bytesOf 6 r.pref ++ zeros 50 ++ leaves.flatMap (bytesOf 8)

/-- The sequences an AT op names, by descriptor address, in order: those of its list, of AT.FORK both, of AT.FREE one. -/
def State.seqAddrs (s : State) (o : Op) : List Nat :=
  match o.opc with
  | 0 | 1 => (List.range (o.num 22 2)).map fun i => s.opPeekNat o (o.num 16 6 + 16 * i) 6
  | 3 => [o.num 16 6, o.num 24 6]
  | 4 => [o.num 16 6]
  | _ => []

/-- What an AT op keeps when it starts: its epoch and the HEAD of every sequence it names (R440, R446). -/
def State.snapshot (s : State) (o : Op) : List Nat := s.epoch o.part :: (s.seqAddrs o).map fun a => s.opPeekNat o a 8

/-- A descriptor address is allowed (R430). -/
def State.seqPlace (s : State) (o : Op) (a : Nat) : Bool := a % 64 == 0 && (s.areaDev o ⟨3, a, 64, .read, .list, .free⟩).isSome

/-- Read the descriptor at an address. -/
def State.readSq (s : State) (o : Op) (a : Nat) : Eng Sq :=
  if s.seqPlace o a then (s.eread o a 64).then fun s b => (s, .ok (sqOf b)) else (s, .ok { sqOf (zeros 64) with ok := false })

/-! ## AT.ATTN (R459 to R467) -/

/-- The decoded row of one side: element row with its scale codes, or codebook entries (R435, R436). -/
def State.kvRow (s : State) (o : Op) (page rowA scaleA hd fmt : Nat) (vq : Bool) (s2 cb cbn : Nat) : Eng (List Val) :=
  (s.eread o rowA (rowBytes hd fmt vq cbn)).then fun s b =>
  let s2q := f32 s2
  if vq && !s.rb (Addr.cxStat (thClu o.th)) 0 then (s, .error (.bad .read))
  else if vq then
    let (vl, cw, n) := cbOf cbn
    let codes := unpackBits b 0 cw (hd / vl)
    if codes.any fun c => decide (n ≤ c) then (s, .error (.damaged page 6))
    else (eachE codes (fun s c => s.eread o (cb + 2 * vl * c) (2 * vl)) s).then fun s l =>
      (s, .ok (l.flatMap fun e => (List.range vl).map fun i => exMul (decodeFmt 1 (recNat e (2 * i) 2)) s2q))
  else
    let q := unpackBits b 0 (fmtBits fmt) hd
    if fmt = 1 then (s, .ok (q.map fun x => exMul (decodeFmt 1 x) s2q))
    else (s.eread o scaleA (hd / 32)).then fun s c =>
      let codes := c.map (·.toNat)
      if codes.all okCode then (s, .ok ((List.range hd).map fun i =>
        let code := codes.getD (i / 32) 0
        if code = 0 then zeroV else exMul (decodeFmt fmt (q.getD i 0)) (exMul (valOf (codeQ code)) s2q)))
      else (s, .error (.bad (.scale scaleA)))

/-- Key and value of token t of a page for key-value head h. -/
def State.kvAt (s : State) (o : Op) (q : Sq) (page h t : Nat) : Eng (List Val × List Val) :=
  let r := h * q.tpp + t
  let (v, ks, vs, _) := q.areas
  (s.kvRow o page (page + r * q.kRow) (page + ks + r * sRow q.hd q.kfmt q.kvq) q.hd q.kfmt q.kvq q.ks2 q.kcb q.kcbn).then fun s k =>
  (s.kvRow o page (page + v + r * q.vRow) (page + vs + r * sRow q.hd q.vfmt q.vvq) q.hd q.vfmt q.vvq q.vs2 q.vcb q.vcbn).then fun s w =>
  (s, .ok (k, w))

/-- The prefix pages from a node up to depth 1, lowest depth first; none where a node does not serve the layer (R477). -/
def State.prefixPages (s : State) (o : Op) (layer : Nat) : Nat → Nat → Eng (Option (List Nat))
  | 0, _ => (s, .ok (some []))
  | d + 1, a => (s.eread o a 576).then fun s b =>
    let e := recNat b (64 + 8 * layer) 8
    if recNat b 22 1 ≤ layer ∨ entSt e ≠ 1 then (s, .ok none)
    else (s.prefixPages o layer d (recNat b 8 6)).then fun s l => (s, .ok (l.map (· ++ [entPage e])))

/-- What an entry of a sequence list came to. -/
structure EntRes where
  status : Nat
  first : Nat
  bucket : Option Nat
  pages : Nat
  rows : List (List (List Val))
  deriving DecidableEq, Repr

/-- An entry that only has a status. -/
def EntRes.of (st : Nat) : EntRes := ⟨st, 0, none, 0, []⟩

/-- A list entry: descriptor address, NROW, ROW0. -/
def entryOf (b : List Byte) (i : Nat) : Nat × Nat × Nat := (recNat b (16 * i) 6, recNat b (16 * i + 6) 2, recNat b (16 * i + 8) 2)

/-- The rows of entry i are accepted: within A, and no other entry's (R466). -/
def rowsOk (l : List (Nat × Nat × Nat)) (size1 i : Nat) : Bool :=
  let (_, n, r) := l.getD i (0, 0, 0)
  decide (1 ≤ n) && decide (n ≤ 16384) && decide (r + n ≤ size1) &&
  (List.range l.length).all fun j => j == i || (let (_, m, q) := l.getD j (0, 0, 0); decide (q + m ≤ r) || decide (r + n ≤ q))

/-- One output row: softmax over the attended keys, weighting the values, within the bounds of Table 8.4. A NaN among the scores, or scores
of −∞ alone, makes the row NaN, one among an element's values that element (R359); for a score of +∞ or an infinite value no rule states the
result: free values (log entry 17). -/
def attnRow (scale : Val) (qv : List Val) (kv : List (List Val × List Val)) (hd : Nat) (bits : Nat → Nat) : List Val :=
  if kv.isEmpty then List.replicate hd zeroV
  else
    let dots := kv.map fun e => (qv.zip e.1).map fun x => exMul x.1 x.2
    let z := dots.map fun l => exMul scale (sumX l)
    let nan := z.any Val.isNan || z.all (· == .inf true)
    let open_ := z.any (· == .inf false)
    if nan then List.replicate hd qNaN
    else
      let fin := z.filter Val.isFin
      let top := maxQ ((fin.headD zeroV).toRat) (fin.map Val.toRat)
      let e := z.map fun x => if x.isFin then expQ (x.toRat - top) else 0
      let sum := e.foldl (· + ·) 0
      let n : Rat := (kv.length : Nat)
      let delta := maxQ 0 (dots.map fun l => ((hd + 4 : Nat) : Rat) * uRnd * absQ scale.toRat * sumAbs l)
      let rel := expQ (2 * min delta 60) * (1 + (2 * n + 16) * uRnd) * (1 + (n + 4) * uRnd) - 1
      (List.range hd).map fun k =>
        let col := kv.map fun q => q.2.getD k zeroV
        if col.any Val.isNan then qNaN
        else if open_ || col.any (fun v => !v.isFin) then openV (bits k)
        else
          let terms := (e.zip col).map fun q => q.1 / sum * q.2.toRat
          within (col.all fun v => v.isZero && v.neg) (terms.foldl (· + ·) 0) (rel * (terms.map absQ).foldl (· + ·) 0) (bits k)

/-- The bucket of a context length (R464). -/
def bucketOf (n : Nat) : Nat := ((List.range 9).find? fun b => decide (n ≤ 64 * 2 ^ b)).getD 8

/-- The record state of the page at an op's address. -/
def State.pageState (s : State) (o : Op) (c a : Nat) : Nat :=
  match (o.dev a).bind (s.objOf o.part c) with
  | some i => s.recGet o.part c i 2 1
  | none => 1

/-- One entry of AT.ATTN. -/
def State.attnEntry (s : State) (o : Op) (i : Nat) (ta : Ten) (heads : List Nat) (l : List (Nat × Nat × Nat)) (ix : Nat) : Eng EntRes :=
  let a := o.A
  let (addr, nrow, row0) := l.getD ix (0, 0, 0)
  if !rowsOk l (a.size 1) ix then (s, .ok (.of 4))
  else (s.readSq o addr).then fun s q =>
  if !q.ok || q.hd != a.size 0 || a.size 2 % q.kvh != 0 then (s, .ok (.of 6))
  else
    let root := headRoot (heads.getD ix 0)
    let width := a.size 0
    if root = 0 then (s, .ok ⟨5, 0, some (bucketOf 0), 0, List.replicate nrow (List.replicate (a.size 2) (List.replicate width zeroV))⟩)
    else (s.readRoot o root).then fun s r =>
    let pre := o.flag 28 1 && r.pdepth != 0
    if pre && q.tppl != 6 then (s, .ok (.of 6))
    else (if pre then s.prefixPages o q.layer r.pdepth r.pref else (s, .ok (some []))).then fun s pp =>
    match pp with
    | none => (s, .ok (.of 6))
    | some pp =>
      let own := (List.range (r.pages q)).map r.ent
      let p := 64 * pp.length
      let total := p + r.len
      if own.any fun e => entSt e == 0 || entSt e == 3 then (s, .ok (.of 6))
      else if own.any fun e => entSt e == 2 then
        (s, .ok ⟨1, ((List.range own.length).find? fun n => entSt (own.getD n 0) == 2).getD 0 * q.tpp, none, 0, []⟩)
      else
        let pages := pp ++ own.map entPage
        if pages.any fun a => s.pageState o q.pclass a == 2 then (s, .ok (.of 8))
        else
          let toks := ((List.range p).map fun j => (pp.getD (j / 64) 0, j % 64)) ++
            ((List.range r.len).map fun j => (entPage (r.ent (j / q.tpp)), j % q.tpp))
          (eachE (List.range q.kvh) (fun s h => eachE toks (fun s t => s.kvAt o q t.1 h t.2) s) s).then fun s kv =>
          let row := fun (k h : Nat) =>
            let att := if o.flag 28 0 then total + k + 1 - nrow else total
            let r0 := row0 + k
            attnRow (f32 (o.num 24 4)) ((List.range width).map fun e => ta.at a e r0 h 0)
              ((kv.getD (h * q.kvh / a.size 2) []).take att) width fun e => devBits i (e + width * a.rowIx r0 h 0)
          let s := if q.kvq || q.vvq then (s.inc (Addr.cxCnt0 (thClu o.th)) 63 32 pages.length).countOps 5 (thClu o.th) pages.length else s
          (s, .ok ⟨0, 0, some (bucketOf total), pages.length, (List.range nrow).map fun k => (List.range (a.size 2)).map fun h => row k h⟩)

/-- Write the statuses of a sequence list. -/
def State.writeList (s : State) (o : Op) (l : List EntRes) : State :=
  (List.range l.length).foldl (fun s i =>
    let e := l.getD i (.of 0)
    let a := o.num 16 6 + 16 * i
    (s.opStore o (a + 10) (bytesOf 1 e.status)).opStore o (a + 12) (bytesOf 2 e.first)) s

/-- The entries whose status is neither OK nor EMPTY (R467). -/
def badEntries (l : List EntRes) : Nat := (l.filter fun e => e.status != 0 && e.status != 5).length

/-- AT.ATTN: D's values, the rows written, the count; statuses and counters are written. -/
def State.attn (s : State) (o : Op) (i : Nat) : Eng Out :=
  let a := o.A
  let n := o.num 22 2
  let c := thClu o.th
  (s.ten o a).then fun s ta => (s.eread o (o.num 16 6) (16 * n)).then fun s b =>
  let l := (List.range n).map (entryOf b)
  (eachE (List.range n) (fun s ix => s.attnEntry o i ta (o.aux.drop 1) l ix) s).then fun s res =>
  let s := s.writeList o res
  let s := res.foldl (fun s e => match e.bucket with | some k => s.inc (Addr.awBkt c k) 31 0 1 | none => s) s
  let s := s.inc (Addr.awCnt0 c) 63 32 ((res.map (·.pages)).foldl (· + ·) 0)
  let owner := fun (r : Nat) => (List.range n).find? fun ix =>
    let e := res.getD ix (.of 4); let (_, m, r0) := l.getD ix (0, 0, 0)
    (e.status == 0 || e.status == 5) && decide (r0 ≤ r) && decide (r < r0 + m)
  (s, .ok ⟨o.D.build fun i0 i1 i2 _ _ =>
      match owner i1 with
      | some ix => ((((res.getD ix (.of 4)).rows.getD (i1 - (l.getD ix (0, 0, 0)).2.2) []).getD i2 []).getD i0 zeroV)
      | none => zeroV,
    fun r => (owner (r % o.D.size 1)).isSome, 0, badEntries res, false⟩)

/-! ## AT.APPEND (R451 to R458) -/

/-- An element of a BF16 side, divided by s2. -/
def overS2 (s2 : Nat) : Val → Val
  | .fin n m => .fin n (m / (f32 s2).toRat)
  | v => v

/-- The first-level code of a block of a row (R456); an infinite magnitude is beyond every quotient. -/
def sideCode (fmt s2 : Nat) (x : List Val) : Nat :=
  if x.any fun v => !v.isFin && !v.isNan then 0x7E else blockCode (fmaxOf fmt) (f32 s2).toRat x

/-- A block's quotient exceeds 448: it saturates (R456). -/
def sideFar (fmt s2 : Nat) (x : List Val) : Bool :=
  (x.any fun v => !v.isFin && !v.isNan) || decide (448 * fmaxOf fmt * (f32 s2).toRat < maxQ 0 (finAbs x))

/-- The shape and the computed scales of one side's row (R456). -/
def sideScales (fmt s2 : Nat) (x : List Val) : Desc × Scales :=
  ({ descOf 0 with fmt := fmt, dim := [x.length - 1, 0, 0, 0], scl := true, s2mode := 1 },
   ⟨(List.range (x.length / 32)).map fun b => sideCode fmt s2 (blockOf x b), [s2], []⟩)

/-- The elements of one side's row whose conversions need a draw (R360, R457). -/
def sideNeed (fmt : Nat) (vq : Bool) (s2 : Nat) (x : List Val) : List Nat :=
  if vq then []
  else if fmt = 1 then (List.range x.length).filter fun i => !represents 1 (overS2 s2 (x.getD i zeroV))
  else
    let q := sideScales fmt s2 x
    (List.range x.length).filter fun i => q.1.draws (some q.2) 0 i (x.getD i zeroV)

/-- One side's rows quantised (R456): stored elements, first-level codes, whether something saturated. -/
def quantSide (fmt : Nat) (vq : Bool) (s2 : Nat) (cbk : List (List Val)) (vl : Nat) (mode : Nat → Mode) (free : Nat → Nat) (x : List Val) :
    List Nat × List Nat × Bool :=
  let s2v := f32 s2
  if vq then
    let y := x.map fun v => fDiv v s2v
    ((List.range (x.length / vl)).map fun k => leastDist (free k) (cbk.map fun e => distF32 ((y.drop (k * vl)).take vl) e), [], false)
  else if fmt = 1 then
    ((List.range x.length).map fun i => convFmt 1 (mode i) (overS2 s2 (x.getD i zeroV)), [], false)
  else
    let q := sideScales fmt s2 x
    let l := (List.range x.length).map fun i => convElem q.1 (some q.2) 0 i false (mode i) (x.getD i zeroV)
    (l.map Conv.q, q.2.codes, l.any Conv.sat || (List.range (x.length / 32)).any fun b => sideFar fmt s2 (blockOf x b))

/-- Write one side of a token: its quantised row, with draws of the walker's LFSR (R457), and its scale codes where there are any. -/
def State.putSide (s : State) (o : Op) (r base sbase fmt : Nat) (vq : Bool) (s2 cbn : Nat) (cbk : List (List Val)) (row : Nat)
    (x : List Val) : State × Bool :=
  let cb := cbOf cbn
  let (s, mode) := s.modes o (lfKey 3 (thClu o.th) 0) (sideNeed fmt vq s2 x)
  let (i, s) := s.fresh
  let y := quantSide fmt vq s2 cbk cb.1 mode (fun k => (Config.freeFp i k).toNat) x
  let s := s.opStore o (base + r * row) (packBits (zeros row) 0 (if vq then cb.2.1 else fmtBits fmt) y.1)
  (if y.2.1.isEmpty then s else s.opStore o (sbase + r * y.2.1.length) (y.2.1.map (BitVec.ofNat 8)), y.2.2)

/-- Write token t of key-value head h to a page. -/
def State.putToken (s : State) (o : Op) (q : Sq) (page h t : Nat) (kb vb : List (List Val)) (k v : List Val) : State × Bool :=
  let r := h * q.tpp + t
  let (va, ks, vs, _) := q.areas
  let x := s.putSide o r page (page + ks) q.kfmt q.kvq q.ks2 q.kcbn kb q.kRow k
  let y := x.1.putSide o r (page + va) (page + vs) q.vfmt q.vvq q.vs2 q.vcbn vb q.vRow v
  (y.1, x.2 || y.2)

/-- The positions of NROW new tokens (R454): the dropped pages refilled, or the places from LEN on; none is REFILL. -/
def Root.places (r : Root) (q : Sq) (nrow : Nat) : Option (List Nat × List Nat) :=
  let drop := (List.range (r.pages q)).filter fun n => entSt (r.ent n) == 2
  let toks := fun n => (List.range (min q.tpp (r.len - n * q.tpp))).map fun t => n * q.tpp + t
  if drop.isEmpty then some ((List.range nrow).map (r.len + ·), [])
  else ((List.range drop.length).find? fun k => ((drop.take (k + 1)).flatMap toks).length == nrow).map fun k =>
    ((drop.take (k + 1)).flatMap toks, drop.take (k + 1))

/-- What an edit builds: the objects it allocated (pool, address as the op sees it), the pages it replaced. -/
structure Edit where
  got : List (Nat × Nat)
  replaced : List Nat
  sat : Bool

/-- Allocate for an edit. -/
def State.editAlloc (s : State) (o : Op) (c : Nat) (e : Edit) : Option Nat × State × Edit :=
  match s.alloc o.part c with
  | (some d, s) => (some (o.seen d), s, { e with got := e.got ++ [(c, o.seen d)] })
  | (none, s) => (none, s, e)

/-- Release objects. -/
def State.releaseAllOf (s : State) (o : Op) (l : List (Nat × Nat)) : State :=
  l.foldl (fun s x => s.releaseObj o.part x.1 (o.dev x.2)) s

/-- Allocate an object for an edit and write it; its address, none when the pool has none. -/
def State.editPut (s : State) (o : Op) (e : Edit) (bs : List Byte) : Option Nat × State × Edit :=
  match s.editAlloc o 9 e with
  | (some x, s, e) => (some x, s.opStore o x bs, e)
  | (none, s, e) => (none, s, e)

/-- Allocate and write the changed leaves: the addresses of all leaves, none when the pool has no object. -/
def State.editLeaves (s : State) (o : Op) (r : Root) (changed : List Nat) (e : Edit) : Option (List Nat) × State × Edit :=
  changed.foldl (fun (a : Option (List Nat) × State × Edit) n =>
    match a.1 with
    | none => a
    | some l =>
      let x := a.2.1.editPut o a.2.2 ((r.ents.getD n []).flatMap (bytesOf 8))
      (x.1.map (l.set n ·), x.2)) (some r.leaves, s, e)

/-- Allocate and write the changed leaves and the root; the root's address, none when a pool has no object. -/
def State.buildRoot (s : State) (o : Op) (r : Root) (changed : List Nat) (e : Edit) : Option Nat × State × Edit :=
  let lv := s.editLeaves o r changed e
  match lv.1 with
  | none => (none, lv.2)
  | some l => lv.2.1.editPut o lv.2.2 (r.bytes l)

/-- The outcome of one attempt of an append. -/
inductive Try1 where
  | done (st : Nat) (sat : Bool)
  | again
  deriving DecidableEq, Repr

/-- The object of a sequence's page pool at an op's address. -/
def State.pageObj (s : State) (o : Op) (q : Sq) (a : Nat) : Option Nat := (o.dev a).bind (s.objOf o.part q.pclass)

/-- A page has more than one reference. -/
def State.pageShared (s : State) (o : Op) (q : Sq) (a : Nat) : Bool :=
  match s.pageObj o q a with
  | some k => decide (1 < s.recGet o.part q.pclass k 0 2)
  | none => false

/-- Make page n of a sequence ready for new tokens: an own page stays, any other is replaced by an allocated one, with its content
where it is present; none when the pool has no object. -/
def State.editPage (s : State) (o : Op) (q : Sq) (r : Root) (m : List (Nat × Nat)) (e : Edit) (n : Nat) :
    Option (Root × List (Nat × Nat)) × State × Edit :=
  let old := r.ent n
  if entSt old = 1 ∧ !s.pageShared o q (entPage old) then (some (r, m ++ [(n, entPage old)]), s, e)
  else match s.editAlloc o q.pclass e with
    | (none, s, e) => (none, s, e)
    | (some p, s, e) =>
      if entSt old = 1 then
        (some (r.put n (mkEnt p), m ++ [(n, p)]), s.opStore o p (s.opPeek o (entPage old) (objSize q.pclass)),
          { e with replaced := e.replaced ++ [entPage old] })
      else (some (r.put n (mkEnt p), m ++ [(n, p)]), s, e)

/-- Make pages ready, until one cannot be. -/
def State.editPages (s : State) (o : Op) (q : Sq) (r : Root) (pages : List Nat) : Option (Root × List (Nat × Nat)) × State × Edit :=
  pages.foldl (fun (x : Option (Root × List (Nat × Nat)) × State × Edit) n =>
    match x.1 with
    | none => x
    | some y => x.2.1.editPage o q y.1 y.2 x.2.2 n) (some (r, []), s, ⟨[], [], false⟩)

/-- Publish an append: the new HEAD, the replaced pages and the old root and leaves released, the tokens counted. -/
def State.publish (s : State) (o : Op) (q : Sq) (addr nrow head root : Nat) (r : Root) (changed : List Nat) (e : Edit) : State :=
  let s := s.opStore o addr (bytesOf 8 (nextHead head root))
  let s := s.releaseAllOf o (e.replaced.map fun p => (q.pclass, p))
  let s := if headRoot head = 0 then s else s.releaseAllOf o [(9, headRoot head)]
  let s := s.releaseAllOf o ((changed.filterMap fun n => let l := r.leaves.getD n 0; if l = 0 then none else some (9, l)))
  s.inc (Addr.awCnt0 (thClu o.th)) 31 0 nrow

/-- Write the new tokens of an append at their places, on the pages m; whether an element saturated. -/
def State.putTokens (s : State) (o : Op) (q : Sq) (nrow row0 : Nat) (pos : List Nat) (m : List (Nat × Nat)) (ta tb : Ten)
    (kb vb : List (List Val)) : State × Bool :=
  let toks := (List.range nrow).flatMap fun k => (List.range q.kvh).map fun h => (k, h)
  toks.foldl (fun (w : State × Bool) (kh : Nat × Nat) =>
    let p := pos.getD kh.1 0
    let page := ((m.find? fun z => z.1 == p / q.tpp).map (·.2)).getD 0
    let col := fun (t : Ten) (d : Desc) => (List.range q.hd).map fun e => t.at d e (row0 + kh.1) kh.2 0
    let y := w.1.putToken o q page kh.2 (p % q.tpp) kb vb (col ta o.A) (col tb o.B)
    (y.1, w.2 || y.2)) (s, false)

/-- Free bytes over the token rows that an append wrote in place (R442). -/
def State.undefTokens (s : State) (o : Op) (q : Sq) (r : Root) (pos : List Nat) (m : List (Nat × Nat)) : State :=
  let (va, ks, vs, _) := q.areas
  let toks := (pos.filter fun p => m.any fun z => z.1 == p / q.tpp && z.2 == entPage (r.ent (p / q.tpp))).flatMap fun p =>
    (List.range q.kvh).map fun h => (entPage (r.ent (p / q.tpp)), h * q.tpp + p % q.tpp)
  let kc := sRow q.hd q.kfmt q.kvq
  let vc := sRow q.hd q.vfmt q.vvq
  let rows := toks.flatMap fun (t : Nat × Nat) => [(t.1 + t.2 * q.kRow, q.kRow), (t.1 + va + t.2 * q.vRow, q.vRow),
    (t.1 + ks + t.2 * kc, kc), (t.1 + vs + t.2 * vc, vc)]
  let (i, s) := s.fresh
  rows.foldl (fun s (w : Nat × Nat) => s.opStore o w.1 ((List.range w.2).map fun k => Config.freeByte i (w.1 + k))) s

/-- The end of an append's attempt: leaves and root allocated and written, and published where HEAD still is the snapshot's. -/
def State.appendEnd (s : State) (o : Op) (q : Sq) (addr nrow head : Nat) (forced sat : Bool) (r r' : Root) (e : Edit) : Eng Try1 :=
  let changed := (List.range 64).filter fun n => r'.ents.getD n [] != r.ents.getD n []
  match s.buildRoot o r' changed e with
  | (none, s, e) => (s.releaseAllOf o e.got, .ok (.done 2 false))
  | (some root, s, e) =>
    if forced ∨ s.opPeekNat o addr 8 ≠ head then (s.releaseAllOf o e.got, .ok .again)
    else (s.publish o q addr nrow head root r changed e, .ok (.done 0 sat))

/-- One attempt to append an entry under a snapshot (R455). Where another modification ran at the same time, the token rows that both may
have written are undefined (R442). forced says that others keep changing HEAD. A context that would pass 16,384
tokens is not appended to, also where it has grown since the op's first check (R341, log entry 149). -/
def State.appendTry (s : State) (o : Op) (q : Sq) (addr nrow row0 head : Nat) (forced : Bool) (ta tb : Ten)
    (kb vb : List (List Val)) : Eng Try1 :=
  (s.readRoot o (headRoot head)).then fun s r =>
  if 16384 < 64 * r.pdepth + r.len + nrow then (s, .ok (.done 3 false))
  else match r.places q nrow with
  | none => (s, .ok (.done 9 false))
  | some (pos, refilled) =>
    match s.editPages o q r (pos.map (· / q.tpp)).dedup with
    | (none, s, e) => (s.releaseAllOf o e.got, .ok (.done 2 false))
    | (some (r', m), s, e) =>
      let w := s.putTokens o q nrow row0 pos m ta tb kb vb
      let s := if w.1.opPeekNat o addr 8 = head then w.1 else w.1.undefTokens o q r pos m
      s.appendEnd o q addr nrow head forced w.2 r
        { r' with len := max r.len ((pos.foldl max 0) + 1), ndrop := r.ndrop - refilled.length } e

/-- An append: an attempt, and n more under new snapshots; CONFLICT when HEAD has changed under each (R441). -/
def State.appendLoop (s : State) (o : Op) (q : Sq) (addr nrow row0 : Nat) (forced : Bool) (ta tb : Ten)
    (kb vb : List (List Val)) : Nat → Nat → Eng (Nat × Bool)
  | n, head => (s.appendTry o q addr nrow row0 head forced ta tb kb vb).then fun s r =>
    match r, n with
    | .done st sat, _ => (s, .ok (st, sat))
    | .again, 0 => (s, .ok (7, false))
    | .again, n + 1 => (s.sat (Addr.awCnt1 (thClu o.th)) 47 32 1).appendLoop o q addr nrow row0 forced ta tb kb vb n (s.opPeekNat o addr 8)

/-- The entries of a codebook. -/
def State.readCb (s : State) (o : Op) (vq : Bool) (cb cbn : Nat) : Eng (List (List Val)) :=
  if !vq then (s, .ok [])
  else if !s.rb (Addr.cxStat (thClu o.th)) 0 then (s, .error (.bad .read))
  else
    let (vl, _, n) := cbOf cbn
    (s.eread o cb (2 * vl * n)).then fun s b =>
      (s, .ok ((List.range n).map fun k => (List.range vl).map fun j => decodeFmt 1 (recNat b (2 * (k * vl + j)) 2)))

/-- One entry of AT.APPEND. -/
def State.appendEntry (s : State) (o : Op) (ta tb : Ten) (conf : List Nat) (l : List (Nat × Nat × Nat)) (ix : Nat) :
    Eng (Nat × Bool) :=
  let a := o.A
  let (addr, nrow, row0) := l.getD ix (0, 0, 0)
  if !rowsOk l (a.size 1) ix then (s, .ok (4, false))
  else (s.readSq o addr).then fun s q =>
  if !q.ok || q.hd != a.size 0 || q.kvh != a.size 2 then (s, .ok (6, false))
  else (s.readCb o q.kvq q.kcb q.kcbn).then fun s kb => (s.readCb o q.vvq q.vcb q.vcbn).then fun s vb =>
    s.appendLoop o q addr nrow row0 (conf.contains ix) ta tb kb vb 16 ((o.aux.drop 1).getD ix 0)

/-- An entry would pass the limit of 16,384 tokens (R452). -/
def State.overLimit (s : State) (o : Op) (l : List (Nat × Nat × Nat)) (ix : Nat) : Eng Bool :=
  let (_, nrow, _) := l.getD ix (0, 0, 0)
  let root := headRoot ((o.aux.drop 1).getD ix 0)
  if root = 0 then (s, .ok (decide (16384 < nrow)))
  else (s.eread o root 64).then fun s b => (s, .ok (decide (16384 < 64 * recNat b 2 2 + recNat b 0 2 + nrow)))

/-- What an AT op that writes no tensor came to: the ticket status, its flags, the count, the values of the result area. -/
structure AtRes where
  status : Nat
  flags : Nat
  count : Nat
  vals : List W64

/-- AT.APPEND: an entry whose sources fail ends the op with ERROR, it and those after it not done. -/
def State.append (s : State) (o : Op) (conf : List Nat) : Eng AtRes :=
  let n := o.num 22 2
  (s.ten o o.A).then fun s ta => (s.ten o o.B).then fun s tb => (s.eread o (o.num 16 6) (16 * n)).then fun s b =>
  let l := (List.range n).map (entryOf b)
  (eachE (List.range n) (fun s ix => s.overLimit o l ix) s).then fun s lim =>
  if lim.any id then
    let res := (List.range n).map fun ix => EntRes.of (if lim.getD ix false then 3 else 10)
    (s.writeList o res, .ok ⟨3, 0, n, []⟩)
  else
    let x := (List.range n).foldl (fun (x : State × List EntRes × Bool × Bool) ix =>
      if x.2.2.2 then (x.1, x.2.1 ++ [.of 10], x.2.2)
      else
        let r := x.1.appendEntry o ta tb conf l ix
        match r.2 with
        | .ok y => (r.1, x.2.1 ++ [.of y.1], x.2.2.1 || y.2, false)
        | .error _ => (r.1, x.2.1 ++ [.of 10], x.2.2.1, true)) (s, [], false, false)
    let (s, res, sat, err) := x
    (s.writeList o res, .ok ⟨if err || res.any (fun e => e.status == 3) then 3 else 0, if sat then flSat else 0, badEntries res, []⟩)

/-! ## AT.FORK and AT.FREE (R470 to R472) -/

/-- A fork refused: no change, counted (R471). -/
def State.forkRefused (s : State) (o : Op) : Eng AtRes := (s.sat (Addr.awCnt1 (thClu o.th)) 31 16 1, .ok ⟨0, 0, 0, []⟩)

/-- A page cannot be referred to n more times. -/
def State.pageFull (s : State) (o : Op) (q : Sq) (a n : Nat) : Bool :=
  match s.pageObj o q a with
  | some k => decide (65535 < s.recGet o.part q.pclass k 0 2 + n)
  | none => false

/-- Count one more reference of each page of a list. -/
def State.sharePages (s : State) (o : Op) (q : Sq) (ents : List Nat) : State :=
  ents.foldl (fun s a => match s.pageObj o q a with
    | some k => s.recPut o.part q.pclass k 0 2 (s.recGet o.part q.pclass k 0 2 + 1)
    | none => s) s

/-- AT.FORK. -/
def State.fork (s : State) (o : Op) : Eng AtRes :=
  let src := o.num 16 6
  let dst := o.num 24 6
  (s.readSq o src).then fun s q =>
  let h := o.aux.getD 1 0
  if !q.ok || !s.seqPlace o dst || s.opPeekNat o dst 8 != 0 then s.forkRefused o
  else (s.eread o (src + 8) 56).then fun s body =>
  if headRoot h = 0 then (s.opStore o (dst + 8) body, .ok ⟨0, 0, 0, []⟩)
  else (s.readRoot o (headRoot h)).then fun s r =>
  let ents := ((r.ents.flatMap id).filter fun e => entSt e == 1).map entPage
  let node := s.opPeekNat o (r.pref + 40) 4
  if ents.any (fun a => s.pageFull o q a (ents.filter (· == a)).length) || (r.pref != 0 && decide (65535 ≤ node)) then s.forkRefused o
  else
    let changed := (List.range 64).filter fun n => r.leaves.getD n 0 != 0
    match s.buildRoot o r changed ⟨[], [], false⟩ with
    | (none, s, e) => (s.releaseAllOf o e.got).forkRefused o
    | (some root, s, _) =>
      let s := s.sharePages o q ents
      let s := if r.pref = 0 then s else s.opStore o (r.pref + 40) (bytesOf 4 (node + 1))
      let s := (s.opStore o (dst + 8) body).opStore o dst (bytesOf 8 (nextHead 0 root))
      (s, .ok ⟨0, 0, ents.length, []⟩)

/-- AT.FREE: published against the HEAD as it stands, with a retry counted where the snapshot's has gone. -/
def State.freeSeq (s : State) (o : Op) : Eng AtRes :=
  let a := o.num 16 6
  (s.readSq o a).then fun s q =>
  if !q.ok then (s, .ok ⟨0, 0, 0, []⟩)
  else
    let h := q.head
    let s := if h = o.aux.getD 1 0 then s else s.sat (Addr.awCnt1 (thClu o.th)) 47 32 1
    (s.readRoot o (headRoot h)).then fun s r =>
    let ents := ((r.ents.flatMap id).filter fun e => entSt e == 1).map entPage
    let s := s.opStore o a (bytesOf 8 (nextHead h 0))
    let s := s.releaseAllOf o (ents.map fun p => (q.pclass, p))
    let s := if headRoot h = 0 then s else s.releaseAllOf o [(9, headRoot h)]
    let s := s.releaseAllOf o ((r.leaves.filter (· != 0)).map fun l => (9, l))
    let s := if r.pref = 0 then s else s.opStore o (r.pref + 40) (bytesOf 4 (s.opPeekNat o (r.pref + 40) 4 + (2 ^ 32 - 1)))
    (s, .ok ⟨0, 0, ents.length, []⟩)

/-! ## AT.PREFIX (R477 to R480) -/

/-- Scan the children of a node, at most n: the first that matches; true where the limit stopped the scan (R479). -/
def State.findChild (s : State) (o : Op) (hash : Nat) (toks : List Byte) : Nat → Nat → Eng (Option Nat × Bool)
  | n, a =>
    if a = 0 then (s, .ok (none, false))
    else match n with
    | 0 => (s, .ok (none, true))
    | n + 1 => (s.eread o a 64).then fun s b =>
      if (recNat b 23 1).testBit 0 && recNat b 40 4 != 0xFFFFFFFF && recNat b 0 8 == hash then
        (s.eread o (recNat b 16 6) 256).then fun s t =>
          if t = toks then (s, .ok (some a, false)) else s.findChild o hash toks n (recNat b 32 6)
      else s.findChild o hash toks n (recNat b 32 6)

/-- Descend the tree over the blocks of tokens: the nodes reached, deepest first, and whether a scan hit the limit. -/
def State.descend (s : State) (o : Op) : List (List Byte) → BitVec 64 → Nat → List Nat → Eng (List Nat × Bool)
  | [], _, _, acc => (s, .ok (acc, false))
  | blk :: rest, h, node, acc =>
    let h := crc64 h blk
    (s.eread o (node + 24) 6).then fun s b =>
    (s.findChild o h.toNat blk 64 (natOf b)).then fun s r =>
    match r with
    | (some a, _) => s.descend o rest h a (a :: acc)
    | (none, lim) => (s, .ok (acc, lim))

/-- AT.PREFIX. -/
def State.prefixLookup (s : State) (o : Op) : Eng AtRes :=
  let tree := s.rf (Addr.awPartTree o.part) 47 0
  let n := o.num 22 2 / 64
  if tree = 0 then (s, .ok ⟨0, 0, 0, [0]⟩)
  else (s.eread o (o.num 16 6) (256 * n)).then fun s b =>
  let blocks := (List.range n).map fun k => (b.drop (256 * k)).take 256
  (s.descend o blocks 0 tree []).then fun s r =>
  let s := if r.2 then s.sat (Addr.awCnt1 (thClu o.th)) 63 48 1 else s
  match r.1.find? fun a => s.opPeekNat o (a + 40) 4 != 0xFFFFFFFF with
  | some a => (s.opStore o (a + 40) (bytesOf 4 (s.opPeekNat o (a + 40) 4 + 1)),
      .ok ⟨0, 0, 64 * s.opPeekNat o (a + 14) 2, [BitVec.ofNat 64 a]⟩)
  | none => (s, .ok ⟨0, 0, 0, [0]⟩)

/-- The AT operations that write no tensor. -/
def State.atOp (s : State) (o : Op) (conf : List Nat) : Eng AtRes :=
  match o.opc with
  | 1 => s.append o conf
  | 2 => s.prefixLookup o
  | 3 => s.fork o
  | _ => s.freeSeq o

/-- A VQ page is corrupt at rest: its record's STATE is CORRUPT, and it is counted (R475). -/
def State.corruptPage (s : State) (o : Op) (a : Nat) : State :=
  let s := s.sat (Addr.awCnt1 (thClu o.th)) 15 0 1
  (List.range 9).foldl (fun s c => match (o.dev a).bind (s.objOf o.part c) with
    | some k => s.recPut o.part c k 2 1 2
    | none => s) s

end Sys2Proof.Machine
end

