-- ==== Sys2Proof/Machine/SeqEngine.lean ====
section
/-! DEFINITION. The sequence engine: streams, the recurrences and kernels, swaps (chapter 11). -/

namespace Sys2Proof.Machine

open Sys2Proof

/-! ## Streams (R488 to R493) -/

/-- A stream's channels. -/
def State.sqC (s : State) (c k : Nat) : Nat := s.rf (Addr.sqStrCfg c k) 11 0 + 1
/-- A stream's state length. -/
def State.sqN (s : State) (c k : Nat) : Nat := s.rf (Addr.sqStrCfg c k) 25 20 + 1
/-- A stream's residency: 0 ZERO, 1 RESIDENT, 2 OUT, 3 SWAPIN, 4 SWAPOUT, 5 FAILED (Table 11.1). -/
def State.sqRes (s : State) (c k : Nat) : Nat := s.rf (Addr.sqStrStat c k) 34 32
/-- Set a stream's residency. -/
def State.setSqRes (s : State) (c k r : Nat) : State := s.wf (Addr.sqStrStat c k) 34 32 r
/-- Bytes of a state image. -/
def State.imgLen (s : State) (c k : Nat) : Nat := s.sqC c k * s.sqN c k * 4
/-- A handle is valid (R489). -/
def State.validHandle (s : State) (c h : Nat) : Bool :=
  decide (h < 2 ^ 24) && s.rb (Addr.sqStrCfg c (h % 256)) 31 && s.rf (Addr.sqStrStat c (h % 256)) 23 8 == h / 256 && decide (0 < h / 256)

/-- The handle-table address of an SQ op; 0 for none. -/
def Op.handles (o : Op) : Nat := o.num 18 6

/-- The handle table as it stands. -/
def State.handlesOf (s : State) (o : Op) : List Nat :=
  if o.handles = 0 then [] else (List.range o.sqRows).map fun r => s.opPeekNat o (o.handles + 4 * r) 4

/-- An op names slot k; aux holds the handles of its table as they stood at acceptance. -/
def Op.names (o : Op) (c k : Nat) : Bool := o.cls == 4 && thClu o.th == c && o.aux.any fun h => h % 256 == k

/-- Streams enabled (SQ_STAT.NLIVE). -/
def State.sqLiveSync (s : State) (c : Nat) : State :=
  s.wf (Addr.sqStat c) 24 16 ((List.range 256).filter fun k => s.rb (Addr.sqStrCfg c k) 31).length

/-- A write of SQ_STRs_CFG (R489, R492). -/
def State.sqCfgWrite (s : State) (c k : Nat) (new : W64) : State :=
  let r := s.sqRes c k
  if r = 3 ∨ r = 4 ∨ s.ops.any (fun o => !o.done && o.names c k) then s.wb (Addr.sqStrStat c k) 40 true
  else
    let g := s.rf (Addr.sqStrStat c k) 23 8
    let g := if g + 1 ≥ 65536 then 1 else g + 1
    let s := s.wr (Addr.sqStrCfg c k) new
    let s := (((s.setSqRes c k 0).wb (Addr.sqStrStat c k) 39 false).wf (Addr.sqStrStat c k) 23 8 g).wf (Addr.sqStrStat c k) 7 0 k
    s.sqLiveSync c

/-- A write of SQ_STRs_LIVE (R493). -/
def State.sqLiveWrite (s : State) (c k : Nat) (new : W64) : State :=
  let r := s.sqRes c k
  if !s.rb (Addr.sqStrCfg c k) 31 || r == 0 || r == 2 || r == 5 then s.wr (Addr.sqStrLive c k) new
  else s.wb (Addr.sqStrStat c k) 40 true

/-- The device address of a stream's register address, as its cluster's partition names it. -/
def State.sqAddr (s : State) (c a n : Nat) (k : Acc) : Option Nat := s.devAddr (s.cluPart c) k a n

/-- Read n bytes at a stream's address; a read that fails answers not ok. -/
def State.sqRead (s : State) (c a n : Nat) : ReadRes :=
  match s.sqAddr c a n .read with
  | some d => if s.memRange d n then s.readMem (s.cluPart c) d n 0 else ⟨s, zeros n, false⟩
  | none => ⟨s, zeros n, false⟩

/-- Write bytes at a stream's address. -/
def State.sqWrite (s : State) (c a : Nat) (bs : List Byte) : State :=
  match s.sqAddr c a bs.length .write with
  | some d => if s.memRange d bs.length then s.writeMem (s.cluPart c) d bs else s
  | none => s

/-- The address of image i of a stream. -/
def State.imgAddr (s : State) (c k i : Nat) : Nat := s.rf (Addr.sqStrLive c k) 47 0 + i * s.imgLen c k

/-- The current image of a stream. -/
def State.curImg (s : State) (c k : Nat) : Nat := (s.rb (Addr.sqStrStat c k) 39).toNat

/-- Start a swap-in of an OUT stream for an op, which counts it (R505, R507). -/
def State.swapIn (s : State) (c k uid : Nat) : State :=
  let s := (s.setSqRes c k 3).wb (Addr.sqStrStat c k) 39 false
  { s with ops := s.ops.map fun o => if o.uid = uid then { o with count := o.count + 1 } else o }

/-- The first op not done that names a slot. -/
def State.firstNaming (s : State) (c k : Nat) : Option Op := s.ops.find? fun o => !o.done && o.names c k

/-- OUT streams whose next op is an SQ.CHUNK or SQ.STEP are swapped in (R507). -/
def State.swapIns (s : State) (c : Nat) : State :=
  (List.range 256).foldl (fun s k =>
    if s.sqRes c k ≠ 2 then s
    else match s.firstNaming c k with
      | some o => if decide (o.opc < 2) && o.aux.any (fun h => h % 256 == k && s.validHandle c h) then s.swapIn c k o.uid else s
      | none => s) s

/-- An accepted SQ op keeps the handles it names, and its streams start to be swapped in. -/
def State.sqAccepted (s : State) (uid : Nat) : State :=
  match s.ops.find? fun o => o.uid == uid with
  | some o =>
    if o.cls = 4 then
      let h := s.handlesOf o
      ({ s with ops := s.ops.map fun (q : Op) => if q.uid = uid then { q with aux := h } else q }).swapIns (thClu o.th)
    else s
  | none => s

/-- None of an op's streams is being swapped (R507); SQ.CLEAR takes a stream from any residency (R510). -/
def State.sqReady (s : State) (o : Op) : Bool :=
  let c := thClu o.th
  o.opc == 3 || o.aux.all fun h => let r := s.sqRes c (h % 256); r != 3 && r != 4

/-! ## What the engine computes (R495, R496) -/

/-- A value with the sum of the magnitudes of its terms and their number. -/
structure Acc3 where
  v : Val
  mag : Rat
  n : Nat
  deriving DecidableEq

/-- No term. -/
def acc0 : Acc3 := ⟨zeroV, 0, 0⟩

/-- A product with a coefficient. -/
def Acc3.mul (k : Val) (a : Acc3) : Acc3 := ⟨exMul k a.v, absQ k.toRat * a.mag, a.n⟩

/-- A sum. -/
def Acc3.add (a b : Acc3) : Acc3 :=
  ⟨addX a.v b.v, a.mag + b.mag, a.n + b.n⟩

/-- One input or carried value. -/
def accOf (v : Val) : Acc3 := ⟨v, absQ v.toRat, 1⟩

/-- The device's result for a sum within the SQ bound (R497, Table 8.4). -/
def Acc3.out (a : Acc3) (bits : Nat) : Val := sumWithin [a.v] (((a.n + 4 : Nat) : Rat) * uRnd * a.mag) bits

/-- Mode 1 over the steps of a channel: outputs and last state. -/
def recur (a b w : List Val) (e : Val) : List (Val × Bool) → List Acc3 → List Acc3 × List Acc3
  | [], h => ([], h)
  | (x, rst) :: rest, h =>
    let h0 := if rst then h.map fun _ => acc0 else h
    let h1 := (List.range h0.length).map fun n =>
      (Acc3.mul (a.getD n zeroV) (h0.getD n acc0)).add (Acc3.mul (b.getD n zeroV) (accOf x))
    let y := (List.range h1.length).foldl (fun y n => y.add (Acc3.mul (w.getD n zeroV) (h1.getD n acc0))) (Acc3.mul e (accOf x))
    let r := recur a b w e rest h1
    (y :: r.1, r.2)

/-- Mode 0 over the steps of a channel: outputs, and the new history. -/
def kernel (k hist : List Val) (have_ : Bool) (x : List Val) (rst : List Bool) : List Acc3 × List Val :=
  let n := hist.length
  let xx := fun (i : Int) => if 0 ≤ i then x.getD i.toNat zeroV else hist.getD (-i - 1).toNat zeroV
  let s0 : Int := if have_ then -(n : Int) else 0
  let r := (List.range x.length).foldl (fun (a : List Acc3 × Int) t =>
    let s := if rst.getD t false then (t : Int) else a.2
    let y := (List.range k.length).foldl (fun y (j : Nat) =>
      if s ≤ (t : Int) - j then y.add (Acc3.mul (k.getD j zeroV) (accOf (xx ((t : Int) - j)))) else y) acc0
    (a.1 ++ [y], s)) ([], s0)
  (r.1, (List.range n).map fun m => let i : Int := (x.length : Int) - (m + 1); if r.2 ≤ i then xx i else zeroV)

/-- The carried values of a row: from the current image of its stream, zero where it has none (R490). -/
def State.carried (s : State) (c : Nat) (h : Option Nat) (n chans : Nat) : Eng (List Val) :=
  let zero : List Val := List.replicate (n * chans) zeroV
  match h with
  | none => (s, .ok zero)
  | some k =>
    if s.sqRes c (k % 256) ≠ 1 then (s, .ok zero)
    else
      let q := s.sqRead c (s.imgAddr c (k % 256) (s.curImg c (k % 256))) (s.imgLen c (k % 256))
      (q.s, if q.ok then .ok ((List.range (n * chans)).map fun i => f32 (recNat q.data (4 * i) 4)) else .error (.bad .read))

/-- SQ.CHUNK and SQ.STEP: D's values, and each row's new state. -/
def State.sqRun (s : State) (o : Op) (i : Nat) : Eng (Ten × List (Nat × List Nat)) :=
  let (d, a, b) := (o.D, o.A, o.B)
  let c := thClu o.th
  let n := o.byte 17
  let (chans, steps, rows) := (a.size 0, a.size 1, a.size 2)
  let w := ceilDiv rows 64
  let mask := o.num 24 6
  (s.ten o a).then fun s ta => (s.ten o b).then fun s tb =>
  Eng.then (if o.handles = 0 then (s, .ok []) else s.eread o o.handles (4 * rows)) fun s hb =>
  Eng.then (if mask = 0 then (s, .ok []) else s.eread o mask (8 * steps * w)) fun s mb =>
  let hnd := fun r => if o.handles = 0 then none else some (recNat hb (4 * r) 4)
  let rst := fun t r => decide (mask ≠ 0) && (recNat mb (8 * (t * w + r / 64)) 8).testBit (r % 64)
  (eachE (List.range rows) (fun s r => s.carried c (hnd r) n chans) s).then fun s st =>
  let chan := fun (r ch : Nat) =>
    let x := (List.range steps).map fun t => ta.at a ch t r 0
    let h := (List.range n).map fun k => (st.getD r []).getD (ch * n + k) zeroV
    let bits := fun k => devBits i ((r * chans + ch) * 2 ^ 20 + k)
    if o.flag 16 0 then
      let co := fun k => tb.at b k ch 0 0
      let q := recur ((List.range n).map co) ((List.range n).map fun k => co (n + k)) ((List.range n).map fun k => co (2 * n + k)) (co (3 * n))
        ((List.range steps).map fun t => (x.getD t zeroV, rst t r)) (h.map accOf)
      ((List.range steps).map fun t => (q.1.getD t acc0).out (bits t),
       (List.range n).map fun k => (q.2.getD k acc0).out (bits (steps + k)))
    else
      let q := kernel ((List.range (b.size 0)).map fun j => tb.at b j ch 0 0) h (decide (o.handles ≠ 0)) x ((List.range steps).map fun t => rst t r)
      ((List.range steps).map fun t => (q.1.getD t acc0).out (bits t), q.2)
  let res := (List.range rows).map fun r => (List.range chans).map (chan r)
  let ten := d.build fun ch t r _ _ => (((res.getD r []).getD ch ([], [])).1).getD t zeroV
  let news := if o.handles = 0 then [] else (List.range rows).map fun r =>
    (recNat hb (4 * r) 4 % 256, (res.getD r []).flatMap fun q => q.2.map f32Bits)
  (s, .ok (ten, news))

/-- The new states are written into the other images, IMG flips, the streams are RESIDENT (R502). -/
def State.sqCommit (s : State) (c : Nat) (news : List (Nat × List Nat)) : State :=
  news.foldl (fun s q =>
    let k := q.1
    let im := 1 - s.curImg c k
    let s := s.sqWrite c (s.imgAddr c k im) (q.2.flatMap (bytesOf 4))
    (s.wb (Addr.sqStrStat c k) 39 (im == 1)).setSqRes c k 1) s

/-! ## Starting and swapping (R501, R506 to R510) -/

/-- The checks of R501 on the handles read at the start; a FAILED stream lets no op but SQ.CLEAR act on it (R508). -/
def State.sqStartOk (s : State) (o : Op) (h : List Nat) : Bool :=
  let c := thClu o.th
  (h.all fun x => s.validHandle c x) && (List.range h.length).all (fun i => (List.range i).all fun j => h.getD i 0 % 256 != h.getD j 0 % 256) &&
  (o.opc == 3 || h.all fun x => s.sqRes c (x % 256) != 5) &&
  (decide (2 ≤ o.opc) || h.all fun x =>
    let k := x % 256
    s.rb (Addr.sqStrCfg c k) 28 == o.flag 16 0 && s.sqC c k == o.A.size 0 && s.sqN c k == o.byte 17)

/-- An op ended by R501 or R508: ERROR, no stream changed, no part of D written; counted. -/
def State.sqError (s : State) (o : Op) : State :=
  let s := s.sat (Addr.sqCnt (thClu o.th)) 15 0 1
  let s := s.writeRes o 3 o.flags
  let s := { s with ops := s.ops.filter fun q => q.uid != o.uid }
  let s := s.tktDone o.th o.serial 3 o.flags
  (if o.np then s.npEnd o.th else s).swapIns (thClu o.th)

/-- What an SQ op does when it starts: the checks; SQ.EVICT begins its copies, counting them; SQ.CLEAR sets its streams to ZERO. -/
def State.sqStart (s : State) (o : Op) : State :=
  let c := thClu o.th
  let h := s.handlesOf o
  if !s.sqStartOk o h then s.sqError o
  else
    let o : Op := { o with start := some s.time, aux := h }
    let put := fun (s : State) (o : Op) => { s with ops := s.ops.map fun q => if q.uid = o.uid then o else q }
    match o.opc with
    | 2 =>
      let res := (h.map (· % 256)).filter fun k => s.sqRes c k == 1
      put (res.foldl (fun s k => s.setSqRes c k 4) s) { o with count := res.length }
    | 3 => put ((h.map (· % 256)).foldl (fun s k => s.setSqRes c k 0) s) { o with count := h.length }
    | _ => put s o

/-- A swap copy has moved an image: its bytes and blocks count for the lowest-numbered mover in service (R511, R581, Table 13.7). -/
def State.swapMoved (s : State) (c dst n : Nat) : State :=
  let m := (s.moversUp c).headD 0
  (s.inc (Addr.dmMvCnt c m) 63 24 (ceilDiv n 64)).countOps 6 (4 * c + m) ((dst + n - 1) / 4096 - dst / 4096 + 1)

/-- Meaning of SWAP_IN_COMPLETE (R507 to R509): the image is image 0, or the backing area could not be read. -/
def State.swapInDone (s : State) (c k : Nat) (fail : Bool) : State :=
  if s.sqRes c k ≠ 3 then s
  else
    let q := s.sqRead c (s.rf (Addr.sqStrBack c k) 47 0) (s.imgLen c k)
    if fail ∨ !q.ok then
      let s := (q.s.setSqRes c k 5).record { report 4 .lost c (s.cluPart c) with addr := s.rf (Addr.sqStrBack c k) 47 0 }
      match s.firstNaming c k with
      | some o => if o.start.isNone ∧ o.opc < 2 then s.sqError o else s
      | none => s
    else
      let s := (q.s.sqWrite c (s.imgAddr c k 0) q.data).swapMoved c (s.imgAddr c k 0) (s.imgLen c k)
      (s.setSqRes c k 1).sat (Addr.sqCnt c) 31 16 1

/-- Meaning of SWAP_OUT_COMPLETE (R506). An image that cannot be read is not copied: the stream stays RESIDENT and the op that evicts it
ends with ERROR (log entry 160). -/
def State.swapOutDone (s : State) (c k : Nat) : State :=
  if s.sqRes c k ≠ 4 then s
  else
    let q := s.sqRead c (s.imgAddr c k (s.curImg c k)) (s.imgLen c k)
    let back := s.rf (Addr.sqStrBack c k) 47 0
    if q.ok then ((q.s.sqWrite c back q.data).swapMoved c back (s.imgLen c k)).setSqRes c k 2
    else
      let s := (q.s.setSqRes c k 1).record { report 4 .lost c (s.cluPart c) with addr := s.imgAddr c k (s.curImg c k) }
      match s.firstNaming c k with
      | some o => if o.start.isSome ∧ o.opc = 2 then s.sqError o else s
      | none => s

end Sys2Proof.Machine
end

