-- ==== Sys2Proof/Machine/DataMover.lean ====
section
/-! DEFINITION. The data movers (R581 to R593): movement blocks, host pages under ENC (R714 to R717), transfers over the fabric
(R624 to R631), the tier directory, checkpoint transfers (R281 to R286). -/

namespace Sys2Proof.Machine

open Sys2Proof

/-! ## What an op moves -/

/-- A run of bytes: where it comes from (for a fill the place in the repeated pattern), where it goes, its length, how many bits
its last byte holds (0: all). -/
structure Run where
  src : Nat
  dst : Nat
  n : Nat
  tail : Nat
  deriving DecidableEq, Repr

/-- Replace an op of the list. -/
def State.putOp (s : State) (o : Op) : State := { s with ops := s.ops.map fun q => if q.uid = o.uid then o else q }

/-- The op of a number that is not done. -/
def State.opOf (s : State) (uid : Nat) : Option Op := s.ops.find? fun o => o.uid == uid && !o.done

/-- The device address of an op's address for an access. -/
def Op.devFor (o : Op) (k : Acc) (a n : Nat) : Option Nat := if o.th = supTid then some a else translate o.segs k a n

/-- The rows of a descriptor as runs: address, bytes, bits of the last byte. -/
def Desc.runs (d : Desc) : List (Nat × Nat × Nat) :=
  d.ranges.map fun r => (r.1, r.2, if d.comp = 0 then d.size 0 * fmtBits d.fmt % 8 else 0)

/-- Source address, upper address and length of the entry at device address e, whose source entry lies at src (0 for none). -/
def State.dirRun (s : State) (e src : Nat) : Nat × Nat × Nat :=
  (if src = 0 then s.peekNat e 6 else s.peekNat (src + 8) 6, s.peekNat (e + 8) 6, s.peekNat (e + 20) 4)

/-- The destination of a CKPT (Table 6.9). -/
def Op.ckptDst (o : Op) : Nat := if o.num 16 4 % 2 = 0 then o.num 0 8 else o.num 8 8

/-- The regions of a CKPT: source and length; its block and table are the op's parameter block. -/
def Op.regions (o : Op) : List (Nat × Nat) := (List.range (o.num 20 2)).map fun i => (o.num (64 + 16 * i) 8, o.num (72 + 16 * i) 8)

/-- Everything an op moves, in order. -/
def State.runs (s : State) (o : Op) : List Run :=
  match o.cls, o.opc with
  | 7, 0 => ((o.A.runs.zip o.D.runs).map fun q => (⟨q.1.1, q.2.1, q.2.2.1, q.2.2.2⟩ : Run))
  | 7, 1 => (o.D.runs.foldl (fun (a : List Run × Nat) q => (a.1 ++ [⟨a.2, q.1, q.2.1, q.2.2⟩], a.2 + q.2.1)) ([], 0)).1
  | 7, _ =>
    if o.aux.getD 0 0 ≠ 1 then []
    else
      let (src, up, n) := s.dirRun (o.aux.getD 1 0) (o.aux.getD 2 0)
      if o.opc = 2 then [⟨src, up, n, 0⟩] else [⟨up, src, n, 0⟩]
  | 8, _ => (o.regions.foldl (fun (a : List Run × Nat) q => (a.1 ++ [⟨q.1, a.2, q.2, 0⟩], a.2 + q.2)) ([], o.ckptDst)).1
  | _, _ => []

/-- Bytes of runs. -/
def runBytes (l : List Run) : Nat := (l.map (·.n)).sum

/-- The rest of the runs after k bytes. -/
def dropRuns : List Run → Nat → List Run
  | [], _ => []
  | r :: t, k => if r.n ≤ k then dropRuns t (k - r.n) else { r with src := r.src + k, dst := r.dst + k, n := r.n - k } :: t

/-- The next movement block: pieces within one 4 KiB page of the destination, or of the source where bySrc says so; a piece alone
where it is requested from a remote device, and no longer than one request. -/
def takeBlock (bySrc alone : Bool) (pg : Nat) : List Run → List Run
  | [] => []
  | r :: t =>
    let a := if bySrc then r.src else r.dst
    if a / 4096 ≠ pg then []
    else
      let m := min r.n (4096 - a % 4096)
      let m := if alone then min m (4096 - r.src % 64) else m
      let p := { r with n := m, tail := if m = r.n then r.tail else 0 }
      if m < r.n ∨ alone then [p] else p :: takeBlock bySrc alone pg t

/-- The window of a device address: 1 fabric, 2 host, 0 neither. -/
def window (d : Option Nat) : Nat :=
  match d with
  | some d => match region d with | .fabric => 1 | .host => 2 | _ => 0
  | none => 0

/-- The window of the first source byte still to be moved; a fill has none. -/
def Op.srcWin (o : Op) (r : Run) : Nat := if o.is 7 1 then 0 else window (o.devFor .read r.src 1)
/-- The window of the first destination byte still to be moved. -/
def Op.dstWin (o : Op) (r : Run) : Nat := window (o.devFor .write r.dst 1)
/-- The op encrypts or decrypts host pages. -/
def Op.enc (o : Op) : Bool := o.is 7 0 && o.flag 16 0

/-- The op's next movement block. -/
def State.nextBlock (s : State) (o : Op) : List Run :=
  match dropRuns (s.runs o) o.moved with
  | [] => []
  | r :: t =>
    let bySrc := o.enc && o.srcWin r == 2
    takeBlock bySrc (o.srcWin r == 1) ((if bySrc then r.src else r.dst) / 4096) (r :: t)

/-- The flag of a copy goes to a remote device: its device address. -/
def Op.remoteFlag (o : Op) : Option Nat :=
  if o.is 7 0 && o.flag 16 1 && o.flag 16 2 && o.inFabric .write (o.num 18 6) then translate o.segs .write (o.num 18 6) 8 else none

/-- The bytes an op moves, the remote flag counted as one more. -/
def State.total (s : State) (o : Op) : Nat := runBytes (s.runs o) + o.remoteFlag.isSome.toNat

/-- Every byte has been moved and nothing waits for a remote device. -/
def State.moved (s : State) (o : Op) : Bool := decide (s.total o ≤ o.moved) && o.xfer.isNone

/-! ## Progress -/

/-- An op may make progress: clocks run, and its thread has the engines, or the op is non-pre-emptible or on a Pepper engine
(R194, R206, R330). -/
def State.goes (s : State) (o : Op) : Bool :=
  (if o.cls = 5 then s.meshOn && s.pmu.asleep == 0 else s.clk (1 + o.moverClu)) && (o.np || o.cls == 5 || s.inInnings o.th)

/-- A promote that waits for the fill of another op (Table 13.5). -/
def Op.waiter (o : Op) : Bool := o.is 7 2 && o.aux.getD 0 0 == 2

/-- The op that a mover works on: the first in acceptance order that may make progress (R584). -/
def State.moverHead (s : State) (o : Op) : Option Op := (s.moverQ o.moverClu o.unit).find? fun q => !q.waiter && s.goes q

/-- An op is the one its mover works on, and it has started. -/
def State.onTurn (s : State) (o : Op) : Bool :=
  decide (7 ≤ o.cls) && o.start.isSome && s.goes o && ((s.moverHead o).map (·.uid) == some o.uid)

/-! ## Ends -/

/-- The number of a mover among the device's. -/
def Op.moverUnit (o : Op) : Nat := 4 * o.moverClu + o.unit

/-- A transfer fails: ERROR; a fill or drain undoes its directory step (R589). -/
def State.moveFail (s : State) (o : Op) (sub : Nat) : State := s.lostOp o 6 o.moverUnit sub

/-- A movement block of n bytes has been moved: counted (Table 15.2, DM_MVm_CNT); the checksum of a checkpoint goes on. -/
def State.moveDone (s : State) (o : Op) (data : List Byte) (n : Nat) : State :=
  let c := o.moverClu
  let s := s.inc (Addr.dmMvCnt c o.unit) 63 24 ((o.moved + n) / 64 - o.moved / 64)
  let s := s.countOps 6 o.moverUnit 1
  s.putOp { o with moved := o.moved + n, resend := 0, xfer := none,
                   aux := if o.cls = 8 then [(crc64 (BitVec.ofNat 64 (o.aux.getD 0 0)) data).toNat] else o.aux }

/-! ## Reading and writing a block -/

/-- The bytes of a piece. -/
def State.readRun (s : State) (o : Op) (r : Run) (flt : Nat) : ReadRes :=
  if o.is 7 1 then ⟨s, (List.range r.n).map fun i => (o.pb.drop 24).getD ((r.src + i) % 8) 0, true⟩
  else match o.devFor .read r.src r.n with
    | some _ => s.opReadF o r.src r.n flt
    | none => ⟨s, zeros r.n, false⟩

/-- The bytes of the pieces of a block; failing checks meet the first. -/
def State.readBlock (s : State) (o : Op) (flt : Nat) : List Run → ReadRes
  | [] => ⟨s, [], true⟩
  | r :: t =>
    let q := s.readRun o r flt
    let z := q.s.readBlock o 0 t
    ⟨z.s, q.data ++ z.data, q.ok && z.ok⟩

/-- The byte that stands at a destination. -/
def State.oldByte (s : State) (o : Op) (a : Nat) : Byte :=
  match o.devFor .write a 1 with
  | some d => if decide (region d = .host) then (s.hostRead (s.hostAddr o.part (d - 0x7E0000000000)) 1).getD 0 0 else (s.peek d 1).getD 0 0
  | none => 0

/-- Write a piece; the bits of its last byte that belong to no element keep what stands there. -/
def State.storeRun (s : State) (o : Op) (r : Run) (bs : List Byte) : State :=
  if r.tail = 0 then s.opStore o r.dst bs
  else
    let m := 2 ^ r.tail
    let old := (s.oldByte o (r.dst + r.n - 1)).toNat
    s.opStore o r.dst (bs.take (r.n - 1) ++ [BitVec.ofNat 8 (old / m * m + (bs.getD (r.n - 1) 0).toNat % m)])

/-- Write the pieces of a block from its bytes. -/
def State.storeBlock (s : State) (o : Op) : List Run → List Byte → State
  | [], _ => s
  | r :: t, bs => (s.storeRun o r (bs.take r.n)).storeBlock o t (bs.drop r.n)

/-- A piece touches memory that is not to be reached now (R568, R569, R705, R782). -/
def State.runWaits (s : State) (o : Op) (r : Run) : Bool :=
  let w := fun (d : Option Nat) => match d with | some d => s.extWaits ⟨d, d + r.n⟩ | none => false
  (!o.is 7 1 && w (o.devFor .read r.src r.n)) || w (o.devFor .write r.dst r.n)

/-! ## Host pages (R714 to R717) -/

/-- The host key of an epoch. -/
def State.hostKey (s : State) (p e : Nat) : Option (List Byte) := ((s.key p).host.find? fun k => k.epoch == e).map (·.key)

/-- The address of the trailer of the page at window offset a. -/
def State.trailerAt (s : State) (p a : Nat) : Nat := s.rf (Addr.truPartHtag p) 63 5 * 32 + a / 4096 * 32

/-- The IV of a host page. -/
def pageIv (ctr : Nat) : List Byte := zeros 4 ++ bytesBE 8 ctr

/-- The additional data of a host page. -/
def pageAad (a e : Nat) : List Byte := bytesBE 8 (a / 4096) ++ bytesOf 1 e

/-- The host epoch of a partition (TRU_PARTp_STAT.HCUR). -/
def State.hcur (s : State) (p : Nat) : Nat := s.rf (Addr.truPartStat p) 15 8

/-- Seal a page under an epoch and write it and its trailer. -/
def State.sealPage (s : State) (p e a : Nat) (page : List Byte) : Option State :=
  (s.hostKey p e).map fun k =>
    let ctr := (s.key p).hctr
    let c := Config.gcmSeal k (pageIv ctr) (pageAad a e) page
    let s := s.setKey p { s.key p with hctr := ctr + 1 }
    (s.hostWrite (s.hostAddr p a) c.1).hostWrite (s.trailerAt p a) (bytesOf 1 e ++ zeros 7 ++ bytesOf 8 ctr ++ fit 16 c.2)

/-- Open the page at window offset a: none where its trailer or its tag does not pass. -/
def State.openPage (s : State) (p a : Nat) : Option (List Byte) :=
  let t := s.hostRead (s.trailerAt p a) 32
  let e := recNat t 0 1
  let r := s.rd (Addr.truPartStat p)
  if e = fld r 15 8 ∨ (bit r 24 ∧ e = fld r 23 16) then
    (s.hostKey p e).bind fun k =>
      Config.gcmOpen k (pageIv (recNat t 8 8)) (pageAad a e) (s.hostRead (s.hostAddr p a) 4096) (t.drop 16)
  else none

/-- The window offset of the page that holds an address of the host window. -/
def pageOff (d : Nat) : Nat := (d - 0x7E0000000000) / 4096 * 4096

/-- The page that the pieces of a block make with their bytes; bytes that no element covers have no stated value. -/
def pageOf (i : Nat) (l : List Run) (data : List Byte) : List Byte :=
  (l.foldl (fun (a : List Byte × List Byte) r => (patch a.1 (r.dst % 4096) (a.2.take r.n), a.2.drop r.n))
    ((List.range 4096).map (Config.freeByte i), data)).1

/-- Seal the page of a block's pieces under epoch e and write it; none where it cannot be. -/
def State.sealRuns (s : State) (o : Op) (e : Nat) (l : List Run) (data : List Byte) : Option State :=
  match l with
  | [] => none
  | r :: _ => (o.devFor .write r.dst 1).bind fun d =>
    let (i, s) := s.fresh
    if s.linkUp then s.sealPage o.part e (pageOff d) (pageOf i l data) else none

/-! ## Over the fabric -/

/-- The remote device and offset that a fabric address names (R624). -/
def remote (d : Nat) : Nat × Nat := ((d - 0x7D0000000000) / 2 ^ 31, (d - 0x7D0000000000) % 2 ^ 31)

/-- An ID outside the torus (R622). -/
def State.badId (s : State) (id : Nat) : Bool := decide (s.fabW ≤ devX id) || decide (s.fabH ≤ devY id)

/-- Cut bytes for an offset into blocks of at most 512 bytes. -/
def chunks : Nat → Nat → List Byte → List (Nat × List Byte)
  | 0, _, _ => []
  | n + 1, off, bs => if bs.isEmpty then [] else (off, bs.take 512) :: chunks n (off + 512) (bs.drop 512)

/-- The WR blocks of a movement block: offset and payload. -/
def Op.wrBlocks (o : Op) (l : List Run) (data : List Byte) : List (Nat × List Byte) :=
  (l.foldl (fun (a : List (Nat × List Byte) × List Byte) r =>
    let off := (remote ((o.devFor .write r.dst 1).getD 0x7D0000000000)).2
    (a.1 ++ chunks 9 off (a.2.take r.n), a.2.drop r.n)) ([], data)).1

/-- Send blocks of one type, LAST on the final one; the answer is whether all went. -/
def State.sendBlocks (s : State) (p type id : Nat) : List (Nat × List Byte) → Bool × State
  | [] => (true, s)
  | (off, bs) :: t =>
    match s.inject p (mkBlk type id (off / 64) t.isEmpty bs) with
    | (true, s) => s.sendBlocks p type id t
    | (false, s) => (false, s)

/-- A transfer with the epoch and the CTR values of what partition p sent between two states. -/
def State.xferTo (s t : State) (o : Op) (x : Xfer) : Xfer :=
  { x with epoch := s.rf (Addr.fabPartEpoch o.part) 7 0, ctr0 := s.rf (Addr.fabPartCtr o.part) 38 0,
           ctr1 := t.rf (Addr.fabPartCtr o.part) 38 0 }

/-- Send a movement block (R626), or what else waits for a WRACK: kind 0 data, 2 a flag, 3 a commit record. Where a block cannot be
sealed, the transfer waits (R634, R636). -/
def State.sendWr (s : State) (o : Op) (kind id : Nat) (l : List (Nat × List Byte)) (n : Nat) (data : List Byte) : State :=
  if s.badId id ∨ s.domOf o.part = 0 ∧ o.part = 0 then s.moveFail o o.resend
  else match s.sendBlocks o.part (if kind = 2 then 7 else 1) id l with
    | (true, t) =>
      let off := if kind = 2 then recNat data 0 8 / 64 else (l.getLast?.map (·.1)).getD 0 / 64
      t.putOp { o with xfer := some (s.xferTo t o ⟨kind, id, off, n, s.time, 0, data, 0, 0, 0⟩) }
    | (false, s) => s.putOp { o with xfer := none }

/-- Request a piece from a remote device, in whole lines (R630). -/
def State.sendReq (s : State) (o : Op) (r : Run) : State :=
  match o.devFor .read r.src r.n with
  | none => s.moveFail o 0
  | some d =>
    let (id, off) := remote d
    let lo := off / 64 * 64
    let len := roundUp (off + r.n) 64 - lo
    if s.badId id ∨ o.part = 0 then s.moveFail o o.resend
    else match s.inject o.part (mkBlk 4 id (lo / 64) true (bytesOf 4 len ++ zeros 12)) with
      | (true, t) => t.putOp { o with xfer := some (s.xferTo t o ⟨1, id, lo / 64, len, s.time, 0, zeros len, 0, 0, 0⟩) }
      | (false, s) => s.putOp { o with xfer := none }

/-- Send the data of a block to its remote device. -/
def State.sendData (s : State) (o : Op) (l : List Run) (data : List Byte) : State :=
  match l with
  | [] => s
  | r :: _ => s.sendWr o 0 (remote ((o.devFor .write r.dst 1).getD 0x7D0000000000)).1 (o.wrBlocks l data) (runBytes l) data

/-- One page of a copy under ENC (R714 to R717). A page whose bytes come from a remote device is collected in the op's data, behind the epoch
at its start, until it is whole (R349, R717). -/
def State.encBlock (s : State) (o : Op) (l : List Run) (flt : Nat) : State :=
  match l with
  | [] => s
  | r :: _ =>
    if o.aux.isEmpty ∧ s.partState o.part = 2 then s.endOp o 2 o.flags
    else if !s.linkUp then s.moveFail o 0
    else if o.dstWin r = 2 then
      if o.srcWin r = 1 then s.sendReq { o with aux := if o.aux.isEmpty then [s.hcur o.part] else o.aux } r
      else
        let q := s.readBlock o flt l
        if !q.ok then q.s.moveFail o 0
        else match q.s.sealRuns o (s.hcur o.part) l q.data with
          | some s => s.moveDone o q.data (runBytes l)
          | none => q.s.moveFail o 0
    else match (o.devFor .read r.src 1).bind fun d => s.openPage o.part (pageOff d) with
      | some page =>
        let data := l.flatMap fun r => (page.drop (r.src % 4096)).take r.n
        if o.dstWin r = 1 then s.sendData o l data else (s.storeBlock o l data).moveDone o data (runBytes l)
      | none => (s.record (s.opReport o 21 .lost 0 0)).failOp o

/-- A piece of a page has come from a remote device; the whole page is sealed and written. -/
def State.encGot (s : State) (o : Op) (r : Run) (data : List Byte) : State :=
  let o : Op := { o with aux := o.aux ++ data.map (·.toNat), xfer := none }
  let more := match s.nextBlock { o with moved := o.moved + r.n } with | [] => false | q :: _ => q.dst / 4096 == r.dst / 4096
  if more then s.moveDone o data r.n
  else
    let l := match dropRuns (s.runs o) (o.moved + r.n - (o.aux.length - 1)) with
      | [] => []
      | q :: t => takeBlock false false (q.dst / 4096) (q :: t)
    match s.sealRuns o (o.aux.headD 0) l ((o.aux.drop 1).map (BitVec.ofNat 8)) with
    | some s => s.moveDone { o with aux := [] } data r.n
    | none => s.moveFail o 0

/-- Send the flag of a copy (R631). -/
def State.sendFlag (s : State) (o : Op) (d : Nat) : State :=
  let (id, off) := remote d
  let pay := bytesOf 8 off ++ (o.pb.drop 24).take 8
  s.sendWr o 2 id [(0, pay)] 1 pay

/-- The commit record of a checkpoint (R283). -/
def State.commitRec (s : State) (o : Op) : List Byte :=
  fit 64 (bytesOf 4 (o.num 16 4) ++ bytesOf 2 (o.num 20 2) ++ zeros 2 ++ bytesOf 8 (runBytes (s.runs o)) ++
    bytesOf 8 (o.aux.getD 0 0) ++ bytesOf 8 s.time)

/-- The address of the commit record. -/
def State.commitAt (s : State) (o : Op) : Nat := o.ckptDst + runBytes (s.runs o)

/-- Send what waits for a remote device once more, at most three times (R628, R630); a transfer whose job is pre-empted is sent when the
job resumes (R217). -/
def State.resend (s : State) (o : Op) (x : Xfer) : State :=
  if 3 ≤ o.resend then s.moveFail o 3
  else
    let s := (s.unsend o).sat Addr.fabE2e 63 32 1
    let s := s.sat (Addr.dmMvCnt o.moverClu o.unit) 23 0 1
    let o : Op := { o with resend := o.resend + 1, xfer := none }
    if !s.goes o then s.putOp o
    else match x.kind with
    | 0 => s.sendData o (s.nextBlock o) x.buf
    | 1 => match s.nextBlock o with | r :: _ => s.sendReq o r | [] => s.putOp o
    | 2 => match o.remoteFlag with | some d => s.sendFlag o d | none => s.putOp o
    | _ => s.sendWr o 3 x.dev (chunks 1 (x.off * 64) x.buf) 64 x.buf

/-- A WRACK for an op's transfer. -/
def State.acked (s : State) (o : Op) (x : Xfer) : State :=
  match x.kind with
  | 2 => s.putOp { o with moved := o.moved + 1, resend := 0, xfer := none }
  | 3 => s.endOp o 0 o.flags
  | _ => s.moveDone o x.buf x.len

/-- Data of a request arrived and passed: written, or kept for another remote device; after the last the block is complete. -/
def State.gotData (s : State) (o : Op) (x : Xfer) (b : Block) (pay : List Byte) : State :=
  let x : Xfer := { x with buf := patch x.buf ((b.off - x.off) * 64) (pay.take (x.len - (b.off - x.off) * 64)), got := x.got + pay.length }
  match s.nextBlock o with
  | [] => s
  | r :: _ =>
    let data := (x.buf.drop (r.src % 64)).take r.n
    let far := o.dstWin r == 1
    let lo := max (r.src / 64 * 64 + (b.off - x.off) * 64) r.src
    let hi := min (r.src / 64 * 64 + (b.off - x.off) * 64 + pay.length) (r.src + r.n)
    let part : Run := { r with dst := r.dst + (lo - r.src), n := hi - lo, tail := if hi = r.src + r.n then r.tail else 0 }
    let s := if far ∨ o.enc ∨ hi ≤ lo then s else s.storeRun o part ((data.drop (lo - r.src)).take (hi - lo))
    if b.last ∧ x.len ≤ x.got then
      (if far then s.sendData { o with xfer := none } [r] data else if o.enc then s.encGot o r data else s.moveDone o data r.n)
    else s.putOp { o with xfer := some x }

/-! ## One movement block (R582) -/

/-- Mismatches of the checksum at the destination: each a detected error, the first three sent again (R582). -/
def State.mismatch (s : State) (o : Op) (n : Nat) : State :=
  let k := min n 4
  let u := o.moverUnit
  let s := s.sat (Addr.dmMvCnt o.moverClu o.unit) 23 0 (min n 3)
  let s := (List.range k).foldl (fun s _ => s.detect 6 u) s
  if n = 0 then s
  else if n ≤ 3 then s.record (s.opReport o 6 .detect u n)
  else s.exhaustWith 6 u (s.opReport o 6 .exhaust u 3)

/-- The mover of an op moves its next block: mism mismatches at the destination, flt failing checks at the source. -/
def State.moveBlock (s : State) (o : Op) (mism flt : Nat) : State :=
  match s.nextBlock o with
  | [] => match o.remoteFlag with
    | some d => if o.moved < s.total o then s.sendFlag o d else s
    | none => s
  | r :: t =>
    let l := r :: t
    if l.any (s.runWaits o) then s
    else if o.enc then s.encBlock o l flt
    else if o.srcWin r = 1 then s.sendReq o r
    else if l.any fun r => (o.devFor .write r.dst r.n).isNone then s.moveFail o 0
    else
      let q := s.readBlock o flt l
      if !q.ok then q.s.moveFail o 0
      else if o.dstWin r = 1 then q.s.sendData o l q.data
      else if o.dstWin r = 2 ∧ !s.linkUp then q.s.moveFail o 0
      else
        let s := q.s.mismatch o mism
        match s.opOf o.uid with
        | none => s
        | some o => if 3 < mism then s.moveFail o 3 else (s.storeBlock o l q.data).moveDone o q.data (runBytes l)

/-! ## The end of a copy or fill (R317, R350) -/

/-- The signal of a copy whose writes are done: a flag in this device, or a unit of a device semaphore. -/
def State.signal (s : State) (o : Op) : State :=
  if !(o.is 7 0 && o.flag 16 1) || o.remoteFlag.isSome then s
  else if o.flag 16 2 then s.opStore o (o.num 18 6) ((o.pb.drop 24).take 8)
  else
    let k := 1536 + o.byte 17 % 64
    if s.holds k o.th then s.release k o.th else s.record { report 19 .config (thClu o.th) o.part with jseq := s.opJob o }

/-- The flag of a copy goes to the host window. -/
def Op.hostFlag (o : Op) : Bool := o.is 7 0 && o.flag 16 1 && o.flag 16 2 && window (o.devFor .write (o.num 18 6) 8) == 2

/-- The stored elements that a fill writes, by rows. -/
def State.fillRaw (s : State) (o : Op) : List (List Nat) :=
  (s.runs o).map fun r =>
    unpackBits ((List.range r.n).map fun i => (o.pb.drop 24).getD ((r.src + i) % 8) 0) 0 (fmtBits o.D.fmt) (o.D.size 0)

/-- The AMX table of a copy or fill (R374): over the elements as they decode. A compressed tensor is copied as its stream, and no rule states
its results: free values (log entry 151). -/
def State.copyAmx (s : State) (o : Op) : Eng Unit :=
  let d := o.D
  if !d.amx then (s, .ok ())
  else if d.comp ≠ 0 then
    let (i, s) := s.fresh
    let a := d.tab (thClu o.th) + d.scaleLen
    (s.writeMem o.part a ((List.range d.amxLen).map fun k => Config.freeByte i k), .ok ())
  else match (if o.is 7 1 then s.decodeRows o d (s.fillRaw o) else s.readTen o o.A) with
    | (s, .error b) => (s, .error (.bad b))
    | (s, .ok x) =>
      if !d.scl then (s.writeAmx o d x none false fun _ => true, .ok ())
      else match s.readScales o d with
        | (s, none) => (s, .error (.bad .read))
        | (s, some k) => (s.writeAmx o d x (some k) false fun _ => true, .ok ())

/-- DM.COPY and DM.FILL complete, with ERROR where the flag cannot be sent to the host (R317, R652). -/
def State.copyEnd (s : State) (o : Op) : State :=
  if o.hostFlag && !s.linkUp then s.moveFail o 0
  else match s.copyAmx o with
    | (s, .ok _) => (s.signal o).endOp o 0 o.flags
    | (s, .error (.bad (.scale a))) => (s.record { s.opReport o 23 .lost o.moverUnit 0 with addr := a, detail := [] }).failOp o
    | (s, .error _) => s.moveFail o 0

/-! ## The tier directory (R585 to R589) -/

/-- The STATE of an entry: 0 ABSENT, 1 FILLING, 2 RESIDENT, 3 DRAINING. -/
def State.dirState (s : State) (e : Nat) : Nat := s.peekNat (e + 15) 1

/-- Set STATE and TCHG. -/
def State.setDir (s : State) (e n : Nat) : State := (s.poke (e + 15) (bytesOf 1 n)).poke (e + 32) (bytesOf 8 s.time)

/-- Add to a two-byte count of an entry. -/
def State.dirAdd (s : State) (a : Nat) (d : Int) : State := s.poke a (bytesOf 2 ((s.peekNat a 2 : Int) + d).toNat)

/-- The device address of the entry that an op names. -/
def Op.entryAt (o : Op) : Option Nat := translate o.segs .atomic (o.num 16 6) 64

/-- The source entry of the entry at e: none where it has one that cannot be reached, 0 where it has none. -/
def State.srcEntry (s : State) (o : Op) (e : Nat) : Option Nat :=
  if (s.peekNat (e + 7) 1).testBit 1 then translate o.segs .atomic (s.peekNat (e + 24) 6) 64 else some 0

/-- The cluster whose SRAM holds a device address, plus 1; 0 for none. -/
def cluOf (d : Nat) : Nat := match region d with | .cluster c | .tile c _ => c + 1 | _ => 0

/-- DM.PROMOTE takes its directory step (R588, Table 13.5). -/
def State.promoteStart (s : State) (o : Op) : State :=
  match o.entryAt with
  | none => s.failOp o
  | some e =>
    let flags := s.peekNat (e + 7) 1
    let upTier := s.peekNat (e + 14) 1
    let pin := o.byte 23 % 2
    match s.srcEntry o e with
    | none => s.failOp o
    | some src =>
      let tier := if src = 0 then s.peekNat (e + 6) 1 else s.peekNat (src + 14) 1
      if !flags.testBit 0 ∨ o.byte 22 ≠ upTier ∨ tier ≤ upTier then s.failOp o
      else if flags.testBit 3 then s.endOp o 5 o.flags
      else
        let st := s.dirState e
        let room := decide (s.peekNat (e + 16) 2 + pin ≤ 65535)
        let up := o.devFor .write (s.peekNat (e + 8) 6) (s.peekNat (e + 20) 4)
        let c := (up.map cluOf).getD 0
        if st = 3 ∨ !room then s.endOp o 4 o.flags
        else if st = 2 then (s.dirAdd (e + 16) pin).endOp o 0 o.flags
        else if st = 1 then
          let s := s.dirAdd (e + 16) pin
          let add := fun (q : Op) => if !q.done && q.is 7 2 && q.aux.getD 0 0 == 1 && q.aux.getD 1 0 == e
            then { q with aux := q.aux.set 3 (q.aux.getD 3 0 + pin) } else q
          ({ s with ops := s.ops.map add }).putOp { o with start := some s.time, aux := [2, e] }
        else if (src ≠ 0 ∧ s.dirState src ≠ 2) ∨ (c ≠ 0 ∧ 64 ≤ (s.res (c - 1)).length) then s.endOp o 4 o.flags
        else
          let s := (s.setDir e 1).dirAdd (e + 16) pin
          let s := if src = 0 then s else s.dirAdd (src + 18) 1
          let s := if c = 0 then s else s.setRes (c - 1) (s.res (c - 1) ++ [e])
          s.putOp { o with start := some s.time, aux := [1, e, src, pin, c, up.getD 0, s.peekNat (e + 20) 4] }

/-- DM.EVICT takes its directory step (Table 13.5). -/
def State.evictStart (s : State) (o : Op) : State :=
  match o.entryAt with
  | none => s.failOp o
  | some e =>
    let st := s.dirState e
    let up := o.devFor .read (s.peekNat (e + 8) 6) (s.peekNat (e + 20) 4)
    let c := (up.map cluOf).getD 0
    let drop := fun (s : State) => if c = 0 then s else s.setRes (c - 1) ((s.res (c - 1)).filter (· != e))
    if st = 0 then s.endOp o 0 o.flags
    else if st ≠ 2 ∨ s.peekNat (e + 16) 2 ≠ 0 ∨ s.peekNat (e + 18) 2 ≠ 0 then s.endOp o 4 o.flags
    else if !(s.peekNat (e + 7) 1).testBit 2 then (drop (s.setDir e 0)).endOp o 0 o.flags
    else match s.srcEntry o e with
      | none => s.failOp o
      | some src =>
        let s := drop (s.setDir e 3)
        let s := if src = 0 then s else s.dirAdd (src + 18) 1
        s.putOp { o with start := some s.time, aux := [1, e, src, 0, c, up.getD 0, s.peekNat (e + 20) 4] }

/-- The copy of a promote or evict has ended well: RESIDENT or ABSENT, SHOLD of the source falls. -/
def State.dirEnd (s : State) (o : Op) : State :=
  let e := o.aux.getD 1 0
  let src := o.aux.getD 2 0
  let s := s.setDir e (if o.opc = 2 then 2 else 0)
  let s := if src = 0 then s else s.dirAdd (src + 18) (-1)
  s.endOp o 0 o.flags

/-- The directory step of an op has begun a copy. -/
def Op.copying (o : Op) (opc : Nat) : Bool := o.is 7 opc && o.start.isSome && o.aux.getD 0 0 == 1

/-- A promote's or an evict's copy ends: with err it has failed. -/
def State.dirCopyEnd (s : State) (uid opc : Nat) (err : Bool) : State :=
  match s.opOf uid with
  | some o =>
    if !o.copying opc || !s.onTurn o then s
    else if err then s.moveFail o 0
    else if s.moved o then s.dirEnd o else s
  | none => s

/-- Promotes that wait on a fill that has ended, and tile ops whose fill failed, follow (Table 13.5, R589, R593). -/
def State.settle (s : State) : State :=
  (s.ops.filter fun o => !o.done && (o.waiter || o.late)).foldl (fun s o =>
    if o.late then
      let s := s.lostOp o 6 o.moverUnit 0
      s.request (thClu o.th) (thCtx o.th) .wlate
    else match s.dirState (o.aux.getD 1 0) with
      | 1 => s
      | 2 => s.endOp o 0 o.flags
      | _ => s.failOp o) s

/-! ## CKPT (R281 to R286) -/

/-- The block and table of a CKPT pass R282. -/
def ckptOk (pb : List Byte) : Bool :=
  let n := recNat pb 20 2
  decide (1 ≤ n) && decide (n ≤ 16) && recNat pb 0 8 % 64 == 0 && recNat pb 8 8 % 64 == 0 && recNat pb 22 2 == 0 &&
  (List.range 32).all (fun i => recNat pb (32 + i) 1 == 0)

/-- The entries of the table pass R282. -/
def tableOk (n : Nat) (t : List Byte) : Bool :=
  (List.range n).all fun i => recNat t (16 * i) 8 % 64 == 0 && decide (recNat t (16 * i + 8) 8 ≠ 0) && recNat t (16 * i + 8) 8 % 64 == 0

/-- Read the table of a CKPT at its thread's address. -/
def State.ckptTable (s : State) (t a n : Nat) : State × Except Exc (List Byte) :=
  match s.devAddr (s.thPart t) .read a n with
  | some d => if s.memRange d n then let q := s.readMem (s.thPart t) d n 0; (q.s, if q.ok then .ok q.data else .error .dataErr)
    else (s, .error .access)
  | none => (s, .error .access)

/-- The extents of a CKPT transfer: destination with its record, sources. -/
def State.ckptExt (s : State) (o : Op) : List Ext × List Ext :=
  let at_ := fun k a n => (o.devFor k a n).toList.map fun d => extOf d n
  (at_ .write o.ckptDst (runBytes (s.runs o) + 64), o.regions.flatMap fun r => at_ .read r.1 r.2)

/-- Start the transfer of a CKPT: its ticket goes to gd, for a job or base thread also to SY_LASTTKT. -/
def State.ckptGo (s : State) (t : Nat) (gd : Reg) (pb : List Byte) : State :=
  let sup := decide (t = supTid)
  let clu := if sup then (List.range 6).find? s.cluLive else some (thClu t)
  let (n, s) := s.newTkt t
  let o := s.mkOp t 8 0 ⟨0, 0, 0, false, false, false, 0, 0⟩ pb
  let o : Op := { o with serial := n, units := 0, count := if sup then clu.getD 0 else 0, aux := [0] }
  let c := clu.getD 0
  let o : Op := { o with unit := if sup then (s.moversUp c).headD 0 else s.pickMover c (s.moversUp c) }
  let (d, r) := s.ckptExt o
  let o : Op := { o with dst := d, srcs := r }
  let s := (s.setG t gd (ticket t n)).nextPc t
  let s := if sup then s else s.setThread t { s.thread t with lastTkt := ticket t n }
  if clu.isNone then s.tktDone t n 3 0
  else { s with ops := s.ops ++ [o], opCount := s.opCount + 1 }

/-- CKPT with its block read. -/
def State.ckptBlock (s : State) (t : Nat) (gd : Reg) (a : W64) (b : List Byte) : State :=
  if !ckptOk b then s.raise t .ckptArg a
  else
    let n := recNat b 20 2
    let rt := recNat b 24 8
    match s.ckptTable t rt (16 * n) with
    | (s, .error e) => s.raise t e (BitVec.ofNat 64 rt)
    | (s, .ok tab) => if tableOk n tab then s.ckptGo t gd (b ++ tab) else s.raise t .ckptArg a

/-- A thread has as many transfers and ops in flight as it may (R286, R299). -/
def State.ckptFull (s : State) (t : Nat) : Bool := decide ((if t = supTid then 8 else 32) ≤ (s.flying t).length)

/-- The commit record of a CKPT is written after every data write (R284); without it on an error. -/
def State.commit (s : State) (o : Op) (err : Bool) : State :=
  if err then s.moveFail o 0
  else
    let a := s.commitAt o
    let r := s.commitRec o
    match o.devFor .write a 64 with
    | none => s.moveFail o 0
    | some d =>
      if decide (region d = .fabric) then s.sendWr o 3 (remote d).1 [((remote d).2, r)] 64 r
      else if decide (region d = .host) && !s.linkUp then s.moveFail o 0
      else (s.opStore o a r).endOp o 0 o.flags

end Sys2Proof.Machine
end

