-- ==== Sys2Proof/Machine/Start.lean ====
section
/-! DEFINITION. When ops start (R326, R330, R343, R468, R503, R584, R593), and the issue of tile operations and CKPT as commands. -/

namespace Sys2Proof.Machine

open Sys2Proof

/-! ## Starting -/

/-- The ops accepted before an op and not done. -/
def State.earlier (s : State) (o : Op) : List Op := (s.ops.takeWhile fun q => q.uid != o.uid).filter fun q => !q.done

/-- Two ops of one class may run on one unit. -/
def State.shareUnit (s : State) (o q : Op) : Bool :=
  o.cls == q.cls && (match o.cls with
    | 0 | 1 | 2 => (s.opUnits o).any fun u => (s.opUnits q).contains u
    | 5 | 7 | 8 => o.unit == q.unit
    | _ => true)

/-- R326 lets an op start behind an earlier op of its thread. -/
def State.behindOk (s : State) (o q : Op) : Bool :=
  !o.rb && !q.rb && !meetAny (o.dst ++ o.srcs) q.dst && !meetAny o.dst (q.dst ++ q.srcs) && !(q.start.isNone && s.shareUnit o q)

/-- A source of a job's op lies in the upper copy of an entry that is being filled (R593). -/
def State.fillWait (s : State) (o : Op) : Bool :=
  thClass o.th == .job && decide (o.cls < 7) && s.ops.any fun q =>
    !q.done && q.copying 2 && q.aux.getD 4 0 == thClu o.th + 1 &&
      meetAny o.srcs [extOf (q.aux.getD 5 0) (q.aux.getD 6 0)]

/-- An op's class lets it start now. -/
def State.classTurn (s : State) (o : Op) : Bool :=
  let mine := fun (q : Op) => q.cls == o.cls && thClu q.th == thClu o.th
  match o.cls with
  | 3 => (s.earlier o).all fun q => !(mine q && s.goes q)
  | 4 =>
    s.sqReady o && ((s.earlier o).all fun q => !(mine q && (s.goes q || o.aux.any fun h => q.names (thClu o.th) (h % 256)))) &&
      s.ops.all fun q => !(mine q && !q.done && q.start.isSome && s.goes q)
  | 5 => (s.pp o.unit).q.head? == some o.uid
  | 7 | 8 => (s.moverHead o).map (·.uid) == some o.uid
  | _ => true

/-- An op may start. -/
def State.opMayStart (s : State) (o : Op) : Bool :=
  !o.done && o.start.isNone && !o.late && s.goes o && ((s.earlier o).filter fun q => q.th == o.th).all (s.behindOk o) &&
    !s.fillWait o && s.classTurn o

/-- The format of a PP.STREAM's input when it starts (R418). -/
def State.streamFmt (s : State) (o : Op) : Nat := if o.byte 52 = 8 then 8 else s.rf (Addr.ingCamOut (o.byte 52 / 2)) 12 8

/-- An op starts. Ops whose sources it writes leave the replay window (R329); a walker op takes its snapshot (R440); a sequence
engine op makes its checks (R501); a tile op loads its tiles' slots (R398); a promote or evict takes its directory step. -/
def State.startOp (s : State) (o : Op) : State :=
  let s := { s with ops := s.ops.filter fun q => !(q.done && meetAny o.dst q.srcs) }
  let o' : Op := { o with start := some s.time }
  match o.cls, o.opc with
  | 0, _ | 1, _ =>
    (s.opUnits o).foldl (fun s t =>
      let k := thClu o.th * 8 + t
      if (s.tile k).loading.isNone then s.setTile k { s.tile k with loading := some o.uid } else s) (s.putOp o')
  | 3, _ => s.putOp { o' with aux := s.snapshot o }
  | 4, _ => s.sqStart o
  | 5, 1 => (s.putOp o').setPp o.unit { s.pp o.unit with fmt := s.streamFmt o, w := 0, lines := [], outs := [], nz := 0, flushed := 0 }
  | 7, 2 => s.promoteStart o
  | 7, 3 => s.evictStart o
  | _, _ => s.putOp o'

/-- Slots of tiles whose op has ended are free. -/
def State.tileSync (s : State) : State :=
  (s.tiles.map (·.1)).foldl (fun s k =>
    let live := fun (u : Option Nat) => u.bind fun u => (s.opOf u).map (·.uid)
    s.setTile k ⟨live (s.tile k).loading, live (s.tile k).active⟩) s

/-- Every op that may start does, in acceptance order; n bounds the rounds. -/
def State.startRounds : Nat → State → State
  | 0, s => s
  | n + 1, s =>
    match s.ops.find? s.opMayStart with
    | some o => State.startRounds n (s.startOp o).settle
    | none => s

/-- Let ops start; what waited on ended fills follows. -/
def State.startOps (s : State) : State :=
  let s := s.settle.tileSync
  State.startRounds s.ops.length s

/-- An op waits for memory of its extents; a mover's op waits block by block (R568, R569, R705, R782). -/
def State.opWaits (s : State) (o : Op) : Bool := decide (o.cls < 7) && (o.dst ++ o.srcs).any s.extWaits

/-- Make progress on an op: ops that may start do so before and after. An op whose mask has come to name no unit in service carries MASKSUB
(R313). -/
def State.progress (s : State) (uid : Nat) (f : State → Op → State) : State :=
  let s := s.startOps
  match s.opOf uid with
  | some o =>
    if o.start.isSome && s.goes o && !s.opWaits o then
      let o : Op := if s.maskSub o then { o with flags := o.flags ||| flMasksub } else o
      (f (s.putOp o) o).startOps
    else s
  | none => s

/-! ## Issue (R294 to R299) -/

/-- The instruction word and operand of a refused issue (R319). -/
def tiEval (w n : Nat) : W64 := BitVec.ofNat 64 (w * 256 + n)

/-- A tile-issue instruction with its parameter block read: the checks in order, then acceptance. -/
def State.tiIssue (s : State) (t cls opc : Nat) (ti : TiFields) (pb : List Byte) : State :=
  let o := s.mkOp t cls opc ti pb
  match (s.checks o).find? fun k => !k.1 with
  | some k => s.raise t k.2.1 (tiEval (tiWord cls opc ti) k.2.2)
  | none =>
    if s.ppFull o then s.holdAt t .stall
    else ((s.accept o).sqAccepted o.uid).startOps

/-- The address of the parameter block lies in the cluster's SRAM. -/
def State.pbAddr (s : State) (t : Nat) (a : Nat) : Option Nat :=
  match s.devAddr (s.thPart t) .read a 64 with
  | some d => if region d = .cluster (thClu t) then some d else none
  | none => none

/-- A tile-issue instruction of a thread. -/
def State.ti (s : State) (t cls opc : Nat) (ti : TiFields) : State :=
  let a := (s.thread t).gr ti.pb
  if thClass t = .sup ∨ !unusedZero cls opc ti then s.raise t .illegal (BitVec.ofNat 64 (tiWord cls opc ti))
  else if 32 ≤ (s.flying t).length then s.holdAt t .stall
  else if a.toNat % 64 ≠ 0 then s.raise t .align a
  else match s.pbAddr t a.toNat with
    | none => s.raise t .pbArg (tiEval (tiWord cls opc ti) 3)
    | some d =>
      let q := s.readMem (s.thPart t) d 64 ti.flt
      if q.ok then q.s.tiIssue t cls opc ti q.data else q.s.raise t .dataErr a

/-- The meaning of a tile-issue command. -/
def tileCmd (cls opc th : Nat) (ti : TiFields) (s : State) : Host.Outcome State Fault Refusal :=
  instr th (fun s => s.ti th cls opc ti) s

/-- Meaning of MX_MUL (R332). -/
def execMxMul (th : Nat) (ti : TiFields) (s : State) : Host.Outcome State Fault Refusal := tileCmd 0 0 th ti s
/-- Meaning of CV_CONV (R335). -/
def execCvConv (th : Nat) (ti : TiFields) (s : State) : Host.Outcome State Fault Refusal := tileCmd 1 0 th ti s
/-- Meaning of VX_EW1 (R337). -/
def execVxEw1 (th : Nat) (ti : TiFields) (s : State) : Host.Outcome State Fault Refusal := tileCmd 2 0 th ti s
/-- Meaning of VX_EW2 (R337). -/
def execVxEw2 (th : Nat) (ti : TiFields) (s : State) : Host.Outcome State Fault Refusal := tileCmd 2 1 th ti s
/-- Meaning of VX_FMA (R337). -/
def execVxFma (th : Nat) (ti : TiFields) (s : State) : Host.Outcome State Fault Refusal := tileCmd 2 2 th ti s
/-- Meaning of VX_RED (R337). -/
def execVxRed (th : Nat) (ti : TiFields) (s : State) : Host.Outcome State Fault Refusal := tileCmd 2 3 th ti s
/-- Meaning of VX_SOFTMAX (R337). -/
def execVxSoftmax (th : Nat) (ti : TiFields) (s : State) : Host.Outcome State Fault Refusal := tileCmd 2 4 th ti s
/-- Meaning of VX_NORM (R337). -/
def execVxNorm (th : Nat) (ti : TiFields) (s : State) : Host.Outcome State Fault Refusal := tileCmd 2 5 th ti s
/-- Meaning of VX_QUANT (R368). -/
def execVxQuant (th : Nat) (ti : TiFields) (s : State) : Host.Outcome State Fault Refusal := tileCmd 2 6 th ti s
/-- Meaning of VX_DEQUANT (R337). -/
def execVxDequant (th : Nat) (ti : TiFields) (s : State) : Host.Outcome State Fault Refusal := tileCmd 2 7 th ti s
/-- Meaning of VX_AMAX (R337). -/
def execVxAmax (th : Nat) (ti : TiFields) (s : State) : Host.Outcome State Fault Refusal := tileCmd 2 8 th ti s
/-- Meaning of VX_POOL (R411). -/
def execVxPool (th : Nat) (ti : TiFields) (s : State) : Host.Outcome State Fault Refusal := tileCmd 2 9 th ti s
/-- Meaning of VX_DWCONV (R407). -/
def execVxDwconv (th : Nat) (ti : TiFields) (s : State) : Host.Outcome State Fault Refusal := tileCmd 2 10 th ti s
/-- Meaning of VX_HAD (R372). -/
def execVxHad (th : Nat) (ti : TiFields) (s : State) : Host.Outcome State Fault Refusal := tileCmd 2 11 th ti s
/-- Meaning of VX_OPT (R386). -/
def execVxOpt (th : Nat) (ti : TiFields) (s : State) : Host.Outcome State Fault Refusal := tileCmd 2 12 th ti s
/-- Meaning of VX_TRANS (R337). -/
def execVxTrans (th : Nat) (ti : TiFields) (s : State) : Host.Outcome State Fault Refusal := tileCmd 2 13 th ti s
/-- Meaning of VX_GATHER (R339). -/
def execVxGather (th : Nat) (ti : TiFields) (s : State) : Host.Outcome State Fault Refusal := tileCmd 2 14 th ti s
/-- Meaning of VX_SELECT (R340). -/
def execVxSelect (th : Nat) (ti : TiFields) (s : State) : Host.Outcome State Fault Refusal := tileCmd 2 15 th ti s
/-- Meaning of VX_FILL (R337). -/
def execVxFill (th : Nat) (ti : TiFields) (s : State) : Host.Outcome State Fault Refusal := tileCmd 2 16 th ti s
/-- Meaning of AT_ATTN (R459). -/
def execAtAttn (th : Nat) (ti : TiFields) (s : State) : Host.Outcome State Fault Refusal := tileCmd 3 0 th ti s
/-- Meaning of AT_APPEND (R455). -/
def execAtAppend (th : Nat) (ti : TiFields) (s : State) : Host.Outcome State Fault Refusal := tileCmd 3 1 th ti s
/-- Meaning of AT_PREFIX (R479). -/
def execAtPrefix (th : Nat) (ti : TiFields) (s : State) : Host.Outcome State Fault Refusal := tileCmd 3 2 th ti s
/-- Meaning of AT_FORK (R470). -/
def execAtFork (th : Nat) (ti : TiFields) (s : State) : Host.Outcome State Fault Refusal := tileCmd 3 3 th ti s
/-- Meaning of AT_FREE (R472). -/
def execAtFree (th : Nat) (ti : TiFields) (s : State) : Host.Outcome State Fault Refusal := tileCmd 3 4 th ti s
/-- Meaning of SQ_CHUNK (R497). -/
def execSqChunk (th : Nat) (ti : TiFields) (s : State) : Host.Outcome State Fault Refusal := tileCmd 4 0 th ti s
/-- Meaning of SQ_STEP (R502). -/
def execSqStep (th : Nat) (ti : TiFields) (s : State) : Host.Outcome State Fault Refusal := tileCmd 4 1 th ti s
/-- Meaning of SQ_EVICT (R506). -/
def execSqEvict (th : Nat) (ti : TiFields) (s : State) : Host.Outcome State Fault Refusal := tileCmd 4 2 th ti s
/-- Meaning of SQ_CLEAR (R510). -/
def execSqClear (th : Nat) (ti : TiFields) (s : State) : Host.Outcome State Fault Refusal := tileCmd 4 3 th ti s
/-- Meaning of PP_CONV (R407). -/
def execPpConv (th : Nat) (ti : TiFields) (s : State) : Host.Outcome State Fault Refusal := tileCmd 5 0 th ti s
/-- Meaning of PP_STREAM (R418). -/
def execPpStream (th : Nat) (ti : TiFields) (s : State) : Host.Outcome State Fault Refusal := tileCmd 5 1 th ti s
/-- Meaning of CX_EXPAND (R521). -/
def execCxExpand (th : Nat) (ti : TiFields) (s : State) : Host.Outcome State Fault Refusal := tileCmd 6 0 th ti s
/-- Meaning of CX_COMPRESS (R531). -/
def execCxCompress (th : Nat) (ti : TiFields) (s : State) : Host.Outcome State Fault Refusal := tileCmd 6 1 th ti s
/-- Meaning of DM_COPY (R349). -/
def execDmCopy (th : Nat) (ti : TiFields) (s : State) : Host.Outcome State Fault Refusal := tileCmd 7 0 th ti s
/-- Meaning of DM_FILL (R581). -/
def execDmFill (th : Nat) (ti : TiFields) (s : State) : Host.Outcome State Fault Refusal := tileCmd 7 1 th ti s
/-- Meaning of DM_PROMOTE (R587). -/
def execDmPromote (th : Nat) (ti : TiFields) (s : State) : Host.Outcome State Fault Refusal := tileCmd 7 2 th ti s
/-- Meaning of DM_EVICT (R587). -/
def execDmEvict (th : Nat) (ti : TiFields) (s : State) : Host.Outcome State Fault Refusal := tileCmd 7 3 th ti s

/-- Meaning of CKPT (R281, R282, R286). -/
def execCkpt (th : Nat) (gd ga : Reg) (sel : BitVec 16) (flt : Nat) (s : State) : Host.Outcome State Fault Refusal :=
  instr th (fun s =>
    let a := (s.thread th).gr ga
    if sel ≠ 0 then s.raise th .illegal (wordSY 0x2F gd ga sel.toNat)
    else if s.ckptFull th then s.holdAt th .stall
    else if a.toNat % 64 ≠ 0 then s.raise th .ckptArg a
    else s.withBytes th a 64 flt fun s b => (s.ckptBlock th gd a b).startOps) s

end Sys2Proof.Machine
end

