-- ==== Sys2Proof/Machine/TileExec.lean ====
section
/-! DEFINITION. What tile ops do as they run and end: pieces and their replays (R200, R668), results and tickets (R317), the replay
window (R329), damaged blocks (R538 to R543), PP.STREAM (R418 to R425), swaps, movement blocks, fills and drains as commands. -/

namespace Sys2Proof.Machine

open Sys2Proof

/-! ## Pieces (R200, R668) -/

/-- The unit kind of a class and the number of a unit among the device's (Table 15.2). -/
def Op.kindUnit (o : Op) (u : Nat) : Nat × Nat :=
  let c := thClu o.th
  match o.cls with
  | 0 | 1 => (1, 8 * c + u)
  | 2 => (2, 2 * c + u)
  | 3 => (3, c)
  | 4 => (4, c)
  | 5 => (7, o.unit)
  | 6 => (5, c)
  | _ => (6, o.moverUnit)

/-- The op's result is made of pieces that cover D's rows. -/
def Op.byRows (o : Op) : Bool := decide (o.cls ≤ 2) || o.is 3 0 || o.is 4 0 || o.is 4 1 || o.is 5 0 || o.is 6 0

/-- Rows of D that pieces have covered. -/
def Op.rowsDone (o : Op) : Nat := (o.rows.map (·.n)).sum

/-- The most rows of a piece of a matrix op: at 1 cc or at 4 cc per row (R397, Table 9.1). -/
def Op.rowMax (o : Op) : Nat :=
  let wide := fun (d : Desc) => d.fmt == 1 || d.fmt == 2
  if 1 < o.cls ∨ (o.cls = 1 ∧ o.mode = 2) then 65536 ^ 3 else if wide o.A || wide o.B then 256 else 1024

/-- A piece fits: its rows lie in D, none is done, and its time is within R200. A piece of a matrix op on a weight block that finishes no row
of D has n = 0 (R399, log entry 154). -/
def Op.pieceOk (o : Op) (row n cc : Nat) : Bool :=
  (decide (1 ≤ n) || decide (o.cls < 2)) && decide (n ≤ o.rowMax) && (o.np || o.cls == 5 || decide (cc ≤ 1600)) &&
  (!o.byRows || (decide (row + n ≤ o.D.nRows) && o.rows.all fun p => decide (p.row + p.n ≤ row) || decide (row + n ≤ p.row)))

/-- The failed attempts of the piece that begins at a row. -/
def Op.tryOf (o : Op) (row : Nat) : Try := (o.tries.find? fun t => t.row == row).getD ⟨row, 0, 0⟩

/-- The unit on which an attempt may run: the second on the unit of the first, the third on another where there is one (R668). -/
def State.unitOk (s : State) (o : Op) (t : Try) (u : Nat) : Bool :=
  let l := s.opUnits o
  l.contains u && (match t.n with
    | 0 => true
    | 1 => u == t.unit || !l.contains t.unit
    | _ => u != t.unit || l.all (· == t.unit))

/-- The counters of a unit's pieces: completed, replayed, mismatches. -/
def State.unitCnt (s : State) (o : Op) (u hi lo n : Nat) : State :=
  let c := thClu o.th
  let add := fun off => if lo = 32 then s.inc off hi lo n else s.sat off hi lo n
  match o.cls with
  | 0 | 1 => add (Addr.mtTileCnt c u)
  | 2 => add (Addr.veEngCnt c u)
  | _ => s

/-- A piece's attempt passes. -/
def State.pieceGood (s : State) (o : Op) (u row n cc : Nat) : State :=
  let (k, x) := o.kindUnit u
  let t := o.tryOf row
  let s := (s.countOps k x (if o.cls = 5 then n else 1)).unitCnt o u 63 32 1
  let s := if o.is 5 0 then s.inc (Addr.ppEngCnt o.unit) 63 32 n else s
  let s := if t.n = 0 then s else (s.unitCnt o u 31 16 1).record (s.opReport o k .detect x t.n)
  let (s, o) := s.seedLoad o u
  s.putOp { o with rows := if n = 0 then o.rows else o.rows ++ [⟨row, n, cc, u, t.n, t.unit⟩], tries := o.tries.filter fun t => t.row != row,
                   flags := if t.n = 0 then o.flags else o.flags ||| flReplayed }

/-- A piece's attempt fails: a detected error of the unit; two on one unit are an exhaustion, the third failure ends the op. -/
def State.pieceBad (s : State) (o : Op) (u row : Nat) : State :=
  let (k, x) := o.kindUnit u
  let t := o.tryOf row
  let (s, o) := s.seedLoad o u
  let s := s.putOp { o with tries := ⟨row, if t.n = 0 then u else t.unit, t.n + 1⟩ :: o.tries.filter fun t => t.row != row }
  let s := (s.unitCnt o u 15 0 1).detect k x
  let s := if t.n = 1 ∧ u = t.unit then s.exhaustWith k x (s.opReport o k .exhaust x 2) else s
  if t.n < 2 then s
  else match s.opOf o.uid with
    | some o => s.lostOp o k x 3
    | none => s

/-! ## The expander's turns (R537) -/

/-- Some sequence that an AT.ATTN names is vector-quantised: its pages pass the expander (R436). -/
def State.attnVq (s : State) (o : Op) : Bool :=
  o.is 3 0 && (s.seqAddrs o).any fun a => let b := s.opPeekNat o (a + 12) 2; b / 32 % 8 == 1 || b / 8192 == 1

/-- An op has blocks decoded by its cluster's expander: weight blocks for the tiles, pages for the walker, or CX.EXPAND's output. -/
def State.usesCx (s : State) (o : Op) : Bool := (decide (o.cls < 2) && o.B.comp != 0 && o.usesB) || s.attnVq o || o.is 6 0

/-- The ops that wait on cluster c's expander: started, with engines, their pieces not all done. -/
def State.cxWaits (s : State) (c : Nat) : List Op :=
  s.ops.filter fun o => !o.done && o.start.isSome && o.dmg.isEmpty && thClu o.th == c && s.usesCx o && s.goes o &&
    decide (o.rowsDone < o.D.nRows)

/-- The op that cluster c's expander serves next: the one after the last served, in acceptance order, round again. -/
def State.cxNext (s : State) (c : Nat) : Option Nat :=
  let l := (s.cxWaits c).map (·.uid)
  match l.find? fun u => decide (Sparse.get (fun _ => 0) s.expTurn c < u + 1) with
  | some u => some u
  | none => l.head?

/-- The expander of an op's cluster may serve it a block now (log entry 152). -/
def State.cxTurn (s : State) (o : Op) : Bool := !s.usesCx o || s.cxNext (thClu o.th) == some o.uid

/-- The expander has served an op a block. -/
def State.cxServed (s : State) (o : Op) : State :=
  if s.usesCx o then { s with expTurn := Sparse.set (fun _ => 0) s.expTurn (thClu o.th) (o.uid + 1) } else s

/-- A piece of an op ends on a unit: of a matrix op on a tile whose array holds a block of the op (R201); of an op whose pieces are blocks of
the expander, on the op's turn. -/
def State.piece (s : State) (o : Op) (u row n cc : Nat) (err : Bool) : State :=
  let active := decide (1 < o.cls) || (s.tile (thClu o.th * 8 + u)).active == some o.uid
  let block := o.is 3 0 || o.is 6 0
  if 6 < o.cls ∨ !active ∨ !s.unitOk o (o.tryOf row) u ∨ !o.pieceOk row n cc ∨ (block && !s.cxTurn o) then s
  else
    let s := if block then s.cxServed o else s
    if err then s.pieceBad o u row
    else if o.is 5 1 then s
    else s.pieceGood o u row n cc

/-- Meaning of PIECE_COMPLETE: a piece of n rows of D from a row, on a unit, in cc core cycles; err: its checks fail. -/
def execPieceComplete (uid unit row n cc : Nat) (err : Bool) (s : State) : Host.Outcome State Fault Refusal :=
  .next (s.progress uid fun s o => s.piece o unit row n cc err)

/-- Meaning of WEIGHT_BLOCK_LOADED: the array of a tile changes to the block that the op loaded (R398), a compressed one on the op's turn
(R537). -/
def execWeightBlockLoaded (uid tile : Nat) (s : State) : Host.Outcome State Fault Refusal :=
  .next (s.progress uid fun s o =>
    if o.cls < 2 ∧ (s.opUnits o).contains tile ∧ s.cxTurn o then
      let k := thClu o.th * 8 + tile
      (s.cxServed o).setTile k { s.tile k with active := some uid, loading := some uid }
    else s)

/-! ## Results -/

/-- What an op's work came to: ticket status, flags, count, the values of its result area. -/
structure Res where
  status : Nat
  flags : Nat
  count : Nat
  vals : List W64

/-- A whole tensor as one piece on the unit of the op's first piece. -/
def Op.onePiece (o : Op) (d : Desc) : PieceRec := ⟨0, d.nRows, 0, (o.rows.map (·.unit)).headD o.unit, 0, 0⟩

/-- The pieces of an op for the conversion of its result. -/
def Op.pieces (o : Op) : List PieceRec := if o.rows.isEmpty then [o.onePiece o.D] else o.rows

/-- Convert and write a result into a descriptor. -/
def State.store (s : State) (o : Op) (d : Desc) (x : Ten) (pieces : List PieceRec) (keep : Nat → Bool) (same : Bool) : Eng Nat :=
  engOf (s.storeTen o d x pieces keep same)

/-- Write an op's result into D. -/
def State.storeOut (s : State) (o : Op) (r : Out) : Eng Res :=
  (s.store o o.D r.x o.pieces r.keep r.same).then fun s f => (s, .ok ⟨0, r.flags ||| f, r.count, []⟩)

/-- The AMX table of a CX.COMPRESS (R374): over A's elements as they decode; of a low-rank stream no rule states the results: free values
(log entry 151). -/
def State.compressAmx (s : State) (o : Op) : Eng Unit :=
  let d := o.D
  if !d.amx then (s, .ok ())
  else if d.comp = 3 then
    let (i, s) := s.fresh
    (s.writeMem o.part (d.tab (thClu o.th) + d.scaleLen) ((List.range d.amxLen).map fun k => Config.freeByte i k), .ok ())
  else (s.ten o o.A).then fun s x =>
    match (if d.scl then s.readScales o o.A else (s, none)) with
    | (s, k) => (s.writeAmx o d x k false fun _ => true, .ok ())

/-- CX.COMPRESS writes its stream and copies the scale table, or ends with SPACE (R348, R531); a value of A's table that cannot be used ends
it with ERROR (R365, R366). -/
def State.compressOut (s : State) (o : Op) (bytes : List Byte) (blocks stored : Nat) : Eng Res :=
  let c := thClu o.th
  let d := o.D
  let t := if d.scl ∧ d.comp ≠ 3 then s.readMem o.part (o.A.tab c) o.A.scaleLen 0 else ⟨s, [], true⟩
  if !t.ok then (t.s, .error (.bad .read))
  else if !t.data.isEmpty && !(o.A.scalesOf t.data).ok then (t.s, .error (.bad (.scale (o.A.tab c))))
  else if 64 * d.str 1 < bytes.length then (t.s.sat (Addr.cxCnt1 c) 15 0 1, .ok ⟨6, 0, 0, []⟩)
  else
    let s := t.s.opStore o d.base bytes
    let s := if t.data.isEmpty then s else s.writeMem o.part (d.tab c) t.data
    (s.compressAmx o).then fun s _ =>
      let s := (s.inc (Addr.cxCnt0 c) 31 0 blocks).countOps 5 c blocks
      (if d.comp = 2 then s.sat (Addr.cxCnt1 c) 31 16 stored else s, .ok ⟨0, 0, bytes.length, []⟩)

/-- The results that D holds of a PP.STREAM, by rows; a row without any is empty. -/
def PpX.held (x : PpX) (d : Desc) : Ten :=
  (List.range d.nRows).map fun r => match x.outs.find? fun e => e.1 == r with
    | some e => e.2.bits.map f32
    | none => []

/-- Nonzero results of a row. -/
def OutRow.nz (r : OutRow) : Nat := (r.bits.filter fun b => !(f32 b).isZero).length

/-- The end of a PP.STREAM: its underflow over the whole op, and the AMX table of the rows that D holds (R374, R380, R381). -/
def State.streamEnd (s : State) (o : Op) : Eng Res :=
  let d := o.D
  let x := s.pp o.unit
  let nz := x.nz + (x.outs.map fun e => e.2.nz).sum
  let heavy := heavyFlow d nz (x.flushed + (x.outs.map fun e => e.2.flushed).sum)
  let res : Res := ⟨0, if heavy then flUflow else 0, o.count, []⟩
  let keep := fun (r : Nat) => x.outs.any fun e => e.1 == r
  if !d.amx then (s, .ok res)
  else if !d.scl then (s.writeAmx o d (x.held d) none heavy keep, .ok res)
  else match s.readScales o d with
    | (s, none) => (s, .error (.bad .read))
    | (s, some k) => (s.writeAmx o d (x.held d) (some k) heavy keep, .ok res)

/-- The work of an op: its result computed and written. -/
def State.work (s : State) (o : Op) (i : Nat) (conf : List Nat) : Eng Res :=
  let all := fun (_ : Nat) => true
  match o.cls, o.opc with
  | 0, _ => (s.mxMul o i).then fun s r => s.storeOut o r
  | 1, _ => (match o.mode with
      | 0 => s.convForward o i
      | 1 => s.convInput o i
      | _ => s.convFilter o i).then fun s r => s.storeOut o r
  | 2, 12 => (s.opt o i).then fun s r =>
      (s.store o o.D r.1 o.pieces all false).then fun s f =>
      let b : Desc := { o.B with sdyn := true, amx := false }
      (s.store o b r.2 [o.onePiece b] all false).then fun s g => (s, .ok ⟨0, f ||| g, 0, []⟩)
  | 2, _ => (s.vx o i).then fun s r => s.storeOut o r
  | 3, 0 => (s.attn o i).then fun s r => s.storeOut o r
  | 3, _ => (s.atOp o conf).then fun s r => (s, .ok ⟨r.status, r.flags, r.count, r.vals⟩)
  | 4, 0 | 4, 1 => (s.sqRun o i).then fun s r =>
      (s.store o o.D r.1 o.pieces all false).then fun s f => (s.sqCommit (thClu o.th) r.2, .ok ⟨0, f, o.count, []⟩)
  | 5, 0 => (s.convForward o i).then fun s r => s.storeOut o r
  | 6, 0 => (s.expand o i).then fun s r =>
      (s.store o o.D r.1 o.pieces all (o.same && o.A.comp != 3)).then fun s f => (s, .ok ⟨0, f, 0, []⟩)
  | 5, _ => s.streamEnd o
  | 6, _ => (s.compressOp o i).then fun s r => s.compressOut o r.1 r.2.1 r.2.2
  | _, _ => (s, .ok ⟨0, 0, o.count, []⟩)

/-- The device requests a switch of an op's job (R541). -/
def State.requestFor (s : State) (t : Nat) (row : Row) : State :=
  if thClass t = .job then s.request (thClu t) (thCtx t) row else s

/-- An op's work is done: its ticket completes with what it came to; a page found corrupt makes that CORRUPT (R475). -/
def State.finishOp (s : State) (o : Op) (r : Res) : State :=
  let o : Op := { o with count := r.count, vals := r.vals }
  let fl := o.flags ||| r.flags
  if o.corrupt then (s.endOp o 5 fl).requestFor o.th .corrupt
  else
    let (k, u) := o.kindUnit 0
    let s := if r.status = 3 then s.record (s.opReport o k .lost u 0) else s
    s.endOp o r.status fl

/-! ## The replay window (R329) -/

/-- The ops of the window that wrote a line; the latest first. -/
def State.producers (s : State) (o : Op) (e : Ext) : List Op := s.ops.reverse.filter fun q => q.th == o.th && q.done && meetAny q.dst [e]

/-- A ticket that has completed takes a further flag, in its result area too. -/
def State.flagDone (s : State) (q : Op) (f : Nat) : State :=
  let th := s.thread q.th
  let s := s.setThread q.th { th with tkts := th.tkts.map fun k => if k.serial = q.serial then { k with flags := k.flags ||| f } else k }
  let q : Op := { q with flags := q.flags ||| f }
  (s.putOp q).writeRes q q.status q.flags

/-- Lines of an op's sources that fail their check at rest. -/
def State.badSources (s : State) (o : Op) : List Ext :=
  ((s.lines.filter fun e => e.2.bad && onChip (e.1 * 64)).map fun e => (⟨e.1 * 64, e.1 * 64 + 64⟩ : Ext)).filter fun e => meetAny o.srcs [e]

/-- An op of the window whose pieces can be computed again from its sources: it reads nothing that it writes, and consumes nothing. -/
def Op.replayable (o : Op) : Bool := decide (o.cls < 3) && !o.readsD && !o.is 2 12 && !meetAny o.dst o.srcs || o.is 5 0 || o.cls == 6

/-- A line of a producer computed again: with draws taken afresh where it rounds stochastically (R390). The other results stand: they come
out within the same bounds (R389, log entry 153). -/
def State.recompute (s : State) (q : Op) (e : Ext) : State :=
  if !q.st || !q.replayable then s
  else
    let (i, s) := s.fresh
    let t := (s.work q i []).1
    ({ s with lfsr := t.lfsr, freeCtr := t.freeCtr }).poke e.lo (t.peek e.lo 64)

/-- Lines are written again by the ops of the window that wrote them, and the op goes on; none where one has no producer. -/
def State.replayLines (s : State) (o : Op) (l : List Ext) : Option State :=
  if l.isEmpty || l.any (fun e => (s.producers o e).isEmpty) then none
  else
    let s := l.foldl (fun s e =>
      let k := s.rkey e.lo
      let s := if (s.line k).bad then s.setLine k { s.line k with bad := false } else s
      (s.producers o e).head?.elim s fun q => (s.recompute q e).flagDone q flReplayed) s
    (s.opOf o.uid).map fun o => s.putOp { o with flags := o.flags ||| flReplayed }

/-! ## Damaged blocks (R538 to R543) -/

/-- The stream that an op's expander reads. -/
def Op.stream (o : Op) : Option Desc :=
  if o.cls = 6 then some o.A else if o.usesB && o.B.comp != 0 then some o.B else none

/-- The tier directory entry whose object an op's stream is; 0 for none (R541, R592). -/
def State.streamEntry (s : State) (o : Op) : Nat :=
  match o.stream with
  | some d => ((s.res (thClu o.th)).find? fun e => s.peekNat (e + 8) 6 == d.base).getD 0
  | none => 0

/-- The record of a damaged or corrupt block (Table 15.6). -/
def State.blockReport (s : State) (o : Op) (c : Cond) (a chk : Nat) : Report :=
  { report 23 c (thClu o.th) o.part with jseq := s.opJob o, addr := (o.dev a).getD a, sub := chk,
                                         detail := bytesOf 6 (s.streamEntry o) }

/-- CX_LAST (Table 12.7). -/
def State.cxLast (s : State) (o : Op) (a chk fetch : Nat) : State :=
  s.wr (Addr.cxLast (thClu o.th)) (BitVec.ofNat 64 ((o.dev a).getD a + fetch * 2 ^ 58 + chk * 2 ^ 60))

/-- A block fails a check: it waits for its second fetch. -/
def State.markDamaged (s : State) (o : Op) (a chk : Nat) : State :=
  let s := ((s.wb (Addr.cxStat (thClu o.th)) 3 true).cxLast o a chk 1).record (s.blockReport o .damaged a chk)
  s.putOp { o with dmg := [a, chk, 1] }

/-- Output rows of a PP.STREAM (R420). -/
def Op.streamRows (o : Op) : Nat := (outSize (o.num 54 2) (o.num 28 2) (o.num 30 2) (o.byte 23) (o.B.size 2) (o.byte 18)).getD 0

/-- The input lines in the window of output row r. -/
def Op.winLines (o : Op) (r : Nat) : List Nat :=
  (List.range (o.B.size 2)).filterMap fun ky => tapAt r (o.byte 18) (o.num 28 2) ky (o.byte 23) (o.num 54 2)

/-- The window of output row r reaches the bottom padding. -/
def Op.atBottom (o : Op) (r : Nat) : Bool :=
  decide (o.num 54 2 + o.num 28 2 ≤ r * o.byte 18 + (o.B.size 2 - 1) * o.byte 23)

/-- Output row r can be written after n lines. -/
def Op.rowReady (o : Op) (r n : Nat) : Bool := (o.winLines r).all (fun y => decide (y < n)) && (!o.atBottom r || n == o.num 54 2)

/-- The sideband record of output row r (Table 9.4). -/
def Op.sideband (o : Op) (l : List PpLine) (r : Nat) : List Byte :=
  let ys := o.winLines r
  let ls := ys.filterMap fun y => l[y]?
  let fl := ls.foldl (fun a x => a ||| x.flags ||| (if x.bad then 32768 else 0)) 0
  match ls.getLast? with
  | none => fit 32 (zeros 12 ++ bytesOf 4 r)
  | some x => fit 32 (bytesOf 6 x.cnt ++ bytesOf 2 fl ++ bytesOf 4 x.seq ++ bytesOf 4 r ++ bytesOf 8 x.time ++ bytesOf 2 x.calgen)

/-- The rows of D that a conversion of new rows writes: these, and with a computed scale for each 64 KiB the held rows that share a region
with them (R369, log entry 147). -/
def Desc.touched (d : Desc) (new held : List Nat) : List Nat :=
  let units := fun (r : Nat) => ((List.range d.nBlocks).map fun b => d.s2Ix r b).dedup
  if d.scl && d.sdyn && d.s2mode == 2 then
    new ++ held.filter fun r => !new.contains r && (units r).any fun u => new.any fun q => (units q).contains u
  else new

/-- New output rows take the place of the rows D held there, whose counts go to the op's; rows coded again take their new count. -/
def PpX.take (x : PpX) (new : List (Nat × List Val)) (fl : List (Nat × Nat)) : PpX :=
  let gone := x.outs.filter fun e => new.any fun q => q.1 == e.1
  let stay := x.outs.filter fun e => !new.any fun q => q.1 == e.1
  let cnt := fun (r d : Nat) => (fl.find? fun e => e.1 == r).elim d (·.2)
  { x with outs := stay.map (fun e => (e.1, { e.2 with flushed := cnt e.1 e.2.flushed })) ++
                     new.map (fun q => (q.1, ⟨q.2.map f32Bits, cnt q.1 0⟩)),
           nz := x.nz + (gone.map fun e => e.2.nz).sum, flushed := x.flushed + (gone.map fun e => e.2.flushed).sum }

/-- Write output row r of a PP.STREAM and its sideband record. -/
def State.streamRow (s : State) (o : Op) (i r : Nat) (bias : List Val) (tb : Ten) : Eng Nat :=
  let x := s.pp o.unit
  let d := o.D
  let fd := if o.B.comp = 0 then o.B else o.B.dense
  let one : Desc := { d with dim := d.dim.set 2 0 }
  let c := s.cIn o
  let y := o.forward one (fun _ => r) i c x.w (o.num 54 2) bias fd tb (decide (8 ≤ x.fmt)) o.B.scl
    fun ch xx yy _ => match x.lines[yy]? with | some l => decodeFmt x.fmt (l.vals.getD (xx * c + ch) 0) | none => zeroV
  let k := r % d.size 2
  let n := d.size 1
  let new := (List.range n).map (n * k + ·)
  let old := x.held d
  let full : Ten := (List.range d.nRows).map fun row => if row / n = k then y.getD (row % n) [] else old.getD row []
  let rows := d.touched new (x.outs.map (·.1))
  let cc := Config.rowTime i r
  let pieces : List PieceRec := ⟨n * k, n, cc, o.unit, 0, 0⟩ :: (rows.drop n).map fun q => ⟨q, 1, cc, o.unit, 0, 0⟩
  (engOf (s.convTen o d full pieces (rows.contains ·) false)).then fun s w =>
  let s := s.setPp o.unit ((s.pp o.unit).take (new.map fun q => (q, full.getD q [])) w.flushes)
  let s := s.opStore o (roundUp (d.base + d.span) 64 + 32 * k) (o.sideband x.lines r)
  (((s.inc (Addr.ppEngCnt o.unit) 63 32 1).countOps 7 o.unit 1), .ok w.flags)

/-- Write the rows that are complete, at most n. -/
def State.streamRows (s : State) (uid i : Nat) (bias : List Val) (tb : Ten) : Nat → Eng Unit
  | 0 => (s, .ok ())
  | n + 1 =>
    match s.opOf uid with
    | none => (s, .ok ())
    | some o =>
      if o.count < o.streamRows ∧ o.rowReady o.count (s.pp o.unit).lines.length then
        (s.streamRow o i o.count bias tb).then fun s f =>
          (s.putOp { o with count := o.count + 1, flags := o.flags ||| f }).streamRows uid i bias tb n
      else (s, .ok ())

/-- An op completes with ERROR for a scale table at an address that cannot be used (R365, R366). -/
def State.scaleErr (s : State) (o : Op) (a : Nat) : State :=
  (s.record { s.opReport o 23 .lost (o.kindUnit 0).2 0 with addr := a, detail := [] }).failOp o

/-- The rows that are complete are written; lost says what follows a source that fails. -/
def State.drainRows (s : State) (o : Op) (lost : State → Op → State) : State :=
  let (i, s) := s.fresh
  match (s.tenC o o.B none).then fun s tb => (s.biasVec o).then fun s bias => s.streamRows o.uid i bias tb (o.streamRows + 1) with
  | (s, .ok _) => s
  | (s, .error e) => match s.opOf o.uid with
    | none => s
    | some o => match e with
      | .damaged a k => s.markDamaged o a k
      | .bad (.scale a) => s.scaleErr o a
      | .bad .read => lost s o

/-- The rows that are complete are written. Lines of the filter or the bias that fail are written again by their producers first; ERROR
where one has no producer (R329). -/
def State.streamDrain (s : State) (o : Op) : State :=
  let lost := fun (s : State) (o : Op) => s.lostOp o 7 o.unit 0
  s.drainRows o fun s o => match s.replayLines o (s.badSources o) with
    | some s => match s.opOf o.uid with
      | some o => s.drainRows o lost
      | none => s
    | none => lost s o

/-- A block is corrupt at rest (R541, R475). -/
def State.corruptBlock (s : State) (o : Op) (a chk : Nat) : State :=
  let e := s.streamEntry o
  let s := (s.sat (Addr.cxCnt1 (thClu o.th)) 47 32 1).record (s.blockReport o .corrupt a chk)
  let s := if e = 0 then s else s.poke (e + 7) (bytesOf 1 (s.peekNat (e + 7) 1 ||| 8))
  let o : Op := { o with dmg := [] }
  if o.cls = 3 then (s.corruptPage o a).putOp { o with corrupt := true }
  else (s.endOp o 5 o.flags).requestFor o.th .corrupt

/-- The block at an address is fetched again: chk is the check that fails then, 0 for none; a block damaged at rest fails as it
stands. -/
def State.refetch (s : State) (o : Op) (chk : Nat) : State :=
  match o.dmg with
  | [a, c1, f] =>
    let s := s.sat (Addr.cxCnt1 (thClu o.th)) 63 48 1
    let rest := match (s.work { o with dmg := [] } 0 []).2 with | .error (.damaged b c) => if b = a then c else 0 | _ => 0
    let k := if rest = 0 then chk else rest
    if k = 0 then
      let o : Op := { o with dmg := [], flags := o.flags ||| flRefetched }
      let s := s.putOp o
      if o.is 5 1 then s.streamDrain o else s
    else
      let s := s.cxLast o a k (f + 1)
      if f = 2 ∨ k = c1 then s.corruptBlock o a k else s.putOp { o with dmg := [a, k, 2] }
  | _ => s

/-- Meaning of BLOCK_REFETCH. -/
def execBlockRefetch (uid chk : Nat) (s : State) : Host.Outcome State Fault Refusal :=
  .next (s.progress uid fun s o => if chk ≤ 9 then s.refetch o chk else s)

/-! ## Completion (R317) -/

/-- Do an op's work and end it; lost says what follows a source that fails. -/
def State.workEnd (s : State) (o : Op) (conf : List Nat) (lost : State → State) : State :=
  let (i, s) := s.fresh
  match s.work o i conf with
  | (s, .ok r) => s.finishOp o r
  | (s, .error (.damaged a c)) => s.markDamaged o a c
  | (s, .error (.bad (.scale a))) => s.scaleErr o a
  | (s, .error (.bad .read)) => lost s

/-- An op whose sources fail completes with ERROR. -/
def State.lostWork (s : State) (o : Op) : State := s.lostOp o (o.kindUnit 0).1 (o.kindUnit 0).2 0

/-- Lines of the sources are written again by their producers, then the work is done; ERROR where one has no producer (R329). -/
def State.replayWork (s : State) (o : Op) (conf : List Nat) (l : List Ext) : State :=
  match s.replayLines o l with
  | some s => match s.opOf o.uid with
    | some o => s.workEnd o conf fun s => s.lostWork o
    | none => s
  | none => s.lostWork o

/-- Do an op's work and end it. -/
def State.complete (s : State) (o : Op) (conf : List Nat) : State :=
  s.workEnd o conf fun s => s.replayWork o conf (s.badSources o)

/-- The pieces of an op have all been done. -/
def State.readyToEnd (s : State) (o : Op) : Bool :=
  if o.byRows then decide (o.D.nRows ≤ o.rowsDone)
  else if o.is 5 1 then (s.pp o.unit).lines.length == o.num 54 2 && o.count == o.streamRows
  else if o.is 4 2 then o.aux.all fun h => s.sqRes (thClu o.th) (h % 256) != 4
  else true

/-- A tile op's writes are visible and its ticket completes, as the environment says it ended. -/
def State.opComplete (s : State) (o : Op) (env : OpEnv) : State :=
  if 8 ≤ o.cls ∨ o.is 7 2 ∨ o.is 7 3 ∨ !o.dmg.isEmpty then s
  else if o.cls = 7 then
    if !s.onTurn o then s else if env.err then s.moveFail o 0 else if s.moved o then s.copyEnd o else s
  else if !s.readyToEnd o then s
  else if env.err then
    s.replayWork o env.conf (o.srcs.filter fun e => !(s.producers o e).isEmpty)
  else match env.dmg with
    | some (a, c) => if (o.stream.isSome || o.is 3 0) && decide (1 ≤ c) && decide (c ≤ 9) then s.markDamaged o a c else s
    | none =>
      let s := if o.cls = 4 then s.inc (Addr.sqCnt (thClu o.th)) 63 32 1 else s
      let (s, o) := if o.rows.isEmpty then s.seedLoad o 0 else (s, o)
      let s := s.complete o env.conf
      if o.is 4 2 then s.swapIns (thClu o.th) else s

/-- Meaning of TILE_OP_COMPLETE. -/
def execTileOpComplete (uid : Nat) (env : OpEnv) (s : State) : Host.Outcome State Fault Refusal :=
  .next (s.progress uid fun s o => s.opComplete o env)

/-! ## PP.STREAM (R418 to R425) -/

/-- Bytes of a ring entry from an offset, wrapping at the ring's size. -/
def State.ringRead (s : State) (p r off n : Nat) : ReadRes :=
  let size := s.ringSize r
  let base := s.rf (Addr.ingRingBase r) 47 0 / size * size
  let k := min n (size - off % size)
  let q := s.readMem p (base + off % size) k 0
  if k = n then q else let z := q.s.readMem p base (n - k) 0; ⟨z.s, q.data ++ z.data, q.ok && z.ok⟩

/-- The input line of an entry: cut to W or filled with zeros (R419). -/
def ppLine (desc : List Byte) (vals : List Nat) (n : Nat) (cut bad : Bool) : PpLine :=
  { flags := recNat desc 24 2 ||| (if cut then 4 else 0), cnt := recNat desc 0 6, seq := recNat desc 16 4, time := recNat desc 8 8,
    calgen := recNat desc 22 2, vals := (vals ++ List.replicate n 0).take n, bad := bad }

/-- The first entry fixes W: it fits D and the line buffer (R416, R418). -/
def State.streamFits (s : State) (o : Op) (fmt w : Nat) : Bool :=
  outSize w (o.num 24 2) (o.num 26 2) (o.byte 22) (o.B.size 1) (o.byte 17) == some (o.D.size 1) &&
  decide (((o.B.size 2 - 1) * o.byte 23 + 1) * w * s.cIn o * (if fmtBits fmt = 16 then 2 else 1) ≤ 2 ^ 21)

/-- A line buffer error: counted and recorded (R424). -/
def State.lineBufErr (s : State) (o : Op) : State :=
  ((s.sat (Addr.ppEngCnt o.unit) 31 16 1).wb (Addr.ppEngStat o.unit) 3 true).record (s.opReport o 7 .detect o.unit 0)

/-- A ring entry reaches a PP.STREAM. -/
def State.streamEntryIn (s : State) (o : Op) (lbErr : Bool) : State :=
  let r := o.byte 52
  let n := o.unit
  let cons := s.rf (Addr.ingRingCons0 r) 22 0
  let x := s.pp n
  if cons = s.rf (Addr.ingRingProd r) 22 0 ∨ o.num 54 2 ≤ x.lines.length ∨ !o.dmg.isEmpty then s
  else
    let h := s.ringRead o.part r cons 32
    if !h.ok then h.s.lostOp o 7 n 0
    else
      let len := recNat h.data 20 2
      let c := h.s.cIn o
      let w := if x.lines.isEmpty then len else x.w
      if x.lines.isEmpty && !h.s.streamFits o x.fmt len then h.s.lostOp o 7 n 0
      else
        let bits := fmtBits x.fmt
        let bytes := (len * c * bits + 7) / 8
        let p := h.s.ringRead o.part r (cons + 32) bytes
        if !p.ok then p.s.lostOp o 7 n 0
        else
          let cut := decide (len ≠ w)
          let line := ppLine h.data (unpackBits p.data 0 bits (len * c)) (w * c) cut lbErr
          let s := if cut then p.s.sat (Addr.ppEngCnt n) 15 0 1 else p.s
          let s := if lbErr then s.lineBufErr o else s
          let s := s.setPp n { s.pp n with w := w, lines := x.lines ++ [line] }
          let (s, o) := s.seedLoad o n
          let s := s.putOp o
          let s := s.wf (Addr.ingRingCons0 r) 22 0 ((cons + roundUp (32 + bytes) 64) % s.ringSize r)
          s.streamDrain o

/-- Meaning of PP_STREAM_ENTRY: the running op of engine n takes the next entry of its ring; lbErr: the line's buffer is damaged. -/
def execPpStreamEntry (n : Nat) (lbErr : Bool) (s : State) : Host.Outcome State Fault Refusal :=
  if n < 2 then
    .next (match (s.pp n).q with
      | uid :: _ => s.progress uid fun s o => if o.is 5 1 then s.streamEntryIn o lbErr else s
      | [] => s)
  else .fault .noSuchUnit

/-! ## Swaps (R506 to R511) -/

/-- A swap copy of cluster c can run: clock, mover. -/
def State.canSwap (s : State) (c : Nat) : Bool := s.clk (1 + c) && !(s.moversUp c).isEmpty

/-- Meaning of SWAP_IN_COMPLETE. -/
def execSwapInComplete (c k : Nat) (fail : Bool) (s : State) : Host.Outcome State Fault Refusal :=
  if c < 6 ∧ k < 256 then .next (if s.canSwap c then (s.swapInDone c k fail).startOps else s) else .fault .noSuchUnit

/-- Meaning of SWAP_OUT_COMPLETE. -/
def execSwapOutComplete (c k : Nat) (s : State) : Host.Outcome State Fault Refusal :=
  if c < 6 ∧ k < 256 then .next (if s.canSwap c then (s.swapOutDone c k).startOps else s) else .fault .noSuchUnit

/-! ## Movers -/

/-- Meaning of MOVEMENT_BLOCK (R582): mism mismatches at the destination, flt failing checks at the source. -/
def execMovementBlock (uid mism flt : Nat) (s : State) : Host.Outcome State Fault Refusal :=
  .next (s.progress uid fun s o => if s.onTurn o && o.xfer.isNone then s.moveBlock o mism flt else s)

/-- Meaning of FILL_COMPLETE: a promote's copy ends (R587, R589). -/
def execFillComplete (uid : Nat) (err : Bool) (s : State) : Host.Outcome State Fault Refusal :=
  .next (s.startOps.dirCopyEnd uid 2 err).startOps

/-- Meaning of DRAIN_COMPLETE: an evict's write-back ends. -/
def execDrainComplete (uid : Nat) (err : Bool) (s : State) : Host.Outcome State Fault Refusal :=
  .next (s.startOps.dirCopyEnd uid 3 err).startOps

/-- Meaning of CKPT_COMMIT (R283, R284). -/
def execCkptCommit (uid : Nat) (err : Bool) (s : State) : Host.Outcome State Fault Refusal :=
  .next (s.progress uid fun s o => if o.cls == 8 && s.onTurn o && (err || s.moved o) then s.commit o err else s)

end Sys2Proof.Machine
end

