-- ==== Sys2Proof/Machine/FabricOps.lean ====
section
/-! DEFINITION. The transactions of the fabric (R626 to R632, R638): remote writes, reads and flags served for another device,
the responses to this device's transfers, and the end-to-end timeout. -/

namespace Sys2Proof.Machine

open Sys2Proof

/-! ## Served for another device -/

/-- The window i of partition p contains n bytes from an offset and permits the access (R632, Table 14.9). -/
def State.impHas (s : State) (p i : Nat) (k : Acc) (off n : Nat) : Bool :=
  let b := s.rd (Addr.fabPartImpBase p i)
  let base := fld b 30 16 * 65536
  bit b 63 && (if k = .write then bit b 62 else bit b 61) && decide (base ≤ off) &&
    decide (off + n ≤ base + s.rf (Addr.fabPartImpSize p i) 31 16 * 65536)

/-- The device address of an offset of partition p's import windows: none without a window or on a segment fault (R632). -/
def State.impAddr (s : State) (p : Nat) (k : Acc) (off n : Nat) : Option Nat :=
  match (List.range 8).find? fun i => s.impHas p i k off n with
  | none => none
  | some i =>
    let a := s.rf (Addr.fabPartImpLocal p i) 47 16 * 65536 + (off - s.rf (Addr.fabPartImpBase p i) 30 16 * 65536)
    match translate (s.segsOf p) k a n with
    | some d => if s.memRange d n || (decide (region d = .host) && s.linkUp) then some d else none
    | none => none

/-- Write bytes that a device sent, with the partition's tag (R547). -/
def State.impWrite (s : State) (p d : Nat) (bs : List Byte) : State :=
  if region d = .host then s.hostWrite (s.hostAddr p (d - 0x7E0000000000)) bs else s.writeMem p d bs

/-- Read bytes for another device (R549). -/
def State.impRead (s : State) (p d n flt : Nat) : ReadRes :=
  if region d = .host then ⟨s, s.hostRead (s.hostAddr p (d - 0x7E0000000000)) n, true⟩ else s.readMem p d n flt

/-- The block at the head of a receive buffer where it is of a type. -/
def State.rxHead (s : State) (q type : Nat) : Option Block :=
  match (s.port q).rx with
  | (b, _) :: _ => if b.type = type ∧ (q = inner ∨ s.clk (11 + q)) then some b else none
  | [] => none

/-- The head leaves the receive buffer, and its credit goes back. -/
def State.rxDrop (s : State) (q : Nat) (b : Block) : State :=
  (s.setPort q { s.port q with rx := (s.port q).rx.drop 1 }).credit q b

/-- Answer a block: the response goes to its sender in its domain. -/
def State.answer (s : State) (p type dst off : Nat) (pay : List Byte) : State := (s.inject p (mkBlk type dst off true pay)).2

/-- A negative response with its reason (Table 14.4). -/
def State.nak (s : State) (p type dst off reason : Nat) : State := s.answer p type dst off (bytesOf 4 reason ++ zeros 12)

/-- A failed tag of a block that gets no response (R638). -/
def State.tagFail (s : State) (p : Nat) : State := s.sat (Addr.fabPartStat p) 47 32 1

/-- The reason noted for a sender's write that goes on: 0 none, 1 TAGFAIL, 2 ACCESS. -/
def State.wrReason (s : State) (src dom : Nat) : Nat :=
  ((s.wrFail.filter fun e => e.1 == src && e.2.1 == dom).map (·.2.2)).foldl max 0

/-- A WR block: written where it passes; the response goes out at the LAST block (R626, R638). -/
def State.wrIn (s : State) (p : Nat) (b : Block) : State :=
  let off := b.off * 64
  let bad := fun (s : State) (r : Nat) => { s with wrFail := s.wrFail ++ [(b.src, b.dom, r)] }
  let s := match s.open_ p b with
    | none => bad s 1
    | some pay => match s.impAddr p .write off pay.length with
      | none => bad s 2
      | some d => s.impWrite p d pay
  if !b.last then s
  else
    let r := s.wrReason b.src b.dom
    let s := { s with wrFail := s.wrFail.filter fun e => !(e.1 == b.src && e.2.1 == b.dom) }
    if r = 0 then s.answer p 2 b.src b.off [] else s.nak p 3 b.src b.off r

/-- The RDRSP blocks of data: OFF / 64 rises with the blocks. -/
def State.sendRsp (s : State) (p dst off : Nat) (data : List Byte) : State := (s.sendBlocks p 5 dst (chunks 8 off data)).2

/-- An RDREQ: answered with the data, or with RDNAK (R630, R632). -/
def State.rdIn (s : State) (p : Nat) (b : Block) (flt : Nat) : State :=
  match s.open_ p b with
  | none => s.tagFail p
  | some pay =>
    let n := recNat pay 0 4
    match (if n % 64 = 0 ∧ 64 ≤ n ∧ n ≤ 4096 then s.impAddr p .read (b.off * 64) n else none) with
    | none => s.nak p 6 b.src b.off 2
    | some d =>
      let r := s.impRead p d n flt
      if r.ok then r.s.sendRsp p b.src (b.off * 64) r.data else r.s.nak p 6 b.src b.off 2

/-- A FLAG: one 8-byte store, answered with a WRACK (R631). -/
def State.flagIn (s : State) (p : Nat) (b : Block) : State :=
  match s.open_ p b with
  | none => s.tagFail p
  | some pay =>
    let off := recNat pay 0 8
    match (if off % 8 = 0 then s.impAddr p .write off 8 else none) with
    | none => s.nak p 3 b.src (off / 64) 2
    | some d => (s.impWrite p d ((pay.drop 8).take 8)).answer p 2 b.src (off / 64) []

/-- The memory a block touches is not to be reached now (R568, R569). -/
def State.impWaits (s : State) (p : Nat) (k : Acc) (off n : Nat) : Bool :=
  match s.impAddr p k off n with
  | some d => s.extWaits ⟨d, d + n⟩
  | none => false

/-- The offset and length that a request touches, where its tag passes. -/
def State.touches (s : State) (p : Nat) (b : Block) : Acc × Nat × Nat :=
  let pay := (s.open_ p b).getD []
  match b.type with
  | 4 => (.read, b.off * 64, recNat pay 0 4)
  | 7 => (.write, recNat pay 0 8, 8)
  | _ => (.write, b.off * 64, pay.length)

/-- Take the head of a receive buffer of a type; its partition handles it. -/
def State.serve (s : State) (q type : Nat) (f : State → Nat → Block → State) : State :=
  match s.rxHead q type with
  | none => s
  | some b => match s.domPart b.dom with
    | none => (s.sat Addr.fabDrop 31 0 1).rxDrop q b
    | some p =>
      let (k, off, n) := s.touches p b
      if (type = 1 ∨ type = 4 ∨ type = 7) ∧ s.impWaits p k off n then s else f (s.rxDrop q b) p b

/-- A receive command on a buffer: a port, or the queue of blocks sent to the device itself (R625). -/
def fabRecv (q type : Nat) (f : State → Nat → Block → State) (s : State) : Host.Outcome State Fault Refusal :=
  if q ≤ inner then .next (s.serve q type f) else .fault .noSuchUnit

/-- Meaning of WR_RECEIVE. -/
def execWrReceive (q : Nat) (s : State) : Host.Outcome State Fault Refusal := fabRecv q 1 (fun s p b => s.wrIn p b) s

/-- Meaning of RDREQ_RECEIVE: flt failing checks meet its read. -/
def execRdreqReceive (q flt : Nat) (s : State) : Host.Outcome State Fault Refusal := fabRecv q 4 (fun s p b => s.rdIn p b flt) s

/-- Meaning of FLAG_RECEIVE. -/
def execFlagReceive (q : Nat) (s : State) : Host.Outcome State Fault Refusal := fabRecv q 7 (fun s p b => s.flagIn p b) s

/-! ## Responses to this device (R628 to R630) -/

/-- An outstanding transfer of an op answers to a response of partition p from a device with an OFF: for data the OFF lies in what
was asked for, else it is the transfer's. -/
def Xfer.answers (x : Xfer) (b : Block) : Bool :=
  x.dev == b.src &&
  (if x.kind = 1 then (if b.type = 5 then decide (x.off ≤ b.off ∧ b.off < x.off + x.len / 64) else b.type == 6 && b.off == x.off)
   else (b.type == 2 || b.type == 3) && b.off == x.off)

/-- The oldest outstanding movement block that a response matches (R629). -/
def State.match_ (s : State) (p : Nat) (b : Block) : Option (Op × Xfer) :=
  let l := s.ops.filterMap fun o => match o.xfer with
    | some x => if !o.done && o.part == p && x.answers b then some (o, x) else none
    | none => none
  match l with
  | [] => none
  | e :: t => some (t.foldl (fun a e => if e.2.at_ < a.2.at_ then e else a) e)

/-- A response: matched, or counted. -/
def State.response (s : State) (p : Nat) (b : Block) (f : State → Op → Xfer → State) : State :=
  match s.match_ p b with
  | some (o, x) => f s o x
  | none => s.sat Addr.fabE2e 15 0 1

/-- Meaning of WRACK_RECEIVE. -/
def execWrackReceive (q : Nat) (s : State) : Host.Outcome State Fault Refusal :=
  fabRecv q 2 (fun s p b => match s.open_ p b with
    | none => s.tagFail p
    | some _ => s.response p b fun s o x => s.acked o x) s

/-- Meaning of WRNAK_RECEIVE: TAGFAIL sends the movement block again, ACCESS ends the op (R628). -/
def execWrnakReceive (q : Nat) (s : State) : Host.Outcome State Fault Refusal :=
  fabRecv q 3 (fun s p b => match s.open_ p b with
    | none => s.tagFail p
    | some pay => s.response p b fun s o x => if recNat pay 0 1 = 1 then s.resend o x else s.moveFail o o.resend) s

/-- Meaning of RDRSP_RECEIVE: a block that does not pass its tag makes the requester ask again (R630). -/
def execRdrspReceive (q : Nat) (s : State) : Host.Outcome State Fault Refusal :=
  fabRecv q 5 (fun s p b => s.response p b fun s o x => match s.open_ p b with
    | none => s.resend o x
    | some pay => s.gotData o x b pay) s

/-- Meaning of RDNAK_RECEIVE. -/
def execRdnakReceive (q : Nat) (s : State) : Host.Outcome State Fault Refusal :=
  fabRecv q 6 (fun s p b => match s.open_ p b with
    | none => s.tagFail p
    | some _ => s.response p b fun s o _ => s.moveFail o o.resend) s

/-- FAB_CFG.E2ETO in ticks; 0 is treated as 1 us. -/
def State.e2eTo (s : State) : Nat := usTicks (max 1 (s.rf Addr.fabCfg 63 48))

/-- Meaning of E2E_TIMEOUT: an op's movement block has waited E2ETO for its response (R628, R630). -/
def execE2eTimeout (uid : Nat) (s : State) : Host.Outcome State Fault Refusal :=
  .next (match s.opOf uid with
    | some o => match o.xfer with
      | some x => if x.at_ + s.e2eTo ≤ s.time then (s.sat Addr.fabE2e 31 16 1).resend o x else s
      | none => s
    | none => s)

end Sys2Proof.Machine
end

