-- ==== Sys2Proof/Machine/Pcie.lean ====
section
/-! DEFINITION. The PCI Express endpoint (R644 to R661): configuration space, BAR2, MSI-X tables, resets, request scans, event
rings. -/

namespace Sys2Proof.Machine

open Sys2Proof

/-- The clock of the endpoint runs (R748). -/
def State.pciOn (s : State) : Bool := s.clk 10

/-- A TLP wakes the device (Table 17.7); it is no event while the supervisor pair runs. -/
def State.tlp (s : State) : State := if s.clk 0 then s else s.raiseWake 1 0

/-- The answer to the last request of the host: completion status (0 successful, 1 unsupported request, 2 configuration retry,
4 completer abort, 5 successful with poisoned data) and data. -/
def State.reply (s : State) (status : Nat) (data : List Byte) : State :=
  { s with pcie := { s.pcie with status := status, reply := data } }

/-! ## Link and resets (R644, R653, Table 17.10) -/

/-- Meaning of PCIE_LINK_UP: width 1, 2, 4 or 8, speed 1 to 4 (Table 14.7). -/
def execPcieLinkUp (width speed : Nat) (s : State) : Host.Outcome State Fault Refusal :=
  .next (if s.pciOn ∧ (width = 1 ∨ width = 2 ∨ width = 4 ∨ width = 8) ∧ 1 ≤ speed ∧ speed ≤ 4 then
    s.wr Addr.pciLink (BitVec.ofNat 64 (width * 2 ^ 16 + 2 ^ 8 + speed)) else s)

/-- A register of function f. -/
def isFnReg (f k : Nat) : Bool := decide (0xC01000 + f * 0x100 ≤ k) && decide (k < 0xC01100 + f * 0x100)

/-- The event ring of function f starts again at index 0; its queue stays. -/
def State.evRestart (s : State) (f : Nat) : State :=
  s.setEvring f { s.evring f with cons := 0, readAt := none, stopped := false, intAt := none, intPend := false }

/-- Endpoint reset: link, configuration space, MSI-X state, registers of every function, a scan in progress. -/
def State.endpointReset (s : State) : State :=
  let s := s.resetRegs fun k => decide (0xC00000 ≤ k) && decide (k < 0xD00000)
  let s := { s with pcie := { s.pcie with cfg := [], msix := [], scan := none } }
  (List.range 5).foldl (fun s f => s.evRestart f) s

/-- Meaning of ENDPOINT_RESET: PERST_N low, or a hot reset. -/
def execEndpointReset (s : State) : Host.Outcome State Fault Refusal := .next s.endpointReset

/-- Meaning of PCIE_LINK_DOWN: an endpoint reset (Table 17.10). -/
def execPcieLinkDown (s : State) : Host.Outcome State Fault Refusal := .next (if s.linkUp then s.endpointReset else s)

/-- Meaning of FUNCTION_LEVEL_RESET (R653). -/
def execFunctionLevelReset (f : Nat) (s : State) : Host.Outcome State Fault Refusal :=
  if f < 5 then
    .next (if s.linkUp && decide (f < s.pcie.nfunc.getD 0) then
      let s := s.resetRegs (isFnReg f)
      let s := { s with pcie := { s.pcie with
        cfg := Sparse.keep (fun k => k / 1024 != f) s.pcie.cfg, msix := Sparse.keep (· != f) s.pcie.msix,
        scan := if s.pcie.scan.map (fun (q : Nat × Nat) => q.1) = some f then none else s.pcie.scan } }
      let s := if s.pcie.scan.isNone then s.wb Addr.pciRqStat 16 false else s
      ((s.evRestart f).wb (Addr.pciFnStat f) 2 true).supEvent
    else s)
  else .fault .noSuchUnit

/-! ## Configuration space (R644 to R646, R779) -/

/-- The subsystem IDs of function f, from the configuration record (Table 16.3, SSID). -/
def State.ssid (s : State) (f : Nat) : Nat := recNat (s.trust.record.getD []) (152 + 4 * f) 4

/-- A stored dword of configuration space. -/
def State.cfgStored (s : State) (f d : Nat) : BitVec 32 := Sparse.get (fun _ => 0) s.pcie.cfg (f * 1024 + d)

/-- Dword d of function f's configuration space: the header fields of R645 at the places of the standard, the two BARs, the
MSI-X control word; every other dword is the standard's and not stated. -/
def State.cfgRead (s : State) (f d : Nat) : BitVec 32 :=
  let v := s.cfgStored f d
  match d with
  | 0 => BitVec.ofNat 32 ((if f = 0 then 0x0648 else 0x0649) * 65536 + 0x1EA7)
  | 2 => 0x120000A1
  | 4 => (v &&& BitVec.ofNat 32 (if f = 0 then 0xFC000000 else 0xFFC00000)) ||| 4
  | 5 => v
  | 6 => 0xC
  | 7 => v &&& 0xFFFFFFFC
  | 8 => 0
  | 9 => 0
  | 11 => BitVec.ofNat 32 (s.ssid f)
  | _ =>
    if d = Config.msixDword then
      let m := s.msi f
      BitVec.ofNat 32 (m.enable.toNat * 2 ^ 31 + m.mask.toNat * 2 ^ 30 + 31 * 2 ^ 16 + (Config.cfgDword f d).toNat % 65536)
    else Config.cfgDword f d

/-- Vector v of an MSI-X state is masked. -/
def Msix.masked (m : Msix) (v : Nat) : Bool :=
  m.mask || (Sparse.get (fun i => if i % 16 = 12 then (1 : Byte) else 0) m.table (v * 16 + 12)).getLsbD 0

/-- Pending vectors that are no longer masked are raised. -/
def Msix.settle (m : Msix) : Msix :=
  if !m.enable then m
  else
    let go := m.pend.filter fun v => !m.masked v
    { m with pend := m.pend.filter m.masked,
             raised := go.foldl (fun r v => Sparse.set (fun _ => 0) r v (Sparse.get (fun _ => 0) r v + 1)) m.raised }

/-- Write dword d of function f's configuration space. -/
def State.cfgWrite (s : State) (f d : Nat) (v : BitVec 32) : State :=
  let s := { s with pcie := { s.pcie with cfg := Sparse.set (fun _ => 0) s.pcie.cfg (f * 1024 + d) v } }
  if d = Config.msixDword then s.setMsi f (Msix.settle { s.msi f with enable := v.getLsbD 31, mask := v.getLsbD 30 }) else s

/-- Meaning of CONFIG_REQUEST: retried until the functions are fixed (R779); a function that is not enumerated does not answer. -/
def execConfigRequest (f : Nat) (wr : Bool) (off : Nat) (v : W32) (s : State) : Host.Outcome State Fault Refusal :=
  if f < 5 ∧ off < 4096 then
    .next (if !s.pciOn then s
      else match s.pcie.nfunc with
        | none => s.reply 2 []
        | some n =>
          if n ≤ f then s.reply 1 []
          else
            let s := s.tlp
            if wr then (s.cfgWrite f (off / 4) v).reply 0 [] else s.reply 0 (bytesOf 4 (s.cfgRead f (off / 4)).toNat))
  else .fault .noSuchUnit

/-! ## The MSI-X table (R647, R654) -/

/-- Read 8 bytes of function f's MSI-X table or pending-bit array: o is the offset from the table. -/
def State.msixRead (s : State) (f o : Nat) : W64 :=
  let m := s.msi f
  if o < 512 then
    BitVec.ofNat 64 (natOf ((List.range 8).map fun i => Sparse.get (fun j => if j % 16 = 12 then (1 : Byte) else 0) m.table (o + i)))
  else if o = 0x8000 then BitVec.ofNat 64 (bitsOf m.pend) else 0

/-- Write the enabled bytes of a word of function f's MSI-X table; the pending bits are read-only. -/
def State.msixWrite (s : State) (f o : Nat) (be : BitVec 8) (v : W64) : State :=
  if 512 ≤ o then s
  else
    let m := s.msi f
    let t := ((List.range 8).filter fun i => be.getLsbD i).foldl (fun (t : Sparse Byte) i =>
      Sparse.set (fun j => if j % 16 = 12 then (1 : Byte) else 0) t (o + i) (v.extractLsb' (8 * i) 8)) m.table
    s.setMsi f (Msix.settle { m with table := t })

/-! ## BAR2 (R648, R649) -/

/-- What a BAR2 access reaches: a device address, or nothing (unmapped, or powered down). -/
def State.bar2Addr (s : State) (f off n : Nat) (k : Acc) : Option Nat :=
  let a := s.rf (Addr.pciFnWin f) 47 34 * 2 ^ 34 + off
  let d := if f = 0 then some a else if s.partState f = 0 then none else translate (s.segsOf f) k a n
  match d with
  | none => none
  | some d =>
    let gated := match region d with | .cluster c | .tile c _ => s.rb (Addr.pmuCluStat c) 6 | _ => false
    let asleep := decide (region d = .ddr) && s.rb Addr.pmuStat 1
    if s.memRange d n && !gated && !asleep then some d else none

/-- A BAR2 request of function f is taken: the link is up, the function enumerated, the request inside the BAR. -/
def State.bar2Ok (s : State) (f off n : Nat) : Bool :=
  s.linkUp && s.pciOn && s.meshOn && decide (f < s.pcie.nfunc.getD 0) && decide (off + n ≤ 2 ^ 34) && decide (1 ≤ n)

/-- A TLP that the device cannot carry out now wakes it where the endpoint runs with the link up (Table 17.7). -/
def State.tlpIn (s : State) : State := if s.linkUp && s.pciOn then s.tlp else s

/-- A BAR2 error shows in WINERR. -/
def State.winErr (s : State) (f : Nat) : State := s.wb (Addr.pciFnStat f) 1 true

/-- Meaning of BAR2_READ: flt failing checks meet the first line. -/
def execBar2Read (f off len flt : Nat) (s : State) : Host.Outcome State Fault Refusal :=
  if f < 5 then
    .next (if !s.bar2Ok f off len then s.tlpIn
      else match s.bar2Addr f off len .read with
        | none => (s.winErr f).reply 0 (List.replicate len 0xFF)
        | some d =>
          if s.mustWait d then s
          else
            let r := s.readMem f d len flt
            if r.ok then r.s.reply 0 r.data else (r.s.winErr f).reply 5 r.data)
  else .fault .noSuchUnit

/-- Meaning of BAR2_WRITE. -/
def execBar2Write (f off : Nat) (data : List Byte) (s : State) : Host.Outcome State Fault Refusal :=
  if f < 5 then
    .next (if !s.bar2Ok f off data.length then s.tlpIn
      else match s.bar2Addr f off data.length .write with
        | none => s.winErr f
        | some d => if s.mustWait d then s else s.writeMem f d data)
  else .fault .noSuchUnit

/-! ## Host-window reads that fail (R652) -/

/-- The op reads the host window with its next movement block. -/
def State.readsHost (s : State) (o : Op) : Bool :=
  match s.nextBlock o with
  | r :: _ => o.srcWin r == 2
  | [] => false

/-- Meaning of HOST_READ_FAIL: a mover's op completes with ERROR, a scalar load raises DATAERR. -/
def execHostReadFail (who : HostReader) (s : State) : Host.Outcome State Fault Refusal :=
  match who with
  | .mover uid => .next (s.progress uid fun s o => if s.onTurn o ∧ s.readsHost o then s.moveFail o 0 else s)
  | .scalar th a =>
    instr th (fun s =>
      match s.devAddr (s.thPart th) .read a.toNat 1 with
      | some d => if region d = .host then s.raise th .dataErr a else s
      | none => s) s

/-! ## Request scans (R655 to R658) -/

/-- The slots of function f. -/
def State.nslot (s : State) (f : Nat) : Nat := max 1 (min 1024 (s.rf (Addr.pciFnRqcfg f) 26 16))

/-- A write of PCI_RQ_CMD; a SCAN while one is in progress is ignored. -/
def State.rqCmd (s : State) (v : W64) : State :=
  let f := fld v 2 0
  if bit v 8 && decide (f < 5) && s.rb (Addr.pciFnRqcfg f) 0 && s.pcie.scan.isNone then
    ({ s with pcie := { s.pcie with scan := some (f, s.nslot f) } }).wb Addr.pciRqStat 16 true
  else s

/-- Bytes 0 to 7 of slot i: nothing where its read fails. -/
def State.slotHead (s : State) (f i : Nat) (fails : List Nat) : Option (List Byte) :=
  if !s.linkUp || fails.contains i then none else some (s.hostRead (s.rf (Addr.pciFnRqbase f) 63 8 * 256 + 256 * i) 8)

/-- A slot is pending (R657). -/
def slotPending (b : List Byte) : Bool := recNat b 0 4 != 0 && recNat b 0 4 != recNat b 4 4

/-- The mirror of a scan; the copy of a slot whose read failed has no stated value. -/
def State.writeMirror (s : State) (f n : Nat) (heads : List (Option (List Byte))) : State :=
  let (i, s) := s.fresh
  let pend := (List.range n).filter fun k => match heads.getD k none with | some b => slotPending b | none => false
  let copies := (List.range n).flatMap fun k => (heads.getD k none).getD ((List.range 8).map fun j => Config.freeByte i (8 * k + j))
  let a := s.rf (Addr.pciFnRqmir f) 47 6 * 64
  let l := bytesOf 128 (bitsOf pend) ++ copies
  let s := if decide (region a = .global) && decide (region (a + l.length - 1) = .global) then s.writeMem 0 a l else s
  s.wr Addr.pciRqStat (BitVec.ofNat 64 pend.length)

/-- Meaning of REQUEST_SCAN_COMPLETE: fails lists the slots whose reads failed. -/
def execRequestScanComplete (fails : List Nat) (s : State) : Host.Outcome State Fault Refusal :=
  .next (match s.pcie.scan with
    | some (f, n) =>
      if s.meshOn && s.pciOn then
        let heads := (List.range n).map fun i => s.slotHead f i fails
        ((({ s with pcie := { s.pcie with scan := none } }).writeMirror f n heads)).supEvent
      else s
    | none => s)

/-! ## Event rings (R659 to R661) -/

/-- A write of PCI_EVPOST: bytes 16 to 63 of the image in global SRAM (R660). -/
def State.evpost (s : State) (v : W64) : State :=
  let f := fld v 50 48
  let a := fld v 47 6 * 64
  if f < 5 ∧ region a = .global then
    let r := s.readMem 0 a 64 0
    if r.ok then (r.s.evPush f 3 (r.data.drop 16)).2 else r.s
  else s

/-- An advance of an event ring's producer index asks for its interrupt (R178). -/
def State.evInt (s : State) (f : Nat) : State :=
  let cfg := s.rd (Addr.pciFnEvcfg f)
  let x := s.evring f
  if !bit cfg 26 || !(s.msi f).enable then s
  else
    let now := (s.setEvring f { x with intAt := some s.time, intPend := false }).raiseMsi f (fld cfg 31 27)
    match x.intAt with
    | some t => if s.time < t + usTicks (fld cfg 39 32) then s.setEvring f { x with intPend := true } else now
    | none => now

/-- The bytes of an event record (R659). -/
def EvRec.bytes (r : EvRec) (pidx phase : Nat) : List Byte :=
  bytesOf 4 pidx ++ bytesOf 1 r.type ++ bytesOf 1 phase ++ zeros 2 ++ bytesOf 8 r.time ++ fit 48 r.body

/-- Write the first record of function f's queue, then the producer index (R172, R173, R659). -/
def State.writeEvent (s : State) (f : Nat) : State :=
  let x := s.evring f
  let cfg := s.rd (Addr.pciFnEvcfg f)
  let log := ringLog (fld cfg 12 8)
  let pidx := s.rf (Addr.pciFnEvpidx f) 31 0
  match x.q with
  | [] => s
  | r :: q =>
    if !bit cfg 0 || x.stopped || !s.linkUp || !s.pciOn || ringFull pidx x.cons log then s
    else
      let s := s.hostWrite (s.rf (Addr.pciFnEvbase f) 63 12 * 4096 + 64 * (pidx % 2 ^ log)) (r.bytes pidx (pidx / 2 ^ log % 2))
      let s := s.hostWrite (s.rf (Addr.pciFnEvpaddr f) 63 3 * 8) (bytesOf 4 (pidx + 1))
      let s := (s.inc (Addr.pciFnEvpidx f) 31 0 1).setEvring f { x with q := q }
      s.evInt f

/-- Meaning of EVENT_RECORD_WRITE. -/
def execEventRecordWrite (f : Nat) (s : State) : Host.Outcome State Fault Refusal :=
  if f < 5 then .next (s.writeEvent f) else .fault .noSuchUnit

end Sys2Proof.Machine
end

