-- ==== Sys2Proof/Machine/Trust.lean ====
section
/-! DEFINITION. The trust unit (chapter 16): flash and the configuration record, keys, measurements, images, attestation, debug
unlock. Published algorithms (SHAKE256, KMAC, SLH-DSA, AES-GCM) are uninterpreted. -/

namespace Sys2Proof.Machine

open Sys2Proof

/-! ## Flash and the configuration record (R719 to R723) -/

/-- n bytes of flash. -/
def State.flashRead (s : State) (a n : Nat) : List Byte := (List.range n).map fun i => Sparse.get (fun _ => flash0) s.flash (a + i)

/-- Program bytes into flash. -/
def State.flashPut (s : State) (a : Nat) : List Byte → State
  | [] => s
  | b :: t => ({ s with flash := Sparse.set (fun _ => flash0) s.flash a b }).flashPut (a + 1) t

/-- The bytes of an ASCII string. -/
def ascii (x : String) : List Byte := x.toList.map fun c => BitVec.ofNat 8 c.toNat

/-- Bytes [a, a + n) of a record. -/
def sub (r : List Byte) (a n : Nat) : List Byte := (r.drop a).take n

/-- CFGKEY (Table 16.1). -/
def Trust.cfgKey (t : Trust) : List Byte := Config.kmac256 t.root (ascii "config") 256 "CV648"
/-- SEALKEY (Table 16.1). -/
def Trust.sealKey (t : Trust) : List Byte := Config.kmac256 t.root (ascii "seal") 256 "CV648"
/-- The seeds of the identity pair (Table 16.1). -/
def Trust.idSeeds (t : Trust) : List Byte := Config.kmac256 t.root (ascii "identity") 768 "CV648"
/-- The identity public key. -/
def Trust.idPk (t : Trust) : List Byte := fit 64 (Config.slhPublic t.idSeeds)
/-- SHAKE256 with a 256-bit output, 32 bytes. -/
def shake (l : List Byte) : List Byte := fit 32 (Config.shake256 l)
/-- IDDIG. -/
def Trust.idDig (t : Trust) : List Byte := shake t.idPk

/-- The TAG of a record. -/
def Trust.tagOf (t : Trust) (r : List Byte) : List Byte := fit 32 (Config.kmac256 t.cfgKey (r.take 65504) 256 "CV648 config")

/-- A record is valid (R720). -/
def Trust.recordOk (t : Trust) (r : List Byte) : Bool :=
  sub r 0 4 == [0x43, 0x56, 0x43, 0x52] && recNat r 8 4 == 1 && sub r 65504 32 == t.tagOf r

/-- SEQ of a record. -/
def recSeq (r : List Byte) : Nat := recNat r 4 4

/-- The selected record and whether it is slot B's (R720). -/
def selectRecord (a b : Option (List Byte)) : Option (List Byte × Bool) :=
  match a, b with
  | some x, some y =>
    let d := (BitVec.ofNat 32 (recSeq y) - BitVec.ofNat 32 (recSeq x)).toInt
    if 0 < d then some (y, true) else some (x, false)
  | some x, none => some (x, false)
  | none, some y => some (y, true)
  | none, none => none

/-- The address of a slot. -/
def slotAt (b : Bool) : Nat := if b then 0x20000 else 0x10000

/-- The domain entry i of a record, its seed opened under SEALKEY (Table 16.3). -/
def Trust.domEntry (t : Trust) (r : List Byte) (i : Nat) : DomEnt :=
  let e := sub r (1024 + 128 * i) 128
  let aad := sub e 0 1 ++ sub e 4 4
  let seed := (Config.gcmOpen t.sealKey (sub e 8 12) aad (sub e 20 32) (sub e 52 16)).getD []
  ⟨recNat e 0 1, (recNat e 1 1).testBit 0 && !seed.isEmpty, recNat e 4 4, seed⟩

/-- Take an output of the random generator (R709): its number. -/
def State.draw (s : State) : List Byte × State :=
  (fit 32 (Config.random s.trust.drawn), { s with trust := { s.trust with drawn := s.trust.drawn + 1 } })

/-- The bytes of a domain entry, its seed sealed under a fresh IV. -/
def State.sealEntry (s : State) (e : DomEnt) : List Byte × State :=
  let (iv, s) := s.draw
  let aad := bytesOf 1 e.dom ++ bytesOf 4 e.highEra
  let c := Config.gcmSeal s.trust.sealKey (iv.take 12) aad e.seed
  let body := if e.seedOk then iv.take 12 ++ fit 32 c.1 ++ fit 16 c.2 else []
  (fit 128 (bytesOf 1 e.dom ++ bytesOf 1 e.seedOk.toNat ++ zeros 2 ++ bytesOf 4 e.highEra ++ body), s)

/-- The sealed area of the domain entries. -/
def State.sealArea (s : State) (l : List DomEnt) : List Byte × State :=
  l.foldl (fun (a : List Byte × State) e => let q := a.2.sealEntry e; (a.1 ++ q.1, q.2)) ([], s)

/-- A record completed by the trust unit: SEQ, ERAFLOOR, the sealed area, TAG (R711, R719, R722). -/
def State.finishRecord (s : State) (r : List Byte) (seq floor : Nat) (l : List DomEnt) : List Byte × State :=
  let (area, s) := s.sealArea l
  let r := patch (patch (patch (fit 65536 r) 4 (bytesOf 4 seq)) 344 (bytesOf 4 floor)) 1024 (fit 1024 area)
  (patch r 65504 (s.trust.tagOf r), s)

/-- Show the selected record (TRU_CFGSEQ). -/
def State.cfgSync (s : State) : State :=
  s.wr Addr.truCfgseq (match s.trust.record with
    | some r => BitVec.ofNat 64 (recSeq r + s.trust.slotB.toNat * 2 ^ 32)
    | none => BitVec.ofNat 64 (0xFF * 2 ^ 32))

/-- Commit a record to the slot that does not hold the selected one; it is then the selected record (R720, R721). -/
def State.commitRecord (s : State) (r : List Byte) (floor : Nat) (l : List DomEnt) : State :=
  let b := s.trust.record.isSome && !s.trust.slotB
  let s := s.flashPut (slotAt b) r
  ({ s with trust := { s.trust with record := some r, slotB := b, eraFloor := floor, doms := l } }).cfgSync

/-- Word i of TRU_CFGVIEW: the selected record with its sealed area read as zero (R723). -/
def State.cfgView (s : State) (i : Nat) : W64 :=
  if 128 ≤ i ∧ i < 256 then 0 else BitVec.ofNat 64 (recNat (s.trust.record.getD []) (8 * i) 8)

/-- The record in effect. -/
def Trust.inEffect (t : Trust) : List Byte := t.eff.getD []
/-- OWNER_PK in effect. -/
def Trust.ownerPk (t : Trust) : List Byte := sub t.inEffect 16 64
/-- MINVER in effect. -/
def Trust.minVer (t : Trust) : Nat := recNat t.inEffect 144 4
/-- DBGPOL in effect: owner tokens. -/
def Trust.dbgToken (t : Trust) : Bool := recNat t.inEffect 149 1 / 2 % 4 == 1

/-- At boot the configuration record is selected and takes effect; the enumerated functions are fixed (R720, R726, R779). -/
def State.selectAtBoot (s : State) : State :=
  let ok := fun b => let r := s.flashRead (slotAt b) 65536; if s.trust.recordOk r then some r else none
  match selectRecord (ok false) (ok true) with
  | some (r, b) =>
    let telem := (recNat r 149 1).testBit 0
    let doms := (List.range 8).map fun i => s.trust.domEntry r i
    let s := { s with
      trust := { s.trust with record := some r, eff := some r, slotB := b, eraFloor := recNat r 344 4, doms := doms, telem := telem },
      pcie := { s.pcie with nfunc := some (max 1 (min 5 (recNat r 148 1))) } }
    (s.wb Addr.truStat 5 telem).cfgSync
  | none =>
    let s := { s with trust := { s.trust with record := none, eff := none }, pcie := { s.pcie with nfunc := some 1 } }
    (s.wf Addr.truStat 3 0 1).cfgSync

/-! ## Measurements (R730, R731) -/

/-- Extend a measurement by D and log it: target 0 to 5 a cluster, 6 SUPMEAS. -/
def State.extendM (s : State) (target : Nat) (d : List Byte) (kind : Nat) : State :=
  let t := s.trust
  let m := if target = 6 then t.supmeas else t.cmeas.getD target (zeros 32)
  let m' := shake (m ++ d)
  let entry := fit 64 (bytesOf 4 t.logn ++ bytesOf 1 target ++ bytesOf 1 kind ++ zeros 2 ++ bytesOf 8 s.time ++ d)
  let s := { s with trust := { t with supmeas := if target = 6 then m' else t.supmeas,
                                      cmeas := if target = 6 then t.cmeas else t.cmeas.set target m',
                                      logdig := shake (t.logdig ++ entry), logn := t.logn + 1 } }
  if t.logn < 512 then
    (List.range 8).foldl (fun s i => s.wr (Addr.truLog (8 * t.logn + i)) (BitVec.ofNat 64 (recNat entry (8 * i) 8))) s
  else s.wb Addr.truStat 7 true

/-! ## Images (R724, R725, R728, R729) -/

/-- An image header's fields. -/
structure Img where
  ver : Nat
  body : Nat
  load : Nat
  entry : Nat

/-- The header of an image, where it is well formed (R724). -/
def imgOf (b : List Byte) : Option Img :=
  let n := recNat b 8 4
  let a := recNat b 16 6
  if sub b 0 4 == [0x43, 0x56, 0x49, 0x4D] && decide (n ≤ 12 * 2 ^ 20) && decide (a % 64 = 0) && decide (region a = .global) &&
      decide (region (a + 64 + n + 29792 - 1) = .global) &&
      allZero (sub b 12 4) && allZero (sub b 22 2) && allZero (sub b 30 34) then some ⟨recNat b 4 4, n, a, recNat b 24 6⟩
  else none

/-- What a check of an image answers: its header, or the result code of Table 16.8. -/
def checkImage (pk : List Byte) (minVer : Nat) (b : List Byte) : Except Nat Img :=
  match imgOf b with
  | none => .error 2
  | some m =>
    if b.length < 64 + m.body + 29792 then .error 2
    else if !Config.slhVerify true pk (b.take (64 + m.body)) "CV648 image" (sub b (64 + m.body) 29792) then .error 3
    else if m.ver < minVer then .error 4
    else .ok m

/-- Bytes of global SRAM that the trust unit reads: none where the range leaves it or a line fails. -/
def State.truRead (s : State) (a n : Nat) : State × Option (List Byte) :=
  if decide (region a = .global) && decide (region (a + n - 1) = .global) then
    let r := s.readMem 0 a n 0
    (r.s, if r.ok then some r.data else none)
  else (s, none)

/-- An image is copied to LOADADDR with its signature (R725, item 3). -/
def State.copyImage (s : State) (b : List Byte) (m : Img) : State := s.writeMem 0 m.load (b.take (64 + m.body + 29792))

/-- A verified image becomes the running one and the pair jumps to ENTRY (R725, item 4). -/
def State.runImage (s : State) (b : List Byte) (m : Img) (g1 : Nat) (imgB : Bool) : State :=
  let body := b.take (64 + m.body)
  let dig := shake body
  let s := { s with trust := { s.trust with rundig := dig, runver := m.ver, runaddr := m.load, runlen := body.length, runentry := m.entry } }
  let s := (s.extendM 6 dig 0).wb Addr.truStat 9 imgB
  let s := s.wf Addr.truStat 3 0 0
  let th := { thread0 with pc := pcOf (BitVec.ofNat 64 m.entry) }.setG 1 (BitVec.ofNat 64 g1)
  let old := s.thread supTid
  let th := { th with serial := old.serial, tkts := old.tkts, wrapped := old.wrapped }
  { (s.setThread supTid th) with sup := { s.sup with st := .run, g1 := g1 } }

/-- The image named at bytes [o, o + 8) of the record in effect is copied to its LOADADDR and verified (R725, item 3). -/
def State.tryImage (s : State) (o : Nat) : State × Option (List Byte × Img) :=
  let r := s.trust.inEffect
  let b := s.flashRead (recNat r o 4) (recNat r (o + 4) 4)
  match imgOf b with
  | none => (s, none)
  | some m => (s.copyImage b m, match checkImage s.trust.ownerPk s.trust.minVer b with | .ok m => some (b, m) | .error _ => none)

/-- Boot from flash: IMGA, then IMGB (R725, item 3); false where neither passes. -/
def State.bootFlash (s : State) (g1 : Nat) : State × Bool :=
  if s.trust.eff.isNone then (s, false)
  else match s.tryImage 112 with
    | (s, some q) => (s.runImage q.1 q.2 g1 false, true)
    | (s, none) => match s.tryImage 128 with
      | (s, some q) => (s.runImage q.1 q.2 g1 true, true)
      | (s, none) => (s, false)

/-- A requested restart makes the staged image the running one (R729). -/
def State.promoteStaged (s : State) : State :=
  if !s.rb Addr.truStat 4 then s
  else
    let t := s.trust
    let s := { s with trust := { t with
      rundig := t.stagedig, runver := t.stagever, runaddr := t.stageaddr, runlen := t.stagelen, runentry := t.stageentry,
      stagedig := [], stagever := 0, stageaddr := 0, stagelen := 0, stageentry := 0 } }
    (s.extendM 6 t.stagedig 3).wb Addr.truStat 4 false

/-! ## Commands (Table 16.8) -/

/-- A command may start: the supervisor program wrote it and none is in progress; one written meanwhile sets OVR. -/
def State.truCmd (s : State) (f : State → Nat × State) : State :=
  if s.rb Addr.truCmdstat 63 then s.wb Addr.truCmdstat 8 true
  else
    let (r, s) := f (s.wb Addr.truCmdstat 63 true)
    { s with trust := { s.trust with result := some r } }

/-- STAGE (R728). -/
def State.stageCmd (s : State) (blk : Nat) : Nat × State :=
  match s.truRead blk 64 with
  | (s, none) => (2, s)
  | (s, some c) => match s.truRead (recNat c 0 6) (recNat c 8 4) with
    | (s, none) => (2, s)
    | (s, some b) =>
      if s.trust.eff.isNone then (7, s)
      else match checkImage s.trust.ownerPk s.trust.minVer b with
        | .error e => (e, s)
        | .ok m =>
          let s := { s with trust := { s.trust with stagedig := shake (b.take (64 + m.body)), stagever := m.ver, stageaddr := m.load,
                                                    stagelen := 64 + m.body, stageentry := m.entry } }
          (0, s.wb Addr.truStat 4 true)

/-- UNSTAGE (R728). -/
def State.unstageCmd (s : State) : Nat × State :=
  (0, ({ s with trust := { s.trust with stagedig := [], stagever := 0, stageaddr := 0, stagelen := 0, stageentry := 0 } }).wb
    Addr.truStat 4 false)

/-- EXTEND (R730). -/
def State.extendCmd (s : State) (blk : Nat) : Nat × State :=
  match s.truRead blk 64 with
  | (s, none) => (2, s)
  | (s, some c) => if 6 < recNat c 0 1 then (2, s) else (0, s.extendM (recNat c 0 1) (sub c 8 32) 1)

/-- The reserved fields of a record image are zero, its fields in range (Table 16.3). -/
def recordZero (r : List Byte) : Bool :=
  allZero (sub r 12 4) && allZero (sub r 124 4) && allZero (sub r 140 4) && decide (recNat r 149 1 < 8) && allZero (sub r 150 2) &&
  allZero (sub r 172 4) && decide (recNat r 234 1 < 2) && allZero (sub r 235 5) && allZero (sub r 348 676)

/-- CFGWRITE (R722): flashOk is false where the flash refuses. -/
def State.cfgWriteCmd (s : State) (blk : Nat) (flashOk : Bool) : Nat × State :=
  match s.truRead blk 64 with
  | (s, none) => (2, s)
  | (s, some c) => match s.truRead (recNat c 0 6) 65536 with
    | (s, none) => (2, s)
    | (s, some r) => match s.trust.record with
      | none => (7, s)
      | some old =>
        let t := s.trust
        let change := sub r 16 64 != sub old 16 64
        let seq := (recSeq old + 1) % 2 ^ 32
        let (s, sig) := if change then s.truRead (recNat c 16 6) 29792 else (s, some [])
        let msg := t.idDig ++ sub r 16 64 ++ bytesOf 4 seq
        let signed := !change || ((recNat c 8 1).testBit 0 &&
          (match sig with | some g => Config.slhVerify true (sub old 16 64) msg "CV648 transfer" g | none => false))
        if !recordZero r || sub r 0 4 != [0x43, 0x56, 0x43, 0x52] || recNat r 8 4 != 1 || sub r 80 32 != t.idDig then (2, s)
        else if recNat r 144 4 < recNat old 144 4 then (4, s)
        else if !signed then (3, s)
        else if !flashOk then (6, s)
        else
          let (r, s) := s.finishRecord r seq t.eraFloor t.doms
          (0, s.commitRecord r t.eraFloor t.doms)

/-- The entry that a LOADSEED for a domain uses, and the ERA floor afterwards (R711): none where ERA is refused. -/
def State.seedSlot (s : State) (dom era : Nat) : Option (Nat × Nat) :=
  let t := s.trust
  let ent := fun (i : Nat) => t.doms.getD i (DomEnt.mk 0 false 0 [])
  let live := fun d => [1, 2, 3, 4].any fun p => s.domOf p == d
  match (List.range 8).find? fun i => (ent i).dom == dom with
  | some i => if (ent i).highEra < era then some (i, t.eraFloor) else none
  | none =>
    if era ≤ t.eraFloor then none
    else match (List.range 8).find? fun i => (ent i).dom == 0 with
      | some i => some (i, t.eraFloor)
      | none =>
        match (List.range 8).filter fun i => !live (ent i).dom with
        | [] => none
        | i :: l =>
          let k := l.foldl (fun a b => if (ent b).highEra < (ent a).highEra then b else a) i
          some (k, max t.eraFloor (ent k).highEra)

/-- The fabric key of an epoch under a seed (Table 16.1). -/
def fabricKey (seed : List Byte) (dom era e : Nat) : List Byte :=
  fit 32 (Config.kmac256 seed (bytesOf 1 dom ++ bytesOf 4 era ++ bytesOf 1 e) 256 "CV648 fabric")

/-- LOADSEED (R710, R711). -/
def State.loadSeedCmd (s : State) (blk : Nat) (flashOk : Bool) : Nat × State :=
  match s.truRead blk 64 with
  | (s, none) => (2, s)
  | (s, some c) =>
    let p := recNat c 0 1
    let (persist, sealed_) := ((recNat c 1 1).testBit 0, (recNat c 1 1).testBit 1)
    let era := recNat c 4 4
    if p = 0 ∨ 4 < p then (2, s)
    else
      let dom := s.domOf p
      let old := s.trust.doms.find? fun e => e.dom == dom && e.seedOk
      match s.trust.record with
      | none => (7, s)
      | some r =>
        if dom = 0 ∨ s.partState p ≠ 1 ∨ (sealed_ ∧ old.isNone) then (7, s)
        else match s.seedSlot dom era with
          | none => (5, s)
          | some (i, floor) =>
            if !flashOk then (6, s)
            else
              let seed := if sealed_ then (old.map (·.seed)).getD [] else sub c 8 32
              let none_ : DomEnt := ⟨0, false, 0, []⟩
              let new : DomEnt := ⟨dom, persist, era, if persist then seed else []⟩
              let l := (s.trust.doms ++ List.replicate (8 - s.trust.doms.length) none_).set i new
              let (r, s) := s.finishRecord r ((recSeq r + 1) % 2 ^ 32) floor l
              let s := s.commitRecord r floor l
              let mk := fun (e : Nat) => (HeldKey.mk e (fabricKey seed dom era e) none)
              let keys := [mk 1, mk 2]
              let s := s.setKey p { s.key p with era := era, seed := some seed, fab := keys }
              (0, (s.wr (Addr.fabPartEpoch p) 1).wr (Addr.fabPartCtr p) 0)

/-- A write of TRU_CMD (Table 16.8): the command it names. -/
def State.truCmdWrite (s : State) (op blk : Nat) (flashOk : Bool) : State :=
  s.truCmd fun s => match op with
    | 1 => s.cfgWriteCmd blk flashOk
    | 2 => s.stageCmd blk
    | 3 => s.unstageCmd
    | 4 => s.extendCmd blk
    | 5 => s.loadSeedCmd blk flashOk
    | _ => (2, s)

/-- A command that the supervisor program writes; another source's write is ignored (R747). -/
def truCmdOf (src : Src) (op blk : Nat) (flashOk : Bool) (s : State) : Host.Outcome State Fault Refusal :=
  .next (if src = .sup then s.truCmdWrite op (blk % 2 ^ 48 / 64 * 64) flashOk else s)

/-- Meaning of CFGWRITE. -/
def execCfgwrite (src : Src) (blk : Nat) (flashOk : Bool) (s : State) : Host.Outcome State Fault Refusal := truCmdOf src 1 blk flashOk s

/-- Meaning of STAGE. -/
def execStage (src : Src) (blk : Nat) (s : State) : Host.Outcome State Fault Refusal := truCmdOf src 2 blk true s

/-- Meaning of UNSTAGE. -/
def execUnstage (src : Src) (blk : Nat) (s : State) : Host.Outcome State Fault Refusal := truCmdOf src 3 blk true s

/-- Meaning of EXTEND. -/
def execExtend (src : Src) (blk : Nat) (s : State) : Host.Outcome State Fault Refusal := truCmdOf src 4 blk true s

/-- Meaning of LOADSEED. -/
def execLoadseed (src : Src) (blk : Nat) (flashOk : Bool) (s : State) : Host.Outcome State Fault Refusal := truCmdOf src 5 blk flashOk s

/-- Meaning of TRU_COMMAND_COMPLETE: BUSY falls and RESULT shows. -/
def execTruCommandComplete (s : State) : Host.Outcome State Fault Refusal :=
  .next (match s.trust.result with
    | some r => ({ s with trust := { s.trust with result := none } }).wr Addr.truCmdstat
        (setFld (setBit (s.rd Addr.truCmdstat) 63 false) 7 0 r)
    | none => s)

/-! ## Keys (R709, R712, R713, R718) -/

/-- Q in ticks: 1,018 us. -/
def quiet : Nat := usTicks 1018

/-- Meaning of KEY_DERIVE_COMPLETE: the key of CUR + 1 is placed; epoch 1 is never derived after 255. -/
def execKeyDeriveComplete (p : Nat) (s : State) : Host.Outcome State Fault Refusal :=
  if 1 ≤ p ∧ p ≤ 4 then
    let k := s.key p
    let e := s.rf (Addr.fabPartEpoch p) 7 0 + 1
    .next (match k.seed with
      | some seed =>
        if e = 1 ∨ 255 < e ∨ (s.fabKey p e).isSome then s
        else
          let n : HeldKey := ⟨e, fabricKey seed (s.domOf p) k.era e, none⟩
          s.setKey p { k with fab := k.fab ++ [n] }
      | none => s)
  else .fault .noSuchUnit

/-- A key stopped being current at least Q ago. -/
def HeldKey.stale (k : HeldKey) (now : Nat) : Bool := match k.retired with | some t => decide (t + quiet ≤ now) | none => false

/-- Meaning of KEY_ZEROISE: the fabric keys, or the host-page keys, that are due. -/
def execKeyZeroise (p : Nat) (host : Bool) (s : State) : Host.Outcome State Fault Refusal :=
  if 1 ≤ p ∧ p ≤ 4 then
    let k := s.key p
    let keep := fun (l : List HeldKey) => l.filter fun k => !k.stale s.time
    .next (s.setKey p (if host then { k with host := keep k.host } else { k with fab := keep k.fab }))
  else .fault .noSuchUnit

/-- Meaning of RNG_RESEED: after 2^20 outputs the generator takes new noise; its later outputs are free values as before. -/
def execRngReseed (s : State) : Host.Outcome State Fault Refusal :=
  .next (if s.pmu.on ∧ s.trust.drawn ≠ 0 ∧ s.trust.drawn % 2 ^ 20 = 0 then s.fresh.2 else s)

/-- The host-page keys of a partition that are current (R713). -/
def State.hostKeySync (s : State) (p : Nat) : State :=
  let r := s.rd (Addr.truPartStat p)
  let keep := fun e => e == fld r 15 8 || (bit r 24 && e == fld r 23 16)
  s.setKey p { s.key p with host := retireKeys keep s.time (s.key p).host }

/-- The host epoch advances with a fresh key (R718). -/
def State.hostAdvance (s : State) (p : Nat) (retire : Bool) : State :=
  let st := Addr.truPartStat p
  let c := s.rf st 15 8
  let n := c % 255 + 1
  let (k, s) := s.draw
  let old := (s.key p).host.filter fun k => k.epoch != n
  let key : HeldKey := ⟨n, k, none⟩
  let s := s.setKey p { s.key p with host := key :: old, hctr := 0 }
  (((s.wf st 23 16 c).wf st 15 8 n).wb st 24 (!retire)).hostKeySync p

/-! ## Attestation (R733 to R735) -/

/-- CSTATE of a cluster (Table 16.4). -/
def State.cstate (s : State) (c : Nat) : Nat :=
  if s.rb (Addr.pmuCluStat c) 7 then 1 else if !s.cluLive c then 2 else if s.cluPart c = 0 then 3 else 0

/-- The bytes 0 to 1,023 of a report on a nonce (Table 16.4). -/
def State.reportBytes (s : State) (nonce : List Byte) : List Byte :=
  let t := s.trust
  let r := t.record.getD []
  let st := s.rd Addr.truStat
  let flags := (bit st 4).toNat + 2 * (bit st 5).toNat + 4 * (bit st 6).toNat + 8 * (bit st 7).toNat + 16 * (fld st 3 0 == 2).toNat
  let trans := bit st 4
  let clus := (List.range 6).flatMap fun c =>
    fit 32 (t.cmeas.getD c []) ++ bytesOf 4 (s.rf (Addr.truCluStat c) 31 0) ++ bytesOf 1 (s.cstate c) ++ bytesOf 1 (s.cluPart c) ++ zeros 10
  let parts := [1, 2, 3, 4].flatMap fun p =>
    bytesOf 1 (s.partState p) ++ bytesOf 1 (s.domOf p) ++ bytesOf 1 (s.rf (Addr.fabPartEpoch p) 7 0) ++
    bytesOf 1 (s.rf (Addr.truPartStat p) 15 8) ++ bytesOf 1 (bitsOf (s.partClus p)) ++ zeros 3
  fit 1024 (bytesOf 2 1 ++ bytesOf 2 flags ++ bytesOf 4 (recSeq r) ++ bytesOf 8 (if s.ptbOn then s.time else 0) ++ fit 32 nonce ++
    t.idPk ++ fit 32 Config.romDigest ++ fit 32 Config.vendorRootDigest ++ shake t.ownerPk ++ fit 32 t.rundig ++
    (if trans then fit 32 t.stagedig else zeros 32) ++ bytesOf 4 t.runver ++ bytesOf 4 (if trans then t.stagever else 0) ++
    bytesOf 4 t.minVer ++ bytesOf 4 t.logn ++ fit 32 t.logdig ++ clus ++ parts ++ bytesOf 8 (s.rd Addr.hltSummary).toNat ++
    fit 32 t.supmeas)

/-- The nonce in TRU_NONCE0 to 3. -/
def State.nonce (s : State) : List Byte := (List.range 4).flatMap fun i => bytesOf 8 (s.rd (Addr.truNonce i)).toNat

/-- Bring SIGNING and PENDING up to date. -/
def State.attSync (s : State) : State :=
  (s.wb Addr.truAttstat 63 s.trust.signing.isSome).wb Addr.truAttstat 62 s.trust.pending.isSome

/-- A write of TRU_ATTCTL.GO (R733, R734). -/
def State.attGo (s : State) (v : W64) : State :=
  if !bit v 0 then s
  else if s.trust.signing.isSome then ({ s with trust := { s.trust with pending := some s.nonce } }).attSync
  else ({ s with trust := { s.trust with signing := some (s.reportBytes s.nonce) } }).attSync

/-- Meaning of ATTEST_COMPLETE: the report is signed and written, and a pending request starts (R734, R735). -/
def execAttestComplete (s : State) : Host.Outcome State Fault Refusal :=
  .next (match s.trust.signing with
    | none => s
    | some r =>
      let (rnd, s) := s.draw
      let rep := r ++ fit 49856 (Config.slhSign s.trust.idSeeds r "CV648 attest" rnd)
      let s := (List.range 6360).foldl (fun s i => s.wr (Addr.truReport i) (BitVec.ofNat 64 (recNat rep (8 * i) 8))) s
      let s := s.inc Addr.truAttstat 31 0 1
      let next := s.trust.pending.map s.reportBytes
      ({ s with trust := { s.trust with signing := next, pending := none } }).attSync)

/-! ## Debug unlock (R743 to R746) -/

/-- A fresh challenge (R744): none under DBGPOL 0b00. -/
def State.newChallenge (s : State) : State :=
  if !s.trust.dbgToken then s
  else
    let (c, s) := s.draw
    let s := { s with trust := { s.trust with challenge := some c } }
    (List.range 4).foldl (fun s i => s.wr (Addr.truDbgchal i) (BitVec.ofNat 64 (recNat c (8 * i) 8))) s

/-- Debug relocks (R743, R746). -/
def State.relock (s : State) : State :=
  (({ s with trust := { s.trust with unlockEnd := none } }).wf Addr.truDbgstat 7 0 0).wb Addr.truStat 6 false

/-- The token in the buffer. -/
def State.tokenBytes (s : State) : List Byte := (List.range 3740).flatMap fun i => bytesOf 8 (s.rd (Addr.truToken i)).toNat

/-- A token is accepted (R745). -/
def State.tokenOk (s : State) (t : List Byte) : Bool :=
  s.trust.dbgToken && s.trust.challenge == some (sub t 0 32) && sub t 32 32 == s.trust.idDig && decide (recNat t 64 4 < 256) &&
  decide (1 ≤ recNat t 68 4) && decide (recNat t 68 4 ≤ 86400) && allZero (sub t 72 56) &&
  Config.slhVerify true s.trust.ownerPk (sub t 0 128) "CV648 debug" (sub t 128 29792)

/-- Meaning of DEBUG_UNLOCK: the verification of the submitted token ends (R745, R746). -/
def execDebugUnlock (s : State) : Host.Outcome State Fault Refusal :=
  .next (if !s.trust.token then s
    else
      let t := s.tokenBytes
      let ok := s.tokenOk t
      let s := { s with trust := { s.trust with token := false, challenge := none } }
      let s := (List.range 4).foldl (fun s i => s.wr (Addr.truDbgchal i) 0) s
      if !ok then s
      else
        let fin := s.rf Addr.pmuAontime 47 0 + recNat t 68 4 * 32768
        let s := { s with trust := { s.trust with unlockEnd := some fin } }
        let s := ((s.wf Addr.truDbgstat 7 0 (recNat t 64 1)).wb Addr.truStat 6 true).extendM 6 (shake (sub t 0 128)) 2
        s.record (report 21 .signal 0 0))

/-- Meaning of DEBUG_LIFE_EXPIRY (R746). -/
def execDebugLifeExpiry (s : State) : Host.Outcome State Fault Refusal :=
  .next (match s.trust.unlockEnd with
    | some t => if t ≤ s.rf Addr.pmuAontime 47 0 then s.relock else s
    | none => s)

/-- TRU_DBGSTAT's seconds left. -/
def State.debugLeft (s : State) : Nat :=
  match s.trust.unlockEnd with
  | some t => ceilDiv (t - s.rf Addr.pmuAontime 47 0) 32768
  | none => 0

end Sys2Proof.Machine
end

