-- ==== Sys2Proof/Machine/Parts.lean ====
section
/-! DEFINITION. Partitions (chapter 16): creation, resizing and teardown; segment tables, the clear of a leaving cluster, the cluster
reset, and the base threads' control register (chapters 17 and 18). -/

namespace Sys2Proof.Machine

open Sys2Proof

/-! ## Segments (R793, R794, R797) -/

/-- The kind of region that a segment's target byte lies in, for item 1 of R793: the cluster windows with their gaps are one. -/
def segRegion (s : State) (a : Nat) : Nat :=
  if a < 0x1000000 then 1
  else if 0x10000000 ≤ a ∧ a < 0x1C000000 then 2
  else if ddrBase ≤ a ∧ a < ddrBase + s.ddrLimit then 3
  else if 0x7D0000000000 ≤ a ∧ a < 0x7E0000000000 then 4
  else if 0x7E0000000000 ≤ a ∧ a < 0x7F0000000000 then 5
  else 0

/-- A byte range meets the window of cluster c. -/
def meetsWindow (c a n : Nat) : Bool := decide (a < cluBase c + 0x2000000) && decide (cluBase c < a + n)

/-- The item of R793 that refuses enabling segment i of partition p with a base, a target and a size in bytes; 0 none. -/
def State.segCheck (s : State) (p i pa ta n : Nat) : Nat :=
  if n = 0 ∨ segRegion s ta = 0 ∨ segRegion s ta ≠ segRegion s (ta + n - 1) then 1
  else if segRegion s ta = 2 ∧ (List.range 6).any (fun c => meetsWindow c ta n && s.cluPart c != p) then 2
  else if (List.range 32).any (fun j => j != i && match s.seg p j with
      | some g => decide (g.pa < pa + n) && decide (pa < g.pa + g.size)
      | none => false) then 3
  else if 0x7F0000000000 < pa + n then 4
  else 0

/-- A refused write of a segment (Table 18.9). -/
def State.segRefuse (s : State) (p i reason : Nat) : State :=
  ((s.wb (Addr.glbSegerr p) 8 true).wf (Addr.glbSegerr p) 7 5 reason).wf (Addr.glbSegerr p) 4 0 i

/-- A write of GLB_SEGp_i_CFG that would store new (R793, R794). -/
def State.segCfgWrite (s : State) (p i : Nat) (new : W64) : State :=
  if bit new 35 then
    match s.segCheck p i (s.rf (Addr.glbSegPa p i) 47 16 * 65536) (s.rf (Addr.glbSegTa p i) 47 16 * 65536) (fld new 24 0 * 65536) with
    | 0 => s.wr (Addr.glbSegCfg p i) new
    | r => s.segRefuse p i r
  else s.wr (Addr.glbSegCfg p i) new

/-- A write of GLB_SEGp_i_PA or GLB_SEGp_i_TA (R794). -/
def State.segAddrWrite (s : State) (p i off : Nat) (new : W64) : State :=
  if s.rb (Addr.glbSegCfg p i) 35 then s.segRefuse p i 6 else s.wr off new

/-- Disable every segment of partition p whose target meets the window of cluster c (R797). -/
def State.segDrop (s : State) (p c : Nat) : State :=
  (List.range 32).foldl (fun s i =>
    match s.seg p i with
    | some g =>
      if meetsWindow c g.ta g.size then (s.wb (Addr.glbSegCfg p i) 35 false).wb (Addr.glbSegerr p) 16 true else s
    | none => s) s

/-- Disable every segment of partition p. -/
def State.segOff (s : State) (p : Nat) : State := (List.range 32).foldl (fun s i => s.wb (Addr.glbSegCfg p i) 35 false) s

/-! ## Clearing and resetting clusters (R705, R782) -/

/-- A memory key (a line number with w 64, a byte address with w 1) outside the window of cluster c. -/
def offWindow (c w k : Nat) : Bool := !(decide (cluBase c ≤ k * w) && decide (k * w < cluBase c + 0x2000000))

/-- Every line of the cluster's SRAM becomes invalid with tag 0, and its context store is emptied (R705). -/
def State.clearSram (s : State) (c : Nat) : State :=
  { s with mem := Sparse.keep (offWindow c 1) s.mem, lines := Sparse.keep (offWindow c 64) s.lines,
           ctxs := Sparse.keep (fun k => k / 128 != c) s.ctxs,
           threads := Sparse.keep (fun k => k / 128 != c || k % 128 == 64) s.threads }

/-- A cluster leaving a partition is cleared; the clear lasts until CLUSTER_CLEAR_COMPLETE (R705). -/
def State.clearCluster (s : State) (c : Nat) : State :=
  let s := s.clearSram c
  { s with pmu := { s.pmu with clearing := if s.pmu.clearing.contains c then s.pmu.clearing else s.pmu.clearing ++ [c] } }

/-- Meaning of CLUSTER_CLEAR_COMPLETE. -/
def execClusterClearComplete (c : Nat) (s : State) : Host.Outcome State Fault Refusal :=
  if c < 6 then .next { s with pmu := { s.pmu with clearing := s.pmu.clearing.filter (· != c) } } else .fault .noSuchUnit

/-- A cluster idle as R704 asks of one that is removed. -/
def State.cluIdle (s : State) (c : Nat) : Bool :=
  !s.rb (Addr.schCfg c) 0 && ((List.range 64).all fun x => (s.ctx c x).st == .free) && s.rb (Addr.cluBasectl c) 1

/-- Bring the INSERV and RETIRED marks of cluster c's units to the retirement bits, which a reset keeps (Table 17.10). -/
def State.retSync (s : State) (c : Nat) : State :=
  let mark := fun (s : State) (k u : Nat) =>
    match inservBit k u with
    | some (off, r) =>
      let out := s.rb (Addr.hltKindRet k) u
      let s := s.wb off 0 (!out)
      match r with | some b => s.wb off b out | none => s
    | none => s
  let s := (List.range 8).foldl (fun s t => mark s 1 (8 * c + t)) s
  let s := (List.range 2).foldl (fun s e => mark s 2 (2 * c + e)) s
  let s := mark (mark (mark s 3 c) 4 c) 5 c
  let s := (List.range 4).foldl (fun s m => mark s 6 (4 * c + m)) s
  let s := (List.range 8).foldl (fun s t => s.wb (Addr.mtTileStat c t) 3 (s.suspect 1 (8 * c + t))) s
  let s := (List.range 2).foldl (fun s e => s.wb (Addr.veEngStat c e) 3 (s.suspect 2 (2 * c + e))) s
  s.wb (Addr.cluStat c) 8 (!s.rb (Addr.hltKindRet 8) c && !(s.vesUp c).isEmpty && !(s.moversUp c).isEmpty)

/-- A key of a table with n entries to a cluster does not belong to cluster c. -/
def notOf (c n k : Nat) : Bool := k / n != c

/-- The cluster reset (R782): the cluster is cleared, its LFSRs loaded with 1, its registers reset, REPOCH incremented; the partition
it belongs to and the retirement bits stay. -/
def State.clusterReset (s : State) (c : Nat) : State :=
  let part := s.cluPart c
  let s := s.releaseAll (tid c 64) false
  let gone := s.ops.filter fun o => thClu o.th == c
  let s := gone.foldl (fun s o => s.popPp o.uid) s
  let s := { s with ops := s.ops.filter fun o => thClu o.th != c }
  let s := s.clearSram c
  let s := { s with threads := Sparse.keep (notOf c 128) s.threads, clus := Sparse.keep (· != c) s.clus,
                    sems := Sparse.keep (notOf c 256) s.sems, tiles := Sparse.keep (notOf c 8) s.tiles,
                    resid := Sparse.keep (· != c) s.resid, pevt := Sparse.keep (· != c) s.pevt,
                    lfsr := Sparse.keep (notOf c 32) s.lfsr }
  let lo := Addr.cluStat c
  let s := s.resetRegs fun k => decide (lo ≤ k) && decide (k < lo + 0x100000)
  let s := ((s.wf (Addr.cluStat c) 2 0 part).retSync c).wb (Addr.cluStat c) 9 true
  (s.wb (Addr.pmuCluStat c) 7 true).inc (Addr.truCluStat c) 31 0 1

/-- A write of RST = 1 (R782). -/
def State.rstWrite (s : State) (c : Nat) : State :=
  if s.cluPart c = 0 ∨ s.cluIdle c then s.clusterReset c else s.wb Addr.pmuStat 2 true

/-- Meaning of CLUSTER_RESET_COMPLETE: RSTBUSY ends, and CMEAS reads zero (R732, R782). -/
def execClusterResetComplete (c : Nat) (s : State) : Host.Outcome State Fault Refusal :=
  if c < 6 then
    .next (if s.rb (Addr.pmuCluStat c) 7 then
      let s := (s.wb (Addr.pmuCluStat c) 7 false).wb (Addr.cluStat c) 9 false
      { s with trust := { s.trust with cmeas := s.trust.cmeas.set c (zeros 32) } }
    else s)
  else .fault .noSuchUnit

/-- Take a cluster's power: its state is lost and its clock stops (R783). -/
def State.gateCluster (s : State) (c : Nat) : State :=
  let s := ((s.clearSram c).wb (Addr.pmuCluStat c) 6 true).wb Addr.clkLive (1 + c) false
  s.wf Addr.clkSel (2 * c + 3) (2 * c + 2) 0

/-- Give a gated cluster power again: a cluster reset is applied (R783). -/
def State.powerCluster (s : State) (c : Nat) : State := (s.wb (Addr.pmuCluStat c) 6 false).clusterReset c

/-- A write of PWR (R783). -/
def State.pwrWrite (s : State) (c : Nat) (on : Bool) : State :=
  let gated := s.rb (Addr.pmuCluStat c) 6
  if on then if gated then (s.wb (Addr.pmuCluCtl c) 8 true).powerCluster c else s
  else if gated || s.cluPart c != 0 then s
  else (s.wb (Addr.pmuCluCtl c) 8 false).gateCluster c

/-! ## Base threads (R242, R810) -/

/-- START = 1 while HALT is 1: the base thread of a cluster that is in service and in a partition starts with every register zero. -/
def State.startBase (s : State) (c : Nat) : State :=
  if s.cluLive c && s.cluPart c != 0 then
    let t := s.thread (tid c 64)
    let n : Thread := { thread0 with pc := pcOf (s.rd (Addr.cluBasepc c)), serial := t.serial, tkts := t.tkts, wrapped := t.wrapped }
    let s := (s.setThread (tid c 64) n).wf (Addr.cluBasectl c) 1 0 1
    if (s.clu c).running = none then s.pick c else s
  else s

/-- A write of CLU_BASECTL. -/
def State.basectlWrite (s : State) (c : Nat) (be : BitVec 8) (v : W64) : State :=
  if bit (byteMask be) 0 then
    let s := if bit v 2 then s.wb (Addr.cluBasectl c) 2 false else s
    let halted := s.rb (Addr.cluBasectl c) 1
    if bit v 0 then if halted then s.startBase c else s
    else if halted then s else s.haltBase c
  else s

/-! ## Creation and resizing (R702 to R706) -/

/-- Clusters of a CLUSTERS value. -/
def clustersOf (x : Nat) : List Nat := (List.range 6).filter fun c => x.testBit c

/-- A cluster may join a partition: in service and in none (R703). -/
def State.mayJoin (s : State) (c : Nat) : Bool := s.cluLive c && s.cluPart c == 0

/-- A cluster joins partition p. -/
def State.joinPart (s : State) (p c : Nat) : State := s.wf (Addr.cluStat c) 2 0 p

/-- A cluster leaves partition p (R797, R810). -/
def State.leavePart (s : State) (p c : Nat) : State := ((s.haltBase c).wf (Addr.cluStat c) 2 0 0).segDrop p c

/-- Creation of partition p with an accepted CLUSTERS value (R703). -/
def State.createPart (s : State) (p x : Nat) : State :=
  let s := (clustersOf x).foldl (fun s c => s.joinPart p c) s
  let s := s.mapSync.wr (Addr.truPartCfg p) (BitVec.ofNat 64 (0x100 + x))
  let (k, s) := s.draw
  let key : HeldKey := ⟨1, k, none⟩
  let s := s.setKey p { s.key p with host := [key], hctr := 0 }
  s.wf (Addr.truPartStat p) 24 0 (0x100 + 1)

/-- Resizing of partition p to an accepted CLUSTERS value (R704, R705). -/
def State.resizePart (s : State) (p x : Nat) : State :=
  let old := s.partClus p
  let s := (old.filter fun c => !x.testBit c).foldl (fun s c => (s.leavePart p c).clearCluster c) s
  let s := ((clustersOf x).filter fun c => !old.contains c).foldl (fun s c => s.joinPart p c) s
  s.mapSync.wr (Addr.truPartCfg p) (BitVec.ofNat 64 (0x100 + x))

/-- A write of TRU_PARTp_CFG that would store new (R703, R704, R706, R738). -/
def State.partCfgWrite (s : State) (p : Nat) (new : W64) : State :=
  let x := fld new 5 0
  let old := s.partClus p
  let err := s.wb (Addr.truPartStat p) 32 true
  match s.partState p with
  | 0 =>
    if !bit new 8 then s
    else if x ≠ 0 ∧ (clustersOf x).all s.mayJoin ∧ p < s.pcie.nfunc.getD 0 then s.createPart p x else err
  | 1 =>
    if !bit new 8 then s
    else if x ≠ 0 ∧ ((clustersOf x).filter fun c => !old.contains c).all s.mayJoin ∧
        (old.filter fun c => !x.testBit c).all s.cluIdle then s.resizePart p x
    else err
  | _ => err

/-! ## Teardown (R736 to R738) -/

/-- Free partition p's die entries without posting; held records are discarded (R179, R736, item 1). -/
def State.freeDies (s : State) (p : Nat) : State :=
  let mine := fun (e : Nat) => (s.die e).part == p && (s.die e).st != .free
  let held := (s.dies.filter fun e => mine e.1 && e.2.st == .held).length
  let s' := { s with
    dies := s.dies.map fun (e : Nat × Die) => if mine e.1 then (e.1, { die0 with gen := e.2.gen }) else e,
    vrings := s.vrings.map fun (e : Nat × VRing) => (e.1, { e.2 with q := e.2.q.filter fun x => !mine x }) }
  let s' := (s'.wf Addr.vdlHeld 12 0 (s.rf Addr.vdlHeld 12 0 - held)).useSync p
  (List.range 8).foldl (fun s r => s.ringSync r) s'

/-- Disarm the compare slots that partition p owns. -/
def State.disarmOf (s : State) (p : Nat) : State :=
  ((List.range 64).filter fun k => s.rf (Addr.ptbSlotCtl k) 58 56 == p).foldl (fun s k => s.disarm k) s

/-- Jobs of partition p that have not ended. -/
def State.jobsLeft (s : State) (p : Nat) : Bool :=
  (s.queued.any fun j => j.part == p) || s.ctxs.any fun e => e.2.st != .free && e.2.job.part == p

/-- Steps 1 and 2 of a teardown (R736). -/
def State.tearStart (s : State) (p : Nat) : State :=
  let fab := if s.rf (Addr.fabPartDom p) 7 0 = 0 then 0 else s.rf (Addr.fabPartEpoch p) 7 0
  let h := s.rf (Addr.truPartStat p) 15 8
  let dies := s.inUse p
  let jobs := s.jobsOf fun j => j.part == p
  let s := s.wf (Addr.truPartStat p) 1 0 2
  let s := s.freeDies p
  let s := jobs.foldl (fun s j => s.endJob j 6 0) s
  let s := (s.partClus p).foldl (fun s c => s.haltBase c) s
  let s := ((s.disarmOf p).fabAdvance p true true).hostAdvance p true
  s.setTd p ⟨1, s.time, 0, fab, h, jobs.length, dies, 0, false⟩

/-- A write of TRU_PARTp_CTL (R718, R736, R738): TEAR alone acts where it is set. -/
def State.partCtlWrite (s : State) (p : Nat) (v : W64) : State :=
  if s.partState p ≠ 1 then s
  else if bit v 0 then s.tearStart p
  else if bit v 1 then s.hostAdvance p (bit v 2)
  else if bit v 2 then (s.wb (Addr.truPartStat p) 24 false).hostKeySync p
  else s

/-- Global SRAM lines tagged p become invalid with tag 0 (R736, item 3). -/
def State.dropGlobal (s : State) (p : Nat) : State :=
  { s with lines := s.lines.filter fun (e : Nat × LineMeta) => !(decide (region (e.1 * 64) = .global) && e.2.tag == p) }

/-- Step 3 of a teardown. -/
def State.tearScrub (s : State) (p : Nat) : State :=
  let d := s.rd (Addr.truPartDreg p)
  let s := if bit d 31 then
    ((List.range 384).filter fun r => decide (fld d 8 0 ≤ r) && decide (r ≤ fld d 24 16)).foldl (fun s r => s.advanceRegion r) s
  else s
  let s := (s.partClus p).foldl (fun s c => s.clearCluster c) s
  (s.dropGlobal p).setTd p { s.td p with step := 2, scrubbed := true }

/-- Meaning of TEARDOWN_SCRUB: every job has ended. -/
def execTeardownScrub (p : Nat) (s : State) : Host.Outcome State Fault Refusal :=
  if 1 ≤ p ∧ p ≤ 4 then
    .next (if s.partState p = 2 ∧ (s.td p).step = 1 ∧ !s.jobsLeft p then s.tearScrub p else s)
  else .fault .noSuchUnit

/-- Set an OWNER field to 0 in those of n registers where it holds p. -/
def State.disown (s : State) (p n hi lo : Nat) (off : Nat → Nat) : State :=
  (List.range n).foldl (fun s i => if s.rf (off i) hi lo = p then s.wf (off i) hi lo 0 else s) s

/-- No resource of R26 is assigned to partition p any more (R736, item 5). -/
def State.disownAll (s : State) (p : Nat) : State :=
  let s := (s.disown p 4 30 28 Addr.cxpCamCfg).disown p 1 58 56 (fun _ => Addr.jesCfg)
  let s := (s.disown p 2 3 1 Addr.ppEngCfg).disown p 12 37 35 Addr.ptbOutCfg
  (s.disown p 64 58 56 Addr.ptbSlotCtl).disown p 8 3 1 Addr.vdlRingCfg

/-- The teardown-complete BODY (R737). -/
def State.tearBody (s : State) (p t4 : Nat) : List Byte :=
  let t := s.td p
  let d := s.rd (Addr.truPartDreg p)
  let reg := fun (x : Nat) => bytesOf 2 (if bit d 31 then x else 0xFFFF)
  bytesOf 1 p ++ bytesOf 1 t.fabCur ++ bytesOf 1 t.hCur ++ zeros 1 ++ bytesOf 4 t.jobs ++ bytesOf 4 t.dies ++
  bytesOf 4 (s.rf (Addr.fabPartStat p) 63 48) ++ bytesOf 8 t.t1 ++ bytesOf 8 t4 ++ reg (fld d 8 0) ++ reg (fld d 24 16) ++ zeros 12

/-- Every partition-wide mark of p goes: keys and seed zeroised, DOM 0, clusters unassigned, segments off, STATE FREE. -/
def State.freePart (s : State) (p : Nat) : State :=
  let s := (s.setKey p keys0).wr (Addr.fabPartDom p) 0
  let s := (s.partClus p).foldl (fun s c => s.leavePart p c) s
  let s := (s.mapSync.segOff p).wr (Addr.truPartCfg p) 0
  s.wf (Addr.truPartStat p) 1 0 0

/-- Steps 4 and 5 of a teardown. -/
def State.tearEnd (s : State) (p : Nat) : State :=
  let t4 := (s.td p).t1 + quiet
  let body := s.tearBody p t4
  let s := ((s.disownAll p).freePart p).setTd p tear0
  (s.evPush 0 2 body).2

/-- Meaning of TEARDOWN_COMPLETE: Q after step 2. -/
def execTeardownComplete (p : Nat) (s : State) : Host.Outcome State Fault Refusal :=
  if 1 ≤ p ∧ p ≤ 4 then
    .next (if s.partState p = 2 ∧ (s.td p).step = 2 ∧ (s.td p).t1 + quiet ≤ s.time ∧
        (s.partClus p).all (fun c => !s.pmu.clearing.contains c) then s.tearEnd p else s)
  else .fault .noSuchUnit

end Sys2Proof.Machine
end

