-- ==== Sys2Proof/Machine/Power.lean ====
section
/-! DEFINITION. Power, clocks, performance levels, throttling, sleep, resets and the boot ROM (chapter 17). -/

namespace Sys2Proof.Machine

open Sys2Proof

/-! ## Power-up and power-down (R776 to R779, R784) -/

/-- Every state that a loss of power ends takes its reset value; the flash, the host, the pins and the random generator go on. -/
def State.cold (s : State) : State :=
  { State.reset with
    pending := s.pending, freeCtr := s.freeCtr, host := s.host, flash := s.flash, pins := s.pins,
    trust := { State.reset.trust with drawn := s.trust.drawn } }

/-- The device root is reconstructed, after an enrolment where the helper area is erased (R707). -/
def State.findRoot (s : State) : State :=
  let blank := (s.flashRead 0 4096).all (· == 0xFF)
  let s := if blank then (s.flashPut 0 (fit 4096 Config.helperData)).wb Addr.truStat 8 true else s
  let s := { s with trust := { s.trust with root := Config.pufRoot (s.flashRead 0 4096) } }
  (List.range 8).foldl (fun s i => s.wr (Addr.truIdpk i) (BitVec.ofNat 64 (recNat s.trust.idPk (8 * i) 8))) s

/-- Meaning of POWER_UP: steps 1 to 3 of Table 17.11; the SMBus address is sampled (R832). -/
def execPowerUp (s : State) : Host.Outcome State Fault Refusal :=
  .next (if s.pmu.on ∨ s.pins.test then s else
    let s := s.cold
    let g := fun (i : Nat) => (s.pins.gpio.getLsbD i).toNat
    let s := { s with pins := { s.pins with smbAddr := BitVec.ofNat 8 (0x58 + 2 * g 15 + g 14) } }
    let s := { s with pmu := { s.pmu with on := true, boot := 1 }, sup := { s.sup with st := .rom, g1 := 0x300 } }
    let s := (s.wb Addr.pmuStat 0 true).wr Addr.clkLive 0x81
    (s.wr Addr.clkSel 0x4001).findRoot)

/-- Meaning of POWER_DOWN: what is lost is R691's. -/
def execPowerDown (s : State) : Host.Outcome State Fault Refusal := .next (if s.pmu.on then s.cold else s)

/-! ## Clocks (R748, R752, R773) -/

/-- The clock of cluster c runs as CLK_SEL says, unless the clusters are stopped for a sleep state. -/
def State.cluClk (s : State) (c : Nat) : State :=
  s.wb Addr.clkLive (1 + c) (s.rf Addr.clkSel (2 * c + 3) (2 * c + 2) != 0 && s.pmu.asleep == 0)

/-- A changed CLK_SEL field (SC, the clusters, MESH, in the order of CLK_LIVE's bits) asks for what CLK_STAT.SELERR reports: a PLL not
locked, or a clock for a gated cluster. -/
def State.selBad (s : State) (i x : Nat) : Bool :=
  (x == 2 && !s.rb Addr.clkLock i) || (1 ≤ i && i ≤ 6 && x != 0 && x != 3 && s.rb (Addr.pmuCluStat (i - 1)) 6)

/-- A write of CLK_SEL that would store new (Table 17.19). -/
def State.clkSelWrite (s : State) (new : W64) : State :=
  let old := s.rd Addr.clkSel
  let at_ := fun (v : W64) (i : Nat) => fld v (2 * i + 1) (2 * i)
  let changed := (List.range 8).filter fun i => at_ new i != at_ old i
  if changed.any fun i => s.selBad i (at_ new i) then s.wb Addr.clkStat 0 true
  else
    let s := changed.foldl (fun s i =>
      let x := at_ new i
      if x = 3 ∨ (x = 0 ∧ (i = 0 ∨ i = 7)) then s else s.wf Addr.clkSel (2 * i + 1) (2 * i) x) s
    (List.range 6).foldl (fun s c => s.cluClk c) s

/-- At boot the pair and the mesh go to their PLLs once both have locked, and the record is selected (steps 4 and 6). -/
def State.bootClocks (s : State) : State :=
  if s.pmu.boot = 1 ∧ s.rb Addr.clkLock 0 ∧ s.rb Addr.clkLock 7 then
    let s := (s.wf Addr.clkSel 1 0 2).wf Addr.clkSel 15 14 2
    let s := s.selectAtBoot
    { s with pmu := { s.pmu with boot := 2 } }
  else s

/-- A PLL locks: the clocks other than those of the pair, the clusters and the mesh run from then on. -/
def State.pllLock (s : State) (d : Nat) : State :=
  if s.pmu.on ∧ s.rf Addr.pmuSleepstat 6 4 < 5 then
    let s := s.wb Addr.clkLock d true
    (if 8 ≤ d then s.wb Addr.clkLive d true else s).bootClocks
  else s

/-! ## Performance levels (R754 to R761) -/

/-- The level that the program requests for cluster c; 5 to 7 are treated as 4. -/
def State.reqPl (s : State) (c : Nat) : Nat := min 4 (s.rf (Addr.pmuCluCtl c) 2 0)

/-- The level that throttling lowers cluster c to; 0 none. -/
def State.capPl (s : State) (c : Nat) : Nat := Sparse.get (fun _ => 0) s.pmu.cap c

/-- The effective level that cluster c is to reach. -/
def State.goalPl (s : State) (c : Nat) : Nat := max (s.reqPl c) (s.capPl c)

/-- Start a switch to the level that cluster c is to reach, unless one is in progress; CLK_LOCK then waits for the idle PLL. -/
def State.levelSync (s : State) (c : Nat) : State :=
  let s := s.wb (Addr.pmuCluStat c) 5 (decide (s.reqPl c < s.capPl c))
  if s.rb (Addr.pmuCluStat c) 4 ∨ s.rf (Addr.pmuCluStat c) 2 0 = s.goalPl c then s
  else
    let s := (s.wb (Addr.pmuCluStat c) 4 true).wb Addr.clkLock (1 + c) false
    { s with pmu := { s.pmu with target := Sparse.set (fun _ => 0) s.pmu.target c (s.goalPl c) } }

/-- A write of PL (R758, R759). -/
def State.plWrite (s : State) (c x : Nat) : State := (s.wf (Addr.pmuCluCtl c) 2 0 x).levelSync c

/-- A write of PMU_CLUc_CTL, of the bytes written: PWR, RST, then PL. -/
def State.cluCtlWrite (s : State) (c : Nat) (be : BitVec 8) (v : W64) : State :=
  let s := if bit (byteMask be) 8 then
    let s := s.pwrWrite c (bit v 8)
    if bit v 9 then s.rstWrite c else s
  else s
  if bit (byteMask be) 0 then s.plWrite c (fld v 2 0) else s

/-- Meaning of LEVEL_SWITCH_COMPLETE (R758, R759). -/
def execLevelSwitchComplete (c : Nat) (s : State) : Host.Outcome State Fault Refusal :=
  if c < 6 then
    .next (if s.rb (Addr.pmuCluStat c) 4 then
      let s := (s.wb (Addr.pmuCluStat c) 4 false).wf (Addr.pmuCluStat c) 2 0 (Sparse.get (fun _ => 0) s.pmu.target c)
      (s.wb Addr.clkLock (1 + c) true).levelSync c
    else s)
  else .fault .noSuchUnit

/-- The code of a level (Table 17.2). -/
def vidCode : Nat → Nat
  | 0 => 50 | 1 => 34 | 2 => 22 | 3 => 10 | _ => 0

/-- The value driven on VID (R755); it rises before a level that rises and falls after one that falls (R758). -/
def State.vid (s : State) : Nat :=
  if s.trust.rundig.isEmpty then 50
  else if s.rf Addr.pmuSleepstat 6 4 = 6 ∧ s.pmu.req = 2 then 0
  else
    let levels := ((List.range 6).filter s.cluLive).map fun c =>
      let v := vidCode (s.rf (Addr.pmuCluStat c) 2 0)
      if s.rb (Addr.pmuCluStat c) 4 then max v (vidCode (Sparse.get (fun _ => 0) s.pmu.target c)) else v
    min 54 (levels.foldl max 0 + min 4 (s.rf Addr.pmuVrcfg 10 8))

/-! ## Sleep (R766 to R775) -/

/-- Set PHASE of PMU_SLEEPSTAT. -/
def State.setPhase (s : State) (n : Nat) : State := s.wf Addr.pmuSleepstat 6 4 n

/-- PHASE of PMU_SLEEPSTAT. -/
def State.phase (s : State) : Nat := s.rf Addr.pmuSleepstat 6 4

/-- The reasons to refuse a request for a sleep state, as REFUSE[20:16] (R767). -/
def State.refuseBits (s : State) (st : Nat) : Nat :=
  let busy := (List.range 6).any fun c =>
    s.cluLive c && (s.rb (Addr.schCfg c) 0 || (List.range 64).any (fun x => (s.ctx c x).st != .free) || !s.rb (Addr.cluBasectl c) 1)
  let sensor := (List.range 4).any (fun k => s.rb (Addr.cxpCamCfg k) 0) || s.rb Addr.jesCfg 0
  let ledger := s.dies.any (fun e => e.2.st != .free) || s.rf Addr.vdlHeld 12 0 != 0
  let parts := decide (st = 3) && ([1, 2, 3, 4].any (fun p => s.partState p != 0) || s.rb Addr.memStat 1)
  busy.toNat + 2 * sensor.toNat + 4 * ledger.toNat + 8 * parts.toNat + 16 * (s.phase != 0).toNat

/-- Start an entry at a phase. -/
def State.enterSleep (s : State) (st ph : Nat) : State :=
  let s := { s with pmu := { s.pmu with req := st, svSr := s.rb Addr.pmuStat 1 } }
  s.wr Addr.pmuSleepstat (BitVec.ofNat 64 (16 * ph + 1))

/-- A write of PMU_SLEEP (R766, R767). -/
def State.sleepWrite (s : State) (v : W64) : State :=
  let st := fld v 1 0
  if bit v 8 ∧ st ≠ 0 then
    match s.refuseBits st with
    | 0 => s.enterSleep st 1
    | r => (s.wf Addr.pmuSleepstat 20 16 r).wf Addr.pmuSleepstat 2 0 4
  else s

/-- The pending events of enabled sources (R771). -/
def State.wakesOn (s : State) : List (Nat × Nat) := s.pmu.wakes.filter fun q => s.rb Addr.pmuWakeen (wakeBit q.1 q.2)

/-- The least source and sub-source of a list (R772). -/
def leastWake (l : List (Nat × Nat)) : Nat × Nat :=
  l.foldl (fun a b => if a.1 = 0 ∨ b.1 < a.1 ∨ (b.1 = a.1 ∧ b.2 < a.2) then b else a) (0, 0)

/-- Record an exit or an abandonment at a point (R775). -/
def State.lastWake (s : State) (point : Nat) : State :=
  let w := leastWake s.wakesOn
  let s := s.sat Addr.pmuLastwake 47 32 1
  s.wf Addr.pmuLastwake 23 0
    (w.2 * 2 ^ 20 + w.1 * 2 ^ 16 + s.pmu.req * 2 ^ 8 + point * 2 ^ 4 + (point != 0).toNat)

/-- An entry is abandoned at the end of phase n: what its phases did is undone (R769). -/
def State.abandon (s : State) (n : Nat) : State :=
  let s := s.lastWake n
  let s := s.wb Addr.pmuStat 1 s.pmu.svSr
  let s := { s with pmu := { s.pmu with asleep := 0 } }
  let s := (List.range 6).foldl (fun s c => s.cluClk c) s
  let s := s.wr Addr.pmuSleepstat (BitVec.ofNat 64 (n * 2 ^ 8 + 3))
  s.supEvent

/-- Set bits [hi:lo] of CLK_LIVE. -/
def State.liveBits (s : State) (hi lo : Nat) (b : Bool) : State := s.wf Addr.clkLive hi lo (if b then 2 ^ (hi + 1 - lo) - 1 else 0)

/-- The work of a phase of a sleep entry (Table 17.5). -/
def State.phaseWork (s : State) (n : Nat) : State :=
  match n with
  | 2 =>
    let s := { s with pmu := { s.pmu with asleep := s.pmu.req } }
    s.liveBits 6 1 false
  | 3 => if 2 ≤ s.pmu.req then s.wb Addr.pmuStat 1 true else s
  | 4 =>
    let s := ((s.wb Addr.clkLive 0 false).wb Addr.clkLive 7 false).wb Addr.clkLive 9 false
    let s := s.wf Addr.clkLock 7 0 0
    s.wr Addr.clkSel 0x4001
  | 5 =>
    match s.pmu.req with
    | 2 => (List.range 6).foldl (fun s c => (s.clearSram c).wb (Addr.pmuCluStat c) 6 true) (s.liveBits 40 15 false)
    | 3 => (s.wr Addr.clkLive 0).wr Addr.clkLock 0
    | _ => s
  | _ => s

/-- The supervisor pair lets phase 4 end: it idles in YIELD; a thermal entry does not wait for it. -/
def State.pairIdle (s : State) : Bool := s.pmu.thermal || (s.thread supTid).wait == .idle

/-- A phase of a sleep entry ends (R768, R769). -/
def State.phaseEnd (s : State) : State :=
  match s.phase with
  | 0 | 6 | 7 => s
  | 5 => (s.phaseWork 5).setPhase 6
  | n =>
    if n = 4 ∧ !s.pairIdle then s
    else if !s.pmu.thermal && !s.wakesOn.isEmpty then s.abandon n
    else (s.phaseWork n).setPhase (n + 1)

/-- Meaning of WAKE_EVENT: PCIe and fabric events only during a sleep entry or a sleep state; an axis as PTB_WAKE says (R44, R771). -/
def execWakeEvent (n sub : Nat) (s : State) : Host.Outcome State Fault Refusal :=
  if 1 ≤ n ∧ n ≤ 7 ∧ sub < 4 ∧ (sub = 0 ∨ (3 ≤ n ∧ n ≤ 5)) then
    .next (if !s.pmu.on ∨ ((n = 1 ∨ n = 5) ∧ s.phase = 0) ∨ (n = 4 ∧ !s.rb Addr.ptbWake sub) ∨
        (n = 5 ∧ s.phase = 6 ∧ s.pmu.req = 3 ∧ !s.rb (Addr.fabPortCfg sub) 0) then s
      else s.raiseWake n sub)
  else .fault .noSuchUnit

/-- Meaning of AON_TIMER_MATCH. -/
def execAonTimerMatch (s : State) : Host.Outcome State Fault Refusal :=
  .next (if s.pmu.on ∧ s.rf Addr.pmuAontime 47 0 = s.rf Addr.pmuAoncmp 47 0 then s.raiseWake 6 0 else s)

/-- The write of PMU_WAKEPEND that would store new: cleared sources are no longer pending. -/
def State.wakependWrite (s : State) (new : W64) : State :=
  let s := s.wr Addr.pmuWakepend new
  { s with pmu := { s.pmu with wakes := s.pmu.wakes.filter fun q => bit new (wakeBit q.1 q.2) } }

/-! ## Temperature (R762 to R765) -/

/-- CRIT; values above 115 are treated as 115. -/
def State.crit (s : State) : Int := (min 115 (s.rf Addr.pmuTherm 39 32) : Nat)
/-- THROT; values above 105 are treated as 105. -/
def State.throt (s : State) : Int := (min 105 (s.rf Addr.pmuTherm 23 16) : Nat)
/-- HYST; 0 is treated as 1. -/
def State.hyst (s : State) : Int := (max 1 (s.rf Addr.pmuTherm 3 0) : Nat)

/-- Enter SL3 at once (R764): phase 1 is skipped, no abort point, no refusal. -/
def State.thermalEntry (s : State) : State :=
  let s := s.wb Addr.pmuStat 3 true
  let ph := s.phase
  if ph = 6 ∧ s.pmu.req = 3 then s
  else
    let s := s.enterSleep 3 (if ph ≤ 2 then 2 else if ph = 6 then 3 else ph)
    { s with pmu := { s.pmu with thermal := true } }

/-- Meaning of THERMAL_SAMPLE: clusters 0 to 5, mesh, ingest unit, four of the DDR5 region (R762, R764, R765). In SL3 only the last
four are powered. -/
def execThermalSample (temps : List Int) (s : State) : Host.Outcome State Fault Refusal :=
  if temps.length = 12 then
    .next (if !s.pmu.on then s
      else
        let off := s.phase == 6 && s.pmu.req == 3
        let l := if off then temps.drop 8 else temps
        let top := l.foldl max (l.headD 0)
        let s := { s with pmu := { s.pmu with temps := temps } }
        let s := s.wf Addr.pmuTherm 55 48 (BitVec.ofInt 8 (clampI top (-128) 127)).toNat
        if off then
          if s.pmu.thermal && s.rb Addr.pmuTherm 56 && l.all (fun t => decide (t < (s.rf Addr.pmuTherm 47 40 : Int))) then s.raiseWake 7 0
          else s
        else if s.crit ≤ top then s.thermalEntry else s)
  else .fault .noSuchUnit

/-- Set the level that throttling lowers cluster c to, and whether it rises again. -/
def State.setCap (s : State) (c x : Nat) (rising : Bool) : State :=
  let r := s.pmu.raising.filter (· != c)
  ({ s with pmu := { s.pmu with cap := Sparse.set (fun _ => 0) s.pmu.cap c x, raising := if rising then r ++ [c] else r } }).levelSync c

/-- One step of throttling of cluster c (R763). -/
def State.throttle (s : State) (c : Nat) : State :=
  let t := s.pmu.temps.getD c 0
  let on := decide (s.reqPl c < s.capPl c)
  if s.throt ≤ t ∨ (on ∧ !s.pmu.raising.contains c ∧ s.throt - s.hyst ≤ t) then
    let s := if on ∨ s.goalPl c = 4 then s else s.record (report 22 .signal c 0)
    if s.goalPl c = 4 then s.setCap c (s.capPl c) false else s.setCap c (s.goalPl c + 1) false
  else if on then s.setCap c (if s.capPl c - 1 = s.reqPl c then 0 else s.capPl c - 1) true
  else s.setCap c 0 false

/-- Meaning of THROTTLE_STEP. -/
def execThrottleStep (c : Nat) (s : State) : Host.Outcome State Fault Refusal :=
  if c < 6 then .next (if s.pmu.on ∧ !s.pmu.temps.isEmpty then s.throttle c else s) else .fault .noSuchUnit

/-- Meaning of POWER_AVERAGE_UPDATE: device power in W, rail telemetry, cluster telemetry (R741, R742). -/
def execPowerAverageUpdate (dev : Nat) (rails clus : List W64) (s : State) : Host.Outcome State Fault Refusal :=
  .next (if !s.pmu.on then s
    else
      let s := (s.wf Addr.truPwrview 15 0 dev).wf Addr.pmuPwr 15 0 dev
      let s := (List.range 7).foldl (fun s r => s.wf (Addr.pmuTelRail r) 47 0 (rails.getD r 0).toNat) s
      (List.range 6).foldl (fun s c => s.wf (Addr.pmuTelClu c) 47 0 (clus.getD c 0).toNat) s)

/-- Meaning of COUNTER_SNAPSHOT: at each 1 ms of PTB_TIME (R739). -/
def execCounterSnapshot (s : State) : Host.Outcome State Fault Refusal :=
  .next (if s.ptbOn ∧ s.time % msTicks 1 = 0 then { s with snap := s.regs } else s)

/-! ## Warm reset and SL3 exit (R774, R780, R781) -/

/-- A register that a warm reset keeps whole, and that SL3 exit keeps with sl3 set (Table 17.10, Table 18.3). -/
def keepsReg (sl3 : Bool) (k : Nat) : Bool :=
  let b := k / 0x100000
  b == 0x01 || b == 0x0D || b == 0x10 || decide (k < 0x100) || k == Addr.ptbWake || k == Addr.hltScstat ||
  (!sl3 && (k == Addr.errHead || k == Addr.errCnt ||
    (decide (0x200000 ≤ k) && decide (k < 0x200100) && (k % 0x40 == 0x08 || k % 0x40 == 0x10 || k % 0x40 == 0x20)))) ||
  (decide (0x1100120 ≤ k) && decide (k < 0x1100300) && (k - 0x1100120) % 0x20 == 0x08) ||
  (decide (0xB00100 ≤ k) && decide (k < 0xB001C0)) || (decide (0xB00200 ≤ k) && decide (k < 0xB00540) && k % 0x20 == 0) ||
  (decide (0xB01000 ≤ k) && decide (k < 0xB01C00))

/-- The role of a channel after a warm reset, from the retirement bits and the slots. -/
def State.rerole (s : State) (ch : Nat) : State :=
  s.setRole ch (if !(s.slotsOn ch).isEmpty then 0 else if s.rb (Addr.hltKindRet 11) ch then 5 else 1)

/-- Every unit outside the clusters takes its marks from the retirement bits. -/
def State.unitSync (s : State) : State :=
  let s := (List.range 2).foldl (fun s n => s.wb (Addr.ppEngStat n) 0 (!s.rb (Addr.hltKindRet 7) n)) s
  (List.range 8).foldl (fun s u => if s.rb (Addr.hltKindRet 12) u then s.laneOut u else s) s

/-- What a warm reset and an exit from SL3 share: everything outside the always-on domain, the trust unit, the save area and the kept
registers takes its reset value; generations advance; debug relocks. -/
def State.softReset (s : State) (sl3 : Bool) (g1 rst : Nat) : State :=
  let s := s.endpointReset.relock
  let init := s.rb Addr.memStat 0
  let half := s.rb Addr.memCfg 1
  let roles := (List.range 26).map s.role
  let ddr := fun (w k : Nat) => decide (0x1000000000000 ≤ k * w)
  let z := State.reset
  let s := { z with
    pending := s.pending, freeCtr := s.freeCtr, time := if sl3 then 0 else s.time,
    velN := if sl3 then 0 else s.velN, hist := if sl3 then [⟨0, List.replicate 4 0, List.replicate 4 true⟩] else s.hist,
    regs := Sparse.keep (keepsReg sl3) s.regs,
    lastRd := s.lastRd, mem := Sparse.keep (ddr 1) s.mem, lines := Sparse.keep (ddr 64) s.lines, host := s.host, flash := s.flash,
    born := s.born, opCount := s.opCount, trained := if sl3 then [] else s.trained, rotAt := if sl3 then 0 else s.rotAt,
    scrubQ := s.scrubQ, pcie := s.pcie,
    recs := if sl3 then [] else s.recs, badLines := s.badLines, spares := s.spares, groupsOut := s.groupsOut, trust := s.trust,
    pmu := { s.pmu with asleep := 0, req := 0, thermal := false, clearing := [] }, pins := s.pins,
    sup := { z.sup with st := .rom, g1 := g1, kick := if sl3 then 0 else s.time } }
  let s := (s.wb Addr.memStat 0 init).wb Addr.memCfg 1 half
  let s := (List.range 26).foldl (fun s ch => if roles.getD ch 6 = 6 then s else s.rerole ch) s
  let s := (List.range 384).foldl (fun s r => s.advanceRegion r) s
  let s := [1, 2, 3, 4].foldl (fun s p => (s.wf (Addr.truPartStat p) 1 0 0).wr (Addr.truPartCfg p) 0) s
  let s := (List.range 6).foldl (fun s c => (s.retSync c).wb (Addr.cluStat c) 9 (s.rb (Addr.pmuCluStat c) 7)) s
  let s := s.unitSync.mapSync
  let s := if sl3 then (List.range 4).foldl (fun s n => s.wb (Addr.ptbAxStat n) 7 true) s else s
  s.wr Addr.pmuRststat (BitVec.ofNat 64 rst)

/-- The clocks of the pair, the mesh and the ingest unit run on FIRC, the clusters' do not. -/
def State.firc (s : State) : State :=
  let s := ((s.wb Addr.clkLive 0 true).wb Addr.clkLive 7 true).wb Addr.clkLive 9 (s.rb Addr.clkLock 9)
  (s.liveBits 6 1 false).wr Addr.clkSel 0x4001

/-- A warm reset (R780); one that finds the pair's clock stopped for SL1 or SL2 starts it on FIRC. -/
def State.warmReset (s : State) (rst : Nat) : State :=
  if !s.pmu.on || (s.phase == 6 && s.pmu.req == 3) then s
  else
    let stopped := s.pmu.asleep != 0
    let s := s.softReset false 0x301 rst
    let s := if stopped then s.firc else s
    if s.phase = 0 then s else s.wr Addr.pmuSleepstat 0

/-- The exit from a sleep state (R773, R774). -/
def State.sleepExit (s : State) : State :=
  if s.phase ≠ 6 ∨ s.wakesOn.isEmpty then s
  else
    let st := s.pmu.req
    let s := s.lastWake 0
    let s := s.wr Addr.pmuSleepstat 2
    if st = 3 then (s.softReset true 0x302 3).firc
    else
      let s := { s with pmu := { s.pmu with asleep := 0, req := 0 } }
      let s := s.firc
      let s := if st = 2 then
        (List.range 6).foldl (fun s c => if s.rb (Addr.pmuCluCtl c) 8 then s.powerCluster c else s) (s.liveBits 40 15 true)
      else s
      s.supEvent

/-! ## The boot ROM (R725 to R727, R784 to R786) -/

/-- Meaning of CHANNEL_TRAINING_COMPLETE: the initial write of every channel starts (R569, Table 17.11, step 7). -/
def execChannelTrainingComplete (s : State) : Host.Outcome State Fault Refusal :=
  .next (if s.pmu.boot = 2 then
    { s with pmu := { s.pmu with boot := 3 },
             trained := (List.range 26).foldl (fun m ch => Sparse.set (fun _ => 0) m ch s.time) s.trained }
  else s)

/-- A write of TRU_RECOV: a claim package is to be looked at, while the device is unclaimed or in recovery (R726). -/
def State.recovWrite (s : State) (v : W64) : State :=
  if s.rf Addr.truStat 3 0 = 0 then s else { s with trust := { s.trust with claim := some (fld v 47 0) } }

/-- The parts of a claim package at an address of global SRAM: the three first parts, the image. -/
def State.readClaim (s : State) (a : Nat) : State × Option (List Byte × List Byte) :=
  match s.truRead a 29984 with
  | (s, none) => (s, none)
  | (s, some h) => match s.truRead (a + 29920) (64 + recNat h 29928 4 + 29792) with
    | (s, none) => (s, none)
    | (s, some b) => (s, some (h.take 29920, b))

/-- The record that a claim commits (R727). -/
def Trust.claimRecord (t : Trust) (pk : List Byte) : List Byte :=
  patch (patch (patch (patch (zeros 65536) 0 [0x43, 0x56, 0x43, 0x52]) 8 (bytesOf 4 1)) 16 pk) 80 t.idDig

/-- A claim package is looked at (R726, R727). -/
def State.takeClaim (s : State) (a : Nat) : State :=
  let s := { s with trust := { s.trust with claim := none } }
  let bad := fun (s : State) => s.wb Addr.truStat 10 true
  match s.readClaim a with
  | (s, none) => bad s
  | (s, some (h, b)) =>
    if s.rf Addr.truStat 3 0 = 1 then
      let pk := sub h 64 64
      if shake (h.take 64) = fit 32 Config.vendorRootDigest ∧ Config.slhVerify true (h.take 64) pk "CV648 owner" (h.drop 128) then
        match checkImage pk 0 b with
        | .error _ => bad s
        | .ok m =>
          let (r, s) := s.finishRecord (s.trust.claimRecord pk) 1 0 []
          let s := s.commitRecord r 0 []
          let s := { s with trust := { s.trust with eff := some r } }
          ((s.wb Addr.truStat 10 false).copyImage b m).runImage b m s.sup.g1 false
      else bad s
    else if allZero h then
      match checkImage s.trust.ownerPk s.trust.minVer b with
      | .error _ => bad s
      | .ok m => ((s.wb Addr.truStat 10 false).copyImage b m).runImage b m s.sup.g1 false
    else bad s

/-- The pair jumps to ENTRY of the running image with g1 unchanged (R785). -/
def State.enterImage (s : State) (g1 : Nat) : State :=
  let old := s.thread supTid
  let th := { thread0 with pc := pcOf (BitVec.ofNat 64 s.trust.runentry) }.setG 1 (BitVec.ofNat 64 g1)
  let th := { th with serial := old.serial, tkts := old.tkts, wrapped := old.wrapped }
  { (s.setThread supTid th) with sup := { s.sup with st := .run, g1 := g1 } }

/-- Boot from flash, or recovery, in which a device that has just been powered up enumerates PF0 only (R725, R726, R785). -/
def State.bootOrRecover (s : State) : State :=
  match s.bootFlash s.sup.g1 with
  | (s, true) => s
  | (s, false) =>
    let s := s.wf Addr.truStat 3 0 (if s.trust.eff.isNone then 1 else 2)
    if s.sup.g1 = 0x300 then { s with pcie := { s.pcie with nfunc := some 1 } } else s

/-- The boot ROM at its warm entry (R785). -/
def State.warmEntry (s : State) : State :=
  if shake (s.peek s.trust.runaddr s.trust.runlen) = s.trust.rundig then s.enterImage s.sup.g1 else s.bootOrRecover

/-- The boot ROM after SL3 exit with a resume image (R786). -/
def State.resumeImage (s : State) : State :=
  let s := s.wb Addr.pmuStat 1 false
  let a := s.rf Addr.pmuResume 47 0
  let n := 64 + s.peekNat (a + 8) 4
  let b := if n ≤ 64 + 12 * 2 ^ 20 then s.peek a n else []
  if decide (region a = .ddr) && shake b == s.trust.rundig then (s.writeMem 0 s.trust.runaddr b).enterImage 0x303 else s.warmEntry

/-- Meaning of BOOT_IMAGE_VERIFY: the boot ROM finishes its next check. -/
def execBootImageVerify (s : State) : Host.Outcome State Fault Refusal :=
  .next (if s.sup.st = .rom ∧ s.clk 0 then
    match s.rf Addr.truStat 3 0, s.trust.claim with
    | 0, _ =>
      if s.pmu.boot = 3 ∧ s.rb Addr.memStat 0 then
        if s.sup.g1 = 0x300 then s.bootOrRecover
        else if s.sup.g1 = 0x302 ∧ s.rb Addr.pmuResume 63 then s.resumeImage
        else s.warmEntry
      else s
    | _, some a => s.takeClaim a
    | _, none => s
  else s)

end Sys2Proof.Machine
end

