-- ==== Sys2Proof/Machine/RegBus.lean ====
section
/-! DEFINITION. The register bus: clock domains, access rights by source, what a write does, what a read returns (chapter 18, the
register sections of every chapter). -/

namespace Sys2Proof.Machine

open Sys2Proof

/-! ## Domains (R752, Table 18.3) -/

/-- The bit of CLK_LIVE of the domain of a register; none for the always-on domain. -/
def regDom (off : Nat) : Option Nat :=
  match off / 0x100000 with
  | 0x00 => if off < 0x100 then none else some 7
  | 0x01 | 0x0D | 0x10 => none
  | 0x02 => some 8
  | 0x03 | 0x04 | 0x05 => some 9
  | 0x0C => some 10
  | b => if 0x20 ≤ b then some (1 + (b - 0x20)) else some 7

/-- A register answers: its domain's clock runs. -/
def State.regLive (s : State) (off : Nat) : Bool := match regDom off with | none => true | some b => s.clk b

/-! ## Rights (R805 and the owning chapters) -/

/-- The owner of a verdict ring. -/
def State.vringOwner (s : State) (v : Nat) : Nat := ownerOf (s.rf (Addr.vdlRingCfg v) 3 1)

/-- The program of partition p may write a register (R53, R89, R135, R181, R233, R235, R485, R514, R594). -/
def State.partMayWrite (s : State) (p : Nat) (id : RegId) (i : Nat) : Bool :=
  match id with
  | .ptbSlotCtl | .ptbSlotTgt | .ptbSlotStep | .ptbSlotStat => ownerOf (s.rf (Addr.ptbSlotCtl i) 58 56) == p
  | .ptbOutCfg => ownerOf (s.rf (Addr.ptbOutCfg i) 37 35) == p
  | .ingCamCfg | .ingCamOut | .ingCamLat | .ingBgLo | .ingBgHi | .cxpCamTrig | .cxpCamCtl | .cxpCamStat | .cxpCamRxptr
  | .cxpCamEvptr | .cxpCtx => s.camOwner i == p
  | .ingCalCfg | .ingCalTgt | .ingCalBnd | .ingCalSrc | .ingCalCtl | .ingCalStat => s.camOwner (i / 2) == p
  | .ingRingCons0 | .ingRingCons1 => s.ringOwner i == p
  | .jesLat | .jesStat => s.jesOwner == p
  | .vdlPartBudget | .dlmPartCfg | .awPartTree | .awPartTfree | .awPartPoolFree => i == p
  | .vdlRingStat => s.vringOwner i == p
  | .schSemCfg | .sqStrCfg | .sqStrLive | .sqStrBack | .sqStrStat => s.cluPart i == p
  | .memTdunpin => true
  | .cxStat => s.cluPart i != 0
  | _ => false

/-- The host may write a register through PFf (R181, R663, R747). -/
def State.pfMayWrite (s : State) (f : Nat) (id : RegId) (i : Nat) : Bool :=
  match id with
  | .pciFnWin | .pciFnHwbase | .pciFnRqbase | .pciFnRqcfg | .pciFnEvbase | .pciFnEvcfg | .pciFnEvpaddr | .pciFnEvcaddr
  | .pciFnStat => i == f
  | .vdlRingStat => f == 0 || s.vringOwner i == f
  | .truNonce | .truAttctl | .truRecov | .truDbgctl => f == 0
  | .cxStat => f == 0 || s.cluPart i == f
  | _ => false

/-- A source may write a register. -/
def State.mayWrite (s : State) (src : Src) (id : RegId) (i : Nat) : Bool :=
  match src with
  | .sup => true
  | .part p => s.partMayWrite p id i
  | .pf f => s.pfMayWrite f id i

/-- The partition whose reads a source makes: none for the supervisor program and PF0 (R739). -/
def srcView : Src → Option Nat
  | .sup => none
  | .part p => some p
  | .pf f => if f = 0 then none else some f

/-- A partition may read a register of the timebase (R84): the axis registers only. -/
def ptbMayRead (id : RegId) : Bool :=
  match id with
  | .ptbAxCfg | .ptbAxCnt | .ptbAxVel | .ptbAxVcfg | .ptbAxStat | .ptbAxZlat | .ptbAxZload => true
  | _ => false

/-- A partition-visible read of a register is permitted, by its block (R84, R429, R485, R594, R662, R701, R747, R787, R807, R808);
a cluster in no partition is the supervisor program's alone (R25). -/
def State.partMayRead (s : State) (src : Src) (p : Nat) (id : RegId) (off i : Nat) : Bool :=
  match off / 0x100000 with
  | 0x00 => match id with | .glbSegPa | .glbSegTa | .glbSegCfg | .glbSegerr => false | _ => true
  | 0x01 => id == .clkLive
  | 0x02 => ptbMayRead id
  | 0x09 => match src, id with
    | .part q, .awPartTree | .part q, .awPartTalloc | .part q, .awPartPoolAlloc => i == q
    | _, _ => false
  | 0x0A => ownerOf (s.rf (Addr.ppEngCfg i) 3 1) == p
  | 0x0B | 0x10 | 0x11 | 0x12 | 0x13 => false
  | 0x0D => id == .truPwrview
  | b => match src with
    | .pf f => if 0x20 ≤ b then s.cluPart (b - 0x20) == f else true
    | _ => decide (b < 0x20) || s.cluPart (b - 0x20) != 0

/-- A source may read a register. -/
def State.mayRead (s : State) (src : Src) (id : RegId) (off i : Nat) : Bool :=
  match srcView src with
  | none => isSup src || off / 0x100000 != 0x09
  | some p => s.partMayRead src p id off i

/-! ## Coarsened counts (R182, R232, R235, R428, R487, R514, R545, R596, R739, R811) -/

/-- The count fields of a register that partition-visible reads see coarsened. -/
def coarseFlds : RegId → List (Nat × Nat)
  | .vdlPartStat => [(47, 32), (31, 16), (15, 0)]
  | .schAccA | .schAccB => [(63, 32), (31, 0)]
  | .schAccC | .awBkt => [(31, 0)]
  | .dlmCluStat | .dlmDevStat | .awCnt1 | .cxCnt1 => [(63, 48), (47, 32), (31, 16), (15, 0)]
  | .mtTileCnt | .veEngCnt | .sqCnt => [(63, 32), (31, 16), (15, 0)]
  | .awCnt0 | .cxCnt0 => [(63, 32), (31, 0)]
  | .dmMvCnt => [(63, 24), (23, 0)]
  | _ => []

/-- A value as a partition sees it: its counts from the last snapshot, rounded down to a multiple of 1,024. -/
def State.coarsen (s : State) (id : RegId) (off : Nat) (v : W64) : W64 :=
  (coarseFlds id).foldl (fun v f => setFld v f.1 f.2 (fld (Sparse.get resetOf s.snap off) f.1 f.2 / 1024 * 1024)) v

/-! ## Values of live registers -/

/-- The op of a class that runs on cluster c. -/
def State.running (s : State) (c cls : Nat) : Option Op :=
  s.ops.find? fun o => !o.done && o.start.isSome && o.cls == cls && thClu o.th == c && s.goes o

/-- CUROP and BUSY of an engine with one op at a time. -/
def engBits (v : W64) (o : Option Op) : W64 :=
  match o with
  | some o => setBit (setFld v 7 4 o.opc) 2 true
  | none => setBit (setFld v 7 4 0xF) 2 false

/-- MT_TILEt_STAT (Table 9.7). -/
def State.tileStat (s : State) (c t : Nat) (v : W64) : W64 :=
  let x := s.tile (8 * c + t)
  let busy := match x.active with | some u => s.ops.any fun o => o.uid == u && !o.done && s.goes o | none => false
  setBit (setBit (setBit v 1 x.loading.isSome) 2 busy) 5 (x.loading.isSome && x.active.isNone)

/-- VE_ENGe_STAT (Table 18.13). -/
def State.veStat (s : State) (c e : Nat) (v : W64) : W64 :=
  let l := s.ops.filter fun o => !o.done && o.start.isSome && o.cls == 2 && thClu o.th == c && s.goes o && (s.opUnits o).contains e
  setBit (setBit v 2 (!l.isEmpty)) 1 (match l with | o :: _ => o.opc == 0x0B | [] => false)

/-- AW_STAT (Table 10.15). -/
def State.walkStat (s : State) (c : Nat) (v : W64) : W64 :=
  let held := s.ops.any fun o => !o.done && o.start.isSome && o.cls == 3 && thClu o.th == c && !o.np && !s.inInnings o.th
  setBit (engBits v (s.running c 3)) 3 held

/-- SQ_STAT (Table 11.6). -/
def State.seqStat (s : State) (c : Nat) (v : W64) : W64 :=
  setBit (engBits v (s.running c 4)) 3 (s.ops.any fun o => !o.done && o.cls == 4 && thClu o.th == c && !s.sqReady o)

/-- CX_STAT (Table 12.6): an op on the compressor, and some op whose blocks the expander decodes. -/
def State.codecStat (s : State) (c : Nat) (v : W64) : W64 :=
  let on := fun (o : Op) => !o.done && o.start.isSome && thClu o.th == c && s.goes o
  setBit (engBits v (s.ops.find? fun o => on o && o.is 6 1)) 1 (s.ops.any fun o => on o && s.usesCx o)

/-- A stream of cluster c is being swapped. -/
def State.swapping (s : State) (c : Nat) : Bool := (List.range 256).any fun k => s.sqRes c k == 3 || s.sqRes c k == 4

/-- DM_MVm_STAT (Table 13.8): the running op, else a swap copy on the lowest-numbered mover in service (R511). -/
def State.moverStat (s : State) (c m : Nat) (v : W64) : W64 :=
  match (s.moverQ c m).find? fun o => !o.waiter && o.start.isSome && s.goes o with
  | some o => setBit (setBit (setFld v 7 4 o.curop) 2 true) 3 o.enc
  | none =>
    let swap := (s.moversUp c).head? == some m && s.swapping c
    setBit (setBit (setFld v 7 4 (if swap then 0xD else 0xF)) 2 swap) 3 false

/-- The op at the head of a Pepper engine's queue. -/
def State.ppHead (s : State) (n : Nat) : Option Op := match (s.pp n).q with | u :: _ => s.ops.find? (fun o => o.uid == u) | [] => none

/-- PP_ENGn_STAT (Table 9.10). -/
def State.ppStat (s : State) (n : Nat) (v : W64) : W64 :=
  let o := s.ppHead n
  let busy := match o with | some o => o.start.isSome | none => false
  let wait := match o with
    | some o => busy && o.is 5 1 && decide (s.rf (Addr.ingRingCons0 (o.byte 52)) 22 0 = s.rf (Addr.ingRingProd (o.byte 52)) 22 0)
    | none => false
  setFld (setBit (setBit v 1 busy) 2 wait) 36 32 (min 16 (s.pp n).q.length)

/-- The ticket of a Pepper engine's running op. -/
def State.ppCur (s : State) (n : Nat) : W64 :=
  match s.ppHead n with
  | some o => if o.start.isSome then ticket o.th o.serial else 0
  | none => 0

/-- The level at GPIO pin i: driven, or the one from outside (Table 19.5). -/
def State.gpioLevel (s : State) (i : Nat) : Bool :=
  let out := s.rb Addr.pmuGpioOut i
  if s.rb Addr.pmuGpioDir i && !(out && s.rb Addr.pmuGpioOd i) then out else s.pins.gpio.getLsbD i

/-- The levels at the sixteen GPIO pins. -/
def State.gpioIn (s : State) : W64 := (List.range 16).foldl (fun v i => setBit v i (s.gpioLevel i)) 0

/-- Word w of the record with HSEQ mod 4,096 equal to i. -/
def State.recWord (s : State) (i w : Nat) : W64 :=
  let e := Sparse.get (fun _ => err0) s.recs i
  if e.hseq = 0 then 0 else BitVec.ofNat 64 (recNat e.bytes (8 * w) 8)

/-- The value of a register as it stands, without rights. -/
def State.regVal (s : State) (id : RegId) (off i j : Nat) : W64 :=
  let v := s.rd off
  match id with
  | .ptbTime => BitVec.ofNat 64 s.time
  | .schCtxStat => (s.ctxSync i j).rd off
  | .hltScstat => setFld v 31 24 (min 255 s.recentRestarts.length)
  | .memChStat => setFld v 63 32 (s.sinceTrained i)
  | .mtTileStat => s.tileStat i j v
  | .veEngStat => s.veStat i j v
  | .awStat => s.walkStat i v
  | .sqStat => s.seqStat i v
  | .cxStat => s.codecStat i v
  | .dmMvStat => s.moverStat i j v
  | .ppEngStat => s.ppStat i v
  | .ppEngCur => s.ppCur i
  | .awPartSafe => BitVec.ofNat 64 (s.safeEpoch i)
  | .pciFnStat => setBit v 0 (i == 0 || s.partState i != 0)
  | .truCfgview => s.cfgView i
  | .truDbgstat => setFld v 39 8 s.debugLeft
  | .truCluStat => setFld v 33 32 (s.cstate i)
  | .pmuVrcfg => setFld v 5 0 s.vid
  | .pmuGpioIn => s.gpioIn
  | .pmuTelRail | .pmuTelClu => if s.trust.telem then v else 0
  | .errRec => s.recWord i j
  | .cxpCtx | .truToken => 0
  | _ => v

/-- The value that a source reads (R803, R805): a read that a rule forbids returns zero. -/
def State.regSeen (s : State) (src : Src) (id : RegId) (off i j : Nat) : W64 :=
  if !s.mayRead src id off i then 0
  else
    let v := s.regVal id off i j
    if (srcView src).isSome then s.coarsen id off v else v

/-! ## Reads -/

/-- The partition whose addresses a source uses; 0 for device addresses. -/
def srcAddrs : Src → Nat
  | .part p => p
  | _ => 0

/-- A read of the register at an offset of the register region, of the bytes in be (R803): allocations and the debug challenge take
effect with bytes 0 to 3, and a later read of bytes 4 to 7 returns what that read latched. -/
def State.regRead (s : State) (src : Src) (off : Nat) (be : BitVec 8) : W64 × State :=
  match locate off with
  | none => (0, s)
  | some (row, ix) =>
    let i := ix0 ix
    let effect := s.mayRead src row.id off i && (match row.id with
      | .awPartTalloc | .awPartPoolAlloc => true
      | .truDbgchal => i == 0
      | _ => false)
    if !effect then (s.regSeen src row.id off i (ix1 ix), s)
    else if be &&& 0x0F = 0 then (s.latch, s)
    else
      let (v, s) := match row.id with
        | .awPartTalloc => s.allocReg (srcAddrs src) i 9
        | .awPartPoolAlloc => s.allocReg (srcAddrs src) i (ix1 ix)
        | _ => let s := s.newChallenge; (s.rd off, s)
      (v, { s with latch := v })

/-! ## Writes -/

/-- A write of a semaphore's configuration: its units are free and its waiters are granted (R209). -/
def State.semCfgWrite (s : State) (k : Nat) (new : W64) : State :=
  let s := (s.wr (semCfg k) new).wf (semStat k) 15 8 0
  let s := s.setSem k { s.sem k with holders := [] }
  (State.grantAll 16 s k).semSync k

/-- A write of MEM_CFG: HALF stays set while a channel hosts two slots (R563). -/
def State.memCfgWrite (s : State) (new : W64) : State :=
  let two := (List.range 26).any fun c => decide (2 ≤ (s.slotsOn c).length)
  s.wr Addr.memCfg (if s.rb Addr.memCfg 1 && two then setBit new 1 true else new)

/-- A write of MEM_CHc_CFG, which is ignored while EN is 1 (R595); a channel that is written takes the role. -/
def State.chCfgWrite (s : State) (c : Nat) (new : W64) : State :=
  if s.rb Addr.memCfg 0 then s
  else
    let s := s.wr (Addr.memChCfg c) new
    if s.role c = 6 then s else s.setRole c (fld new 2 0)

/-- A write of PP_ENGn_CFG (R429). -/
def State.ppCfgWrite (s : State) (n : Nat) (new : W64) : State :=
  if fld new 3 1 ≠ s.rf (Addr.ppEngCfg n) 3 1 ∧ !(s.pp n).q.isEmpty then s.wb (Addr.ppEngStat n) 4 true else s.wr (Addr.ppEngCfg n) new

/-- Wake-capable pins that the device drives wake on the level they drive (R820). -/
def State.gpioWake (old new : State) : State :=
  (List.range 4).foldl (fun s i =>
    let (a, b) := (old.gpioLevel i, new.gpioLevel i)
    let m := s.rf Addr.pmuGpiowake (2 * i + 1) (2 * i)
    let hit := match m with | 0 => !b | 1 => b | 2 => a && !b | _ => !a && b
    if s.rb Addr.pmuGpioDir i && hit then s.raiseWake 3 i else s) new

/-- A write of HLT_SCCTL: a requested restart, at which a staged image becomes the running one (R694, R729). -/
def State.scctlWrite (s : State) (m : W64) : State := if bit m 0 && s.pairUp then (s.scRestart m).promoteStaged else s

/-- A write of TRU_TOKEN: its last word submits the token (Table 16.6). -/
def State.tokenWrite (s : State) (off i : Nat) (new : W64) : State :=
  let s := s.wr off new
  if i = 4095 then { s with trust := { s.trust with token := true } } else s

/-- What a permitted write does: m holds the bytes written, new the register with its writable fields changed. -/
def State.regStore (s : State) (src : Src) (row : RegRow) (off i j : Nat) (be : BitVec 8) (v : W64) : State :=
  let m := v &&& byteMask be
  let old := s.rd off
  let new := storeReg row old v be
  match row.id with
  | .ptbAxCfg => s.axCfgWrite i new
  | .ptbAxCnt => s.cntWrite src i v be
  | .ptbAxStat => let s := s.wr off new; if bit old 3 && !bit new 3 then s.wf off 31 16 0 else s
  | .ptbSlotCtl => s.slotCtl src i v be
  | .ptbOutCfg => s.outCfgWrite src i old new
  | .ingCamCfg => s.ingCfgWrite i new
  | .ingCalCtl => s.calCtl i (setBit m 2 (bit new 2))
  | .ingRingCfg => (s.wr off new).wr (Addr.ingRingStat i) 0
  | .cxpConCfg => s.conCfgWrite i new
  | .cxpCamCfg => s.camCfgWrite i new
  | .cxpCamCtl => s.ctlWrite i new (bit m 0)
  | .cxpCtx => s.wr off (mergeBytes be old v)
  | .jesCfg => s.jesCfgWrite new
  | .ptbPartScan => (s.wr off new).checkPassed (fld new 1 0)
  | .vdlPartMtab => (s.wr off new).reseed i
  | .vdlRingCfg => (s.wr off new).ringSync i
  | .vdlPartCfg => (s.wr off new).wf (Addr.vdlPartStat i) 47 0 0
  | .schCfg => (s.wr off new).wr (Addr.schOvr i) 0
  | .schSemCfg => s.semCfgWrite (i * 256 + j) new
  | .schGsemCfg => s.semCfgWrite (1536 + i) new
  | .dlmPartCfg => let s := s.wr off new; if bit m 1 then s.reseed i else s
  | .ppEngCfg => s.ppCfgWrite i new
  | .awPartTpoolCfg => s.poolCfgWrite i 9 new
  | .awPartTfree => s.freeReg (srcAddrs src) i 9 (fld m 47 0)
  | .awPartPoolCfg => s.poolCfgWrite i j new
  | .awPartPoolFree => s.freeReg (srcAddrs src) i j (fld m 47 0)
  | .sqStrCfg => s.sqCfgWrite i j new
  | .sqStrLive => s.sqLiveWrite i j new
  | .memCfg => s.memCfgWrite new
  | .memScrubCmd => s.scrubCmd m
  | .memSramclr => s.sramClear (setBit new 63 (bit m 63))
  | .memTdunpin => s.unpin (srcAddrs src) (fld m 47 0)
  | .memSlot => if s.rb Addr.memCfg 0 then s else s.wr off new
  | .memChCfg => s.chCfgWrite i new
  | .fabCfg => s.fabCfgWrite new
  | .fabPortCfg => s.portCfgWrite i new
  | .fabPartEpoch => s.fabEpochWrite i m
  | .pciRqCmd => s.rqCmd m
  | .pciEvpost => s.evpost m
  | .hltKindThr => s.thrWrite i new
  | .hltKindRet => s.retWrite i m
  | .hltCfg | .hltStat => (s.wr off new).alertSync
  | .hltWdkick => s.wdKick
  | .hltScctl => s.scctlWrite m
  | .truCmd => if bit (byteMask be) 48 then s.truCmdWrite (fld m 51 48) (fld m 47 0) true else s
  | .truRecov => s.recovWrite m
  | .truAttctl => s.attGo m
  | .truPartCfg => s.partCfgWrite i new
  | .truPartCtl => s.partCtlWrite i m
  | .truDbgctl => if bit m 0 then s.relock else s
  | .truToken => s.tokenWrite off i (mergeBytes be old v)
  | .pmuSleep => s.sleepWrite m
  | .pmuWakepend => s.wakependWrite new
  | .pmuRstctl => if bit m 0 then s.warmReset 2 else s
  | .pmuDramctl => if bit m 0 then s.wb Addr.pmuStat 1 false else s
  | .pmuCluCtl => s.cluCtlWrite i be v
  | .pmuGpioDir | .pmuGpioOut | .pmuGpioOd | .pmuGpiowake => State.gpioWake s (s.wr off new)
  | .clkSel => s.clkSelWrite new
  | .glbSegPa | .glbSegTa => s.segAddrWrite i j off new
  | .glbSegCfg => s.segCfgWrite i j new
  | .cluBasectl => s.basectlWrite i be v
  | _ => s.wr off new

/-- A write of the register at an offset of the register region. One into a domain whose clock is stopped is held (R752); one to a
reserved offset, or that a rule forbids, is ignored (R801, R805). -/
def State.regWrite (s : State) (src : Src) (off : Nat) (be : BitVec 8) (v : W64) : State :=
  if !s.pmu.on then s
  else match locate off with
    | none => s
    | some (row, ix) =>
      if !s.regLive off then { s with held := s.held ++ [Held.mk src off be v] }
      else if s.mayWrite src row.id (ix0 ix) && be != 0 then s.regStore src row off (ix0 ix) (ix1 ix) be v
      else s

/-- Accesses held at domains whose clocks run again are carried out, in order (R752). -/
def State.replay (s : State) : State :=
  s.held.foldl (fun s h => s.regWrite h.src h.off h.be h.v) { s with held := [] }

/-! ## BAR0 (R803 to R807) -/

/-- What a BAR0 offset of function f reaches. -/
inductive Bar0 where
  | reg (off : Nat)
  | msix (o : Nat)
  | none
  deriving DecidableEq, Repr

/-- The view of function f through BAR0 (R806, Table 18.5). -/
def bar0 (f o : Nat) : Bar0 :=
  let t := if f = 0 then 0x3FF0000 else 0x3F0000
  if t ≤ o then .msix (o - t)
  else if f = 0 then .reg o
  else if o < 0x100000 then .reg (o / 0x10000 * 0x100000 + o % 0x10000)
  else if o < 0x280000 then
    let r := (o - 0x100000) % 0x40000
    .reg (0x2000000 + (o - 0x100000) / 0x40000 * 0x100000 + r / 0x8000 * 0x20000 + r % 0x8000)
  else .none

/-- The byte enables of a permitted access: 8 bytes, or 4 aligned bytes. -/
def beOk (be : BitVec 8) : Bool := be == 0xFF || be == 0x0F || be == 0xF0

/-- The buffer areas, which take TLPs of any length up to 64 bytes (R804); a longer one than 8 bytes is its 8-byte parts in order (log entry
155). -/
def bufferReg (off : Nat) : Bool :=
  match locate off with
  | some (row, _) => match row.id with
    | .cxpCtx | .cxpCrx | .cxpCev | .truReport | .truLog | .truCfgview | .truToken | .errRec => true
    | _ => false
  | none => false

/-- The byte enables that BAR0 offset o of function f takes. -/
def bar0Be (f o : Nat) (be : BitVec 8) : Bool :=
  beOk be || (be != 0 && match bar0 f o with | .reg off => bufferReg off | _ => false)

/-- A write through BAR0 of function f. -/
def State.bar0Write (s : State) (f o : Nat) (be : BitVec 8) (v : W64) : State :=
  if !(s.linkUp && s.pciOn && decide (f < s.pcie.nfunc.getD 0)) then s
  else
    let s := s.tlp
    if !bar0Be f o be || o % 8 != 0 then { s with pcie := { s.pcie with aer := s.pcie.aer + 1 } }
    else match bar0 f o with
      | .reg off => s.regWrite (.pf f) off be v
      | .msix k => s.msixWrite f k be v
      | .none => s

/-- A source that the device has. -/
def okSrc : Src → Bool
  | .sup => true
  | .part p => decide (1 ≤ p) && decide (p ≤ 4)
  | .pf f => decide (f ≤ 4)

/-- The size of what a source addresses: the register region, or BAR0 of its function. -/
def srcSize : Src → Nat
  | .pf f => if f = 0 then 0x4000000 else 0x400000
  | _ => 0x4000000

/-- Meaning of REGISTER_WRITE: a program's 8-byte store, at an offset of the register region, or a write through BAR0 of a function. -/
def execRegisterWrite (src : Src) (off : Nat) (be : BitVec 8) (v : W64) (s : State) : Host.Outcome State Fault Refusal :=
  if okSrc src && decide (off < srcSize src) then
    .next (match src with
      | .pf f => s.bar0Write f off be v
      | _ => if be = 0xFF then s.regWrite src off be v else s)
  else .fault .noSuchUnit

end Sys2Proof.Machine
end

