-- ==== Sys2Proof/Machine/BusCmds.lean ====
section
/-! DEFINITION. The commands that are accesses to registers with a behaviour of their own: the sender is a program or a host function
(R805), the access is one of 8 bytes at the register's offset. -/

namespace Sys2Proof.Machine

open Sys2Proof

/-- The access reaches the device: one of the host needs the PCI Express link and a function that exists (R644, R652, R703). -/
def State.reaches (s : State) : Src → Bool
  | .pf f => s.linkUp && s.pciOn && decide (f < s.pcie.nfunc.getD 0)
  | _ => true

/-- A write of a register by a source; ok says that the command names a register that the device has. -/
def busWrite (src : Src) (ok : Bool) (off : Nat) (v : W64) (s : State) : Host.Outcome State Fault Refusal :=
  if okSrc src && ok then .next (if s.reaches src then s.regWrite src off 0xFF v else s) else .fault .noSuchUnit

/-- A read of a register by a source: lastRd takes the value. It waits while the register's domain is stopped. -/
def busRead (src : Src) (ok : Bool) (off : Nat) (s : State) : Host.Outcome State Fault Refusal :=
  if okSrc src && ok then
    .next (if s.reaches src && s.pmu.on && s.regLive off then
      let (v, s) := s.regRead src off 0xFF
      { s with lastRd := v }
    else s)
  else .fault .noSuchUnit

/-- Meaning of AXIS_COUNTER_WRITE. -/
def execAxisCounterWrite (src : Src) (n : Nat) (v : W64) (s : State) : Host.Outcome State Fault Refusal :=
  busWrite src (decide (n < 4)) (Addr.ptbAxCnt n) v s

/-- Meaning of SLOT_ARM: a write of PTB_SLOTk_CTL with ARM 1. -/
def execSlotArm (src : Src) (k : Nat) (v : W64) (s : State) : Host.Outcome State Fault Refusal :=
  busWrite src (decide (k < 64)) (Addr.ptbSlotCtl k) (setBit v 0 true) s

/-- Meaning of SLOT_DISARM: a write of PTB_SLOTk_CTL with ARM 0. -/
def execSlotDisarm (src : Src) (k : Nat) (v : W64) (s : State) : Host.Outcome State Fault Refusal :=
  busWrite src (decide (k < 64)) (Addr.ptbSlotCtl k) (setBit v 0 false) s

/-- Meaning of CAMERA_CONFIG_WRITE. -/
def execCameraConfigWrite (src : Src) (k : Nat) (v : W64) (s : State) : Host.Outcome State Fault Refusal :=
  busWrite src (decide (k < 4)) (Addr.cxpCamCfg k) v s

/-- Meaning of ING_CAMERA_ENABLE: a write of ING_CAMk_CFG with EN 1. -/
def execIngCameraEnable (src : Src) (k : Nat) (v : W64) (s : State) : Host.Outcome State Fault Refusal :=
  busWrite src (decide (k < 4)) (Addr.ingCamCfg k) (setBit v 0 true) s

/-- Meaning of CONTROL_SEND: a write of CXP_CAMk_CTL with SEND 1. -/
def execControlSend (src : Src) (k : Nat) (v : W64) (s : State) : Host.Outcome State Fault Refusal :=
  busWrite src (decide (k < 4)) (Addr.cxpCamCtl k) (setBit v 0 true) s

/-- Meaning of CAL_LOAD: a write of ING_CALt_CTL with LOAD 1. -/
def execCalLoad (src : Src) (t : Nat) (v : W64) (s : State) : Host.Outcome State Fault Refusal :=
  busWrite src (decide (t < 8)) (Addr.ingCalCtl t) (setBit v 0 true) s

/-- Meaning of CAL_STORE: a write of ING_CALt_CTL with STORE 1. -/
def execCalStore (src : Src) (t : Nat) (v : W64) (s : State) : Host.Outcome State Fault Refusal :=
  busWrite src (decide (t < 8)) (Addr.ingCalCtl t) (setBit v 1 true) s

/-- Meaning of JESD_CONFIG_WRITE. -/
def execJesdConfigWrite (src : Src) (v : W64) (s : State) : Host.Outcome State Fault Refusal :=
  busWrite src true Addr.jesCfg v s

/-- Meaning of MTAB_WRITE. -/
def execMtabWrite (src : Src) (p : Nat) (v : W64) (s : State) : Host.Outcome State Fault Refusal :=
  busWrite src (decide (1 ≤ p ∧ p ≤ 4)) (Addr.vdlPartMtab p) v s

/-- Meaning of SEM_CONFIG_WRITE: semaphore k of cluster c, or a device semaphore where c is 6. -/
def execSemConfigWrite (src : Src) (c k : Nat) (v : W64) (s : State) : Host.Outcome State Fault Refusal :=
  busWrite src (decide ((c < 6 ∧ k < 256) ∨ (c = 6 ∧ k < 64))) (if c = 6 then Addr.schGsemCfg k else Addr.schSemCfg c k) v s

/-- Meaning of DLM_RESEED: a write of DLM_PARTp_CFG with RESEED 1. -/
def execDlmReseed (src : Src) (p : Nat) (v : W64) (s : State) : Host.Outcome State Fault Refusal :=
  busWrite src (decide (1 ≤ p ∧ p ≤ 4)) (Addr.dlmPartCfg p) (setBit v 1 true) s

/-- Meaning of POOL_FREE. -/
def execPoolFree (src : Src) (p c : Nat) (v : W64) (s : State) : Host.Outcome State Fault Refusal :=
  busWrite src (decide (1 ≤ p ∧ p ≤ 4 ∧ c < 9)) (Addr.awPartPoolFree p c) v s

/-- Meaning of TABLE_FREE. -/
def execTableFree (src : Src) (p : Nat) (v : W64) (s : State) : Host.Outcome State Fault Refusal :=
  busWrite src (decide (1 ≤ p ∧ p ≤ 4)) (Addr.awPartTfree p) v s

/-- Meaning of POOL_CONFIG_WRITE: page pool c, or the table pool where c is 9. -/
def execPoolConfigWrite (src : Src) (p c : Nat) (v : W64) (s : State) : Host.Outcome State Fault Refusal :=
  busWrite src (decide (1 ≤ p ∧ p ≤ 4 ∧ c ≤ 9)) (if c = 9 then Addr.awPartTpoolCfg p else Addr.awPartPoolCfg p c) v s

/-- Meaning of SQ_STREAM_CONFIG_WRITE. -/
def execSqStreamConfigWrite (src : Src) (c k : Nat) (v : W64) (s : State) : Host.Outcome State Fault Refusal :=
  busWrite src (decide (c < 6 ∧ k < 256)) (Addr.sqStrCfg c k) v s

/-- Meaning of SQ_LIVE_WRITE. -/
def execSqLiveWrite (src : Src) (c k : Nat) (v : W64) (s : State) : Host.Outcome State Fault Refusal :=
  busWrite src (decide (c < 6 ∧ k < 256)) (Addr.sqStrLive c k) v s

/-- Meaning of SRAM_CLEAR: a write of MEM_SRAMCLR with GO 1. -/
def execSramClear (src : Src) (v : W64) (s : State) : Host.Outcome State Fault Refusal :=
  busWrite src true Addr.memSramclr (setBit v 63 true) s

/-- Meaning of SCRUB_ADVANCE: a write of MEM_SCRUB_CMD with ADV 1. -/
def execScrubAdvance (src : Src) (v : W64) (s : State) : Host.Outcome State Fault Refusal :=
  busWrite src true Addr.memScrubCmd (setBit v 40 true) s

/-- Meaning of TDUNPIN. -/
def execTdunpin (src : Src) (v : W64) (s : State) : Host.Outcome State Fault Refusal :=
  busWrite src true Addr.memTdunpin v s

/-- Meaning of FABRIC_EPOCH_ADVANCE: a write of FAB_PARTp_EPOCH with ADV 1. -/
def execFabricEpochAdvance (src : Src) (p : Nat) (v : W64) (s : State) : Host.Outcome State Fault Refusal :=
  busWrite src (decide (1 ≤ p ∧ p ≤ 4)) (Addr.fabPartEpoch p) (setBit v 24 true) s

/-- Meaning of FABRIC_EPOCH_RETIRE: a write of FAB_PARTp_EPOCH with ADV 0 and RETIRE 1. -/
def execFabricEpochRetire (src : Src) (p : Nat) (v : W64) (s : State) : Host.Outcome State Fault Refusal :=
  busWrite src (decide (1 ≤ p ∧ p ≤ 4)) (Addr.fabPartEpoch p) (setBit (setBit v 24 false) 25 true) s

/-- Meaning of REQUEST_SCAN: a write of PCI_RQ_CMD with SCAN 1. -/
def execRequestScan (src : Src) (v : W64) (s : State) : Host.Outcome State Fault Refusal :=
  busWrite src true Addr.pciRqCmd (setBit v 8 true) s

/-- Meaning of EVPOST. -/
def execEvpost (src : Src) (v : W64) (s : State) : Host.Outcome State Fault Refusal :=
  busWrite src true Addr.pciEvpost v s

/-- Meaning of THRESHOLD_WRITE. -/
def execThresholdWrite (src : Src) (k : Nat) (v : W64) (s : State) : Host.Outcome State Fault Refusal :=
  busWrite src (decide (1 ≤ k ∧ k ≤ 13)) (Addr.hltKindThr k) v s

/-- Meaning of RETIRE_WRITE. -/
def execRetireWrite (src : Src) (k : Nat) (v : W64) (s : State) : Host.Outcome State Fault Refusal :=
  busWrite src (decide (1 ≤ k ∧ k ≤ 13)) (Addr.hltKindRet k) v s

/-- Meaning of WATCHDOG_KICK. -/
def execWatchdogKick (src : Src) (v : W64) (s : State) : Host.Outcome State Fault Refusal :=
  busWrite src true Addr.hltWdkick v s

/-- Meaning of REQUESTED_RESTART: a write of HLT_SCCTL with RESTART 1. -/
def execRequestedRestart (src : Src) (v : W64) (s : State) : Host.Outcome State Fault Refusal :=
  busWrite src true Addr.hltScctl (setBit v 0 true) s

/-- Meaning of PARTITION_CREATE: a write of TRU_PARTp_CFG with EN 1. -/
def execPartitionCreate (src : Src) (p : Nat) (v : W64) (s : State) : Host.Outcome State Fault Refusal :=
  busWrite src (decide (1 ≤ p ∧ p ≤ 4)) (Addr.truPartCfg p) (setBit v 8 true) s

/-- Meaning of PARTITION_RESIZE: a write of TRU_PARTp_CFG with EN 1. -/
def execPartitionResize (src : Src) (p : Nat) (v : W64) (s : State) : Host.Outcome State Fault Refusal :=
  busWrite src (decide (1 ≤ p ∧ p ≤ 4)) (Addr.truPartCfg p) (setBit v 8 true) s

/-- Meaning of HOST_EPOCH_ADVANCE: a write of TRU_PARTp_CTL with TEAR 0 and HADV 1. -/
def execHostEpochAdvance (src : Src) (p : Nat) (v : W64) (s : State) : Host.Outcome State Fault Refusal :=
  busWrite src (decide (1 ≤ p ∧ p ≤ 4)) (Addr.truPartCtl p) (setBit (setBit v 0 false) 1 true) s

/-- Meaning of TEARDOWN: a write of TRU_PARTp_CTL with TEAR 1. -/
def execTeardown (src : Src) (p : Nat) (v : W64) (s : State) : Host.Outcome State Fault Refusal :=
  busWrite src (decide (1 ≤ p ∧ p ≤ 4)) (Addr.truPartCtl p) (setBit v 0 true) s

/-- Meaning of ATTEST_GO: a write of TRU_ATTCTL with GO 1. -/
def execAttestGo (src : Src) (v : W64) (s : State) : Host.Outcome State Fault Refusal :=
  busWrite src true Addr.truAttctl (setBit v 0 true) s

/-- Meaning of CLAIM_PACKAGE. -/
def execClaimPackage (src : Src) (v : W64) (s : State) : Host.Outcome State Fault Refusal :=
  busWrite src true Addr.truRecov v s

/-- Meaning of DEBUG_TOKEN: a write of the last word of TRU_TOKEN. -/
def execDebugToken (src : Src) (v : W64) (s : State) : Host.Outcome State Fault Refusal :=
  busWrite src true (Addr.truToken 4095) v s

/-- Meaning of DEBUG_RELOCK: a write of TRU_DBGCTL with RELOCK 1. -/
def execDebugRelock (src : Src) (v : W64) (s : State) : Host.Outcome State Fault Refusal :=
  busWrite src true Addr.truDbgctl (setBit v 0 true) s

/-- Meaning of SLEEP_REQUEST: a write of PMU_SLEEP with REQ 1. -/
def execSleepRequest (src : Src) (v : W64) (s : State) : Host.Outcome State Fault Refusal :=
  busWrite src true Addr.pmuSleep (setBit v 8 true) s

/-- Meaning of CLOCK_SELECT; accesses held at a domain whose clock runs again are carried out. -/
def execClockSelect (src : Src) (v : W64) (s : State) : Host.Outcome State Fault Refusal :=
  if okSrc src then .next ((if s.reaches src then s.regWrite src Addr.clkSel 0xFF v else s).replay) else .fault .noSuchUnit

/-- Meaning of SELF_REFRESH_EXIT: a write of PMU_DRAMCTL with SREXIT 1. -/
def execSelfRefreshExit (src : Src) (v : W64) (s : State) : Host.Outcome State Fault Refusal :=
  busWrite src true Addr.pmuDramctl (setBit v 0 true) s

/-- Meaning of LEVEL_REQUEST: a write of PMU_CLUc_CTL that changes PL alone. -/
def execLevelRequest (src : Src) (c : Nat) (v : W64) (s : State) : Host.Outcome State Fault Refusal :=
  if okSrc src && decide (c < 6) then
    .next (if s.reaches src then s.regWrite src (Addr.pmuCluCtl c) 0xFF (setFld (s.rd (Addr.pmuCluCtl c)) 2 0 (fld v 2 0)) else s)
  else .fault .noSuchUnit

/-- Meaning of CLUSTER_RESET: a write of PMU_CLUc_CTL with RST 1. -/
def execClusterReset (src : Src) (c : Nat) (v : W64) (s : State) : Host.Outcome State Fault Refusal :=
  busWrite src (decide (c < 6)) (Addr.pmuCluCtl c) (setBit v 9 true) s

/-- Meaning of CLUSTER_POWER: a write of PMU_CLUc_CTL. -/
def execClusterPower (src : Src) (c : Nat) (v : W64) (s : State) : Host.Outcome State Fault Refusal :=
  busWrite src (decide (c < 6)) (Addr.pmuCluCtl c) v s

/-- Meaning of SEGMENT_ENABLE: a write of GLB_SEGp_i_CFG with EN 1. -/
def execSegmentEnable (src : Src) (p i : Nat) (v : W64) (s : State) : Host.Outcome State Fault Refusal :=
  busWrite src (decide (1 ≤ p ∧ p ≤ 4 ∧ i < 32)) (Addr.glbSegCfg p i) (setBit v 35 true) s

/-- Meaning of SEGMENT_DISABLE: a write of GLB_SEGp_i_CFG with EN 0. -/
def execSegmentDisable (src : Src) (p i : Nat) (v : W64) (s : State) : Host.Outcome State Fault Refusal :=
  busWrite src (decide (1 ≤ p ∧ p ≤ 4 ∧ i < 32)) (Addr.glbSegCfg p i) (setBit v 35 false) s

/-- Meaning of BASE_START: a write of CLU_BASECTL with START 1. -/
def execBaseStart (src : Src) (c : Nat) (v : W64) (s : State) : Host.Outcome State Fault Refusal :=
  busWrite src (decide (c < 6)) (Addr.cluBasectl c) (setBit v 0 true) s

/-- Meaning of BASE_HALT: a write of CLU_BASECTL with START 0. -/
def execBaseHalt (src : Src) (c : Nat) (v : W64) (s : State) : Host.Outcome State Fault Refusal :=
  busWrite src (decide (c < 6)) (Addr.cluBasectl c) (setBit v 0 false) s

/-- Meaning of POOL_ALLOC: a read of AW_PARTp_POOLc_ALLOC (R447). -/
def execPoolAlloc (src : Src) (p c : Nat) (s : State) : Host.Outcome State Fault Refusal :=
  busRead src (decide (1 ≤ p ∧ p ≤ 4 ∧ c < 9)) (Addr.awPartPoolAlloc p c) s

/-- Meaning of TABLE_ALLOC: a read of AW_PARTp_TALLOC (R447). -/
def execTableAlloc (src : Src) (p : Nat) (s : State) : Host.Outcome State Fault Refusal :=
  busRead src (decide (1 ≤ p ∧ p ≤ 4)) (Addr.awPartTalloc p) s

/-- Meaning of DEBUG_CHALLENGE: a read of word 0 of TRU_DBGCHAL (R744). -/
def execDebugChallenge (src : Src) (s : State) : Host.Outcome State Fault Refusal := busRead src true (Addr.truDbgchal 0) s

/-- Meaning of WARM_RESET: SYS_RST_N, or a write of PMU_RSTCTL with WARM 1 (R780). -/
def execWarmReset (pin : Bool) (src : Src) (v : W64) (s : State) : Host.Outcome State Fault Refusal :=
  if pin then .next (s.warmReset 1) else busWrite src true Addr.pmuRstctl (setBit v 0 true) s

/-- Meaning of PLL_LOCK: the PLL of a bit of CLK_LOCK; held accesses are carried out where clocks start (R752, R773). -/
def execPllLock (d : Nat) (s : State) : Host.Outcome State Fault Refusal :=
  if d < 41 then .next (s.pllLock d).replay else .fault .noSuchUnit

/-- Meaning of SLEEP_PHASE_END (R768, R769). -/
def execSleepPhaseEnd (s : State) : Host.Outcome State Fault Refusal := .next s.phaseEnd.replay

/-- Meaning of SLEEP_EXIT (R773, R774). -/
def execSleepExit (s : State) : Host.Outcome State Fault Refusal := .next s.sleepExit.replay

end Sys2Proof.Machine
end

