-- ==== Sys2Proof/Machine/LoadStore.lean ====
section
/-! DEFINITION. Loads, stores and atomics of the Clove cores (R238, R241, R249 to R252, R562, R624, R651, R652, R789 to R792,
R802). -/

namespace Sys2Proof.Machine

open Sys2Proof

/-- The source of a thread's register accesses. -/
def State.thSrc (s : State) (t : Nat) : Src := if t = supTid then .sup else .part (s.thPart t)

/-- What a scalar access reaches: memory at a device address, the host window at an offset, a register at an offset. -/
inductive Route where
  | mem (d : Nat)
  | host (h : Nat)
  | reg (off : Nat)
  deriving DecidableEq, Repr

/-- The route of a device address; none where the access raises ACCESS. -/
def State.routeDev (s : State) (k : Acc) (d n : Nat) : Option Route :=
  match region d with
  | .global => some (.mem d)
  | .cluster _ => if k ≠ .read ∧ s.inRecord d n then none else some (.mem d)
  | .tile _ _ | .ddr => if k ≠ .atomic ∧ s.memAddr d then some (.mem d) else none
  | .host => if k ≠ .atomic then some (.host (d - 0x7E0000000000)) else none
  | .reg => if k ≠ .atomic ∧ n = 8 then some (.reg (d - 0x7F0000000000)) else none
  | .fabric | .none => none

/-- The route of an access of n bytes by a thread. -/
def State.route (s : State) (t : Nat) (k : Acc) (a n : Nat) : Option Route :=
  match s.devAddr (s.thPart t) k a n with
  | none => none
  | some d => s.routeDev k d n

/-- An access waits, and its thread with it: its memory is not to be reached now (R568, R705, R782), or it meets a register whose domain's
clock is stopped (R752; a register store completes before the next instruction issues, R288). -/
def State.stalled (s : State) : Route → Bool
  | .mem d => s.mustWait d
  | .host _ => false
  | .reg off => (locate off).isSome && !s.regLive off

/-- A checked access: ACCESS for high address bits, ALIGN, ACCESS for an address that the access does not reach. -/
def State.access (s : State) (t : Nat) (k : Acc) (a : W64) (n : Nat) (f : Route → State) : State :=
  if 2 ^ 48 ≤ a.toNat then s.raise t .access a
  else if a.toNat % n ≠ 0 then s.raise t .align a
  else match s.route t k a.toNat n with
    | none => s.raise t .access a
    | some r => if s.stalled r then s else f r

/-- What the core itself meets at an instruction with an access, by the operand flt: 5, a register-file parity error of a cluster core,
fatal whatever SY_EHAND holds (R665); 6, an instruction line that fails its check twice, DATAERR at the instruction's address
(R254). -/
def State.coreErr (s : State) (t flt : Nat) (f : State → State) : State :=
  let c := thClu t
  if flt = 5 ∧ thClass t ≠ .sup then ((s.detect 8 c).exhaust 8 c).fatal t Exc.dataErr.code
  else if flt = 6 then
    let s := if thClass t ≠ .sup then ((s.detect 8 c).detect 8 c).exhaust 8 c else s
    s.raise t .dataErr (s.thread t).pc
  else f s

/-- A packet of the mesh is dropped after its third re-send: four failing checks and an exhaustion of a router, which one no rule states (R664,
R666, log entry 136). -/
def State.meshDrop (s : State) : State :=
  let (i, s) := s.fresh
  let u := (Config.freeFp i 0).toNat % 36
  ((List.range 4).foldl (fun (s : State) _ => s.detect 13 u) s).exhaust 13 u

/-- Read n bytes for a load or an atomic and go on with them; DATAERR for a read that failed, as for flt 7, a packet of the mesh
dropped after its re-sends (R666). -/
def State.fetch (s : State) (t : Nat) (a : W64) (n flt : Nat) (f : State → Nat → State) (r : Route) : State :=
  if flt = 7 then s.meshDrop.raise t .dataErr a
  else match r with
    | .mem d =>
      let r := s.readMem (s.thPart t) d n flt
      if r.ok then f r.s (natOf r.data) else r.s.raise t .dataErr a
    | .host h => if s.linkUp then f s (natOf (s.hostRead (s.hostAddr (s.thPart t) h) n)) else s.raise t .dataErr a
    | .reg off =>
      let (v, s) := s.regRead (s.thSrc t) off 0xFF
      f s v.toNat

/-- The effective address of the LS format (R249). -/
def Thread.ea (th : Thread) (gb : Reg) (imm : W16) : W64 := th.gr gb + imm.signExtend 64

/-- A load of n bytes into a g register. -/
def State.load (s : State) (t : Nat) (gt gb : Reg) (imm : W16) (n flt : Nat) (ext : Nat → W64) : State :=
  let a := (s.thread t).ea gb imm
  s.access t .read a n (s.fetch t a n flt fun s v => s.retG t gt (ext v))

/-- Store bytes, flt times failing on the way (R556); 7, a packet of the mesh dropped after its re-sends, fails as a read does (R666). A store
to the host window is lost while the link is down; the thread goes on, then a register takes the write. -/
def State.put (s : State) (t : Nat) (a : W64) (bs : List Byte) (flt : Nat) (r : Route) : State :=
  if flt = 7 then s.meshDrop.raise t .dataErr a
  else match r with
  | .mem d => (s.writeMemF (s.thPart t) d bs flt).nextPc t
  | .host h => (if s.linkUp then s.hostWrite (s.hostAddr (s.thPart t) h) bs else s).nextPc t
  | .reg off => (s.nextPc t).regWrite (s.thSrc t) off 0xFF (BitVec.ofNat 64 (natOf bs))

/-- A store of n bytes of a g register. -/
def State.storeG (s : State) (t : Nat) (gt gb : Reg) (imm : W16) (n flt : Nat) : State :=
  let a := (s.thread t).ea gb imm
  s.access t .write a n (s.put t a (bytesOf n ((s.thread t).gr gt).toNat) flt)

/-- Meaning of LDBU. -/
def execLdbu (th : Nat) (gt gb : Reg) (imm : W16) (flt : Nat) (s : State) : Host.Outcome State Fault Refusal :=
  instr th (fun s => s.coreErr th flt fun s => s.load th gt gb imm 1 flt (BitVec.ofNat 64)) s

/-- Meaning of LDHU. -/
def execLdhu (th : Nat) (gt gb : Reg) (imm : W16) (flt : Nat) (s : State) : Host.Outcome State Fault Refusal :=
  instr th (fun s => s.coreErr th flt fun s => s.load th gt gb imm 2 flt (BitVec.ofNat 64)) s

/-- Meaning of LDWU. -/
def execLdwu (th : Nat) (gt gb : Reg) (imm : W16) (flt : Nat) (s : State) : Host.Outcome State Fault Refusal :=
  instr th (fun s => s.coreErr th flt fun s => s.load th gt gb imm 4 flt (BitVec.ofNat 64)) s

/-- Meaning of LDW. -/
def execLdw (th : Nat) (gt gb : Reg) (imm : W16) (flt : Nat) (s : State) : Host.Outcome State Fault Refusal :=
  instr th (fun s => s.coreErr th flt fun s => s.load th gt gb imm 4 flt fun v => (BitVec.ofNat 32 v).signExtend 64) s

/-- Meaning of LDD. -/
def execLdd (th : Nat) (gt gb : Reg) (imm : W16) (flt : Nat) (s : State) : Host.Outcome State Fault Refusal :=
  instr th (fun s => s.coreErr th flt fun s => s.load th gt gb imm 8 flt (BitVec.ofNat 64)) s

/-- Meaning of STB. -/
def execStb (th : Nat) (gt gb : Reg) (imm : W16) (flt : Nat) (s : State) : Host.Outcome State Fault Refusal :=
  instr th (fun s => s.coreErr th flt fun s => s.storeG th gt gb imm 1 flt) s

/-- Meaning of STH. -/
def execSth (th : Nat) (gt gb : Reg) (imm : W16) (flt : Nat) (s : State) : Host.Outcome State Fault Refusal :=
  instr th (fun s => s.coreErr th flt fun s => s.storeG th gt gb imm 2 flt) s

/-- Meaning of STW. -/
def execStw (th : Nat) (gt gb : Reg) (imm : W16) (flt : Nat) (s : State) : Host.Outcome State Fault Refusal :=
  instr th (fun s => s.coreErr th flt fun s => s.storeG th gt gb imm 4 flt) s

/-- Meaning of STD. -/
def execStd (th : Nat) (gt gb : Reg) (imm : W16) (flt : Nat) (s : State) : Host.Outcome State Fault Refusal :=
  instr th (fun s => s.coreErr th flt fun s => s.storeG th gt gb imm 8 flt) s

/-- Meaning of DLD: 32 bytes into descriptor gt[3:0]; gt[4] is zero. -/
def execDld (th : Nat) (gt gb : Reg) (imm : W16) (flt : Nat) (s : State) : Host.Outcome State Fault Refusal :=
  instr th (fun s => s.coreErr th flt fun s =>
    if 16 ≤ gt.toNat then s.raise th .illegal (wordSY 0x19 gt gb imm.toNat)
    else
      let a := (s.thread th).ea gb imm
      s.access th .read a 32 (s.fetch th a 32 flt fun s v =>
        (s.setThread th ((s.thread th).setD (gt.setWidth 4) (BitVec.ofNat 256 v))).nextPc th)) s

/-- Meaning of DST. -/
def execDst (th : Nat) (gt gb : Reg) (imm : W16) (flt : Nat) (s : State) : Host.Outcome State Fault Refusal :=
  instr th (fun s => s.coreErr th flt fun s =>
    if 16 ≤ gt.toNat then s.raise th .illegal (wordSY 0x1A gt gb imm.toNat)
    else
      let a := (s.thread th).ea gb imm
      s.access th .write a 32 (s.put th a (bytesOf 32 ((s.thread th).dr (gt.setWidth 4)).toNat) flt)) s

/-- An atomic: gd receives the old value; new gives the value to store, none to store nothing (Table 6.6). -/
def State.atomic (s : State) (t : Nat) (gd ga : Reg) (flt : Nat) (new : W64 → Option W64) : State :=
  let a := (s.thread t).gr ga
  s.access t .atomic a 8 fun r =>
    s.fetch t a 8 flt (fun s v =>
      let s := match r, new (BitVec.ofNat 64 v) with
        | .mem d, some w => s.writeMem (s.thPart t) d (bytesOf 8 w.toNat)
        | _, _ => s
      s.retG t gd (BitVec.ofNat 64 v)) r

/-- Meaning of AMOSWP. -/
def execAmoswp (th : Nat) (gd ga gb : Reg) (flt : Nat) (s : State) : Host.Outcome State Fault Refusal :=
  instr th (fun s => s.coreErr th flt fun s => s.atomic th gd ga flt fun _ => some ((s.thread th).gr gb)) s

/-- Meaning of AMOADD. -/
def execAmoadd (th : Nat) (gd ga gb : Reg) (flt : Nat) (s : State) : Host.Outcome State Fault Refusal :=
  instr th (fun s => s.coreErr th flt fun s => s.atomic th gd ga flt fun v => some (v + (s.thread th).gr gb)) s

/-- Meaning of AMOAND. -/
def execAmoand (th : Nat) (gd ga gb : Reg) (flt : Nat) (s : State) : Host.Outcome State Fault Refusal :=
  instr th (fun s => s.coreErr th flt fun s => s.atomic th gd ga flt fun v => some (v &&& (s.thread th).gr gb)) s

/-- Meaning of AMOOR. -/
def execAmoor (th : Nat) (gd ga gb : Reg) (flt : Nat) (s : State) : Host.Outcome State Fault Refusal :=
  instr th (fun s => s.coreErr th flt fun s => s.atomic th gd ga flt fun v => some (v ||| (s.thread th).gr gb)) s

/-- Meaning of AMOCAS: gb is stored when the old value equals gd's prior value. -/
def execAmocas (th : Nat) (gd ga gb : Reg) (flt : Nat) (s : State) : Host.Outcome State Fault Refusal :=
  instr th (fun s => s.coreErr th flt fun s =>
    s.atomic th gd ga flt fun v => if v = (s.thread th).gr gd then some ((s.thread th).gr gb) else none) s

end Sys2Proof.Machine
end

