-- ==== Sys2Proof/Machine/Signals.lean ====
section
/-! DEFINITION. Pins with no other home: test mode, the test access port, the SMBus port (R818, R829 to R832). -/

namespace Sys2Proof.Machine

open Sys2Proof

/-- Meaning of TEST_MODE: a level of TEST_EN. While it is high every domain is in reset (R818). -/
def execTestMode (level : Bool) (s : State) : Host.Outcome State Fault Refusal :=
  let s := if level then s.cold else s
  .next { s with pins := { s.pins with test := level } }

/-! ## Test access port (R829, R830, Table 19.12) -/

/-- Select a test instruction, with what its data register captures. -/
def State.selectIr (s : State) (ir : Byte) (dr : Nat) : State := { s with pins := { s.pins with ir := ir, dr := dr } }

/-- Select an instruction on the boundary register: what it captures, in an order that is not stated, is free; the cells are then those
shifted in. -/
def State.jtagBoundary (s : State) (ir : Byte) (cells : Nat) : State :=
  let (i, s) := s.fresh
  let s := s.selectIr ir (Config.boundaryCells i)
  { s with pins := { s.pins with cells := cells } }

/-- The boundary cells drive the pins in place of the device's functions (R830). -/
def Pins.cellsDrive (p : Pins) : Bool := p.ir == 0 || p.ir == 3 || p.ir == 4 || p.ir == 5 || p.ir == 6

/-- Meaning of JTAG_EXTEST. -/
def execJtagExtest (cells : Nat) (s : State) : Host.Outcome State Fault Refusal := .next (s.jtagBoundary 0x00 cells)

/-- Meaning of JTAG_IDCODE. -/
def execJtagIdcode (s : State) : Host.Outcome State Fault Refusal := .next (s.selectIr 0x01 0x106485C5)

/-- Meaning of JTAG_SAMPLE_PRELOAD. -/
def execJtagSamplePreload (cells : Nat) (s : State) : Host.Outcome State Fault Refusal := .next (s.jtagBoundary 0x02 cells)

/-- Meaning of JTAG_EXTEST_PULSE. -/
def execJtagExtestPulse (cells : Nat) (s : State) : Host.Outcome State Fault Refusal := .next (s.jtagBoundary 0x03 cells)

/-- Meaning of JTAG_EXTEST_TRAIN. -/
def execJtagExtestTrain (cells : Nat) (s : State) : Host.Outcome State Fault Refusal := .next (s.jtagBoundary 0x04 cells)

/-- Meaning of JTAG_HIGHZ. -/
def execJtagHighz (s : State) : Host.Outcome State Fault Refusal := .next (s.selectIr 0x05 0)

/-- Meaning of JTAG_CLAMP. -/
def execJtagClamp (s : State) : Host.Outcome State Fault Refusal := .next (s.selectIr 0x06 0)

/-- Meaning of JTAG_TUCHAL: the challenge that TRU_DBGCHAL gave last (R744). -/
def execJtagTuchal (s : State) : Host.Outcome State Fault Refusal :=
  .next (s.selectIr 0x20 (natOf (s.trust.challenge.getD [])))

/-- Meaning of JTAG_BYPASS. -/
def execJtagBypass (s : State) : Host.Outcome State Fault Refusal := .next (s.selectIr 0xFF 0)

/-- An access through the unlocked debug port: with memory access in its scope, to 8 bytes of device memory; what other reads return is
not stated (R745). -/
def State.debugAccess (s : State) (wr : Bool) (a : Nat) (v : W64) : State :=
  let a := a / 8 * 8
  let mem := s.rb Addr.truDbgstat 7 && s.memAddr a && !s.mustWait a
  if wr then (if mem then s.writeMem 0 a (bytesOf 8 v.toNat) else s)
  else if mem then
    let r := s.readMem 0 a 8 0
    r.s.selectIr 0x30 (natOf r.data)
  else
    let (i, s) := s.fresh
    s.selectIr 0x30 (natOf ((List.range 8).map (Config.freeByte i)))

/-- Meaning of JTAG_DBGACC: while debug is locked, reads return zero and writes are ignored (R743). -/
def execJtagDbgacc (wr : Bool) (a : Nat) (v : W64) (s : State) : Host.Outcome State Fault Refusal :=
  let s := s.selectIr 0x30 0
  .next (if s.rb Addr.truStat 6 then s.debugAccess wr a v else s)

/-! ## SMBus (R831, R832, Table 19.13) -/

/-- The port answers with bytes. -/
def State.smbReply (s : State) (l : List Byte) : State := { s with pins := { s.pins with smb := l } }

/-- The device is in SL3. -/
def State.inSl3 (s : State) : Bool := s.phase == 6 && s.pmu.req == 3

/-- Meaning of SMB_TEMP. -/
def execSmbTemp (s : State) : Host.Outcome State Fault Refusal :=
  .next (s.smbReply (bytesOf 1 (if s.pmu.temps.isEmpty then 0xFF else s.rf Addr.pmuTherm 55 48)))

/-- Meaning of SMB_POWER. -/
def execSmbPower (s : State) : Host.Outcome State Fault Refusal :=
  .next (s.smbReply (bytesOf 2 (if s.inSl3 then 0xFFFF else s.rf Addr.pmuPwr 15 0)))

/-- Meaning of SMB_HEALTH. -/
def execSmbHealth (s : State) : Host.Outcome State Fault Refusal := .next (s.smbReply (bytesOf 4 (s.rf Addr.hltSummary 31 0)))

/-- The power state as SMBus gives it. -/
def State.smbCode (s : State) : Nat :=
  if s.phase = 6 then (if s.pmu.req = 3 then (if s.pmu.thermal then 5 else 4) else s.pmu.req + 1)
  else if s.sup.st = .run ∨ s.sup.st = .stopped then 1 else 0

/-- Meaning of SMB_STATE. -/
def execSmbState (s : State) : Host.Outcome State Fault Refusal := .next (s.smbReply (bytesOf 1 s.smbCode))

/-- Meaning of SMB_IDENT. -/
def execSmbIdent (s : State) : Host.Outcome State Fault Refusal := .next (s.smbReply (bytesOf 8 (s.rd Addr.glbId).toNat))

/-- Meaning of SMB_ALERT_RESPONSE: the device answers with its address while it asserts ALERT_N. -/
def execSmbAlertResponse (s : State) : Host.Outcome State Fault Refusal :=
  .next (s.smbReply (if s.rb Addr.hltStat 4 then [s.pins.smbAddr] else []))

end Sys2Proof.Machine
end

