-- ==== Sys2Proof/Machine/Dispatch.lean ====
section
/-! DEFINITION. The dispatch: one arm per command, each one call of the command's meaning. -/

namespace Sys2Proof.Machine

open Sys2Proof

/-- The effect of a command on everything but the queue. -/
def exec (i : Instr) (s : State) : Host.Outcome State Fault Refusal :=
  match i with
  | .registerWrite src off be v => Sys2Proof.Machine.execRegisterWrite src off be v s
  | .encoderTransition n a b => Sys2Proof.Machine.execEncoderTransition n a b s
  | .zEdge n => Sys2Proof.Machine.execZEdge n s
  | .axisCounterWrite src n v => Sys2Proof.Machine.execAxisCounterWrite src n v s
  | .axisStopped n => Sys2Proof.Machine.execAxisStopped n s
  | .velocityUpdate => Sys2Proof.Machine.execVelocityUpdate s
  | .slotArm src k v => Sys2Proof.Machine.execSlotArm src k v s
  | .slotDisarm src k v => Sys2Proof.Machine.execSlotDisarm src k v s
  | .trigPulseStart o => Sys2Proof.Machine.execTrigPulseStart o s
  | .trigPulseEnd o => Sys2Proof.Machine.execTrigPulseEnd o s
  | .markPulseStart o => Sys2Proof.Machine.execMarkPulseStart o s
  | .markPulseEnd o => Sys2Proof.Machine.execMarkPulseEnd o s
  | .bcastInterval => Sys2Proof.Machine.execBcastInterval s
  | .posPacketReceive q tApply tRes => Sys2Proof.Machine.execPosPacketReceive q tApply tRes s
  | .followerStep n => Sys2Proof.Machine.execFollowerStep n s
  | .followerLost n => Sys2Proof.Machine.execFollowerLost n s
  | .linkLatencyMeasure q rtt res => Sys2Proof.Machine.execLinkLatencyMeasure q rtt res s
  | .cameraConfigWrite src k v => Sys2Proof.Machine.execCameraConfigWrite src k v s
  | .ingCameraEnable src k v => Sys2Proof.Machine.execIngCameraEnable src k v s
  | .cxpStreamPacket p => Sys2Proof.Machine.execCxpStreamPacket p s
  | .cxpLockLoss n => Sys2Proof.Machine.execCxpLockLoss n s
  | .cxpLockAcquire n => Sys2Proof.Machine.execCxpLockAcquire n s
  | .uplinkTriggerRising k b fin => Sys2Proof.Machine.execUplinkTriggerRising k b fin s
  | .uplinkTriggerFalling k b fin => Sys2Proof.Machine.execUplinkTriggerFalling k b fin s
  | .controlSend src k v => Sys2Proof.Machine.execControlSend src k v s
  | .controlReceive k payload => Sys2Proof.Machine.execControlReceive k payload s
  | .eventPacketReceive k payload => Sys2Proof.Machine.execEventPacketReceive k payload s
  | .heartbeat k => Sys2Proof.Machine.execHeartbeat k s
  | .fireRecordExpire k => Sys2Proof.Machine.execFireRecordExpire k s
  | .calLoad src t v => Sys2Proof.Machine.execCalLoad src t v s
  | .calStore src t v => Sys2Proof.Machine.execCalStore src t v s
  | .jesdConfigWrite src v => Sys2Proof.Machine.execJesdConfigWrite src v s
  | .sysrefEdge phase => Sys2Proof.Machine.execSysrefEdge phase s
  | .jesdBlockComplete age samples crcLanes => Sys2Proof.Machine.execJesdBlockComplete age samples crcLanes s
  | .jesdLockLoss l => Sys2Proof.Machine.execJesdLockLoss l s
  | .pass th gd ga sel flt mflt => Sys2Proof.Machine.execPass th gd ga sel flt mflt s
  | .verdOpen th gd ga sel flt => Sys2Proof.Machine.execVerdOpen th gd ga sel flt s
  | .verdPost th gd ga sel flt => Sys2Proof.Machine.execVerdPost th gd ga sel flt s
  | .verdSeal th gd ga sel flt => Sys2Proof.Machine.execVerdSeal th gd ga sel flt s
  | .verdClose th gd ga sel flt => Sys2Proof.Machine.execVerdClose th gd ga sel flt s
  | .dieAcquired e => Sys2Proof.Machine.execDieAcquired e s
  | .dieForce e => Sys2Proof.Machine.execDieForce e s
  | .verdictRecordWrite r => Sys2Proof.Machine.execVerdictRecordWrite r s
  | .consumerIndexRead r => Sys2Proof.Machine.execConsumerIndexRead r s
  | .interruptModerationExpiry r => Sys2Proof.Machine.execInterruptModerationExpiry r s
  | .mtabWrite src p v => Sys2Proof.Machine.execMtabWrite src p v s
  | .jobTake c x mflt => Sys2Proof.Machine.execJobTake c x mflt s
  | .inningsBoundary c => Sys2Proof.Machine.execInningsBoundary c s
  | .preemptTileBoundary c => Sys2Proof.Machine.execPreemptTileBoundary c s
  | .overrunFault uid => Sys2Proof.Machine.execOverrunFault uid s
  | .holdFault c k => Sys2Proof.Machine.execHoldFault c k s
  | .semConfigWrite src c k v => Sys2Proof.Machine.execSemConfigWrite src c k v s
  | .ageLimitExpiry p jseq => Sys2Proof.Machine.execAgeLimitExpiry p jseq s
  | .dlmReseed src p v => Sys2Proof.Machine.execDlmReseed src p v s
  | .add th gd ga gb => Sys2Proof.Machine.execAdd th gd ga gb s
  | .sub th gd ga gb => Sys2Proof.Machine.execSub th gd ga gb s
  | .and_ th gd ga gb => Sys2Proof.Machine.execAnd th gd ga gb s
  | .or_ th gd ga gb => Sys2Proof.Machine.execOr th gd ga gb s
  | .xor th gd ga gb => Sys2Proof.Machine.execXor th gd ga gb s
  | .andn th gd ga gb => Sys2Proof.Machine.execAndn th gd ga gb s
  | .sll th gd ga gb => Sys2Proof.Machine.execSll th gd ga gb s
  | .srl th gd ga gb => Sys2Proof.Machine.execSrl th gd ga gb s
  | .sra th gd ga gb => Sys2Proof.Machine.execSra th gd ga gb s
  | .ror th gd ga gb => Sys2Proof.Machine.execRor th gd ga gb s
  | .min th gd ga gb => Sys2Proof.Machine.execMin th gd ga gb s
  | .max th gd ga gb => Sys2Proof.Machine.execMax th gd ga gb s
  | .minu th gd ga gb => Sys2Proof.Machine.execMinu th gd ga gb s
  | .maxu th gd ga gb => Sys2Proof.Machine.execMaxu th gd ga gb s
  | .clz th gd ga gb => Sys2Proof.Machine.execClz th gd ga gb s
  | .popc th gd ga gb => Sys2Proof.Machine.execPopc th gd ga gb s
  | .sx48 th gd ga gb => Sys2Proof.Machine.execSx48 th gd ga gb s
  | .zx48 th gd ga gb => Sys2Proof.Machine.execZx48 th gd ga gb s
  | .mul th gd ga gb => Sys2Proof.Machine.execMul th gd ga gb s
  | .mulh th gd ga gb => Sys2Proof.Machine.execMulh th gd ga gb s
  | .mulhu th gd ga gb => Sys2Proof.Machine.execMulhu th gd ga gb s
  | .div th gd ga gb => Sys2Proof.Machine.execDiv th gd ga gb s
  | .divu th gd ga gb => Sys2Proof.Machine.execDivu th gd ga gb s
  | .rem th gd ga gb => Sys2Proof.Machine.execRem th gd ga gb s
  | .remu th gd ga gb => Sys2Proof.Machine.execRemu th gd ga gb s
  | .cmpeq th gd ga gb => Sys2Proof.Machine.execCmpeq th gd ga gb s
  | .cmpne th gd ga gb => Sys2Proof.Machine.execCmpne th gd ga gb s
  | .cmplt th gd ga gb => Sys2Proof.Machine.execCmplt th gd ga gb s
  | .cmpge th gd ga gb => Sys2Proof.Machine.execCmpge th gd ga gb s
  | .cmpltu th gd ga gb => Sys2Proof.Machine.execCmpltu th gd ga gb s
  | .cmpgeu th gd ga gb => Sys2Proof.Machine.execCmpgeu th gd ga gb s
  | .pand th gd ga gb => Sys2Proof.Machine.execPand th gd ga gb s
  | .por th gd ga gb => Sys2Proof.Machine.execPor th gd ga gb s
  | .pxor th gd ga gb => Sys2Proof.Machine.execPxor th gd ga gb s
  | .pandn th gd ga gb => Sys2Proof.Machine.execPandn th gd ga gb s
  | .sel th gd ga gb p => Sys2Proof.Machine.execSel th gd ga gb p s
  | .addi th gd ga imm => Sys2Proof.Machine.execAddi th gd ga imm s
  | .andi th gd ga imm => Sys2Proof.Machine.execAndi th gd ga imm s
  | .ori th gd ga imm => Sys2Proof.Machine.execOri th gd ga imm s
  | .xori th gd ga imm => Sys2Proof.Machine.execXori th gd ga imm s
  | .seth th gd ga imm => Sys2Proof.Machine.execSeth th gd ga imm s
  | .insh th gd ga imm => Sys2Proof.Machine.execInsh th gd ga imm s
  | .cmpi th gd ga imm => Sys2Proof.Machine.execCmpi th gd ga imm s
  | .shi th gd ga imm => Sys2Proof.Machine.execShi th gd ga imm s
  | .ldbu th gt gb imm flt => Sys2Proof.Machine.execLdbu th gt gb imm flt s
  | .ldhu th gt gb imm flt => Sys2Proof.Machine.execLdhu th gt gb imm flt s
  | .ldwu th gt gb imm flt => Sys2Proof.Machine.execLdwu th gt gb imm flt s
  | .ldw th gt gb imm flt => Sys2Proof.Machine.execLdw th gt gb imm flt s
  | .ldd th gt gb imm flt => Sys2Proof.Machine.execLdd th gt gb imm flt s
  | .stb th gt gb imm flt => Sys2Proof.Machine.execStb th gt gb imm flt s
  | .sth th gt gb imm flt => Sys2Proof.Machine.execSth th gt gb imm flt s
  | .stw th gt gb imm flt => Sys2Proof.Machine.execStw th gt gb imm flt s
  | .std th gt gb imm flt => Sys2Proof.Machine.execStd th gt gb imm flt s
  | .dld th gt gb imm flt => Sys2Proof.Machine.execDld th gt gb imm flt s
  | .dst th gt gb imm flt => Sys2Proof.Machine.execDst th gt gb imm flt s
  | .amoswp th gd ga gb flt => Sys2Proof.Machine.execAmoswp th gd ga gb flt s
  | .amoadd th gd ga gb flt => Sys2Proof.Machine.execAmoadd th gd ga gb flt s
  | .amoand th gd ga gb flt => Sys2Proof.Machine.execAmoand th gd ga gb flt s
  | .amoor th gd ga gb flt => Sys2Proof.Machine.execAmoor th gd ga gb flt s
  | .amocas th gd ga gb flt => Sys2Proof.Machine.execAmocas th gd ga gb flt s
  | .b th p n z off => Sys2Proof.Machine.execB th p n z off s
  | .bl th p n z off => Sys2Proof.Machine.execBl th p n z off s
  | .jr th gd ga gb fn => Sys2Proof.Machine.execJr th gd ga gb fn s
  | .mfs th gd ga n => Sys2Proof.Machine.execMfs th gd ga n s
  | .mts th gd ga n => Sys2Proof.Machine.execMts th gd ga n s
  | .fence th gd ga k => Sys2Proof.Machine.execFence th gd ga k s
  | .eret th gd ga z => Sys2Proof.Machine.execEret th gd ga z s
  | .brk th gd ga n => Sys2Proof.Machine.execBrk th gd ga n s
  | .yieldInnings th gd ga z => Sys2Proof.Machine.execYieldInnings th gd ga z s
  | .yieldEnd th gd ga z => Sys2Proof.Machine.execYieldEnd th gd ga z s
  | .caprd th gd ga n => Sys2Proof.Machine.execCaprd th gd ga n s
  | .twait th gd ga z eta => Sys2Proof.Machine.execTwait th gd ga z eta s
  | .twaitTry th gd ga z => Sys2Proof.Machine.execTwaitTry th gd ga z s
  | .semacq th gd ga g z base => Sys2Proof.Machine.execSemacq th gd ga g z base s
  | .semacqTry th gd ga g z base => Sys2Proof.Machine.execSemacqTry th gd ga g z base s
  | .semrel th gd ga g t z base => Sys2Proof.Machine.execSemrel th gd ga g t z base s
  | .pwaitPosition th gd ga falling ax scan z tmo => Sys2Proof.Machine.execPwaitPosition th gd ga falling ax scan z tmo s
  | .pwaitSlot th gd ga ax scan z tmo => Sys2Proof.Machine.execPwaitSlot th gd ga ax scan z tmo s
  | .pwaitTimeout th => Sys2Proof.Machine.execPwaitTimeout th s
  | .parm th gd ga sel flt => Sys2Proof.Machine.execParm th gd ga sel flt s
  | .dlsetExplicit th gd ga z d => Sys2Proof.Machine.execDlsetExplicit th gd ga z d s
  | .dlsetDefault th gd ga z d => Sys2Proof.Machine.execDlsetDefault th gd ga z d s
  | .dlsetNone th gd ga z d => Sys2Proof.Machine.execDlsetNone th gd ga z d s
  | .ckpt th gd ga sel flt => Sys2Proof.Machine.execCkpt th gd ga sel flt s
  | .ckptCommit uid err => Sys2Proof.Machine.execCkptCommit uid err s
  | .lockstepMismatch => Sys2Proof.Machine.execLockstepMismatch s
  | .supervisorRestart => Sys2Proof.Machine.execSupervisorRestart s
  | .mxMul th ti => Sys2Proof.Machine.execMxMul th ti s
  | .cvConv th ti => Sys2Proof.Machine.execCvConv th ti s
  | .vxEw1 th ti => Sys2Proof.Machine.execVxEw1 th ti s
  | .vxEw2 th ti => Sys2Proof.Machine.execVxEw2 th ti s
  | .vxFma th ti => Sys2Proof.Machine.execVxFma th ti s
  | .vxRed th ti => Sys2Proof.Machine.execVxRed th ti s
  | .vxSoftmax th ti => Sys2Proof.Machine.execVxSoftmax th ti s
  | .vxNorm th ti => Sys2Proof.Machine.execVxNorm th ti s
  | .vxQuant th ti => Sys2Proof.Machine.execVxQuant th ti s
  | .vxDequant th ti => Sys2Proof.Machine.execVxDequant th ti s
  | .vxAmax th ti => Sys2Proof.Machine.execVxAmax th ti s
  | .vxPool th ti => Sys2Proof.Machine.execVxPool th ti s
  | .vxDwconv th ti => Sys2Proof.Machine.execVxDwconv th ti s
  | .vxHad th ti => Sys2Proof.Machine.execVxHad th ti s
  | .vxOpt th ti => Sys2Proof.Machine.execVxOpt th ti s
  | .vxTrans th ti => Sys2Proof.Machine.execVxTrans th ti s
  | .vxGather th ti => Sys2Proof.Machine.execVxGather th ti s
  | .vxSelect th ti => Sys2Proof.Machine.execVxSelect th ti s
  | .vxFill th ti => Sys2Proof.Machine.execVxFill th ti s
  | .atAttn th ti => Sys2Proof.Machine.execAtAttn th ti s
  | .atAppend th ti => Sys2Proof.Machine.execAtAppend th ti s
  | .atPrefix th ti => Sys2Proof.Machine.execAtPrefix th ti s
  | .atFork th ti => Sys2Proof.Machine.execAtFork th ti s
  | .atFree th ti => Sys2Proof.Machine.execAtFree th ti s
  | .sqChunk th ti => Sys2Proof.Machine.execSqChunk th ti s
  | .sqStep th ti => Sys2Proof.Machine.execSqStep th ti s
  | .sqEvict th ti => Sys2Proof.Machine.execSqEvict th ti s
  | .sqClear th ti => Sys2Proof.Machine.execSqClear th ti s
  | .ppConv th ti => Sys2Proof.Machine.execPpConv th ti s
  | .ppStream th ti => Sys2Proof.Machine.execPpStream th ti s
  | .cxExpand th ti => Sys2Proof.Machine.execCxExpand th ti s
  | .cxCompress th ti => Sys2Proof.Machine.execCxCompress th ti s
  | .dmCopy th ti => Sys2Proof.Machine.execDmCopy th ti s
  | .dmFill th ti => Sys2Proof.Machine.execDmFill th ti s
  | .dmPromote th ti => Sys2Proof.Machine.execDmPromote th ti s
  | .dmEvict th ti => Sys2Proof.Machine.execDmEvict th ti s
  | .pieceComplete uid unit row n cc err => Sys2Proof.Machine.execPieceComplete uid unit row n cc err s
  | .tileOpComplete uid env => Sys2Proof.Machine.execTileOpComplete uid env s
  | .weightBlockLoaded uid tile => Sys2Proof.Machine.execWeightBlockLoaded uid tile s
  | .ppStreamEntry n lbErr => Sys2Proof.Machine.execPpStreamEntry n lbErr s
  | .poolAlloc src p c => Sys2Proof.Machine.execPoolAlloc src p c s
  | .poolFree src p c v => Sys2Proof.Machine.execPoolFree src p c v s
  | .tableAlloc src p => Sys2Proof.Machine.execTableAlloc src p s
  | .tableFree src p v => Sys2Proof.Machine.execTableFree src p v s
  | .poolConfigWrite src p c v => Sys2Proof.Machine.execPoolConfigWrite src p c v s
  | .sqStreamConfigWrite src c k v => Sys2Proof.Machine.execSqStreamConfigWrite src c k v s
  | .sqLiveWrite src c k v => Sys2Proof.Machine.execSqLiveWrite src c k v s
  | .swapInComplete c k fail => Sys2Proof.Machine.execSwapInComplete c k fail s
  | .swapOutComplete c k => Sys2Proof.Machine.execSwapOutComplete c k s
  | .blockRefetch uid chk => Sys2Proof.Machine.execBlockRefetch uid chk s
  | .sramClear src v => Sys2Proof.Machine.execSramClear src v s
  | .sramClearDone => Sys2Proof.Machine.execSramClearDone s
  | .scrubAdvance src v => Sys2Proof.Machine.execScrubAdvance src v s
  | .eraseScrubComplete r => Sys2Proof.Machine.execEraseScrubComplete r s
  | .patrolScrub a fail => Sys2Proof.Machine.execPatrolScrub a fail s
  | .channelInitComplete ch => Sys2Proof.Machine.execChannelInitComplete ch s
  | .rotationStart => Sys2Proof.Machine.execRotationStart s
  | .migrationUnitCopy bad => Sys2Proof.Machine.execMigrationUnitCopy bad s
  | .migrationComplete => Sys2Proof.Machine.execMigrationComplete s
  | .retrainComplete ch => Sys2Proof.Machine.execRetrainComplete ch s
  | .movementBlock uid mism flt => Sys2Proof.Machine.execMovementBlock uid mism flt s
  | .fillComplete uid err => Sys2Proof.Machine.execFillComplete uid err s
  | .drainComplete uid err => Sys2Proof.Machine.execDrainComplete uid err s
  | .tdunpin src v => Sys2Proof.Machine.execTdunpin src v s
  | .fabricBlockReceive q blk crcOk => Sys2Proof.Machine.execFabricBlockReceive q blk crcOk s
  | .ackReceive q seq => Sys2Proof.Machine.execAckReceive q seq s
  | .nakReceive q seq => Sys2Proof.Machine.execNakReceive q seq s
  | .replayTimeout q => Sys2Proof.Machine.execReplayTimeout q s
  | .ackDelayExpiry q => Sys2Proof.Machine.execAckDelayExpiry q s
  | .fastRetrainComplete q bit0 bit1 rtt res => Sys2Proof.Machine.execFastRetrainComplete q bit0 bit1 rtt res s
  | .portTrainingStart q => Sys2Proof.Machine.execPortTrainingStart q s
  | .trainingComplete q nid nport w h loop rtt res => Sys2Proof.Machine.execTrainingComplete q nid nport w h loop rtt res s
  | .trainingTimeout q => Sys2Proof.Machine.execTrainingTimeout q s
  | .eqRequest q lane req => Sys2Proof.Machine.execEqRequest q lane req s
  | .creditReturn q buf n => Sys2Proof.Machine.execCreditReturn q buf n s
  | .blockSend q tWait => Sys2Proof.Machine.execBlockSend q tWait s
  | .wrReceive q => Sys2Proof.Machine.execWrReceive q s
  | .wrackReceive q => Sys2Proof.Machine.execWrackReceive q s
  | .wrnakReceive q => Sys2Proof.Machine.execWrnakReceive q s
  | .rdreqReceive q flt => Sys2Proof.Machine.execRdreqReceive q flt s
  | .rdrspReceive q => Sys2Proof.Machine.execRdrspReceive q s
  | .rdnakReceive q => Sys2Proof.Machine.execRdnakReceive q s
  | .flagReceive q => Sys2Proof.Machine.execFlagReceive q s
  | .e2eTimeout uid => Sys2Proof.Machine.execE2eTimeout uid s
  | .fabricEpochAdvance src p v => Sys2Proof.Machine.execFabricEpochAdvance src p v s
  | .fabricEpochRetire src p v => Sys2Proof.Machine.execFabricEpochRetire src p v s
  | .pcieLinkUp width speed => Sys2Proof.Machine.execPcieLinkUp width speed s
  | .pcieLinkDown => Sys2Proof.Machine.execPcieLinkDown s
  | .configRequest f wr off v => Sys2Proof.Machine.execConfigRequest f wr off v s
  | .bar2Read f off len flt => Sys2Proof.Machine.execBar2Read f off len flt s
  | .bar2Write f off data => Sys2Proof.Machine.execBar2Write f off data s
  | .hostReadFail who => Sys2Proof.Machine.execHostReadFail who s
  | .functionLevelReset f => Sys2Proof.Machine.execFunctionLevelReset f s
  | .endpointReset => Sys2Proof.Machine.execEndpointReset s
  | .requestScan src v => Sys2Proof.Machine.execRequestScan src v s
  | .requestScanComplete fails => Sys2Proof.Machine.execRequestScanComplete fails s
  | .evpost src v => Sys2Proof.Machine.execEvpost src v s
  | .eventRecordWrite f => Sys2Proof.Machine.execEventRecordWrite f s
  | .errorWindowEnd k u => Sys2Proof.Machine.execErrorWindowEnd k u s
  | .suspectExpiry k u => Sys2Proof.Machine.execSuspectExpiry k u s
  | .thresholdWrite src k v => Sys2Proof.Machine.execThresholdWrite src k v s
  | .retireWrite src k v => Sys2Proof.Machine.execRetireWrite src k v s
  | .checkpointDue => Sys2Proof.Machine.execCheckpointDue s
  | .watchdogKick src v => Sys2Proof.Machine.execWatchdogKick src v s
  | .watchdogExpiry => Sys2Proof.Machine.execWatchdogExpiry s
  | .requestedRestart src v => Sys2Proof.Machine.execRequestedRestart src v s
  | .partitionCreate src p v => Sys2Proof.Machine.execPartitionCreate src p v s
  | .partitionResize src p v => Sys2Proof.Machine.execPartitionResize src p v s
  | .clusterClearComplete c => Sys2Proof.Machine.execClusterClearComplete c s
  | .cfgwrite src blk flashOk => Sys2Proof.Machine.execCfgwrite src blk flashOk s
  | .stage src blk => Sys2Proof.Machine.execStage src blk s
  | .unstage src blk => Sys2Proof.Machine.execUnstage src blk s
  | .extend src blk => Sys2Proof.Machine.execExtend src blk s
  | .loadseed src blk flashOk => Sys2Proof.Machine.execLoadseed src blk flashOk s
  | .truCommandComplete => Sys2Proof.Machine.execTruCommandComplete s
  | .keyDeriveComplete p => Sys2Proof.Machine.execKeyDeriveComplete p s
  | .keyZeroise p host => Sys2Proof.Machine.execKeyZeroise p host s
  | .rngReseed => Sys2Proof.Machine.execRngReseed s
  | .hostEpochAdvance src p v => Sys2Proof.Machine.execHostEpochAdvance src p v s
  | .teardown src p v => Sys2Proof.Machine.execTeardown src p v s
  | .teardownScrub p => Sys2Proof.Machine.execTeardownScrub p s
  | .teardownComplete p => Sys2Proof.Machine.execTeardownComplete p s
  | .attestGo src v => Sys2Proof.Machine.execAttestGo src v s
  | .attestComplete => Sys2Proof.Machine.execAttestComplete s
  | .claimPackage src v => Sys2Proof.Machine.execClaimPackage src v s
  | .debugChallenge src => Sys2Proof.Machine.execDebugChallenge src s
  | .debugToken src v => Sys2Proof.Machine.execDebugToken src v s
  | .debugUnlock => Sys2Proof.Machine.execDebugUnlock s
  | .debugRelock src v => Sys2Proof.Machine.execDebugRelock src v s
  | .debugLifeExpiry => Sys2Proof.Machine.execDebugLifeExpiry s
  | .sleepRequest src v => Sys2Proof.Machine.execSleepRequest src v s
  | .sleepPhaseEnd => Sys2Proof.Machine.execSleepPhaseEnd s
  | .wakeEvent n sub => Sys2Proof.Machine.execWakeEvent n sub s
  | .aonTimerMatch => Sys2Proof.Machine.execAonTimerMatch s
  | .sleepExit => Sys2Proof.Machine.execSleepExit s
  | .pllLock d => Sys2Proof.Machine.execPllLock d s
  | .clockSelect src v => Sys2Proof.Machine.execClockSelect src v s
  | .selfRefreshExit src v => Sys2Proof.Machine.execSelfRefreshExit src v s
  | .levelRequest src c v => Sys2Proof.Machine.execLevelRequest src c v s
  | .levelSwitchComplete c => Sys2Proof.Machine.execLevelSwitchComplete c s
  | .thermalSample temps => Sys2Proof.Machine.execThermalSample temps s
  | .throttleStep c => Sys2Proof.Machine.execThrottleStep c s
  | .powerUp => Sys2Proof.Machine.execPowerUp s
  | .powerDown => Sys2Proof.Machine.execPowerDown s
  | .channelTrainingComplete => Sys2Proof.Machine.execChannelTrainingComplete s
  | .bootImageVerify => Sys2Proof.Machine.execBootImageVerify s
  | .warmReset pin src v => Sys2Proof.Machine.execWarmReset pin src v s
  | .clusterReset src c v => Sys2Proof.Machine.execClusterReset src c v s
  | .clusterPower src c v => Sys2Proof.Machine.execClusterPower src c v s
  | .segmentEnable src p ix v => Sys2Proof.Machine.execSegmentEnable src p ix v s
  | .segmentDisable src p ix v => Sys2Proof.Machine.execSegmentDisable src p ix v s
  | .baseStart src c v => Sys2Proof.Machine.execBaseStart src c v s
  | .baseHalt src c v => Sys2Proof.Machine.execBaseHalt src c v s
  | .testMode level => Sys2Proof.Machine.execTestMode level s
  | .jtagExtest cells => Sys2Proof.Machine.execJtagExtest cells s
  | .jtagIdcode => Sys2Proof.Machine.execJtagIdcode s
  | .jtagSamplePreload cells => Sys2Proof.Machine.execJtagSamplePreload cells s
  | .jtagExtestPulse cells => Sys2Proof.Machine.execJtagExtestPulse cells s
  | .jtagExtestTrain cells => Sys2Proof.Machine.execJtagExtestTrain cells s
  | .jtagHighz => Sys2Proof.Machine.execJtagHighz s
  | .jtagClamp => Sys2Proof.Machine.execJtagClamp s
  | .jtagTuchal => Sys2Proof.Machine.execJtagTuchal s
  | .jtagDbgacc wr a v => Sys2Proof.Machine.execJtagDbgacc wr a v s
  | .jtagBypass => Sys2Proof.Machine.execJtagBypass s
  | .smbTemp => Sys2Proof.Machine.execSmbTemp s
  | .smbPower => Sys2Proof.Machine.execSmbPower s
  | .smbHealth => Sys2Proof.Machine.execSmbHealth s
  | .smbState => Sys2Proof.Machine.execSmbState s
  | .smbIdent => Sys2Proof.Machine.execSmbIdent s
  | .smbAlertResponse => Sys2Proof.Machine.execSmbAlertResponse s
  | .jesdLaneLock => Sys2Proof.Machine.execJesdLaneLock s
  | .clusterResetComplete c => Sys2Proof.Machine.execClusterResetComplete c s
  | .reservedOpcode th w => Sys2Proof.Machine.execReservedOpcode th w s
  | .counterSnapshot => Sys2Proof.Machine.execCounterSnapshot s
  | .powerAverageUpdate dev rails clus => Sys2Proof.Machine.execPowerAverageUpdate dev rails clus s
  | .eraseScrubBurst a crcFail => Sys2Proof.Machine.execEraseScrubBurst a crcFail s

end Sys2Proof.Machine
end

