-- ==== Sys2Proof/Safety.lean ====
section
/-! DEFINITION. What a run is and when it is safe, and the shapes of the statements: what an instruction of a thread leaves. -/

namespace Sys2Proof

open Machine

/-- A step answers a next state. -/
def StepsTo (s t : State) : Prop := step s = .next t

/-- The states that a run reaches from a state. -/
inductive Reaches : State → State → Prop where
  | refl (s : State) : Reaches s s
  | tail {s t u : State} : Reaches s t → StepsTo t u → Reaches s u

/-- A state is safe when its next step neither stops by a fault nor is refused. -/
def Safe (s : State) : Prop := ∃ t, StepsTo s t

/-- Thread t exists and may issue its next instruction. -/
def Runs (s : State) (t : Nat) : Prop := okTid t = true ∧ s.canIssue t = true

/-- The thread with its program counter on the next instruction: [1:0] and [63:48] of it are zero (Table 6.2). -/
def Machine.Thread.onward (x : Thread) : Thread := { x with pc := (x.pc + 4) &&& 0x0000FFFFFFFFFFFC }

/-- A command answers a next state in which thread t is x, every other thread is as before, and nothing else has changed but
the counts of retired instructions. -/
def Leaves (i : Instr) (s : State) (t : Nat) (x : Thread) : Prop :=
  ∃ u, exec i s = .next u ∧ u.thread t = x ∧ (∀ k, k ≠ t → u.thread k = s.thread k) ∧
    u = { s with threads := u.threads, retired := u.retired, health := u.health }

/-- A command of thread t takes exception e with value v, in state w as it stands then (s with what the instruction met on its way): into
its handler where it has one and is not in it (R256), else the exception is fatal to the thread (R257). -/
def TrapsFrom (i : Instr) (s w : State) (t : Nat) (e : Exc) (v : W64) : Prop :=
  (((w.thread t).ehand ≠ 0 ∧ (w.thread t).ecause.getLsbD 8 = false) →
    exec i s = .next (w.setThread t { w.thread t with
      epc := (w.thread t).pc, ecause := BitVec.ofNat 64 (256 + e.code), eval := v, pc := (w.thread t).ehand &&& 0x0000FFFFFFFFFFFC })) ∧
  (((w.thread t).ehand = 0 ∨ (w.thread t).ecause.getLsbD 8 = true) → exec i s = .next (w.fatal t e.code))

/-- A command takes exception e with value v in thread t, and nothing else has happened. -/
def Traps (i : Instr) (s : State) (t : Nat) (e : Exc) (v : W64) : Prop := TrapsFrom i s s t e v

/-- The line of on-chip memory that holds device address d answers partition p's accesses (0: the supervisor program): its group is
not out, it is valid, its check holds, its tag is 0 or p's, and nothing holds the access up. -/
def GoodLine (s : State) (p d : Nat) : Prop :=
  onChip (d / 64 * 64) = true ∧ groupOf (d / 64 * 64) ∉ s.groupsOut ∧ (s.line (d / 64 * 64)).valid = true ∧
    (s.line (d / 64 * 64)).bad = false ∧ ((s.line (d / 64 * 64)).tag = 0 ∨ p = 0 ∨ (s.line (d / 64 * 64)).tag = p) ∧
    s.mustWait d = false

/-- A command stores n bytes, given by byte number, at device address d of on-chip memory for thread t and leaves thread x: those
bytes hold the value, every other byte of memory is as before, the line belongs to partition p, and beside the thread nothing
else has changed but the counts of retired instructions and of operations. -/
def Stores (i : Instr) (s : State) (t p d n : Nat) (v : Nat → Byte) (x : Thread) : Prop :=
  ∃ u, exec i s = .next u ∧ (∀ k, u.byte k = if d ≤ k ∧ k < d + n then v (k - d) else s.byte k) ∧
    u.line d = ⟨true, p, 0, false, false⟩ ∧ (∀ k, k / 64 ≠ d / 64 → u.line k = s.line k) ∧
    u.thread t = x ∧ (∀ k, k ≠ t → u.thread k = s.thread k) ∧
    u = { s with mem := u.mem, lines := u.lines, threads := u.threads, retired := u.retired, health := u.health }

/-- A write of the register at offset off, register id with first index i, takes effect: the source exists and reaches the device, the
device is powered, the register's clock runs, and the source may write it. -/
def TakesWrite (s : State) (src : Src) (id : RegId) (i off : Nat) : Prop :=
  okSrc src = true ∧ s.reaches src = true ∧ s.pmu.on = true ∧ s.regLive off = true ∧ s.mayWrite src id i = true

/-- A read of the register at offset off, register id with first index i, returns its value: the source exists and reaches the device,
the device is powered, the register's clock runs, and the source may read it. -/
def TakesRead (s : State) (src : Src) (id : RegId) (i off : Nat) : Prop :=
  okSrc src = true ∧ s.reaches src = true ∧ s.pmu.on = true ∧ s.regLive off = true ∧ s.mayRead src id off i = true

/-- What a write of v to the whole register at an offset makes of it: writable bits take those of v, bits that writing 1 clears are
cleared by it, the others stay (R802). -/
def Machine.State.stored (s : State) (off : Nat) (v : W64) : W64 :=
  match locate off with
  | some (row, _) => storeReg row (s.rd off) v 0xFF
  | none => 0

/-- Every register but those at the listed offsets reads in u as in s. -/
def Machine.State.onlyRegs (s u : State) (l : List Nat) : Prop := ∀ off, off ∉ l → u.rd off = s.rd off

end Sys2Proof
end

