-- ==== Sys2Proof/Certificates/Slice0/Obligations.lean ====
section
/-! DEFINITION. The statements for the provers. -/

open Sys2Proof Sys2Proof.Machine

/-- A step with a command in front of the queue is exec of it on the state with the queue's rest; with an empty queue one tick of 2.5 ns passes
(log entry 6). -/
def Obligations.StepRunsFrontCommand : Prop :=
  (∀ (c : Instr) (rest : List Instr) (s : State), s.pending = c :: rest → step s = exec c { s with pending := rest }) ∧
  (∀ (s : State), s.pending = [] → ∃ t, step s = .next t ∧ t.time = (if s.clk 8 then s.time + 1 else s.time) ∧
    t = { s with time := t.time, axes := t.axes, regs := t.regs, pmu := t.pmu } ∧
    (∀ off, off ≠ Addr.pmuAontime → t.rd off = s.rd off) ∧
    t.pmu = { s.pmu with tick32 := t.pmu.tick32 } ∧
    (s.pmu.on = false → t.regs = s.regs ∧ t.pmu = s.pmu))

/-- g0 reads zero and p0 reads one, a write of either is discarded, and a write of any other register changes it alone. -/
def Obligations.ConstantRegisters : Prop :=
  ∀ (x : Thread) (n m : Reg) (p q : BitVec 3) (v : W64) (b : Bool),
    x.gr 0 = 0 ∧ x.pr 0 = true ∧ x.setG 0 v = x ∧ x.setP 0 b = x ∧
    (n ≠ 0 → (x.setG n v).gr n = v) ∧ (p ≠ 0 → (x.setP p b).pr p = b) ∧
    (m ≠ n → (x.setG n v).gr m = x.gr m) ∧ (q ≠ p → (x.setP p b).pr q = x.pr q) ∧
    x.setG n v = { x with g := (x.setG n v).g } ∧ x.setP p b = { x with p := (x.setP p b).p }

/-- ADD, SUB, AND, OR, XOR and ANDN write their result modulo 2^64 to gd, and SX48, ZX48 the low 48 bits, sign- or zero-extended.
ADDI, ANDI, ORI and XORI with the extended immediate; SETH and INSH with the half word h in ga[1:0]; ga[4:2] other than zero is
ILLEGAL in these two. -/
def Obligations.IntegerOperations : Prop :=
  (∀ (s : State) (t : Nat) (gd ga gb : Reg), Runs s t → ∀ (x : Thread) (a b : W64), x = s.thread t → a = x.gr ga → b = x.gr gb →
    Leaves (.add t gd ga gb) s t (x.setG gd (BitVec.ofNat 64 (a.toNat + b.toNat))).onward ∧
    Leaves (.sub t gd ga gb) s t (x.setG gd (BitVec.ofInt 64 (a.toInt - b.toInt))).onward ∧
    Leaves (.and_ t gd ga gb) s t (x.setG gd (a &&& b)).onward ∧
    Leaves (.or_ t gd ga gb) s t (x.setG gd (a ||| b)).onward ∧
    Leaves (.xor t gd ga gb) s t (x.setG gd (a ^^^ b)).onward ∧
    Leaves (.andn t gd ga gb) s t (x.setG gd (a &&& ~~~b)).onward ∧
    (gb = 0 → Leaves (.sx48 t gd ga gb) s t (x.setG gd ((a.setWidth 48).signExtend 64)).onward ∧
      Leaves (.zx48 t gd ga gb) s t (x.setG gd (a &&& 0x0000FFFFFFFFFFFF)).onward) ∧
    (gb ≠ 0 → Traps (.sx48 t gd ga gb) s t .illegal (wordRR 0 gd ga gb 0x10) ∧
      Traps (.zx48 t gd ga gb) s t .illegal (wordRR 0 gd ga gb 0x11))) ∧
  (∀ (s : State) (t : Nat) (gd ga : Reg) (imm : W16), Runs s t → ∀ (x : Thread) (a : W64), x = s.thread t → a = x.gr ga →
    Leaves (.addi t gd ga imm) s t (x.setG gd (BitVec.ofInt 64 (a.toInt + imm.toInt))).onward ∧
    Leaves (.andi t gd ga imm) s t (x.setG gd (a &&& BitVec.ofNat 64 imm.toNat)).onward ∧
    Leaves (.ori t gd ga imm) s t (x.setG gd (a ||| BitVec.ofNat 64 imm.toNat)).onward ∧
    Leaves (.xori t gd ga imm) s t (x.setG gd (a ^^^ BitVec.ofNat 64 imm.toNat)).onward ∧
    (ga.toNat < 4 → Leaves (.seth t gd ga imm) s t (x.setG gd (BitVec.ofInt 64 (imm.toInt * 2 ^ (16 * ga.toNat)))).onward ∧
      ∃ v : W64, Leaves (.insh t gd ga imm) s t (x.setG gd v).onward ∧
        ∀ k, v.getLsbD k = if 16 * ga.toNat ≤ k ∧ k < 16 * ga.toNat + 16 then imm.getLsbD (k - 16 * ga.toNat)
          else (x.gr gd).getLsbD k) ∧
    (4 ≤ ga.toNat → Traps (.seth t gd ga imm) s t .illegal (wordSY 0x0C gd ga imm.toNat) ∧
      Traps (.insh t gd ga imm) s t .illegal (wordSY 0x0D gd ga imm.toNat)))

/-- MUL gives the low 64 bits of the product, MULH and MULHU the high 64 bits of the signed and of the unsigned one.
The shift amount of SLL, SRL, SRA and ROR is gb[5:0]; SHI takes it from imm16[5:0] and the kind from imm16[7:6], and is ILLEGAL
where imm16[15:8] is not zero.
MIN and MAX choose by the signed values, MINU and MAXU by the unsigned ones; CLZ counts the zero bits above the highest set
bit (64 for zero), POPC the set bits; a gb other than g0 in these two is ILLEGAL. -/
def Obligations.ShiftsAndMultiplication : Prop :=
  (∀ (s : State) (t : Nat) (gd ga gb : Reg), Runs s t → ∀ (x : Thread) (a b : W64), x = s.thread t → a = x.gr ga → b = x.gr gb →
    Leaves (.mul t gd ga gb) s t (x.setG gd (BitVec.ofInt 64 (a.toInt * b.toInt))).onward ∧
    Leaves (.mulh t gd ga gb) s t (x.setG gd (BitVec.ofInt 64 (a.toInt * b.toInt / 2 ^ 64))).onward ∧
    Leaves (.mulhu t gd ga gb) s t (x.setG gd (BitVec.ofNat 64 (a.toNat * b.toNat / 2 ^ 64))).onward) ∧
  (∀ (s : State) (t : Nat) (gd ga gb : Reg) (imm : W16), Runs s t →
    ∀ (x : Thread) (a : W64) (n : Nat), x = s.thread t → a = x.gr ga → n = (x.gr gb).toNat % 64 →
    Leaves (.sll t gd ga gb) s t (x.setG gd (BitVec.ofNat 64 (a.toNat * 2 ^ n))).onward ∧
    Leaves (.srl t gd ga gb) s t (x.setG gd (BitVec.ofNat 64 (a.toNat / 2 ^ n))).onward ∧
    Leaves (.sra t gd ga gb) s t (x.setG gd (BitVec.ofInt 64 (a.toInt / 2 ^ n))).onward ∧
    Leaves (.ror t gd ga gb) s t (x.setG gd (a.rotateRight n)).onward ∧
    (256 ≤ imm.toNat → Traps (.shi t gd ga imm) s t .illegal (wordSY 0x0F gd ga imm.toNat)) ∧
    (∀ k, k < 64 →
      Leaves (.shi t gd ga (BitVec.ofNat 16 k)) s t (x.setG gd (BitVec.ofNat 64 (a.toNat * 2 ^ k))).onward ∧
      Leaves (.shi t gd ga (BitVec.ofNat 16 (64 + k))) s t (x.setG gd (BitVec.ofNat 64 (a.toNat / 2 ^ k))).onward ∧
      Leaves (.shi t gd ga (BitVec.ofNat 16 (128 + k))) s t (x.setG gd (BitVec.ofInt 64 (a.toInt / 2 ^ k))).onward ∧
      Leaves (.shi t gd ga (BitVec.ofNat 16 (192 + k))) s t (x.setG gd (a.rotateRight k)).onward)) ∧
  (∀ (s : State) (t : Nat) (gd ga gb : Reg), Runs s t → ∀ (x : Thread) (a b : W64), x = s.thread t → a = x.gr ga → b = x.gr gb →
    Leaves (.min t gd ga gb) s t (x.setG gd (BitVec.ofInt 64 (Min.min a.toInt b.toInt))).onward ∧
    Leaves (.max t gd ga gb) s t (x.setG gd (BitVec.ofInt 64 (Max.max a.toInt b.toInt))).onward ∧
    Leaves (.minu t gd ga gb) s t (x.setG gd (BitVec.ofNat 64 (Min.min a.toNat b.toNat))).onward ∧
    Leaves (.maxu t gd ga gb) s t (x.setG gd (BitVec.ofNat 64 (Max.max a.toNat b.toNat))).onward ∧
    (gb = 0 →
      (∃ n, Leaves (.clz t gd ga gb) s t (x.setG gd (BitVec.ofNat 64 n)).onward ∧ n ≤ 64 ∧ a.toNat < 2 ^ (64 - n) ∧
        (n < 64 → 2 ^ (63 - n) ≤ a.toNat)) ∧
      Leaves (.popc t gd ga gb) s t
        (x.setG gd (BitVec.ofNat 64 ((List.range 64).filter fun (i : Nat) => a.toNat / 2 ^ i % 2 == 1).length)).onward) ∧
    (gb ≠ 0 → Traps (.clz t gd ga gb) s t .illegal (wordRR 0 gd ga gb 0xE) ∧
      Traps (.popc t gd ga gb) s t .illegal (wordRR 0 gd ga gb 0xF)))

/-- Division saturates rather than faulting: the cases of zero and of −2^63 by −1; elsewhere the quotient is truncated toward
zero and the remainder has the sign of ga. -/
def Obligations.DivisionSaturates : Prop :=
  ∀ (s : State) (t : Nat) (gd ga gb : Reg), Runs s t → ∀ (x : Thread) (a b : W64), x = s.thread t → a = x.gr ga → b = x.gr gb →
    (b = 0 → 0 ≤ a.toInt → Leaves (.div t gd ga gb) s t (x.setG gd (BitVec.ofNat 64 (2 ^ 63 - 1))).onward) ∧
    (b = 0 → a.toInt < 0 → Leaves (.div t gd ga gb) s t (x.setG gd (BitVec.ofNat 64 (2 ^ 63))).onward) ∧
    (b = 0 → Leaves (.divu t gd ga gb) s t (x.setG gd (BitVec.ofNat 64 (2 ^ 64 - 1))).onward ∧
      Leaves (.rem t gd ga gb) s t (x.setG gd 0).onward ∧ Leaves (.remu t gd ga gb) s t (x.setG gd 0).onward) ∧
    (a.toInt = -2 ^ 63 → b.toInt = -1 →
      Leaves (.div t gd ga gb) s t (x.setG gd (BitVec.ofNat 64 (2 ^ 63 - 1))).onward ∧
      Leaves (.rem t gd ga gb) s t (x.setG gd 0).onward) ∧
    (b ≠ 0 → ¬(a.toInt = -2 ^ 63 ∧ b.toInt = -1) →
      ∃ q r : Int, q * b.toInt + r = a.toInt ∧ |r| < |b.toInt| ∧ (r = 0 ∨ r.sign = a.toInt.sign) ∧
        Leaves (.div t gd ga gb) s t (x.setG gd (BitVec.ofInt 64 q)).onward ∧
        Leaves (.rem t gd ga gb) s t (x.setG gd (BitVec.ofInt 64 r)).onward) ∧
    (b ≠ 0 → Leaves (.divu t gd ga gb) s t (x.setG gd (BitVec.ofNat 64 (a.toNat / b.toNat))).onward ∧
      Leaves (.remu t gd ga gb) s t (x.setG gd (BitVec.ofNat 64 (a.toNat % b.toNat))).onward)

/-- The compares write p register gd[2:0], by the signed or the unsigned values, and CMPI compares with the sign-extended
immediate by the condition in gd[4:3]; a nonzero gd[4:3] of the others is ILLEGAL.
PAND, POR, PXOR and PANDN combine two p registers into a third, SEL chooses ga or gb by p; a nonzero bit elsewhere in the
three fields of a predicate operation is ILLEGAL. -/
def Obligations.ComparesAndPredicates : Prop :=
  (∀ (s : State) (t : Nat) (gd ga gb : Reg) (imm : W16) (pd : BitVec 3), Runs s t →
    ∀ (x : Thread) (a b i : W64), x = s.thread t → a = x.gr ga → b = x.gr gb → i = imm.signExtend 64 →
    Leaves (.cmpeq t (pd.setWidth 5) ga gb) s t (x.setP pd (decide (a = b))).onward ∧
    Leaves (.cmpne t (pd.setWidth 5) ga gb) s t (x.setP pd (decide (a ≠ b))).onward ∧
    Leaves (.cmplt t (pd.setWidth 5) ga gb) s t (x.setP pd (decide (a.toInt < b.toInt))).onward ∧
    Leaves (.cmpge t (pd.setWidth 5) ga gb) s t (x.setP pd (decide (b.toInt ≤ a.toInt))).onward ∧
    Leaves (.cmpltu t (pd.setWidth 5) ga gb) s t (x.setP pd (decide (a.toNat < b.toNat))).onward ∧
    Leaves (.cmpgeu t (pd.setWidth 5) ga gb) s t (x.setP pd (decide (b.toNat ≤ a.toNat))).onward ∧
    (8 ≤ gd.toNat → ∀ c ∈ [(Instr.cmpeq t gd ga gb, 0), (.cmpne t gd ga gb, 1), (.cmplt t gd ga gb, 2), (.cmpge t gd ga gb, 3),
      (.cmpltu t gd ga gb, 4), (.cmpgeu t gd ga gb, 5)], Traps c.1 s t .illegal (wordRR 2 gd ga gb c.2)) ∧
    Leaves (.cmpi t (pd.setWidth 5) ga imm) s t (x.setP pd (decide (a = i))).onward ∧
    Leaves (.cmpi t (8 + pd.setWidth 5) ga imm) s t (x.setP pd (decide (a ≠ i))).onward ∧
    Leaves (.cmpi t (16 + pd.setWidth 5) ga imm) s t (x.setP pd (decide (a.toInt < i.toInt))).onward ∧
    Leaves (.cmpi t (24 + pd.setWidth 5) ga imm) s t (x.setP pd (decide (i.toInt ≤ a.toInt))).onward) ∧
  (∀ (s : State) (t : Nat) (gd ga gb : Reg) (pd pa pb : BitVec 3), Runs s t → ∀ (x : Thread), x = s.thread t →
    Leaves (.pand t (pd.setWidth 5) (pa.setWidth 5) (pb.setWidth 5)) s t (x.setP pd (x.pr pa && x.pr pb)).onward ∧
    Leaves (.por t (pd.setWidth 5) (pa.setWidth 5) (pb.setWidth 5)) s t (x.setP pd (x.pr pa || x.pr pb)).onward ∧
    Leaves (.pxor t (pd.setWidth 5) (pa.setWidth 5) (pb.setWidth 5)) s t (x.setP pd (xor (x.pr pa) (x.pr pb))).onward ∧
    Leaves (.pandn t (pd.setWidth 5) (pa.setWidth 5) (pb.setWidth 5)) s t (x.setP pd (x.pr pa && !x.pr pb)).onward ∧
    ((8 ≤ gd.toNat ∨ 8 ≤ ga.toNat ∨ 8 ≤ gb.toNat) →
      ∀ c ∈ [(Instr.pand t gd ga gb, 0), (.por t gd ga gb, 1), (.pxor t gd ga gb, 2), (.pandn t gd ga gb, 3)],
        Traps c.1 s t .illegal (wordRR 3 gd ga gb c.2)) ∧
    (x.pr pa = true → Leaves (.sel t gd ga gb pa) s t (x.setG gd (x.gr ga)).onward) ∧
    (x.pr pa = false → Leaves (.sel t gd ga gb pa) s t (x.setG gd (x.gr gb)).onward))

/-- B and BL branch to PC + 4 × sext(offset) when predicate p equals 1 − N, JR to ga; BL links in g31 where it branches (log entry
12), JR in gd; a nonzero reserved field is ILLEGAL. -/
def Obligations.Branches : Prop :=
  ∀ (s : State) (t : Nat) (p : BitVec 3) (n : Bool) (off : BitVec 21) (gd ga gb : Reg) (fn : BitVec 11), Runs s t →
    ∀ (x : Thread) (dest link : W64), x = s.thread t →
    dest = BitVec.ofInt 64 (x.pc.toInt + 4 * off.toInt) &&& 0x0000FFFFFFFFFFFC → link = (x.pc + 4) &&& 0x0000FFFFFFFFFFFC →
    (x.pr p = !n → Leaves (.b t p n false off) s t { x with pc := dest } ∧
      Leaves (.bl t p n false off) s t { x.setG 31 link with pc := dest }) ∧
    (x.pr p = n → Leaves (.b t p n false off) s t x.onward ∧ Leaves (.bl t p n false off) s t x.onward) ∧
    Traps (.b t p n true off) s t .illegal (wordBR 0x20 p n true off) ∧
    Traps (.bl t p n true off) s t .illegal (wordBR 0x21 p n true off) ∧
    Leaves (.jr t gd ga 0 0) s t { x.setG gd link with pc := x.gr ga &&& 0x0000FFFFFFFFFFFC } ∧
    ((gb ≠ 0 ∨ fn ≠ 0) → Traps (.jr t gd ga gb fn) s t .illegal (wordRR 0x22 gd ga gb fn.toNat))

/-- MFS returns the register of Table 6.4 that exists for the thread's class and is ILLEGAL for any other; MTS writes the RW
registers, clears the written ones of SY_PEVT, and raises PRIV for a register that is RO or does not exist. -/
def Obligations.SystemRegisters : Prop :=
  ∀ (s : State) (t : Nat) (gd ga : Reg) (n : BitVec 12), Runs s t → ∀ (x : Thread) (v : W64), x = s.thread t → v = x.gr ga →
    (∀ r ∈ [(0x000, BitVec.ofNat 64 (thClu t * 256 + s.thPart t)), (0x004, x.ehand), (0x005, x.ecause), (0x006, x.epc),
        (0x007, x.eval), (0x008, BitVec.ofNat 64 s.time), (0x00B, s.pend (thClu t)), (0x00C, Sparse.get (fun _ => 0) x.scr 0x00C),
        (0x00F, Sparse.get (fun _ => 0) x.scr 0x00F)],
      n.toNat = r.1 → Leaves (.mfs t gd ga n) s t (x.setG gd r.2).onward) ∧
    (t ≠ supTid → ∀ r ∈ [(0x003, x.lastTkt), (0x009, (s.cnt (s.scanAxis (s.thPart t))).signExtend 64),
        (0x00A, s.rd (Addr.ptbAxVel (s.scanAxis (s.thPart t))))],
      n.toNat = r.1 → Leaves (.mfs t gd ga n) s t (x.setG gd r.2).onward) ∧
    (thClass t = .job → n.toNat = 0x002 → Leaves (.mfs t gd ga n) s t (x.setG gd (s.copyAddr (thClu t) (thCtx t))).onward) ∧
    (thClass t = .job → n.toNat = 0x001 → Leaves (.mfs t gd ga n) s t (x.setG gd
      (BitVec.ofNat 64 ((s.ctx (thClu t) (thCtx t)).job.jseq * 2 ^ 32 + 128 + (s.ctx (thClu t) (thCtx t)).job.fb.toNat * 64 + thCtx t))).onward) ∧
    (t = supTid → ∀ r ∈ [(0x100, s.sup.restart), (0x101, s.sup.lockstat)],
      n.toNat = r.1 → Leaves (.mfs t gd ga n) s t (x.setG gd r.2).onward) ∧
    ((t ≠ supTid ∧ (n.toNat = 0x100 ∨ n.toNat = 0x101)) ∨ (t = supTid ∧ n.toNat ∈ [0x001, 0x002, 0x003, 0x009, 0x00A]) ∨
        (thClass t = .base ∧ n.toNat = 0x002) ∨ (0x010 ≤ n.toNat ∧ n.toNat ≠ 0x100 ∧ n.toNat ≠ 0x101) →
      Traps (.mfs t gd ga n) s t .illegal (wordSG 0 gd ga n.toNat) ∧ Traps (.mts t gd ga n) s t .priv (n.setWidth 64)) ∧
    (n.toNat ∈ [0x000, 0x001, 0x002, 0x003, 0x005, 0x007, 0x008, 0x009, 0x00A, 0x101] →
      Traps (.mts t gd ga n) s t .priv (n.setWidth 64)) ∧
    (n.toNat = 0x004 → Leaves (.mts t gd ga n) s t (Thread.onward { x with ehand := v })) ∧
    (n.toNat = 0x006 → Leaves (.mts t gd ga n) s t (Thread.onward { x with epc := v })) ∧
    (0x00C ≤ n.toNat → n.toNat ≤ 0x00F →
      Leaves (.mts t gd ga n) s t (Thread.onward { x with scr := Sparse.set (fun _ => 0) x.scr n.toNat v })) ∧
    (n.toNat = 0x00B → ∃ u, exec (.mts t gd ga n) s = .next u ∧ u.pend (thClu t) = s.pend (thClu t) &&& ~~~v ∧
      (∀ c, c ≠ thClu t → u.pend c = s.pend c) ∧ u.thread t = x.onward ∧ (∀ k, k ≠ t → u.thread k = s.thread k) ∧
      u = { s with threads := u.threads, pevt := u.pevt, retired := u.retired, health := u.health }) ∧
    (t = supTid → n.toNat = 0x100 → ∃ u, exec (.mts t gd ga n) s = .next u ∧ u.sup = { s.sup with restart := v } ∧
      u.thread t = x.onward ∧ (∀ k, k ≠ t → u.thread k = s.thread k) ∧
      u = { s with threads := u.threads, sup := u.sup, retired := u.retired, health := u.health })

/-- BRK raises its exception with its code as the value; ERET clears INHANDLER and continues at SY_EPC, and is ILLEGAL with
INHANDLER at 0.
FENCE passes at once but for kind T while ops of the thread are in flight, where the thread waits; CAPRD returns a capability
and is ILLEGAL for the supervisor thread; reserved bits are ILLEGAL. -/
def Obligations.BreakReturnAndFence : Prop :=
  (∀ (s : State) (t : Nat) (gd ga : Reg) (n : BitVec 12), Runs s t → ∀ (x : Thread), x = s.thread t →
    Traps (.brk t gd ga n) s t .brk (n.setWidth 64) ∧
    (x.ecause.getLsbD 8 = true →
      Leaves (.eret t gd ga n) s t { x with ecause := x.ecause &&& ~~~0x100, pc := x.epc &&& 0x0000FFFFFFFFFFFC }) ∧
    (x.ecause.getLsbD 8 = false → Traps (.eret t gd ga n) s t .illegal (wordSG 3 gd ga n.toNat))) ∧
  (∀ (s : State) (t : Nat) (gd ga : Reg) (k : BitVec 12), Runs s t → ∀ (x : Thread), x = s.thread t →
    (k.toNat < 16 → (k.getLsbD 1 = false ∨ s.flying t = []) → Leaves (.fence t gd ga k) s t x.onward) ∧
    (k.toNat < 16 → k.getLsbD 1 = true → s.flying t ≠ [] → thClass t ≠ .job →
      exec (.fence t gd ga k) s = .next (s.setThread t { x with wait := .stall })) ∧
    (16 ≤ k.toNat → Traps (.fence t gd ga k) s t .illegal (wordSG 2 gd ga k.toNat)) ∧
    (t ≠ supTid → Leaves (.caprd t gd 0 k) s t (x.setG gd (BitVec.ofNat 64 (s.cap (thClu t) k.toNat))).onward) ∧
    (t ≠ supTid → k.toNat = 0x001 → Leaves (.caprd t gd 0 k) s t (x.setG gd 0x800080).onward) ∧
    (t ≠ supTid → k.toNat = 0x00D → Leaves (.caprd t gd 0 k) s t (x.setG gd 0x1FFF).onward) ∧
    (t ≠ supTid → 0x00E ≤ k.toNat → Leaves (.caprd t gd 0 k) s t (x.setG gd 0).onward) ∧
    ((t = supTid ∨ ga ≠ 0) → Traps (.caprd t gd ga k) s t .illegal (wordSG 6 gd ga k.toNat)))

/-- The innings form of YIELD makes a job READY and gives its innings to the next thread, at once or, while a non-pre-emptible op of
it is in flight, at the op's end (the thread keeps its engines until then); it does nothing in the base thread and idles the supervisor
pair; the end form ends the job with path ABORT, its estimate learned, halts the base thread and idles the pair. -/
def Obligations.Yields : Prop :=
  ∀ (s : State) (t c : Nat) (gd ga : Reg) (z : BitVec 11), Runs s t → c = thClu t → ∀ (x : Thread), x = s.thread t →
    (thClass t = .job → ∀ u : State, u = (s.nextPc t).putCtx c (thCtx t) { s.ctx c (thCtx t) with st := .ready } →
      (s.npFlying t = false → exec (.yieldInnings t gd ga 0) s = .next (u.switchOut c)) ∧
      (s.npFlying t = true → exec (.yieldInnings t gd ga 0) s = .next (u.setClu c { s.clu c with giving := true }))) ∧
    (thClass t = .base → Leaves (.yieldInnings t gd ga 0) s t x.onward) ∧
    (thClass t = .sup → Leaves (.yieldInnings t gd ga 0) s t { x.onward with wait := .idle }) ∧
    (thClass t = .job → ∀ j, j = (s.ctx c (thCtx t)).job →
      exec (.yieldEnd t gd ga 0) s =
        .next ((((s.nextPc t).learn c (thCtx t)).accCompleted j.part j.client).endCtx c (thCtx t) 6 0)) ∧
    (thClass t = .base → exec (.yieldEnd t gd ga 0) s = .next ((s.nextPc t).haltBase c)) ∧
    (thClass t = .sup → Leaves (.yieldEnd t gd ga 0) s t { x.onward with wait := .idle }) ∧
    (z ≠ 0 → Traps (.yieldInnings t gd ga z) s t .illegal (wordSG 5 gd ga (z.toNat * 2)) ∧
      Traps (.yieldEnd t gd ga z) s t .illegal (wordSG 5 gd ga (z.toNat * 2 + 1)))

/-- TWAIT returns NOTMINE for a ticket that the thread never got (once its serial numbers have wrapped it got every one), FORGOTTEN for one it no longer keeps, the status and flags of a
completed one; for a pending one the try form returns PENDING and the wait form waits at the next instruction.
SEMACQ grants a free unit and writes 0; with none free the try form writes 1 and the wait form joins the waiters, or raises
SEMCYCLE where its wait would close a cycle; SEMREL releases a unit held and writes 0, or raises SEMSTATE; a number out of range
raises SEMNUM. -/
def Obligations.TicketsAndSemaphores : Prop :=
  (∀ (s : State) (t eta : Nat) (gd ga : Reg) (z : BitVec 11), Runs s t → ∀ (x : Thread) (w : W64) (n : Nat),
    x = s.thread t → w = x.gr ga → n = w.toNat % 2 ^ 32 →
    ((w.toNat / 2 ^ 32 ≠ t ∨ n = 0 ∨ (x.serial < n ∧ x.wrapped = false)) → Leaves (.twait t gd ga 0 eta) s t (x.setG gd 8).onward ∧
      Leaves (.twaitTry t gd ga 0) s t (x.setG gd 8).onward) ∧
    (w.toNat / 2 ^ 32 = t → 0 < n → (n ≤ x.serial ∨ x.wrapped = true) →
      (x.tkt n = none → Leaves (.twait t gd ga 0 eta) s t (x.setG gd 7).onward ∧
        Leaves (.twaitTry t gd ga 0) s t (x.setG gd 7).onward) ∧
      (∀ k, x.tkt n = some k →
        Leaves (.twaitTry t gd ga 0) s t (x.setG gd (BitVec.ofNat 64 (k.st + k.flags * 256))).onward ∧
        (k.st ≠ 1 → Leaves (.twait t gd ga 0 eta) s t (x.setG gd (BitVec.ofNat 64 (k.st + k.flags * 256))).onward) ∧
        (k.st = 1 → s.onMover t n = false → thClass t ≠ .job →
          Leaves (.twait t gd ga 0 eta) s t { x.onward with wait := .tkt w gd 0 s.time }) ∧
        (k.st = 1 → s.onMover t n = false → thClass t = .job →
          exec (.twait t gd ga 0 eta) s = .next ((s.nextPc t).holdAt t (.tkt w gd 0 s.time))))) ∧
    (z ≠ 0 → Traps (.twait t gd ga z eta) s t .illegal (wordSG 7 gd ga (z.toNat * 2)) ∧
      Traps (.twaitTry t gd ga z) s t .illegal (wordSG 7 gd ga (z.toNat * 2 + 1)))) ∧
  (∀ (s : State) (t k : Nat) (gd ga : Reg) (g : Bool) (base : Byte) (n : W64), Runs s t → n = base.setWidth 64 + (s.thread t).gr ga →
    k = (if g then 1536 + n.toNat else thClu t * 256 + n.toNat) → (t = supTid → g = true) → ∀ (x : Thread), x = s.thread t →
    (n.toNat < (if g then 64 else 256) →
      (s.semFree k ≠ 0 →
        (thClass t = .job → exec (.semacq t gd ga g 0 base) s = .next ((s.grant k t).retG t gd 0)) ∧
        exec (.semacqTry t gd ga g 0 base) s = .next ((s.grant k t).retG t gd 0) ∧
        (s.grant k t).holds k t = true ∧ (s.grant k t).sem k =
          ⟨(s.sem k).holders ++ [(t, s.time)], (s.sem k).waiters.filter (· != t)⟩) ∧
      (s.semFree k = 0 → Leaves (.semacqTry t gd ga g 0 base) s t (x.setG gd 1).onward ∧
        (thClass t = .job → s.cycle t k = true → Traps (.semacq t gd ga g 0 base) s t .semCycle n) ∧
        (thClass t = .job → s.cycle t k = false →
          exec (.semacq t gd ga g 0 base) s = .next (((s.nextPc t).joinSem k t).block t (.sem k gd) .wsem))) ∧
      (s.holds k t = true → exec (.semrel t gd ga g false 0 base) s = .next ((s.retG t gd 0).release k t)) ∧
      (s.holds k t = false → Traps (.semrel t gd ga g false 0 base) s t .semState n)) ∧
    ((if g then 64 else 256) ≤ n.toNat →
      (thClass t = .job → Traps (.semacq t gd ga g 0 base) s t .semNum n) ∧ Traps (.semacqTry t gd ga g 0 base) s t .semNum n ∧
      Traps (.semrel t gd ga g false 0 base) s t .semNum n) ∧
    (thClass t ≠ .job → Traps (.semacq t gd ga g 0 base) s t .ctxReq (wordSem 0 gd ga g false 0 base)))

/-- PWAIT on a position returns LOST or MET at once where the axis is LOST or the condition holds, and else waits; on a slot it
returns NOTOWNER, or MET with the slot's bit of SY_PEVT cleared, and else waits; a timeout that has run out returns TIMEOUT.
A waiting PWAIT whose timeout has run out writes 1 to its gd and its thread goes on.
DLSET changes the running job's deadline, direction, mode and ACQ by its mode and goes on to the next instruction, and where the
axis has passed that deadline already the monitor evaluates the job at once; outside a job it raises CTXREQ, and a nonzero gd or reserved field is ILLEGAL. -/
def Obligations.PositionWaits : Prop :=
  (∀ (s : State) (t n : Nat) (gd ga : Reg) (down scan : Bool) (ax : BitVec 2) (tmo : BitVec 10), Runs s t →
    (scan = true → ax = 0 ∧ t ≠ supTid) → n = (if scan then s.scanAxis (s.thPart t) else ax.toNat) →
    ∀ (x : Thread) (c : Cnt) (k : Nat), x = s.thread t → c = (x.gr ga).setWidth 48 → k = (x.gr ga).toNat % 64 →
    (s.axLost n = true → Leaves (.pwaitPosition t gd ga down ax scan false tmo) s t (x.setG gd 2).onward) ∧
    (s.axLost n = false → (if down then (s.cnt n).toInt ≤ c.toInt else c.toInt ≤ (s.cnt n).toInt) →
      Leaves (.pwaitPosition t gd ga down ax scan false tmo) s t (x.setG gd 0).onward) ∧
    (s.axLost n = false → ¬(if down then (s.cnt n).toInt ≤ c.toInt else c.toInt ≤ (s.cnt n).toInt) →
      exec (.pwaitPosition t gd ga down ax scan false tmo) s = .next ((s.nextPc t).block t
        (.pos n down c gd (if tmo = 0 then none else some (s.time + 4000 * tmo.toNat))) .wpos)) ∧
    (s.slotMine t k = false → Leaves (.pwaitSlot t gd ga ax scan false tmo) s t (x.setG gd 3).onward) ∧
    (s.slotMine t k = true → (s.pend (thClu t)).getLsbD k = true → ∃ u, exec (.pwaitSlot t gd ga ax scan false tmo) s = .next u ∧
      u.thread t = (x.setG gd 0).onward ∧ (∀ j, j ≠ t → u.thread j = s.thread j) ∧
      (∀ i, i < 64 → (u.pend (thClu t)).getLsbD i = (decide (i ≠ k) && (s.pend (thClu t)).getLsbD i)) ∧
      (∀ i, i ≠ thClu t → u.pend i = s.pend i) ∧
      u = { s with threads := u.threads, pevt := u.pevt, retired := u.retired, health := u.health }) ∧
    (s.slotMine t k = true → (s.pend (thClu t)).getLsbD k = false → exec (.pwaitSlot t gd ga ax scan false tmo) s =
      .next ((s.nextPc t).block t (.slot k gd (if tmo = 0 then none else some (s.time + 4000 * tmo.toNat))) .wpos)) ∧
    Traps (.pwaitPosition t gd ga down ax scan true tmo) s t .illegal (wordPw down.toNat gd ga ax scan true tmo) ∧
    Traps (.pwaitSlot t gd ga ax scan true tmo) s t .illegal (wordPw 2 gd ga ax scan true tmo)) ∧
  (∀ (s : State) (t e : Nat) (gd : Reg), okTid t = true → e ≤ s.time →
    ((∃ n down c, (s.thread t).wait = .pos n down c gd (some e)) ∨ (∃ k, (s.thread t).wait = .slot k gd (some e))) →
    exec (.pwaitTimeout t) s = .next ((s.setThread t ((s.thread t).setG gd 1)).resume t)) ∧
  (∀ (s : State) (t c k : Nat) (gd ga : Reg) (z : BitVec 13) (d : Bool), Runs s t → c = thClu t → k = thCtx t →
    ∀ (v : Cnt) (j : Job), v = ((s.thread t).gr ga).setWidth 48 → j = (s.ctx c k).job →
    (thClass t = .job → (∀ (i : Instr) (n : Job),
        (i = .dlsetExplicit t 0 ga 0 d ∧ n = { j with deadline := v, ddir := d, dlmode := 0 } ∨
          i = .dlsetNone t 0 ga 0 d ∧ n = { j with dlmode := 2 } ∨
          i = .dlsetDefault t 0 ga 0 false ∧ ((∃ dl r, s.defaultDeadline j.part j.tier v = some (dl, r) ∧
              n = { j with acq := v, deadline := dl, ddir := r, dlmode := 0 }) ∨
            (s.defaultDeadline j.part j.tier v = none ∧ n = { j with acq := v, dlmode := 2 }))) →
        (s.passed n = false → exec i s = .next ((s.setJob t n).nextPc t)) ∧
        (s.passed n = true → exec i s = .next (((s.setJob t n).nextPc t).evalCtx c k)))) ∧
    (thClass t ≠ .job →
      Traps (.dlsetExplicit t 0 ga 0 d) s t .ctxReq (wordSY 0x2E 0 ga d.toNat) ∧
      Traps (.dlsetDefault t 0 ga 0 false) s t .ctxReq (wordSY 0x2E 0 ga 2) ∧
      Traps (.dlsetNone t 0 ga 0 d) s t .ctxReq (wordSY 0x2E 0 ga (4 + d.toNat))) ∧
    ((gd ≠ 0 ∨ z ≠ 0) →
      Traps (.dlsetExplicit t gd ga z d) s t .illegal (wordSY 0x2E gd ga (z.toNat * 8 + d.toNat)) ∧
      Traps (.dlsetDefault t gd ga z d) s t .illegal (wordSY 0x2E gd ga (z.toNat * 8 + 2 + d.toNat)) ∧
      Traps (.dlsetNone t gd ga z d) s t .illegal (wordSY 0x2E gd ga (z.toNat * 8 + 4 + d.toNat))))

/-- A word with a reserved major opcode is ILLEGAL with the word as the value, and so is a reserved func value of the integer, the
multiply and the compare group, and an undefined tile operation in the supervisor thread; elsewhere that raises TIOP.
A fatal exception of the base thread halts it and sets CLU_BASECTL.HALT, delivers an event to the pair and leaves a record; one
of the supervisor thread stops the pair for its restart with the exception code as the cause; one of a job ends the job.
A lockstep mismatch stops the running pair, counts in SY_LOCKSTAT[31:16] and leaves cause 0xFF in [7:0]; the stopped pair
restarts at SY_RESTART, or in the boot ROM where that is zero or restarts came too often (R697), its registers cleared but g1,
SY_RESTART kept. -/
def Obligations.FatalExceptions : Prop :=
  (∀ (s : State) (t op : Nat) (w : W32), Runs s t → op = w.toNat / 2 ^ 26 →
    (op ∈ [0x04, 0x05, 0x06, 0x07, 0x1C, 0x1D, 0x1E, 0x1F, 0x23, 0x24, 0x25, 0x26, 0x27, 0x38, 0x39, 0x3A, 0x3B, 0x3C, 0x3D, 0x3E, 0x3F]
      → Traps (.reservedOpcode t w) s t .illegal (w.setWidth 64)) ∧
    ((op = 0 ∧ 0x12 ≤ w.toNat % 2 ^ 11) ∨ (op = 1 ∧ 7 ≤ w.toNat % 2 ^ 11) ∨ (op = 2 ∧ 6 ≤ w.toNat % 2 ^ 11)
      → Traps (.reservedOpcode t w) s t .illegal (w.setWidth 64)) ∧
    (op = 0x30 ∧ 1 ≤ w.toNat / 2 ^ 20 % 64 ∨ op = 0x32 ∧ 17 ≤ w.toNat / 2 ^ 20 % 64 ∨ op = 0x37 ∧ 4 ≤ w.toNat / 2 ^ 20 % 64 →
      (t = supTid → Traps (.reservedOpcode t w) s t .illegal (w.setWidth 64)) ∧
      (t ≠ supTid → Traps (.reservedOpcode t w) s t .tiop (BitVec.ofNat 64 (w.toNat * 256 + 5))))) ∧
  (∀ (s : State) (t : Nat) (gd ga : Reg) (n : BitVec 12), Runs s t → (s.thread t).ehand = 0 →
    (thClass t = .sup → ∃ u, exec (.brk t gd ga n) s = .next u ∧ u.sup.st = .stopped ∧ u.sup.lockstat.toNat % 256 = 0x0A ∧
      u.sup.g1 = 0x0A) ∧
    (thClass t = .base → exec (.brk t gd ga n) s = .next
      ((((s.haltBase (thClu t)).wb (Addr.cluBasectl (thClu t)) 2 true).record
        (report 8 .thread (thClu t) (((s.haltBase (thClu t)).wb (Addr.cluBasectl (thClu t)) 2 true).cluPart (thClu t)))).supEvent)) ∧
    (thClass t = .job → exec (.brk t gd ga n) s = .next (s.endCtx (thClu t) (thCtx t) 6 0))) ∧
  (∀ (s : State), s.clk 0 = true →
    (s.sup.st = .run ∨ s.sup.st = .rom → ∃ u, exec .lockstepMismatch s = .next u ∧ u.sup.st = .stopped ∧
      u.sup.lockstat.toNat % 256 = 0xFF ∧ u.sup.lockstat.toNat / 2 ^ 16 % 2 ^ 16 = Min.min (s.sup.lockstat.toNat / 2 ^ 16 % 2 ^ 16 + 1) 65535) ∧
    (s.sup.st = .stopped → ∃ u, exec .supervisorRestart s = .next u ∧ u.sup.restart = s.sup.restart ∧
      u.sup.st = (if s.sup.restart = 0 ∨ Max.max 2 (s.rf Addr.hltScthr 3 0) ≤ s.recentRestarts.length + 1 then .rom else .run) ∧
      (u.sup.st = .run → (u.thread supTid).pc = s.sup.restart &&& 0x0000FFFFFFFFFFFC) ∧
      (u.thread supTid).gr 1 = BitVec.ofNat 64 s.sup.g1 ∧ (∀ r : Reg, r ≠ 1 → (u.thread supTid).gr r = 0) ∧
      (∀ k, k ≠ supTid → u.thread k = s.thread k) ∧
      u = { s with regs := u.regs, threads := u.threads, sup := u.sup } ∧ (∀ off, off ≠ Addr.hltScstat → u.rd off = s.rd off)))

/-- A load writes gt with the little-endian value at its effective address, zero-extended, or sign-extended by LDW; DLD loads 32
bytes into a descriptor register. -/
def Obligations.Loads : Prop :=
  ∀ (s : State) (t d : Nat) (gt gb : Reg) (imm : W16), Runs s t → ∀ (x : Thread) (a : W64), x = s.thread t →
    a = x.gr gb + imm.signExtend 64 → a.toNat < 2 ^ 48 → GoodLine s (s.thPart t) d →
    (s.route t .read a.toNat 1 = some (.mem d) →
      Leaves (.ldbu t gt gb imm 0) s t (x.setG gt (BitVec.ofNat 64 (s.byte d).toNat)).onward) ∧
    (a.toNat % 2 = 0 → d % 2 = 0 → s.route t .read a.toNat 2 = some (.mem d) →
      Leaves (.ldhu t gt gb imm 0) s t (x.setG gt (BitVec.ofNat 64 (natOf (s.bytes d 2)))).onward) ∧
    (a.toNat % 4 = 0 → d % 4 = 0 → s.route t .read a.toNat 4 = some (.mem d) →
      Leaves (.ldwu t gt gb imm 0) s t (x.setG gt (BitVec.ofNat 64 (natOf (s.bytes d 4)))).onward ∧
      Leaves (.ldw t gt gb imm 0) s t (x.setG gt ((BitVec.ofNat 32 (natOf (s.bytes d 4))).signExtend 64)).onward) ∧
    (a.toNat % 8 = 0 → d % 8 = 0 → s.route t .read a.toNat 8 = some (.mem d) →
      Leaves (.ldd t gt gb imm 0) s t (x.setG gt (BitVec.ofNat 64 (natOf (s.bytes d 8)))).onward) ∧
    (a.toNat % 32 = 0 → d % 32 = 0 → gt.toNat < 16 → s.route t .read a.toNat 32 = some (.mem d) →
      Leaves (.dld t gt gb imm 0) s t (x.setD (gt.setWidth 4) (BitVec.ofNat 256 (natOf (s.bytes d 32)))).onward) ∧
    (16 ≤ gt.toNat → Traps (.dld t gt gb imm 0) s t .illegal (wordSY 0x19 gt gb imm.toNat))

/-- A store writes the low bytes of gt at its effective address, DST a descriptor register, lowest byte first, and changes no other
byte of memory; a store to the host window reaches host memory while the link is up and is lost while it is down; STD to the register
region writes the register at that offset, and waits with its thread while the clock of the register's domain is stopped.
An atomic writes gd with the old value and memory with the new one: gb, the sum, the AND or the OR; AMOCAS stores gb only where
the old value equals gd's prior value. -/
def Obligations.StoresAndAtomics : Prop :=
  (∀ (s : State) (t d flt : Nat) (gt gb : Reg) (imm : W16), Runs s t → flt ≠ 5 → flt ≠ 6 → flt ≠ 7 → ∀ (x : Thread) (a v : W64),
    x = s.thread t → v = x.gr gt → a = x.gr gb + imm.signExtend 64 → a.toNat < 2 ^ 48 →
    (GoodLine s (s.thPart t) d →
      (s.route t .write a.toNat 1 = some (.mem d) →
        Stores (.stb t gt gb imm flt) s t (s.thPart t) d 1 (fun i => v.extractLsb' (8 * i) 8) x.onward) ∧
      (a.toNat % 2 = 0 → d % 2 = 0 → s.route t .write a.toNat 2 = some (.mem d) →
        Stores (.sth t gt gb imm flt) s t (s.thPart t) d 2 (fun i => v.extractLsb' (8 * i) 8) x.onward) ∧
      (a.toNat % 4 = 0 → d % 4 = 0 → s.route t .write a.toNat 4 = some (.mem d) →
        Stores (.stw t gt gb imm flt) s t (s.thPart t) d 4 (fun i => v.extractLsb' (8 * i) 8) x.onward) ∧
      (a.toNat % 8 = 0 → d % 8 = 0 → s.route t .write a.toNat 8 = some (.mem d) →
        Stores (.std t gt gb imm flt) s t (s.thPart t) d 8 (fun i => v.extractLsb' (8 * i) 8) x.onward) ∧
      (a.toNat % 32 = 0 → d % 32 = 0 → gt.toNat < 16 → s.route t .write a.toNat 32 = some (.mem d) →
        Stores (.dst t gt gb imm flt) s t (s.thPart t) d 32 (fun i => (x.dr (gt.setWidth 4)).extractLsb' (8 * i) 8) x.onward)) ∧
    (a.toNat % 8 = 0 → s.route t .write a.toNat 8 = some (.host d) → s.linkUp = true →
      ∃ u, exec (.std t gt gb imm flt) s = .next u ∧ u.host = (s.hostWrite (s.hostAddr (s.thPart t) d) (bytesOf 8 v.toNat)).host ∧
        u.thread t = x.onward ∧ u = { s with host := u.host, threads := u.threads, retired := u.retired, health := u.health }) ∧
    (a.toNat % 8 = 0 → s.route t .write a.toNat 8 = some (.host d) → s.linkUp = false →
      Leaves (.std t gt gb imm flt) s t x.onward) ∧
    (a.toNat % 8 = 0 → s.route t .write a.toNat 8 = some (.reg d) → (locate d).isSome = true → s.regLive d = false →
      exec (.std t gt gb imm flt) s = .next s) ∧
    (a.toNat % 8 = 0 → s.route t .write a.toNat 8 = some (.reg d) → (locate d = none ∨ s.regLive d = true) →
      exec (.std t gt gb imm flt) s = .next ((s.nextPc t).regWrite (s.thSrc t) d 0xFF v)) ∧
    (16 ≤ gt.toNat → Traps (.dst t gt gb imm flt) s t .illegal (wordSY 0x1A gt gb imm.toNat))) ∧
  (∀ (s : State) (t d : Nat) (gd ga gb : Reg), Runs s t → ∀ (x : Thread) (a b old : W64), x = s.thread t → a = x.gr ga →
    b = x.gr gb → old = BitVec.ofNat 64 (natOf (s.bytes d 8)) → a.toNat < 2 ^ 48 → a.toNat % 8 = 0 → d % 8 = 0 →
    GoodLine s (s.thPart t) d → s.route t .atomic a.toNat 8 = some (.mem d) → ∀ y, y = (x.setG gd old).onward →
    Stores (.amoswp t gd ga gb 0) s t (s.thPart t) d 8 (fun i => b.extractLsb' (8 * i) 8) y ∧
    Stores (.amoadd t gd ga gb 0) s t (s.thPart t) d 8 (fun i => (old + b).extractLsb' (8 * i) 8) y ∧
    Stores (.amoand t gd ga gb 0) s t (s.thPart t) d 8 (fun i => (old &&& b).extractLsb' (8 * i) 8) y ∧
    Stores (.amoor t gd ga gb 0) s t (s.thPart t) d 8 (fun i => (old ||| b).extractLsb' (8 * i) 8) y ∧
    (old = x.gr gd → Stores (.amocas t gd ga gb 0) s t (s.thPart t) d 8 (fun i => b.extractLsb' (8 * i) 8) y) ∧
    (old ≠ x.gr gd → Leaves (.amocas t gd ga gb 0) s t y))

/-- An effective address with a bit of [63:48] set raises ACCESS, a misaligned one ALIGN, one that no permitted segment maps or that
reaches nothing the access may reach ACCESS; atomics reach cluster SRAM and global SRAM only. Before any of them come what the core
meets (operand flt, log entry 8): 5, a register-file parity error of a cluster core, a detection and an exhaustion of it, fatal whatever
SY_EHAND holds; 6, an instruction line that failed its check twice, DATAERR at the instruction's address; and at an access that is made,
7, a mesh packet dropped after its re-sends, DATAERR (its router is a free choice, log entry 136). -/
def Obligations.AccessExceptions : Prop :=
  ∀ (s : State) (t flt : Nat) (gt ga gb : Reg) (imm : W16), Runs s t → ∀ (a b : W64),
    a = (s.thread t).gr gb + imm.signExtend 64 → b = (s.thread t).gr ga →
    (∀ c ∈ [Instr.ldbu t gt gb imm, .ldhu t gt gb imm, .ldwu t gt gb imm, .ldw t gt gb imm, .ldd t gt gb imm, .dld t gt gb imm,
        .stb t gt gb imm, .sth t gt gb imm, .stw t gt gb imm, .std t gt gb imm, .dst t gt gb imm, .amoswp t gt ga gb,
        .amoadd t gt ga gb, .amoand t gt ga gb, .amoor t gt ga gb, .amocas t gt ga gb],
      (thClass t ≠ .sup → exec (c 5) s = .next (((s.detect 8 (thClu t)).exhaust 8 (thClu t)).fatal t 5)) ∧
      (thClass t ≠ .sup → TrapsFrom (c 6) s (((s.detect 8 (thClu t)).detect 8 (thClu t)).exhaust 8 (thClu t)) t .dataErr (s.thread t).pc) ∧
      (thClass t = .sup → Traps (c 6) s t .dataErr (s.thread t).pc)) ∧
    (gt.toNat < 16 → ∀ c ∈ [(Instr.ldbu t gt gb imm 7, Acc.read, a, 1), (.ldhu t gt gb imm 7, .read, a, 2),
        (.ldwu t gt gb imm 7, .read, a, 4), (.ldw t gt gb imm 7, .read, a, 4), (.ldd t gt gb imm 7, .read, a, 8),
        (.dld t gt gb imm 7, .read, a, 32), (.stb t gt gb imm 7, .write, a, 1), (.sth t gt gb imm 7, .write, a, 2),
        (.stw t gt gb imm 7, .write, a, 4), (.std t gt gb imm 7, .write, a, 8), (.dst t gt gb imm 7, .write, a, 32),
        (.amoswp t gt ga gb 7, .atomic, b, 8), (.amoadd t gt ga gb 7, .atomic, b, 8), (.amoand t gt ga gb 7, .atomic, b, 8),
        (.amoor t gt ga gb 7, .atomic, b, 8), (.amocas t gt ga gb 7, .atomic, b, 8)],
      ∀ r, c.2.2.1.toNat < 2 ^ 48 → c.2.2.1.toNat % c.2.2.2 = 0 → s.route t c.2.1 c.2.2.1.toNat c.2.2.2 = some r →
        s.stalled r = false → TrapsFrom c.1 s s.meshDrop t .dataErr c.2.2.1) ∧
    (gt.toNat < 16 → flt ≠ 5 → flt ≠ 6 →
    (∀ c ∈ [(Instr.ldbu t gt gb imm flt, Acc.read, 1), (.ldhu t gt gb imm flt, .read, 2), (.ldwu t gt gb imm flt, .read, 4),
        (.ldw t gt gb imm flt, .read, 4), (.ldd t gt gb imm flt, .read, 8), (.dld t gt gb imm flt, .read, 32),
        (.stb t gt gb imm flt, .write, 1), (.sth t gt gb imm flt, .write, 2), (.stw t gt gb imm flt, .write, 4),
        (.std t gt gb imm flt, .write, 8), (.dst t gt gb imm flt, .write, 32)],
      (2 ^ 48 ≤ a.toNat → Traps c.1 s t .access a) ∧
      (a.toNat < 2 ^ 48 → a.toNat % c.2.2 ≠ 0 → Traps c.1 s t .align a) ∧
      (a.toNat < 2 ^ 48 → a.toNat % c.2.2 = 0 → s.route t c.2.1 a.toNat c.2.2 = none → Traps c.1 s t .access a)) ∧
    (∀ c ∈ [Instr.amoswp t gt ga gb flt, .amoadd t gt ga gb flt, .amoand t gt ga gb flt, .amoor t gt ga gb flt, .amocas t gt ga gb flt],
      (2 ^ 48 ≤ b.toNat → Traps c s t .access b) ∧
      (b.toNat < 2 ^ 48 → b.toNat % 8 ≠ 0 → Traps c s t .align b) ∧
      (b.toNat < 2 ^ 48 → b.toNat % 8 = 0 → (∀ d, s.devAddr (s.thPart t) .atomic b.toNat 8 = some d →
        region d ≠ .global ∧ ∀ k, region d ≠ .cluster k) → Traps c s t .access b)))

/-- A partition address below 0x7F00_0000_0000 translates to TA + (a − PA) through an enabled segment whose range contains it and
that permits the access, and to nothing where there is none; the supervisor's addresses are not translated. -/
def Obligations.SegmentTranslation : Prop :=
  ∀ (s : State) (p a n d : Nat) (k : Acc), a < 0x7F0000000000 →
    (s.devAddr 0 k a n = some a) ∧
    (p ≠ 0 → s.devAddr p k a n = some d → ∃ i g, i < 32 ∧ s.seg p i = some g ∧ g.pa ≤ a ∧ a + n ≤ g.pa + g.size ∧
      d = g.ta + (a - g.pa) ∧ (k = .read → g.rd = true) ∧ (k = .write → g.wr = true) ∧
      (k = .atomic → g.rd = true ∧ g.wr = true)) ∧
    (p ≠ 0 → s.devAddr p k a n = none → ∀ i g, i < 32 → s.seg p i = some g → g.pa ≤ a → a + n ≤ g.pa + g.size →
      ¬(match k with | .read => g.rd = true | .write => g.wr = true | .atomic => g.rd = true ∧ g.wr = true))

/-- A read of an on-chip line whose valid bit is clear returns zero and performs no check, and changes nothing.
A read by a partition of an on-chip line tagged with another partition's number returns zero and counts in MEM_TAGERR,
whatever the line holds; a line tagged 0 or its own is read. -/
def Obligations.UnreadableLines : Prop :=
  (∀ (s : State) (p la o n flt : Nat), onChip la = true → groupOf la ∉ s.groupsOut → (s.line (s.rkey la)).valid = false →
    (s.readLine p la o n flt).data = List.replicate n 0 ∧ (s.readLine p la o n flt).ok = true ∧ (s.readLine p la o n flt).s = s) ∧
  (∀ (s : State) (p la o n : Nat) (m : LineMeta), onChip la = true → groupOf la ∉ s.groupsOut → m = s.line (s.rkey la) →
    m.valid = true → m.bad = false → p ≠ 0 → p ≤ 4 →
    (m.tag ≠ 0 → m.tag ≠ p → ∃ r, r = s.readLine p la o n 0 ∧ r.data = List.replicate n 0 ∧ r.ok = true ∧
      r.s.rf Addr.memTagerr 31 0 = Min.min (s.rf Addr.memTagerr 31 0 + 1) (2 ^ 32 - 1) ∧
      (∃ w, w.rd Addr.errHead = s.rd Addr.errHead ∧ w.recs = s.recs ∧ ∃ q, q.kind = 10 ∧ q.cond = .access ∧ q.unit = groupOf la ∧
        q.part = p ∧ q.addr = la / 64 * 64 ∧ r.s = State.record w q) ∧
      (∀ k, r.s.byte k = s.byte k) ∧ (∀ k, r.s.line k = s.line k)) ∧
    (m.tag = 0 ∨ m.tag = p → (s.readLine p la o n 0).data = s.bytes (s.rkey la + o) n ∧ (s.readLine p la o n 0).ok = true))

/-- A write of fewer than 64 bytes to an on-chip line merges: into the line's bytes where it is valid and not another partition's, into
zeros otherwise; the line then carries the writer's tag and is valid. -/
def Obligations.PartialWriteMerges : Prop :=
  ∀ (s u : State) (tag la o : Nat) (bs : List Byte), onChip la = true → groupOf la ∉ s.groupsOut → la % 64 = 0 → o + bs.length ≤ 64 →
    bs.length < 64 → (s.line la).bad = false → u = s.writeLine tag la o bs →
    u.line la = ⟨true, tag, 0, false, false⟩ ∧ (∀ k, (k < la ∨ la + 64 ≤ k) → u.byte k = s.byte k) ∧
    (∀ i, i < bs.length → u.byte (la + o + i) = bs.getD i 0) ∧
    (∀ i, i < 64 → (i < o ∨ o + bs.length ≤ i) → u.byte (la + i) =
      if (s.line la).valid = true ∧ ((s.line la).tag = 0 ∨ tag = 0 ∨ (s.line la).tag = tag) then s.byte (la + i) else 0)

/-- The block of PASS, VERD, PARM and CKPT: a misaligned address raises ALIGN in PASS and VERD and CKPTARG in CKPT, a block outside the cluster's SRAM (for the supervisor
thread outside global SRAM) ACCESS, a read that fails DATAERR; a nonzero reserved field of sel is ILLEGAL. -/
def Obligations.InstructionBlocks : Prop :=
  ∀ (s : State) (t flt : Nat) (gd ga : Reg) (sel : BitVec 16) (q : BitVec 14) (d : Nat), Runs s t →
    s.ckptFull t = false → ∀ a : W64, a = (s.thread t).gr ga →
    (sel = 0 → q = 0 → ∀ c ∈ [(Instr.pass t gd ga sel flt 0, 64), (.verdOpen t gd ga q flt, 32), (.verdPost t gd ga q flt, 32),
        (.verdSeal t gd ga q flt, 32), (.verdClose t gd ga q flt, 32), (.parm t gd ga sel flt, 32), (.ckpt t gd ga sel flt, 64)],
      ((c.1 = .parm t gd ga sel flt ∨ a.toNat % c.2 = 0) → s.blockAddr t a.toNat c.2 = none → Traps c.1 s t .access a) ∧
      ((c.1 = .parm t gd ga sel flt ∨ a.toNat % c.2 = 0) → s.blockAddr t a.toNat c.2 = some d → (s.readMem (s.thPart t) d c.2 flt).ok = false →
        exec c.1 s = .next ((s.readMem (s.thPart t) d c.2 flt).s.raise t .dataErr a))) ∧
    (sel = 0 → a.toNat % 64 ≠ 0 → Traps (.pass t gd ga sel flt 0) s t .align a ∧ Traps (.ckpt t gd ga sel flt) s t .ckptArg a) ∧
    (q = 0 → a.toNat % 32 ≠ 0 → ∀ i ∈ [Instr.verdOpen t gd ga q flt, .verdPost t gd ga q flt, .verdSeal t gd ga q flt,
      .verdClose t gd ga q flt], Traps i s t .align a) ∧
    (8 ≤ sel.toNat ∨ (t ≠ supTid ∧ sel ≠ 0) → Traps (.pass t gd ga sel flt 0) s t .illegal (wordSY 0x2C gd ga sel.toNat)) ∧
    (8 ≤ q.toNat ∨ (t ≠ supTid ∧ q ≠ 0) → Traps (.verdOpen t gd ga q flt) s t .illegal (wordSY 0x2D gd ga (q.toNat * 4)) ∧
      Traps (.verdPost t gd ga q flt) s t .illegal (wordSY 0x2D gd ga (q.toNat * 4 + 1)) ∧
      Traps (.verdSeal t gd ga q flt) s t .illegal (wordSY 0x2D gd ga (q.toNat * 4 + 2)) ∧
      Traps (.verdClose t gd ga q flt) s t .illegal (wordSY 0x2D gd ga (q.toNat * 4 + 3))) ∧
    (64 ≤ sel.toNat → Traps (.parm t gd ga sel flt) s t .illegal (wordSY 0x2B gd ga sel.toNat)) ∧
    (sel ≠ 0 → Traps (.ckpt t gd ga sel flt) s t .illegal (wordSY 0x2F gd ga sel.toNat))

/-- PASS with its record read: TIER for a T3 job; ARG for a partition that is not ACTIVE, a bad record or an invalid entry; else a job
is created one tier below its passer, with DIE, CLIENT and AGE0 of the passer, FB and NPASS zero, and counted in its die and its
queue, or, outside a job, a T0 job with DIE, CLIENT and AGE0 as written; a job that is late or too old already is found out at once
(State.watchNew). -/
def Obligations.PassCreatesJobs : Prop :=
  ∀ (s u v : State) (t flt mflt d : Nat) (gd ga : Reg) (sel : BitVec 16) (b : List Byte) (m : ModelEntry), Runs s t →
    (sel.toNat < 8 ∧ (t = supTid ∨ sel = 0)) → ((s.thread t).gr ga).toNat % 64 = 0 →
    s.blockAddr t ((s.thread t).gr ga).toNat 64 = some d → s.readMem (s.thPart t) d 64 flt = ⟨u, b, true⟩ →
    (∀ j, u.jobOn t = some j → j.tier = 3 → exec (.pass t gd ga sel flt mflt) s = .next (u.retG t gd 2)) ∧
    (∀ p, u.namedPart t sel.toNat = some p → (∀ j, u.jobOn t = some j → j.tier ≠ 3) →
      (u.partActive p = false ∨ recordOk b = false → exec (.pass t gd ga sel flt mflt) s = .next (u.retG t gd 6)) ∧
      (u.partActive p = true → recordOk b = true → u.readModel p (u.makeJob p b (u.jobOn t)).entry mflt = (v, some m) →
        (m.valid = false → exec (.pass t gd ga sel flt mflt) s = .next (v.retG t gd 6)) ∧
        (m.valid = true → u.jobOn t = none → recNat b 0 4 = 0 →
          (v.queued.filter fun (q : Job) => q.part == p && q.tier == 0).length < v.qDepth p 0 → ∃ j,
          exec (.pass t gd ga sel flt mflt) s = .next (((v.enqueue j none).retG t gd 0).watchNew j) ∧
          (v.enqueue j none).queued = v.queued ++ [j] ∧ j.part = p ∧ j.tier = 0 ∧ j.die = 0 ∧ j.fb = false ∧ j.npass = 0 ∧
          j.client = recNat b 6 1 ∧ j.age0 = recNat b 16 8 ∧ j.prio = recNat b 7 1 ∧ j.data = recNat b 32 6) ∧
        (∀ k e, m.valid = true → u.jobOn t = some k → k.die ≠ 0 → v.openDie k.die = some e →
          k.npass < Max.max 1 (v.rf (Addr.vdlPartCfg p) 15 8) → (v.die e).njob < 65535 →
          (v.queued.filter fun (q : Job) => q.part == p && q.tier == k.tier + 1).length < v.qDepth p (k.tier + 1) → ∃ j,
          exec (.pass t gd ga sel flt mflt) s = .next (((v.enqueue j (some (thClu t, thCtx t))).retG t gd 0).watchNew j) ∧
          j.tier = k.tier + 1 ∧ j.die = k.die ∧ j.client = k.client ∧ j.age0 = k.age0 ∧ j.fb = false ∧ j.npass = 0))) ∧
    (u.namedPart t sel.toNat = none → (∀ j, u.jobOn t = some j → j.tier ≠ 3) →
      exec (.pass t gd ga sel flt mflt) s = .next (u.retG t gd 6))

/-- VERD with its block read, for an ACTIVE partition: OPEN allocates the lowest free entry and returns its handle, or FULL; POST outside
a job or from a detached job is NODIE (the first of a detached job is remembered, and one of OUTCOME DEFER counts as deferred), a second one DONE, one after a device contribution STALE, and the first is contributed; SEAL
seals; CLOSE forces the die; STALE and DIE for a handle that names no open entry of the partition. -/
def Obligations.VerdOperations : Prop :=
  ∀ (s u : State) (t flt d p h : Nat) (gd ga : Reg) (q : BitVec 14) (b : List Byte), Runs s t →
    (q.toNat < 8 ∧ (t = supTid ∨ q = 0)) → ((s.thread t).gr ga).toNat % 32 = 0 →
    s.blockAddr t ((s.thread t).gr ga).toNat 32 = some d → s.readMem (s.thPart t) d 32 flt = ⟨u, b, true⟩ →
    u.namedPart t q.toNat = some p → u.partActive p = true → h = recNat b 0 4 →
    (∀ e, recNat b 4 1 < 8 → recNat b 5 1 ≤ 1 → allZero ((b.drop 6).take 2) = true → allZero (b.drop 14) = true →
      ownerOf (u.rf (Addr.vdlRingCfg (recNat b 4 1)) 3 1) = p → u.rb (Addr.vdlRingCfg (recNat b 4 1)) 0 = true →
      u.rb (Addr.vdlPartCfg p) 0 = true → u.inUse p < u.quota p →
      (List.range 4096).find? (fun i => (u.die i).st == .free) = some e →
      ∃ g : Nat, ∃ w, exec (.verdOpen t gd ga q flt) s = .next (State.retG w t gd (BitVec.ofNat 64 (e + g * 4096))) ∧
        g = (if (u.die e).gen + 1 > 0xFFFFF then 1 else (u.die e).gen + 1) ∧ (w.die e).st = .opened ∧ (w.die e).gen = g ∧
        (w.die e).part = p ∧ (w.die e).dieid = recNat b 0 4 ∧ (w.die e).openJobs = 0 ∧ (w.die e).sealed = false ∧
        (∀ k, k ≠ e → w.die k = u.die k)) ∧
    (recNat b 4 1 < 8 → recNat b 5 1 ≤ 1 → allZero ((b.drop 6).take 2) = true → allZero (b.drop 14) = true →
      ownerOf (u.rf (Addr.vdlRingCfg (recNat b 4 1)) 3 1) = p → u.rb (Addr.vdlRingCfg (recNat b 4 1)) 0 = true →
      (u.quota p ≤ u.inUse p ∨ ∀ i, i < 4096 → (u.die i).st ≠ .free) → exec (.verdOpen t gd ga q flt) s = .next (u.retG t gd 9)) ∧
    (u.jobOn t = none → exec (.verdPost t gd ga q flt) s = .next (u.retG t gd 8)) ∧
    (∀ j, u.jobOn t = some j → (j.die = 0 → ∃ w, exec (.verdPost t gd ga q flt) s = .next (State.retG w t gd 8) ∧
        (j.posted ≠ 0 ∨ 4 ≤ recNat b 0 1 → w = u) ∧
        (j.posted = 0 → recNat b 0 1 < 3 → w = u.putCtx (thClu t) (thCtx t)
          { u.ctx (thClu t) (thCtx t) with job := { (u.ctx (thClu t) (thCtx t)).job with posted := 1 } }) ∧
        (j.posted = 0 → recNat b 0 1 = 3 → w = (u.accDeferred (u.ctx (thClu t) (thCtx t)).job.part
            (u.ctx (thClu t) (thCtx t)).job.client).putCtx (thClu t) (thCtx t)
          { u.ctx (thClu t) (thCtx t) with job := { (u.ctx (thClu t) (thCtx t)).job with posted := 1 } })) ∧
      (j.die ≠ 0 → recNat b 0 1 = 2 → recNat b 1 1 ≠ 0 → allZero ((b.drop 2).take 14) = true →
        (j.posted = 1 → exec (.verdPost t gd ga q flt) s = .next (u.retG t gd 7)) ∧
        (j.posted = 2 → exec (.verdPost t gd ga q flt) s = .next ((u.staleCount p).retG t gd 3)) ∧
        (j.posted = 0 → (u.openDie j.die).isSome = true → ∃ k w, postContrib j 2 (recNat b 1 1) ((b.drop 16).take 16) = some k ∧
          w = u.contribute j.die k ∧ exec (.verdPost t gd ga q flt) s = .next ((w.putCtx (thClu t) (thCtx t)
            { w.ctx (thClu t) (thCtx t) with job := { j with posted := 1 } }).retG t gd 0)))) ∧
    (allZero (b.drop 4) = true →
      (u.handleStatus p h false = 0 →
        exec (.verdSeal t gd ga q flt) s =
          .next (((u.setDie (h % 4096) { u.die (h % 4096) with sealed := true }).retG t gd 0).maybePost (h % 4096)) ∧
        ∃ w, exec (.verdClose t gd ga q flt) s = .next (((u.setDie (h % 4096) w).retG t gd 0).forceDie (h % 4096) 5) ∧
          w.closed = true ∧ w.acq = some ((u.die (h % 4096)).acq.getD u.time)) ∧
      (u.handleStatus p h false = 3 → exec (.verdSeal t gd ga q flt) s = .next ((u.staleCount p).retG t gd 3) ∧
        exec (.verdClose t gd ga q flt) s = .next ((u.staleCount p).retG t gd 3)) ∧
      (u.handleStatus p h false = 4 → exec (.verdSeal t gd ga q flt) s = .next (u.retG t gd 4) ∧
        exec (.verdClose t gd ga q flt) s = .next (u.retG t gd 4)))

/-- PARM returns NOTOWNER and writes nothing where the thread may not write the slot; else it writes TGT, STEP and CTL from its block,
OWNER kept, and returns OK, ARMERR or LATE.
CKPT with its block read: NREG outside 1 to 16, a misaligned address or a nonzero reserved byte raises CKPTARG and starts nothing;
else a transfer of class 8 starts, its ticket in gd and, for a job or base thread, in SY_LASTTKT. -/
def Obligations.ParametersAndCheckpoints : Prop :=
  (∀ (s u : State) (t flt d k : Nat) (gd ga : Reg) (sel : BitVec 16) (b : List Byte) (v : W64), Runs s t → k = sel.toNat → k < 64 →
    s.blockAddr t ((s.thread t).gr ga).toNat 32 = some d →
    s.readMem (s.thPart t) d 32 flt = ⟨u, b, true⟩ →
    v = setFld (BitVec.ofNat 64 (recNat b 16 8)) 58 56 (u.rf (Addr.ptbSlotCtl k) 58 56) →
    (mayOwn (u.thSrc t) (ownerOf (u.rf (Addr.ptbSlotCtl k) 58 56)) = false →
      exec (.parm t gd ga sel flt) s = .next (u.retG t gd 1)) ∧
    (mayOwn (u.thSrc t) (ownerOf (u.rf (Addr.ptbSlotCtl k) 58 56)) = true → ∀ w,
      w = (u.wr (Addr.ptbSlotTgt k) (BitVec.ofNat 64 (recNat b 0 8))).wr (Addr.ptbSlotStep k) (BitVec.ofNat 64 (recNat b 8 8)) →
      (v.getLsbD 0 = false → exec (.parm t gd ga sel flt) s = .next ((w.retG t gd 0).slotCtl (u.thSrc t) k v 0xFF)) ∧
      (v.getLsbD 0 = true → fld v 3 2 = 0 → exec (.parm t gd ga sel flt) s = .next ((w.retG t gd 2).slotCtl (u.thSrc t) k v 0xFF)) ∧
      (v.getLsbD 0 = true → fld v 3 2 ≠ 0 → w.slotLate k v = true →
        exec (.parm t gd ga sel flt) s = .next ((w.retG t gd 3).slotCtl (u.thSrc t) k v 0xFF)) ∧
      (v.getLsbD 0 = true → fld v 3 2 ≠ 0 → w.slotLate k v = false →
        exec (.parm t gd ga sel flt) s = .next ((w.retG t gd 0).slotCtl (u.thSrc t) k v 0xFF)))) ∧
  (∀ (s u : State) (t flt d : Nat) (gd ga : Reg) (b : List Byte) (a : W64), Runs s t → a = (s.thread t).gr ga →
    s.ckptFull t = false → a.toNat % 64 = 0 → s.blockAddr t a.toNat 64 = some d → s.readMem (s.thPart t) d 64 flt = ⟨u, b, true⟩ →
    (ckptOk b = false → exec (.ckpt t gd ga 0 flt) s = .next ((u.raise t .ckptArg a).startOps)) ∧
    (ckptOk b = true → ∀ w tab, u.ckptTable t (recNat b 24 8) (16 * recNat b 20 2) = (w, .ok tab) →
      (tableOk (recNat b 20 2) tab = false → exec (.ckpt t gd ga 0 flt) s = .next ((w.raise t .ckptArg a).startOps)) ∧
      (tableOk (recNat b 20 2) tab = true → t ≠ supTid → ∀ n, n = nextSerial (w.thread t).serial → ∃ o v,
        exec (.ckpt t gd ga 0 flt) s = .next (State.startOps v) ∧ v.ops = w.ops ++ [o] ∧ o.cls = 8 ∧ o.th = t ∧ o.serial = n ∧
        (v.thread t).lastTkt = BitVec.ofNat 64 (n + t * 2 ^ 32) ∧ (v.thread t).serial = n ∧ (v.thread t).tkt n = some ⟨n, 1, 0⟩ ∧
        (gd ≠ 0 → (v.thread t).gr gd = BitVec.ofNat 64 (n + t * 2 ^ 32)) ∧ (∀ k, k ≠ t → v.thread k = w.thread k))))

/-- An open die becomes ACQUIRED when the scan axis meets END, with TEND the time, and is posted where it is sealed and has no open
job; a die still unposted 15,900 us after TEND is forced. -/
def Obligations.DieEvents : Prop :=
  ∀ (s : State) (e tend : Nat) (d : Die), e < 4096 → d = s.die e → d.st = .opened →
    (s.ptbOn = true → d.acq = none → condHolds d.dir d.endc (s.cnt (s.scanAxis d.part)) = true →
      ∀ a, a = { d with acq := some s.time, lostPos := s.axLost (s.scanAxis d.part) } →
      ((d.sealed = true ∧ d.openJobs = 0) → exec (.dieAcquired e) s = .next ((s.setDie e a).postDie e)) ∧
      (¬(d.sealed = true ∧ d.openJobs = 0) → exec (.dieAcquired e) s = .next (s.setDie e a))) ∧
    (d.acq = some tend → tend + 6360000 ≤ s.time → exec (.dieForce e) s =
      .next (((s.setDie e { d with forced := true }).sat (Addr.vdlPartStat d.part) 15 0 1).forceDie e 4))

/-- The record of the oldest posted die of a ring that has space is written to its slot with its PHASE and the producer index after
it, and the die's entry is free again; an index from outside the range stops the ring and sets CIDXERR.
A full ring reads the host's consumer index: a value from the previous one up to the producer index is taken and a stopped ring
goes on; another value stops the ring and sets CIDXERR, again where the ring was stopped already. The interrupts that waited for their spacing are raised
at the interval's end, one for each function that has one waiting. -/
def Obligations.VerdictRings : Prop :=
  (∀ (s : State) (r e c m log pidx : Nat) (q : List Nat), r < 8 → (s.vring r).q = e :: q → s.poster r (s.die e).part = some (c, m) → m < 4 →
    (s.die e).part ≤ 4 →
    s.rb (Addr.vdlRingCfg r) 0 = true → (s.vring r).stopped = false → s.linkUp = true → s.meshOn = true →
    log = Max.max 6 (Min.min 16 (s.rf (Addr.vdlRingCfg r) 12 8)) → pidx = s.rf (Addr.vdlRingPidx r) 31 0 →
    (pidx + 2 ^ 32 - (s.vring r).cons) % 2 ^ 32 ≠ 2 ^ log →
    ∃ u, exec (.verdictRecordWrite r) s = .next u ∧ (u.die e).st = .free ∧ (u.die e).gen = (s.die e).gen ∧ (u.vring r).q = q ∧ (u.vring r).rid = (s.die e).part ∧
      u.rf (Addr.vdlRingPidx r) 31 0 = (pidx + 1) % 2 ^ 32 ∧ (∀ k, k ≠ e → u.die k = s.die k) ∧ (∀ k, u.byte k = s.byte k) ∧
      ∃ late, u.host = ((s.hostWrite (s.rf (Addr.vdlRingBase r) 63 12 * 4096 + 64 * (pidx % 2 ^ log))
        (dieRecord (s.die e) pidx (pidx / 2 ^ log % 2) late)).hostWrite (s.rf (Addr.vdlRingPaddr r) 63 3 * 8) (bytesOf 4 (pidx + 1))).host) ∧
  (∀ (s : State) (r v pidx t : Nat) (x : VRing), r < 8 → x = s.vring r → pidx = s.rf (Addr.vdlRingPidx r) 31 0 →
    v = natOf (s.hostRead (s.rf (Addr.vdlRingCaddr r) 63 3 * 8) 4) → s.linkUp = true → s.meshOn = true →
    ((x.stopped = true ∨ ringFull pidx x.cons (ringLog (s.rf (Addr.vdlRingCfg r) 12 8)) = true) → x.readAt = none →
      ((v + 2 ^ 32 - x.cons) % 2 ^ 32 ≤ (pidx + 2 ^ 32 - x.cons) % 2 ^ 32 → ∃ u, exec (.consumerIndexRead r) s = .next u ∧
        u.vring r = { x with cons := v, readAt := some s.time, stopped := false }) ∧
      ((pidx + 2 ^ 32 - x.cons) % 2 ^ 32 < (v + 2 ^ 32 - x.cons) % 2 ^ 32 → ∃ u, exec (.consumerIndexRead r) s = .next u ∧
        u.vring r = { x with readAt := some s.time, stopped := true } ∧ u.rb (Addr.vdlRingStat r) 2 = true)) ∧
    (x.intPend ≠ [] → x.intAt = some t → t + 400 * s.rf (Addr.vdlRingCfg r) 39 32 ≤ s.time →
      exec (.interruptModerationExpiry r) s = .next (x.intPend.foldl (fun w f => State.raiseMsi w f (s.rf (Addr.vdlRingCfg r) 31 27))
        (s.setVring r { x with intAt := some s.time, intPend := [] }))))

/-- One accepted transition of A or B of an enabled local axis moves the counter by one, up where A leads B and INV is 0; then the slots
are evaluated on that movement. Both at once is illegal: the counter stays, CERR is set and ERRCNT counts, saturating. A level that comes
less than F + 1 samples after the signal's last accepted one is none (R37; the filter as the commands see it: log entry 140).
A Z edge latches the counter, and with ZMODE homing loads it; a write of PTB_AXn_CNT by the supervisor program loads it. A load is
no movement: no slot is touched, LOST is cleared and the velocity restarts (a follower's stays, log entry 140). Between two accepted rising
edges of Z lie two filter times. -/
def Obligations.EncoderCounters : Prop :=
  (∀ (s : State) (n : Nat) (a b : Bool) (x : AxisX), n < 4 → s.ptbOn = true → x = s.axis n → s.rb (Addr.ptbAxCfg n) 0 = true →
    s.rb (Addr.ptbAxCfg n) 1 = false → s.rb Addr.ptbWake n = false → ∀ late : Option Nat → Prop,
    late = (fun l => ∃ t, l = some t ∧ s.time < t + (s.rf (Addr.ptbAxCfg n) 6 2 + 1)) →
    ((x.a = a ∧ x.b = b) → exec (.encoderTransition n a b) s = .next s) ∧
    ((x.a ≠ a ∧ late x.aAt ∨ x.b ≠ b ∧ late x.bAt) → exec (.encoderTransition n a b) s = .next s) ∧
    ((x.a ≠ a ∧ x.b = b ∧ ¬late x.aAt ∨ x.a = a ∧ x.b ≠ b ∧ ¬late x.bAt) → (∀ z, x.z = some z → z.1 ≠ s.time) →
      ∀ (up : Bool) (old new : Cnt), up = ((if x.a ≠ a then decide (a ≠ b) else decide (a = b)) != s.rb (Addr.ptbAxCfg n) 7) →
      old = s.cnt n → new = (if up then old + 1 else old - 1) → ∃ w : State,
      exec (.encoderTransition n a b) s = .next (((w.wf (Addr.ptbAxCnt n) 47 0 new.toNat).evalSlots n old new).afterCount n) ∧
      (w.axis n).a = a ∧ (w.axis n).b = b ∧ (w.axis n).last = s.time ∧ w.rb (Addr.ptbAxStat n) 0 = !up ∧
      w.rb (Addr.ptbAxStat n) 1 = false ∧
      (w.rb (Addr.ptbAxStat n) 4 = (s.rb (Addr.ptbAxStat n) 4 || decide (old.toInt = (if up then 2 ^ 47 - 1 else -2 ^ 47)))) ∧
      w = { s with axes := w.axes, regs := w.regs } ∧ (∀ off, off ≠ Addr.ptbAxStat n → w.rd off = s.rd off)) ∧
    ((x.a ≠ a ∧ x.b = b ∧ ¬late x.aAt ∨ x.a = a ∧ x.b ≠ b ∧ ¬late x.bAt) → ∀ (o : Cnt) (m : Nat) (up : Bool), x.z = some (s.time, o, m) →
      up = ((if x.a ≠ a then decide (a ≠ b) else decide (a = b)) != s.rb (Addr.ptbAxCfg n) 7) → ∃ w : State,
      exec (.encoderTransition n a b) s = .next ((w.count n (!up)).zAct n m) ∧ w.cnt n = o ∧ (w.axis n).a = a ∧ (w.axis n).b = b ∧
      w = { s with axes := w.axes, regs := w.regs } ∧ (∀ off, off ≠ Addr.ptbAxCnt n → w.rd off = s.rd off)) ∧
    ((x.a ≠ a ∧ x.b ≠ b ∧ ¬late x.aAt ∧ ¬late x.bAt) → ∃ u, exec (.encoderTransition n a b) s = .next u ∧ u.cnt n = s.cnt n ∧
      u.rb (Addr.ptbAxStat n) 3 = true ∧
      u.rf (Addr.ptbAxStat n) 31 16 = Min.min (s.rf (Addr.ptbAxStat n) 31 16 + 1) 65535 ∧ (u.axis n).a = a ∧ (u.axis n).b = b ∧
      ((x.lim.at_ = none ∨ ∃ t, x.lim.at_ = some t ∧ t + 400000 ≤ s.time) → (u.axis n).lim = ⟨some s.time, 0⟩) ∧
      (∀ t, x.lim.at_ = some t → s.time < t + 400000 → u.recs = s.recs))) ∧
  (∀ (s : State) (n : Nat) (v : W64), n < 4 → s.ptbOn = true → s.rb (Addr.ptbAxCfg n) 0 = true →
    ((∃ z, (s.axis n).z = some z ∧ s.time < z.1 + 2 * (s.rf (Addr.ptbAxCfg n) 6 2 + 1)) → exec (.zEdge n) s = .next s) ∧
    ((∀ z, (s.axis n).z = some z → z.1 + 2 * (s.rf (Addr.ptbAxCfg n) 6 2 + 1) ≤ s.time) →
    (s.rf (Addr.ptbAxCfg n) 9 8 = 0 → exec (.zEdge n) s = .next (s.setAxis n { s.axis n with z := some (s.time, s.cnt n, 0) })) ∧
    (s.rf (Addr.ptbAxCfg n) 9 8 = 1 → ∃ u, exec (.zEdge n) s = .next u ∧ u = { s with regs := u.regs, axes := u.axes } ∧
      u.rf (Addr.ptbAxZlat n) 47 0 = (s.cnt n).toNat ∧ u.rb (Addr.ptbAxStat n) 5 = true ∧ u.cnt n = s.cnt n) ∧
    (s.rf (Addr.ptbAxCfg n) 9 8 = 2 → ∃ w, exec (.zEdge n) s = .next (State.afterCount w n) ∧ w.cnt n = cntOf (s.rd (Addr.ptbAxZload n)) ∧
      w.rf (Addr.ptbAxZlat n) 47 0 = (s.cnt n).toNat ∧ w.rf (Addr.ptbAxCfg n) 9 8 = 1 ∧ w.rb (Addr.ptbAxStat n) 7 = false ∧
      w = { s with regs := w.regs, axes := w.axes } ∧ (∀ k, k < 64 → w.rd (Addr.ptbSlotStat k) = s.rd (Addr.ptbSlotStat k) ∧
        w.rd (Addr.ptbSlotCtl k) = s.rd (Addr.ptbSlotCtl k) ∧ w.rd (Addr.ptbSlotTgt k) = s.rd (Addr.ptbSlotTgt k)))) ∧
    (s.pmu.on = true → ∃ w, exec (.axisCounterWrite .sup n v) s = .next (State.afterCount w n) ∧ w.cnt n = v.setWidth 48 ∧
      w.rb (Addr.ptbAxStat n) 7 = false ∧ (s.rb (Addr.ptbAxCfg n) 1 = false → w.rd (Addr.ptbAxVel n) = 0) ∧
      (s.rb (Addr.ptbAxCfg n) 1 = true → w.rd (Addr.ptbAxVel n) = s.rd (Addr.ptbAxVel n)) ∧
      w = { s with regs := w.regs, axes := w.axes } ∧
      (∀ k, k < 64 → w.rd (Addr.ptbSlotStat k) = s.rd (Addr.ptbSlotStat k) ∧
        w.rd (Addr.ptbSlotCtl k) = s.rd (Addr.ptbSlotCtl k) ∧ w.rd (Addr.ptbSlotTgt k) = s.rd (Addr.ptbSlotTgt k))))

/-- A fire of a slot counts; a one-shot slot disarms; a periodic one adds the steps to its target, the skipped ones to SKIP, takes them
from REMAIN where that limits it, and at zero disarms and sets DONE; then the outputs of OUTMASK and the events follow.
The number of targets T, T + STEP, ... of a periodic slot that one movement of the counter crosses, once it crosses the first. -/
def Obligations.SlotFires : Prop :=
  (∀ (s : State) (k n r : Nat), k < 64 → 0 < n → r = s.rf (Addr.ptbSlotCtl k) 55 40 →
    ∃ w, s.slotFire k n = State.fireOuts w k ∧ w = { s with regs := w.regs } ∧
      w.rf (Addr.ptbSlotStat k) 15 0 = Min.min (s.rf (Addr.ptbSlotStat k) 15 0 + 1) 65535 ∧
      (s.rb (Addr.ptbSlotCtl k) 4 = false → w.rb (Addr.ptbSlotStat k) 32 = false ∧ w.rb (Addr.ptbSlotCtl k) 0 = false ∧
        w.rd (Addr.ptbSlotTgt k) = s.rd (Addr.ptbSlotTgt k)) ∧
      (s.rb (Addr.ptbSlotCtl k) 4 = true →
        w.rd (Addr.ptbSlotTgt k) = fixReg (fixOf (s.rd (Addr.ptbSlotTgt k)) + n * fixOf (s.rd (Addr.ptbSlotStep k))) ∧
        w.rf (Addr.ptbSlotStat k) 31 16 = Min.min (s.rf (Addr.ptbSlotStat k) 31 16 + (n - 1)) 65535 ∧
        (k ∈ s.noLimit → w.rd (Addr.ptbSlotCtl k) = s.rd (Addr.ptbSlotCtl k) ∧ w.rb (Addr.ptbSlotStat k) 32 = s.rb (Addr.ptbSlotStat k) 32) ∧
        (k ∉ s.noLimit → w.rf (Addr.ptbSlotCtl k) 55 40 = r - n ∧
          (r ≤ n → w.rb (Addr.ptbSlotStat k) 32 = false ∧ w.rb (Addr.ptbSlotStat k) 34 = true) ∧
          (n < r → w.rb (Addr.ptbSlotStat k) 32 = s.rb (Addr.ptbSlotStat k) 32)))) ∧
  (∀ (old new t step : Int) (i : Nat),
    (old < new → 0 < step → old < t / 65536 → t / 65536 ≤ new →
      (i < crossed old new t step ↔ (t + i * step) / 65536 ≤ new)) ∧
    (new < old → step < 0 → t / 65536 < old → new ≤ t / 65536 →
      (i < crossed old new t step ↔ new ≤ (t + i * step) / 65536)) ∧
    crosses 1 old new t = decide (old < t ∧ t ≤ new) ∧ crosses 2 old new t = decide (t < old ∧ new ≤ t) ∧
    crosses 3 old new t = decide ((old < t ∧ t ≤ new) ∨ (t < old ∧ new ≤ t)) ∧ crosses 0 old new t = false)

/-- SLOT_ARM by the owner or the supervisor program arms the slot afresh: FIRED and SKIP cleared, ARMED set; a qualifier of 0 leaves it
disarmed with ARMERR, a late arming sets LATE and with LATEFIRE fires. SLOT_DISARM disarms. Any other program's write is ignored. -/
def Obligations.SlotArming : Prop :=
  ∀ (s : State) (src : Src) (k c : Nat) (v q : W64), k < 64 → s.pmu.on = true → s.ptbOn = true →
    (src = .sup ∨ ∃ p, src = .part p ∧ 1 ≤ p ∧ p ≤ 4) → c = Addr.ptbSlotCtl k →
    (mayOwn src (ownerOf (s.rf c 58 56)) = false →
      exec (.slotArm src k v) s = .next s ∧ exec (.slotDisarm src k v) s = .next s) ∧
    (mayOwn src (ownerOf (s.rf c 58 56)) = true → ∃ w, exec (.slotDisarm src k v) s = .next w ∧ w = { s with regs := w.regs } ∧
      w.rb c 0 = false ∧ w.rb (Addr.ptbSlotStat k) 32 = false) ∧
    (mayOwn src (ownerOf (s.rf c 58 56)) = true → fld v 3 2 = 0 → ∃ w, exec (.slotArm src k v) s = .next w ∧
      w = { s with regs := w.regs } ∧ w.rb (Addr.ptbSlotStat k) 32 = false ∧ w.rb (Addr.ptbSlotStat k) 35 = true) ∧
    (mayOwn src (ownerOf (s.rf c 58 56)) = true → fld v 3 2 ≠ 0 → q = setBit v 0 true → ∃ w, w = { s with regs := w.regs, noLimit := w.noLimit } ∧
      w.rb (Addr.ptbSlotStat k) 32 = true ∧ w.rf (Addr.ptbSlotStat k) 31 0 = 0 ∧ w.rb c 0 = true ∧ w.rf c 9 2 = fld v 9 2 ∧
      w.rf c 55 24 = fld v 55 24 ∧ (k ∈ w.noLimit ↔ fld v 55 40 = 0) ∧
      (s.slotLate k q = false → exec (.slotArm src k v) s = .next w) ∧
      (s.slotLate k q = true → exec (.slotArm src k v) s =
        .next (if fld v 5 5 = 1 then (w.wb (Addr.ptbSlotStat k) 33 true).slotFire k 1 else w.wb (Addr.ptbSlotStat k) 33 true)))

/-- A pending pulse of a TRIG or MARK output starts when its instant has come and ends when its instant has come; its fire records go
to the cameras that stamp from the output.
A fire that reaches an enabled output makes one pulse per sample, 12 ns (TRIG) or 20 ns (MARK) plus DELAY x 2 ns after the edge, WIDTH x
2 ns or, for a MARK with WUNIT, WIDTH us long (a WIDTH of 0 is 1), or is dropped and counted where 16 pulses are pending. -/
def Obligations.OutputPulses : Prop :=
  (∀ (s : State) (o : Nat) (p : Pulse) (q : List Pulse), o < 12 → s.ptbOn = true →
    ∀ (start stop : Instr), start = (if o < 8 then .trigPulseStart o else .markPulseStart (o - 8)) →
    stop = (if o < 8 then .trigPulseEnd o else .markPulseEnd (o - 8)) →
    ((s.out o).q = p :: q → (s.out o).run = none → p.start < 5 * s.time + 5 → ∃ u, exec start s = .next u ∧
      u.out o = { s.out o with q := q, run := some p } ∧ (∀ k, k ≠ o → u.out k = s.out k) ∧
      u = { s with outs := u.outs, cams := u.cams, regs := u.regs } ∧ (s.stamped o = [] → u.cams = s.cams ∧ u.regs = s.regs)) ∧
    ((s.out o).q = p :: q → (s.out o).run = none → 5 * s.time + 5 ≤ p.start → exec start s = .next s) ∧
    ((s.out o).run = some p → p.stop < 5 * s.time + 5 →
      exec stop s = .next (s.setOut o { s.out o with run := none })) ∧
    ((s.out o).run = some p → 5 * s.time + 5 ≤ p.stop → exec stop s = .next s)) ∧
  (∀ (s : State) (o slot : Nat), o < 12 →
    (s.rb (Addr.ptbOutCfg o) 32 = false → s.outFire o slot = s) ∧
    ((s.out o).lastFire = some s.time → s.outFire o slot = s) ∧
    (s.rb (Addr.ptbOutCfg o) 32 = true → (s.out o).lastFire ≠ some s.time → (s.out o).q = [] → (s.out o).run = none →
      ∀ start len, start = 5 * s.time + (if o < 8 then 24 else 40) + 4 * s.rf (Addr.ptbOutCfg o) 15 0 →
      len = Max.max 1 (s.rf (Addr.ptbOutCfg o) 31 16) * (if 8 ≤ o ∧ s.rb (Addr.ptbOutCfg o) 34 = true then 2000 else 4) →
      s.outFire o slot = s.setOut o { s.out o with q := [⟨start, start + len, s.time, slot, s.cnts, s.losts⟩], lastFire := some s.time }) ∧
    (s.rb (Addr.ptbOutCfg o) 32 = true → (s.out o).lastFire ≠ some s.time → 16 ≤ (s.out o).q.length →
      s.outFire o slot = (s.setOut o { s.out o with lastFire := some s.time }).sat (Addr.ptbOutStat o) 15 0 1))

/-- A due step of a follower, at most one in a tick, moves its counter by one in the direction of its velocity or is taken from hold; a
follower that has had no packet for three intervals holds its counter, reads velocity zero and sets LOST; STOPPED is set after STOPT us
without a count; a port's latency, measured once in a second while the link is up, is (round trip − residence) / 2.
VELOCITY_UPDATE, once in every 4,000 ticks, samples the enabled local axes, then the monitors evaluate their jobs: the estimate is zero and not valid for the
first two updates after a restart, then follows the window's count over its time. -/
def Obligations.FollowersAndVelocity : Prop :=
  (∀ (s : State) (n rtt res : Nat) (x : AxisX), n < 4 → s.ptbOn = true → x = s.axis n →
    (s.follows n = true → s.axLost n = false → 26214400 ≤ x.phase → x.stepAt ≠ some s.time → 0 < x.hold →
      exec (.followerStep n) s =
        .next (s.setAxis n { x with phase := x.phase - 26214400, stepAt := some s.time, hold := x.hold - 1 })) ∧
    (s.follows n = true → s.axLost n = false → 26214400 ≤ x.phase → x.stepAt ≠ some s.time → x.hold = 0 →
      exec (.followerStep n) s =
        .next ((s.setAxis n { x with phase := x.phase - 26214400, stepAt := some s.time }).count n (decide (x.pv < 0)))) ∧
    ((x.phase < 26214400 ∨ x.stepAt = some s.time) → exec (.followerStep n) s = .next s) ∧
    (s.follows n = true → s.axLost n = false →
      x.pktAt + 3 * (4000 * Max.max 1 (Min.min 100 (s.rf Addr.ptbBcastCfg 15 8))) ≤ s.time → ∃ w, exec (.followerLost n) s = .next (State.wakePos w n) ∧ w.cnt n = s.cnt n ∧
      w.rb (Addr.ptbAxStat n) 7 = true ∧ w.rd (Addr.ptbAxVel n) = 0 ∧ (w.axis n).applied = 0) ∧
    ((s.axis n).last + 400 * Max.max 1 (s.rf (Addr.ptbAxVcfg n) 31 16) ≤ s.time → ∃ u, exec (.axisStopped n) s = .next u ∧
      u.rb (Addr.ptbAxStat n) 1 = true ∧ u = { s with regs := u.regs } ∧ (∀ off, off ≠ Addr.ptbAxStat n → u.rd off = s.rd off)) ∧
    ((s.rf (Addr.fabPortStat n) 2 0 = 2 ∨ s.rf (Addr.fabPortStat n) 2 0 = 3) → (s.port n).latAt + 400000000 ≤ s.time →
      ∃ u, exec (.linkLatencyMeasure n rtt res) s = .next u ∧ u.rf (Addr.ptbLinkoff n) 23 0 = (rtt - res) / 2 % 2 ^ 24 ∧
      u = { s with regs := u.regs, ports := u.ports } ∧ (∀ off, off ≠ Addr.ptbLinkoff n → u.rd off = s.rd off) ∧
      u.port n = { s.port n with latAt := s.time } ∧ (∀ q, q ≠ n → u.port q = s.port q)) ∧
    (s.time < (s.port n).latAt + 400000000 → exec (.linkLatencyMeasure n rtt res) s = .next s)) ∧
  (∀ (s : State) (n : Nat) (x : AxisX), n < 4 → s.ptbOn = true → x = s.axis n →
    (s.velN < s.time / 4000 → ∀ w : State, w = { s with velN := s.time / 4000 } →
      exec .velocityUpdate s = .next ((((((w.velUpdate 0).velUpdate 1).velUpdate 2).velUpdate 3)).evalAll)) ∧
    (s.time / 4000 ≤ s.velN → exec .velocityUpdate s = .next s) ∧
    (s.rb (Addr.ptbAxCfg n) 0 = false ∨ s.rb (Addr.ptbAxCfg n) 1 = true → s.velUpdate n = s) ∧
    (s.rb (Addr.ptbAxCfg n) 0 = true → s.rb (Addr.ptbAxCfg n) 1 = false → ∀ u, u = s.velUpdate n →
      (u.axis n).k = x.k + 1 ∧ (u.axis n).hist.head? = some (s.cnt n) ∧ u = { s with regs := u.regs, axes := u.axes } ∧
      (∀ off, off ≠ Addr.ptbAxVel n → u.rd off = s.rd off) ∧ (∀ m, m ≠ n → u.axis m = s.axis m) ∧
      (x.k ≤ 1 → u.rd (Addr.ptbAxVel n) = 0) ∧ (2 ≤ x.k → u.velValid n = true) ∧
      (x.k = 2 → s.rf (Addr.ptbAxVcfg n) 2 0 = 0 → ∀ c, x.hist.head? = some c →
        u.vel n = (BitVec.ofInt 32 (Int.tdiv ((s.cnt n - c).toInt * 65536) 10)).toInt)))

/-- At each interval the owner sends one position packet of the selected axes in the four directions under the domain of its partition, and
none where it has no domain; a received packet is opened, forwarded with its hops and latency raised, and applied once. -/
def Obligations.PositionPackets : Prop :=
  ∀ (s : State) (q tA tR : Nat) (b : Block) (at_ : Nat) (rest : List (Block × Nat)), s.ptbOn = true →
    (s.rf Addr.ptbBcastCfg 3 0 ≠ 0 → s.bcastAt + 4000 * Max.max 1 (Min.min 100 (s.rf Addr.ptbBcastCfg 15 8)) ≤ s.time →
      s.domOf (ownerOf (s.rf Addr.ptbBcastCfg 18 16)) = 0 → exec .bcastInterval s = .next { s with bcastAt := s.time }) ∧
    (s.rf Addr.ptbBcastCfg 3 0 ≠ 0 → s.bcastAt + 4000 * Max.max 1 (Min.min 100 (s.rf Addr.ptbBcastCfg 15 8)) ≤ s.time →
      ∀ dom, dom = s.domOf (ownerOf (s.rf Addr.ptbBcastCfg 18 16)) → dom ≠ 0 → ∃ w pay, exec .bcastInterval s =
        .next ((((State.sendPos w dom 1 pay).sendPos dom 2 pay).sendPos dom 3 pay).sendPos dom 4 pay) ∧
        w.bcastSeq = (s.bcastSeq + 1) % 65536 ∧ recNat pay 0 2 = s.fabId ∧ recNat pay 2 2 = s.bcastSeq % 65536 ∧
        recNat pay 4 1 = s.rf Addr.ptbBcastCfg 3 0 ∧ recNat pay 8 4 = 0) ∧
    (q < 4 → (s.port q).rx = (b, at_) :: rest → s.clk (11 + q) = true → b.type = 8 →
      exec (.posPacketReceive q tA tR) s = .next (((s.setPort q { s.port q with rx := rest }).credit q b).posIn q b tA tR))

/-- A camera's configuration is applied or refused with CFGERR; enabling ingest clears the fire counts and starts SEQ afresh; a connection
locks, or loses lock with the line in progress incomplete; an expected packet is delivered; a fire record expires; tables load and store.
Where a stream starts afresh (State.camFresh) the line in progress is dropped and a LOAD or STORE that waited for its end is carried out. -/
def Obligations.CameraLinks : Prop :=
  ∀ (s : State) (src : Src) (k n t : Nat) (v : W64), k < 4 → n < 8 → t < 8 →
    (TakesWrite s src .cxpCamCfg k (Addr.cxpCamCfg k) → ∃ u, exec (.cameraConfigWrite src k v) s = .next u ∧
      ∀ m : State, m = s.camFresh k →
      u = { m with regs := u.regs, cams := u.cams } ∧ m.onlyRegs u [Addr.cxpCamCfg k, Addr.cxpCamStat k] ∧
      u.rd (Addr.cxpCamCfg k) = s.stored (Addr.cxpCamCfg k) v ∧ (∀ j, j ≠ k → u.cam j = m.cam j) ∧
      (u.cam k).applied = (u.rb (Addr.cxpCamCfg k) 0 && u.camFits k) ∧
      u.rb (Addr.cxpCamStat k) 1 = (m.rb (Addr.cxpCamStat k) 1 || (u.rb (Addr.cxpCamCfg k) 0 && !u.camFits k))) ∧
    ((∀ j ∈ [2 * k, 2 * k + 1], (s.cal j).waiting = false ∧ (s.cal j).storing = false) → s.camFresh k = s.setCam k (s.cam k).fresh) ∧
    (TakesWrite s src .ingCamCfg k (Addr.ingCamCfg k) → ∃ u, exec (.ingCameraEnable src k v) s = .next u ∧
      ∃ w : State, w = { s with regs := w.regs } ∧ s.onlyRegs w [Addr.ingCamCfg k, Addr.ingCamFire k] ∧
      w.rb (Addr.ingCamCfg k) 0 = true ∧ w.rd (Addr.ingCamFire k) = 0 ∧ (s.rb (Addr.ingCamCfg k) 0 = true → u = w) ∧
      (s.rb (Addr.ingCamCfg k) 0 = false → ∀ m : State, m = w.camFresh k → u = { m with rings := u.rings } ∧
        ∀ r, u.ring r = if r = 2 * k ∨ r = 2 * k + 1 then { m.ring r with seq := 0 } else m.ring r)) ∧
    (s.ingOn = true → s.rb (Addr.cxpConCfg n) 0 = true → s.rf (Addr.cxpConCfg n) 11 8 ∈ [1, 2, 3, 5, 6, 10, 12] → ∃ u,
      exec (.cxpLockAcquire n) s = .next u ∧ u = { s with regs := u.regs } ∧ s.onlyRegs u [Addr.cxpConStat n] ∧
      ∀ i, i < 64 → u.rb (Addr.cxpConStat n) i = (decide (i = 0) || s.rb (Addr.cxpConStat n) i)) ∧
    (s.ingOn = true → s.rb (Addr.cxpConStat n) 0 = true →
      (∀ j, j < 4 → (s.receiving j = true ∧ (s.camCons j).1 ≤ n ∧ n < (s.camCons j).1 + (s.camCons j).2 ↔ j = k)) →
      ∀ w, w = (s.wb (Addr.cxpConStat n) 0 false).record (report 17 .signal n (s.camOwner k)) →
      ((w.cam k).line = none → exec (.cxpLockLoss n) s = .next (w.camFresh k)) ∧
      (∀ l u, (w.cam k).line = some l → u = (w.setCam k { w.cam k with line := some { l with inc := true } }).lineEnd k →
        exec (.cxpLockLoss n) s = .next (State.camFresh u k))) ∧
    (∀ p : StreamPacket, p.cam = k → p.con = n → p.tag < 256 → s.ingOn = true → s.rb (Addr.cxpConCfg n) 0 = true →
      (s.rb (Addr.cxpConStat n) 0 = false → exec (.cxpStreamPacket p) s = .next s) ∧
      (s.rb (Addr.cxpConStat n) 0 = true → (s.camCons k).1 ≤ n → n < (s.camCons k).1 + (s.camCons k).2 → s.receiving k = true →
        (∀ i, i < (s.camCons k).2 → s.rb (Addr.cxpConStat ((s.camCons k).1 + i)) 0 = true) →
        p.crcOk = true → (s.cam k).held = [] → (s.cam k).expect = some p.tag →
        ∀ w w0 : State, w0 = (if p.ovf = true then s.sat (Addr.cxpConStat n) 63 48 1 else s) →
        w = w0.setCam k { s.cam k with tops := Sparse.set (fun _ => 256) (s.cam k).tops n p.tag, expect := some ((p.tag + 1) % 256) } →
        exec (.cxpStreamPacket p) s = .next ((w.items s.time p).deliver k 255))) ∧
    (∀ f rest, (s.cam k).fires = f :: rest → f.time + 400 * Max.max 1 (s.rf (Addr.ingCamCfg k) 39 32) < s.time →
      exec (.fireRecordExpire k) s = .next ((s.setCam k { s.cam k with fires := rest }).sat (Addr.ingCamFire k) 15 0 1)) ∧
    (TakesWrite s src .ingCalCtl t (Addr.ingCalCtl t) → ∀ w, w = s.wb (Addr.ingCalCtl t) 2 (v.getLsbD 2) →
      (v.getLsbD 1 = false → s.inLine t = false → exec (.calLoad src t v) s = .next (w.calLoadNow t)) ∧
      (v.getLsbD 1 = false → s.inLine t = true →
        exec (.calLoad src t v) s = .next (State.setCal w t { w.cal t with waiting := true })) ∧
      (v.getLsbD 0 = false → s.inLine t = false → exec (.calStore src t v) s = .next (w.calStoreNow t)) ∧
      (v.getLsbD 0 = false → s.inLine t = true →
        exec (.calStore src t v) s = .next (State.setCal w t { w.cal t with storing := true })))

/-- Trigger packets start at the first character boundary that is 20 ns after their edge and not before the packet ahead has ended (characters
of 240 ns, 480 ns with HSUP 0); control and event packets go to their buffers or are dropped with their bit set;
a heartbeat, every HB ms, carries PTB_TIME in ns; JES_CFG is applied or refused, SYSREF aligns LEMC, the lanes lock, and blocks go to ring 8. -/
def Obligations.UplinksAndAdc : Prop :=
  ∀ (s : State) (src : Src) (k : Nat) (v : W64), k < 4 →
    (∀ b fin lo ch, ch = (if s.rb (Addr.cxpConCfg (s.camCons k).1) 1 = true then 480 else 960) →
      s.ingOn = true → (s.cam k).up.busy = true → (s.cam k).up.risen = false → b + ch ≤ fin → b < 5 * s.time + 5 →
      lo = Max.max ((s.cam k).up.edge + 40) (s.cam k).up.fin →
      (lo ≤ b → b < lo + ch → exec (.uplinkTriggerRising k b fin) s = .next (s.setCam k { s.cam k with
        up := { (s.cam k).up with risen := true, fin := fin }, trig := some (true, b - (s.cam k).up.edge - 40) })) ∧
      ((b < lo ∨ lo + ch ≤ b) → exec (.uplinkTriggerRising k b fin) s = .next s)) ∧
    (∀ b fin e lo ch, ch = (if s.rb (Addr.cxpConCfg (s.camCons k).1) 1 = true then 480 else 960) →
      s.ingOn = true → (s.cam k).up.busy = true → (s.cam k).up.risen = true → b + ch ≤ fin → b < 5 * s.time + 5 →
      e = (s.cam k).up.edge + 4 * Max.max 1 (s.rf (Addr.cxpCamTrig k) 15 0) → lo = Max.max (e + 40) (s.cam k).up.fin →
      (lo ≤ b → b < lo + ch → exec (.uplinkTriggerFalling k b fin) s = .next (s.setCam k { s.cam k with
        up := { (s.cam k).up with busy := false, risen := false, fin := fin }, trig := some (false, b - e - 40) })) ∧
      ((b < lo ∨ lo + ch ≤ b) → exec (.uplinkTriggerFalling k b fin) s = .next s)) ∧
    (TakesWrite s src .cxpCamCtl k (Addr.cxpCamCtl k) → ∃ u, exec (.controlSend src k v) s = .next u ∧
      u = { s with regs := u.regs, cams := u.cams } ∧ s.onlyRegs u [Addr.cxpCamCtl k] ∧ (∀ j, j ≠ k → u.cam j = s.cam j) ∧
      u.cam k = { s.cam k with sent := (u.cam k).sent } ∧ (u.cam k).sent.length = Min.min 4096 (fld v 28 16) ∧
      ∀ i, i < (u.cam k).sent.length → (u.cam k).sent.getD i 0 = (s.rd (Addr.cxpCtx k (i / 8))).extractLsb' (8 * (i % 8)) 8) ∧
    (∀ pay bs head tail, s.ingOn = true → bs = fit (roundUp (4 + pay.length) 4) (bytesOf 4 pay.length ++ pay) →
      head = s.rf (Addr.cxpCamRxptr k) 11 0 → tail = s.rf (Addr.cxpCamRxptr k) 27 16 →
      ((head + 4096 - tail) % 4096 + bs.length < 4096 → exec (.controlReceive k pay) s =
        .next ((s.bufWrite (Addr.cxpCrx k) head bs).wf (Addr.cxpCamRxptr k) 11 0 ((head + bs.length) % 4096))) ∧
      (4096 ≤ (head + 4096 - tail) % 4096 + bs.length → exec (.controlReceive k pay) s = .next (s.wb (Addr.cxpCamStat k) 3 true))) ∧
    (∀ pay bs head tail, s.ingOn = true → bs = fit (roundUp (12 + pay.length) 4) (bytesOf 4 pay.length ++ bytesOf 8 s.time ++ pay) →
      head = s.rf (Addr.cxpCamEvptr k) 11 0 → tail = s.rf (Addr.cxpCamEvptr k) 27 16 →
      ((head + 4096 - tail) % 4096 + bs.length < 4096 → exec (.eventPacketReceive k pay) s =
        .next ((s.bufWrite (Addr.cxpCev k) head bs).wf (Addr.cxpCamEvptr k) 11 0 ((head + bs.length) % 4096))) ∧
      (4096 ≤ (head + 4096 - tail) % 4096 + bs.length → exec (.eventPacketReceive k pay) s = .next (s.wb (Addr.cxpCamStat k) 4 true))) ∧
    (∀ hb, hb = Min.min 1000 (s.rf (Addr.cxpCamCfg k) 25 16) → s.ingOn = true → s.camOn k = true → hb ≠ 0 →
      ((s.cam k).hbAt + 400000 * hb ≤ s.time →
        exec (.heartbeat k) s = .next (s.setCam k { s.cam k with sent := bytesOf 8 (s.time * 5 / 2), hbAt := s.time })) ∧
      (s.time < (s.cam k).hbAt + 400000 * hb → exec (.heartbeat k) s = .next s)) ∧
    (TakesWrite s src .jesCfg 0 Addr.jesCfg → ∃ u, exec (.jesdConfigWrite src v) s = .next u ∧ u = { s with regs := u.regs, jes := u.jes } ∧
      u.rd Addr.jesCfg = s.stored Addr.jesCfg v ∧ u.jes = { s.jes with applied := u.jes.applied, lemc := none, inc := false } ∧
      u.jes.applied = (u.rb Addr.jesCfg 0 && jesOk (u.rd Addr.jesCfg) && decide (u.jesOwner ≠ 0)) ∧ u.rb Addr.jesStat 0 = false ∧
      u.rb Addr.jesStat 1 = false ∧ u.rb Addr.jesStat 2 = (s.rb Addr.jesStat 2 || (u.rb Addr.jesCfg 0 && !u.jes.applied)) ∧
      ∀ l, l < 4 → u.rf (Addr.jesLaneStat l) 1 0 = 0) ∧
    (∀ phase p, s.ingOn = true → s.jes.applied = true → p = phase % ((s.rf Addr.jesCfg 42 39 + 1) * 32) →
      (s.jes.lemc = none → exec (.sysrefEdge phase) s = .next (({ s with jes := { s.jes with lemc := some p } }).wb Addr.jesStat 1 true)) ∧
      (s.jes.lemc = some p → exec (.sysrefEdge phase) s = .next s) ∧
      (∀ q, s.jes.lemc = some q → s.rb Addr.jesCfg 43 = false → exec (.sysrefEdge phase) s = .next s)) ∧
    (s.ingOn = true → s.jes.applied = true → s.jes.lemc.isSome = true → s.rb Addr.jesStat 0 = false → ∃ u, exec .jesdLaneLock s = .next u ∧
      u = { s with regs := u.regs, rings := u.rings } ∧ u.rb Addr.jesStat 0 = true ∧ u.ring 8 = { s.ring 8 with seq := 0 } ∧
      ∀ l, l < 4 → u.rf (Addr.jesLaneStat l) 1 0 = if l ≤ s.rf Addr.jesCfg 24 23 then 3 else s.rf (Addr.jesLaneStat l) 1 0) ∧
    (s.ingOn = true → s.rb Addr.jesStat 0 = true → exec (.jesdLockLoss k) s =
      .next (({ s.wf (Addr.jesLaneStat k) 1 0 0 with jes := { s.jes with inc := true } }).record (report 17 .signal k s.jesOwner))) ∧
    (∀ age samples, s.ingOn = true → s.jes.applied = true → s.rb Addr.jesStat 0 = true → ∃ w e,
      exec (.jesdBlockComplete age samples []) s = .next (State.ringPut w 8 e) ∧ w = { s with rings := w.rings, jes := w.jes } ∧
      (w.ring 8).seq = ((s.ring 8).seq + 1) % 2 ^ 32 ∧ w.jes = { s.jes with inc := false } ∧ recNat e 16 4 = (s.ring 8).seq % 2 ^ 32 ∧
      e.length = 32 + 2 * (64 * 2 ^ s.rf Addr.jesCfg 45 44 * (s.rf Addr.jesCfg 27 25 + 1) * ((s.rb Addr.jesCfg 38).toNat + 1)))

/-- A free context takes, of the queued jobs its cluster may take, one that no other precedes; a boundary comes when the innings' time
is over and no non-pre-emptible op runs; overruns, holds and age limits beyond their bounds are faults or ends; a model table's write seeds the estimates from it. -/
def Obligations.Scheduling : Prop :=
  ∀ (s : State) (src : Src) (c x flt p : Nat) (v : W64), c < 6 → x < 64 → 1 ≤ p → p ≤ 4 →
    (s.cluUp c = true → s.rb (Addr.schCfg c) 0 = true → (s.ctx c x).st = .free → s.partActive (s.cluPart c) = true →
      ((∀ j ∈ s.queued, s.serves c j = false) → exec (.jobTake c x flt) s = .next s) ∧
      ((∃ j ∈ s.queued, s.serves c j = true) → ∃ j ∈ s.queued, s.serves c j = true ∧
        (∀ q ∈ s.queued, s.serves c q = true → s.before q j = false) ∧ exec (.jobTake c x flt) s = .next (s.take c x flt j))) ∧
    (∀ a b : Job, s.before a b = decide (b.prio < a.prio ∨ a.prio = b.prio ∧ (s.tLim a < s.tLim b ∨ s.tLim a = s.tLim b ∧ a.born < b.born))) ∧
    (s.cluUp c = true → (s.clu c).preempt = false →
      (s.time < (s.clu c).innEnd → exec (.inningsBoundary c) s = .next s) ∧
      ((s.clu c).innEnd ≤ s.time → (s.clu c).running = none → exec (.inningsBoundary c) s = .next (s.pick c)) ∧
      (∀ y w, (s.clu c).innEnd ≤ s.time → (s.clu c).running = some y → w = (if y = 64 then s else s.evalCtx c y) →
        (w.clu c).running = some y → (w.clu c).innEnd ≤ w.time →
        (w.npFlying (tid c y) = false → exec (.inningsBoundary c) s = .next (w.boundary c)) ∧
        (w.npFlying (tid c y) = true → exec (.inningsBoundary c) s =
          .next (w.setClu c { w.clu c with deferred := some ((w.clu c).deferred.getD w.time) })))) ∧
    (∀ y, s.cluUp c = true → (s.clu c).preempt = true → (s.clu c).running = some y →
      (s.npFlying (tid c y) = false → exec (.preemptTileBoundary c) s = .next (s.switchOut c)) ∧
      (s.npFlying (tid c y) = true → exec (.preemptTileBoundary c) s = .next s)) ∧
    (∀ o t uid, s.ops.find? (fun (o : Op) => o.uid == uid) = some o → o.start = some t → o.np = true → o.done = false →
      (s.time < t + 800 * o.npb → exec (.overrunFault uid) s = .next s) ∧
      (t + 800 * o.npb ≤ s.time → ∀ r, r = (s.sat (Addr.schOvr (thClu o.th)) 63 48 1).record { report 19 .fault (thClu o.th) o.part with
          jseq := ((s.jobOn o.th).map (·.jseq)).getD 0 } → ∀ stopping : Prop,
        stopping = (thClass o.th = .job ∧ (r.ctx (thClu o.th) (thCtx o.th)).st = .ending) →
        (¬stopping → exec (.overrunFault uid) s = .next ((r.endOp o 2 o.flags).overrun o.th)) ∧
        (stopping → exec (.overrunFault uid) s = .next (r.endOp o 2 o.flags)))) ∧
    (∀ d k q t at_ rest, (d < 6 ∧ k < 256 ∧ q = d * 256 + k ∨ d = 6 ∧ k < 64 ∧ q = 1536 + k) → (s.sem q).holders = (t, at_) :: rest →
      (s.time ≤ at_ + 400 * Max.max 1 (s.rf (semCfg q) 63 48) → exec (.holdFault d k) s = .next s) ∧
      (at_ + 400 * Max.max 1 (s.rf (semCfg q) 63 48) < s.time → ∀ w, w = s.forceRel q t → exec (.holdFault d k) s = .next
        ((State.record w { report 19 .fault (thClu t) (w.thPart t) with jseq := ((w.jobOn t).map (·.jseq)).getD 0 }).overrun t))) ∧
    (∀ d k q id i off, (d < 6 ∧ k < 256 ∧ q = d * 256 + k ∧ id = .schSemCfg ∧ i = d ∧ off = Addr.schSemCfg d k ∨
        d = 6 ∧ k < 64 ∧ q = 1536 + k ∧ id = .schGsemCfg ∧ i = k ∧ off = Addr.schGsemCfg k) → TakesWrite s src id i off →
      (s.sem q).waiters = [] → ∃ u, exec (.semConfigWrite src d k v) s = .next u ∧ u = { s with regs := u.regs, sems := u.sems } ∧
      u.sem q = sem0 ∧ u.rd off = s.stored off v ∧ u.semFree q = u.rf off 43 40 + 1 ∧ u.rf (semStat q) 15 8 = 0 ∧
      (∀ n, n ≠ q → u.sem n = s.sem n) ∧ s.onlyRegs u [off, semStat q]) ∧
    (∀ j n, s.queued.find? (fun (j : Job) => j.part == p && j.jseq == n && s.tooOld j) = some j →
      exec (.ageLimitExpiry p n) s = .next ((s.sat Addr.dlmDevStat 15 0 1).endQueued j 3 0)) ∧
    (∀ n k e, (∀ j ∈ s.queued, ¬(j.part = p ∧ j.jseq = n)) →
      s.ctxs.find? (fun (e : Nat × Ctx) => e.2.st != .free && (e.2.job.part == p && e.2.job.jseq == n && s.tooOld e.2.job)) = some (k, e) →
      exec (.ageLimitExpiry p n) s = .next (s.evalCtx (k / 128) (k % 128))) ∧
    (TakesWrite s src .dlmPartCfg p (Addr.dlmPartCfg p) → exec (.dlmReseed src p v) s =
      .next ((s.wr (Addr.dlmPartCfg p) (s.stored (Addr.dlmPartCfg p) (v ||| 2))).reseed p)) ∧
    (TakesWrite s src .vdlPartMtab p (Addr.vdlPartMtab p) → exec (.mtabWrite src p v) s =
      .next ((s.wr (Addr.vdlPartMtab p) (s.stored (Addr.vdlPartMtab p) v)).reseed p))

/-- A tile-issue instruction raises ILLEGAL, ALIGN, PBARG, DATAERR or the first failing check of R319 with the word and the operand as the
value; else the op is accepted with the next serial number, its ticket PENDING and in SY_LASTTKT, and the thread goes on. -/
def Obligations.TileIssue : Prop :=
  ∀ (s : State) (t : Nat) (ti : TiFields), Runs s t → ∀ a : W64, a = (s.thread t).gr ti.pb →
    ∀ q ∈ [(Instr.mxMul t ti, 0, 0), (.cvConv t ti, 1, 0), (.vxEw1 t ti, 2, 0), (.vxEw2 t ti, 2, 1), (.vxFma t ti, 2, 2),
      (.vxRed t ti, 2, 3), (.vxSoftmax t ti, 2, 4), (.vxNorm t ti, 2, 5), (.vxQuant t ti, 2, 6), (.vxDequant t ti, 2, 7),
      (.vxAmax t ti, 2, 8), (.vxPool t ti, 2, 9), (.vxDwconv t ti, 2, 10), (.vxHad t ti, 2, 11), (.vxOpt t ti, 2, 12),
      (.vxTrans t ti, 2, 13), (.vxGather t ti, 2, 14), (.vxSelect t ti, 2, 15), (.vxFill t ti, 2, 16), (.atAttn t ti, 3, 0),
      (.atAppend t ti, 3, 1), (.atPrefix t ti, 3, 2), (.atFork t ti, 3, 3), (.atFree t ti, 3, 4), (.sqChunk t ti, 4, 0),
      (.sqStep t ti, 4, 1), (.sqEvict t ti, 4, 2), (.sqClear t ti, 4, 3), (.ppConv t ti, 5, 0), (.ppStream t ti, 5, 1),
      (.cxExpand t ti, 6, 0), (.cxCompress t ti, 6, 1), (.dmCopy t ti, 7, 0), (.dmFill t ti, 7, 1), (.dmPromote t ti, 7, 2),
      (.dmEvict t ti, 7, 3)],
    ∀ (i : Instr) (cls opc : Nat) (w : W64), i = q.1 → cls = q.2.1 → opc = q.2.2 → w = BitVec.ofNat 64 (tiWord cls opc ti) →
      ((t = supTid ∨ unusedZero cls opc ti = false) → Traps i s t .illegal w) ∧
      (t ≠ supTid → unusedZero cls opc ti = true → (s.flying t).length < 32 →
        (a.toNat % 64 ≠ 0 → Traps i s t .align a) ∧
        (a.toNat % 64 = 0 → s.pbAddr t a.toNat = none → Traps i s t .pbArg (w * 256 + 3)) ∧
        (∀ d u pb, a.toNat % 64 = 0 → s.pbAddr t a.toNat = some d →
          (s.readMem (s.thPart t) d 64 ti.flt = ⟨u, pb, false⟩ → exec i s = .next (u.raise t .dataErr a)) ∧
          (s.readMem (s.thPart t) d 64 ti.flt = ⟨u, pb, true⟩ → ∀ o, o = u.mkOp t cls opc ti pb →
            (∀ e n, (u.checks o).find? (fun k => !k.1) = some (false, e, n) →
              exec i s = .next (u.raise t e (w * 256 + BitVec.ofNat 64 n))) ∧
            ((∀ k ∈ u.checks o, k.1 = true) → u.ppFull o = false → ∃ v,
              exec i s = .next (State.startOps (State.sqAccepted v u.opCount)) ∧ v.opCount = u.opCount + 1 ∧
              (∀ k, k ≠ t → v.thread k = u.thread k) ∧ (v.thread t).g = (u.thread t).g ∧ (v.thread t).pc = (u.thread t).onward.pc ∧
              ∀ n, n = nextSerial (u.thread t).serial → (v.thread t).serial = n ∧ (v.thread t).lastTkt = BitVec.ofNat 64 (n + t * 2 ^ 32) ∧
                (v.thread t).tkt n = some ⟨n, 1, 0⟩ ∧ ∃ p, v.ops = u.ops ++ [p] ∧ p.uid = u.opCount ∧ p.th = t ∧ p.serial = n ∧
                p.cls = cls ∧ p.opc = opc ∧ p.pb = pb ∧ p.start = none ∧ p.done = false))))

/-- What a running op does while memory does not hold it up: a passing piece covers its rows; a tile's array takes the loaded block, in the
expander's turn where it is compressed; the work's result is written and the ticket completes with its status and flags; lines enter a
PP.STREAM; damaged blocks are fetched again; fills, drains and commits end. An op whose mask has come to name no unit in service carries
MASKSUB from then on (R313). -/
def Obligations.TileProgress : Prop :=
  ∀ (s w : State) (uid : Nat) (q o : Op), s.startOps.opOf uid = some q → q.start.isSome = true → s.startOps.goes q = true →
    s.startOps.opWaits q = false → o = (if s.startOps.maskSub q = true then { q with flags := q.flags ||| 32 } else q) →
    w = s.startOps.putOp o →
    (∀ unit row n cc, o.cls ≤ 2 → (1 < o.cls ∨ (w.tile (thClu o.th * 8 + unit)).active = some uid) →
      w.unitOk o (o.tryOf row) unit = true → o.pieceOk row n cc = true → (o.tryOf row).n = 0 → ∃ (v : State) (p : Op),
      exec (.pieceComplete uid unit row n cc false) s = .next v.startOps ∧ v.ops = (w.ops.map fun q => if q.uid = uid then p else q) ∧
      p = { o with rows := (if n = 0 then o.rows else o.rows ++ [⟨row, n, cc, unit, 0, (o.tryOf row).unit⟩]),
                   tries := o.tries.filter (fun t => t.row != row), seeded := p.seeded } ∧
      (o.byte 8 % 2 = 0 → p.seeded = o.seeded)) ∧
    (∀ tile k, o.cls < 2 → tile ∈ w.opUnits o → k = thClu o.th * 8 + tile →
      (w.cxTurn o = true → exec (.weightBlockLoaded uid tile) s = .next ((w.cxServed o).setTile k ⟨some uid, some uid⟩).startOps) ∧
      (w.cxTurn o = false → exec (.weightBlockLoaded uid tile) s = .next w.startOps)) ∧
    (o.cls < 7 → o.cls ≠ 4 → o.dmg = [] → w.readyToEnd o = true → o.corrupt = false → ∀ (e : State) (p : Op) i x y r,
      (e, p) = (if o.rows = [] then w.seedLoad o 0 else (w, o)) → e.fresh = (i, x) →
      State.work x p i [] = (y, .ok r) → r.status ≠ 3 → exec (.tileOpComplete uid ⟨false, none, []⟩) s =
        .next (State.startOps (State.endOp y { p with count := r.count, vals := r.vals } r.status (p.flags ||| r.flags)))) ∧
    (o.cls = 7 → o.opc < 2 → o.dmg = [] → w.onTurn o = true → w.moved o = true →
      (o.hostFlag = true → w.linkUp = false → exec (.tileOpComplete uid ⟨false, none, []⟩) s = .next (w.moveFail o 0).startOps) ∧
      ((o.hostFlag = false ∨ w.linkUp = true) → ∀ x, w.copyAmx o = (x, .ok ()) → exec (.tileOpComplete uid ⟨false, none, []⟩) s =
        .next ((State.signal x o).endOp o 0 o.flags).startOps) ∧
      (o.D.amx = false → w.copyAmx o = (w, .ok ()))) ∧
    (∀ n rest b, n < 2 → (s.pp n).q = uid :: rest → o.cls = 5 → o.opc = 1 →
      exec (.ppStreamEntry n b) s = .next (w.streamEntryIn o b).startOps) ∧
    (∀ a c f chk y, o.dmg = [a, c, f] → chk ≤ 9 → y = w.sat (Addr.cxCnt1 (thClu o.th)) 63 48 1 →
      (∀ b e, (y.work { o with dmg := [] } 0 []).2 ≠ .error (.damaged b e)) →
      (chk = 0 → o.is 5 1 = false → exec (.blockRefetch uid chk) s =
        .next (State.putOp y { o with dmg := [], flags := o.flags ||| 64 }).startOps) ∧
      (chk ≠ 0 → (f = 2 ∨ chk = c) → exec (.blockRefetch uid chk) s = .next ((y.cxLast o a chk (f + 1)).corruptBlock o a chk).startOps) ∧
      (chk ≠ 0 → f ≠ 2 → chk ≠ c → exec (.blockRefetch uid chk) s =
        .next ((y.cxLast o a chk (f + 1)).putOp { o with dmg := [a, chk, 2] }).startOps)) ∧
    (w.onTurn o = true →
      (∀ m flt, o.xfer = none → exec (.movementBlock uid m flt) s = .next (w.moveBlock o m flt).startOps) ∧
      (∀ m flt, o.xfer ≠ none → exec (.movementBlock uid m flt) s = .next w.startOps) ∧
      (∀ e src z, z = s.startOps → z.onTurn q = true → e = q.aux.getD 1 0 → src = q.aux.getD 2 0 → q.cls = 7 → q.aux.getD 0 0 = 1 →
        z.moved q = true →
        (q.opc = 2 → src = 0 → exec (.fillComplete uid false) s = .next ((z.setDir e 2).endOp q 0 q.flags).startOps) ∧
        (q.opc = 2 → src ≠ 0 → exec (.fillComplete uid false) s =
          .next (((z.setDir e 2).dirAdd (src + 18) (-1)).endOp q 0 q.flags).startOps) ∧
        (q.opc = 3 → src = 0 → exec (.drainComplete uid false) s = .next ((z.setDir e 0).endOp q 0 q.flags).startOps) ∧
        (q.opc = 3 → src ≠ 0 → exec (.drainComplete uid false) s =
          .next (((z.setDir e 0).dirAdd (src + 18) (-1)).endOp q 0 q.flags).startOps)) ∧
      (∀ d, o.cls = 8 → w.moved o = true → o.devFor .write (w.commitAt o) 64 = some d → region d ≠ .fabric →
        (region d = .host → w.linkUp = true) → exec (.ckptCommit uid false) s =
          .next ((w.opStore o (w.commitAt o) (w.commitRec o)).endOp o 0 o.flags).startOps))

/-- An allocation returns the address of the head of the pool's free list, with one reference, where its epoch is safe, and else 0; a
release takes a reference away, the last one retires the object; a configuration write frees the whole pool and
puts no object out of use (NCORRUPT 0). -/
def Obligations.Pools : Prop :=
  ∀ (s : State) (src : Src) (p q : Nat) (v : W64), 1 ≤ p → p ≤ 4 → q ≤ 9 →
    ∀ (al fr cf : Instr) (ai fi ci : RegId) (aoff foff : Nat),
    (al, ai, aoff) = (if q = 9 then (.tableAlloc src p, .awPartTalloc, Addr.awPartTalloc p)
      else (.poolAlloc src p q, .awPartPoolAlloc, Addr.awPartPoolAlloc p q)) →
    (fr, fi, foff) = (if q = 9 then (.tableFree src p v, .awPartTfree, Addr.awPartTfree p)
      else (.poolFree src p q v, .awPartPoolFree, Addr.awPartPoolFree p q)) →
    (cf, ci) = (.poolConfigWrite src p q v, if q = 9 then .awPartTpoolCfg else .awPartPoolCfg) →
    (TakesRead s src ai p aoff →
      (∀ i rest w r, s.rb (poolCfg p q) 31 = true → s.pool (poolKey p q) = i :: rest → s.recGet p q i 8 8 < s.safeEpoch p →
        w = ((s.recPut p q i 0 2 1).recPut p q i 2 1 1).putPool p q rest →
        r = BitVec.ofNat 64 (State.asSeen w (srcAddrs src) (s.poolBase p q + i * objSize q)) →
        exec al s = .next { w with latch := r, lastRd := r }) ∧
      (s.rb (poolCfg p q) 31 = true → (s.pool (poolKey p q) = [] ∨
          ∃ i rest, s.pool (poolKey p q) = i :: rest ∧ s.safeEpoch p ≤ s.recGet p q i 8 8) →
        exec al s = .next { s.sat (poolStat p q) 39 24 1 with latch := 0, lastRd := 0 }) ∧
      (s.rb (poolCfg p q) 31 = false → exec al s = .next { s with latch := 0, lastRd := 0 })) ∧
    (TakesWrite s src fi p foff → ∀ o, o = (s.devAddr (srcAddrs src) .read (fld v 47 0) 1).bind (s.objOf p q) →
      (o = none → exec fr s = .next (s.wb (poolStat p q) 0 true)) ∧
      (∀ i n, o = some i → n = s.recGet p q i 0 2 →
        (n = 0 → exec fr s = .next (s.wb (poolStat p q) 0 true)) ∧
        (n = 1 → exec fr s = .next ((s.recPut p q i 0 2 0).retireObj p q i)) ∧
        (2 ≤ n → exec fr s = .next (s.recPut p q i 0 2 (n - 1))))) ∧
    (TakesWrite s src ci p (poolCfg p q) → ∀ n lo, n = fld (s.stored (poolCfg p q) v) 23 0 → lo = s.poolRec p q → ∃ u,
      exec cf s = .next u ∧ u = { s with regs := u.regs, mem := u.mem, pools := u.pools } ∧ u.rd (poolCfg p q) = s.stored (poolCfg p q) v ∧
      u.pool (poolKey p q) = List.range n ∧ u.rf (poolStat p q) 63 40 = n ∧ u.rf (poolStat p q) 23 8 = 0 ∧ s.onlyRegs u [poolCfg p q, poolStat p q] ∧
      (∀ k, k ≠ poolKey p q → u.pool k = s.pool k) ∧
      ∀ a, u.byte a = if lo ≤ a ∧ a < lo + 16 * n then 0 else s.byte a)

/-- A stream's configuration write gives it the next generation and residency ZERO unless an op names it or it is being swapped; a swap in
makes it RESIDENT with its image read back, a swap out OUT with its image written, or RESIDENT again where the image cannot be read (log
entry 160). -/
def Obligations.SequenceStreams : Prop :=
  ∀ (s : State) (src : Src) (c k : Nat) (v : W64), c < 6 → k < 256 → ∀ (cf st : Nat), cf = Addr.sqStrCfg c k → st = Addr.sqStrStat c k →
    (TakesWrite s src .sqStrCfg c cf →
      ((s.sqRes c k = 3 ∨ s.sqRes c k = 4 ∨ s.ops.any (fun o => !o.done && o.names c k) = true) →
        exec (.sqStreamConfigWrite src c k v) s = .next (s.wb st 40 true)) ∧
      (s.sqRes c k ≠ 3 → s.sqRes c k ≠ 4 → s.ops.any (fun o => !o.done && o.names c k) = false → ∃ u,
        exec (.sqStreamConfigWrite src c k v) s = .next u ∧ u = { s with regs := u.regs } ∧ u.rd cf = s.stored cf v ∧ u.sqRes c k = 0 ∧
        u.rf st 7 0 = k ∧ u.rf st 23 8 = (if s.rf st 23 8 = 65535 then 1 else s.rf st 23 8 + 1) ∧ u.curImg c k = 0 ∧
        s.onlyRegs u [cf, st, Addr.sqStat c] ∧
        u.rf (Addr.sqStat c) 24 16 = ((List.range 256).filter fun j => u.rb (Addr.sqStrCfg c j) 31).length)) ∧
    (TakesWrite s src .sqStrLive c (Addr.sqStrLive c k) →
      ((s.rb cf 31 = false ∨ s.sqRes c k ∈ [0, 2, 5]) → exec (.sqLiveWrite src c k v) s =
        .next (s.wr (Addr.sqStrLive c k) (s.stored (Addr.sqStrLive c k) v))) ∧
      (s.rb cf 31 = true → s.sqRes c k ∉ [0, 2, 5] → exec (.sqLiveWrite src c k v) s = .next (s.wb st 40 true))) ∧
    (s.canSwap c = true → ∀ y data b,
      (s.sqRes c k = 3 → s.sqRead c (s.rf (Addr.sqStrBack c k) 47 0) (s.imgLen c k) = ⟨y, data, true⟩ →
        exec (.swapInComplete c k false) s = .next
          ((((State.sqWrite y c (s.imgAddr c k 0) data).swapMoved c (s.imgAddr c k 0) (s.imgLen c k)).setSqRes c k 1).sat
            (Addr.sqCnt c) 31 16 1).startOps) ∧
      (s.sqRes c k = 3 → s.sqRead c (s.rf (Addr.sqStrBack c k) 47 0) (s.imgLen c k) = ⟨y, data, b⟩ → State.firstNaming y c k = none →
        exec (.swapInComplete c k true) s = .next ((State.setSqRes y c k 5).record
          { report 4 .lost c (s.cluPart c) with addr := s.rf (Addr.sqStrBack c k) 47 0 }).startOps) ∧
      (s.sqRes c k ≠ 3 → exec (.swapInComplete c k false) s = .next s.startOps) ∧
      (s.sqRes c k = 4 → s.sqRead c (s.imgAddr c k (s.curImg c k)) (s.imgLen c k) = ⟨y, data, b⟩ →
        ∀ back, back = s.rf (Addr.sqStrBack c k) 47 0 →
        (b = true → exec (.swapOutComplete c k) s = .next
          (((State.sqWrite y c back data).swapMoved c back (s.imgLen c k)).setSqRes c k 2).startOps) ∧
        (b = false → State.firstNaming y c k = none → exec (.swapOutComplete c k) s = .next ((State.setSqRes y c k 1).record
          { report 4 .lost c (s.cluPart c) with addr := s.imgAddr c k (s.curImg c k) }).startOps)) ∧
      (s.sqRes c k ≠ 4 → exec (.swapOutComplete c k) s = .next s.startOps))

/-- Clearing SRAM makes lines invalid; a generation advance moves the regions of the range, each but one that would meet LOW, and queues
their erase scrub, which zeroes stale bursts and ends with LOW at GEN; scrub reads declare failed bursts; MEM_TDUNPIN takes a pin away. -/
def Obligations.MemoryScrub : Prop :=
  ∀ (s : State) (src : Src) (v : W64),
    (TakesWrite s src .memSramclr 0 Addr.memSramclr → ∀ lo hi, lo = fld v 41 0 → hi = lo + fld v 62 42 → ∃ u,
      exec (.sramClear src v) s = .next u ∧ u = { s with regs := u.regs, lines := u.lines } ∧ s.onlyRegs u [Addr.memSramclr] ∧
      u.rb Addr.memSramclr 63 = true ∧ ∀ k, u.line k = if lo ≤ k / 64 ∧ k / 64 < hi ∧ onChip (k / 64 * 64) = true
        then ⟨false, 0, 0, false, false⟩ else s.line k) ∧
    (s.meshOn = true → exec .sramClearDone s = .next (s.wb Addr.memSramclr 63 false)) ∧
    (TakesWrite s src .memScrubCmd 0 Addr.memScrubCmd → ∃ u, exec (.scrubAdvance src v) s = .next u ∧
      u = { s with regs := u.regs, scrubQ := u.scrubQ, pendAdv := u.pendAdv } ∧
      ∀ r, r < 384 → (¬(fld v 8 0 ≤ r ∧ r ≤ fld v 24 16) → u.gen r = s.gen r ∧ (r ∈ u.scrubQ ↔ r ∈ s.scrubQ)) ∧
        (fld v 8 0 ≤ r → r ≤ fld v 24 16 → ∀ g, g = (if s.gen r + 1 > 0xFFE then 1 else s.gen r + 1) →
          (g = s.rf (Addr.memGen r) 27 16 → u.gen r = s.gen r ∧ r ∈ u.pendAdv) ∧
          (g ≠ s.rf (Addr.memGen r) 27 16 → u.gen r = g ∧ r ∈ u.scrubQ))) ∧
    (∀ a la k r m, region a = .ddr → la = a / 64 * 64 → k = s.rkey la → r = scrubRegion la → m = s.line k → s.memAddr la = true →
      s.ddrUp la = true →
      (s.scrubQ.head? = some r → ∀ w, w = s.moveBursts (chanOf k) 1 →
        (m.bad = false → m.poison = false → m.gen = s.gen r → exec (.eraseScrubBurst a false) s = .next w) ∧
        (m.bad = false → (m.poison = true ∨ m.gen ≠ s.gen r) → exec (.eraseScrubBurst a false) s =
          .next (((w.eraseBurst la).moveBursts (chanOf k) 1).inc Addr.memScrubStat 31 0 1)) ∧
        (m.poison = false → exec (.eraseScrubBurst a true) s = .next ((((((w.burstRetry (chanOf k) 3).burstFail la true)).eraseBurst la).moveBursts
          (chanOf k) 1).inc Addr.memScrubStat 31 0 1))) ∧
      (s.rf Addr.memScrubCfg 15 8 ≠ 0 → ∀ w, w = s.moveBursts (chanOf k) 1 → ∀ f,
        (m.poison = false → m.bad = false → f = false → exec (.patrolScrub a f) s = .next w) ∧
        (m.poison = true → exec (.patrolScrub a f) s = .next (w.burstFail la false)) ∧
        (m.poison = false → (m.bad = true ∨ f = true) → exec (.patrolScrub a f) s = .next ((w.burstRetry (chanOf k) 3).burstFail la true)))) ∧
    (∀ r q, r < 384 → s.rb Addr.memStat 0 = true → s.scrubQ = r :: q → r ∉ s.pendAdv → ∃ u, exec (.eraseScrubComplete r) s = .next u ∧
      u = { s with regs := u.regs, mem := u.mem, lines := u.lines, scrubQ := q } ∧ u.rf (Addr.memGen r) 27 16 = s.gen r ∧
      u.gen r = s.gen r ∧ ∀ k, u.byte k = if s.staleKey r k = true then 0 else s.byte k) ∧
    (TakesWrite s src .memTdunpin 0 Addr.memTdunpin → ∀ d n, s.devAddr (srcAddrs src) .write (fld v 47 0) 64 = some d →
      region d = .global → d % 64 = 0 → n = s.peekNat (d + 16) 2 →
      (n = 0 → exec (.tdunpin src v) s = .next (s.wb Addr.memStat 3 true)) ∧
      (0 < n → exec (.tdunpin src v) s = .next (s.poke (d + 16) (bytesOf 2 (n - 1)))))

/-- Channels: an initial write ends with the role restored; a rotation, once every PERIOD seconds, moves the first slot of the channel trained least recently to a
spare; a migration copies 4 KiB units and ends with the slot at its target; a retrained channel is a spare. -/
def Obligations.MemoryChannels : Prop :=
  ∀ (s : State) (ch : Nat), ch < 26 →
    (s.pmu.boot = 3 → s.role ch = 6 → ∃ u, exec (.channelInitComplete ch) s = .next u ∧ u = { s with regs := u.regs } ∧
      s.onlyRegs u [Addr.memChStat ch, Addr.memStat] ∧ u.role ch = s.rf (Addr.memChCfg ch) 2 0 ∧
      (u.rb Addr.memStat 0 = true ↔ ∀ c, c < 26 → u.role c ≠ 6)) ∧
    (s.role ch = 4 → ∃ u, exec (.retrainComplete ch) s = .next u ∧ u.role ch = 1 ∧ Sparse.get (fun _ => 0) u.trained ch = s.time ∧
      u = { s with regs := u.regs, trained := u.trained } ∧ s.onlyRegs u [Addr.memChStat ch]) ∧
    (∀ p n rest, s.rotAt + 400000000 * Max.max 1 (s.rf Addr.memRotCfg 47 32) ≤ s.time → s.rb Addr.memRotCfg 0 = true → s.rb Addr.memStat 0 = true → s.rb Addr.pmuStat 1 = false → s.mig = none →
      s.role ch = 1 → (∀ c, c < ch → s.role c ≠ 1) → p < 26 → s.role p = 0 → s.slotsOn p = n :: rest →
      (∀ c, c < 26 → s.role c = 0 → s.slotsOn c ≠ [] → Sparse.get (fun _ => 0) s.trained p < Sparse.get (fun _ => 0) s.trained c ∨
        Sparse.get (fun _ => 0) s.trained p = Sparse.get (fun _ => 0) s.trained c ∧ p ≤ c) →
      exec .rotationStart s = .next { s.startMig n p ch false false with rotAt := s.time }) ∧
    ((s.rb Addr.memRotCfg 0 = false ∨ s.mig ≠ none ∨ s.time < s.rotAt + 400000000 * Max.max 1 (s.rf Addr.memRotCfg 47 32)) → exec .rotationStart s = .next s) ∧
    (∀ m, s.mig = some m → m.cp < s.slotUnits → s.rb Addr.pmuStat 1 = false → (∀ k, (s.line k).bad = false ∧ (s.line k).poison = false) →
      ∃ u, exec (.migrationUnitCopy []) s = .next u ∧ u.mig = some { m with cp := m.cp + 1 } ∧
        ∀ i, i < 64 → u.bytes (m.key (m.cp * 4096 + 64 * i)) 64 = s.bytes (s.slotKey m.slot (m.cp * 4096 + 64 * i)) 64) ∧
    (∀ m, s.mig = some m → m.cp < s.slotUnits → exec .migrationComplete s = .next s) ∧
    (∀ m, s.mig = some m → s.slotUnits ≤ m.cp → m.slot < 24 → m.src < 26 → m.dst < 26 → m.src ≠ m.dst → s.rd (Addr.hltKindRet 11) = 0 →
      State.slotsOn ((s.wf (Addr.memSlot m.slot) 4 0 m.dst).wb (Addr.memSlot m.slot) 5 m.upper) m.src = [] → ∃ u,
      exec .migrationComplete s = .next u ∧ u.mig = none ∧ u.rf (Addr.memSlot m.slot) 4 0 = m.dst ∧ u.rb (Addr.memSlot m.slot) 5 = m.upper ∧
      u.role m.dst = 0 ∧ u.role m.src = (if m.retire then 5 else 4) ∧ u = { s with regs := u.regs, mig := none })

/-- Blocks are accepted in the order of SEQ, others discarded with one NAK or acknowledged again; an ACK frees the replay buffer; a NAK or 4 us
without progress replays, at the eighth retry fast-retraining; a block leaves only with a credit and room to keep it. A block that comes
while the pair's clock is stopped is a wake event as well (Table 17.7).
Training: a port trains, goes up with SEQ at 0 and its credits advertised or, with a wrong partner, down with its bit and a record; the
third time in a row that 10 ms pass without it retires it; a fast retrain replays from the oldest block; coefficient requests move the taps. -/
def Obligations.FabricLinks : Prop :=
  (∀ (s : State) (q : Nat) (x : Port), q < 4 → s.portUp q = true → x = s.port q →
    (∀ (b : Block) (z w : State), z = (if s.clk 0 = true then s else s.raiseWake 5 q) → w = z.onLanes q (fun s u => s.countOps 12 u 1) →
      (badBlock b = true → exec (.fabricBlockReceive q b true) s = .next ((w.sat (Addr.fabPortCnt1 q) 63 48 1).discard q)) ∧
      exec (.fabricBlockReceive q b false) s = .next ((w.sat (Addr.fabPortCnt1 q) 63 48 1).discard q) ∧
      (badBlock b = false → b.seq ≠ x.rxSeq → ∀ k, k = (x.rxSeq + 65536 - b.seq % 65536) % 65536 →
        (1 ≤ k → k ≤ 64 → exec (.fabricBlockReceive q b true) s = .next ((w.onLanes q fun s u => s.detect 12 u).sendAck q)) ∧
        ((k = 0 ∨ 64 < k) → exec (.fabricBlockReceive q b true) s = .next (w.discard q))) ∧
      (badBlock b = false → b.seq = x.rxSeq → ∃ y, exec (.fabricBlockReceive q b true) s = .next (State.place y q b) ∧
        y.port q = { x with
          rxSeq := (x.rxSeq + 1) % 65536, nakSent := false, unacked := if 7 ≤ x.unacked then 0 else x.unacked + 1,
          unackedAt := if x.unacked = 0 then s.time else x.unackedAt,
          ctl := if 7 ≤ x.unacked then x.ctl ++ [(0, x.rxSeq % 65536)] else x.ctl } ∧
        (∀ j, j ≠ q → y.port j = s.port j) ∧ y = { z with ports := y.ports, regs := y.regs, health := y.health })) ∧
    (∀ n l, l = x.replay.filter (fun b => !decide (seqBack n b.blk.seq < 64)) →
      (l.length < x.replay.length → exec (.ackReceive q n) s =
        .next (s.setPort q { x with replay := l, again := Min.min x.again l.length, progressAt := s.time })) ∧
      (l.length = x.replay.length → exec (.ackReceive q n) s = .next s)) ∧
    (∀ n, x.replay = [] → exec (.nakReceive q n) s = .next s) ∧
    (s.time < x.progressAt + 1600 → exec (.replayTimeout q) s = .next s) ∧
    (∀ n b rest u, x.replay = b :: rest → u = s.sat (Addr.fabPortCnt1 q) 47 32 1 →
      (b.tries < 7 → ∀ y, y = State.setPort u q { x with
          replay := { b with tries := b.tries + 1 } :: rest, progressAt := s.time, again := rest.length + 1, ctl := x.ctl ++ [(3, 0)] } →
        exec (.nakReceive q n) s = .next y ∧ (x.progressAt + 1600 ≤ s.time → exec (.replayTimeout q) s = .next y)) ∧
      (7 ≤ b.tries → ∀ w y, w = ((State.setPort u q { x with
          replay := { b with tries := b.tries + 1 } :: rest, progressAt := s.time, esc := true, again := 0, trainAt := s.time }).setPortState q 1).sat
            (Addr.fabPortCnt1 q) 31 16 1 →
        y = State.onLanes w q (fun s u => s.exhaustWith 12 u
          { report 12 .exhaust u 0 with sub := b.tries + 1, detail := bytesOf 2 b.blk.seq ++ bytesOf 1 (w.lanesIn q).length }) →
        exec (.nakReceive q n) s = .next y ∧ (x.progressAt + 1600 ≤ s.time → exec (.replayTimeout q) s = .next y))) ∧
    (0 < x.unacked → (x.unackedAt + 200 ≤ s.time → exec (.ackDelayExpiry q) s =
        .next (s.setPort q { x with ctl := x.ctl ++ [(0, (x.rxSeq + 65535) % 65536)], unacked := 0 })) ∧
      (s.time < x.unackedAt + 200 → exec (.ackDelayExpiry q) s = .next s)) ∧
    (∀ v n, v < 3 → 1 ≤ n → n ≤ 8 → exec (.creditReturn q v n) s =
      .next (s.setPort q { x with credits := x.credits.set v (Min.min (if v = 2 then 4 else 16) (x.credits.getD v 0 + n)) })) ∧
    (∀ e, s.nextOut q = some e → e ∈ x.tx ∧ 0 < x.credits.getD (bufOf e.1) 0) ∧
    (∀ t, x.again = 0 → 64 ≤ x.replay.length → exec (.blockSend q t) s = .next (s.setPort q { x with ctl := [] })) ∧
    (∀ b t0 t, x.again = 0 → x.replay.length < 64 → (s.dropPos q).nextOut q = some (b, t0) → b.type ≠ 8 → ∃ u, exec (.blockSend q t) s = .next u ∧
      (u.port q).out = some { b with seq := x.txSeq } ∧ (u.port q).txSeq = (x.txSeq + 1) % 65536 ∧ (u.port q).tx = ((s.dropPos q).port q).tx.erase (b, t0) ∧
      (u.port q).replay = x.replay ++ [⟨{ b with seq := x.txSeq }, 0⟩] ∧ (u.port q).ctl = [] ∧
      (u.port q).credits = x.credits.set (bufOf b) (x.credits.getD (bufOf b) 0 - 1) ∧ u = { s with ports := u.ports, regs := u.regs }) ∧
    (∀ b t, 0 < x.again → x.replay[x.replay.length - x.again]? = some b → b.blk.type ≠ 8 → exec (.blockSend q t) s =
      .next ((s.setPort q { x with ctl := [], again := x.again - 1, out := some b.blk }).inc (Addr.fabPortCnt0 q) 63 32 1))) ∧
  (∀ (s : State) (q : Nat) (x : Port), q < 4 → s.clk (11 + q) = true → x = s.port q →
    (∀ p, s.rb (Addr.fabPortCfg q) 0 = true → s.portState q ≠ 5 → p = s.rf (Addr.fabPortCfg q) 5 3 → exec (.portTrainingStart q) s =
      .next ((s.setPort q { x with esc := false, trainAt := s.time, eq := [⟨p, 0, 0⟩, ⟨p, 0, 0⟩] }).setPortState q 1)) ∧
    ((s.rb (Addr.fabPortCfg q) 0 = false ∨ s.portState q = 5) → exec (.portTrainingStart q) s = .next s) ∧
    (∀ nid np w h loop rtt res, s.portState q = 1 → x.esc = false →
      (s.partnerOk q nid np w h loop = true → ∃ u, exec (.trainingComplete q nid np w h loop rtt res) s = .next u ∧
        u.port q = { x with
          txSeq := 0, rxSeq := 0, replay := [], tx := (x.replay.map fun b => (b.blk, s.time)) ++ x.tx, nakSent := false, unacked := 0,
          credits := [0, 0, 0], ctl := [(2, 8), (2, 8), (2, 24), (2, 24), (2, 36)], again := 0, fails := 0, progressAt := s.time, latAt := s.time } ∧
        u.portState q = (if (s.lanesIn q).length = 2 then 2 else 3) ∧ u.rf (Addr.fabPortStat q) 48 40 = nid % 512 ∧
        u.rf (Addr.fabPortStat q) 54 52 = np % 8 ∧ u.rf (Addr.ptbLinkoff q) 23 0 = (rtt - res) / 2 % 2 ^ 24 ∧
        u = { s with regs := u.regs, ports := u.ports } ∧ s.onlyRegs u [Addr.fabPortStat q, Addr.ptbLinkoff q]) ∧
      (s.partnerOk q nid np w h loop = false → exec (.trainingComplete q nid np w h loop rtt res) s =
        .next (((s.wb (Addr.fabPortStat q) 7 true).setPortState q 4).record (report 12 .config (2 * q) 0)))) ∧
    (s.portState q = 1 → s.time < x.trainAt + 4000000 → exec (.trainingTimeout q) s = .next s) ∧
    (s.portState q = 1 → x.trainAt + 4000000 ≤ s.time → ∀ w, w = s.setPort q { x with fails := x.fails + 1, esc := false, trainAt := s.time } →
      (x.fails < 2 → exec (.trainingTimeout q) s = .next w) ∧
      (2 ≤ x.fails → exec (.trainingTimeout q) s = .next ((w.retire 12 (2 * q)).retire 12 (2 * q + 1)))) ∧
    (∀ b0 b1 rtt res, s.portState q = 1 → x.esc = true → ∀ w, w = s.setPort q { x with
        esc := false, declared := false, fails := 0, replay := x.replay.map (fun (b : Sent) => { b with tries := 0 }),
        again := x.replay.length, ctl := [(3, 0)], progressAt := s.time } →
      (x.declared = false → exec (.fastRetrainComplete q b0 b1 rtt res) s = .next ((w.setLatency q rtt res).goUp q)) ∧
      (x.declared = true → ∀ y, y = State.retire w 12 (2 * q + w.worseLane q b0 b1) →
        (y.portState q = 5 → exec (.fastRetrainComplete q b0 b1 rtt res) s = .next y) ∧
        (y.portState q ≠ 5 → exec (.fastRetrainComplete q b0 b1 rtt res) s = .next ((State.setLatency y q rtt res).goUp q)))) ∧
    (∀ l r, l < 2 → (s.portState q = 1 ∨ s.portUp q = true) → ∀ t, t = x.eq.getD l ⟨0, 0, 0⟩ →
      (r % 16 = 1 → exec (.eqRequest q l r) s = .next (s.setPort q { x with eq := x.eq.set l { t with pre := t.pre + 1 } })) ∧
      (r % 16 = 2 → exec (.eqRequest q l r) s = .next (s.setPort q { x with eq := x.eq.set l { t with pre := t.pre - 1 } })) ∧
      (r % 16 = 3 → exec (.eqRequest q l r) s = .next (s.setPort q { x with eq := x.eq.set l { t with post := t.post + 1 } })) ∧
      (r % 16 = 4 → exec (.eqRequest q l r) s = .next (s.setPort q { x with eq := x.eq.set l { t with post := t.post - 1 } })) ∧
      (r % 16 = 5 → exec (.eqRequest q l r) s = .next (s.setPort q { x with eq := x.eq.set l ⟨r / 16 % 16, 0, 0⟩ }))))

/-- A WR is written where a window permits it and answered at its LAST block; an RDREQ is answered with the data or RDNAK, a FLAG stores 8
bytes; a response goes to the transfer it answers, else it is counted; a tag that fails is counted; E2ETO sends again; epochs advance and retire. -/
def Obligations.FabricTransfers : Prop :=
  ∀ (s w : State) (src : Src) (q p : Nat) (b : Block) (v : W64), q ≤ 4 → 1 ≤ p → p ≤ 4 →
    (∀ t, s.rxHead q t = some b → s.domPart b.dom = none → ∀ c ∈ [(Instr.wrReceive q, 1), (.wrackReceive q, 2), (.wrnakReceive q, 3),
        (.rdreqReceive q 0, 4), (.rdrspReceive q, 5), (.rdnakReceive q, 6), (.flagReceive q, 7)],
      c.2 = t → exec c.1 s = .next ((s.sat Addr.fabDrop 31 0 1).rxDrop q b)) ∧
    (s.domPart b.dom = some p → w = s.rxDrop q b →
      (s.rxHead q 1 = some b → s.impWaits p .write (b.off * 64) ((s.open_ p b).getD []).length = false →
        (w.open_ p b = none → b.last = false → exec (.wrReceive q) s = .next { w with wrFail := w.wrFail ++ [(b.src, b.dom, 1)] }) ∧
        (∀ pay, w.open_ p b = some pay →
          (w.impAddr p .write (b.off * 64) pay.length = none → b.last = false →
            exec (.wrReceive q) s = .next { w with wrFail := w.wrFail ++ [(b.src, b.dom, 2)] }) ∧
          (∀ d y, w.impAddr p .write (b.off * 64) pay.length = some d → y = w.impWrite p d pay →
            (b.last = false → exec (.wrReceive q) s = .next y) ∧
            (b.last = true → ∀ z r, r = State.wrReason y b.src b.dom →
              z = { y with wrFail := y.wrFail.filter fun e => !(e.1 == b.src && e.2.1 == b.dom) } →
              (r = 0 → exec (.wrReceive q) s = .next (State.answer z p 2 b.src b.off [])) ∧
              (r ≠ 0 → exec (.wrReceive q) s = .next (State.nak z p 3 b.src b.off r)))))) ∧
      (∀ f pay n, s.rxHead q 4 = some b → s.impWaits p .read (b.off * 64) (recNat ((s.open_ p b).getD []) 0 4) = false →
        w.open_ p b = some pay → n = recNat pay 0 4 →
        ((n % 64 ≠ 0 ∨ n < 64 ∨ 4096 < n ∨ w.impAddr p .read (b.off * 64) n = none) →
          exec (.rdreqReceive q f) s = .next (w.nak p 6 b.src b.off 2)) ∧
        (∀ d, n % 64 = 0 → 64 ≤ n → n ≤ 4096 → w.impAddr p .read (b.off * 64) n = some d → ∀ y data ok, w.impRead p d n f = ⟨y, data, ok⟩ →
          exec (.rdreqReceive q f) s = .next (if ok then State.sendRsp y p b.src (b.off * 64) data else State.nak y p 6 b.src b.off 2))) ∧
      (∀ pay off, s.rxHead q 7 = some b → s.impWaits p .write (recNat ((s.open_ p b).getD []) 0 8) 8 = false → w.open_ p b = some pay →
        off = recNat pay 0 8 →
        ((off % 8 ≠ 0 ∨ w.impAddr p .write off 8 = none) → exec (.flagReceive q) s = .next (w.nak p 3 b.src (off / 64) 2)) ∧
        (∀ d, off % 8 = 0 → w.impAddr p .write off 8 = some d → exec (.flagReceive q) s =
          .next ((w.impWrite p d ((pay.drop 8).take 8)).answer p 2 b.src (off / 64) []))) ∧
      (w.open_ p b = none → ∀ c ∈ [(Instr.wrackReceive q, 2), (.wrnakReceive q, 3), (.rdnakReceive q, 6)],
        s.rxHead q c.2 = some b → exec c.1 s = .next (w.tagFail p)) ∧
      (∀ pay, w.open_ p b = some pay → w.match_ p b = none →
        ∀ c ∈ [(Instr.wrackReceive q, 2), (.wrnakReceive q, 3), (.rdrspReceive q, 5), (.rdnakReceive q, 6)],
        s.rxHead q c.2 = some b → exec c.1 s = .next (w.sat Addr.fabE2e 15 0 1)) ∧
      (∀ pay o x, w.open_ p b = some pay → w.match_ p b = some (o, x) →
        (s.rxHead q 2 = some b → x.kind = 2 → exec (.wrackReceive q) s =
          .next (w.putOp { o with moved := o.moved + 1, resend := 0, xfer := none })) ∧
        (s.rxHead q 2 = some b → x.kind = 3 → exec (.wrackReceive q) s = .next (w.endOp o 0 o.flags)) ∧
        (s.rxHead q 2 = some b → x.kind ≠ 2 → x.kind ≠ 3 → exec (.wrackReceive q) s = .next (w.moveDone o x.buf x.len)) ∧
        (s.rxHead q 3 = some b → recNat pay 0 1 = 1 → exec (.wrnakReceive q) s = .next (w.resend o x)) ∧
        (s.rxHead q 3 = some b → recNat pay 0 1 ≠ 1 → exec (.wrnakReceive q) s = .next (w.moveFail o o.resend)) ∧
        (s.rxHead q 5 = some b → exec (.rdrspReceive q) s = .next (w.gotData o x b pay)) ∧
        (s.rxHead q 6 = some b → exec (.rdnakReceive q) s = .next (w.moveFail o o.resend)))) ∧
    (∀ uid o x, s.opOf uid = some o → o.xfer = some x →
      (x.at_ + 400 * Max.max 1 (s.rf Addr.fabCfg 63 48) ≤ s.time →
        exec (.e2eTimeout uid) s = .next ((s.sat Addr.fabE2e 31 16 1).resend o x)) ∧
      (s.time < x.at_ + 400 * Max.max 1 (s.rf Addr.fabCfg 63 48) → exec (.e2eTimeout uid) s = .next s)) ∧
    (TakesWrite s src .fabPartEpoch p (Addr.fabPartEpoch p) → ∀ c, c = s.rf (Addr.fabPartEpoch p) 7 0 →
      ((c = 255 ∨ s.fabKey p (c + 1) = none) → exec (.fabricEpochAdvance src p v) s = .next (s.wb (Addr.fabPartStat p) 1 true)) ∧
      (c < 255 → (s.fabKey p (c + 1)).isSome = true → ∃ u, exec (.fabricEpochAdvance src p v) s = .next u ∧
        u.rf (Addr.fabPartEpoch p) 7 0 = c + 1 ∧ u.rf (Addr.fabPartEpoch p) 15 8 = c ∧ u.rb (Addr.fabPartEpoch p) 16 = !v.getLsbD 25 ∧
        u.rd (Addr.fabPartCtr p) = 0 ∧ u = { s with regs := u.regs, keys := u.keys } ∧
        s.onlyRegs u [Addr.fabPartEpoch p, Addr.fabPartCtr p]) ∧
      (∃ u, exec (.fabricEpochRetire src p v) s = .next u ∧ u.rb (Addr.fabPartEpoch p) 16 = false ∧ u.rf (Addr.fabPartEpoch p) 15 0 =
        s.rf (Addr.fabPartEpoch p) 15 0 ∧ u = { s with regs := u.regs, keys := u.keys } ∧ s.onlyRegs u [Addr.fabPartEpoch p]))

/-- The link comes up with its width and speed; an endpoint reset clears configuration, MSI-X state and the endpoint's registers, a function
level reset those of one function; configuration requests, BAR2 accesses, scans and event rings answer as chapter 14 says. -/
def Obligations.HostInterface : Prop :=
  ∀ (s : State) (src : Src) (f : Nat) (v : W64), f < 5 →
    (∀ w p, s.pciOn = true → w ∈ [1, 2, 4, 8] → 1 ≤ p → p ≤ 4 → ∃ u, exec (.pcieLinkUp w p) s = .next u ∧ u = { s with regs := u.regs } ∧
      s.onlyRegs u [Addr.pciLink] ∧ u.linkUp = true ∧ u.rf Addr.pciLink 31 16 = w ∧ u.rf Addr.pciLink 7 0 = p) ∧
    (∃ u, exec .endpointReset s = .next u ∧ (s.linkUp = true → exec .pcieLinkDown s = .next u) ∧ u.linkUp = false ∧
      u = { s with regs := u.regs, evrings := u.evrings, pcie := { s.pcie with cfg := [], msix := [], scan := none } } ∧
      (∀ off, u.rd off = if 0xC00000 ≤ off ∧ off < 0xD00000 then resetOf off else s.rd off) ∧
      u.evring f = { s.evring f with cons := 0, readAt := none, stopped := false, intAt := none, intPend := false }) ∧
    (s.linkUp = false → exec .pcieLinkDown s = .next s) ∧
    (s.linkUp = true → f < s.pcie.nfunc.getD 0 → ∃ w, exec (.functionLevelReset f) s = .next (State.supEvent w) ∧
      w.rb (Addr.pciFnStat f) 2 = true ∧ w.msi f = msix0 ∧ w.pcie.nfunc = s.pcie.nfunc ∧ (∀ g, g ≠ f → w.msi g = s.msi g) ∧
      (∀ g d, g < 5 → d < 1024 → w.cfgStored g d = if g = f then 0 else s.cfgStored g d) ∧
      (∀ n, s.pcie.scan = some (f, n) → w.pcie.scan = none) ∧
      (∀ off, isFnReg f off = true → off ≠ Addr.pciFnStat f → w.rd off = resetOf off) ∧
      (∀ off, isFnReg f off = false → off ≠ Addr.pciRqStat → w.rd off = s.rd off) ∧
      w = { s with regs := w.regs, pcie := w.pcie, evrings := w.evrings }) ∧
    (∀ wr off (x : W32), off < 4096 → s.pciOn = true →
      (s.pcie.nfunc = none → exec (.configRequest f wr off x) s = .next (s.reply 2 [])) ∧
      (∀ n, s.pcie.nfunc = some n → n ≤ f → exec (.configRequest f wr off x) s = .next (s.reply 1 [])) ∧
      (∀ n, s.pcie.nfunc = some n → f < n →
        (off < 4 → exec (.configRequest f false off x) s =
          .next (s.tlp.reply 0 (bytesOf 4 ((if f = 0 then 0x0648 else 0x0649) * 65536 + 0x1EA7)))) ∧
        (exec (.configRequest f false off x) s = .next (s.tlp.reply 0 (bytesOf 4 (s.tlp.cfgRead f (off / 4)).toNat))) ∧
        exec (.configRequest f true off x) s = .next ((s.tlp.cfgWrite f (off / 4) x).reply 0 []))) ∧
    (∀ off len flt, s.bar2Ok f off len = true →
      (s.bar2Addr f off len .read = none → exec (.bar2Read f off len flt) s =
        .next ((s.wb (Addr.pciFnStat f) 1 true).reply 0 (List.replicate len 0xFF))) ∧
      (∀ d y data, s.bar2Addr f off len .read = some d → s.mustWait d = false →
        (s.readMem f d len flt = ⟨y, data, true⟩ → exec (.bar2Read f off len flt) s = .next (y.reply 0 data)) ∧
        (s.readMem f d len flt = ⟨y, data, false⟩ → exec (.bar2Read f off len flt) s =
          .next ((State.wb y (Addr.pciFnStat f) 1 true).reply 5 data)))) ∧
    (∀ off (data : List Byte), s.bar2Ok f off data.length = true →
      (s.bar2Addr f off data.length .write = none → exec (.bar2Write f off data) s = .next (s.wb (Addr.pciFnStat f) 1 true)) ∧
      (∀ d, s.bar2Addr f off data.length .write = some d → s.mustWait d = false →
        exec (.bar2Write f off data) s = .next (s.writeMem f d data))) ∧
    (∀ uid q o w, s.startOps.opOf uid = some q → q.start.isSome = true → s.startOps.goes q = true → s.startOps.opWaits q = false →
      o = (if s.startOps.maskSub q = true then { q with flags := q.flags ||| 32 } else q) → w = s.startOps.putOp o →
      w.onTurn o = true → w.readsHost o = true → exec (.hostReadFail (.mover uid)) s = .next (w.moveFail o 0).startOps) ∧
    (∀ t a d, Runs s t → s.devAddr (s.thPart t) .read a.toNat 1 = some d → region d = .host →
      Traps (.hostReadFail (.scalar t a)) s t .dataErr a) ∧
    (TakesWrite s src .pciRqCmd 0 Addr.pciRqCmd → ∀ g, g = fld v 2 0 →
      (g < 5 → s.rb (Addr.pciFnRqcfg g) 0 = true → s.pcie.scan = none → exec (.requestScan src v) s =
        .next (({ s with pcie := { s.pcie with scan := some (g, s.nslot g) } }).wb Addr.pciRqStat 16 true)) ∧
      ((s.rb (Addr.pciFnRqcfg g) 0 = false ∨ s.pcie.scan ≠ none) → exec (.requestScan src v) s = .next s)) ∧
    (∀ n fails, s.pcie.scan = some (f, n) → s.meshOn = true → s.pciOn = true → ∃ w, exec (.requestScanComplete fails) s =
      .next (State.supEvent w) ∧ w.rd Addr.pciRqStat = BitVec.ofNat 64 ((List.range n).filter fun i =>
        s.linkUp && !fails.contains i && slotPending (s.hostRead (s.rf (Addr.pciFnRqbase f) 63 8 * 256 + 256 * i) 8)).length) ∧
    (TakesWrite s src .pciEvpost 0 Addr.pciEvpost → ∀ g a y data, g = fld v 50 48 → a = fld v 47 6 * 64 → g < 5 → region a = .global →
      s.readMem 0 a 64 0 = ⟨y, data, true⟩ →
      ((y.evring g).q.length < 256 → exec (.evpost src v) s = .next (State.setEvring y g { y.evring g with
        q := (y.evring g).q ++ [⟨3, y.time, fit 48 (data.drop 16)⟩] })) ∧
      (256 ≤ (y.evring g).q.length → exec (.evpost src v) s = .next (State.sat y (Addr.pciFnStat g) 63 32 1))) ∧
    (∀ r q pidx log, (s.evring f).q = r :: q → pidx = s.rf (Addr.pciFnEvpidx f) 31 0 → log = ringLog (s.rf (Addr.pciFnEvcfg f) 12 8) →
      ((ringFull pidx (s.evring f).cons log = true ∨ (s.evring f).stopped = true ∨ s.linkUp = false) →
        exec (.eventRecordWrite f) s = .next s) ∧
      (s.rb (Addr.pciFnEvcfg f) 0 = true → (s.evring f).stopped = false → s.linkUp = true → s.pciOn = true →
        ringFull pidx (s.evring f).cons log = false → ∃ w, exec (.eventRecordWrite f) s = .next (State.evInt w f) ∧
        (w.evring f).q = q ∧ w.rf (Addr.pciFnEvpidx f) 31 0 = (pidx + 1) % 2 ^ 32 ∧
        w.host = ((s.hostWrite (s.rf (Addr.pciFnEvbase f) 63 12 * 4096 + 64 * (pidx % 2 ^ log))
          (EvRec.bytes r pidx (pidx / 2 ^ log % 2))).hostWrite (s.rf (Addr.pciFnEvpaddr f) 63 3 * 8) (bytesOf 4 (pidx + 1))).host ∧
        w = { s with host := w.host, regs := w.regs, evrings := w.evrings }))

/-- Windows of OPSW operations follow one another; suspicion follows the window's errors and the exhaustions within XWIN; a threshold write
starts afresh; RET retires; the watchdog, once due, stops the pair with cause 0x101, a request with 0x102; records carry the next HSEQ. -/
def Obligations.HealthLedger : Prop :=
  ∀ (s : State) (src : Src) (k u : Nat) (v : W64), 1 ≤ k → k ≤ 13 →
    (u < kindUnits k → ∀ h n, h = s.hu k u → n = Max.max 1 (s.rf (Addr.hltKindThr k) 31 0) →
      (n ≤ h.ops → exec (.errorWindowEnd k u) s = .next ((s.setHu k u { h with ops := h.ops % n, errs := 0 }).susSync k u)) ∧
      (h.ops < n → exec (.errorWindowEnd k u) s = .next s) ∧
      (s.suspect k u = true ↔ 0 < h.errs ∨ ∃ t ∈ h.exh, s.time ≤ t + 400000000 * Max.max 1 (s.rf (Addr.hltKindThr k) 63 48)) ∧
      (s.suspect k u = false → k ≠ 1 → k ≠ 2 → exec (.suspectExpiry k u) s = .next (s.wb (susBit k u).1 (susBit k u).2 false)) ∧
      (∃ y, exec (.suspectExpiry k u) s = .next y ∧ y.rb (susBit k u).1 (susBit k u).2 = s.suspect k u ∧ y.health = s.health)) ∧
    (TakesWrite s src .hltKindThr k (Addr.hltKindThr k) → ∃ y, exec (.thresholdWrite src k v) s = .next y ∧
      y.rd (Addr.hltKindThr k) = s.stored (Addr.hltKindThr k) v ∧
      ∀ j n, n < 4096 → y.hu j n = if j = k then unit0 else s.hu j n) ∧
    (TakesWrite s src .hltKindRet k (Addr.hltKindRet k) → exec (.retireWrite src k v) s = .next
      (((List.range (Min.min 64 (kindUnits k))).filter fun n => v.getLsbD n).foldl (fun s n => s.retire k n) s)) ∧
    ((k = 9 ∨ k = 10 ∨ k = 13 ∨ s.rb (Addr.hltKindRet k) u = true) → s.retire k u = s) ∧
    (∀ n, n = s.rf Addr.hltCkptint 15 0 → s.ptbOn = true →
      (n ≠ 0 → s.sup.ckpt + 400000000 * n ≤ s.time → exec .checkpointDue s =
        .next (State.supEvent { s with sup := { s.sup with ckpt := s.time } })) ∧
      ((n = 0 ∨ s.time < s.sup.ckpt + 400000000 * n) → exec .checkpointDue s = .next s)) ∧
    (TakesWrite s src .hltWdkick 0 Addr.hltWdkick → exec (.watchdogKick src v) s = .next { s with sup := { s.sup with kick := s.time } }) ∧
    (s.pairUp = true → s.rb Addr.hltWdog 32 = true → ∀ d, d = s.sup.kick + 400000 * Max.max 1 (s.rf Addr.hltWdog 15 0) →
      (d ≤ s.time → ∃ y, exec .watchdogExpiry s = .next y ∧ y.sup.st = .stopped ∧ y.sup.kick = s.time ∧ y.sup.g1 = 0x101) ∧
      (s.time < d → exec .watchdogExpiry s = .next s)) ∧
    (TakesWrite s src .hltScctl 0 Addr.hltScctl → (s.pairUp = true → exec (.requestedRestart src v) s =
        .next ((s.stopPair 4 0x102).promoteStaged)) ∧
      (s.pairUp = false → exec (.requestedRestart src v) s = .next s)) ∧
    (∀ r h, r.part ≤ 4 → s.rf Addr.hltCfg 15 0 = 0 → h = (if s.rf Addr.errHead 31 0 + 1 = 2 ^ 32 then 1 else s.rf Addr.errHead 31 0 + 1) → ∀ y e,
      y = s.record r → e = Sparse.get (fun _ => err0) (State.recs y) (h % 4096) → y.rf Addr.errHead 31 0 = h ∧ e.hseq = h ∧
        e.kind = r.kind ∧ e.cond = r.cond.code ∧ e.unit = r.unit ∧ e.part = r.part ∧ e.time = s.time ∧
        ∀ i, i ≠ h % 4096 → Sparse.get (fun _ => err0) (State.recs y) i = Sparse.get (fun _ => err0) s.recs i)

/-- A write to an offset that no chapter defines changes nothing, and a read of it gives zero.
A write that a rule forbids is ignored, and a read that a rule forbids returns zero. -/
def Obligations.IgnoredAccesses : Prop :=
  (∀ (s : State) (src : Src) (off : Nat) (be : BitVec 8) (v : W64), okSrc src = true → (∀ f, src ≠ .pf f) → off < 0x4000000 →
    locate off = none → exec (.registerWrite src off be v) s = .next s ∧ s.regRead src off be = (0, s)) ∧
  (∀ (s : State) (src : Src) (off : Nat) (v : W64) (row : RegRow) (ix : List Nat), okSrc src = true → (∀ f, src ≠ .pf f) → off < 0x4000000 →
    locate off = some (row, ix) →
    (s.mayWrite src row.id (ix0 ix) = false → s.regLive off = true → exec (.registerWrite src off 0xFF v) s = .next s) ∧
    (∀ be, s.mayRead src row.id off (ix0 ix) = false → (s.regRead src off be).1 = 0 ∧ (s.regRead src off be).2 = s))

/-- A register write: held while its domain's clock is stopped; else a register without a behaviour of its own takes it in its writable
bits, and so do four whose write has a consequence too (the scan axis, a model table, a ring's size, a connection's enable); BAR0 reaches the register region from PF0, a view of it from the others, and counts an access of a wrong size. -/
def Obligations.RegisterWrites : Prop :=
  ∀ (s : State) (src : Src) (off f o : Nat) (be : BitVec 8) (v : W64) (row : RegRow) (ix : List Nat), s.pmu.on = true →
    ((src = .sup ∨ ∃ p, src = .part p ∧ 1 ≤ p ∧ p ≤ 4) → off < 0x4000000 → locate off = some (row, ix) →
      (s.regLive off = false → exec (.registerWrite src off 0xFF v) s = .next { s with held := s.held ++ [⟨src, off, 0xFF, v⟩] }) ∧
      (s.regLive off = true → s.mayWrite src row.id (ix0 ix) = true → row.id ∈ [.ptbAxVcfg, .ptbAxZload, .ptbSlotTgt, .ptbSlotStep,
          .ptbBcastCfg, .ingCamOut, .ingCamLat, .ingCalCfg, .ingCalTgt, .ingCalBnd, .ingCalSrc, .ingBgLo, .ingBgHi, .ingRingBase,
          .cxpCamTrig, .jesLat, .vdlPartBudget, .vdlPartQ, .vdlRingBase, .vdlRingPaddr,
          .vdlRingCaddr, .awPartTree, .awPartTpoolBase, .awPartTpoolRec, .awPartPoolBase, .awPartPoolRec, .sqStrBack, .memRotCfg,
          .memScrubCfg, .fabRt, .fabPartImpBase, .fabPartImpSize, .fabPartImpLocal, .pciFnWin, .pciFnHwbase, .pciFnRqbase, .pciFnRqcfg,
          .pciFnRqmir, .pciFnEvbase, .pciFnEvcfg, .pciFnEvpaddr, .pciFnEvcaddr, .hltCkptint, .hltWdog, .hltScthr, .errPevt,
          .truNonce, .pmuWakeen, .pmuAoncmp, .pmuResume, .cluBasepc] → ∀ n, n = (s.rd off &&& ~~~row.rw ||| v &&& row.rw) &&& ~~~(row.w1c &&& v) →
        exec (.registerWrite src off 0xFF v) s = .next (s.wr off n)) ∧
      (s.regLive off = true → s.mayWrite src row.id (ix0 ix) = true → ∀ w, w = s.wr off (s.stored off v) →
        (row.id = .ptbPartScan → exec (.registerWrite src off 0xFF v) s = .next (w.checkPassed (fld (s.stored off v) 1 0))) ∧
        (row.id = .vdlPartMtab → exec (.registerWrite src off 0xFF v) s = .next (w.reseed (ix0 ix))) ∧
        (row.id = .vdlRingCfg → exec (.registerWrite src off 0xFF v) s = .next (w.ringSync (ix0 ix))) ∧
        (row.id = .cxpConCfg → exec (.registerWrite src off 0xFF v) s = .next
          (if (s.stored off v).getLsbD 0 = true ∧ fld (s.stored off v) 11 8 ∈ [1, 2, 3, 5, 6, 10, 12] then w
            else w.wb (Addr.cxpConStat (ix0 ix)) 0 false)))) ∧
    (f ≤ 4 → o < srcSize (.pf f) → (s.linkUp = false → exec (.registerWrite (.pf f) o be v) s = .next s) ∧
      (s.linkUp = true → s.clk 10 = true → s.clk 0 = true → f < s.pcie.nfunc.getD 0 →
        (bar0Be f o be = false → exec (.registerWrite (.pf f) o be v) s = .next { s with pcie := { s.pcie with aer := s.pcie.aer + 1 } }) ∧
        (bar0Be f o be = true → o % 8 = 0 → (f = 0 → o < 0x3FF0000 → exec (.registerWrite (.pf f) o be v) s = .next (s.regWrite (.pf f) o be v)) ∧
          (f ≠ 0 → o < 0x100000 → exec (.registerWrite (.pf f) o be v) s =
            .next (s.regWrite (.pf f) (o / 0x10000 * 0x100000 + o % 0x10000) be v)) ∧
          (f ≠ 0 → 0x280000 ≤ o → o < 0x3F0000 → exec (.registerWrite (.pf f) o be v) s = .next s) ∧
          ((if f = 0 then 0x3FF0000 else 0x3F0000) ≤ o → exec (.registerWrite (.pf f) o be v) s =
            .next (s.msixWrite f (o - if f = 0 then 0x3FF0000 else 0x3F0000) be v)))))

/-- A partition is created of clusters that may join, or resized while the clusters that leave are idle, else ERR is set; a cluster that
leaves is cleared; HADV advances the host epoch with a fresh key; TEAR runs the steps of a teardown, Q after its start to the end. -/
def Obligations.Partitions : Prop :=
  ∀ (s : State) (src : Src) (p x c : Nat) (v : W64), 1 ≤ p → p ≤ 4 → x = fld v 5 0 → c < 6 →
    (TakesWrite s src .truPartCfg p (Addr.truPartCfg p) →
      (s.partState p = 0 → x ≠ 0 → (∀ k, k < 6 → x.testBit k = true → s.cluLive k = true ∧ s.cluPart k = 0) → p < s.pcie.nfunc.getD 0 →
        ∃ u, exec (.partitionCreate src p v) s = .next u ∧ u.partState p = 1 ∧ u.rf (Addr.truPartStat p) 15 8 = 1 ∧
          (∀ k, k < 6 → u.cluPart k = if x.testBit k then p else s.cluPart k) ∧
          (u.key p).host = [⟨1, fit 32 (Config.random s.trust.drawn), none⟩] ∧ (∀ k, k ≠ p → u.key k = s.key k) ∧
          u = { s with regs := u.regs, keys := u.keys, trust := { s.trust with drawn := s.trust.drawn + 1 } }) ∧
      (s.partState p = 0 → (x = 0 ∨ (∃ k, k < 6 ∧ x.testBit k = true ∧ (s.cluLive k = false ∨ s.cluPart k ≠ 0)) ∨ s.pcie.nfunc.getD 0 ≤ p) →
        exec (.partitionCreate src p v) s = .next (s.wb (Addr.truPartStat p) 32 true)) ∧
      (s.partState p = 1 → x ≠ 0 → (∀ k, k < 6 → x.testBit k = true → s.cluPart k = p ∨ s.cluLive k = true ∧ s.cluPart k = 0) →
        (∀ k, k < 6 → x.testBit k = false → s.cluPart k = p → s.cluIdle k = true) →
        exec (.partitionResize src p v) s = .next (s.resizePart p x)) ∧
      (s.partState p = 1 → (x = 0 ∨ (∃ k, k < 6 ∧ x.testBit k = false ∧ s.cluPart k = p ∧ s.cluIdle k = false)) →
        exec (.partitionResize src p v) s = .next (s.wb (Addr.truPartStat p) 32 true)) ∧
      (2 ≤ s.partState p → exec (.partitionCreate src p v) s = .next (s.wb (Addr.truPartStat p) 32 true))) ∧
    (∀ u, u = s.clearCluster c → c ∈ u.pmu.clearing ∧ (∀ d, cluBase c ≤ d → d < cluBase c + 0x2000000 → u.byte d = 0) ∧
      (∀ d, d < cluBase c ∨ cluBase c + 0x2000000 ≤ d → u.byte d = s.byte d) ∧ (∀ k, k < 64 → u.ctx c k = ctx0)) ∧
    exec (.clusterClearComplete c) s = .next { s with pmu := { s.pmu with clearing := s.pmu.clearing.filter (· != c) } } ∧
    (TakesWrite s src .truPartCtl p (Addr.truPartCtl p) →
      (s.partState p ≠ 1 → exec (.hostEpochAdvance src p v) s = .next s ∧ exec (.teardown src p v) s = .next s) ∧
      (s.partState p = 1 → exec (.teardown src p v) s = .next (s.tearStart p)) ∧
      (s.partState p = 1 → ∃ u, exec (.hostEpochAdvance src p v) s = .next u ∧
        u.rf (Addr.truPartStat p) 15 8 = s.rf (Addr.truPartStat p) 15 8 % 255 + 1 ∧
        u.rf (Addr.truPartStat p) 23 16 = s.rf (Addr.truPartStat p) 15 8 ∧ u.rb (Addr.truPartStat p) 24 = !v.getLsbD 2 ∧
        (∀ off, off ≠ Addr.truPartStat p → u.rd off = s.rd off) ∧ (∀ k, k ≠ p → u.key k = s.key k) ∧
        u = { s with regs := u.regs, keys := u.keys, trust := { s.trust with drawn := s.trust.drawn + 1 } })) ∧
    ((s.partState p = 2 ∧ (s.td p).step = 1 ∧ s.jobsLeft p = false) → exec (.teardownScrub p) s = .next (s.tearScrub p)) ∧
    ((s.partState p ≠ 2 ∨ (s.td p).step ≠ 1 ∨ s.jobsLeft p = true) → exec (.teardownScrub p) s = .next s) ∧
    (s.partState p = 2 → (s.td p).step = 2 → (s.td p).t1 + 407200 ≤ s.time → (∀ k, k < 6 → s.cluPart k = p → k ∉ s.pmu.clearing) →
      exec (.teardownComplete p) s = .next (s.tearEnd p)) ∧
    (s.time < (s.td p).t1 + 407200 → exec (.teardownComplete p) s = .next s)

/-- The commands of TRU_CMD by the supervisor program: one sets BUSY and its result shows when it ends; one meanwhile sets OVR. An image
passes only with a good header, signature and version; a measurement takes the hash of itself and the extension. -/
def Obligations.TrustCommands : Prop :=
  ∀ (s : State) (blk a : Nat) (ok : Bool) (i : Instr) (r : Nat) (u b : State), a = blk % 2 ^ 48 / 64 * 64 →
    b = s.wb Addr.truCmdstat 63 true →
    (s.rb Addr.truCmdstat 63 = false →
      (i = .cfgwrite .sup blk ok ∧ (r, u) = State.cfgWriteCmd b a ok ∨ i = .stage .sup blk ∧ (r, u) = State.stageCmd b a ∨
        i = .unstage .sup blk ∧ (r, u) = State.unstageCmd b ∨ i = .extend .sup blk ∧ (r, u) = State.extendCmd b a ∨
        i = .loadseed .sup blk ok ∧ (r, u) = State.loadSeedCmd b a ok) →
      exec i s = .next { u with trust := { u.trust with result := some r } }) ∧
    (i ∈ [.cfgwrite .sup blk ok, .stage .sup blk, .unstage .sup blk, .extend .sup blk, .loadseed .sup blk ok] →
      s.rb Addr.truCmdstat 63 = true → exec i s = .next (s.wb Addr.truCmdstat 8 true)) ∧
    (∀ src, src ≠ .sup → i ∈ [.cfgwrite src blk ok, .stage src blk, .unstage src blk, .extend src blk, .loadseed src blk ok] →
      exec i s = .next s) ∧
    (s.trust.result = none → exec .truCommandComplete s = .next s) ∧
    (s.trust.result = some r → r < 256 → ∃ w, exec .truCommandComplete s = .next w ∧ w.rb Addr.truCmdstat 63 = false ∧
      w.rf Addr.truCmdstat 7 0 = r ∧ (∀ off, off ≠ Addr.truCmdstat → w.rd off = s.rd off) ∧
      w = { s with regs := w.regs, trust := { s.trust with result := none } }) ∧
    (∀ pk minv m img, checkImage pk minv img = .ok m ↔ imgOf img = some m ∧ 64 + m.body + 29792 ≤ img.length ∧
      Config.slhVerify true pk (img.take (64 + m.body)) "CV648 image" (sub img (64 + m.body) 29792) = true ∧ minv ≤ m.ver) ∧
    (∀ (t k : Nat) (d : List Byte) (w : State), t ≤ 6 → w = s.extendM t d k → w.trust.logn = s.trust.logn + 1 ∧
      w.trust.supmeas = (if t = 6 then shake (s.trust.supmeas ++ d) else s.trust.supmeas) ∧
      (t < s.trust.cmeas.length → t ≠ 6 → w.trust.cmeas = s.trust.cmeas.set t (shake (s.trust.cmeas.getD t [] ++ d))) ∧
      w = { s with regs := w.regs, trust := w.trust }) ∧
    (∀ p k e, 1 ≤ p → p ≤ 4 → k = s.key p → e = s.rf (Addr.fabPartEpoch p) 7 0 + 1 →
      (∀ seed, k.seed = some seed → 1 < e → e ≤ 255 → s.fabKey p e = none → exec (.keyDeriveComplete p) s =
        .next (s.setKey p { k with fab := k.fab ++ [⟨e, fabricKey seed (s.domOf p) k.era e, none⟩] })) ∧
      ((k.seed = none ∨ 255 < e ∨ (s.fabKey p e).isSome = true) → exec (.keyDeriveComplete p) s = .next s) ∧
      (∃ w, exec (.keyZeroise p false) s = .next w ∧ (w.key p).fab = k.fab.filter (fun h => !h.stale s.time) ∧ (w.key p).host = k.host ∧
        w = { s with keys := w.keys }) ∧
      (∃ w, exec (.keyZeroise p true) s = .next w ∧ (w.key p).host = k.host.filter (fun h => !h.stale s.time) ∧ (w.key p).fab = k.fab ∧
        w = { s with keys := w.keys })) ∧
    (exec .rngReseed s = .next { s with freeCtr :=
      if s.pmu.on = true ∧ s.trust.drawn ≠ 0 ∧ s.trust.drawn % 2 ^ 20 = 0 then s.freeCtr + 1 else s.freeCtr })

/-- GO makes a report on the nonce, or one pending behind the report being signed; the signed report is written and counted; a challenge is
fresh and used once; a good token unlocks for its life; a relock or the end of the life locks. -/
def Obligations.AttestationAndDebug : Prop :=
  ∀ (s : State) (src : Src) (v : W64),
    (TakesWrite s src .truAttctl 0 Addr.truAttctl →
      (s.trust.signing = none → exec (.attestGo src v) s =
        .next (State.attSync { s with trust := { s.trust with signing := some (s.reportBytes s.nonce) } })) ∧
      (s.trust.signing ≠ none → exec (.attestGo src v) s = .next (State.attSync { s with trust := { s.trust with pending := some s.nonce } }))) ∧
    (s.trust.signing = none → exec .attestComplete s = .next s) ∧
    (∀ r, s.trust.signing = some r → r.length = 1024 → ∃ u, exec .attestComplete s = .next u ∧
      (∀ i, i < 128 → u.rd (Addr.truReport i) = BitVec.ofNat 64 (recNat r (8 * i) 8)) ∧
      u.rf Addr.truAttstat 31 0 = (s.rf Addr.truAttstat 31 0 + 1) % 2 ^ 32 ∧ u.trust.pending = none ∧ u.rb Addr.truAttstat 62 = false ∧
      u.rb Addr.truAttstat 63 = s.trust.pending.isSome ∧ u.trust.signing.isSome = s.trust.pending.isSome ∧
      u = { s with regs := u.regs, trust := u.trust }) ∧
    (TakesWrite s src .truRecov 0 Addr.truRecov →
      (s.rf Addr.truStat 3 0 = 0 → exec (.claimPackage src v) s = .next s) ∧
      (s.rf Addr.truStat 3 0 ≠ 0 → exec (.claimPackage src v) s =
        .next { s with trust := { s.trust with claim := some (fld v 47 0) } })) ∧
    (TakesRead s src .truDbgchal 0 (Addr.truDbgchal 0) →
      (s.trust.dbgToken = false → exec (.debugChallenge src) s =
        .next { s with latch := s.rd (Addr.truDbgchal 0), lastRd := s.rd (Addr.truDbgchal 0) }) ∧
      (s.trust.dbgToken = true → ∀ c, c = fit 32 (Config.random s.trust.drawn) → ∃ u, exec (.debugChallenge src) s = .next u ∧
        u.trust = { s.trust with drawn := s.trust.drawn + 1, challenge := some c } ∧
        u.lastRd = BitVec.ofNat 64 (recNat c 0 8) ∧ (∀ i, i < 4 → u.rd (Addr.truDbgchal i) = BitVec.ofNat 64 (recNat c (8 * i) 8)) ∧
        u = { s with regs := u.regs, trust := u.trust, latch := u.latch, lastRd := u.lastRd })) ∧
    (TakesWrite s src .truToken 4095 (Addr.truToken 4095) → ∃ u, exec (.debugToken src v) s = .next u ∧
      u.rd (Addr.truToken 4095) = v ∧ (∀ off, off ≠ Addr.truToken 4095 → u.rd off = s.rd off) ∧
      u = { s with regs := u.regs, trust := { s.trust with token := true } }) ∧
    (s.trust.token = false → exec .debugUnlock s = .next s) ∧
    (s.trust.token = true → s.tokenOk s.tokenBytes = false → ∃ u, exec .debugUnlock s = .next u ∧
      u.trust = { s.trust with token := false, challenge := none } ∧ (∀ i, i < 4 → u.rd (Addr.truDbgchal i) = 0) ∧
      u = { s with regs := u.regs, trust := u.trust }) ∧
    (s.trust.token = true → s.tokenOk s.tokenBytes = true → ∃ u, exec .debugUnlock s = .next u ∧
      u.trust.unlockEnd = some (s.rf Addr.pmuAontime 47 0 + recNat s.tokenBytes 68 4 * 32768) ∧ u.trust.challenge = none ∧
      u.trust.token = false ∧ u.rf Addr.truDbgstat 7 0 = recNat s.tokenBytes 64 1 ∧ u.rb Addr.truStat 6 = true) ∧
    (TakesWrite s src .truDbgctl 0 Addr.truDbgctl → exec (.debugRelock src v) s = .next s.relock) ∧
    (∀ t, s.trust.unlockEnd = some t → (t ≤ s.rf Addr.pmuAontime 47 0 → exec .debugLifeExpiry s = .next s.relock) ∧
      (s.rf Addr.pmuAontime 47 0 < t → exec .debugLifeExpiry s = .next s)) ∧
    (s.trust.unlockEnd = none → exec .debugLifeExpiry s = .next s) ∧
    (∀ u, u = s.relock → u.trust.unlockEnd = none ∧ u.rf Addr.truDbgstat 7 0 = 0 ∧ u.rb Addr.truStat 6 = false ∧
      u = { s with regs := u.regs, trust := u.trust })

/-- Power-up of a device without power starts the boot ROM with cause 0x300 on FIRC; a loss of power keeps the flash alone; a PLL that locks
starts its clock; the boot ROM acts when the initial writes are over; a warm reset keeps DDR5 and the time. -/
def Obligations.PowerAndBoot : Prop :=
  ∀ (s : State) (d r : Nat) (src : Src) (v : W64), d < 41 →
    ((s.pmu.on = true ∨ s.pins.test = true) → exec .powerUp s = .next s) ∧
    (s.pmu.on = false → s.pins.test = false → ∃ u, exec .powerUp s = .next u ∧ u.pmu.on = true ∧ u.pmu.boot = 1 ∧ u.sup.st = .rom ∧
      u.sup.g1 = 0x300 ∧ u.rd Addr.clkLive = 0x81 ∧ u.rd Addr.clkSel = 0x4001 ∧ u.rb Addr.pmuStat 0 = true ∧ u.mem = [] ∧
      u.host = s.host ∧ u.pending = s.pending ∧ u.trust.root = Config.pufRoot (u.flashRead 0 4096) ∧
      ((∃ k, k < 4096 ∧ Sparse.get (fun _ => flash0) s.flash k ≠ 0xFF) → u.flash = s.flash ∧ u.rb Addr.truStat 8 = false) ∧
      (∀ off, off ∉ [Addr.clkLive, Addr.clkSel, Addr.pmuStat, Addr.truStat] → (∀ i, i < 8 → off ≠ Addr.truIdpk i) →
        u.rd off = State.reset.rd off)) ∧
    (s.pmu.on = false → exec .powerDown s = .next s) ∧
    (s.pmu.on = true → exec .powerDown s = .next s.cold) ∧
    (∀ u, u = s.cold → (∀ off, u.rd off = State.reset.rd off) ∧ (∀ k, u.byte k = 0) ∧ (∀ t, u.thread t = State.reset.thread t) ∧
      u.flash = s.flash ∧ u.host = s.host ∧ u.pins = s.pins ∧ u.pmu.on = false) ∧
    (exec (.pllLock d) s = .next ((s.pllLock d).replay)) ∧
    ((s.pmu.on = false ∨ 5 ≤ s.rf Addr.pmuSleepstat 6 4) → s.pllLock d = s) ∧
    (s.pmu.on = true → s.rf Addr.pmuSleepstat 6 4 < 5 → ∀ u, u = s.pllLock d → u.rb Addr.clkLock d = true ∧
      (8 ≤ d → u.clk d = true) ∧ (s.pmu.boot ≠ 1 → u.pmu = s.pmu ∧ u.rd Addr.clkSel = s.rd Addr.clkSel) ∧
      (s.pmu.boot = 1 → u.rb Addr.clkLock 0 = true → u.rb Addr.clkLock 7 = true →
        u.pmu.boot = 2 ∧ u.rf Addr.clkSel 1 0 = 2 ∧ u.rf Addr.clkSel 15 14 = 2)) ∧
    (s.pmu.boot ≠ 2 → exec .channelTrainingComplete s = .next s) ∧
    (s.pmu.boot = 2 → ∃ u, exec .channelTrainingComplete s = .next u ∧ u.pmu.boot = 3 ∧
      (∀ ch, ch < 26 → Sparse.get (fun _ => 0) (State.trained u) ch = s.time) ∧ u = { s with pmu := { s.pmu with boot := 3 }, trained := u.trained }) ∧
    ((s.sup.st ≠ .rom ∨ s.clk 0 = false) → exec .bootImageVerify s = .next s) ∧
    (s.sup.st = .rom → s.clk 0 = true →
      (s.rf Addr.truStat 3 0 = 0 → (s.pmu.boot ≠ 3 ∨ s.rb Addr.memStat 0 = false) → exec .bootImageVerify s = .next s) ∧
      (s.rf Addr.truStat 3 0 = 0 → s.pmu.boot = 3 → s.rb Addr.memStat 0 = true → exec .bootImageVerify s = .next
        (if s.sup.g1 = 0x300 then s.bootOrRecover else if s.sup.g1 = 0x302 ∧ s.rb Addr.pmuResume 63 = true then s.resumeImage
          else s.warmEntry)) ∧
      (s.rf Addr.truStat 3 0 ≠ 0 → s.trust.claim = none → exec .bootImageVerify s = .next s) ∧
      (∀ a, s.rf Addr.truStat 3 0 ≠ 0 → s.trust.claim = some a → exec .bootImageVerify s = .next (s.takeClaim a))) ∧
    (shake (s.peek s.trust.runaddr s.trust.runlen) = s.trust.rundig → ∀ u, u = s.warmEntry → u.sup.st = .run ∧
      (u.thread supTid).pc = pcOf (BitVec.ofNat 64 s.trust.runentry) ∧ (State.thread u supTid).gr 1 = BitVec.ofNat 64 s.sup.g1) ∧
    (exec (.warmReset true src v) s = .next (s.warmReset 1)) ∧
    (TakesWrite s src .pmuRstctl 0 Addr.pmuRstctl → exec (.warmReset false src v) s = .next (s.warmReset 2)) ∧
    ((s.pmu.on = false ∨ s.phase = 6 ∧ s.pmu.req = 3) → s.warmReset r = s) ∧
    (s.pmu.on = true → (s.phase ≠ 6 ∨ s.pmu.req ≠ 3) → r < 2 ^ 64 → ∀ u, u = s.warmReset r → u.sup.st = .rom ∧ u.sup.g1 = 0x301 ∧
      (∀ k, u.byte k = if 0x1000000000000 ≤ k then s.byte k else 0) ∧ u.time = s.time ∧ u.flash = s.flash ∧ u.host = s.host ∧
      u.rd Addr.pmuRststat = BitVec.ofNat 64 r ∧ u.pmu.on = true ∧ u.phase = 0 ∧ u.trust.unlockEnd = none ∧
      ∀ p, 1 ≤ p → p ≤ 4 → u.partState p = 0)

/-- A request for a sleep state is refused with its reasons or starts the entry; each phase does its work and ends, is abandoned at a
wake, or waits in phase 4 for the pair; a pending enabled event ends the state; too high a temperature enters SL3. -/
def Obligations.SleepAndWake : Prop :=
  ∀ (s : State) (src : Src) (v : W64) (n sub ph : Nat) (temps : List Int),
    (TakesWrite s src .pmuSleep 0 Addr.pmuSleep →
      (fld v 1 0 = 0 → exec (.sleepRequest src v) s = .next s) ∧
      (fld v 1 0 ≠ 0 → s.refuseBits (fld v 1 0) = 0 → ∃ u, exec (.sleepRequest src v) s = .next u ∧ u.phase = 1 ∧
        u.rf Addr.pmuSleepstat 2 0 = 1 ∧ u.pmu.req = fld v 1 0 ∧ (∀ off, off ≠ Addr.pmuSleepstat → u.rd off = s.rd off) ∧
        u = { s with regs := u.regs, pmu := u.pmu }) ∧
      (fld v 1 0 ≠ 0 → s.refuseBits (fld v 1 0) ≠ 0 → ∃ u, exec (.sleepRequest src v) s = .next u ∧
        u.rf Addr.pmuSleepstat 20 16 = s.refuseBits (fld v 1 0) ∧ u.rf Addr.pmuSleepstat 2 0 = 4 ∧ u.phase = s.phase ∧
        u = { s with regs := u.regs })) ∧
    (ph = s.phase → (ph = 0 ∨ ph = 6 ∨ ph = 7 ∨ ph = 4 ∧ s.pairIdle = false → exec .sleepPhaseEnd s = .next s.replay) ∧
      (ph = 5 → exec .sleepPhaseEnd s = .next (((s.phaseWork 5).setPhase 6).replay)) ∧
      (1 ≤ ph → ph ≤ 4 → (ph = 4 → s.pairIdle = true) →
        (s.pmu.thermal = true ∨ s.wakesOn = [] → exec .sleepPhaseEnd s = .next (((s.phaseWork ph).setPhase (ph + 1)).replay)) ∧
        (s.pmu.thermal = false → s.wakesOn ≠ [] → exec .sleepPhaseEnd s = .next ((s.abandon ph).replay)))) ∧
    (∀ u, u = s.phaseWork 2 → (∀ c, c < 6 → u.clk (1 + c) = false) ∧ u.pmu.asleep = s.pmu.req) ∧
    (∀ u, u = s.phaseWork 4 → u.clk 0 = false ∧ u.clk 7 = false ∧ u.clk 9 = false ∧ u.rf Addr.clkLock 7 0 = 0 ∧ u.rd Addr.clkSel = 0x4001) ∧
    (∀ u, u = s.phaseWork 5 → s.pmu.req = 3 → ∀ i, u.clk i = false) ∧
    ((1 ≤ n ∧ n ≤ 7 ∧ sub < 4 ∧ (sub = 0 ∨ (3 ≤ n ∧ n ≤ 5))) → s.pmu.on = true →
      (n = 2 ∨ n = 3 ∨ n = 6 ∨ n = 7 ∨ n = 1 ∧ s.phase ≠ 0 ∨ n = 4 ∧ s.rb Addr.ptbWake sub = true ∨ n = 5 ∧ s.phase ≠ 0 ∧ s.pmu.req ≠ 3) →
      ∃ u, exec (.wakeEvent n sub) s = .next u ∧ (n, sub) ∈ u.pmu.wakes ∧ (∀ w, w ∈ s.pmu.wakes → w ∈ u.pmu.wakes) ∧
        u.rb Addr.pmuWakepend (wakeBit n sub) = true ∧ u = { s with regs := u.regs, pmu := { s.pmu with wakes := u.pmu.wakes } }) ∧
    (s.pmu.on = false ∨ s.rf Addr.pmuAontime 47 0 ≠ s.rf Addr.pmuAoncmp 47 0 → exec .aonTimerMatch s = .next s) ∧
    (s.pmu.on = true → s.rf Addr.pmuAontime 47 0 = s.rf Addr.pmuAoncmp 47 0 → exec .aonTimerMatch s = .next (s.raiseWake 6 0)) ∧
    (s.phase ≠ 6 ∨ s.wakesOn = [] → exec .sleepExit s = .next s.replay) ∧
    (s.phase = 6 → s.wakesOn ≠ [] → ∃ u, exec .sleepExit s = .next (State.replay u) ∧ u.phase = 0 ∧ u.rf Addr.pmuSleepstat 2 0 = 2 ∧
      u.clk 0 = true ∧ u.clk 7 = true ∧ u.pmu.asleep = 0 ∧
      (s.pmu.req ≠ 3 → u.rf Addr.pmuLastwake 47 32 = Min.min (s.rf Addr.pmuLastwake 47 32 + 1) 65535 ∧ u.sup = s.sup) ∧
      (s.pmu.req = 3 → u.sup.st = .rom ∧ u.sup.g1 = 0x302 ∧ u.time = 0)) ∧
    (TakesWrite s src .pmuDramctl 0 Addr.pmuDramctl → exec (.selfRefreshExit src v) s = .next (s.wb Addr.pmuStat 1 false)) ∧
    (temps.length = 12 → s.pmu.on = false → exec (.thermalSample temps) s = .next s) ∧
    (temps.length = 12 → s.pmu.on = true → (s.phase ≠ 6 ∨ s.pmu.req ≠ 3) →
      ∃ w, w.rf Addr.pmuTherm 55 48 = (BitVec.ofInt 8 (clampI (temps.foldl Max.max (temps.headD 0)) (-128) 127)).toNat ∧
        w.pmu.temps = temps ∧ w = { s with regs := w.regs, pmu := { s.pmu with temps := temps } } ∧
        (∀ off, off ≠ Addr.pmuTherm → w.rd off = s.rd off) ∧
        ((∀ t, t ∈ temps → t < s.crit) → exec (.thermalSample temps) s = .next w) ∧
        ((∃ t, t ∈ temps ∧ s.crit ≤ t) → exec (.thermalSample temps) s = .next (State.thermalEntry w))) ∧
    (∀ u, u = s.thermalEntry → s.phase = 0 → u.phase = 2 ∧ u.pmu.req = 3 ∧ u.pmu.thermal = true ∧ u.rb Addr.pmuStat 3 = true)

/-- A clock select for a locked PLL takes effect; a level request starts a switch that its completion ends; a hot cluster is lowered a level
a step; a cluster reset needs an idle cluster or one of no partition; gating needs the latter; counters are copied each 1 ms. -/
def Obligations.ClocksAndLevels : Prop :=
  ∀ (s : State) (src : Src) (v n : W64) (c x i dev : Nat) (rails clus : List W64), c < 6 →
    (TakesWrite s src .clkSel 0 Addr.clkSel → n = s.stored Addr.clkSel v → s.held = [] →
      ((∃ i, i < 8 ∧ fld n (2 * i + 1) (2 * i) ≠ s.rf Addr.clkSel (2 * i + 1) (2 * i) ∧ s.selBad i (fld n (2 * i + 1) (2 * i)) = true) →
        exec (.clockSelect src v) s = .next (s.wb Addr.clkStat 0 true)) ∧
      ((∀ i, i < 8 → fld n (2 * i + 1) (2 * i) ≠ s.rf Addr.clkSel (2 * i + 1) (2 * i) →
          s.selBad i (fld n (2 * i + 1) (2 * i)) = false) → ∃ u, exec (.clockSelect src v) s = .next u ∧
        (∀ i, i < 8 → ∀ y, y = fld n (2 * i + 1) (2 * i) → u.rf Addr.clkSel (2 * i + 1) (2 * i) =
          if y = 3 ∨ (y = 0 ∧ (i = 0 ∨ i = 7)) then s.rf Addr.clkSel (2 * i + 1) (2 * i) else y) ∧
        (∀ k, k < 6 → u.clk (1 + k) = (u.rf Addr.clkSel (2 * k + 3) (2 * k + 2) != 0 && s.pmu.asleep == 0)) ∧
        u = { s with regs := u.regs } ∧ (∀ off, off ≠ Addr.clkSel → off ≠ Addr.clkLive → u.rd off = s.rd off))) ∧
    (TakesWrite s src .pmuCluCtl c (Addr.pmuCluCtl c) →
      (fld v 8 8 = 1 → ∀ w, w = (if s.rb (Addr.pmuCluStat c) 6 = true then State.powerCluster (s.wb (Addr.pmuCluCtl c) 8 true) c else s) →
        exec (.clusterReset src c v) s = .next ((State.rstWrite w c).plWrite c (fld v 2 0))) ∧
      (fld v 9 8 = 0 → s.cluPart c = 0 → s.rb (Addr.pmuCluStat c) 6 = false → exec (.clusterPower src c v) s =
        .next ((((s.wb (Addr.pmuCluCtl c) 8 false).gateCluster c)).plWrite c (fld v 2 0))) ∧
      (fld v 9 8 = 0 → (s.cluPart c ≠ 0 ∨ s.rb (Addr.pmuCluStat c) 6 = true) → exec (.clusterPower src c v) s =
        .next (s.plWrite c (fld v 2 0))) ∧
      (fld v 9 8 = 1 → s.rb (Addr.pmuCluStat c) 6 = true → exec (.clusterPower src c v) s =
        .next (((s.wb (Addr.pmuCluCtl c) 8 true).powerCluster c).plWrite c (fld v 2 0))) ∧
      (s.rb (Addr.pmuCluCtl c) 8 = true → s.rb (Addr.pmuCluCtl c) 9 = false → s.rb (Addr.pmuCluStat c) 6 = false →
        exec (.levelRequest src c v) s = .next (s.plWrite c (fld v 2 0)))) ∧
    (x < 8 → ∀ u, u = s.plWrite c x → u.reqPl c = Min.min 4 x ∧
      (s.rb (Addr.pmuCluStat c) 4 = false → s.rf (Addr.pmuCluStat c) 2 0 ≠ Max.max (Min.min 4 x) (s.capPl c) →
        u.rb (Addr.pmuCluStat c) 4 = true ∧ u.rb Addr.clkLock (1 + c) = false ∧
        Sparse.get (fun _ => 0) (State.pmu u).target c = Max.max (Min.min 4 x) (s.capPl c)) ∧
      (s.rb (Addr.pmuCluStat c) 4 = true ∨ s.rf (Addr.pmuCluStat c) 2 0 = Max.max (Min.min 4 x) (s.capPl c) → u.pmu = s.pmu)) ∧
    (s.rb (Addr.pmuCluStat c) 4 = false → exec (.levelSwitchComplete c) s = .next s) ∧
    (s.rb (Addr.pmuCluStat c) 4 = true → ∃ w, exec (.levelSwitchComplete c) s = .next (State.levelSync w c) ∧
      w.rb (Addr.pmuCluStat c) 4 = false ∧ w.rb Addr.clkLock (1 + c) = true ∧ w = { s with regs := w.regs } ∧
      (Sparse.get (fun _ => 0) s.pmu.target c < 8 → w.rf (Addr.pmuCluStat c) 2 0 = Sparse.get (fun _ => 0) s.pmu.target c)) ∧
    (s.pmu.on = false ∨ s.pmu.temps = [] → exec (.throttleStep c) s = .next s) ∧
    (s.pmu.on = true → s.pmu.temps ≠ [] → exec (.throttleStep c) s = .next (s.throttle c)) ∧
    (s.throt ≤ s.pmu.temps.getD c 0 → s.goalPl c < 4 → s.reqPl c < s.capPl c →
      s.throttle c = s.setCap c (s.goalPl c + 1) false) ∧
    (s.pmu.temps.getD c 0 < s.throt - s.hyst → s.reqPl c + 1 < s.capPl c → s.throttle c = s.setCap c (s.capPl c - 1) true) ∧
    (s.cluPart c = 0 ∨ s.cluIdle c = true → s.rstWrite c = s.clusterReset c) ∧
    (s.cluPart c ≠ 0 → s.cluIdle c = false → s.rstWrite c = s.wb Addr.pmuStat 2 true) ∧
    (∀ u, u = s.clusterReset c → u.cluPart c = s.cluPart c ∧ u.rb (Addr.pmuCluStat c) 7 = true ∧ u.rb (Addr.cluStat c) 9 = true ∧
      (∀ d, cluBase c ≤ d → d < cluBase c + 0x2000000 → u.byte d = 0) ∧ (∀ k, k < 64 → u.ctx c k = ctx0) ∧
      (∀ k, k < 32 → u.lf (c * 32 + k) = 1)) ∧
    (s.rb (Addr.pmuCluStat c) 7 = false → exec (.clusterResetComplete c) s = .next s) ∧
    (s.rb (Addr.pmuCluStat c) 7 = true → ∃ u, exec (.clusterResetComplete c) s = .next u ∧ u.rb (Addr.pmuCluStat c) 7 = false ∧
      u.rb (Addr.cluStat c) 9 = false ∧ u.trust.cmeas = s.trust.cmeas.set c (zeros 32) ∧ u = { s with regs := u.regs, trust := u.trust }) ∧
    (s.pmu.on = false → exec (.powerAverageUpdate dev rails clus) s = .next s) ∧
    (s.pmu.on = true → ∃ u, exec (.powerAverageUpdate dev rails clus) s = .next u ∧ u.rf Addr.pmuPwr 15 0 = dev % 65536 ∧
      u.rf Addr.truPwrview 15 0 = dev % 65536 ∧ (i < 7 → u.rf (Addr.pmuTelRail i) 47 0 = (rails.getD i 0).toNat % 2 ^ 48) ∧
      (i < 6 → u.rf (Addr.pmuTelClu i) 47 0 = (clus.getD i 0).toNat % 2 ^ 48) ∧ u = { s with regs := u.regs }) ∧
    (s.ptbOn = true → s.time % 400000 = 0 → exec .counterSnapshot s = .next { s with snap := s.regs }) ∧
    (s.ptbOn = false ∨ s.time % 400000 ≠ 0 → exec .counterSnapshot s = .next s)

/-- Enabling a segment stores it where its checks pass, else the reason shows; disabling always stores; START of a halted base thread of a
cluster in service and in a partition starts it at its PC with registers zero; START 0 halts it. -/
def Obligations.SegmentsAndBases : Prop :=
  ∀ (s : State) (src : Src) (p i c r pa ta sz : Nat) (v n : W64), 1 ≤ p → p ≤ 4 → i < 32 → c < 6 →
    (TakesWrite s src .glbSegCfg p (Addr.glbSegCfg p i) → n = s.stored (Addr.glbSegCfg p i) (setBit v 35 true) →
      pa = s.rf (Addr.glbSegPa p i) 47 16 * 65536 → ta = s.rf (Addr.glbSegTa p i) 47 16 * 65536 → sz = fld v 24 0 * 65536 →
      r = s.segCheck p i pa ta sz →
      (r = 0 → exec (.segmentEnable src p i v) s = .next (s.wr (Addr.glbSegCfg p i) n)) ∧
      (r ≠ 0 → ∃ u, exec (.segmentEnable src p i v) s = .next u ∧ u.rb (Addr.glbSegerr p) 8 = true ∧ u.rf (Addr.glbSegerr p) 7 5 = r ∧
        u.rf (Addr.glbSegerr p) 4 0 = i ∧ (∀ off, off ≠ Addr.glbSegerr p → u.rd off = s.rd off) ∧ u = { s with regs := u.regs })) ∧
    (TakesWrite s src .glbSegCfg p (Addr.glbSegCfg p i) → n = s.stored (Addr.glbSegCfg p i) (setBit v 35 false) →
      exec (.segmentDisable src p i v) s = .next (s.wr (Addr.glbSegCfg p i) n)) ∧
    (TakesWrite s src .cluBasectl c (Addr.cluBasectl c) → s.rb (Addr.cluBasectl c) 1 = true → v.getLsbD 2 = false →
      (s.cluLive c = true → s.cluPart c ≠ 0 → ∃ w, exec (.baseStart src c v) s =
          .next (if (s.clu c).running = none then State.pick w c else w) ∧
        w.rf (Addr.cluBasectl c) 1 0 = 1 ∧ (w.thread (tid c 64)).pc = pcOf (s.rd (Addr.cluBasepc c)) ∧
        (∀ k, (State.thread w (tid c 64)).gr k = 0) ∧ (∀ t, t ≠ tid c 64 → w.thread t = s.thread t) ∧
        w = { s with regs := w.regs, threads := w.threads }) ∧
      ((s.cluLive c = false ∨ s.cluPart c = 0) → exec (.baseStart src c v) s = .next s) ∧
      exec (.baseHalt src c v) s = .next s) ∧
    (TakesWrite s src .cluBasectl c (Addr.cluBasectl c) → s.rb (Addr.cluBasectl c) 1 = false → v.getLsbD 2 = false →
      exec (.baseStart src c v) s = .next s ∧ exec (.baseHalt src c v) s = .next (s.haltBase c))

/-- TEST_EN high resets every domain; a test instruction selects its register; the debug port answers zero while debug is locked; the SMBus
port answers temperature, power, health, state and identity, and its address while ALERT_N is asserted. -/
def Obligations.TestAndSmbus : Prop :=
  ∀ (s : State) (cells a : Nat) (v : W64) (wr : Bool) (i : Instr) (code : Byte),
    exec (.testMode true) s = .next { s.cold with pins := { s.pins with test := true } } ∧
    exec (.testMode false) s = .next { s with pins := { s.pins with test := false } } ∧
    ((i, code) ∈ [(.jtagExtest cells, 0x00), (.jtagSamplePreload cells, 0x02), (.jtagExtestPulse cells, 0x03), (.jtagExtestTrain cells, 0x04)] →
      ∀ q : Pins, q = { s.pins with ir := code, dr := Config.boundaryCells s.freeCtr, cells := cells } →
        exec i s = .next { s with freeCtr := s.freeCtr + 1, pins := q }) ∧
    exec .jtagIdcode s = .next { s with pins := { s.pins with ir := 0x01, dr := 0x106485C5 } } ∧
    exec .jtagHighz s = .next { s with pins := { s.pins with ir := 0x05, dr := 0 } } ∧
    exec .jtagClamp s = .next { s with pins := { s.pins with ir := 0x06, dr := 0 } } ∧
    exec .jtagBypass s = .next { s with pins := { s.pins with ir := 0xFF, dr := 0 } } ∧
    exec .jtagTuchal s = .next { s with pins := { s.pins with ir := 0x20, dr := natOf (s.trust.challenge.getD []) } } ∧
    (s.rb Addr.truStat 6 = false → exec (.jtagDbgacc wr a v) s = .next { s with pins := { s.pins with ir := 0x30, dr := 0 } }) ∧
    (s.rb Addr.truStat 6 = true → ∃ u, exec (.jtagDbgacc wr a v) s = .next u ∧ u.pins.ir = 0x30 ∧
      (s.rb Addr.truDbgstat 7 = false → wr = true → u = { s with pins := { s.pins with ir := 0x30, dr := 0 } })) ∧
    exec .smbTemp s = .next (s.smbReply [BitVec.ofNat 8 (if s.pmu.temps = [] then 0xFF else s.rf Addr.pmuTherm 55 48)]) ∧
    exec .smbPower s = .next (s.smbReply (bytesOf 2 (if s.phase = 6 ∧ s.pmu.req = 3 then 0xFFFF else s.rf Addr.pmuPwr 15 0))) ∧
    exec .smbHealth s = .next (s.smbReply (bytesOf 4 (s.rf Addr.hltSummary 31 0))) ∧
    (∃ x, exec .smbState s = .next (s.smbReply [x]) ∧ (s.phase ≠ 6 → x = if s.sup.st = .run ∨ s.sup.st = .stopped then 1 else 0) ∧
      (s.phase = 6 → s.pmu.req = 1 → x = 2) ∧ (s.phase = 6 → s.pmu.req = 2 → x = 3) ∧
      (s.phase = 6 → s.pmu.req = 3 → x = if s.pmu.thermal = true then 5 else 4)) ∧
    exec .smbIdent s = .next (s.smbReply (bytesOf 8 (s.rd Addr.glbId).toNat)) ∧
    exec .smbAlertResponse s = .next (s.smbReply (if s.rb Addr.hltStat 4 = true then [s.pins.smbAddr] else []))

/-- After reset: the registers hold the values that their tables state, the device has no power and no function, every line of memory is
invalid or never written, no partition exists, every stream of random bits starts at 1. -/
def Obligations.ResetValues : Prop :=
  ∀ s : State, s = State.reset → s.pending = [] ∧ s.pmu.on = false ∧ s.pcie.nfunc = none ∧ (∀ k, s.byte k = 0) ∧ (∀ k, s.lf k = 1) ∧
    (∀ p, p < 5 → s.partState p = 0) ∧ (∀ c, c < 6 → s.cluPart c = 0 ∧ s.rd (Addr.pmuCluCtl c) = 0x100 ∧ s.rd (Addr.cluBasectl c) = 2 ∧
      s.rd (Addr.schCfg c) = 0xFA0100F000) ∧
    (∀ n, n < 4 → s.rd (Addr.ptbAxVcfg n) = 0x4003E80000 ∧ s.rd (Addr.ptbAxStat n) = 2 ∧ s.rd (Addr.ingCamCfg n) = 0x1400000000 ∧
      s.rd (Addr.fabPortStat n) = 0x300000000) ∧
    (∀ o, o < 12 → s.rd (Addr.ptbOutCfg o) = 0x10000) ∧ (∀ k, k < 64 → s.rd (Addr.schGsemStat k) = 0xC00001) ∧
    (∀ p, 1 ≤ p → p ≤ 4 → s.rd (Addr.vdlPartBudget p) = 0x3E801F4007D000C8 ∧ s.rd (Addr.dlmPartCfg p) = 0x32004003000001 ∧
      s.rd (Addr.awPartEpoch p) = 1 ∧ s.rd (Addr.fabPartEpoch p) = 1) ∧
    (∀ n, n < 24 → s.rd (Addr.memSlot n) = BitVec.ofNat 64 n) ∧ (∀ r, r < 384 → s.rd (Addr.memGen r) = 0x10001) ∧
    (∀ k, 1 ≤ k → k ≤ 13 → s.rd (Addr.hltKindThr k) = 0xE102004000F4240) ∧
    s.rd Addr.hltWdog = 0x1000007D0 ∧ s.rd Addr.pmuTherm = 0x100557300670003 ∧ s.rd Addr.pmuWakeen = 3 ∧ s.rd Addr.glbRomver = 0x10000

/-- The memory of the state after reset, and of a state whose power is lost, is in its canonical form. -/
def Obligations.ResetMemoryCanonical : Prop :=
  Memory.wf State.reset.mem = true ∧ ∀ s : State, Memory.wf (State.mem s.cold) = true

/-- Every step keeps the canonical form of memory: byte addresses strictly rising, and no byte listed that an unlisted address reads as. -/
def Obligations.MemoryStaysCanonical : Prop :=
  ∀ s t : State, Memory.wf s.mem = true → StepsTo s t → Memory.wf t.mem = true

/-- No step changes a byte of flash outside the area of the reconstruction helper data and the two slots of the configuration record: the
image slots stay as they were, whatever is commanded. -/
def Obligations.FlashImagesStay : Prop :=
  ∀ (s t : State) (f : Nat → Byte), (∀ k, 0x30000 ≤ k → Sparse.get (fun _ => flash0) s.flash k = f k) → StepsTo s t →
    ∀ k, 0x30000 ≤ k → Sparse.get (fun _ => flash0) t.flash k = f k

/-- Where the commands of chapters 2 and 3 complete with their own effect, each in one case on the state and its operands alone. -/
def Obligations.SensorCommandsComplete : Prop :=
  ∀ (s : State) (src : Src) (n k q o t : Nat) (v : W64), n < 4 → k < 64 → q < 4 → o < 8 → t < 8 → s.pmu.on = true → s.ptbOn = true →
    s.ingOn = true →
    exec (.registerWrite .sup (Addr.ptbSlotTgt k) 0xFF v) s =
      .next (s.wr (Addr.ptbSlotTgt k) (s.stored (Addr.ptbSlotTgt k) v)) ∧
    (∀ x, x = s.axis n → s.rb (Addr.ptbAxCfg n) 0 = true → s.rb (Addr.ptbAxCfg n) 1 = false → s.rb Addr.ptbWake n = false →
      x.z = none → x.aAt = none → exec (.encoderTransition n (!x.a) x.b) s =
        .next ((s.setAxis n { x with a := !x.a, aAt := some s.time }).count n (((!x.a) == x.b) != s.rb (Addr.ptbAxCfg n) 7))) ∧
    (s.rb (Addr.ptbAxCfg n) 0 = true → s.rf (Addr.ptbAxCfg n) 9 8 = 1 → (s.axis n).z = none → ∃ u, exec (.zEdge n) s = .next u ∧
      u.rf (Addr.ptbAxZlat n) 47 0 = (s.cnt n).toNat ∧ u.rb (Addr.ptbAxStat n) 5 = true) ∧
    (∃ w, exec (.axisCounterWrite .sup n v) s = .next (State.afterCount w n) ∧ w.cnt n = v.setWidth 48 ∧
      w.rb (Addr.ptbAxStat n) 7 = false) ∧
    ((s.axis n).last + 400 * Max.max 1 (s.rf (Addr.ptbAxVcfg n) 31 16) ≤ s.time → ∃ u, exec (.axisStopped n) s = .next u ∧
      u.rb (Addr.ptbAxStat n) 1 = true) ∧
    (s.velN < s.time / 4000 → exec .velocityUpdate s = .next
      ((((({ s with velN := s.time / 4000 } : State).velUpdate 0).velUpdate 1).velUpdate 2).velUpdate 3).evalAll) ∧
    (fld v 3 2 ≠ 0 → s.slotLate k (setBit v 0 true) = false → ∃ w, exec (.slotArm .sup k v) s = .next w ∧
      w.rb (Addr.ptbSlotStat k) 32 = true ∧ w.rf (Addr.ptbSlotStat k) 31 0 = 0) ∧
    (∃ w, exec (.slotDisarm .sup k v) s = .next w ∧ w.rb (Addr.ptbSlotCtl k) 0 = false ∧ w.rb (Addr.ptbSlotStat k) 32 = false) ∧
    (∀ p rest, (s.out o).q = p :: rest → (s.out o).run = none → p.start < 5 * s.time + 5 → ∃ u,
      exec (.trigPulseStart o) s = .next u ∧ u.out o = { s.out o with q := rest, run := some p }) ∧
    (∀ p, (s.out o).run = some p → p.stop < 5 * s.time + 5 →
      exec (.trigPulseEnd o) s = .next (s.setOut o { s.out o with run := none })) ∧
    (∀ p rest, (s.out (8 + n)).q = p :: rest → (s.out (8 + n)).run = none → p.start < 5 * s.time + 5 → ∃ u,
      exec (.markPulseStart n) s = .next u ∧ u.out (8 + n) = { s.out (8 + n) with q := rest, run := some p }) ∧
    (∀ p, (s.out (8 + n)).run = some p → p.stop < 5 * s.time + 5 →
      exec (.markPulseEnd n) s = .next (s.setOut (8 + n) { s.out (8 + n) with run := none })) ∧
    (s.rf Addr.ptbBcastCfg 3 0 ≠ 0 → s.bcastAt + 4000 * Max.max 1 (Min.min 100 (s.rf Addr.ptbBcastCfg 15 8)) ≤ s.time →
      ∀ dom, dom = s.domOf (ownerOf (s.rf Addr.ptbBcastCfg 18 16)) → dom ≠ 0 → ∃ w pay, exec .bcastInterval s =
        .next ((((State.sendPos w dom 1 pay).sendPos dom 2 pay).sendPos dom 3 pay).sendPos dom 4 pay) ∧
        w.bcastSeq = (s.bcastSeq + 1) % 65536 ∧ recNat pay 2 2 = s.bcastSeq % 65536) ∧
    (∀ b at_ rest tA tR, (s.port q).rx = (b, at_) :: rest → s.clk (11 + q) = true → b.type = 8 →
      exec (.posPacketReceive q tA tR) s = .next (((s.setPort q { s.port q with rx := rest }).credit q b).posIn q b tA tR)) ∧
    (s.follows n = true → s.axLost n = false → 26214400 ≤ (s.axis n).phase → (s.axis n).stepAt ≠ some s.time → (s.axis n).hold = 0 →
      exec (.followerStep n) s = .next ((s.setAxis n { s.axis n with
        phase := (s.axis n).phase - 26214400, stepAt := some s.time }).count n (decide ((s.axis n).pv < 0)))) ∧
    (s.follows n = true → s.axLost n = false →
      (s.axis n).pktAt + 3 * (4000 * Max.max 1 (Min.min 100 (s.rf Addr.ptbBcastCfg 15 8))) ≤ s.time → ∃ w,
      exec (.followerLost n) s = .next (State.wakePos w n) ∧ w.cnt n = s.cnt n ∧ w.rb (Addr.ptbAxStat n) 7 = true ∧
      w.rd (Addr.ptbAxVel n) = 0) ∧
    (∀ rtt res, (s.rf (Addr.fabPortStat q) 2 0 = 2 ∨ s.rf (Addr.fabPortStat q) 2 0 = 3) → (s.port q).latAt + 400000000 ≤ s.time →
      ∃ u, exec (.linkLatencyMeasure q rtt res) s = .next u ∧ u.rf (Addr.ptbLinkoff q) 23 0 = (rtt - res) / 2 % 2 ^ 24) ∧
    (TakesWrite s src .cxpCamCfg n (Addr.cxpCamCfg n) → ∃ u, exec (.cameraConfigWrite src n v) s = .next u ∧
      u.rd (Addr.cxpCamCfg n) = s.stored (Addr.cxpCamCfg n) v ∧ (u.cam n).applied = (u.rb (Addr.cxpCamCfg n) 0 && u.camFits n)) ∧
    (TakesWrite s src .ingCamCfg n (Addr.ingCamCfg n) → ∃ u, exec (.ingCameraEnable src n v) s = .next u ∧
      u.rb (Addr.ingCamCfg n) 0 = true ∧ u.rd (Addr.ingCamFire n) = 0) ∧
    (∀ p : StreamPacket, p.cam = n → p.con = t → p.tag < 256 → s.rb (Addr.cxpConCfg t) 0 = true → s.rb (Addr.cxpConStat t) 0 = true →
      (s.camCons n).1 ≤ t → t < (s.camCons n).1 + (s.camCons n).2 → s.receiving n = true →
      (∀ i, i < (s.camCons n).2 → s.rb (Addr.cxpConStat ((s.camCons n).1 + i)) 0 = true) →
      p.crcOk = true → p.ovf = false → (s.cam n).held = [] → (s.cam n).expect = some p.tag →
      ∀ w : State, w = s.setCam n { s.cam n with
        tops := Sparse.set (fun _ => 256) (s.cam n).tops t p.tag, expect := some ((p.tag + 1) % 256) } →
      exec (.cxpStreamPacket p) s = .next ((w.items s.time p).deliver n 255)) ∧
    (s.rb (Addr.cxpConStat t) 0 = true → (∀ j, j < 4 → (s.receiving j = true ∧ (s.camCons j).1 ≤ t ∧
        t < (s.camCons j).1 + (s.camCons j).2 ↔ j = n)) →
      ∀ w, w = (s.wb (Addr.cxpConStat t) 0 false).record (report 17 .signal t (s.camOwner n)) → (State.cam w n).line = none →
      exec (.cxpLockLoss t) s = .next (State.camFresh w n)) ∧
    (s.rb (Addr.cxpConCfg t) 0 = true → s.rf (Addr.cxpConCfg t) 11 8 ∈ [1, 2, 3, 5, 6, 10, 12] → ∃ u,
      exec (.cxpLockAcquire t) s = .next u ∧ u.rb (Addr.cxpConStat t) 0 = true) ∧
    (∀ b fin lo ch, ch = (if s.rb (Addr.cxpConCfg (s.camCons n).1) 1 = true then 480 else 960) → (s.cam n).up.busy = true →
      b + ch ≤ fin → b < 5 * s.time + 5 →
      ((s.cam n).up.risen = false → lo = Max.max ((s.cam n).up.edge + 40) (s.cam n).up.fin → lo ≤ b → b < lo + ch →
        exec (.uplinkTriggerRising n b fin) s = .next (s.setCam n { s.cam n with
          up := { (s.cam n).up with risen := true, fin := fin }, trig := some (true, b - (s.cam n).up.edge - 40) })) ∧
      (∀ e, (s.cam n).up.risen = true → e = (s.cam n).up.edge + 4 * Max.max 1 (s.rf (Addr.cxpCamTrig n) 15 0) →
        lo = Max.max (e + 40) (s.cam n).up.fin → lo ≤ b → b < lo + ch →
        exec (.uplinkTriggerFalling n b fin) s = .next (s.setCam n { s.cam n with
          up := { (s.cam n).up with busy := false, risen := false, fin := fin }, trig := some (false, b - e - 40) }))) ∧
    (TakesWrite s src .cxpCamCtl n (Addr.cxpCamCtl n) → ∃ u, exec (.controlSend src n v) s = .next u ∧
      (u.cam n).sent.length = Min.min 4096 (fld v 28 16) ∧
      ∀ i, i < (u.cam n).sent.length → (u.cam n).sent.getD i 0 = (s.rd (Addr.cxpCtx n (i / 8))).extractLsb' (8 * (i % 8)) 8) ∧
    (∀ pay bs head, bs = fit (roundUp (4 + pay.length) 4) (bytesOf 4 pay.length ++ pay) → head = s.rf (Addr.cxpCamRxptr n) 11 0 →
      (head + 4096 - s.rf (Addr.cxpCamRxptr n) 27 16) % 4096 + bs.length < 4096 → exec (.controlReceive n pay) s =
        .next ((s.bufWrite (Addr.cxpCrx n) head bs).wf (Addr.cxpCamRxptr n) 11 0 ((head + bs.length) % 4096))) ∧
    (∀ pay bs head, bs = fit (roundUp (12 + pay.length) 4) (bytesOf 4 pay.length ++ bytesOf 8 s.time ++ pay) →
      head = s.rf (Addr.cxpCamEvptr n) 11 0 →
      (head + 4096 - s.rf (Addr.cxpCamEvptr n) 27 16) % 4096 + bs.length < 4096 → exec (.eventPacketReceive n pay) s =
        .next ((s.bufWrite (Addr.cxpCev n) head bs).wf (Addr.cxpCamEvptr n) 11 0 ((head + bs.length) % 4096))) ∧
    (∀ hb, hb = Min.min 1000 (s.rf (Addr.cxpCamCfg n) 25 16) → s.camOn n = true → hb ≠ 0 → (s.cam n).hbAt + 400000 * hb ≤ s.time →
      exec (.heartbeat n) s = .next (s.setCam n { s.cam n with sent := bytesOf 8 (s.time * 5 / 2), hbAt := s.time })) ∧
    (∀ f rest, (s.cam n).fires = f :: rest → f.time + 400 * Max.max 1 (s.rf (Addr.ingCamCfg n) 39 32) < s.time →
      exec (.fireRecordExpire n) s = .next ((s.setCam n { s.cam n with fires := rest }).sat (Addr.ingCamFire n) 15 0 1)) ∧
    (TakesWrite s src .ingCalCtl t (Addr.ingCalCtl t) → s.inLine t = false → ∀ w, w = s.wb (Addr.ingCalCtl t) 2 (v.getLsbD 2) →
      (v.getLsbD 1 = false → exec (.calLoad src t v) s = .next (w.calLoadNow t)) ∧
      (v.getLsbD 0 = false → exec (.calStore src t v) s = .next (w.calStoreNow t))) ∧
    (TakesWrite s src .jesCfg 0 Addr.jesCfg → ∃ u, exec (.jesdConfigWrite src v) s = .next u ∧
      u.rd Addr.jesCfg = s.stored Addr.jesCfg v ∧
      u.jes.applied = (u.rb Addr.jesCfg 0 && jesOk (u.rd Addr.jesCfg) && decide (u.jesOwner ≠ 0))) ∧
    (s.jes.applied = true →
      (∀ phase, s.jes.lemc = none → exec (.sysrefEdge phase) s = .next
        (({ s with jes := { s.jes with lemc := some (phase % ((s.rf Addr.jesCfg 42 39 + 1) * 32)) } }).wb Addr.jesStat 1 true)) ∧
      (s.jes.lemc.isSome = true → s.rb Addr.jesStat 0 = false → ∃ u, exec .jesdLaneLock s = .next u ∧ u.rb Addr.jesStat 0 = true ∧
        ∀ l, l ≤ s.rf Addr.jesCfg 24 23 → u.rf (Addr.jesLaneStat l) 1 0 = 3) ∧
      (s.rb Addr.jesStat 0 = true → exec (.jesdLockLoss q) s = .next
        (({ s.wf (Addr.jesLaneStat q) 1 0 0 with jes := { s.jes with inc := true } }).record (report 17 .signal q s.jesOwner))) ∧
      (∀ age samples, s.rb Addr.jesStat 0 = true → ∃ w e, exec (.jesdBlockComplete age samples []) s = .next (State.ringPut w 8 e) ∧
        w = { s with rings := w.rings, jes := w.jes } ∧ recNat e 16 4 = (s.ring 8).seq % 2 ^ 32))

/-- Where the commands on dies and rings, of the scheduler, the pools, the sequence engine, the memory channels and the fabric ports complete
with their own effect, each in one case on the state and its operands alone. -/
def Obligations.DeviceCommandsComplete : Prop :=
  (∀ (s : State) (src : Src) (e r c x flt p k : Nat) (v : W64), e < 4096 → r < 8 → c < 6 → x < 64 → 1 ≤ p → p ≤ 4 → k < 256 →
    (s.ptbOn = true → (s.die e).st = .opened → (s.die e).acq = none → (s.die e).sealed = false →
      condHolds (s.die e).dir (s.die e).endc (s.cnt (s.scanAxis (s.die e).part)) = true → exec (.dieAcquired e) s =
        .next (s.setDie e { s.die e with acq := some s.time, lostPos := s.axLost (s.scanAxis (s.die e).part) })) ∧
    (∀ t, (s.die e).st = .opened → (s.die e).acq = some t → t + 6360000 ≤ s.time → exec (.dieForce e) s =
      .next (((s.setDie e { s.die e with forced := true }).sat (Addr.vdlPartStat (s.die e).part) 15 0 1).forceDie e 4)) ∧
    (∀ q n m, (s.vring r).q = e :: q → s.poster r (s.die e).part = some (n, m) → m < 4 → (s.die e).part ≤ 4 →
      s.rb (Addr.vdlRingCfg r) 0 = true → (s.vring r).stopped = false → s.linkUp = true → s.meshOn = true →
      (s.rf (Addr.vdlRingPidx r) 31 0 + 2 ^ 32 - (s.vring r).cons) % 2 ^ 32 ≠ 2 ^ Max.max 6 (Min.min 16 (s.rf (Addr.vdlRingCfg r) 12 8)) →
      ∃ u, exec (.verdictRecordWrite r) s = .next u ∧ (u.die e).st = .free ∧ (u.vring r).q = q ∧
        u.rf (Addr.vdlRingPidx r) 31 0 = (s.rf (Addr.vdlRingPidx r) 31 0 + 1) % 2 ^ 32) ∧
    (∀ i, i = natOf (s.hostRead (s.rf (Addr.vdlRingCaddr r) 63 3 * 8) 4) → s.linkUp = true → s.meshOn = true → (s.vring r).stopped = true →
      (s.vring r).readAt = none →
      (i + 2 ^ 32 - (s.vring r).cons) % 2 ^ 32 ≤ (s.rf (Addr.vdlRingPidx r) 31 0 + 2 ^ 32 - (s.vring r).cons) % 2 ^ 32 →
      ∃ u, exec (.consumerIndexRead r) s = .next u ∧
        u.vring r = { s.vring r with cons := i, readAt := some s.time, stopped := false }) ∧
    (∀ f t, (s.vring r).intPend = [f] → (s.vring r).intAt = some t → t + 400 * s.rf (Addr.vdlRingCfg r) 39 32 ≤ s.time →
      s.linkUp = true → s.meshOn = true → exec (.interruptModerationExpiry r) s = .next
        ((s.setVring r { s.vring r with intAt := some s.time, intPend := [] }).raiseMsi f (s.rf (Addr.vdlRingCfg r) 31 27))) ∧
    (TakesWrite s src .vdlPartMtab p (Addr.vdlPartMtab p) → exec (.mtabWrite src p v) s =
      .next ((s.wr (Addr.vdlPartMtab p) (s.stored (Addr.vdlPartMtab p) v)).reseed p)) ∧
    (s.cluUp c = true → s.rb (Addr.schCfg c) 0 = true → (s.ctx c x).st = .free → s.partActive (s.cluPart c) = true →
      (∃ j ∈ s.queued, s.serves c j = true) → ∃ j ∈ s.queued, s.serves c j = true ∧
      (∀ q ∈ s.queued, s.serves c q = true → s.before q j = false) ∧ exec (.jobTake c x flt) s = .next (s.take c x flt j)) ∧
    (s.cluUp c = true → (s.clu c).preempt = false → (s.clu c).innEnd ≤ s.time → (s.clu c).running = none →
      exec (.inningsBoundary c) s = .next (s.pick c)) ∧
    (∀ y, s.cluUp c = true → (s.clu c).preempt = true → (s.clu c).running = some y → s.npFlying (tid c y) = false →
      exec (.preemptTileBoundary c) s = .next (s.switchOut c)) ∧
    (∀ o t uid, s.ops.find? (fun (o : Op) => o.uid == uid) = some o → o.start = some t → o.np = true → o.done = false →
      t + 800 * o.npb ≤ s.time → thClass o.th ≠ .job → exec (.overrunFault uid) s =
        .next ((((s.sat (Addr.schOvr (thClu o.th)) 63 48 1).record { report 19 .fault (thClu o.th) o.part with
          jseq := ((s.jobOn o.th).map (·.jseq)).getD 0 }).endOp o 2 o.flags).overrun o.th)) ∧
    (∀ t at_ rest q, q = c * 256 + k → (s.sem q).holders = (t, at_) :: rest →
      at_ + 400 * Max.max 1 (s.rf (semCfg q) 63 48) < s.time → ∀ w, w = s.forceRel q t → exec (.holdFault c k) s = .next
        ((State.record w { report 19 .fault (thClu t) (w.thPart t) with jseq := ((w.jobOn t).map (·.jseq)).getD 0 }).overrun t)) ∧
    (TakesWrite s src .schSemCfg c (Addr.schSemCfg c k) → (s.sem (c * 256 + k)).waiters = [] → ∃ u,
      exec (.semConfigWrite src c k v) s = .next u ∧ u.sem (c * 256 + k) = sem0 ∧
      u.rd (Addr.schSemCfg c k) = s.stored (Addr.schSemCfg c k) v) ∧
    (∀ j n, s.queued.find? (fun (j : Job) => j.part == p && j.jseq == n && s.tooOld j) = some j →
      exec (.ageLimitExpiry p n) s = .next ((s.sat Addr.dlmDevStat 15 0 1).endQueued j 3 0)) ∧
    (TakesWrite s src .dlmPartCfg p (Addr.dlmPartCfg p) → exec (.dlmReseed src p v) s =
      .next ((s.wr (Addr.dlmPartCfg p) (s.stored (Addr.dlmPartCfg p) (v ||| 2))).reseed p))) ∧
  (∀ (s : State) (src : Src) (p q c k ch : Nat) (v : W64), 1 ≤ p → p ≤ 4 → q ≤ 8 → c < 6 → k < 256 → ch < 26 →
    (TakesRead s src .awPartPoolAlloc p (Addr.awPartPoolAlloc p q) → ∀ i rest w r, s.rb (poolCfg p q) 31 = true →
      s.pool (poolKey p q) = i :: rest → s.recGet p q i 8 8 < s.safeEpoch p →
      w = ((s.recPut p q i 0 2 1).recPut p q i 2 1 1).putPool p q rest →
      r = BitVec.ofNat 64 (State.asSeen w (srcAddrs src) (s.poolBase p q + i * objSize q)) →
      exec (.poolAlloc src p q) s = .next { w with latch := r, lastRd := r }) ∧
    (TakesRead s src .awPartTalloc p (Addr.awPartTalloc p) → ∀ i rest w r, s.rb (poolCfg p 9) 31 = true →
      s.pool (poolKey p 9) = i :: rest → s.recGet p 9 i 8 8 < s.safeEpoch p →
      w = ((s.recPut p 9 i 0 2 1).recPut p 9 i 2 1 1).putPool p 9 rest →
      r = BitVec.ofNat 64 (State.asSeen w (srcAddrs src) (s.poolBase p 9 + i * objSize 9)) →
      exec (.tableAlloc src p) s = .next { w with latch := r, lastRd := r }) ∧
    (TakesWrite s src .awPartPoolFree p (Addr.awPartPoolFree p q) → ∀ i,
      (s.devAddr (srcAddrs src) .read (fld v 47 0) 1).bind (s.objOf p q) = some i → 2 ≤ s.recGet p q i 0 2 →
      exec (.poolFree src p q v) s = .next (s.recPut p q i 0 2 (s.recGet p q i 0 2 - 1))) ∧
    (TakesWrite s src .awPartTfree p (Addr.awPartTfree p) → ∀ i,
      (s.devAddr (srcAddrs src) .read (fld v 47 0) 1).bind (s.objOf p 9) = some i → 2 ≤ s.recGet p 9 i 0 2 →
      exec (.tableFree src p v) s = .next (s.recPut p 9 i 0 2 (s.recGet p 9 i 0 2 - 1))) ∧
    (TakesWrite s src .awPartPoolCfg p (poolCfg p q) → ∃ u, exec (.poolConfigWrite src p q v) s = .next u ∧
      u.rd (poolCfg p q) = s.stored (poolCfg p q) v ∧ u.pool (poolKey p q) = List.range (fld (s.stored (poolCfg p q) v) 23 0)) ∧
    (TakesWrite s src .sqStrCfg c (Addr.sqStrCfg c k) → s.sqRes c k ≠ 3 → s.sqRes c k ≠ 4 →
      s.ops.any (fun o => !o.done && o.names c k) = false → ∃ u, exec (.sqStreamConfigWrite src c k v) s = .next u ∧
      u.rd (Addr.sqStrCfg c k) = s.stored (Addr.sqStrCfg c k) v ∧ u.sqRes c k = 0) ∧
    (TakesWrite s src .sqStrLive c (Addr.sqStrLive c k) → s.rb (Addr.sqStrCfg c k) 31 = false → exec (.sqLiveWrite src c k v) s =
      .next (s.wr (Addr.sqStrLive c k) (s.stored (Addr.sqStrLive c k) v))) ∧
    (s.canSwap c = true → ∀ y data, s.sqRes c k = 3 → s.sqRead c (s.rf (Addr.sqStrBack c k) 47 0) (s.imgLen c k) = ⟨y, data, true⟩ →
      exec (.swapInComplete c k false) s = .next
        ((((State.sqWrite y c (s.imgAddr c k 0) data).swapMoved c (s.imgAddr c k 0) (s.imgLen c k)).setSqRes c k 1).sat
          (Addr.sqCnt c) 31 16 1).startOps) ∧
    (s.canSwap c = true → ∀ y data, s.sqRes c k = 4 → s.sqRead c (s.imgAddr c k (s.curImg c k)) (s.imgLen c k) = ⟨y, data, true⟩ →
      exec (.swapOutComplete c k) s = .next (((State.sqWrite y c (s.rf (Addr.sqStrBack c k) 47 0) data).swapMoved c
        (s.rf (Addr.sqStrBack c k) 47 0) (s.imgLen c k)).setSqRes c k 2).startOps) ∧
    (s.pmu.boot = 3 → s.role ch = 6 → ∃ u, exec (.channelInitComplete ch) s = .next u ∧ u.role ch = s.rf (Addr.memChCfg ch) 2 0) ∧
    (s.role ch = 4 → ∃ u, exec (.retrainComplete ch) s = .next u ∧ u.role ch = 1 ∧ Sparse.get (fun _ => 0) u.trained ch = s.time) ∧
    (∀ b n rest, s.rotAt + 400000000 * Max.max 1 (s.rf Addr.memRotCfg 47 32) ≤ s.time → s.rb Addr.memRotCfg 0 = true →
      s.rb Addr.memStat 0 = true → s.rb Addr.pmuStat 1 = false → s.mig = none →
      s.role ch = 1 → (∀ j, j < ch → s.role j ≠ 1) → b < 26 → s.role b = 0 → s.slotsOn b = n :: rest →
      (∀ j, j < 26 → s.role j = 0 → s.slotsOn j ≠ [] → Sparse.get (fun _ => 0) s.trained b < Sparse.get (fun _ => 0) s.trained j ∨
        Sparse.get (fun _ => 0) s.trained b = Sparse.get (fun _ => 0) s.trained j ∧ b ≤ j) →
      exec .rotationStart s = .next { s.startMig n b ch false false with rotAt := s.time }) ∧
    (∀ m, s.mig = some m → m.cp < s.slotUnits → s.rb Addr.pmuStat 1 = false → (∀ k, (s.line k).bad = false ∧ (s.line k).poison = false) →
      ∃ u, exec (.migrationUnitCopy []) s = .next u ∧ u.mig = some { m with cp := m.cp + 1 }) ∧
    (∀ m, s.mig = some m → s.slotUnits ≤ m.cp → m.slot < 24 → m.src < 26 → m.dst < 26 → m.src ≠ m.dst → s.rd (Addr.hltKindRet 11) = 0 →
      State.slotsOn ((s.wf (Addr.memSlot m.slot) 4 0 m.dst).wb (Addr.memSlot m.slot) 5 m.upper) m.src = [] → ∃ u,
      exec .migrationComplete s = .next u ∧ u.mig = none ∧ u.rf (Addr.memSlot m.slot) 4 0 = m.dst ∧ u.role m.dst = 0)) ∧
  (∀ (s : State) (q : Nat) (x : Port), q < 4 → x = s.port q →
    (s.portUp q = true →
      (∀ b : Block, badBlock b = false → b.seq = x.rxSeq → ∃ y, exec (.fabricBlockReceive q b true) s = .next (State.place y q b) ∧
        (y.port q).rxSeq = (x.rxSeq + 1) % 65536 ∧ (y.port q).nakSent = false) ∧
      (∀ n l, l = x.replay.filter (fun b => !decide (seqBack n b.blk.seq < 64)) → l.length < x.replay.length →
        exec (.ackReceive q n) s = .next (s.setPort q { x with replay := l, again := Min.min x.again l.length, progressAt := s.time })) ∧
      (∀ n b rest y, x.replay = b :: rest → b.tries < 7 → y = (s.sat (Addr.fabPortCnt1 q) 47 32 1).setPort q { x with
          replay := { b with tries := b.tries + 1 } :: rest, progressAt := s.time, again := rest.length + 1, ctl := x.ctl ++ [(3, 0)] } →
        exec (.nakReceive q n) s = .next y ∧ (x.progressAt + 1600 ≤ s.time → exec (.replayTimeout q) s = .next y)) ∧
      (0 < x.unacked → x.unackedAt + 200 ≤ s.time → exec (.ackDelayExpiry q) s =
        .next (s.setPort q { x with ctl := x.ctl ++ [(0, (x.rxSeq + 65535) % 65536)], unacked := 0 })) ∧
      (∀ v n, v < 3 → 1 ≤ n → n ≤ 8 → exec (.creditReturn q v n) s =
        .next (s.setPort q { x with credits := x.credits.set v (Min.min (if v = 2 then 4 else 16) (x.credits.getD v 0 + n)) })) ∧
      (∀ b t, 0 < x.again → x.replay[x.replay.length - x.again]? = some b → b.blk.type ≠ 8 → exec (.blockSend q t) s =
        .next ((s.setPort q { x with ctl := [], again := x.again - 1, out := some b.blk }).inc (Addr.fabPortCnt0 q) 63 32 1)) ∧
      (∀ l r, l < 2 → r % 16 = 1 → exec (.eqRequest q l r) s = .next (s.setPort q { x with
        eq := x.eq.set l { x.eq.getD l ⟨0, 0, 0⟩ with pre := (x.eq.getD l ⟨0, 0, 0⟩).pre + 1 } }))) ∧
    (s.clk (11 + q) = true →
      (∀ p, s.rb (Addr.fabPortCfg q) 0 = true → s.portState q ≠ 5 → p = s.rf (Addr.fabPortCfg q) 5 3 →
        exec (.portTrainingStart q) s = .next ((s.setPort q { x with
          esc := false, trainAt := s.time, eq := [⟨p, 0, 0⟩, ⟨p, 0, 0⟩] }).setPortState q 1)) ∧
      (∀ nid np w h loop rtt res, s.portState q = 1 → x.esc = false → s.partnerOk q nid np w h loop = true → ∃ u,
        exec (.trainingComplete q nid np w h loop rtt res) s = .next u ∧ (u.port q).txSeq = 0 ∧ (u.port q).rxSeq = 0 ∧
        u.portState q = (if (s.lanesIn q).length = 2 then 2 else 3) ∧ u.rf (Addr.fabPortStat q) 48 40 = nid % 512) ∧
      (s.portState q = 1 → x.trainAt + 4000000 ≤ s.time → x.fails < 2 → exec (.trainingTimeout q) s =
        .next (s.setPort q { x with fails := x.fails + 1, esc := false, trainAt := s.time })) ∧
      (∀ b0 b1 rtt res, s.portState q = 1 → x.esc = true → x.declared = false → exec (.fastRetrainComplete q b0 b1 rtt res) s =
        .next (((s.setPort q { x with
          esc := false, declared := false, fails := 0, replay := x.replay.map (fun (b : Sent) => { b with tries := 0 }),
          again := x.replay.length, ctl := [(3, 0)], progressAt := s.time }).setLatency q rtt res).goUp q))))
end

