-- ==== Sys2Proof/Laws/Bits.lean ====
section
/-! SUPPORT. Laws of register fields: a field reads what was written to it, and fields that do not overlap are unchanged. -/

namespace Sys2Proof.Machine

open Sys2Proof

theorem fmask_getLsbD (hi lo i : Nat) (h : lo ≤ hi) (h2 : hi < 64) :
    (fmask hi lo).getLsbD i = decide (lo ≤ i ∧ i ≤ hi) := by
  unfold fmask
  by_cases hi64 : i < 64
  · simp only [BitVec.getLsbD_shiftLeft, BitVec.getLsbD_ushiftRight, BitVec.getLsbD_allOnes, hi64, decide_true, Bool.true_and]
    by_cases h3 : i < lo
    · simp [h3]
    · simp [h3]
      by_cases h4 : i ≤ hi
      · simp [h4]; omega
      · simp [h4]; omega
  · have : ¬ i ≤ hi := by omega
    simp [BitVec.getLsbD_of_ge _ _ (by omega : 64 ≤ i), this]

theorem setFld_getLsbD (v : W64) (hi lo x i : Nat) (h : lo ≤ hi) (h2 : hi < 64) :
    (setFld v hi lo x).getLsbD i =
      if lo ≤ i ∧ i ≤ hi then x.testBit (i - lo) else v.getLsbD i := by
  unfold setFld
  by_cases hi64 : i < 64
  · simp only [BitVec.getLsbD_or, BitVec.getLsbD_and, BitVec.getLsbD_not, hi64, decide_true, Bool.true_and,
      fmask_getLsbD _ _ _ h h2, BitVec.getLsbD_shiftLeft, BitVec.getLsbD_ofNat]
    by_cases h3 : lo ≤ i ∧ i ≤ hi
    · have h4 : ¬ i < lo := by omega
      have h5 : i - lo < 64 := by omega
      simp [h3, h4, h5]
    · simp [h3]
  · have h3 : ¬ (lo ≤ i ∧ i ≤ hi) := by omega
    simp [h3, BitVec.getLsbD_of_ge _ _ (by omega : 64 ≤ i)]

/-- A field reads what was written to it, cut to its width. -/
theorem fld_setFld_same (v : W64) (hi lo x : Nat) (h : lo ≤ hi) (h2 : hi < 64) :
    fld (setFld v hi lo x) hi lo = x % 2 ^ (hi + 1 - lo) := by
  unfold fld
  apply Nat.eq_of_testBit_eq
  intro i
  rw [← BitVec.getLsbD, BitVec.getLsbD_extractLsb', setFld_getLsbD _ _ _ _ _ h h2, Nat.testBit_mod_two_pow]
  by_cases h3 : i < hi + 1 - lo
  · have h4 : lo + i ≤ hi := by omega
    simp [h3, h4]
  · simp [h3]

/-- A write to one field leaves a field that does not overlap it alone. -/
theorem fld_setFld_other (v : W64) (hi lo x hi' lo' : Nat) (h : lo ≤ hi) (h2 : hi < 64) (h3 : hi' < lo ∨ hi < lo') :
    fld (setFld v hi lo x) hi' lo' = fld v hi' lo' := by
  unfold fld
  apply Nat.eq_of_testBit_eq
  intro i
  rw [← BitVec.getLsbD, ← BitVec.getLsbD, BitVec.getLsbD_extractLsb', BitVec.getLsbD_extractLsb', setFld_getLsbD _ _ _ _ _ h h2]
  by_cases h4 : i < hi' + 1 - lo'
  · have h5 : ¬ (lo ≤ lo' + i ∧ lo' + i ≤ hi) := by omega
    simp [h4, h5]
  · simp [h4]

theorem fld_lt (v : W64) (hi lo : Nat) : fld v hi lo < 2 ^ (hi + 1 - lo) := by
  unfold fld; exact BitVec.isLt _

theorem bytesOf_length (n x : Nat) : (bytesOf n x).length = n := by
  induction n generalizing x with
  | zero => rfl
  | succ n ih => simp [bytesOf, ih]

/-- Little-endian bytes give the number back. -/
theorem natOf_bytesOf (n x : Nat) : natOf (bytesOf n x) = x % 256 ^ n := by
  induction n generalizing x with
  | zero => simp [bytesOf, natOf, Nat.mod_one]
  | succ n ih =>
    simp only [bytesOf, natOf, ih, BitVec.toNat_ofNat]
    rw [show 256 ^ (n + 1) = 256 * 256 ^ n from by ring, Nat.mod_mul]

end Sys2Proof.Machine
end

