-- ==== Sys2Proof/Laws/Sparse.lean ====
section
/-! SUPPORT. Laws of sparse maps: read after write, every other key unchanged, the canonical form is kept. -/

namespace Sys2Proof.Machine

variable {β : Type}

@[simp] theorem Sparse.get_nil (d : Nat → β) (k : Nat) : Sparse.get d [] k = d k := rfl

theorem Sparse.get_erase_same (d : Nat → β) (m : Sparse β) (k : Nat) : Sparse.get d (m.erase k) k = d k := by
  induction m with
  | nil => rfl
  | cons e t ih =>
    obtain ⟨a, v⟩ := e
    by_cases h : a = k <;> simp [Sparse.erase, Sparse.get, h, ih]

theorem Sparse.get_erase_other (d : Nat → β) (m : Sparse β) {k j : Nat} (h : j ≠ k) :
    Sparse.get d (m.erase k) j = Sparse.get d m j := by
  induction m with
  | nil => rfl
  | cons e t ih =>
    obtain ⟨a, v⟩ := e
    by_cases h1 : a = k
    · have h2 : a ≠ j := fun h3 => h (by omega)
      simp [Sparse.erase, Sparse.get, h1, ih]
      intro h3; exact absurd h3.symm h
    · simp only [Sparse.erase, if_neg h1, Sparse.get, ih]

theorem Sparse.get_ins_other (d : Nat → β) (m : Sparse β) {k j : Nat} (v : β) (h : j ≠ k) :
    Sparse.get d (m.ins k v) j = Sparse.get d m j := by
  induction m with
  | nil => simp [Sparse.ins, Sparse.get]; intro h1; exact absurd h1.symm h
  | cons e t ih =>
    obtain ⟨a, w⟩ := e
    by_cases h1 : k < a
    · have : ¬ k = j := fun h2 => h h2.symm
      simp [Sparse.ins, Sparse.get, h1, this]
    · simp only [Sparse.ins, if_neg h1, Sparse.get, ih]

theorem Sparse.get_ins_erase (d : Nat → β) (m : Sparse β) (k : Nat) (v : β) :
    Sparse.get d ((m.erase k).ins k v) k = v := by
  induction m with
  | nil => simp [Sparse.erase, Sparse.ins, Sparse.get]
  | cons e t ih =>
    obtain ⟨a, w⟩ := e
    by_cases h1 : a = k
    · simp [Sparse.erase, h1, ih]
    · by_cases h2 : k < a <;> simp [Sparse.erase, Sparse.ins, Sparse.get, h1, h2, ih]

/-- A read after a write to the same key gives the value written. -/
@[simp] theorem Sparse.get_set_same [DecidableEq β] (d : Nat → β) (m : Sparse β) (k : Nat) (v : β) :
    Sparse.get d (Sparse.set d m k v) k = v := by
  unfold Sparse.set
  split
  · next h => rw [Sparse.get_erase_same, h]
  · exact Sparse.get_ins_erase d m k v

/-- A write leaves every other key alone. -/
theorem Sparse.get_set_other [DecidableEq β] (d : Nat → β) (m : Sparse β) {k j : Nat} (v : β) (h : j ≠ k) :
    Sparse.get d (Sparse.set d m k v) j = Sparse.get d m j := by
  unfold Sparse.set
  split
  · exact Sparse.get_erase_other d m h
  · rw [Sparse.get_ins_other d _ v h, Sparse.get_erase_other d m h]

theorem Sparse.get_keep (d : Nat → β) (p : Nat → Bool) (m : Sparse β) (k : Nat) :
    Sparse.get d (m.keep p) k = if p k then Sparse.get d m k else d k := by
  induction m with
  | nil => simp [Sparse.keep]
  | cons e t ih =>
    obtain ⟨a, v⟩ := e
    simp only [Sparse.keep] at ih
    by_cases hp : p a <;> by_cases h : a = k
    · subst h; simp [Sparse.keep, Sparse.get, hp]
    · simp [Sparse.keep, Sparse.get, hp, h, ih]
    · subst h; simp [Sparse.keep, hp, ih]
    · simp [Sparse.keep, Sparse.get, hp, h, ih]

theorem Sparse.above_erase (b : Nat) (m : Sparse β) (k : Nat) (h : m.above b = true) :
    (m.erase k).above b = true := by
  induction m with
  | nil => rfl
  | cons e t ih =>
    obtain ⟨a, v⟩ := e
    simp [Sparse.above] at h
    by_cases h1 : a = k <;> simp [Sparse.erase, Sparse.above, h1, ih h.2, h.1]

theorem Sparse.above_mono {b c : Nat} (m : Sparse β) (h : m.above c = true) (hb : b < c) : m.above b = true := by
  induction m with
  | nil => rfl
  | cons e t ih =>
    obtain ⟨a, v⟩ := e
    simp [Sparse.above] at h ⊢
    exact ⟨by omega, ih h.2⟩

theorem Sparse.above_ins {b : Nat} (m : Sparse β) (k : Nat) (v : β) (h : m.above b = true) (hk : b < k) :
    (m.ins k v).above b = true := by
  induction m with
  | nil => simp [Sparse.ins, Sparse.above, hk]
  | cons e t ih =>
    obtain ⟨a, w⟩ := e
    simp [Sparse.above] at h
    by_cases h1 : k < a <;> simp [Sparse.ins, Sparse.above, h1, hk, h.1, h.2, ih]

theorem Sparse.wf_erase [DecidableEq β] (d : Nat → β) (m : Sparse β) (k : Nat) (h : m.wf d = true) :
    (m.erase k).wf d = true := by
  induction m with
  | nil => rfl
  | cons e t ih =>
    obtain ⟨a, v⟩ := e
    simp [Sparse.wf] at h
    by_cases h1 : a = k <;> simp [Sparse.erase, Sparse.wf, h1, ih h.2]
    exact ⟨h.1.1, Sparse.above_erase a t k h.1.2⟩

theorem Sparse.wf_ins [DecidableEq β] (d : Nat → β) (m : Sparse β) (k : Nat) (v : β) (h : m.wf d = true)
    (hv : v ≠ d k) (hk : ∀ e ∈ m, e.1 ≠ k) : (m.ins k v).wf d = true := by
  induction m with
  | nil => simp [Sparse.ins, Sparse.wf, Sparse.above, hv]
  | cons e t ih =>
    obtain ⟨a, w⟩ := e
    simp [Sparse.wf] at h
    have hka : a ≠ k := hk (a, w) (by simp)
    by_cases h1 : k < a
    · simp [Sparse.ins, Sparse.wf, Sparse.above, h1, hv, h]
      exact Sparse.above_mono t h.1.2 h1
    · simp [Sparse.ins, Sparse.wf, h1, h.1.1]
      exact ⟨Sparse.above_ins t k v h.1.2 (by omega), ih h.2 fun e he => hk e (by simp [he])⟩

theorem Sparse.key_of_erase (m : Sparse β) (k : Nat) : ∀ e ∈ m.erase k, e.1 ≠ k := by
  induction m with
  | nil => intro e he; simp [Sparse.erase] at he
  | cons e t ih =>
    obtain ⟨a, v⟩ := e
    by_cases h1 : a = k
    · simp [Sparse.erase, h1]; intro a b hab; exact ih (a, b) hab
    · intro x hx
      simp [Sparse.erase, h1] at hx
      rcases hx with rfl | hx
      · exact h1
      · exact ih x hx

/-- A write keeps the canonical form. -/
theorem Sparse.wf_set [DecidableEq β] (d : Nat → β) (m : Sparse β) (k : Nat) (v : β) (h : m.wf d = true) :
    (Sparse.set d m k v).wf d = true := by
  unfold Sparse.set
  split
  · exact Sparse.wf_erase d m k h
  · next hv => exact Sparse.wf_ins d _ k v (Sparse.wf_erase d m k h) hv (Sparse.key_of_erase m k)

theorem Sparse.above_keep (b : Nat) (p : Nat → Bool) (m : Sparse β) (h : m.above b = true) :
    (m.keep p).above b = true := by
  induction m with
  | nil => rfl
  | cons e t ih =>
    obtain ⟨a, v⟩ := e
    simp [Sparse.above] at h
    have ih' := ih h.2
    simp only [Sparse.keep] at ih' ⊢
    by_cases hp : p a <;> simp [hp, Sparse.above, h.1, ih']

/-- Dropping entries keeps the canonical form. -/
theorem Sparse.wf_keep [DecidableEq β] (d : Nat → β) (p : Nat → Bool) (m : Sparse β) (h : m.wf d = true) :
    (m.keep p).wf d = true := by
  induction m with
  | nil => rfl
  | cons e t ih =>
    obtain ⟨a, v⟩ := e
    simp [Sparse.wf] at h
    have ih' := ih h.2
    have hk := Sparse.above_keep a p t h.1.2
    simp only [Sparse.keep] at ih' hk ⊢
    by_cases hp : p a <;> simp [hp, Sparse.wf, h.1, ih', hk]

end Sys2Proof.Machine
end

