-- ==== Sys2Proof/Laws/Issue.lean ====
section
/-! SUPPORT. Laws of issue: what an instruction that completes leaves, and what one that raises an exception does. -/

namespace Sys2Proof.Machine

open Sys2Proof

@[simp] theorem State.thread_setThread_same (s : State) (t : Nat) (x : Thread) : (s.setThread t x).thread t = x :=
  Sparse.get_set_same _ _ _ _

theorem State.thread_setThread_other (s : State) {t k : Nat} (x : Thread) (h : k ≠ t) :
    (s.setThread t x).thread k = s.thread k := Sparse.get_set_other _ _ _ h

theorem Thread.gr_setG_other (x : Thread) {n m : Reg} (v : W64) (h : m ≠ n) : (x.setG n v).gr m = x.gr m := by
  unfold Thread.setG
  split
  · rfl
  · have h2 : m.toNat ≠ n.toNat := fun e => h (BitVec.eq_of_toNat_eq e)
    simp [Thread.gr, Sparse.get_set_other _ _ _ h2]

theorem Thread.gr_setG_same (x : Thread) (n : Reg) (v : W64) (h : n ≠ 0) : (x.setG n v).gr n = v := by
  unfold Thread.setG Thread.gr
  rw [if_neg h, if_neg h, Sparse.get_set_same]

@[simp] theorem Thread.setG_pc (x : Thread) (n : Reg) (v : W64) : (x.setG n v).pc = x.pc := by
  unfold Thread.setG; split <;> rfl

@[simp] theorem Thread.setP_pc (x : Thread) (n : BitVec 3) (v : Bool) : (x.setP n v).pc = x.pc := by
  unfold Thread.setP; split <;> rfl

/-- Counting a retired instruction changes the count and the operation counts, nothing else. -/
theorem State.tally_frame (s : State) (t : Nat) :
    s.tally t = { s with retired := (s.tally t).retired, health := (s.tally t).health } := by
  have key : ∀ (s : State) k u n, s.countOps k u n = { s with health := (s.countOps k u n).health } := by
    intro s k u n
    unfold State.countOps
    split <;> simp [State.setHu]
  unfold State.tally
  dsimp only
  split
  · split
    · rw [key]
    · rw [key]
  · rfl

@[simp] theorem State.tally_threads (s : State) (t : Nat) : (s.tally t).threads = s.threads := by
  rw [State.tally_frame]

/-- A thread set and then counted as having retired an instruction, as a command leaves it. -/
theorem leaves_of {i : Instr} {s : State} {t : Nat} {x : Thread} (h : exec i s = .next ((s.setThread t x).tally t)) :
    Leaves i s t x := by
  refine ⟨_, h, ?_, ?_, ?_⟩
  · simp [State.thread, State.setThread]
  · intro k hk
    simp [State.thread, State.setThread, Sparse.get_set_other _ _ _ hk]
  · rw [State.tally_frame]; simp [State.setThread]

/-- Two settings of one thread: the later stands. -/
theorem Sparse.erase_erase {β : Type} (m : Sparse β) (k : Nat) : (m.erase k).erase k = m.erase k := by
  induction m with
  | nil => rfl
  | cons e t ih =>
    obtain ⟨a, v⟩ := e
    by_cases h : a = k
    · simp [Sparse.erase, h, ih]
    · simp [Sparse.erase, h, ih]

theorem Sparse.erase_ins {β : Type} (m : Sparse β) (k : Nat) (v : β) : ((m.erase k).ins k v).erase k = m.erase k := by
  induction m with
  | nil => simp [Sparse.erase, Sparse.ins]
  | cons e t ih =>
    obtain ⟨a, w⟩ := e
    by_cases h : a = k
    · simp [Sparse.erase, h, ih]
    · by_cases h2 : k < a
      · simp [Sparse.erase, h, Sparse.ins, h2, Sparse.erase_erase]
      · simp [Sparse.erase, h, Sparse.ins, h2, ih]

@[simp] theorem Sparse.set_set {β : Type} [DecidableEq β] (d : Nat → β) (m : Sparse β) (k : Nat) (v w : β) :
    Sparse.set d (Sparse.set d m k v) k w = Sparse.set d m k w := by
  have h : (Sparse.set d m k v).erase k = m.erase k := by
    unfold Sparse.set
    split
    · exact Sparse.erase_erase m k
    · exact Sparse.erase_ins m k v
  show (if w = d k then (Sparse.set d m k v).erase k else ((Sparse.set d m k v).erase k).ins k w) = _
  rw [h]; rfl

@[simp] theorem State.setThread_setThread (s : State) (t : Nat) (x y : Thread) :
    (s.setThread t x).setThread t y = s.setThread t y := by
  simp [State.setThread]

/-- What an instruction that writes a g register leaves. -/
theorem State.retG_eq (s : State) (t : Nat) (gd : Reg) (v : W64) :
    s.retG t gd v = (s.setThread t ((s.thread t).setG gd v).onward).tally t := by
  simp [State.retG, State.nextPc, State.goTo, State.setG, Thread.onward, pcOf]

/-- What an instruction that writes a p register leaves. -/
theorem State.retP_eq (s : State) (t : Nat) (pd : BitVec 3) (v : Bool) :
    s.retP t pd v = (s.setThread t ((s.thread t).setP pd v).onward).tally t := by
  simp [State.retP, State.nextPc, State.goTo, Thread.onward, pcOf]

theorem State.nextPc_eq (s : State) (t : Nat) : s.nextPc t = (s.setThread t (s.thread t).onward).tally t := by
  simp [State.nextPc, State.goTo, Thread.onward, pcOf]

/-- An instruction of a thread that may issue answers with its effect. -/
theorem instr_runs {t : Nat} {s : State} (h : Runs s t) (f : State → State) : instr t f s = .next (f s) := by
  simp [instr, State.issue, h.1, h.2]

/-- An instruction that raises an exception. -/
theorem traps_of {i : Instr} {s : State} {t : Nat} {e : Exc} {v : W64} (h : exec i s = .next (s.raise t e v)) :
    Traps i s t e v := by
  constructor
  · rintro ⟨h1, h2⟩
    rw [h]
    have h3 : ¬((s.thread t).ehand = 0 ∨ bit (s.thread t).ecause 8 = true) := by
      rintro (h4 | h4)
      · exact h1 h4
      · exact absurd (h2.symm.trans h4) (by decide)
    show Host.Outcome.next (if _ then _ else _) = _
    rw [if_neg h3]
    rfl
  · intro h1
    rw [h]
    show Host.Outcome.next (if _ then _ else _) = _
    exact congrArg _ (if_pos h1)

end Sys2Proof.Machine
end

