-- ==== Sys2Proof/Laws/MemOps.lean ====
section
/-! SUPPORT. Laws of memory: what every operation of Machine/Ops.lean leaves of it, and that its form is kept. -/

namespace Sys2Proof.Machine

open Sys2Proof

@[simp] theorem foldl_mem {α : Type} (f : State → α → State) (l : List α) (s : State) (h : ∀ s a, (f s a).mem = s.mem) :
    (l.foldl f s).mem = s.mem := by
  induction l generalizing s with
  | nil => rfl
  | cons a t ih => simp [ih, h]

theorem ite_mem (c : Prop) [Decidable c] (a b : State) : (if c then a else b).mem = if c then a.mem else b.mem := by
  split <;> rfl

@[simp] theorem ite_memWf (c : Prop) [Decidable c] (a b : State) (ha : Memory.wf a.mem = true) (hb : Memory.wf b.mem = true) :
    Memory.wf (if c then a else b).mem = true := by
  split <;> assumption

@[simp] theorem foldl_memWf {α : Type} (f : State → α → State) (l : List α) (s : State)
    (hf : ∀ s a, Memory.wf s.mem = true → Memory.wf (f s a).mem = true) (h : Memory.wf s.mem = true) :
    Memory.wf (l.foldl f s).mem = true := by
  induction l generalizing s with
  | nil => exact h
  | cons a t ih => exact ih _ (hf _ _ h)

@[simp] theorem State.wr_memory (s : State) (off : Nat) (v : W64) : (State.wr s off v).mem = s.mem := by
  unfold State.wr; with_reducible rfl

@[simp] theorem State.wf_memory (s : State) (off : Nat) (hi : Nat) (lo : Nat) (x : Nat) : (State.wf s off hi lo x).mem = s.mem := by
  simp [State.wf]

@[simp] theorem State.wb_memory (s : State) (off : Nat) (i : Nat) (b : Bool) : (State.wb s off i b).mem = s.mem := by
  simp [State.wb]

@[simp] theorem State.sat_memory (s : State) (off : Nat) (hi : Nat) (lo : Nat) (n : Nat) : (State.sat s off hi lo n).mem = s.mem := by
  simp [State.sat]

@[simp] theorem State.inc_memory (s : State) (off : Nat) (hi : Nat) (lo : Nat) (n : Nat) : (State.inc s off hi lo n).mem = s.mem := by
  simp [State.inc]

@[simp] theorem State.resetRegs_memory (s : State) (p : Nat → Bool) : (State.resetRegs s p).mem = s.mem := by
  unfold State.resetRegs; with_reducible rfl

@[simp] theorem State.setAxis_memory (s : State) (n : Nat) (x : AxisX) : (State.setAxis s n x).mem = s.mem := by
  unfold State.setAxis; with_reducible rfl

@[simp] theorem State.setOut_memory (s : State) (o : Nat) (x : OutX) : (State.setOut s o x).mem = s.mem := by
  unfold State.setOut; with_reducible rfl

@[simp] theorem State.setCam_memory (s : State) (k : Nat) (x : Cam) : (State.setCam s k x).mem = s.mem := by
  unfold State.setCam; with_reducible rfl

@[simp] theorem State.setRing_memory (s : State) (r : Nat) (x : Ring) : (State.setRing s r x).mem = s.mem := by
  unfold State.setRing; with_reducible rfl

@[simp] theorem State.setCal_memory (s : State) (t : Nat) (x : Cal) : (State.setCal s t x).mem = s.mem := by
  unfold State.setCal; with_reducible rfl

@[simp] theorem State.setDie_memory (s : State) (e : Nat) (x : Die) : (State.setDie s e x).mem = s.mem := by
  unfold State.setDie; with_reducible rfl

@[simp] theorem State.setVring_memory (s : State) (v : Nat) (x : VRing) : (State.setVring s v x).mem = s.mem := by
  unfold State.setVring; with_reducible rfl

@[simp] theorem State.setCtx_memory (s : State) (c : Nat) (x : Nat) (v : Ctx) : (State.setCtx s c x v).mem = s.mem := by
  unfold State.setCtx; with_reducible rfl

@[simp] theorem State.setClu_memory (s : State) (c : Nat) (x : Clu) : (State.setClu s c x).mem = s.mem := by
  unfold State.setClu; with_reducible rfl

@[simp] theorem State.setSem_memory (s : State) (k : Nat) (x : Sem) : (State.setSem s k x).mem = s.mem := by
  unfold State.setSem; with_reducible rfl

@[simp] theorem State.setThread_memory (s : State) (t : Nat) (x : Thread) : (State.setThread s t x).mem = s.mem := by
  unfold State.setThread; with_reducible rfl

@[simp] theorem State.setPend_memory (s : State) (c : Nat) (v : W64) : (State.setPend s c v).mem = s.mem := by
  unfold State.setPend; with_reducible rfl

@[simp] theorem State.setTile_memory (s : State) (k : Nat) (x : TileX) : (State.setTile s k x).mem = s.mem := by
  unfold State.setTile; with_reducible rfl

@[simp] theorem State.setPp_memory (s : State) (n : Nat) (x : PpX) : (State.setPp s n x).mem = s.mem := by
  unfold State.setPp; with_reducible rfl

@[simp] theorem State.setPool_memory (s : State) (k : Nat) (x : List Nat) : (State.setPool s k x).mem = s.mem := by
  unfold State.setPool; with_reducible rfl

@[simp] theorem State.setRes_mem (s : State) (c : Nat) (x : List Nat) : (State.setRes s c x).mem = s.mem := by
  simp [State.setRes]

@[simp] theorem State.setPort_memory (s : State) (q : Nat) (x : Port) : (State.setPort s q x).mem = s.mem := by
  unfold State.setPort; with_reducible rfl

@[simp] theorem State.setKey_memory (s : State) (p : Nat) (x : Keys) : (State.setKey s p x).mem = s.mem := by
  unfold State.setKey; with_reducible rfl

@[simp] theorem State.setMsi_memory (s : State) (f : Nat) (x : Msix) : (State.setMsi s f x).mem = s.mem := by
  unfold State.setMsi; with_reducible rfl

@[simp] theorem State.setEvring_memory (s : State) (f : Nat) (x : EvRing) : (State.setEvring s f x).mem = s.mem := by
  unfold State.setEvring; with_reducible rfl

@[simp] theorem State.setHu_memory (s : State) (k : Nat) (u : Nat) (x : UnitH) : (State.setHu s k u x).mem = s.mem := by
  unfold State.setHu; with_reducible rfl

@[simp] theorem State.setLf_memory (s : State) (k : Nat) (v : BitVec 32) : (State.setLf s k v).mem = s.mem := by
  unfold State.setLf; with_reducible rfl

@[simp] theorem State.setTd_memory (s : State) (p : Nat) (x : Tear) : (State.setTd s p x).mem = s.mem := by
  unfold State.setTd; with_reducible rfl

@[simp] theorem State.fresh_memory (s : State) : (State.fresh s).2.mem = s.mem := by
  unfold State.fresh; with_reducible rfl

@[simp] theorem State.setG_memory (s : State) (t : Nat) (n : Reg) (v : W64) : (State.setG s t n v).mem = s.mem := by
  simp [State.setG]

@[simp] theorem State.wake_memory (s : State) (t : Nat) : (State.wake s t).mem = s.mem := by
  simp [State.wake]

@[simp] theorem State.raiseMsi_mem (s : State) (f : Nat) (v : Nat) : (State.raiseMsi s f v).mem = s.mem := by
  simp only [State.raiseMsi]; (repeat' split) <;> (try simp)

@[simp] theorem State.supEvent_mem (s : State) : (State.supEvent s).mem = s.mem := by
  simp only [State.supEvent]; (repeat' split) <;> (try simp)

@[simp] theorem State.evPush_mem (s : State) (f : Nat) (type : Nat) (body : List Byte) : (State.evPush s f type body).2.mem = s.mem := by
  simp only [State.evPush]; (repeat' split) <;> (try simp)

@[simp] theorem State.newRec_mem (s : State) (r : Report) : (State.newRec s r).mem = s.mem := by
  simp only [State.newRec]; (repeat' split) <;> (try simp)

@[simp] theorem State.record_mem (s : State) (r : Report) : (State.record s r).mem = s.mem := by
  simp only [State.record]; (repeat' split) <;> (try simp)

end Sys2Proof.Machine
end

