-- ==== Sys2Proof/Laws/MemLines.lean ====
section
/-! SUPPORT. Laws of memory: what every operation of Machine/Lines.lean leaves of it, and that its form is kept. -/

namespace Sys2Proof.Machine

open Sys2Proof

@[simp] theorem State.setLine_memory (s : State) (k : Nat) (m : LineMeta) : (State.setLine s k m).mem = s.mem := by
  unfold State.setLine; with_reducible rfl

@[simp] theorem State.setByte_memWf (s : State) (k : Nat) (v : Byte) (h : Memory.wf s.mem = true) :
    Memory.wf (s.setByte k v).mem = true :=
  Sparse.wf_set _ _ _ _ h

@[simp] theorem State.setBytes_memWf (s : State) (k : Nat) (y2 : List Byte) (h : Memory.wf s.mem = true) : Memory.wf (State.setBytes s k y2).mem = true := by
  fun_induction State.setBytes s k y2 <;> (repeat' (first | (extract_lets +onlyGivenNames y; (first | (have hy : Memory.wf y.mem = true := by simp (maxDischargeDepth := 40) [y, *]) | (have hy : Memory.wf y.2.mem = true := by simp (maxDischargeDepth := 40) [y, *]) | (have hy : Memory.wf y.1.mem = true := by simp (maxDischargeDepth := 40) [y, *]) | (have hy : Memory.wf y.mem = true := by simp only [y]; (repeat' (split <;> (try (rename_i heq; have e1 := congrArg (fun p => Memory.wf p.1.mem) heq; clear heq; dsimp only at e1; have hq := e1.symm.trans (show _ = true by clear e1; simp (maxDischargeDepth := 40) [*]); clear e1)) <;> (try (rename_i heq; have e1 := congrArg (fun p => Memory.wf p.2.mem) heq; clear heq; dsimp only at e1; have hq := e1.symm.trans (show _ = true by clear e1; simp (maxDischargeDepth := 40) [*]); clear e1)) <;> (try (rename_i heq; have e1 := congrArg (fun p => Memory.wf p.2.1.mem) heq; clear heq; dsimp only at e1; have hq := e1.symm.trans (show _ = true by clear e1; simp (maxDischargeDepth := 40) [*]); clear e1)))) <;> simp (maxDischargeDepth := 40) [*]) | skip); clear_value y) | (split <;> (try (rename_i heq; have e1 := congrArg (fun p => Memory.wf p.1.mem) heq; clear heq; dsimp only at e1; have hq := e1.symm.trans (show _ = true by clear e1; simp (maxDischargeDepth := 40) [*]); clear e1)) <;> (try (rename_i heq; have e1 := congrArg (fun p => Memory.wf p.2.mem) heq; clear heq; dsimp only at e1; have hq := e1.symm.trans (show _ = true by clear e1; simp (maxDischargeDepth := 40) [*]); clear e1)) <;> (try (rename_i heq; have e1 := congrArg (fun p => Memory.wf p.2.1.mem) heq; clear heq; dsimp only at e1; have hq := e1.symm.trans (show _ = true by clear e1; simp (maxDischargeDepth := 40) [*]); clear e1))))) <;> (try simp (maxDischargeDepth := 40) [*])

@[simp] theorem State.poke_memWf (s : State) (a : Nat) (bs : List Byte) (h : Memory.wf s.mem = true) : Memory.wf (State.poke s a bs).mem = true := by
  simp (maxDischargeDepth := 40) +contextual [State.poke, h]

end Sys2Proof.Machine
end

