-- ==== Sys2Proof/Laws/MemDesc.lean ====
section
/-! SUPPORT. Laws of memory: what every operation of Machine/Desc.lean leaves of it, and that its form is kept. -/

namespace Sys2Proof.Machine

open Sys2Proof

@[simp] theorem State.rawWrite_memWf (s : State) (tag a : Nat) (bs : List Byte) (h : Memory.wf s.mem = true) :
    Memory.wf (s.rawWrite tag a bs).mem = true := by
  unfold State.rawWrite
  refine foldl_memWf _ _ _ (fun s i hs => ?_) h
  refine ite_memWf _ _ _ hs ?_
  refine foldl_memWf _ _ _ (fun s k hs => ?_) hs
  simp (maxDischargeDepth := 40) [hs]

@[simp] theorem State.opWrite_memWf (s : State) (o : Op) (a : Nat) (bs : List Byte) (h : Memory.wf s.mem = true) : Memory.wf (State.opWrite s o a bs).mem = true := by
  simp only [State.opWrite]; (repeat' split) <;> (try simp (maxDischargeDepth := 40) [h])

@[simp] theorem State.undefDesc_memWf (s : State) (o : Op) (i : Nat) (d : Desc) (h : Memory.wf s.mem = true) : Memory.wf (State.undefDesc s o i d).mem = true := by
  simp (maxDischargeDepth := 40) +contextual [State.undefDesc, h]

@[simp] theorem State.undefDst_memWf (s : State) (o : Op) (h : Memory.wf s.mem = true) : Memory.wf (State.undefDst s o).mem = true := by
  simp (maxDischargeDepth := 40) [State.undefDst, h]

@[simp] theorem State.writeRes_memWf (s : State) (o : Op) (st : Nat) (flags : Nat) (h : Memory.wf s.mem = true) : Memory.wf (State.writeRes s o st flags).mem = true := by
  simp (maxDischargeDepth := 40) [State.writeRes, h]

@[simp] theorem State.notDone_memWf (s : State) (o : Op) (h : Memory.wf s.mem = true) : Memory.wf (State.notDone s o).mem = true := by
  simp only [State.notDone]; split <;> simp (maxDischargeDepth := 40) +contextual [h]

@[simp] theorem State.leave_memWf (s : State) (o : Op) (st : Nat) (flags : Nat) (h : Memory.wf s.mem = true) : Memory.wf (State.leave s o st flags).mem = true := by
  simp only [State.leave]; (repeat' split) <;> simp (maxDischargeDepth := 40) [h]

end Sys2Proof.Machine
end

