-- ==== Sys2Proof/Laws/MemJobs.lean ====
section
/-! SUPPORT. Laws of memory: what every operation of Machine/Jobs.lean leaves of it, and that its form is kept. -/

namespace Sys2Proof.Machine

open Sys2Proof

@[simp] theorem State.accIssued_mem (s : State) (p : Nat) (c : Nat) : (State.accIssued s p c).mem = s.mem := by
  simp [State.accIssued]

@[simp] theorem State.accCompleted_mem (s : State) (p : Nat) (c : Nat) : (State.accCompleted s p c).mem = s.mem := by
  simp [State.accCompleted]

@[simp] theorem State.accPreempt_mem (s : State) (p : Nat) (c : Nat) : (State.accPreempt s p c).mem = s.mem := by
  simp [State.accPreempt]

@[simp] theorem State.accFellback_mem (s : State) (p : Nat) (c : Nat) : (State.accFellback s p c).mem = s.mem := by
  simp [State.accFellback]

@[simp] theorem State.accDeferred_mem (s : State) (p : Nat) (c : Nat) : (State.accDeferred s p c).mem = s.mem := by
  simp [State.accDeferred]

@[simp] theorem State.semSync_mem (s : State) (k : Nat) : (State.semSync s k).mem = s.mem := by
  simp only [State.semSync]; (repeat' split) <;> (try simp)

@[simp] theorem State.ctxSync_mem (s : State) (c : Nat) (x : Nat) : (State.ctxSync s c x).mem = s.mem := by
  simp only [State.ctxSync]; (repeat' split) <;> (try simp)

@[simp] theorem State.putCtx_mem (s : State) (c : Nat) (x : Nat) (v : Ctx) : (State.putCtx s c x v).mem = s.mem := by
  simp [State.putCtx]

@[simp] theorem State.unsend_mem (s : State) (o : Op) : (State.unsend s o).mem = s.mem := by
  simp only [State.unsend]; (repeat' split) <;> (try simp)

@[simp] theorem State.loadArr_mem (s : State) (c x : Nat) : (State.loadArr s c x).mem = s.mem := by
  simp [State.loadArr]

@[simp] theorem State.runBase_mem (s : State) (c : Nat) (lent : Option Nat) (dev : Bool) : (State.runBase s c lent dev).mem = s.mem := by
  simp [State.runBase]

@[simp] theorem State.runCtx_mem (s : State) (c : Nat) (x : Nat) (lent : Option Nat) : (State.runCtx s c x lent).mem = s.mem := by
  simp [State.runCtx]

@[simp] theorem State.pickFrom_mem (s : State) (c : Nat) (paid y2 : List Nat) : (State.pickFrom s c paid y2).mem = s.mem := by
  fun_induction State.pickFrom s c paid y2 <;> simp_all (maxDischargeDepth := 40) [ite_mem]

@[simp] theorem State.pick_mem (s : State) (c : Nat) : (State.pick s c).mem = s.mem := by
  simp only [State.pick]; (repeat' split) <;> (try simp)

@[simp] theorem State.unrun_mem (s : State) (c : Nat) : (State.unrun s c).mem = s.mem := by
  simp only [State.unrun]; (repeat' split) <;> (try simp)

@[simp] theorem State.switchOut_mem (s : State) (c : Nat) : (State.switchOut s c).mem = s.mem := by
  simp only [State.switchOut]; (repeat' split) <;> (try simp)

@[simp] theorem State.giveUp_mem (s : State) (c x : Nat) : (State.giveUp s c x).mem = s.mem := by
  simp only [State.giveUp]; (repeat' split) <;> (try simp)

@[simp] theorem State.askPreempt_mem (s : State) (c : Nat) : (State.askPreempt s c).mem = s.mem := by
  simp only [State.askPreempt]; (repeat' split) <;> (try simp)

@[simp] theorem State.offer_mem (s : State) (c : Nat) (x : Nat) : (State.offer s c x).mem = s.mem := by
  simp only [State.offer]; (repeat' split) <;> (try simp)

@[simp] theorem State.becomeReady_mem (s : State) (c : Nat) (x : Nat) : (State.becomeReady s c x).mem = s.mem := by
  simp [State.becomeReady]

@[simp] theorem State.resume_mem (s : State) (t : Nat) : (State.resume s t).mem = s.mem := by
  simp only [State.resume]; (repeat' split) <;> (try simp)

@[simp] theorem State.block_mem (s : State) (t : Nat) (w : Wait) (st : CtxSt) : (State.block s t w st).mem = s.mem := by
  simp only [State.block]; (repeat' split) <;> (try simp)

@[simp] theorem State.dropRaise_mem (s : State) (t : Nat) : (State.dropRaise s t).mem = s.mem := by
  simp only [State.dropRaise]; (repeat' split) <;> (try simp)

@[simp] theorem State.unwait_mem (s : State) (t : Nat) : (State.unwait s t).mem = s.mem := by
  simp [State.unwait]

@[simp] theorem State.grant_mem (s : State) (k : Nat) (t : Nat) : (State.grant s k t).mem = s.mem := by
  simp [State.grant]

@[simp] theorem State.grantAll_mem (y0 : Nat) (y1 : State) (y2 : Nat) : (State.grantAll y0 y1 y2).mem = y1.mem := by
  fun_induction State.grantAll y0 y1 y2 <;> simp_all (maxDischargeDepth := 40) [ite_mem]

@[simp] theorem State.release_mem (s : State) (k : Nat) (t : Nat) : (State.release s k t).mem = s.mem := by
  simp [State.release]

@[simp] theorem State.forceRel_mem (s : State) (k : Nat) (t : Nat) : (State.forceRel s k t).mem = s.mem := by
  simp [State.forceRel]

@[simp] theorem State.releaseAll_mem (s : State) (t : Nat) (count : Bool) : (State.releaseAll s t count).mem = s.mem := by
  simp only [State.releaseAll]; (repeat' split) <;> (try simp)

@[simp] theorem State.tktDone_mem (s : State) (t : Nat) (serial : Nat) (st : Nat) (flags : Nat) : (State.tktDone s t serial st flags).mem = s.mem := by
  simp only [State.tktDone]; (repeat' split) <;> (try simp)

@[simp] theorem State.newTkt_mem (s : State) (t : Nat) : (State.newTkt s t).2.mem = s.mem := by
  simp [State.newTkt]

@[simp] theorem State.contribute_mem (s : State) (h : Nat) (k : Contrib) : (State.contribute s h k).mem = s.mem := by
  simp only [State.contribute]; (repeat' split) <;> (try simp)

@[simp] theorem State.useSync_mem (s : State) (p : Nat) : (State.useSync s p).mem = s.mem := by
  simp [State.useSync]

@[simp] theorem State.postDie_mem (s : State) (e : Nat) : (State.postDie s e).mem = s.mem := by
  simp [State.postDie]

@[simp] theorem State.maybePost_mem (s : State) (e : Nat) : (State.maybePost s e).mem = s.mem := by
  simp only [State.maybePost]; (repeat' split) <;> (try simp)

@[simp] theorem State.jobGone_mem (s : State) (h : Nat) : (State.jobGone s h).mem = s.mem := by
  simp only [State.jobGone]; (repeat' split) <;> (try simp)

@[simp] theorem State.deferFor_mem (s : State) (j : Job) (path : Nat) (reason : Nat) : (State.deferFor s j path reason).mem = s.mem := by
  simp only [State.deferFor]; (repeat' split) <;> (try simp)

@[simp] theorem State.cancelOp_memWf (s : State) (o : Op) (h : Memory.wf s.mem = true) : Memory.wf (State.cancelOp s o).mem = true := by
  simp (maxDischargeDepth := 40) [State.cancelOp, h]

@[simp] theorem State.dropDir_memWf (s : State) (o : Op) (h : Memory.wf s.mem = true) : Memory.wf (State.dropDir s o).mem = true := by
  simp (maxDischargeDepth := 40) [State.dropDir, h]

@[simp] theorem State.stopOps_memWf (s : State) (t : Nat) (h : Memory.wf s.mem = true) : Memory.wf (State.stopOps s t).mem = true := by
  simp (maxDischargeDepth := 40) +contextual [State.stopOps, h]

@[simp] theorem State.startThread_mem (s : State) (c : Nat) (x : Nat) (pc : Nat) (keep : Bool) : (State.startThread s c x pc keep).mem = s.mem := by
  simp [State.startThread]

@[simp] theorem State.syncCopy_memWf (s : State) (c : Nat) (x : Nat) (h : Memory.wf s.mem = true) : Memory.wf (State.syncCopy s c x).mem = true := by
  simp (maxDischargeDepth := 40) [State.syncCopy, h]

@[simp] theorem State.finish_memWf (s : State) (c : Nat) (x : Nat) (h : Memory.wf s.mem = true) : Memory.wf (State.finish s c x).mem = true := by
  simp (maxDischargeDepth := 40) [State.finish, h]

@[simp] theorem State.stopCtx_memWf (s : State) (c : Nat) (x : Nat) (switch : Bool) (h : Memory.wf s.mem = true) : Memory.wf (State.stopCtx s c x switch).mem = true := by
  simp (maxDischargeDepth := 40) [State.stopCtx, h]

@[simp] theorem State.endCtx_memWf (s : State) (c : Nat) (x : Nat) (path : Nat) (reason : Nat) (h : Memory.wf s.mem = true) : Memory.wf (State.endCtx s c x path reason).mem = true := by
  simp (maxDischargeDepth := 40) [State.endCtx, h]

@[simp] theorem State.endQueued_mem (s : State) (j : Job) (path : Nat) (reason : Nat) : (State.endQueued s j path reason).mem = s.mem := by
  simp [State.endQueued]

@[simp] theorem State.endJob_memWf (s : State) (j : Job × Option (Nat × Nat)) (path : Nat) (reason : Nat) (h : Memory.wf s.mem = true) : Memory.wf (State.endJob s j path reason).mem = true := by
  simp only [State.endJob]; (repeat' split) <;> (try simp (maxDischargeDepth := 40) [h])

@[simp] theorem State.forceDie_memWf (s : State) (e : Nat) (path : Nat) (h : Memory.wf s.mem = true) : Memory.wf (State.forceDie s e path).mem = true := by
  simp (maxDischargeDepth := 40) +contextual [State.forceDie, h]

@[simp] theorem State.dlmCount_mem (s : State) (off : Nat) (y2 : Row) : (State.dlmCount s off y2).mem = s.mem := by
  simp only [State.dlmCount]; (repeat' split) <;> (try simp)

@[simp] theorem State.applyRow_memWf (s : State) (c x : Nat) (row : Row) (p : Predict) (h : Memory.wf s.mem = true) :
    Memory.wf (s.applyRow c x row p).mem = true := by
  unfold State.applyRow
  dsimp only
  (repeat' split) <;> simp [h]

@[simp] theorem State.evalCtx_memWf (s : State) (c : Nat) (x : Nat) (h : Memory.wf s.mem = true) : Memory.wf (State.evalCtx s c x).mem = true := by
  simp only [State.evalCtx]; (repeat' split) <;> (try simp (maxDischargeDepth := 40) [h])

@[simp] theorem State.request_memWf (s : State) (c : Nat) (x : Nat) (row : Row) (h : Memory.wf s.mem = true) : Memory.wf (State.request s c x row).mem = true := by
  simp (maxDischargeDepth := 40) [State.request, h]

@[simp] theorem State.evalQueued_mem (s : State) (j : Job) : (State.evalQueued s j).mem = s.mem := by
  simp only [State.evalQueued]; (repeat' split) <;> (try simp)

@[simp] theorem State.watchNew_mem (s : State) (j : Job) : (State.watchNew s j).mem = s.mem := by
  simp only [State.watchNew]; (repeat' split) <;> (try simp)

@[simp] theorem State.evalAll_memWf (s : State) (h : Memory.wf s.mem = true) : Memory.wf (State.evalAll s).mem = true := by
  simp (maxDischargeDepth := 40) +contextual [State.evalAll, h]

@[simp] theorem State.checkPassed_memWf (s : State) (n : Nat) (h : Memory.wf s.mem = true) : Memory.wf (State.checkPassed s n).mem = true := by
  simp (maxDischargeDepth := 40) +contextual [State.checkPassed, h]

end Sys2Proof.Machine
end

