-- ==== Sys2Proof/Laws/MemHealth.lean ====
section
/-! SUPPORT. Laws of memory: what every operation of Machine/Health.lean leaves of it, and that its form is kept. -/

namespace Sys2Proof.Machine

open Sys2Proof

@[simp] theorem State.addDebt_mem (s : State) (c x t0 : Nat) : (State.addDebt s c x t0).mem = s.mem := by
  simp [State.addDebt]

@[simp] theorem State.boundary_mem (s : State) (c : Nat) : (State.boundary s c).mem = s.mem := by
  simp only [State.boundary]; (repeat' split) <;> (try simp)

@[simp] theorem State.npEnd_memWf (s : State) (t : Nat) (h : Memory.wf s.mem = true) : Memory.wf (State.npEnd s t).mem = true := by
  simp only [State.npEnd]; (repeat' split) <;> (try simp (maxDischargeDepth := 40) [h])

@[simp] theorem State.popPp_mem (s : State) (uid : Nat) : (State.popPp s uid).mem = s.mem := by
  unfold State.popPp; with_reducible rfl

@[simp] theorem State.endOp_memWf (s : State) (o : Op) (st : Nat) (flags : Nat) (h : Memory.wf s.mem = true) : Memory.wf (State.endOp s o st flags).mem = true := by
  simp (maxDischargeDepth := 40) [State.endOp, h]

@[simp] theorem State.failOp_memWf (s : State) (o : Op) (h : Memory.wf s.mem = true) : Memory.wf (State.failOp s o).mem = true := by
  simp (maxDischargeDepth := 40) [State.failOp, h]

@[simp] theorem State.lostOp_memWf (s : State) (o : Op) (k u sub : Nat) (h : Memory.wf s.mem = true) : Memory.wf (State.lostOp s o k u sub).mem = true := by
  simp (maxDischargeDepth := 40) [State.lostOp, h]

@[simp] theorem State.mapSync_mem (s : State) : (State.mapSync s).mem = s.mem := by
  simp [State.mapSync]

@[simp] theorem State.alertSync_mem (s : State) : (State.alertSync s).mem = s.mem := by
  simp [State.alertSync]

@[simp] theorem State.floorCheck_mem (s : State) (k u : Nat) : (State.floorCheck s k u).mem = s.mem := by
  simp only [State.floorCheck]; (repeat' split) <;> (try simp)

@[simp] theorem State.susSync_mem (s : State) (k : Nat) (u : Nat) : (State.susSync s k u).mem = s.mem := by
  simp only [State.susSync]; (repeat' split) <;> (try simp)

@[simp] theorem State.rollWindow_mem (s : State) (k : Nat) (u : Nat) : (State.rollWindow s k u).mem = s.mem := by
  simp only [State.rollWindow]; (repeat' split) <;> (try simp)

@[simp] theorem State.countOps_mem (s : State) (k : Nat) (u : Nat) (n : Nat) : (State.countOps s k u n).mem = s.mem := by
  simp only [State.countOps]; (repeat' split) <;> (try simp)

@[simp] theorem State.setRole_mem (s : State) (ch : Nat) (r : Nat) : (State.setRole s ch r).mem = s.mem := by
  simp [State.setRole]

@[simp] theorem State.rotSync_mem (s : State) : (State.rotSync s).mem = s.mem := by
  simp only [State.rotSync]; (repeat' split) <;> (try simp)

@[simp] theorem State.startMig_mem (s : State) (slot : Nat) (src : Nat) (dst : Nat) (upper : Bool) (retire : Bool) : (State.startMig s slot src dst upper retire).mem = s.mem := by
  simp only [State.startMig]; (repeat' split) <;> (try simp)

@[simp] theorem State.dropMig_mem (s : State) : (State.dropMig s).mem = s.mem := by
  simp only [State.dropMig]; (repeat' split) <;> (try simp)

@[simp] theorem State.noTarget_mem (s : State) (f : Nat) : (State.noTarget s f).mem = s.mem := by
  simp only [State.noTarget]; (repeat' split) <;> (try simp)

@[simp] theorem State.evacuate_mem (s : State) (f : Nat) : (State.evacuate s f).mem = s.mem := by
  simp only [State.evacuate]; (repeat' split) <;> (try simp)

@[simp] theorem State.retireChan_mem (s : State) (f : Nat) : (State.retireChan s f).mem = s.mem := by
  simp only [State.retireChan]; (repeat' split) <;> (try simp)

@[simp] theorem State.leaveService_memWf (s : State) (c : Nat) (h : Memory.wf s.mem = true) : Memory.wf (State.leaveService s c).mem = true := by
  simp (maxDischargeDepth := 40) +contextual [State.leaveService, h]

@[simp] theorem State.portOut_mem (s : State) (q : Nat) : (State.portOut s q).mem = s.mem := by
  simp [State.portOut]

@[simp] theorem State.laneOut_mem (s : State) (u : Nat) : (State.laneOut s u).mem = s.mem := by
  simp only [State.laneOut]; (repeat' split) <;> (try simp)

@[simp] theorem State.retireEffect_memWf (s : State) (k : Nat) (u : Nat) (h : Memory.wf s.mem = true) : Memory.wf (State.retireEffect s k u).mem = true := by
  simp only [State.retireEffect]; (repeat' split) <;> (try simp_all (maxDischargeDepth := 40))

@[simp] theorem State.retire_memWf (s : State) (k : Nat) (u : Nat) (h : Memory.wf s.mem = true) : Memory.wf (State.retire s k u).mem = true := by
  simp only [State.retire]; (repeat' split) <;> (try simp (maxDischargeDepth := 40) [h])

@[simp] theorem State.spareGroup_memWf (s : State) (g : Nat) (h : Memory.wf s.mem = true) : Memory.wf (State.spareGroup s g).mem = true := by
  simp (maxDischargeDepth := 40) +contextual [State.spareGroup, h]

@[simp] theorem State.declare_memWf (s : State) (k : Nat) (u : Nat) (h : Memory.wf s.mem = true) : Memory.wf (State.declare s k u).mem = true := by
  simp only [State.declare]; (repeat' split) <;> (try simp (maxDischargeDepth := 40) [h])

@[simp] theorem State.detect_memWf (s : State) (k : Nat) (u : Nat) (h : Memory.wf s.mem = true) : Memory.wf (State.detect s k u).mem = true := by
  simp (maxDischargeDepth := 40) [State.detect, h]

@[simp] theorem State.exhaustWith_memWf (s : State) (k : Nat) (u : Nat) (r : Report) (h : Memory.wf s.mem = true) : Memory.wf (State.exhaustWith s k u r).mem = true := by
  simp (maxDischargeDepth := 40) [State.exhaustWith, h]

@[simp] theorem State.exhaust_memWf (s : State) (k : Nat) (u : Nat) (h : Memory.wf s.mem = true) : Memory.wf (State.exhaust s k u).mem = true := by
  simp (maxDischargeDepth := 40) [State.exhaust, h]

end Sys2Proof.Machine
end

