-- ==== Sys2Proof/Laws/MemMem.lean ====
section
/-! SUPPORT. Laws of memory: what every operation of Machine/Mem.lean leaves of it, and that its form is kept. -/

namespace Sys2Proof.Machine

open Sys2Proof

@[simp] theorem State.tagErr_mem (s : State) (p : Nat) (a : Nat) : (State.tagErr s p a).mem = s.mem := by
  simp [State.tagErr]

@[simp] theorem State.lineFail_memWf (s : State) (a : Nat) (h : Memory.wf s.mem = true) : Memory.wf (State.lineFail s a).mem = true := by
  simp (maxDischargeDepth := 40) [State.lineFail, h]

@[simp] theorem State.burstFail_memWf (s : State) (a : Nat) (count : Bool) (h : Memory.wf s.mem = true) : Memory.wf (State.burstFail s a count).mem = true := by
  simp (maxDischargeDepth := 40) [State.burstFail, h]

@[simp] theorem State.burstRetry_memWf (s : State) (ch : Nat) (y2 : Nat) (h : Memory.wf s.mem = true) : Memory.wf (State.burstRetry s ch y2).mem = true := by
  fun_induction State.burstRetry s ch y2 <;> (repeat' (first | (extract_lets +onlyGivenNames y; (first | (have hy : Memory.wf y.mem = true := by simp (maxDischargeDepth := 40) [y, *]) | (have hy : Memory.wf y.2.mem = true := by simp (maxDischargeDepth := 40) [y, *]) | (have hy : Memory.wf y.1.mem = true := by simp (maxDischargeDepth := 40) [y, *]) | (have hy : Memory.wf y.mem = true := by simp only [y]; (repeat' (split <;> (try (rename_i heq; have e1 := congrArg (fun p => Memory.wf p.1.mem) heq; clear heq; dsimp only at e1; have hq := e1.symm.trans (show _ = true by clear e1; simp (maxDischargeDepth := 40) [*]); clear e1)) <;> (try (rename_i heq; have e1 := congrArg (fun p => Memory.wf p.2.mem) heq; clear heq; dsimp only at e1; have hq := e1.symm.trans (show _ = true by clear e1; simp (maxDischargeDepth := 40) [*]); clear e1)) <;> (try (rename_i heq; have e1 := congrArg (fun p => Memory.wf p.2.1.mem) heq; clear heq; dsimp only at e1; have hq := e1.symm.trans (show _ = true by clear e1; simp (maxDischargeDepth := 40) [*]); clear e1)))) <;> simp (maxDischargeDepth := 40) [*]) | skip); clear_value y) | (split <;> (try (rename_i heq; have e1 := congrArg (fun p => Memory.wf p.1.mem) heq; clear heq; dsimp only at e1; have hq := e1.symm.trans (show _ = true by clear e1; simp (maxDischargeDepth := 40) [*]); clear e1)) <;> (try (rename_i heq; have e1 := congrArg (fun p => Memory.wf p.2.mem) heq; clear heq; dsimp only at e1; have hq := e1.symm.trans (show _ = true by clear e1; simp (maxDischargeDepth := 40) [*]); clear e1)) <;> (try (rename_i heq; have e1 := congrArg (fun p => Memory.wf p.2.1.mem) heq; clear heq; dsimp only at e1; have hq := e1.symm.trans (show _ = true by clear e1; simp (maxDischargeDepth := 40) [*]); clear e1))))) <;> (try simp (maxDischargeDepth := 40) [*])

@[simp] theorem State.readLine_memWf (s : State) (p : Nat) (la : Nat) (o : Nat) (n : Nat) (flt : Nat) (h : Memory.wf s.mem = true) : Memory.wf (State.readLine s p la o n flt).s.mem = true := by
  simp only [State.readLine]; (repeat' split) <;> (try simp (maxDischargeDepth := 40) [h])

@[simp] theorem State.readMem_memWf (s : State) (p a n flt : Nat) (h : Memory.wf s.mem = true) :
    Memory.wf (s.readMem p a n flt).s.mem = true := by
  have key : ∀ (l : List (Nat × Nat × Nat × Nat)) (r : ReadRes), Memory.wf r.s.mem = true →
      Memory.wf (l.foldl (fun (r : ReadRes) (x : Nat × Nat × Nat × Nat) =>
        (⟨(r.s.readLine p x.1 x.2.1 x.2.2.2 (if x.1 = a / 64 * 64 then flt else 0)).s,
          r.data ++ (r.s.readLine p x.1 x.2.1 x.2.2.2 (if x.1 = a / 64 * 64 then flt else 0)).data,
          r.ok && (r.s.readLine p x.1 x.2.1 x.2.2.2 (if x.1 = a / 64 * 64 then flt else 0)).ok⟩ : ReadRes)) r).s.mem = true := by
    intro l
    induction l with
    | nil => intro r hr; exact hr
    | cons x t ih => intro r hr; exact ih _ (State.readLine_memWf _ _ _ _ _ _ hr)
  exact key _ _ h

@[simp] theorem State.writeLine_memWf (s : State) (tag : Nat) (la : Nat) (o : Nat) (bs : List Byte) (h : Memory.wf s.mem = true) : Memory.wf (State.writeLine s tag la o bs).mem = true := by
  simp (maxDischargeDepth := 40) +contextual [State.writeLine, h]

@[simp] theorem State.writeMem_memWf (s : State) (tag : Nat) (a : Nat) (bs : List Byte) (h : Memory.wf s.mem = true) : Memory.wf (State.writeMem s tag a bs).mem = true := by
  simp (maxDischargeDepth := 40) +contextual [State.writeMem, h]

@[simp] theorem State.writeRetry_memWf (s : State) (ch n : Nat) (h : Memory.wf s.mem = true) : Memory.wf (State.writeRetry s ch n).mem = true := by
  induction n generalizing s with
  | zero => exact h
  | succ n ih => exact ih _ (by simp [h])

@[simp] theorem State.writeMemF_memWf (s : State) (tag a : Nat) (bs : List Byte) (n : Nat) (h : Memory.wf s.mem = true) :
    Memory.wf (State.writeMemF s tag a bs n).mem = true := by
  simp only [State.writeMemF]; (repeat' split) <;> simp (maxDischargeDepth := 40) +contextual [h]

@[simp] theorem State.hostWrite_mem (s : State) (a : Nat) (y2 : List Byte) : (State.hostWrite s a y2).mem = s.mem := by
  fun_induction State.hostWrite s a y2 <;> simp_all (maxDischargeDepth := 40) [ite_mem]

end Sys2Proof.Machine
end

