-- ==== Sys2Proof/WellFormed.lean ====
section
/-! DEFINITION. Well-formed commands: every operand names something the device has. -/

namespace Sys2Proof

/-- A source that exists: the supervisor, partitions 1 to 4, functions 0 to 4. -/
def Src.ok : Src → Bool
  | .sup => true
  | .part p => decide (1 ≤ p) && decide (p ≤ 4)
  | .pf f => decide (f ≤ 4)

/-- A partition that exists. -/
def okPart (p : Nat) : Bool := decide (1 ≤ p) && decide (p ≤ 4)

/-- A thread number that exists: contexts 0 to 63 and the base thread (64) of clusters 0 to 5, the supervisor thread (R315). -/
def okThread (t : Nat) : Bool := (decide (t / 128 < 6) && decide (t % 128 ≤ 64)) || t == 961

/-- A host reader that exists. -/
def HostReader.ok : HostReader → Bool
  | .mover _ => true
  | .scalar th _ => okThread th

/-- The command's operands name units, threads, registers and partitions that exist. -/
def Instr.wf : Instr → Bool
  | .registerWrite src off _ _ => src.ok && decide (off < 0x4000000) && decide (off % 8 = 0)
  | .encoderTransition n _ _ => decide (n < 4)
  | .zEdge n => decide (n < 4)
  | .axisCounterWrite src n _ => src.ok && decide (n < 4)
  | .axisStopped n => decide (n < 4)
  | .velocityUpdate => true
  | .slotArm src k _ => src.ok && decide (k < 64)
  | .slotDisarm src k _ => src.ok && decide (k < 64)
  | .trigPulseStart o => decide (o < 8)
  | .trigPulseEnd o => decide (o < 8)
  | .markPulseStart o => decide (o < 4)
  | .markPulseEnd o => decide (o < 4)
  | .bcastInterval => true
  | .posPacketReceive q _ _ => decide (q < 4)
  | .followerStep n => decide (n < 4)
  | .followerLost n => decide (n < 4)
  | .linkLatencyMeasure q _ _ => decide (q < 4)
  | .cameraConfigWrite src k _ => src.ok && decide (k < 4)
  | .ingCameraEnable src k _ => src.ok && decide (k < 4)
  | .cxpStreamPacket p => decide (p.cam < 4) && decide (p.con < 8) && decide (p.tag < 256)
  | .cxpLockLoss n => decide (n < 8)
  | .cxpLockAcquire n => decide (n < 8)
  | .uplinkTriggerRising k _ _ => decide (k < 4)
  | .uplinkTriggerFalling k _ _ => decide (k < 4)
  | .controlSend src k _ => src.ok && decide (k < 4)
  | .controlReceive k _ => decide (k < 4)
  | .eventPacketReceive k _ => decide (k < 4)
  | .heartbeat k => decide (k < 4)
  | .fireRecordExpire k => decide (k < 4)
  | .calLoad src t _ => src.ok && decide (t < 8)
  | .calStore src t _ => src.ok && decide (t < 8)
  | .jesdConfigWrite src _ => src.ok
  | .sysrefEdge _ => true
  | .jesdBlockComplete _ _ _ => true
  | .jesdLockLoss l => decide (l < 4)
  | .pass th _ _ _ _ _ => okThread th
  | .verdOpen th _ _ _ _ => okThread th
  | .verdPost th _ _ _ _ => okThread th
  | .verdSeal th _ _ _ _ => okThread th
  | .verdClose th _ _ _ _ => okThread th
  | .dieAcquired e => decide (e < 4096)
  | .dieForce e => decide (e < 4096)
  | .verdictRecordWrite r => decide (r < 8)
  | .consumerIndexRead r => decide (r < 13)
  | .interruptModerationExpiry r => decide (r < 13)
  | .mtabWrite src p _ => src.ok && okPart p
  | .jobTake c x _ => decide (c < 6) && decide (x < 64)
  | .inningsBoundary c => decide (c < 6)
  | .preemptTileBoundary c => decide (c < 6)
  | .overrunFault _ => true
  | .holdFault c k => decide (c < 7) && decide (k < if c = 6 then 64 else 256)
  | .semConfigWrite src c k _ => src.ok && decide (c < 7) && decide (k < if c = 6 then 64 else 256)
  | .ageLimitExpiry p _ => okPart p
  | .dlmReseed src p _ => src.ok && okPart p
  | .add th _ _ _ => okThread th
  | .sub th _ _ _ => okThread th
  | .and_ th _ _ _ => okThread th
  | .or_ th _ _ _ => okThread th
  | .xor th _ _ _ => okThread th
  | .andn th _ _ _ => okThread th
  | .sll th _ _ _ => okThread th
  | .srl th _ _ _ => okThread th
  | .sra th _ _ _ => okThread th
  | .ror th _ _ _ => okThread th
  | .min th _ _ _ => okThread th
  | .max th _ _ _ => okThread th
  | .minu th _ _ _ => okThread th
  | .maxu th _ _ _ => okThread th
  | .clz th _ _ _ => okThread th
  | .popc th _ _ _ => okThread th
  | .sx48 th _ _ _ => okThread th
  | .zx48 th _ _ _ => okThread th
  | .mul th _ _ _ => okThread th
  | .mulh th _ _ _ => okThread th
  | .mulhu th _ _ _ => okThread th
  | .div th _ _ _ => okThread th
  | .divu th _ _ _ => okThread th
  | .rem th _ _ _ => okThread th
  | .remu th _ _ _ => okThread th
  | .cmpeq th _ _ _ => okThread th
  | .cmpne th _ _ _ => okThread th
  | .cmplt th _ _ _ => okThread th
  | .cmpge th _ _ _ => okThread th
  | .cmpltu th _ _ _ => okThread th
  | .cmpgeu th _ _ _ => okThread th
  | .pand th _ _ _ => okThread th
  | .por th _ _ _ => okThread th
  | .pxor th _ _ _ => okThread th
  | .pandn th _ _ _ => okThread th
  | .sel th _ _ _ _ => okThread th
  | .addi th _ _ _ => okThread th
  | .andi th _ _ _ => okThread th
  | .ori th _ _ _ => okThread th
  | .xori th _ _ _ => okThread th
  | .seth th _ _ _ => okThread th
  | .insh th _ _ _ => okThread th
  | .cmpi th _ _ _ => okThread th
  | .shi th _ _ _ => okThread th
  | .ldbu th _ _ _ _ => okThread th
  | .ldhu th _ _ _ _ => okThread th
  | .ldwu th _ _ _ _ => okThread th
  | .ldw th _ _ _ _ => okThread th
  | .ldd th _ _ _ _ => okThread th
  | .stb th _ _ _ _ => okThread th
  | .sth th _ _ _ _ => okThread th
  | .stw th _ _ _ _ => okThread th
  | .std th _ _ _ _ => okThread th
  | .dld th _ _ _ _ => okThread th
  | .dst th _ _ _ _ => okThread th
  | .amoswp th _ _ _ _ => okThread th
  | .amoadd th _ _ _ _ => okThread th
  | .amoand th _ _ _ _ => okThread th
  | .amoor th _ _ _ _ => okThread th
  | .amocas th _ _ _ _ => okThread th
  | .b th _ _ _ _ => okThread th
  | .bl th _ _ _ _ => okThread th
  | .jr th _ _ _ _ => okThread th
  | .mfs th _ _ _ => okThread th
  | .mts th _ _ _ => okThread th
  | .fence th _ _ _ => okThread th
  | .eret th _ _ _ => okThread th
  | .brk th _ _ _ => okThread th
  | .yieldInnings th _ _ _ => okThread th
  | .yieldEnd th _ _ _ => okThread th
  | .caprd th _ _ _ => okThread th
  | .twait th _ _ _ _ => okThread th
  | .twaitTry th _ _ _ => okThread th
  | .semacq th _ _ _ _ _ => okThread th
  | .semacqTry th _ _ _ _ _ => okThread th
  | .semrel th _ _ _ _ _ _ => okThread th
  | .pwaitPosition th _ _ _ _ _ _ _ => okThread th
  | .pwaitSlot th _ _ _ _ _ _ => okThread th
  | .pwaitTimeout th => okThread th
  | .parm th _ _ _ _ => okThread th
  | .dlsetExplicit th _ _ _ _ => okThread th
  | .dlsetDefault th _ _ _ _ => okThread th
  | .dlsetNone th _ _ _ _ => okThread th
  | .ckpt th _ _ _ _ => okThread th
  | .ckptCommit _ _ => true
  | .lockstepMismatch => true
  | .supervisorRestart => true
  | .mxMul th _ => okThread th
  | .cvConv th _ => okThread th
  | .vxEw1 th _ => okThread th
  | .vxEw2 th _ => okThread th
  | .vxFma th _ => okThread th
  | .vxRed th _ => okThread th
  | .vxSoftmax th _ => okThread th
  | .vxNorm th _ => okThread th
  | .vxQuant th _ => okThread th
  | .vxDequant th _ => okThread th
  | .vxAmax th _ => okThread th
  | .vxPool th _ => okThread th
  | .vxDwconv th _ => okThread th
  | .vxHad th _ => okThread th
  | .vxOpt th _ => okThread th
  | .vxTrans th _ => okThread th
  | .vxGather th _ => okThread th
  | .vxSelect th _ => okThread th
  | .vxFill th _ => okThread th
  | .atAttn th _ => okThread th
  | .atAppend th _ => okThread th
  | .atPrefix th _ => okThread th
  | .atFork th _ => okThread th
  | .atFree th _ => okThread th
  | .sqChunk th _ => okThread th
  | .sqStep th _ => okThread th
  | .sqEvict th _ => okThread th
  | .sqClear th _ => okThread th
  | .ppConv th _ => okThread th
  | .ppStream th _ => okThread th
  | .cxExpand th _ => okThread th
  | .cxCompress th _ => okThread th
  | .dmCopy th _ => okThread th
  | .dmFill th _ => okThread th
  | .dmPromote th _ => okThread th
  | .dmEvict th _ => okThread th
  | .pieceComplete _ _ _ _ _ _ => true
  | .tileOpComplete _ _ => true
  | .weightBlockLoaded _ tile => decide (tile < 8)
  | .ppStreamEntry n _ => decide (n < 2)
  | .poolAlloc src p c => src.ok && okPart p && decide (c < 9)
  | .poolFree src p c _ => src.ok && okPart p && decide (c < 9)
  | .tableAlloc src p => src.ok && okPart p
  | .tableFree src p _ => src.ok && okPart p
  | .poolConfigWrite src p c _ => src.ok && okPart p && decide (c < 9)
  | .sqStreamConfigWrite src c k _ => src.ok && decide (c < 6) && decide (k < 256)
  | .sqLiveWrite src c k _ => src.ok && decide (c < 6) && decide (k < 256)
  | .swapInComplete c k _ => decide (c < 6) && decide (k < 256)
  | .swapOutComplete c k => decide (c < 6) && decide (k < 256)
  | .blockRefetch _ _ => true
  | .sramClear src _ => src.ok
  | .sramClearDone => true
  | .scrubAdvance src _ => src.ok
  | .eraseScrubComplete r => decide (r < 384)
  | .patrolScrub _ _ => true
  | .channelInitComplete ch => decide (ch < 26)
  | .rotationStart => true
  | .migrationUnitCopy _ => true
  | .migrationComplete => true
  | .retrainComplete ch => decide (ch < 26)
  | .movementBlock _ _ _ => true
  | .fillComplete _ _ => true
  | .drainComplete _ _ => true
  | .tdunpin src _ => src.ok
  | .fabricBlockReceive q _ _ => decide (q < 4)
  | .ackReceive q _ => decide (q < 4)
  | .nakReceive q _ => decide (q < 4)
  | .replayTimeout q => decide (q < 4)
  | .ackDelayExpiry q => decide (q < 4)
  | .fastRetrainComplete q _ _ _ _ => decide (q < 4)
  | .portTrainingStart q => decide (q < 4)
  | .trainingComplete q _ _ _ _ _ _ _ => decide (q < 4)
  | .trainingTimeout q => decide (q < 4)
  | .eqRequest q lane _ => decide (q < 4) && decide (lane < 2)
  | .creditReturn q _ _ => decide (q < 4)
  | .blockSend q _ => decide (q < 4)
  | .wrReceive q => decide (q < 4)
  | .wrackReceive q => decide (q < 4)
  | .wrnakReceive q => decide (q < 4)
  | .rdreqReceive q _ => decide (q < 4)
  | .rdrspReceive q => decide (q < 4)
  | .rdnakReceive q => decide (q < 4)
  | .flagReceive q => decide (q < 4)
  | .e2eTimeout _ => true
  | .fabricEpochAdvance src p _ => src.ok && okPart p
  | .fabricEpochRetire src p _ => src.ok && okPart p
  | .pcieLinkUp _ _ => true
  | .pcieLinkDown => true
  | .configRequest f _ _ _ => decide (f < 5)
  | .bar2Read f _ _ _ => decide (f < 5)
  | .bar2Write f _ _ => decide (f < 5)
  | .hostReadFail who => who.ok
  | .functionLevelReset f => decide (f < 5)
  | .endpointReset => true
  | .requestScan src _ => src.ok
  | .requestScanComplete _ => true
  | .evpost src _ => src.ok
  | .eventRecordWrite f => decide (f < 5)
  | .errorWindowEnd k u => decide (1 ≤ k) && decide (k ≤ 13) && decide (u < 2560)
  | .suspectExpiry k u => decide (1 ≤ k) && decide (k ≤ 13) && decide (u < 2560)
  | .thresholdWrite src k _ => src.ok && decide (1 ≤ k) && decide (k ≤ 13)
  | .retireWrite src k _ => src.ok && decide (1 ≤ k) && decide (k ≤ 13)
  | .checkpointDue => true
  | .watchdogKick src _ => src.ok
  | .watchdogExpiry => true
  | .requestedRestart src _ => src.ok
  | .partitionCreate src p _ => src.ok && okPart p
  | .partitionResize src p _ => src.ok && okPart p
  | .clusterClearComplete c => decide (c < 6)
  | .cfgwrite src _ _ => src.ok
  | .stage src _ => src.ok
  | .unstage src _ => src.ok
  | .extend src _ => src.ok
  | .loadseed src _ _ => src.ok
  | .truCommandComplete => true
  | .keyDeriveComplete p => okPart p
  | .keyZeroise p _ => okPart p
  | .rngReseed => true
  | .hostEpochAdvance src p _ => src.ok && okPart p
  | .teardown src p _ => src.ok && okPart p
  | .teardownScrub p => okPart p
  | .teardownComplete p => okPart p
  | .attestGo src _ => src.ok
  | .attestComplete => true
  | .claimPackage src _ => src.ok
  | .debugChallenge src => src.ok
  | .debugToken src _ => src.ok
  | .debugUnlock => true
  | .debugRelock src _ => src.ok
  | .debugLifeExpiry => true
  | .sleepRequest src _ => src.ok
  | .sleepPhaseEnd => true
  | .wakeEvent n sb => decide (1 ≤ n) && decide (n ≤ 7) && decide (sb < 4)
  | .aonTimerMatch => true
  | .sleepExit => true
  | .pllLock d => decide (d < 41)
  | .clockSelect src _ => src.ok
  | .selfRefreshExit src _ => src.ok
  | .levelRequest src c _ => src.ok && decide (c < 6)
  | .levelSwitchComplete c => decide (c < 6)
  | .thermalSample _ => true
  | .throttleStep c => decide (c < 6)
  | .powerUp => true
  | .powerDown => true
  | .channelTrainingComplete => true
  | .bootImageVerify => true
  | .warmReset _ src _ => src.ok
  | .clusterReset src c _ => src.ok && decide (c < 6)
  | .clusterPower src c _ => src.ok && decide (c < 6)
  | .segmentEnable src p i _ => src.ok && okPart p && decide (i < 32)
  | .segmentDisable src p i _ => src.ok && okPart p && decide (i < 32)
  | .baseStart src c _ => src.ok && decide (c < 6)
  | .baseHalt src c _ => src.ok && decide (c < 6)
  | .testMode _ => true
  | .jtagExtest _ => true
  | .jtagIdcode => true
  | .jtagSamplePreload _ => true
  | .jtagExtestPulse _ => true
  | .jtagExtestTrain _ => true
  | .jtagHighz => true
  | .jtagClamp => true
  | .jtagTuchal => true
  | .jtagDbgacc _ _ _ => true
  | .jtagBypass => true
  | .smbTemp => true
  | .smbPower => true
  | .smbHealth => true
  | .smbState => true
  | .smbIdent => true
  | .smbAlertResponse => true
  | .jesdLaneLock => true
  | .clusterResetComplete c => decide (c < 6)
  | .reservedOpcode th _ => okThread th
  | .counterSnapshot => true
  | .powerAverageUpdate _ _ _ => true
  | .eraseScrubBurst _ _ => true

end Sys2Proof
end

