-- ==== Sys2Proof/Laws/State.lean ====
section
/-! SUPPORT. The fields of State after each named update: all but one are as before. -/

namespace Sys2Proof.Machine

open Sys2Proof

/-! ## State.wr changes regs alone -/

section

variable (s : State) (off : Nat) (v : W64)

@[simp] theorem State.wr_pending : (s.wr off v).pending = s.pending := rfl
@[simp] theorem State.wr_freeCtr : (s.wr off v).freeCtr = s.freeCtr := rfl
@[simp] theorem State.wr_time : (s.wr off v).time = s.time := rfl
@[simp] theorem State.wr_latch : (s.wr off v).latch = s.latch := rfl
@[simp] theorem State.wr_lastRd : (s.wr off v).lastRd = s.lastRd := rfl
@[simp] theorem State.wr_snap : (s.wr off v).snap = s.snap := rfl
@[simp] theorem State.wr_held : (s.wr off v).held = s.held := rfl
@[simp] theorem State.wr_mem : (s.wr off v).mem = s.mem := rfl
@[simp] theorem State.wr_lines : (s.wr off v).lines = s.lines := rfl
@[simp] theorem State.wr_host : (s.wr off v).host = s.host := rfl
@[simp] theorem State.wr_flash : (s.wr off v).flash = s.flash := rfl
@[simp] theorem State.wr_axes : (s.wr off v).axes = s.axes := rfl
@[simp] theorem State.wr_outs : (s.wr off v).outs = s.outs := rfl
@[simp] theorem State.wr_noLimit : (s.wr off v).noLimit = s.noLimit := rfl
@[simp] theorem State.wr_bcastSeq : (s.wr off v).bcastSeq = s.bcastSeq := rfl
@[simp] theorem State.wr_bcastAt : (s.wr off v).bcastAt = s.bcastAt := rfl
@[simp] theorem State.wr_posSeqs : (s.wr off v).posSeqs = s.posSeqs := rfl
@[simp] theorem State.wr_velN : (s.wr off v).velN = s.velN := rfl
@[simp] theorem State.wr_cams : (s.wr off v).cams = s.cams := rfl
@[simp] theorem State.wr_rings : (s.wr off v).rings = s.rings := rfl
@[simp] theorem State.wr_cals : (s.wr off v).cals = s.cals := rfl
@[simp] theorem State.wr_jes : (s.wr off v).jes = s.jes := rfl
@[simp] theorem State.wr_conLim : (s.wr off v).conLim = s.conLim := rfl
@[simp] theorem State.wr_hist : (s.wr off v).hist = s.hist := rfl
@[simp] theorem State.wr_queued : (s.wr off v).queued = s.queued := rfl
@[simp] theorem State.wr_jseqs : (s.wr off v).jseqs = s.jseqs := rfl
@[simp] theorem State.wr_born : (s.wr off v).born = s.born := rfl
@[simp] theorem State.wr_dies : (s.wr off v).dies = s.dies := rfl
@[simp] theorem State.wr_vrings : (s.wr off v).vrings = s.vrings := rfl
@[simp] theorem State.wr_ctxs : (s.wr off v).ctxs = s.ctxs := rfl
@[simp] theorem State.wr_clus : (s.wr off v).clus = s.clus := rfl
@[simp] theorem State.wr_sems : (s.wr off v).sems = s.sems := rfl
@[simp] theorem State.wr_threads : (s.wr off v).threads = s.threads := rfl
@[simp] theorem State.wr_retired : (s.wr off v).retired = s.retired := rfl
@[simp] theorem State.wr_pevt : (s.wr off v).pevt = s.pevt := rfl
@[simp] theorem State.wr_sup : (s.wr off v).sup = s.sup := rfl
@[simp] theorem State.wr_ops : (s.wr off v).ops = s.ops := rfl
@[simp] theorem State.wr_opCount : (s.wr off v).opCount = s.opCount := rfl
@[simp] theorem State.wr_lfsr : (s.wr off v).lfsr = s.lfsr := rfl
@[simp] theorem State.wr_tiles : (s.wr off v).tiles = s.tiles := rfl
@[simp] theorem State.wr_pps : (s.wr off v).pps = s.pps := rfl
@[simp] theorem State.wr_expTurn : (s.wr off v).expTurn = s.expTurn := rfl
@[simp] theorem State.wr_pools : (s.wr off v).pools = s.pools := rfl
@[simp] theorem State.wr_mig : (s.wr off v).mig = s.mig := rfl
@[simp] theorem State.wr_trained : (s.wr off v).trained = s.trained := rfl
@[simp] theorem State.wr_rotAt : (s.wr off v).rotAt = s.rotAt := rfl
@[simp] theorem State.wr_scrubQ : (s.wr off v).scrubQ = s.scrubQ := rfl
@[simp] theorem State.wr_pendAdv : (s.wr off v).pendAdv = s.pendAdv := rfl
@[simp] theorem State.wr_resid : (s.wr off v).resid = s.resid := rfl
@[simp] theorem State.wr_ports : (s.wr off v).ports = s.ports := rfl
@[simp] theorem State.wr_wrFail : (s.wr off v).wrFail = s.wrFail := rfl
@[simp] theorem State.wr_keys : (s.wr off v).keys = s.keys := rfl
@[simp] theorem State.wr_pcie : (s.wr off v).pcie = s.pcie := rfl
@[simp] theorem State.wr_evrings : (s.wr off v).evrings = s.evrings := rfl
@[simp] theorem State.wr_recs : (s.wr off v).recs = s.recs := rfl
@[simp] theorem State.wr_health : (s.wr off v).health = s.health := rfl
@[simp] theorem State.wr_badLines : (s.wr off v).badLines = s.badLines := rfl
@[simp] theorem State.wr_spares : (s.wr off v).spares = s.spares := rfl
@[simp] theorem State.wr_groupsOut : (s.wr off v).groupsOut = s.groupsOut := rfl
@[simp] theorem State.wr_trust : (s.wr off v).trust = s.trust := rfl
@[simp] theorem State.wr_tear : (s.wr off v).tear = s.tear := rfl
@[simp] theorem State.wr_pmu : (s.wr off v).pmu = s.pmu := rfl
@[simp] theorem State.wr_pins : (s.wr off v).pins = s.pins := rfl

end

/-! ## State.wf changes regs alone -/

section

variable (s : State) (off hi lo x : Nat)

@[simp] theorem State.wf_pending : (s.wf off hi lo x).pending = s.pending := rfl
@[simp] theorem State.wf_freeCtr : (s.wf off hi lo x).freeCtr = s.freeCtr := rfl
@[simp] theorem State.wf_time : (s.wf off hi lo x).time = s.time := rfl
@[simp] theorem State.wf_latch : (s.wf off hi lo x).latch = s.latch := rfl
@[simp] theorem State.wf_lastRd : (s.wf off hi lo x).lastRd = s.lastRd := rfl
@[simp] theorem State.wf_snap : (s.wf off hi lo x).snap = s.snap := rfl
@[simp] theorem State.wf_held : (s.wf off hi lo x).held = s.held := rfl
@[simp] theorem State.wf_mem : (s.wf off hi lo x).mem = s.mem := rfl
@[simp] theorem State.wf_lines : (s.wf off hi lo x).lines = s.lines := rfl
@[simp] theorem State.wf_host : (s.wf off hi lo x).host = s.host := rfl
@[simp] theorem State.wf_flash : (s.wf off hi lo x).flash = s.flash := rfl
@[simp] theorem State.wf_axes : (s.wf off hi lo x).axes = s.axes := rfl
@[simp] theorem State.wf_outs : (s.wf off hi lo x).outs = s.outs := rfl
@[simp] theorem State.wf_noLimit : (s.wf off hi lo x).noLimit = s.noLimit := rfl
@[simp] theorem State.wf_bcastSeq : (s.wf off hi lo x).bcastSeq = s.bcastSeq := rfl
@[simp] theorem State.wf_bcastAt : (s.wf off hi lo x).bcastAt = s.bcastAt := rfl
@[simp] theorem State.wf_posSeqs : (s.wf off hi lo x).posSeqs = s.posSeqs := rfl
@[simp] theorem State.wf_velN : (s.wf off hi lo x).velN = s.velN := rfl
@[simp] theorem State.wf_cams : (s.wf off hi lo x).cams = s.cams := rfl
@[simp] theorem State.wf_rings : (s.wf off hi lo x).rings = s.rings := rfl
@[simp] theorem State.wf_cals : (s.wf off hi lo x).cals = s.cals := rfl
@[simp] theorem State.wf_jes : (s.wf off hi lo x).jes = s.jes := rfl
@[simp] theorem State.wf_conLim : (s.wf off hi lo x).conLim = s.conLim := rfl
@[simp] theorem State.wf_hist : (s.wf off hi lo x).hist = s.hist := rfl
@[simp] theorem State.wf_queued : (s.wf off hi lo x).queued = s.queued := rfl
@[simp] theorem State.wf_jseqs : (s.wf off hi lo x).jseqs = s.jseqs := rfl
@[simp] theorem State.wf_born : (s.wf off hi lo x).born = s.born := rfl
@[simp] theorem State.wf_dies : (s.wf off hi lo x).dies = s.dies := rfl
@[simp] theorem State.wf_vrings : (s.wf off hi lo x).vrings = s.vrings := rfl
@[simp] theorem State.wf_ctxs : (s.wf off hi lo x).ctxs = s.ctxs := rfl
@[simp] theorem State.wf_clus : (s.wf off hi lo x).clus = s.clus := rfl
@[simp] theorem State.wf_sems : (s.wf off hi lo x).sems = s.sems := rfl
@[simp] theorem State.wf_threads : (s.wf off hi lo x).threads = s.threads := rfl
@[simp] theorem State.wf_retired : (s.wf off hi lo x).retired = s.retired := rfl
@[simp] theorem State.wf_pevt : (s.wf off hi lo x).pevt = s.pevt := rfl
@[simp] theorem State.wf_sup : (s.wf off hi lo x).sup = s.sup := rfl
@[simp] theorem State.wf_ops : (s.wf off hi lo x).ops = s.ops := rfl
@[simp] theorem State.wf_opCount : (s.wf off hi lo x).opCount = s.opCount := rfl
@[simp] theorem State.wf_lfsr : (s.wf off hi lo x).lfsr = s.lfsr := rfl
@[simp] theorem State.wf_tiles : (s.wf off hi lo x).tiles = s.tiles := rfl
@[simp] theorem State.wf_pps : (s.wf off hi lo x).pps = s.pps := rfl
@[simp] theorem State.wf_expTurn : (s.wf off hi lo x).expTurn = s.expTurn := rfl
@[simp] theorem State.wf_pools : (s.wf off hi lo x).pools = s.pools := rfl
@[simp] theorem State.wf_mig : (s.wf off hi lo x).mig = s.mig := rfl
@[simp] theorem State.wf_trained : (s.wf off hi lo x).trained = s.trained := rfl
@[simp] theorem State.wf_rotAt : (s.wf off hi lo x).rotAt = s.rotAt := rfl
@[simp] theorem State.wf_scrubQ : (s.wf off hi lo x).scrubQ = s.scrubQ := rfl
@[simp] theorem State.wf_pendAdv : (s.wf off hi lo x).pendAdv = s.pendAdv := rfl
@[simp] theorem State.wf_resid : (s.wf off hi lo x).resid = s.resid := rfl
@[simp] theorem State.wf_ports : (s.wf off hi lo x).ports = s.ports := rfl
@[simp] theorem State.wf_wrFail : (s.wf off hi lo x).wrFail = s.wrFail := rfl
@[simp] theorem State.wf_keys : (s.wf off hi lo x).keys = s.keys := rfl
@[simp] theorem State.wf_pcie : (s.wf off hi lo x).pcie = s.pcie := rfl
@[simp] theorem State.wf_evrings : (s.wf off hi lo x).evrings = s.evrings := rfl
@[simp] theorem State.wf_recs : (s.wf off hi lo x).recs = s.recs := rfl
@[simp] theorem State.wf_health : (s.wf off hi lo x).health = s.health := rfl
@[simp] theorem State.wf_badLines : (s.wf off hi lo x).badLines = s.badLines := rfl
@[simp] theorem State.wf_spares : (s.wf off hi lo x).spares = s.spares := rfl
@[simp] theorem State.wf_groupsOut : (s.wf off hi lo x).groupsOut = s.groupsOut := rfl
@[simp] theorem State.wf_trust : (s.wf off hi lo x).trust = s.trust := rfl
@[simp] theorem State.wf_tear : (s.wf off hi lo x).tear = s.tear := rfl
@[simp] theorem State.wf_pmu : (s.wf off hi lo x).pmu = s.pmu := rfl
@[simp] theorem State.wf_pins : (s.wf off hi lo x).pins = s.pins := rfl

end

/-! ## State.wb changes regs alone -/

section

variable (s : State) (off i : Nat) (b : Bool)

@[simp] theorem State.wb_pending : (s.wb off i b).pending = s.pending := rfl
@[simp] theorem State.wb_freeCtr : (s.wb off i b).freeCtr = s.freeCtr := rfl
@[simp] theorem State.wb_time : (s.wb off i b).time = s.time := rfl
@[simp] theorem State.wb_latch : (s.wb off i b).latch = s.latch := rfl
@[simp] theorem State.wb_lastRd : (s.wb off i b).lastRd = s.lastRd := rfl
@[simp] theorem State.wb_snap : (s.wb off i b).snap = s.snap := rfl
@[simp] theorem State.wb_held : (s.wb off i b).held = s.held := rfl
@[simp] theorem State.wb_mem : (s.wb off i b).mem = s.mem := rfl
@[simp] theorem State.wb_lines : (s.wb off i b).lines = s.lines := rfl
@[simp] theorem State.wb_host : (s.wb off i b).host = s.host := rfl
@[simp] theorem State.wb_flash : (s.wb off i b).flash = s.flash := rfl
@[simp] theorem State.wb_axes : (s.wb off i b).axes = s.axes := rfl
@[simp] theorem State.wb_outs : (s.wb off i b).outs = s.outs := rfl
@[simp] theorem State.wb_noLimit : (s.wb off i b).noLimit = s.noLimit := rfl
@[simp] theorem State.wb_bcastSeq : (s.wb off i b).bcastSeq = s.bcastSeq := rfl
@[simp] theorem State.wb_bcastAt : (s.wb off i b).bcastAt = s.bcastAt := rfl
@[simp] theorem State.wb_posSeqs : (s.wb off i b).posSeqs = s.posSeqs := rfl
@[simp] theorem State.wb_velN : (s.wb off i b).velN = s.velN := rfl
@[simp] theorem State.wb_cams : (s.wb off i b).cams = s.cams := rfl
@[simp] theorem State.wb_rings : (s.wb off i b).rings = s.rings := rfl
@[simp] theorem State.wb_cals : (s.wb off i b).cals = s.cals := rfl
@[simp] theorem State.wb_jes : (s.wb off i b).jes = s.jes := rfl
@[simp] theorem State.wb_conLim : (s.wb off i b).conLim = s.conLim := rfl
@[simp] theorem State.wb_hist : (s.wb off i b).hist = s.hist := rfl
@[simp] theorem State.wb_queued : (s.wb off i b).queued = s.queued := rfl
@[simp] theorem State.wb_jseqs : (s.wb off i b).jseqs = s.jseqs := rfl
@[simp] theorem State.wb_born : (s.wb off i b).born = s.born := rfl
@[simp] theorem State.wb_dies : (s.wb off i b).dies = s.dies := rfl
@[simp] theorem State.wb_vrings : (s.wb off i b).vrings = s.vrings := rfl
@[simp] theorem State.wb_ctxs : (s.wb off i b).ctxs = s.ctxs := rfl
@[simp] theorem State.wb_clus : (s.wb off i b).clus = s.clus := rfl
@[simp] theorem State.wb_sems : (s.wb off i b).sems = s.sems := rfl
@[simp] theorem State.wb_threads : (s.wb off i b).threads = s.threads := rfl
@[simp] theorem State.wb_retired : (s.wb off i b).retired = s.retired := rfl
@[simp] theorem State.wb_pevt : (s.wb off i b).pevt = s.pevt := rfl
@[simp] theorem State.wb_sup : (s.wb off i b).sup = s.sup := rfl
@[simp] theorem State.wb_ops : (s.wb off i b).ops = s.ops := rfl
@[simp] theorem State.wb_opCount : (s.wb off i b).opCount = s.opCount := rfl
@[simp] theorem State.wb_lfsr : (s.wb off i b).lfsr = s.lfsr := rfl
@[simp] theorem State.wb_tiles : (s.wb off i b).tiles = s.tiles := rfl
@[simp] theorem State.wb_pps : (s.wb off i b).pps = s.pps := rfl
@[simp] theorem State.wb_expTurn : (s.wb off i b).expTurn = s.expTurn := rfl
@[simp] theorem State.wb_pools : (s.wb off i b).pools = s.pools := rfl
@[simp] theorem State.wb_mig : (s.wb off i b).mig = s.mig := rfl
@[simp] theorem State.wb_trained : (s.wb off i b).trained = s.trained := rfl
@[simp] theorem State.wb_rotAt : (s.wb off i b).rotAt = s.rotAt := rfl
@[simp] theorem State.wb_scrubQ : (s.wb off i b).scrubQ = s.scrubQ := rfl
@[simp] theorem State.wb_pendAdv : (s.wb off i b).pendAdv = s.pendAdv := rfl
@[simp] theorem State.wb_resid : (s.wb off i b).resid = s.resid := rfl
@[simp] theorem State.wb_ports : (s.wb off i b).ports = s.ports := rfl
@[simp] theorem State.wb_wrFail : (s.wb off i b).wrFail = s.wrFail := rfl
@[simp] theorem State.wb_keys : (s.wb off i b).keys = s.keys := rfl
@[simp] theorem State.wb_pcie : (s.wb off i b).pcie = s.pcie := rfl
@[simp] theorem State.wb_evrings : (s.wb off i b).evrings = s.evrings := rfl
@[simp] theorem State.wb_recs : (s.wb off i b).recs = s.recs := rfl
@[simp] theorem State.wb_health : (s.wb off i b).health = s.health := rfl
@[simp] theorem State.wb_badLines : (s.wb off i b).badLines = s.badLines := rfl
@[simp] theorem State.wb_spares : (s.wb off i b).spares = s.spares := rfl
@[simp] theorem State.wb_groupsOut : (s.wb off i b).groupsOut = s.groupsOut := rfl
@[simp] theorem State.wb_trust : (s.wb off i b).trust = s.trust := rfl
@[simp] theorem State.wb_tear : (s.wb off i b).tear = s.tear := rfl
@[simp] theorem State.wb_pmu : (s.wb off i b).pmu = s.pmu := rfl
@[simp] theorem State.wb_pins : (s.wb off i b).pins = s.pins := rfl

end

/-! ## State.sat changes regs alone -/

section

variable (s : State) (off hi lo n : Nat)

@[simp] theorem State.sat_pending : (s.sat off hi lo n).pending = s.pending := rfl
@[simp] theorem State.sat_freeCtr : (s.sat off hi lo n).freeCtr = s.freeCtr := rfl
@[simp] theorem State.sat_time : (s.sat off hi lo n).time = s.time := rfl
@[simp] theorem State.sat_latch : (s.sat off hi lo n).latch = s.latch := rfl
@[simp] theorem State.sat_lastRd : (s.sat off hi lo n).lastRd = s.lastRd := rfl
@[simp] theorem State.sat_snap : (s.sat off hi lo n).snap = s.snap := rfl
@[simp] theorem State.sat_held : (s.sat off hi lo n).held = s.held := rfl
@[simp] theorem State.sat_mem : (s.sat off hi lo n).mem = s.mem := rfl
@[simp] theorem State.sat_lines : (s.sat off hi lo n).lines = s.lines := rfl
@[simp] theorem State.sat_host : (s.sat off hi lo n).host = s.host := rfl
@[simp] theorem State.sat_flash : (s.sat off hi lo n).flash = s.flash := rfl
@[simp] theorem State.sat_axes : (s.sat off hi lo n).axes = s.axes := rfl
@[simp] theorem State.sat_outs : (s.sat off hi lo n).outs = s.outs := rfl
@[simp] theorem State.sat_noLimit : (s.sat off hi lo n).noLimit = s.noLimit := rfl
@[simp] theorem State.sat_bcastSeq : (s.sat off hi lo n).bcastSeq = s.bcastSeq := rfl
@[simp] theorem State.sat_bcastAt : (s.sat off hi lo n).bcastAt = s.bcastAt := rfl
@[simp] theorem State.sat_posSeqs : (s.sat off hi lo n).posSeqs = s.posSeqs := rfl
@[simp] theorem State.sat_velN : (s.sat off hi lo n).velN = s.velN := rfl
@[simp] theorem State.sat_cams : (s.sat off hi lo n).cams = s.cams := rfl
@[simp] theorem State.sat_rings : (s.sat off hi lo n).rings = s.rings := rfl
@[simp] theorem State.sat_cals : (s.sat off hi lo n).cals = s.cals := rfl
@[simp] theorem State.sat_jes : (s.sat off hi lo n).jes = s.jes := rfl
@[simp] theorem State.sat_conLim : (s.sat off hi lo n).conLim = s.conLim := rfl
@[simp] theorem State.sat_hist : (s.sat off hi lo n).hist = s.hist := rfl
@[simp] theorem State.sat_queued : (s.sat off hi lo n).queued = s.queued := rfl
@[simp] theorem State.sat_jseqs : (s.sat off hi lo n).jseqs = s.jseqs := rfl
@[simp] theorem State.sat_born : (s.sat off hi lo n).born = s.born := rfl
@[simp] theorem State.sat_dies : (s.sat off hi lo n).dies = s.dies := rfl
@[simp] theorem State.sat_vrings : (s.sat off hi lo n).vrings = s.vrings := rfl
@[simp] theorem State.sat_ctxs : (s.sat off hi lo n).ctxs = s.ctxs := rfl
@[simp] theorem State.sat_clus : (s.sat off hi lo n).clus = s.clus := rfl
@[simp] theorem State.sat_sems : (s.sat off hi lo n).sems = s.sems := rfl
@[simp] theorem State.sat_threads : (s.sat off hi lo n).threads = s.threads := rfl
@[simp] theorem State.sat_retired : (s.sat off hi lo n).retired = s.retired := rfl
@[simp] theorem State.sat_pevt : (s.sat off hi lo n).pevt = s.pevt := rfl
@[simp] theorem State.sat_sup : (s.sat off hi lo n).sup = s.sup := rfl
@[simp] theorem State.sat_ops : (s.sat off hi lo n).ops = s.ops := rfl
@[simp] theorem State.sat_opCount : (s.sat off hi lo n).opCount = s.opCount := rfl
@[simp] theorem State.sat_lfsr : (s.sat off hi lo n).lfsr = s.lfsr := rfl
@[simp] theorem State.sat_tiles : (s.sat off hi lo n).tiles = s.tiles := rfl
@[simp] theorem State.sat_pps : (s.sat off hi lo n).pps = s.pps := rfl
@[simp] theorem State.sat_expTurn : (s.sat off hi lo n).expTurn = s.expTurn := rfl
@[simp] theorem State.sat_pools : (s.sat off hi lo n).pools = s.pools := rfl
@[simp] theorem State.sat_mig : (s.sat off hi lo n).mig = s.mig := rfl
@[simp] theorem State.sat_trained : (s.sat off hi lo n).trained = s.trained := rfl
@[simp] theorem State.sat_rotAt : (s.sat off hi lo n).rotAt = s.rotAt := rfl
@[simp] theorem State.sat_scrubQ : (s.sat off hi lo n).scrubQ = s.scrubQ := rfl
@[simp] theorem State.sat_pendAdv : (s.sat off hi lo n).pendAdv = s.pendAdv := rfl
@[simp] theorem State.sat_resid : (s.sat off hi lo n).resid = s.resid := rfl
@[simp] theorem State.sat_ports : (s.sat off hi lo n).ports = s.ports := rfl
@[simp] theorem State.sat_wrFail : (s.sat off hi lo n).wrFail = s.wrFail := rfl
@[simp] theorem State.sat_keys : (s.sat off hi lo n).keys = s.keys := rfl
@[simp] theorem State.sat_pcie : (s.sat off hi lo n).pcie = s.pcie := rfl
@[simp] theorem State.sat_evrings : (s.sat off hi lo n).evrings = s.evrings := rfl
@[simp] theorem State.sat_recs : (s.sat off hi lo n).recs = s.recs := rfl
@[simp] theorem State.sat_health : (s.sat off hi lo n).health = s.health := rfl
@[simp] theorem State.sat_badLines : (s.sat off hi lo n).badLines = s.badLines := rfl
@[simp] theorem State.sat_spares : (s.sat off hi lo n).spares = s.spares := rfl
@[simp] theorem State.sat_groupsOut : (s.sat off hi lo n).groupsOut = s.groupsOut := rfl
@[simp] theorem State.sat_trust : (s.sat off hi lo n).trust = s.trust := rfl
@[simp] theorem State.sat_tear : (s.sat off hi lo n).tear = s.tear := rfl
@[simp] theorem State.sat_pmu : (s.sat off hi lo n).pmu = s.pmu := rfl
@[simp] theorem State.sat_pins : (s.sat off hi lo n).pins = s.pins := rfl

end

/-! ## State.inc changes regs alone -/

section

variable (s : State) (off hi lo n : Nat)

@[simp] theorem State.inc_pending : (s.inc off hi lo n).pending = s.pending := rfl
@[simp] theorem State.inc_freeCtr : (s.inc off hi lo n).freeCtr = s.freeCtr := rfl
@[simp] theorem State.inc_time : (s.inc off hi lo n).time = s.time := rfl
@[simp] theorem State.inc_latch : (s.inc off hi lo n).latch = s.latch := rfl
@[simp] theorem State.inc_lastRd : (s.inc off hi lo n).lastRd = s.lastRd := rfl
@[simp] theorem State.inc_snap : (s.inc off hi lo n).snap = s.snap := rfl
@[simp] theorem State.inc_held : (s.inc off hi lo n).held = s.held := rfl
@[simp] theorem State.inc_mem : (s.inc off hi lo n).mem = s.mem := rfl
@[simp] theorem State.inc_lines : (s.inc off hi lo n).lines = s.lines := rfl
@[simp] theorem State.inc_host : (s.inc off hi lo n).host = s.host := rfl
@[simp] theorem State.inc_flash : (s.inc off hi lo n).flash = s.flash := rfl
@[simp] theorem State.inc_axes : (s.inc off hi lo n).axes = s.axes := rfl
@[simp] theorem State.inc_outs : (s.inc off hi lo n).outs = s.outs := rfl
@[simp] theorem State.inc_noLimit : (s.inc off hi lo n).noLimit = s.noLimit := rfl
@[simp] theorem State.inc_bcastSeq : (s.inc off hi lo n).bcastSeq = s.bcastSeq := rfl
@[simp] theorem State.inc_bcastAt : (s.inc off hi lo n).bcastAt = s.bcastAt := rfl
@[simp] theorem State.inc_posSeqs : (s.inc off hi lo n).posSeqs = s.posSeqs := rfl
@[simp] theorem State.inc_velN : (s.inc off hi lo n).velN = s.velN := rfl
@[simp] theorem State.inc_cams : (s.inc off hi lo n).cams = s.cams := rfl
@[simp] theorem State.inc_rings : (s.inc off hi lo n).rings = s.rings := rfl
@[simp] theorem State.inc_cals : (s.inc off hi lo n).cals = s.cals := rfl
@[simp] theorem State.inc_jes : (s.inc off hi lo n).jes = s.jes := rfl
@[simp] theorem State.inc_conLim : (s.inc off hi lo n).conLim = s.conLim := rfl
@[simp] theorem State.inc_hist : (s.inc off hi lo n).hist = s.hist := rfl
@[simp] theorem State.inc_queued : (s.inc off hi lo n).queued = s.queued := rfl
@[simp] theorem State.inc_jseqs : (s.inc off hi lo n).jseqs = s.jseqs := rfl
@[simp] theorem State.inc_born : (s.inc off hi lo n).born = s.born := rfl
@[simp] theorem State.inc_dies : (s.inc off hi lo n).dies = s.dies := rfl
@[simp] theorem State.inc_vrings : (s.inc off hi lo n).vrings = s.vrings := rfl
@[simp] theorem State.inc_ctxs : (s.inc off hi lo n).ctxs = s.ctxs := rfl
@[simp] theorem State.inc_clus : (s.inc off hi lo n).clus = s.clus := rfl
@[simp] theorem State.inc_sems : (s.inc off hi lo n).sems = s.sems := rfl
@[simp] theorem State.inc_threads : (s.inc off hi lo n).threads = s.threads := rfl
@[simp] theorem State.inc_retired : (s.inc off hi lo n).retired = s.retired := rfl
@[simp] theorem State.inc_pevt : (s.inc off hi lo n).pevt = s.pevt := rfl
@[simp] theorem State.inc_sup : (s.inc off hi lo n).sup = s.sup := rfl
@[simp] theorem State.inc_ops : (s.inc off hi lo n).ops = s.ops := rfl
@[simp] theorem State.inc_opCount : (s.inc off hi lo n).opCount = s.opCount := rfl
@[simp] theorem State.inc_lfsr : (s.inc off hi lo n).lfsr = s.lfsr := rfl
@[simp] theorem State.inc_tiles : (s.inc off hi lo n).tiles = s.tiles := rfl
@[simp] theorem State.inc_pps : (s.inc off hi lo n).pps = s.pps := rfl
@[simp] theorem State.inc_expTurn : (s.inc off hi lo n).expTurn = s.expTurn := rfl
@[simp] theorem State.inc_pools : (s.inc off hi lo n).pools = s.pools := rfl
@[simp] theorem State.inc_mig : (s.inc off hi lo n).mig = s.mig := rfl
@[simp] theorem State.inc_trained : (s.inc off hi lo n).trained = s.trained := rfl
@[simp] theorem State.inc_rotAt : (s.inc off hi lo n).rotAt = s.rotAt := rfl
@[simp] theorem State.inc_scrubQ : (s.inc off hi lo n).scrubQ = s.scrubQ := rfl
@[simp] theorem State.inc_pendAdv : (s.inc off hi lo n).pendAdv = s.pendAdv := rfl
@[simp] theorem State.inc_resid : (s.inc off hi lo n).resid = s.resid := rfl
@[simp] theorem State.inc_ports : (s.inc off hi lo n).ports = s.ports := rfl
@[simp] theorem State.inc_wrFail : (s.inc off hi lo n).wrFail = s.wrFail := rfl
@[simp] theorem State.inc_keys : (s.inc off hi lo n).keys = s.keys := rfl
@[simp] theorem State.inc_pcie : (s.inc off hi lo n).pcie = s.pcie := rfl
@[simp] theorem State.inc_evrings : (s.inc off hi lo n).evrings = s.evrings := rfl
@[simp] theorem State.inc_recs : (s.inc off hi lo n).recs = s.recs := rfl
@[simp] theorem State.inc_health : (s.inc off hi lo n).health = s.health := rfl
@[simp] theorem State.inc_badLines : (s.inc off hi lo n).badLines = s.badLines := rfl
@[simp] theorem State.inc_spares : (s.inc off hi lo n).spares = s.spares := rfl
@[simp] theorem State.inc_groupsOut : (s.inc off hi lo n).groupsOut = s.groupsOut := rfl
@[simp] theorem State.inc_trust : (s.inc off hi lo n).trust = s.trust := rfl
@[simp] theorem State.inc_tear : (s.inc off hi lo n).tear = s.tear := rfl
@[simp] theorem State.inc_pmu : (s.inc off hi lo n).pmu = s.pmu := rfl
@[simp] theorem State.inc_pins : (s.inc off hi lo n).pins = s.pins := rfl

end

/-! ## State.resetRegs changes regs alone -/

section

variable (s : State) (p : Nat → Bool)

@[simp] theorem State.resetRegs_pending : (s.resetRegs p).pending = s.pending := rfl
@[simp] theorem State.resetRegs_freeCtr : (s.resetRegs p).freeCtr = s.freeCtr := rfl
@[simp] theorem State.resetRegs_time : (s.resetRegs p).time = s.time := rfl
@[simp] theorem State.resetRegs_latch : (s.resetRegs p).latch = s.latch := rfl
@[simp] theorem State.resetRegs_lastRd : (s.resetRegs p).lastRd = s.lastRd := rfl
@[simp] theorem State.resetRegs_snap : (s.resetRegs p).snap = s.snap := rfl
@[simp] theorem State.resetRegs_held : (s.resetRegs p).held = s.held := rfl
@[simp] theorem State.resetRegs_mem : (s.resetRegs p).mem = s.mem := rfl
@[simp] theorem State.resetRegs_lines : (s.resetRegs p).lines = s.lines := rfl
@[simp] theorem State.resetRegs_host : (s.resetRegs p).host = s.host := rfl
@[simp] theorem State.resetRegs_flash : (s.resetRegs p).flash = s.flash := rfl
@[simp] theorem State.resetRegs_axes : (s.resetRegs p).axes = s.axes := rfl
@[simp] theorem State.resetRegs_outs : (s.resetRegs p).outs = s.outs := rfl
@[simp] theorem State.resetRegs_noLimit : (s.resetRegs p).noLimit = s.noLimit := rfl
@[simp] theorem State.resetRegs_bcastSeq : (s.resetRegs p).bcastSeq = s.bcastSeq := rfl
@[simp] theorem State.resetRegs_bcastAt : (s.resetRegs p).bcastAt = s.bcastAt := rfl
@[simp] theorem State.resetRegs_posSeqs : (s.resetRegs p).posSeqs = s.posSeqs := rfl
@[simp] theorem State.resetRegs_velN : (s.resetRegs p).velN = s.velN := rfl
@[simp] theorem State.resetRegs_cams : (s.resetRegs p).cams = s.cams := rfl
@[simp] theorem State.resetRegs_rings : (s.resetRegs p).rings = s.rings := rfl
@[simp] theorem State.resetRegs_cals : (s.resetRegs p).cals = s.cals := rfl
@[simp] theorem State.resetRegs_jes : (s.resetRegs p).jes = s.jes := rfl
@[simp] theorem State.resetRegs_conLim : (s.resetRegs p).conLim = s.conLim := rfl
@[simp] theorem State.resetRegs_hist : (s.resetRegs p).hist = s.hist := rfl
@[simp] theorem State.resetRegs_queued : (s.resetRegs p).queued = s.queued := rfl
@[simp] theorem State.resetRegs_jseqs : (s.resetRegs p).jseqs = s.jseqs := rfl
@[simp] theorem State.resetRegs_born : (s.resetRegs p).born = s.born := rfl
@[simp] theorem State.resetRegs_dies : (s.resetRegs p).dies = s.dies := rfl
@[simp] theorem State.resetRegs_vrings : (s.resetRegs p).vrings = s.vrings := rfl
@[simp] theorem State.resetRegs_ctxs : (s.resetRegs p).ctxs = s.ctxs := rfl
@[simp] theorem State.resetRegs_clus : (s.resetRegs p).clus = s.clus := rfl
@[simp] theorem State.resetRegs_sems : (s.resetRegs p).sems = s.sems := rfl
@[simp] theorem State.resetRegs_threads : (s.resetRegs p).threads = s.threads := rfl
@[simp] theorem State.resetRegs_retired : (s.resetRegs p).retired = s.retired := rfl
@[simp] theorem State.resetRegs_pevt : (s.resetRegs p).pevt = s.pevt := rfl
@[simp] theorem State.resetRegs_sup : (s.resetRegs p).sup = s.sup := rfl
@[simp] theorem State.resetRegs_ops : (s.resetRegs p).ops = s.ops := rfl
@[simp] theorem State.resetRegs_opCount : (s.resetRegs p).opCount = s.opCount := rfl
@[simp] theorem State.resetRegs_lfsr : (s.resetRegs p).lfsr = s.lfsr := rfl
@[simp] theorem State.resetRegs_tiles : (s.resetRegs p).tiles = s.tiles := rfl
@[simp] theorem State.resetRegs_pps : (s.resetRegs p).pps = s.pps := rfl
@[simp] theorem State.resetRegs_expTurn : (s.resetRegs p).expTurn = s.expTurn := rfl
@[simp] theorem State.resetRegs_pools : (s.resetRegs p).pools = s.pools := rfl
@[simp] theorem State.resetRegs_mig : (s.resetRegs p).mig = s.mig := rfl
@[simp] theorem State.resetRegs_trained : (s.resetRegs p).trained = s.trained := rfl
@[simp] theorem State.resetRegs_rotAt : (s.resetRegs p).rotAt = s.rotAt := rfl
@[simp] theorem State.resetRegs_scrubQ : (s.resetRegs p).scrubQ = s.scrubQ := rfl
@[simp] theorem State.resetRegs_pendAdv : (s.resetRegs p).pendAdv = s.pendAdv := rfl
@[simp] theorem State.resetRegs_resid : (s.resetRegs p).resid = s.resid := rfl
@[simp] theorem State.resetRegs_ports : (s.resetRegs p).ports = s.ports := rfl
@[simp] theorem State.resetRegs_wrFail : (s.resetRegs p).wrFail = s.wrFail := rfl
@[simp] theorem State.resetRegs_keys : (s.resetRegs p).keys = s.keys := rfl
@[simp] theorem State.resetRegs_pcie : (s.resetRegs p).pcie = s.pcie := rfl
@[simp] theorem State.resetRegs_evrings : (s.resetRegs p).evrings = s.evrings := rfl
@[simp] theorem State.resetRegs_recs : (s.resetRegs p).recs = s.recs := rfl
@[simp] theorem State.resetRegs_health : (s.resetRegs p).health = s.health := rfl
@[simp] theorem State.resetRegs_badLines : (s.resetRegs p).badLines = s.badLines := rfl
@[simp] theorem State.resetRegs_spares : (s.resetRegs p).spares = s.spares := rfl
@[simp] theorem State.resetRegs_groupsOut : (s.resetRegs p).groupsOut = s.groupsOut := rfl
@[simp] theorem State.resetRegs_trust : (s.resetRegs p).trust = s.trust := rfl
@[simp] theorem State.resetRegs_tear : (s.resetRegs p).tear = s.tear := rfl
@[simp] theorem State.resetRegs_pmu : (s.resetRegs p).pmu = s.pmu := rfl
@[simp] theorem State.resetRegs_pins : (s.resetRegs p).pins = s.pins := rfl

end

/-! ## State.setAxis changes axes alone -/

section

variable (s : State) (n : Nat) (x : AxisX)

@[simp] theorem State.setAxis_pending : (s.setAxis n x).pending = s.pending := rfl
@[simp] theorem State.setAxis_freeCtr : (s.setAxis n x).freeCtr = s.freeCtr := rfl
@[simp] theorem State.setAxis_time : (s.setAxis n x).time = s.time := rfl
@[simp] theorem State.setAxis_regs : (s.setAxis n x).regs = s.regs := rfl
@[simp] theorem State.setAxis_latch : (s.setAxis n x).latch = s.latch := rfl
@[simp] theorem State.setAxis_lastRd : (s.setAxis n x).lastRd = s.lastRd := rfl
@[simp] theorem State.setAxis_snap : (s.setAxis n x).snap = s.snap := rfl
@[simp] theorem State.setAxis_held : (s.setAxis n x).held = s.held := rfl
@[simp] theorem State.setAxis_mem : (s.setAxis n x).mem = s.mem := rfl
@[simp] theorem State.setAxis_lines : (s.setAxis n x).lines = s.lines := rfl
@[simp] theorem State.setAxis_host : (s.setAxis n x).host = s.host := rfl
@[simp] theorem State.setAxis_flash : (s.setAxis n x).flash = s.flash := rfl
@[simp] theorem State.setAxis_outs : (s.setAxis n x).outs = s.outs := rfl
@[simp] theorem State.setAxis_noLimit : (s.setAxis n x).noLimit = s.noLimit := rfl
@[simp] theorem State.setAxis_bcastSeq : (s.setAxis n x).bcastSeq = s.bcastSeq := rfl
@[simp] theorem State.setAxis_bcastAt : (s.setAxis n x).bcastAt = s.bcastAt := rfl
@[simp] theorem State.setAxis_posSeqs : (s.setAxis n x).posSeqs = s.posSeqs := rfl
@[simp] theorem State.setAxis_velN : (s.setAxis n x).velN = s.velN := rfl
@[simp] theorem State.setAxis_cams : (s.setAxis n x).cams = s.cams := rfl
@[simp] theorem State.setAxis_rings : (s.setAxis n x).rings = s.rings := rfl
@[simp] theorem State.setAxis_cals : (s.setAxis n x).cals = s.cals := rfl
@[simp] theorem State.setAxis_jes : (s.setAxis n x).jes = s.jes := rfl
@[simp] theorem State.setAxis_conLim : (s.setAxis n x).conLim = s.conLim := rfl
@[simp] theorem State.setAxis_hist : (s.setAxis n x).hist = s.hist := rfl
@[simp] theorem State.setAxis_queued : (s.setAxis n x).queued = s.queued := rfl
@[simp] theorem State.setAxis_jseqs : (s.setAxis n x).jseqs = s.jseqs := rfl
@[simp] theorem State.setAxis_born : (s.setAxis n x).born = s.born := rfl
@[simp] theorem State.setAxis_dies : (s.setAxis n x).dies = s.dies := rfl
@[simp] theorem State.setAxis_vrings : (s.setAxis n x).vrings = s.vrings := rfl
@[simp] theorem State.setAxis_ctxs : (s.setAxis n x).ctxs = s.ctxs := rfl
@[simp] theorem State.setAxis_clus : (s.setAxis n x).clus = s.clus := rfl
@[simp] theorem State.setAxis_sems : (s.setAxis n x).sems = s.sems := rfl
@[simp] theorem State.setAxis_threads : (s.setAxis n x).threads = s.threads := rfl
@[simp] theorem State.setAxis_retired : (s.setAxis n x).retired = s.retired := rfl
@[simp] theorem State.setAxis_pevt : (s.setAxis n x).pevt = s.pevt := rfl
@[simp] theorem State.setAxis_sup : (s.setAxis n x).sup = s.sup := rfl
@[simp] theorem State.setAxis_ops : (s.setAxis n x).ops = s.ops := rfl
@[simp] theorem State.setAxis_opCount : (s.setAxis n x).opCount = s.opCount := rfl
@[simp] theorem State.setAxis_lfsr : (s.setAxis n x).lfsr = s.lfsr := rfl
@[simp] theorem State.setAxis_tiles : (s.setAxis n x).tiles = s.tiles := rfl
@[simp] theorem State.setAxis_pps : (s.setAxis n x).pps = s.pps := rfl
@[simp] theorem State.setAxis_expTurn : (s.setAxis n x).expTurn = s.expTurn := rfl
@[simp] theorem State.setAxis_pools : (s.setAxis n x).pools = s.pools := rfl
@[simp] theorem State.setAxis_mig : (s.setAxis n x).mig = s.mig := rfl
@[simp] theorem State.setAxis_trained : (s.setAxis n x).trained = s.trained := rfl
@[simp] theorem State.setAxis_rotAt : (s.setAxis n x).rotAt = s.rotAt := rfl
@[simp] theorem State.setAxis_scrubQ : (s.setAxis n x).scrubQ = s.scrubQ := rfl
@[simp] theorem State.setAxis_pendAdv : (s.setAxis n x).pendAdv = s.pendAdv := rfl
@[simp] theorem State.setAxis_resid : (s.setAxis n x).resid = s.resid := rfl
@[simp] theorem State.setAxis_ports : (s.setAxis n x).ports = s.ports := rfl
@[simp] theorem State.setAxis_wrFail : (s.setAxis n x).wrFail = s.wrFail := rfl
@[simp] theorem State.setAxis_keys : (s.setAxis n x).keys = s.keys := rfl
@[simp] theorem State.setAxis_pcie : (s.setAxis n x).pcie = s.pcie := rfl
@[simp] theorem State.setAxis_evrings : (s.setAxis n x).evrings = s.evrings := rfl
@[simp] theorem State.setAxis_recs : (s.setAxis n x).recs = s.recs := rfl
@[simp] theorem State.setAxis_health : (s.setAxis n x).health = s.health := rfl
@[simp] theorem State.setAxis_badLines : (s.setAxis n x).badLines = s.badLines := rfl
@[simp] theorem State.setAxis_spares : (s.setAxis n x).spares = s.spares := rfl
@[simp] theorem State.setAxis_groupsOut : (s.setAxis n x).groupsOut = s.groupsOut := rfl
@[simp] theorem State.setAxis_trust : (s.setAxis n x).trust = s.trust := rfl
@[simp] theorem State.setAxis_tear : (s.setAxis n x).tear = s.tear := rfl
@[simp] theorem State.setAxis_pmu : (s.setAxis n x).pmu = s.pmu := rfl
@[simp] theorem State.setAxis_pins : (s.setAxis n x).pins = s.pins := rfl

end

/-! ## State.setOut changes outs alone -/

section

variable (s : State) (o : Nat) (x : OutX)

@[simp] theorem State.setOut_pending : (s.setOut o x).pending = s.pending := rfl
@[simp] theorem State.setOut_freeCtr : (s.setOut o x).freeCtr = s.freeCtr := rfl
@[simp] theorem State.setOut_time : (s.setOut o x).time = s.time := rfl
@[simp] theorem State.setOut_regs : (s.setOut o x).regs = s.regs := rfl
@[simp] theorem State.setOut_latch : (s.setOut o x).latch = s.latch := rfl
@[simp] theorem State.setOut_lastRd : (s.setOut o x).lastRd = s.lastRd := rfl
@[simp] theorem State.setOut_snap : (s.setOut o x).snap = s.snap := rfl
@[simp] theorem State.setOut_held : (s.setOut o x).held = s.held := rfl
@[simp] theorem State.setOut_mem : (s.setOut o x).mem = s.mem := rfl
@[simp] theorem State.setOut_lines : (s.setOut o x).lines = s.lines := rfl
@[simp] theorem State.setOut_host : (s.setOut o x).host = s.host := rfl
@[simp] theorem State.setOut_flash : (s.setOut o x).flash = s.flash := rfl
@[simp] theorem State.setOut_axes : (s.setOut o x).axes = s.axes := rfl
@[simp] theorem State.setOut_noLimit : (s.setOut o x).noLimit = s.noLimit := rfl
@[simp] theorem State.setOut_bcastSeq : (s.setOut o x).bcastSeq = s.bcastSeq := rfl
@[simp] theorem State.setOut_bcastAt : (s.setOut o x).bcastAt = s.bcastAt := rfl
@[simp] theorem State.setOut_posSeqs : (s.setOut o x).posSeqs = s.posSeqs := rfl
@[simp] theorem State.setOut_velN : (s.setOut o x).velN = s.velN := rfl
@[simp] theorem State.setOut_cams : (s.setOut o x).cams = s.cams := rfl
@[simp] theorem State.setOut_rings : (s.setOut o x).rings = s.rings := rfl
@[simp] theorem State.setOut_cals : (s.setOut o x).cals = s.cals := rfl
@[simp] theorem State.setOut_jes : (s.setOut o x).jes = s.jes := rfl
@[simp] theorem State.setOut_conLim : (s.setOut o x).conLim = s.conLim := rfl
@[simp] theorem State.setOut_hist : (s.setOut o x).hist = s.hist := rfl
@[simp] theorem State.setOut_queued : (s.setOut o x).queued = s.queued := rfl
@[simp] theorem State.setOut_jseqs : (s.setOut o x).jseqs = s.jseqs := rfl
@[simp] theorem State.setOut_born : (s.setOut o x).born = s.born := rfl
@[simp] theorem State.setOut_dies : (s.setOut o x).dies = s.dies := rfl
@[simp] theorem State.setOut_vrings : (s.setOut o x).vrings = s.vrings := rfl
@[simp] theorem State.setOut_ctxs : (s.setOut o x).ctxs = s.ctxs := rfl
@[simp] theorem State.setOut_clus : (s.setOut o x).clus = s.clus := rfl
@[simp] theorem State.setOut_sems : (s.setOut o x).sems = s.sems := rfl
@[simp] theorem State.setOut_threads : (s.setOut o x).threads = s.threads := rfl
@[simp] theorem State.setOut_retired : (s.setOut o x).retired = s.retired := rfl
@[simp] theorem State.setOut_pevt : (s.setOut o x).pevt = s.pevt := rfl
@[simp] theorem State.setOut_sup : (s.setOut o x).sup = s.sup := rfl
@[simp] theorem State.setOut_ops : (s.setOut o x).ops = s.ops := rfl
@[simp] theorem State.setOut_opCount : (s.setOut o x).opCount = s.opCount := rfl
@[simp] theorem State.setOut_lfsr : (s.setOut o x).lfsr = s.lfsr := rfl
@[simp] theorem State.setOut_tiles : (s.setOut o x).tiles = s.tiles := rfl
@[simp] theorem State.setOut_pps : (s.setOut o x).pps = s.pps := rfl
@[simp] theorem State.setOut_expTurn : (s.setOut o x).expTurn = s.expTurn := rfl
@[simp] theorem State.setOut_pools : (s.setOut o x).pools = s.pools := rfl
@[simp] theorem State.setOut_mig : (s.setOut o x).mig = s.mig := rfl
@[simp] theorem State.setOut_trained : (s.setOut o x).trained = s.trained := rfl
@[simp] theorem State.setOut_rotAt : (s.setOut o x).rotAt = s.rotAt := rfl
@[simp] theorem State.setOut_scrubQ : (s.setOut o x).scrubQ = s.scrubQ := rfl
@[simp] theorem State.setOut_pendAdv : (s.setOut o x).pendAdv = s.pendAdv := rfl
@[simp] theorem State.setOut_resid : (s.setOut o x).resid = s.resid := rfl
@[simp] theorem State.setOut_ports : (s.setOut o x).ports = s.ports := rfl
@[simp] theorem State.setOut_wrFail : (s.setOut o x).wrFail = s.wrFail := rfl
@[simp] theorem State.setOut_keys : (s.setOut o x).keys = s.keys := rfl
@[simp] theorem State.setOut_pcie : (s.setOut o x).pcie = s.pcie := rfl
@[simp] theorem State.setOut_evrings : (s.setOut o x).evrings = s.evrings := rfl
@[simp] theorem State.setOut_recs : (s.setOut o x).recs = s.recs := rfl
@[simp] theorem State.setOut_health : (s.setOut o x).health = s.health := rfl
@[simp] theorem State.setOut_badLines : (s.setOut o x).badLines = s.badLines := rfl
@[simp] theorem State.setOut_spares : (s.setOut o x).spares = s.spares := rfl
@[simp] theorem State.setOut_groupsOut : (s.setOut o x).groupsOut = s.groupsOut := rfl
@[simp] theorem State.setOut_trust : (s.setOut o x).trust = s.trust := rfl
@[simp] theorem State.setOut_tear : (s.setOut o x).tear = s.tear := rfl
@[simp] theorem State.setOut_pmu : (s.setOut o x).pmu = s.pmu := rfl
@[simp] theorem State.setOut_pins : (s.setOut o x).pins = s.pins := rfl

end

/-! ## State.setCam changes cams alone -/

section

variable (s : State) (k : Nat) (x : Cam)

@[simp] theorem State.setCam_pending : (s.setCam k x).pending = s.pending := rfl
@[simp] theorem State.setCam_freeCtr : (s.setCam k x).freeCtr = s.freeCtr := rfl
@[simp] theorem State.setCam_time : (s.setCam k x).time = s.time := rfl
@[simp] theorem State.setCam_regs : (s.setCam k x).regs = s.regs := rfl
@[simp] theorem State.setCam_latch : (s.setCam k x).latch = s.latch := rfl
@[simp] theorem State.setCam_lastRd : (s.setCam k x).lastRd = s.lastRd := rfl
@[simp] theorem State.setCam_snap : (s.setCam k x).snap = s.snap := rfl
@[simp] theorem State.setCam_held : (s.setCam k x).held = s.held := rfl
@[simp] theorem State.setCam_mem : (s.setCam k x).mem = s.mem := rfl
@[simp] theorem State.setCam_lines : (s.setCam k x).lines = s.lines := rfl
@[simp] theorem State.setCam_host : (s.setCam k x).host = s.host := rfl
@[simp] theorem State.setCam_flash : (s.setCam k x).flash = s.flash := rfl
@[simp] theorem State.setCam_axes : (s.setCam k x).axes = s.axes := rfl
@[simp] theorem State.setCam_outs : (s.setCam k x).outs = s.outs := rfl
@[simp] theorem State.setCam_noLimit : (s.setCam k x).noLimit = s.noLimit := rfl
@[simp] theorem State.setCam_bcastSeq : (s.setCam k x).bcastSeq = s.bcastSeq := rfl
@[simp] theorem State.setCam_bcastAt : (s.setCam k x).bcastAt = s.bcastAt := rfl
@[simp] theorem State.setCam_posSeqs : (s.setCam k x).posSeqs = s.posSeqs := rfl
@[simp] theorem State.setCam_velN : (s.setCam k x).velN = s.velN := rfl
@[simp] theorem State.setCam_rings : (s.setCam k x).rings = s.rings := rfl
@[simp] theorem State.setCam_cals : (s.setCam k x).cals = s.cals := rfl
@[simp] theorem State.setCam_jes : (s.setCam k x).jes = s.jes := rfl
@[simp] theorem State.setCam_conLim : (s.setCam k x).conLim = s.conLim := rfl
@[simp] theorem State.setCam_hist : (s.setCam k x).hist = s.hist := rfl
@[simp] theorem State.setCam_queued : (s.setCam k x).queued = s.queued := rfl
@[simp] theorem State.setCam_jseqs : (s.setCam k x).jseqs = s.jseqs := rfl
@[simp] theorem State.setCam_born : (s.setCam k x).born = s.born := rfl
@[simp] theorem State.setCam_dies : (s.setCam k x).dies = s.dies := rfl
@[simp] theorem State.setCam_vrings : (s.setCam k x).vrings = s.vrings := rfl
@[simp] theorem State.setCam_ctxs : (s.setCam k x).ctxs = s.ctxs := rfl
@[simp] theorem State.setCam_clus : (s.setCam k x).clus = s.clus := rfl
@[simp] theorem State.setCam_sems : (s.setCam k x).sems = s.sems := rfl
@[simp] theorem State.setCam_threads : (s.setCam k x).threads = s.threads := rfl
@[simp] theorem State.setCam_retired : (s.setCam k x).retired = s.retired := rfl
@[simp] theorem State.setCam_pevt : (s.setCam k x).pevt = s.pevt := rfl
@[simp] theorem State.setCam_sup : (s.setCam k x).sup = s.sup := rfl
@[simp] theorem State.setCam_ops : (s.setCam k x).ops = s.ops := rfl
@[simp] theorem State.setCam_opCount : (s.setCam k x).opCount = s.opCount := rfl
@[simp] theorem State.setCam_lfsr : (s.setCam k x).lfsr = s.lfsr := rfl
@[simp] theorem State.setCam_tiles : (s.setCam k x).tiles = s.tiles := rfl
@[simp] theorem State.setCam_pps : (s.setCam k x).pps = s.pps := rfl
@[simp] theorem State.setCam_expTurn : (s.setCam k x).expTurn = s.expTurn := rfl
@[simp] theorem State.setCam_pools : (s.setCam k x).pools = s.pools := rfl
@[simp] theorem State.setCam_mig : (s.setCam k x).mig = s.mig := rfl
@[simp] theorem State.setCam_trained : (s.setCam k x).trained = s.trained := rfl
@[simp] theorem State.setCam_rotAt : (s.setCam k x).rotAt = s.rotAt := rfl
@[simp] theorem State.setCam_scrubQ : (s.setCam k x).scrubQ = s.scrubQ := rfl
@[simp] theorem State.setCam_pendAdv : (s.setCam k x).pendAdv = s.pendAdv := rfl
@[simp] theorem State.setCam_resid : (s.setCam k x).resid = s.resid := rfl
@[simp] theorem State.setCam_ports : (s.setCam k x).ports = s.ports := rfl
@[simp] theorem State.setCam_wrFail : (s.setCam k x).wrFail = s.wrFail := rfl
@[simp] theorem State.setCam_keys : (s.setCam k x).keys = s.keys := rfl
@[simp] theorem State.setCam_pcie : (s.setCam k x).pcie = s.pcie := rfl
@[simp] theorem State.setCam_evrings : (s.setCam k x).evrings = s.evrings := rfl
@[simp] theorem State.setCam_recs : (s.setCam k x).recs = s.recs := rfl
@[simp] theorem State.setCam_health : (s.setCam k x).health = s.health := rfl
@[simp] theorem State.setCam_badLines : (s.setCam k x).badLines = s.badLines := rfl
@[simp] theorem State.setCam_spares : (s.setCam k x).spares = s.spares := rfl
@[simp] theorem State.setCam_groupsOut : (s.setCam k x).groupsOut = s.groupsOut := rfl
@[simp] theorem State.setCam_trust : (s.setCam k x).trust = s.trust := rfl
@[simp] theorem State.setCam_tear : (s.setCam k x).tear = s.tear := rfl
@[simp] theorem State.setCam_pmu : (s.setCam k x).pmu = s.pmu := rfl
@[simp] theorem State.setCam_pins : (s.setCam k x).pins = s.pins := rfl

end

/-! ## State.setRing changes rings alone -/

section

variable (s : State) (r : Nat) (x : Ring)

@[simp] theorem State.setRing_pending : (s.setRing r x).pending = s.pending := rfl
@[simp] theorem State.setRing_freeCtr : (s.setRing r x).freeCtr = s.freeCtr := rfl
@[simp] theorem State.setRing_time : (s.setRing r x).time = s.time := rfl
@[simp] theorem State.setRing_regs : (s.setRing r x).regs = s.regs := rfl
@[simp] theorem State.setRing_latch : (s.setRing r x).latch = s.latch := rfl
@[simp] theorem State.setRing_lastRd : (s.setRing r x).lastRd = s.lastRd := rfl
@[simp] theorem State.setRing_snap : (s.setRing r x).snap = s.snap := rfl
@[simp] theorem State.setRing_held : (s.setRing r x).held = s.held := rfl
@[simp] theorem State.setRing_mem : (s.setRing r x).mem = s.mem := rfl
@[simp] theorem State.setRing_lines : (s.setRing r x).lines = s.lines := rfl
@[simp] theorem State.setRing_host : (s.setRing r x).host = s.host := rfl
@[simp] theorem State.setRing_flash : (s.setRing r x).flash = s.flash := rfl
@[simp] theorem State.setRing_axes : (s.setRing r x).axes = s.axes := rfl
@[simp] theorem State.setRing_outs : (s.setRing r x).outs = s.outs := rfl
@[simp] theorem State.setRing_noLimit : (s.setRing r x).noLimit = s.noLimit := rfl
@[simp] theorem State.setRing_bcastSeq : (s.setRing r x).bcastSeq = s.bcastSeq := rfl
@[simp] theorem State.setRing_bcastAt : (s.setRing r x).bcastAt = s.bcastAt := rfl
@[simp] theorem State.setRing_posSeqs : (s.setRing r x).posSeqs = s.posSeqs := rfl
@[simp] theorem State.setRing_velN : (s.setRing r x).velN = s.velN := rfl
@[simp] theorem State.setRing_cams : (s.setRing r x).cams = s.cams := rfl
@[simp] theorem State.setRing_cals : (s.setRing r x).cals = s.cals := rfl
@[simp] theorem State.setRing_jes : (s.setRing r x).jes = s.jes := rfl
@[simp] theorem State.setRing_conLim : (s.setRing r x).conLim = s.conLim := rfl
@[simp] theorem State.setRing_hist : (s.setRing r x).hist = s.hist := rfl
@[simp] theorem State.setRing_queued : (s.setRing r x).queued = s.queued := rfl
@[simp] theorem State.setRing_jseqs : (s.setRing r x).jseqs = s.jseqs := rfl
@[simp] theorem State.setRing_born : (s.setRing r x).born = s.born := rfl
@[simp] theorem State.setRing_dies : (s.setRing r x).dies = s.dies := rfl
@[simp] theorem State.setRing_vrings : (s.setRing r x).vrings = s.vrings := rfl
@[simp] theorem State.setRing_ctxs : (s.setRing r x).ctxs = s.ctxs := rfl
@[simp] theorem State.setRing_clus : (s.setRing r x).clus = s.clus := rfl
@[simp] theorem State.setRing_sems : (s.setRing r x).sems = s.sems := rfl
@[simp] theorem State.setRing_threads : (s.setRing r x).threads = s.threads := rfl
@[simp] theorem State.setRing_retired : (s.setRing r x).retired = s.retired := rfl
@[simp] theorem State.setRing_pevt : (s.setRing r x).pevt = s.pevt := rfl
@[simp] theorem State.setRing_sup : (s.setRing r x).sup = s.sup := rfl
@[simp] theorem State.setRing_ops : (s.setRing r x).ops = s.ops := rfl
@[simp] theorem State.setRing_opCount : (s.setRing r x).opCount = s.opCount := rfl
@[simp] theorem State.setRing_lfsr : (s.setRing r x).lfsr = s.lfsr := rfl
@[simp] theorem State.setRing_tiles : (s.setRing r x).tiles = s.tiles := rfl
@[simp] theorem State.setRing_pps : (s.setRing r x).pps = s.pps := rfl
@[simp] theorem State.setRing_expTurn : (s.setRing r x).expTurn = s.expTurn := rfl
@[simp] theorem State.setRing_pools : (s.setRing r x).pools = s.pools := rfl
@[simp] theorem State.setRing_mig : (s.setRing r x).mig = s.mig := rfl
@[simp] theorem State.setRing_trained : (s.setRing r x).trained = s.trained := rfl
@[simp] theorem State.setRing_rotAt : (s.setRing r x).rotAt = s.rotAt := rfl
@[simp] theorem State.setRing_scrubQ : (s.setRing r x).scrubQ = s.scrubQ := rfl
@[simp] theorem State.setRing_pendAdv : (s.setRing r x).pendAdv = s.pendAdv := rfl
@[simp] theorem State.setRing_resid : (s.setRing r x).resid = s.resid := rfl
@[simp] theorem State.setRing_ports : (s.setRing r x).ports = s.ports := rfl
@[simp] theorem State.setRing_wrFail : (s.setRing r x).wrFail = s.wrFail := rfl
@[simp] theorem State.setRing_keys : (s.setRing r x).keys = s.keys := rfl
@[simp] theorem State.setRing_pcie : (s.setRing r x).pcie = s.pcie := rfl
@[simp] theorem State.setRing_evrings : (s.setRing r x).evrings = s.evrings := rfl
@[simp] theorem State.setRing_recs : (s.setRing r x).recs = s.recs := rfl
@[simp] theorem State.setRing_health : (s.setRing r x).health = s.health := rfl
@[simp] theorem State.setRing_badLines : (s.setRing r x).badLines = s.badLines := rfl
@[simp] theorem State.setRing_spares : (s.setRing r x).spares = s.spares := rfl
@[simp] theorem State.setRing_groupsOut : (s.setRing r x).groupsOut = s.groupsOut := rfl
@[simp] theorem State.setRing_trust : (s.setRing r x).trust = s.trust := rfl
@[simp] theorem State.setRing_tear : (s.setRing r x).tear = s.tear := rfl
@[simp] theorem State.setRing_pmu : (s.setRing r x).pmu = s.pmu := rfl
@[simp] theorem State.setRing_pins : (s.setRing r x).pins = s.pins := rfl

end

/-! ## State.setCal changes cals alone -/

section

variable (s : State) (t : Nat) (x : Cal)

@[simp] theorem State.setCal_pending : (s.setCal t x).pending = s.pending := rfl
@[simp] theorem State.setCal_freeCtr : (s.setCal t x).freeCtr = s.freeCtr := rfl
@[simp] theorem State.setCal_time : (s.setCal t x).time = s.time := rfl
@[simp] theorem State.setCal_regs : (s.setCal t x).regs = s.regs := rfl
@[simp] theorem State.setCal_latch : (s.setCal t x).latch = s.latch := rfl
@[simp] theorem State.setCal_lastRd : (s.setCal t x).lastRd = s.lastRd := rfl
@[simp] theorem State.setCal_snap : (s.setCal t x).snap = s.snap := rfl
@[simp] theorem State.setCal_held : (s.setCal t x).held = s.held := rfl
@[simp] theorem State.setCal_mem : (s.setCal t x).mem = s.mem := rfl
@[simp] theorem State.setCal_lines : (s.setCal t x).lines = s.lines := rfl
@[simp] theorem State.setCal_host : (s.setCal t x).host = s.host := rfl
@[simp] theorem State.setCal_flash : (s.setCal t x).flash = s.flash := rfl
@[simp] theorem State.setCal_axes : (s.setCal t x).axes = s.axes := rfl
@[simp] theorem State.setCal_outs : (s.setCal t x).outs = s.outs := rfl
@[simp] theorem State.setCal_noLimit : (s.setCal t x).noLimit = s.noLimit := rfl
@[simp] theorem State.setCal_bcastSeq : (s.setCal t x).bcastSeq = s.bcastSeq := rfl
@[simp] theorem State.setCal_bcastAt : (s.setCal t x).bcastAt = s.bcastAt := rfl
@[simp] theorem State.setCal_posSeqs : (s.setCal t x).posSeqs = s.posSeqs := rfl
@[simp] theorem State.setCal_velN : (s.setCal t x).velN = s.velN := rfl
@[simp] theorem State.setCal_cams : (s.setCal t x).cams = s.cams := rfl
@[simp] theorem State.setCal_rings : (s.setCal t x).rings = s.rings := rfl
@[simp] theorem State.setCal_jes : (s.setCal t x).jes = s.jes := rfl
@[simp] theorem State.setCal_conLim : (s.setCal t x).conLim = s.conLim := rfl
@[simp] theorem State.setCal_hist : (s.setCal t x).hist = s.hist := rfl
@[simp] theorem State.setCal_queued : (s.setCal t x).queued = s.queued := rfl
@[simp] theorem State.setCal_jseqs : (s.setCal t x).jseqs = s.jseqs := rfl
@[simp] theorem State.setCal_born : (s.setCal t x).born = s.born := rfl
@[simp] theorem State.setCal_dies : (s.setCal t x).dies = s.dies := rfl
@[simp] theorem State.setCal_vrings : (s.setCal t x).vrings = s.vrings := rfl
@[simp] theorem State.setCal_ctxs : (s.setCal t x).ctxs = s.ctxs := rfl
@[simp] theorem State.setCal_clus : (s.setCal t x).clus = s.clus := rfl
@[simp] theorem State.setCal_sems : (s.setCal t x).sems = s.sems := rfl
@[simp] theorem State.setCal_threads : (s.setCal t x).threads = s.threads := rfl
@[simp] theorem State.setCal_retired : (s.setCal t x).retired = s.retired := rfl
@[simp] theorem State.setCal_pevt : (s.setCal t x).pevt = s.pevt := rfl
@[simp] theorem State.setCal_sup : (s.setCal t x).sup = s.sup := rfl
@[simp] theorem State.setCal_ops : (s.setCal t x).ops = s.ops := rfl
@[simp] theorem State.setCal_opCount : (s.setCal t x).opCount = s.opCount := rfl
@[simp] theorem State.setCal_lfsr : (s.setCal t x).lfsr = s.lfsr := rfl
@[simp] theorem State.setCal_tiles : (s.setCal t x).tiles = s.tiles := rfl
@[simp] theorem State.setCal_pps : (s.setCal t x).pps = s.pps := rfl
@[simp] theorem State.setCal_expTurn : (s.setCal t x).expTurn = s.expTurn := rfl
@[simp] theorem State.setCal_pools : (s.setCal t x).pools = s.pools := rfl
@[simp] theorem State.setCal_mig : (s.setCal t x).mig = s.mig := rfl
@[simp] theorem State.setCal_trained : (s.setCal t x).trained = s.trained := rfl
@[simp] theorem State.setCal_rotAt : (s.setCal t x).rotAt = s.rotAt := rfl
@[simp] theorem State.setCal_scrubQ : (s.setCal t x).scrubQ = s.scrubQ := rfl
@[simp] theorem State.setCal_pendAdv : (s.setCal t x).pendAdv = s.pendAdv := rfl
@[simp] theorem State.setCal_resid : (s.setCal t x).resid = s.resid := rfl
@[simp] theorem State.setCal_ports : (s.setCal t x).ports = s.ports := rfl
@[simp] theorem State.setCal_wrFail : (s.setCal t x).wrFail = s.wrFail := rfl
@[simp] theorem State.setCal_keys : (s.setCal t x).keys = s.keys := rfl
@[simp] theorem State.setCal_pcie : (s.setCal t x).pcie = s.pcie := rfl
@[simp] theorem State.setCal_evrings : (s.setCal t x).evrings = s.evrings := rfl
@[simp] theorem State.setCal_recs : (s.setCal t x).recs = s.recs := rfl
@[simp] theorem State.setCal_health : (s.setCal t x).health = s.health := rfl
@[simp] theorem State.setCal_badLines : (s.setCal t x).badLines = s.badLines := rfl
@[simp] theorem State.setCal_spares : (s.setCal t x).spares = s.spares := rfl
@[simp] theorem State.setCal_groupsOut : (s.setCal t x).groupsOut = s.groupsOut := rfl
@[simp] theorem State.setCal_trust : (s.setCal t x).trust = s.trust := rfl
@[simp] theorem State.setCal_tear : (s.setCal t x).tear = s.tear := rfl
@[simp] theorem State.setCal_pmu : (s.setCal t x).pmu = s.pmu := rfl
@[simp] theorem State.setCal_pins : (s.setCal t x).pins = s.pins := rfl

end

/-! ## State.setDie changes dies alone -/

section

variable (s : State) (e : Nat) (x : Die)

@[simp] theorem State.setDie_pending : (s.setDie e x).pending = s.pending := rfl
@[simp] theorem State.setDie_freeCtr : (s.setDie e x).freeCtr = s.freeCtr := rfl
@[simp] theorem State.setDie_time : (s.setDie e x).time = s.time := rfl
@[simp] theorem State.setDie_regs : (s.setDie e x).regs = s.regs := rfl
@[simp] theorem State.setDie_latch : (s.setDie e x).latch = s.latch := rfl
@[simp] theorem State.setDie_lastRd : (s.setDie e x).lastRd = s.lastRd := rfl
@[simp] theorem State.setDie_snap : (s.setDie e x).snap = s.snap := rfl
@[simp] theorem State.setDie_held : (s.setDie e x).held = s.held := rfl
@[simp] theorem State.setDie_mem : (s.setDie e x).mem = s.mem := rfl
@[simp] theorem State.setDie_lines : (s.setDie e x).lines = s.lines := rfl
@[simp] theorem State.setDie_host : (s.setDie e x).host = s.host := rfl
@[simp] theorem State.setDie_flash : (s.setDie e x).flash = s.flash := rfl
@[simp] theorem State.setDie_axes : (s.setDie e x).axes = s.axes := rfl
@[simp] theorem State.setDie_outs : (s.setDie e x).outs = s.outs := rfl
@[simp] theorem State.setDie_noLimit : (s.setDie e x).noLimit = s.noLimit := rfl
@[simp] theorem State.setDie_bcastSeq : (s.setDie e x).bcastSeq = s.bcastSeq := rfl
@[simp] theorem State.setDie_bcastAt : (s.setDie e x).bcastAt = s.bcastAt := rfl
@[simp] theorem State.setDie_posSeqs : (s.setDie e x).posSeqs = s.posSeqs := rfl
@[simp] theorem State.setDie_velN : (s.setDie e x).velN = s.velN := rfl
@[simp] theorem State.setDie_cams : (s.setDie e x).cams = s.cams := rfl
@[simp] theorem State.setDie_rings : (s.setDie e x).rings = s.rings := rfl
@[simp] theorem State.setDie_cals : (s.setDie e x).cals = s.cals := rfl
@[simp] theorem State.setDie_jes : (s.setDie e x).jes = s.jes := rfl
@[simp] theorem State.setDie_conLim : (s.setDie e x).conLim = s.conLim := rfl
@[simp] theorem State.setDie_hist : (s.setDie e x).hist = s.hist := rfl
@[simp] theorem State.setDie_queued : (s.setDie e x).queued = s.queued := rfl
@[simp] theorem State.setDie_jseqs : (s.setDie e x).jseqs = s.jseqs := rfl
@[simp] theorem State.setDie_born : (s.setDie e x).born = s.born := rfl
@[simp] theorem State.setDie_vrings : (s.setDie e x).vrings = s.vrings := rfl
@[simp] theorem State.setDie_ctxs : (s.setDie e x).ctxs = s.ctxs := rfl
@[simp] theorem State.setDie_clus : (s.setDie e x).clus = s.clus := rfl
@[simp] theorem State.setDie_sems : (s.setDie e x).sems = s.sems := rfl
@[simp] theorem State.setDie_threads : (s.setDie e x).threads = s.threads := rfl
@[simp] theorem State.setDie_retired : (s.setDie e x).retired = s.retired := rfl
@[simp] theorem State.setDie_pevt : (s.setDie e x).pevt = s.pevt := rfl
@[simp] theorem State.setDie_sup : (s.setDie e x).sup = s.sup := rfl
@[simp] theorem State.setDie_ops : (s.setDie e x).ops = s.ops := rfl
@[simp] theorem State.setDie_opCount : (s.setDie e x).opCount = s.opCount := rfl
@[simp] theorem State.setDie_lfsr : (s.setDie e x).lfsr = s.lfsr := rfl
@[simp] theorem State.setDie_tiles : (s.setDie e x).tiles = s.tiles := rfl
@[simp] theorem State.setDie_pps : (s.setDie e x).pps = s.pps := rfl
@[simp] theorem State.setDie_expTurn : (s.setDie e x).expTurn = s.expTurn := rfl
@[simp] theorem State.setDie_pools : (s.setDie e x).pools = s.pools := rfl
@[simp] theorem State.setDie_mig : (s.setDie e x).mig = s.mig := rfl
@[simp] theorem State.setDie_trained : (s.setDie e x).trained = s.trained := rfl
@[simp] theorem State.setDie_rotAt : (s.setDie e x).rotAt = s.rotAt := rfl
@[simp] theorem State.setDie_scrubQ : (s.setDie e x).scrubQ = s.scrubQ := rfl
@[simp] theorem State.setDie_pendAdv : (s.setDie e x).pendAdv = s.pendAdv := rfl
@[simp] theorem State.setDie_resid : (s.setDie e x).resid = s.resid := rfl
@[simp] theorem State.setDie_ports : (s.setDie e x).ports = s.ports := rfl
@[simp] theorem State.setDie_wrFail : (s.setDie e x).wrFail = s.wrFail := rfl
@[simp] theorem State.setDie_keys : (s.setDie e x).keys = s.keys := rfl
@[simp] theorem State.setDie_pcie : (s.setDie e x).pcie = s.pcie := rfl
@[simp] theorem State.setDie_evrings : (s.setDie e x).evrings = s.evrings := rfl
@[simp] theorem State.setDie_recs : (s.setDie e x).recs = s.recs := rfl
@[simp] theorem State.setDie_health : (s.setDie e x).health = s.health := rfl
@[simp] theorem State.setDie_badLines : (s.setDie e x).badLines = s.badLines := rfl
@[simp] theorem State.setDie_spares : (s.setDie e x).spares = s.spares := rfl
@[simp] theorem State.setDie_groupsOut : (s.setDie e x).groupsOut = s.groupsOut := rfl
@[simp] theorem State.setDie_trust : (s.setDie e x).trust = s.trust := rfl
@[simp] theorem State.setDie_tear : (s.setDie e x).tear = s.tear := rfl
@[simp] theorem State.setDie_pmu : (s.setDie e x).pmu = s.pmu := rfl
@[simp] theorem State.setDie_pins : (s.setDie e x).pins = s.pins := rfl

end

/-! ## State.setVring changes vrings alone -/

section

variable (s : State) (v : Nat) (x : VRing)

@[simp] theorem State.setVring_pending : (s.setVring v x).pending = s.pending := rfl
@[simp] theorem State.setVring_freeCtr : (s.setVring v x).freeCtr = s.freeCtr := rfl
@[simp] theorem State.setVring_time : (s.setVring v x).time = s.time := rfl
@[simp] theorem State.setVring_regs : (s.setVring v x).regs = s.regs := rfl
@[simp] theorem State.setVring_latch : (s.setVring v x).latch = s.latch := rfl
@[simp] theorem State.setVring_lastRd : (s.setVring v x).lastRd = s.lastRd := rfl
@[simp] theorem State.setVring_snap : (s.setVring v x).snap = s.snap := rfl
@[simp] theorem State.setVring_held : (s.setVring v x).held = s.held := rfl
@[simp] theorem State.setVring_mem : (s.setVring v x).mem = s.mem := rfl
@[simp] theorem State.setVring_lines : (s.setVring v x).lines = s.lines := rfl
@[simp] theorem State.setVring_host : (s.setVring v x).host = s.host := rfl
@[simp] theorem State.setVring_flash : (s.setVring v x).flash = s.flash := rfl
@[simp] theorem State.setVring_axes : (s.setVring v x).axes = s.axes := rfl
@[simp] theorem State.setVring_outs : (s.setVring v x).outs = s.outs := rfl
@[simp] theorem State.setVring_noLimit : (s.setVring v x).noLimit = s.noLimit := rfl
@[simp] theorem State.setVring_bcastSeq : (s.setVring v x).bcastSeq = s.bcastSeq := rfl
@[simp] theorem State.setVring_bcastAt : (s.setVring v x).bcastAt = s.bcastAt := rfl
@[simp] theorem State.setVring_posSeqs : (s.setVring v x).posSeqs = s.posSeqs := rfl
@[simp] theorem State.setVring_velN : (s.setVring v x).velN = s.velN := rfl
@[simp] theorem State.setVring_cams : (s.setVring v x).cams = s.cams := rfl
@[simp] theorem State.setVring_rings : (s.setVring v x).rings = s.rings := rfl
@[simp] theorem State.setVring_cals : (s.setVring v x).cals = s.cals := rfl
@[simp] theorem State.setVring_jes : (s.setVring v x).jes = s.jes := rfl
@[simp] theorem State.setVring_conLim : (s.setVring v x).conLim = s.conLim := rfl
@[simp] theorem State.setVring_hist : (s.setVring v x).hist = s.hist := rfl
@[simp] theorem State.setVring_queued : (s.setVring v x).queued = s.queued := rfl
@[simp] theorem State.setVring_jseqs : (s.setVring v x).jseqs = s.jseqs := rfl
@[simp] theorem State.setVring_born : (s.setVring v x).born = s.born := rfl
@[simp] theorem State.setVring_dies : (s.setVring v x).dies = s.dies := rfl
@[simp] theorem State.setVring_ctxs : (s.setVring v x).ctxs = s.ctxs := rfl
@[simp] theorem State.setVring_clus : (s.setVring v x).clus = s.clus := rfl
@[simp] theorem State.setVring_sems : (s.setVring v x).sems = s.sems := rfl
@[simp] theorem State.setVring_threads : (s.setVring v x).threads = s.threads := rfl
@[simp] theorem State.setVring_retired : (s.setVring v x).retired = s.retired := rfl
@[simp] theorem State.setVring_pevt : (s.setVring v x).pevt = s.pevt := rfl
@[simp] theorem State.setVring_sup : (s.setVring v x).sup = s.sup := rfl
@[simp] theorem State.setVring_ops : (s.setVring v x).ops = s.ops := rfl
@[simp] theorem State.setVring_opCount : (s.setVring v x).opCount = s.opCount := rfl
@[simp] theorem State.setVring_lfsr : (s.setVring v x).lfsr = s.lfsr := rfl
@[simp] theorem State.setVring_tiles : (s.setVring v x).tiles = s.tiles := rfl
@[simp] theorem State.setVring_pps : (s.setVring v x).pps = s.pps := rfl
@[simp] theorem State.setVring_expTurn : (s.setVring v x).expTurn = s.expTurn := rfl
@[simp] theorem State.setVring_pools : (s.setVring v x).pools = s.pools := rfl
@[simp] theorem State.setVring_mig : (s.setVring v x).mig = s.mig := rfl
@[simp] theorem State.setVring_trained : (s.setVring v x).trained = s.trained := rfl
@[simp] theorem State.setVring_rotAt : (s.setVring v x).rotAt = s.rotAt := rfl
@[simp] theorem State.setVring_scrubQ : (s.setVring v x).scrubQ = s.scrubQ := rfl
@[simp] theorem State.setVring_pendAdv : (s.setVring v x).pendAdv = s.pendAdv := rfl
@[simp] theorem State.setVring_resid : (s.setVring v x).resid = s.resid := rfl
@[simp] theorem State.setVring_ports : (s.setVring v x).ports = s.ports := rfl
@[simp] theorem State.setVring_wrFail : (s.setVring v x).wrFail = s.wrFail := rfl
@[simp] theorem State.setVring_keys : (s.setVring v x).keys = s.keys := rfl
@[simp] theorem State.setVring_pcie : (s.setVring v x).pcie = s.pcie := rfl
@[simp] theorem State.setVring_evrings : (s.setVring v x).evrings = s.evrings := rfl
@[simp] theorem State.setVring_recs : (s.setVring v x).recs = s.recs := rfl
@[simp] theorem State.setVring_health : (s.setVring v x).health = s.health := rfl
@[simp] theorem State.setVring_badLines : (s.setVring v x).badLines = s.badLines := rfl
@[simp] theorem State.setVring_spares : (s.setVring v x).spares = s.spares := rfl
@[simp] theorem State.setVring_groupsOut : (s.setVring v x).groupsOut = s.groupsOut := rfl
@[simp] theorem State.setVring_trust : (s.setVring v x).trust = s.trust := rfl
@[simp] theorem State.setVring_tear : (s.setVring v x).tear = s.tear := rfl
@[simp] theorem State.setVring_pmu : (s.setVring v x).pmu = s.pmu := rfl
@[simp] theorem State.setVring_pins : (s.setVring v x).pins = s.pins := rfl

end

/-! ## State.setCtx changes ctxs alone -/

section

variable (s : State) (c x : Nat) (v : Ctx)

@[simp] theorem State.setCtx_pending : (s.setCtx c x v).pending = s.pending := rfl
@[simp] theorem State.setCtx_freeCtr : (s.setCtx c x v).freeCtr = s.freeCtr := rfl
@[simp] theorem State.setCtx_time : (s.setCtx c x v).time = s.time := rfl
@[simp] theorem State.setCtx_regs : (s.setCtx c x v).regs = s.regs := rfl
@[simp] theorem State.setCtx_latch : (s.setCtx c x v).latch = s.latch := rfl
@[simp] theorem State.setCtx_lastRd : (s.setCtx c x v).lastRd = s.lastRd := rfl
@[simp] theorem State.setCtx_snap : (s.setCtx c x v).snap = s.snap := rfl
@[simp] theorem State.setCtx_held : (s.setCtx c x v).held = s.held := rfl
@[simp] theorem State.setCtx_mem : (s.setCtx c x v).mem = s.mem := rfl
@[simp] theorem State.setCtx_lines : (s.setCtx c x v).lines = s.lines := rfl
@[simp] theorem State.setCtx_host : (s.setCtx c x v).host = s.host := rfl
@[simp] theorem State.setCtx_flash : (s.setCtx c x v).flash = s.flash := rfl
@[simp] theorem State.setCtx_axes : (s.setCtx c x v).axes = s.axes := rfl
@[simp] theorem State.setCtx_outs : (s.setCtx c x v).outs = s.outs := rfl
@[simp] theorem State.setCtx_noLimit : (s.setCtx c x v).noLimit = s.noLimit := rfl
@[simp] theorem State.setCtx_bcastSeq : (s.setCtx c x v).bcastSeq = s.bcastSeq := rfl
@[simp] theorem State.setCtx_bcastAt : (s.setCtx c x v).bcastAt = s.bcastAt := rfl
@[simp] theorem State.setCtx_posSeqs : (s.setCtx c x v).posSeqs = s.posSeqs := rfl
@[simp] theorem State.setCtx_velN : (s.setCtx c x v).velN = s.velN := rfl
@[simp] theorem State.setCtx_cams : (s.setCtx c x v).cams = s.cams := rfl
@[simp] theorem State.setCtx_rings : (s.setCtx c x v).rings = s.rings := rfl
@[simp] theorem State.setCtx_cals : (s.setCtx c x v).cals = s.cals := rfl
@[simp] theorem State.setCtx_jes : (s.setCtx c x v).jes = s.jes := rfl
@[simp] theorem State.setCtx_conLim : (s.setCtx c x v).conLim = s.conLim := rfl
@[simp] theorem State.setCtx_hist : (s.setCtx c x v).hist = s.hist := rfl
@[simp] theorem State.setCtx_queued : (s.setCtx c x v).queued = s.queued := rfl
@[simp] theorem State.setCtx_jseqs : (s.setCtx c x v).jseqs = s.jseqs := rfl
@[simp] theorem State.setCtx_born : (s.setCtx c x v).born = s.born := rfl
@[simp] theorem State.setCtx_dies : (s.setCtx c x v).dies = s.dies := rfl
@[simp] theorem State.setCtx_vrings : (s.setCtx c x v).vrings = s.vrings := rfl
@[simp] theorem State.setCtx_clus : (s.setCtx c x v).clus = s.clus := rfl
@[simp] theorem State.setCtx_sems : (s.setCtx c x v).sems = s.sems := rfl
@[simp] theorem State.setCtx_threads : (s.setCtx c x v).threads = s.threads := rfl
@[simp] theorem State.setCtx_retired : (s.setCtx c x v).retired = s.retired := rfl
@[simp] theorem State.setCtx_pevt : (s.setCtx c x v).pevt = s.pevt := rfl
@[simp] theorem State.setCtx_sup : (s.setCtx c x v).sup = s.sup := rfl
@[simp] theorem State.setCtx_ops : (s.setCtx c x v).ops = s.ops := rfl
@[simp] theorem State.setCtx_opCount : (s.setCtx c x v).opCount = s.opCount := rfl
@[simp] theorem State.setCtx_lfsr : (s.setCtx c x v).lfsr = s.lfsr := rfl
@[simp] theorem State.setCtx_tiles : (s.setCtx c x v).tiles = s.tiles := rfl
@[simp] theorem State.setCtx_pps : (s.setCtx c x v).pps = s.pps := rfl
@[simp] theorem State.setCtx_expTurn : (s.setCtx c x v).expTurn = s.expTurn := rfl
@[simp] theorem State.setCtx_pools : (s.setCtx c x v).pools = s.pools := rfl
@[simp] theorem State.setCtx_mig : (s.setCtx c x v).mig = s.mig := rfl
@[simp] theorem State.setCtx_trained : (s.setCtx c x v).trained = s.trained := rfl
@[simp] theorem State.setCtx_rotAt : (s.setCtx c x v).rotAt = s.rotAt := rfl
@[simp] theorem State.setCtx_scrubQ : (s.setCtx c x v).scrubQ = s.scrubQ := rfl
@[simp] theorem State.setCtx_pendAdv : (s.setCtx c x v).pendAdv = s.pendAdv := rfl
@[simp] theorem State.setCtx_resid : (s.setCtx c x v).resid = s.resid := rfl
@[simp] theorem State.setCtx_ports : (s.setCtx c x v).ports = s.ports := rfl
@[simp] theorem State.setCtx_wrFail : (s.setCtx c x v).wrFail = s.wrFail := rfl
@[simp] theorem State.setCtx_keys : (s.setCtx c x v).keys = s.keys := rfl
@[simp] theorem State.setCtx_pcie : (s.setCtx c x v).pcie = s.pcie := rfl
@[simp] theorem State.setCtx_evrings : (s.setCtx c x v).evrings = s.evrings := rfl
@[simp] theorem State.setCtx_recs : (s.setCtx c x v).recs = s.recs := rfl
@[simp] theorem State.setCtx_health : (s.setCtx c x v).health = s.health := rfl
@[simp] theorem State.setCtx_badLines : (s.setCtx c x v).badLines = s.badLines := rfl
@[simp] theorem State.setCtx_spares : (s.setCtx c x v).spares = s.spares := rfl
@[simp] theorem State.setCtx_groupsOut : (s.setCtx c x v).groupsOut = s.groupsOut := rfl
@[simp] theorem State.setCtx_trust : (s.setCtx c x v).trust = s.trust := rfl
@[simp] theorem State.setCtx_tear : (s.setCtx c x v).tear = s.tear := rfl
@[simp] theorem State.setCtx_pmu : (s.setCtx c x v).pmu = s.pmu := rfl
@[simp] theorem State.setCtx_pins : (s.setCtx c x v).pins = s.pins := rfl

end

/-! ## State.setClu changes clus alone -/

section

variable (s : State) (c : Nat) (x : Clu)

@[simp] theorem State.setClu_pending : (s.setClu c x).pending = s.pending := rfl
@[simp] theorem State.setClu_freeCtr : (s.setClu c x).freeCtr = s.freeCtr := rfl
@[simp] theorem State.setClu_time : (s.setClu c x).time = s.time := rfl
@[simp] theorem State.setClu_regs : (s.setClu c x).regs = s.regs := rfl
@[simp] theorem State.setClu_latch : (s.setClu c x).latch = s.latch := rfl
@[simp] theorem State.setClu_lastRd : (s.setClu c x).lastRd = s.lastRd := rfl
@[simp] theorem State.setClu_snap : (s.setClu c x).snap = s.snap := rfl
@[simp] theorem State.setClu_held : (s.setClu c x).held = s.held := rfl
@[simp] theorem State.setClu_mem : (s.setClu c x).mem = s.mem := rfl
@[simp] theorem State.setClu_lines : (s.setClu c x).lines = s.lines := rfl
@[simp] theorem State.setClu_host : (s.setClu c x).host = s.host := rfl
@[simp] theorem State.setClu_flash : (s.setClu c x).flash = s.flash := rfl
@[simp] theorem State.setClu_axes : (s.setClu c x).axes = s.axes := rfl
@[simp] theorem State.setClu_outs : (s.setClu c x).outs = s.outs := rfl
@[simp] theorem State.setClu_noLimit : (s.setClu c x).noLimit = s.noLimit := rfl
@[simp] theorem State.setClu_bcastSeq : (s.setClu c x).bcastSeq = s.bcastSeq := rfl
@[simp] theorem State.setClu_bcastAt : (s.setClu c x).bcastAt = s.bcastAt := rfl
@[simp] theorem State.setClu_posSeqs : (s.setClu c x).posSeqs = s.posSeqs := rfl
@[simp] theorem State.setClu_velN : (s.setClu c x).velN = s.velN := rfl
@[simp] theorem State.setClu_cams : (s.setClu c x).cams = s.cams := rfl
@[simp] theorem State.setClu_rings : (s.setClu c x).rings = s.rings := rfl
@[simp] theorem State.setClu_cals : (s.setClu c x).cals = s.cals := rfl
@[simp] theorem State.setClu_jes : (s.setClu c x).jes = s.jes := rfl
@[simp] theorem State.setClu_conLim : (s.setClu c x).conLim = s.conLim := rfl
@[simp] theorem State.setClu_hist : (s.setClu c x).hist = s.hist := rfl
@[simp] theorem State.setClu_queued : (s.setClu c x).queued = s.queued := rfl
@[simp] theorem State.setClu_jseqs : (s.setClu c x).jseqs = s.jseqs := rfl
@[simp] theorem State.setClu_born : (s.setClu c x).born = s.born := rfl
@[simp] theorem State.setClu_dies : (s.setClu c x).dies = s.dies := rfl
@[simp] theorem State.setClu_vrings : (s.setClu c x).vrings = s.vrings := rfl
@[simp] theorem State.setClu_ctxs : (s.setClu c x).ctxs = s.ctxs := rfl
@[simp] theorem State.setClu_sems : (s.setClu c x).sems = s.sems := rfl
@[simp] theorem State.setClu_threads : (s.setClu c x).threads = s.threads := rfl
@[simp] theorem State.setClu_retired : (s.setClu c x).retired = s.retired := rfl
@[simp] theorem State.setClu_pevt : (s.setClu c x).pevt = s.pevt := rfl
@[simp] theorem State.setClu_sup : (s.setClu c x).sup = s.sup := rfl
@[simp] theorem State.setClu_ops : (s.setClu c x).ops = s.ops := rfl
@[simp] theorem State.setClu_opCount : (s.setClu c x).opCount = s.opCount := rfl
@[simp] theorem State.setClu_lfsr : (s.setClu c x).lfsr = s.lfsr := rfl
@[simp] theorem State.setClu_tiles : (s.setClu c x).tiles = s.tiles := rfl
@[simp] theorem State.setClu_pps : (s.setClu c x).pps = s.pps := rfl
@[simp] theorem State.setClu_expTurn : (s.setClu c x).expTurn = s.expTurn := rfl
@[simp] theorem State.setClu_pools : (s.setClu c x).pools = s.pools := rfl
@[simp] theorem State.setClu_mig : (s.setClu c x).mig = s.mig := rfl
@[simp] theorem State.setClu_trained : (s.setClu c x).trained = s.trained := rfl
@[simp] theorem State.setClu_rotAt : (s.setClu c x).rotAt = s.rotAt := rfl
@[simp] theorem State.setClu_scrubQ : (s.setClu c x).scrubQ = s.scrubQ := rfl
@[simp] theorem State.setClu_pendAdv : (s.setClu c x).pendAdv = s.pendAdv := rfl
@[simp] theorem State.setClu_resid : (s.setClu c x).resid = s.resid := rfl
@[simp] theorem State.setClu_ports : (s.setClu c x).ports = s.ports := rfl
@[simp] theorem State.setClu_wrFail : (s.setClu c x).wrFail = s.wrFail := rfl
@[simp] theorem State.setClu_keys : (s.setClu c x).keys = s.keys := rfl
@[simp] theorem State.setClu_pcie : (s.setClu c x).pcie = s.pcie := rfl
@[simp] theorem State.setClu_evrings : (s.setClu c x).evrings = s.evrings := rfl
@[simp] theorem State.setClu_recs : (s.setClu c x).recs = s.recs := rfl
@[simp] theorem State.setClu_health : (s.setClu c x).health = s.health := rfl
@[simp] theorem State.setClu_badLines : (s.setClu c x).badLines = s.badLines := rfl
@[simp] theorem State.setClu_spares : (s.setClu c x).spares = s.spares := rfl
@[simp] theorem State.setClu_groupsOut : (s.setClu c x).groupsOut = s.groupsOut := rfl
@[simp] theorem State.setClu_trust : (s.setClu c x).trust = s.trust := rfl
@[simp] theorem State.setClu_tear : (s.setClu c x).tear = s.tear := rfl
@[simp] theorem State.setClu_pmu : (s.setClu c x).pmu = s.pmu := rfl
@[simp] theorem State.setClu_pins : (s.setClu c x).pins = s.pins := rfl

end

/-! ## State.setSem changes sems alone -/

section

variable (s : State) (k : Nat) (x : Sem)

@[simp] theorem State.setSem_pending : (s.setSem k x).pending = s.pending := rfl
@[simp] theorem State.setSem_freeCtr : (s.setSem k x).freeCtr = s.freeCtr := rfl
@[simp] theorem State.setSem_time : (s.setSem k x).time = s.time := rfl
@[simp] theorem State.setSem_regs : (s.setSem k x).regs = s.regs := rfl
@[simp] theorem State.setSem_latch : (s.setSem k x).latch = s.latch := rfl
@[simp] theorem State.setSem_lastRd : (s.setSem k x).lastRd = s.lastRd := rfl
@[simp] theorem State.setSem_snap : (s.setSem k x).snap = s.snap := rfl
@[simp] theorem State.setSem_held : (s.setSem k x).held = s.held := rfl
@[simp] theorem State.setSem_mem : (s.setSem k x).mem = s.mem := rfl
@[simp] theorem State.setSem_lines : (s.setSem k x).lines = s.lines := rfl
@[simp] theorem State.setSem_host : (s.setSem k x).host = s.host := rfl
@[simp] theorem State.setSem_flash : (s.setSem k x).flash = s.flash := rfl
@[simp] theorem State.setSem_axes : (s.setSem k x).axes = s.axes := rfl
@[simp] theorem State.setSem_outs : (s.setSem k x).outs = s.outs := rfl
@[simp] theorem State.setSem_noLimit : (s.setSem k x).noLimit = s.noLimit := rfl
@[simp] theorem State.setSem_bcastSeq : (s.setSem k x).bcastSeq = s.bcastSeq := rfl
@[simp] theorem State.setSem_bcastAt : (s.setSem k x).bcastAt = s.bcastAt := rfl
@[simp] theorem State.setSem_posSeqs : (s.setSem k x).posSeqs = s.posSeqs := rfl
@[simp] theorem State.setSem_velN : (s.setSem k x).velN = s.velN := rfl
@[simp] theorem State.setSem_cams : (s.setSem k x).cams = s.cams := rfl
@[simp] theorem State.setSem_rings : (s.setSem k x).rings = s.rings := rfl
@[simp] theorem State.setSem_cals : (s.setSem k x).cals = s.cals := rfl
@[simp] theorem State.setSem_jes : (s.setSem k x).jes = s.jes := rfl
@[simp] theorem State.setSem_conLim : (s.setSem k x).conLim = s.conLim := rfl
@[simp] theorem State.setSem_hist : (s.setSem k x).hist = s.hist := rfl
@[simp] theorem State.setSem_queued : (s.setSem k x).queued = s.queued := rfl
@[simp] theorem State.setSem_jseqs : (s.setSem k x).jseqs = s.jseqs := rfl
@[simp] theorem State.setSem_born : (s.setSem k x).born = s.born := rfl
@[simp] theorem State.setSem_dies : (s.setSem k x).dies = s.dies := rfl
@[simp] theorem State.setSem_vrings : (s.setSem k x).vrings = s.vrings := rfl
@[simp] theorem State.setSem_ctxs : (s.setSem k x).ctxs = s.ctxs := rfl
@[simp] theorem State.setSem_clus : (s.setSem k x).clus = s.clus := rfl
@[simp] theorem State.setSem_threads : (s.setSem k x).threads = s.threads := rfl
@[simp] theorem State.setSem_retired : (s.setSem k x).retired = s.retired := rfl
@[simp] theorem State.setSem_pevt : (s.setSem k x).pevt = s.pevt := rfl
@[simp] theorem State.setSem_sup : (s.setSem k x).sup = s.sup := rfl
@[simp] theorem State.setSem_ops : (s.setSem k x).ops = s.ops := rfl
@[simp] theorem State.setSem_opCount : (s.setSem k x).opCount = s.opCount := rfl
@[simp] theorem State.setSem_lfsr : (s.setSem k x).lfsr = s.lfsr := rfl
@[simp] theorem State.setSem_tiles : (s.setSem k x).tiles = s.tiles := rfl
@[simp] theorem State.setSem_pps : (s.setSem k x).pps = s.pps := rfl
@[simp] theorem State.setSem_expTurn : (s.setSem k x).expTurn = s.expTurn := rfl
@[simp] theorem State.setSem_pools : (s.setSem k x).pools = s.pools := rfl
@[simp] theorem State.setSem_mig : (s.setSem k x).mig = s.mig := rfl
@[simp] theorem State.setSem_trained : (s.setSem k x).trained = s.trained := rfl
@[simp] theorem State.setSem_rotAt : (s.setSem k x).rotAt = s.rotAt := rfl
@[simp] theorem State.setSem_scrubQ : (s.setSem k x).scrubQ = s.scrubQ := rfl
@[simp] theorem State.setSem_pendAdv : (s.setSem k x).pendAdv = s.pendAdv := rfl
@[simp] theorem State.setSem_resid : (s.setSem k x).resid = s.resid := rfl
@[simp] theorem State.setSem_ports : (s.setSem k x).ports = s.ports := rfl
@[simp] theorem State.setSem_wrFail : (s.setSem k x).wrFail = s.wrFail := rfl
@[simp] theorem State.setSem_keys : (s.setSem k x).keys = s.keys := rfl
@[simp] theorem State.setSem_pcie : (s.setSem k x).pcie = s.pcie := rfl
@[simp] theorem State.setSem_evrings : (s.setSem k x).evrings = s.evrings := rfl
@[simp] theorem State.setSem_recs : (s.setSem k x).recs = s.recs := rfl
@[simp] theorem State.setSem_health : (s.setSem k x).health = s.health := rfl
@[simp] theorem State.setSem_badLines : (s.setSem k x).badLines = s.badLines := rfl
@[simp] theorem State.setSem_spares : (s.setSem k x).spares = s.spares := rfl
@[simp] theorem State.setSem_groupsOut : (s.setSem k x).groupsOut = s.groupsOut := rfl
@[simp] theorem State.setSem_trust : (s.setSem k x).trust = s.trust := rfl
@[simp] theorem State.setSem_tear : (s.setSem k x).tear = s.tear := rfl
@[simp] theorem State.setSem_pmu : (s.setSem k x).pmu = s.pmu := rfl
@[simp] theorem State.setSem_pins : (s.setSem k x).pins = s.pins := rfl

end

/-! ## State.setThread changes threads alone -/

section

variable (s : State) (t : Nat) (x : Thread)

@[simp] theorem State.setThread_pending : (s.setThread t x).pending = s.pending := rfl
@[simp] theorem State.setThread_freeCtr : (s.setThread t x).freeCtr = s.freeCtr := rfl
@[simp] theorem State.setThread_time : (s.setThread t x).time = s.time := rfl
@[simp] theorem State.setThread_regs : (s.setThread t x).regs = s.regs := rfl
@[simp] theorem State.setThread_latch : (s.setThread t x).latch = s.latch := rfl
@[simp] theorem State.setThread_lastRd : (s.setThread t x).lastRd = s.lastRd := rfl
@[simp] theorem State.setThread_snap : (s.setThread t x).snap = s.snap := rfl
@[simp] theorem State.setThread_held : (s.setThread t x).held = s.held := rfl
@[simp] theorem State.setThread_mem : (s.setThread t x).mem = s.mem := rfl
@[simp] theorem State.setThread_lines : (s.setThread t x).lines = s.lines := rfl
@[simp] theorem State.setThread_host : (s.setThread t x).host = s.host := rfl
@[simp] theorem State.setThread_flash : (s.setThread t x).flash = s.flash := rfl
@[simp] theorem State.setThread_axes : (s.setThread t x).axes = s.axes := rfl
@[simp] theorem State.setThread_outs : (s.setThread t x).outs = s.outs := rfl
@[simp] theorem State.setThread_noLimit : (s.setThread t x).noLimit = s.noLimit := rfl
@[simp] theorem State.setThread_bcastSeq : (s.setThread t x).bcastSeq = s.bcastSeq := rfl
@[simp] theorem State.setThread_bcastAt : (s.setThread t x).bcastAt = s.bcastAt := rfl
@[simp] theorem State.setThread_posSeqs : (s.setThread t x).posSeqs = s.posSeqs := rfl
@[simp] theorem State.setThread_velN : (s.setThread t x).velN = s.velN := rfl
@[simp] theorem State.setThread_cams : (s.setThread t x).cams = s.cams := rfl
@[simp] theorem State.setThread_rings : (s.setThread t x).rings = s.rings := rfl
@[simp] theorem State.setThread_cals : (s.setThread t x).cals = s.cals := rfl
@[simp] theorem State.setThread_jes : (s.setThread t x).jes = s.jes := rfl
@[simp] theorem State.setThread_conLim : (s.setThread t x).conLim = s.conLim := rfl
@[simp] theorem State.setThread_hist : (s.setThread t x).hist = s.hist := rfl
@[simp] theorem State.setThread_queued : (s.setThread t x).queued = s.queued := rfl
@[simp] theorem State.setThread_jseqs : (s.setThread t x).jseqs = s.jseqs := rfl
@[simp] theorem State.setThread_born : (s.setThread t x).born = s.born := rfl
@[simp] theorem State.setThread_dies : (s.setThread t x).dies = s.dies := rfl
@[simp] theorem State.setThread_vrings : (s.setThread t x).vrings = s.vrings := rfl
@[simp] theorem State.setThread_ctxs : (s.setThread t x).ctxs = s.ctxs := rfl
@[simp] theorem State.setThread_clus : (s.setThread t x).clus = s.clus := rfl
@[simp] theorem State.setThread_sems : (s.setThread t x).sems = s.sems := rfl
@[simp] theorem State.setThread_retired : (s.setThread t x).retired = s.retired := rfl
@[simp] theorem State.setThread_pevt : (s.setThread t x).pevt = s.pevt := rfl
@[simp] theorem State.setThread_sup : (s.setThread t x).sup = s.sup := rfl
@[simp] theorem State.setThread_ops : (s.setThread t x).ops = s.ops := rfl
@[simp] theorem State.setThread_opCount : (s.setThread t x).opCount = s.opCount := rfl
@[simp] theorem State.setThread_lfsr : (s.setThread t x).lfsr = s.lfsr := rfl
@[simp] theorem State.setThread_tiles : (s.setThread t x).tiles = s.tiles := rfl
@[simp] theorem State.setThread_pps : (s.setThread t x).pps = s.pps := rfl
@[simp] theorem State.setThread_expTurn : (s.setThread t x).expTurn = s.expTurn := rfl
@[simp] theorem State.setThread_pools : (s.setThread t x).pools = s.pools := rfl
@[simp] theorem State.setThread_mig : (s.setThread t x).mig = s.mig := rfl
@[simp] theorem State.setThread_trained : (s.setThread t x).trained = s.trained := rfl
@[simp] theorem State.setThread_rotAt : (s.setThread t x).rotAt = s.rotAt := rfl
@[simp] theorem State.setThread_scrubQ : (s.setThread t x).scrubQ = s.scrubQ := rfl
@[simp] theorem State.setThread_pendAdv : (s.setThread t x).pendAdv = s.pendAdv := rfl
@[simp] theorem State.setThread_resid : (s.setThread t x).resid = s.resid := rfl
@[simp] theorem State.setThread_ports : (s.setThread t x).ports = s.ports := rfl
@[simp] theorem State.setThread_wrFail : (s.setThread t x).wrFail = s.wrFail := rfl
@[simp] theorem State.setThread_keys : (s.setThread t x).keys = s.keys := rfl
@[simp] theorem State.setThread_pcie : (s.setThread t x).pcie = s.pcie := rfl
@[simp] theorem State.setThread_evrings : (s.setThread t x).evrings = s.evrings := rfl
@[simp] theorem State.setThread_recs : (s.setThread t x).recs = s.recs := rfl
@[simp] theorem State.setThread_health : (s.setThread t x).health = s.health := rfl
@[simp] theorem State.setThread_badLines : (s.setThread t x).badLines = s.badLines := rfl
@[simp] theorem State.setThread_spares : (s.setThread t x).spares = s.spares := rfl
@[simp] theorem State.setThread_groupsOut : (s.setThread t x).groupsOut = s.groupsOut := rfl
@[simp] theorem State.setThread_trust : (s.setThread t x).trust = s.trust := rfl
@[simp] theorem State.setThread_tear : (s.setThread t x).tear = s.tear := rfl
@[simp] theorem State.setThread_pmu : (s.setThread t x).pmu = s.pmu := rfl
@[simp] theorem State.setThread_pins : (s.setThread t x).pins = s.pins := rfl

end

/-! ## State.setPend changes pevt alone -/

section

variable (s : State) (c : Nat) (v : W64)

@[simp] theorem State.setPend_pending : (s.setPend c v).pending = s.pending := rfl
@[simp] theorem State.setPend_freeCtr : (s.setPend c v).freeCtr = s.freeCtr := rfl
@[simp] theorem State.setPend_time : (s.setPend c v).time = s.time := rfl
@[simp] theorem State.setPend_regs : (s.setPend c v).regs = s.regs := rfl
@[simp] theorem State.setPend_latch : (s.setPend c v).latch = s.latch := rfl
@[simp] theorem State.setPend_lastRd : (s.setPend c v).lastRd = s.lastRd := rfl
@[simp] theorem State.setPend_snap : (s.setPend c v).snap = s.snap := rfl
@[simp] theorem State.setPend_held : (s.setPend c v).held = s.held := rfl
@[simp] theorem State.setPend_mem : (s.setPend c v).mem = s.mem := rfl
@[simp] theorem State.setPend_lines : (s.setPend c v).lines = s.lines := rfl
@[simp] theorem State.setPend_host : (s.setPend c v).host = s.host := rfl
@[simp] theorem State.setPend_flash : (s.setPend c v).flash = s.flash := rfl
@[simp] theorem State.setPend_axes : (s.setPend c v).axes = s.axes := rfl
@[simp] theorem State.setPend_outs : (s.setPend c v).outs = s.outs := rfl
@[simp] theorem State.setPend_noLimit : (s.setPend c v).noLimit = s.noLimit := rfl
@[simp] theorem State.setPend_bcastSeq : (s.setPend c v).bcastSeq = s.bcastSeq := rfl
@[simp] theorem State.setPend_bcastAt : (s.setPend c v).bcastAt = s.bcastAt := rfl
@[simp] theorem State.setPend_posSeqs : (s.setPend c v).posSeqs = s.posSeqs := rfl
@[simp] theorem State.setPend_velN : (s.setPend c v).velN = s.velN := rfl
@[simp] theorem State.setPend_cams : (s.setPend c v).cams = s.cams := rfl
@[simp] theorem State.setPend_rings : (s.setPend c v).rings = s.rings := rfl
@[simp] theorem State.setPend_cals : (s.setPend c v).cals = s.cals := rfl
@[simp] theorem State.setPend_jes : (s.setPend c v).jes = s.jes := rfl
@[simp] theorem State.setPend_conLim : (s.setPend c v).conLim = s.conLim := rfl
@[simp] theorem State.setPend_hist : (s.setPend c v).hist = s.hist := rfl
@[simp] theorem State.setPend_queued : (s.setPend c v).queued = s.queued := rfl
@[simp] theorem State.setPend_jseqs : (s.setPend c v).jseqs = s.jseqs := rfl
@[simp] theorem State.setPend_born : (s.setPend c v).born = s.born := rfl
@[simp] theorem State.setPend_dies : (s.setPend c v).dies = s.dies := rfl
@[simp] theorem State.setPend_vrings : (s.setPend c v).vrings = s.vrings := rfl
@[simp] theorem State.setPend_ctxs : (s.setPend c v).ctxs = s.ctxs := rfl
@[simp] theorem State.setPend_clus : (s.setPend c v).clus = s.clus := rfl
@[simp] theorem State.setPend_sems : (s.setPend c v).sems = s.sems := rfl
@[simp] theorem State.setPend_threads : (s.setPend c v).threads = s.threads := rfl
@[simp] theorem State.setPend_retired : (s.setPend c v).retired = s.retired := rfl
@[simp] theorem State.setPend_sup : (s.setPend c v).sup = s.sup := rfl
@[simp] theorem State.setPend_ops : (s.setPend c v).ops = s.ops := rfl
@[simp] theorem State.setPend_opCount : (s.setPend c v).opCount = s.opCount := rfl
@[simp] theorem State.setPend_lfsr : (s.setPend c v).lfsr = s.lfsr := rfl
@[simp] theorem State.setPend_tiles : (s.setPend c v).tiles = s.tiles := rfl
@[simp] theorem State.setPend_pps : (s.setPend c v).pps = s.pps := rfl
@[simp] theorem State.setPend_expTurn : (s.setPend c v).expTurn = s.expTurn := rfl
@[simp] theorem State.setPend_pools : (s.setPend c v).pools = s.pools := rfl
@[simp] theorem State.setPend_mig : (s.setPend c v).mig = s.mig := rfl
@[simp] theorem State.setPend_trained : (s.setPend c v).trained = s.trained := rfl
@[simp] theorem State.setPend_rotAt : (s.setPend c v).rotAt = s.rotAt := rfl
@[simp] theorem State.setPend_scrubQ : (s.setPend c v).scrubQ = s.scrubQ := rfl
@[simp] theorem State.setPend_pendAdv : (s.setPend c v).pendAdv = s.pendAdv := rfl
@[simp] theorem State.setPend_resid : (s.setPend c v).resid = s.resid := rfl
@[simp] theorem State.setPend_ports : (s.setPend c v).ports = s.ports := rfl
@[simp] theorem State.setPend_wrFail : (s.setPend c v).wrFail = s.wrFail := rfl
@[simp] theorem State.setPend_keys : (s.setPend c v).keys = s.keys := rfl
@[simp] theorem State.setPend_pcie : (s.setPend c v).pcie = s.pcie := rfl
@[simp] theorem State.setPend_evrings : (s.setPend c v).evrings = s.evrings := rfl
@[simp] theorem State.setPend_recs : (s.setPend c v).recs = s.recs := rfl
@[simp] theorem State.setPend_health : (s.setPend c v).health = s.health := rfl
@[simp] theorem State.setPend_badLines : (s.setPend c v).badLines = s.badLines := rfl
@[simp] theorem State.setPend_spares : (s.setPend c v).spares = s.spares := rfl
@[simp] theorem State.setPend_groupsOut : (s.setPend c v).groupsOut = s.groupsOut := rfl
@[simp] theorem State.setPend_trust : (s.setPend c v).trust = s.trust := rfl
@[simp] theorem State.setPend_tear : (s.setPend c v).tear = s.tear := rfl
@[simp] theorem State.setPend_pmu : (s.setPend c v).pmu = s.pmu := rfl
@[simp] theorem State.setPend_pins : (s.setPend c v).pins = s.pins := rfl

end

/-! ## State.setTile changes tiles alone -/

section

variable (s : State) (k : Nat) (x : TileX)

@[simp] theorem State.setTile_pending : (s.setTile k x).pending = s.pending := rfl
@[simp] theorem State.setTile_freeCtr : (s.setTile k x).freeCtr = s.freeCtr := rfl
@[simp] theorem State.setTile_time : (s.setTile k x).time = s.time := rfl
@[simp] theorem State.setTile_regs : (s.setTile k x).regs = s.regs := rfl
@[simp] theorem State.setTile_latch : (s.setTile k x).latch = s.latch := rfl
@[simp] theorem State.setTile_lastRd : (s.setTile k x).lastRd = s.lastRd := rfl
@[simp] theorem State.setTile_snap : (s.setTile k x).snap = s.snap := rfl
@[simp] theorem State.setTile_held : (s.setTile k x).held = s.held := rfl
@[simp] theorem State.setTile_mem : (s.setTile k x).mem = s.mem := rfl
@[simp] theorem State.setTile_lines : (s.setTile k x).lines = s.lines := rfl
@[simp] theorem State.setTile_host : (s.setTile k x).host = s.host := rfl
@[simp] theorem State.setTile_flash : (s.setTile k x).flash = s.flash := rfl
@[simp] theorem State.setTile_axes : (s.setTile k x).axes = s.axes := rfl
@[simp] theorem State.setTile_outs : (s.setTile k x).outs = s.outs := rfl
@[simp] theorem State.setTile_noLimit : (s.setTile k x).noLimit = s.noLimit := rfl
@[simp] theorem State.setTile_bcastSeq : (s.setTile k x).bcastSeq = s.bcastSeq := rfl
@[simp] theorem State.setTile_bcastAt : (s.setTile k x).bcastAt = s.bcastAt := rfl
@[simp] theorem State.setTile_posSeqs : (s.setTile k x).posSeqs = s.posSeqs := rfl
@[simp] theorem State.setTile_velN : (s.setTile k x).velN = s.velN := rfl
@[simp] theorem State.setTile_cams : (s.setTile k x).cams = s.cams := rfl
@[simp] theorem State.setTile_rings : (s.setTile k x).rings = s.rings := rfl
@[simp] theorem State.setTile_cals : (s.setTile k x).cals = s.cals := rfl
@[simp] theorem State.setTile_jes : (s.setTile k x).jes = s.jes := rfl
@[simp] theorem State.setTile_conLim : (s.setTile k x).conLim = s.conLim := rfl
@[simp] theorem State.setTile_hist : (s.setTile k x).hist = s.hist := rfl
@[simp] theorem State.setTile_queued : (s.setTile k x).queued = s.queued := rfl
@[simp] theorem State.setTile_jseqs : (s.setTile k x).jseqs = s.jseqs := rfl
@[simp] theorem State.setTile_born : (s.setTile k x).born = s.born := rfl
@[simp] theorem State.setTile_dies : (s.setTile k x).dies = s.dies := rfl
@[simp] theorem State.setTile_vrings : (s.setTile k x).vrings = s.vrings := rfl
@[simp] theorem State.setTile_ctxs : (s.setTile k x).ctxs = s.ctxs := rfl
@[simp] theorem State.setTile_clus : (s.setTile k x).clus = s.clus := rfl
@[simp] theorem State.setTile_sems : (s.setTile k x).sems = s.sems := rfl
@[simp] theorem State.setTile_threads : (s.setTile k x).threads = s.threads := rfl
@[simp] theorem State.setTile_retired : (s.setTile k x).retired = s.retired := rfl
@[simp] theorem State.setTile_pevt : (s.setTile k x).pevt = s.pevt := rfl
@[simp] theorem State.setTile_sup : (s.setTile k x).sup = s.sup := rfl
@[simp] theorem State.setTile_ops : (s.setTile k x).ops = s.ops := rfl
@[simp] theorem State.setTile_opCount : (s.setTile k x).opCount = s.opCount := rfl
@[simp] theorem State.setTile_lfsr : (s.setTile k x).lfsr = s.lfsr := rfl
@[simp] theorem State.setTile_pps : (s.setTile k x).pps = s.pps := rfl
@[simp] theorem State.setTile_expTurn : (s.setTile k x).expTurn = s.expTurn := rfl
@[simp] theorem State.setTile_pools : (s.setTile k x).pools = s.pools := rfl
@[simp] theorem State.setTile_mig : (s.setTile k x).mig = s.mig := rfl
@[simp] theorem State.setTile_trained : (s.setTile k x).trained = s.trained := rfl
@[simp] theorem State.setTile_rotAt : (s.setTile k x).rotAt = s.rotAt := rfl
@[simp] theorem State.setTile_scrubQ : (s.setTile k x).scrubQ = s.scrubQ := rfl
@[simp] theorem State.setTile_pendAdv : (s.setTile k x).pendAdv = s.pendAdv := rfl
@[simp] theorem State.setTile_resid : (s.setTile k x).resid = s.resid := rfl
@[simp] theorem State.setTile_ports : (s.setTile k x).ports = s.ports := rfl
@[simp] theorem State.setTile_wrFail : (s.setTile k x).wrFail = s.wrFail := rfl
@[simp] theorem State.setTile_keys : (s.setTile k x).keys = s.keys := rfl
@[simp] theorem State.setTile_pcie : (s.setTile k x).pcie = s.pcie := rfl
@[simp] theorem State.setTile_evrings : (s.setTile k x).evrings = s.evrings := rfl
@[simp] theorem State.setTile_recs : (s.setTile k x).recs = s.recs := rfl
@[simp] theorem State.setTile_health : (s.setTile k x).health = s.health := rfl
@[simp] theorem State.setTile_badLines : (s.setTile k x).badLines = s.badLines := rfl
@[simp] theorem State.setTile_spares : (s.setTile k x).spares = s.spares := rfl
@[simp] theorem State.setTile_groupsOut : (s.setTile k x).groupsOut = s.groupsOut := rfl
@[simp] theorem State.setTile_trust : (s.setTile k x).trust = s.trust := rfl
@[simp] theorem State.setTile_tear : (s.setTile k x).tear = s.tear := rfl
@[simp] theorem State.setTile_pmu : (s.setTile k x).pmu = s.pmu := rfl
@[simp] theorem State.setTile_pins : (s.setTile k x).pins = s.pins := rfl

end

/-! ## State.setPp changes pps alone -/

section

variable (s : State) (n : Nat) (x : PpX)

@[simp] theorem State.setPp_pending : (s.setPp n x).pending = s.pending := rfl
@[simp] theorem State.setPp_freeCtr : (s.setPp n x).freeCtr = s.freeCtr := rfl
@[simp] theorem State.setPp_time : (s.setPp n x).time = s.time := rfl
@[simp] theorem State.setPp_regs : (s.setPp n x).regs = s.regs := rfl
@[simp] theorem State.setPp_latch : (s.setPp n x).latch = s.latch := rfl
@[simp] theorem State.setPp_lastRd : (s.setPp n x).lastRd = s.lastRd := rfl
@[simp] theorem State.setPp_snap : (s.setPp n x).snap = s.snap := rfl
@[simp] theorem State.setPp_held : (s.setPp n x).held = s.held := rfl
@[simp] theorem State.setPp_mem : (s.setPp n x).mem = s.mem := rfl
@[simp] theorem State.setPp_lines : (s.setPp n x).lines = s.lines := rfl
@[simp] theorem State.setPp_host : (s.setPp n x).host = s.host := rfl
@[simp] theorem State.setPp_flash : (s.setPp n x).flash = s.flash := rfl
@[simp] theorem State.setPp_axes : (s.setPp n x).axes = s.axes := rfl
@[simp] theorem State.setPp_outs : (s.setPp n x).outs = s.outs := rfl
@[simp] theorem State.setPp_noLimit : (s.setPp n x).noLimit = s.noLimit := rfl
@[simp] theorem State.setPp_bcastSeq : (s.setPp n x).bcastSeq = s.bcastSeq := rfl
@[simp] theorem State.setPp_bcastAt : (s.setPp n x).bcastAt = s.bcastAt := rfl
@[simp] theorem State.setPp_posSeqs : (s.setPp n x).posSeqs = s.posSeqs := rfl
@[simp] theorem State.setPp_velN : (s.setPp n x).velN = s.velN := rfl
@[simp] theorem State.setPp_cams : (s.setPp n x).cams = s.cams := rfl
@[simp] theorem State.setPp_rings : (s.setPp n x).rings = s.rings := rfl
@[simp] theorem State.setPp_cals : (s.setPp n x).cals = s.cals := rfl
@[simp] theorem State.setPp_jes : (s.setPp n x).jes = s.jes := rfl
@[simp] theorem State.setPp_conLim : (s.setPp n x).conLim = s.conLim := rfl
@[simp] theorem State.setPp_hist : (s.setPp n x).hist = s.hist := rfl
@[simp] theorem State.setPp_queued : (s.setPp n x).queued = s.queued := rfl
@[simp] theorem State.setPp_jseqs : (s.setPp n x).jseqs = s.jseqs := rfl
@[simp] theorem State.setPp_born : (s.setPp n x).born = s.born := rfl
@[simp] theorem State.setPp_dies : (s.setPp n x).dies = s.dies := rfl
@[simp] theorem State.setPp_vrings : (s.setPp n x).vrings = s.vrings := rfl
@[simp] theorem State.setPp_ctxs : (s.setPp n x).ctxs = s.ctxs := rfl
@[simp] theorem State.setPp_clus : (s.setPp n x).clus = s.clus := rfl
@[simp] theorem State.setPp_sems : (s.setPp n x).sems = s.sems := rfl
@[simp] theorem State.setPp_threads : (s.setPp n x).threads = s.threads := rfl
@[simp] theorem State.setPp_retired : (s.setPp n x).retired = s.retired := rfl
@[simp] theorem State.setPp_pevt : (s.setPp n x).pevt = s.pevt := rfl
@[simp] theorem State.setPp_sup : (s.setPp n x).sup = s.sup := rfl
@[simp] theorem State.setPp_ops : (s.setPp n x).ops = s.ops := rfl
@[simp] theorem State.setPp_opCount : (s.setPp n x).opCount = s.opCount := rfl
@[simp] theorem State.setPp_lfsr : (s.setPp n x).lfsr = s.lfsr := rfl
@[simp] theorem State.setPp_tiles : (s.setPp n x).tiles = s.tiles := rfl
@[simp] theorem State.setPp_expTurn : (s.setPp n x).expTurn = s.expTurn := rfl
@[simp] theorem State.setPp_pools : (s.setPp n x).pools = s.pools := rfl
@[simp] theorem State.setPp_mig : (s.setPp n x).mig = s.mig := rfl
@[simp] theorem State.setPp_trained : (s.setPp n x).trained = s.trained := rfl
@[simp] theorem State.setPp_rotAt : (s.setPp n x).rotAt = s.rotAt := rfl
@[simp] theorem State.setPp_scrubQ : (s.setPp n x).scrubQ = s.scrubQ := rfl
@[simp] theorem State.setPp_pendAdv : (s.setPp n x).pendAdv = s.pendAdv := rfl
@[simp] theorem State.setPp_resid : (s.setPp n x).resid = s.resid := rfl
@[simp] theorem State.setPp_ports : (s.setPp n x).ports = s.ports := rfl
@[simp] theorem State.setPp_wrFail : (s.setPp n x).wrFail = s.wrFail := rfl
@[simp] theorem State.setPp_keys : (s.setPp n x).keys = s.keys := rfl
@[simp] theorem State.setPp_pcie : (s.setPp n x).pcie = s.pcie := rfl
@[simp] theorem State.setPp_evrings : (s.setPp n x).evrings = s.evrings := rfl
@[simp] theorem State.setPp_recs : (s.setPp n x).recs = s.recs := rfl
@[simp] theorem State.setPp_health : (s.setPp n x).health = s.health := rfl
@[simp] theorem State.setPp_badLines : (s.setPp n x).badLines = s.badLines := rfl
@[simp] theorem State.setPp_spares : (s.setPp n x).spares = s.spares := rfl
@[simp] theorem State.setPp_groupsOut : (s.setPp n x).groupsOut = s.groupsOut := rfl
@[simp] theorem State.setPp_trust : (s.setPp n x).trust = s.trust := rfl
@[simp] theorem State.setPp_tear : (s.setPp n x).tear = s.tear := rfl
@[simp] theorem State.setPp_pmu : (s.setPp n x).pmu = s.pmu := rfl
@[simp] theorem State.setPp_pins : (s.setPp n x).pins = s.pins := rfl

end

/-! ## State.setPool changes pools alone -/

section

variable (s : State) (k : Nat) (x : List Nat)

@[simp] theorem State.setPool_pending : (s.setPool k x).pending = s.pending := rfl
@[simp] theorem State.setPool_freeCtr : (s.setPool k x).freeCtr = s.freeCtr := rfl
@[simp] theorem State.setPool_time : (s.setPool k x).time = s.time := rfl
@[simp] theorem State.setPool_regs : (s.setPool k x).regs = s.regs := rfl
@[simp] theorem State.setPool_latch : (s.setPool k x).latch = s.latch := rfl
@[simp] theorem State.setPool_lastRd : (s.setPool k x).lastRd = s.lastRd := rfl
@[simp] theorem State.setPool_snap : (s.setPool k x).snap = s.snap := rfl
@[simp] theorem State.setPool_held : (s.setPool k x).held = s.held := rfl
@[simp] theorem State.setPool_mem : (s.setPool k x).mem = s.mem := rfl
@[simp] theorem State.setPool_lines : (s.setPool k x).lines = s.lines := rfl
@[simp] theorem State.setPool_host : (s.setPool k x).host = s.host := rfl
@[simp] theorem State.setPool_flash : (s.setPool k x).flash = s.flash := rfl
@[simp] theorem State.setPool_axes : (s.setPool k x).axes = s.axes := rfl
@[simp] theorem State.setPool_outs : (s.setPool k x).outs = s.outs := rfl
@[simp] theorem State.setPool_noLimit : (s.setPool k x).noLimit = s.noLimit := rfl
@[simp] theorem State.setPool_bcastSeq : (s.setPool k x).bcastSeq = s.bcastSeq := rfl
@[simp] theorem State.setPool_bcastAt : (s.setPool k x).bcastAt = s.bcastAt := rfl
@[simp] theorem State.setPool_posSeqs : (s.setPool k x).posSeqs = s.posSeqs := rfl
@[simp] theorem State.setPool_velN : (s.setPool k x).velN = s.velN := rfl
@[simp] theorem State.setPool_cams : (s.setPool k x).cams = s.cams := rfl
@[simp] theorem State.setPool_rings : (s.setPool k x).rings = s.rings := rfl
@[simp] theorem State.setPool_cals : (s.setPool k x).cals = s.cals := rfl
@[simp] theorem State.setPool_jes : (s.setPool k x).jes = s.jes := rfl
@[simp] theorem State.setPool_conLim : (s.setPool k x).conLim = s.conLim := rfl
@[simp] theorem State.setPool_hist : (s.setPool k x).hist = s.hist := rfl
@[simp] theorem State.setPool_queued : (s.setPool k x).queued = s.queued := rfl
@[simp] theorem State.setPool_jseqs : (s.setPool k x).jseqs = s.jseqs := rfl
@[simp] theorem State.setPool_born : (s.setPool k x).born = s.born := rfl
@[simp] theorem State.setPool_dies : (s.setPool k x).dies = s.dies := rfl
@[simp] theorem State.setPool_vrings : (s.setPool k x).vrings = s.vrings := rfl
@[simp] theorem State.setPool_ctxs : (s.setPool k x).ctxs = s.ctxs := rfl
@[simp] theorem State.setPool_clus : (s.setPool k x).clus = s.clus := rfl
@[simp] theorem State.setPool_sems : (s.setPool k x).sems = s.sems := rfl
@[simp] theorem State.setPool_threads : (s.setPool k x).threads = s.threads := rfl
@[simp] theorem State.setPool_retired : (s.setPool k x).retired = s.retired := rfl
@[simp] theorem State.setPool_pevt : (s.setPool k x).pevt = s.pevt := rfl
@[simp] theorem State.setPool_sup : (s.setPool k x).sup = s.sup := rfl
@[simp] theorem State.setPool_ops : (s.setPool k x).ops = s.ops := rfl
@[simp] theorem State.setPool_opCount : (s.setPool k x).opCount = s.opCount := rfl
@[simp] theorem State.setPool_lfsr : (s.setPool k x).lfsr = s.lfsr := rfl
@[simp] theorem State.setPool_tiles : (s.setPool k x).tiles = s.tiles := rfl
@[simp] theorem State.setPool_pps : (s.setPool k x).pps = s.pps := rfl
@[simp] theorem State.setPool_expTurn : (s.setPool k x).expTurn = s.expTurn := rfl
@[simp] theorem State.setPool_mig : (s.setPool k x).mig = s.mig := rfl
@[simp] theorem State.setPool_trained : (s.setPool k x).trained = s.trained := rfl
@[simp] theorem State.setPool_rotAt : (s.setPool k x).rotAt = s.rotAt := rfl
@[simp] theorem State.setPool_scrubQ : (s.setPool k x).scrubQ = s.scrubQ := rfl
@[simp] theorem State.setPool_pendAdv : (s.setPool k x).pendAdv = s.pendAdv := rfl
@[simp] theorem State.setPool_resid : (s.setPool k x).resid = s.resid := rfl
@[simp] theorem State.setPool_ports : (s.setPool k x).ports = s.ports := rfl
@[simp] theorem State.setPool_wrFail : (s.setPool k x).wrFail = s.wrFail := rfl
@[simp] theorem State.setPool_keys : (s.setPool k x).keys = s.keys := rfl
@[simp] theorem State.setPool_pcie : (s.setPool k x).pcie = s.pcie := rfl
@[simp] theorem State.setPool_evrings : (s.setPool k x).evrings = s.evrings := rfl
@[simp] theorem State.setPool_recs : (s.setPool k x).recs = s.recs := rfl
@[simp] theorem State.setPool_health : (s.setPool k x).health = s.health := rfl
@[simp] theorem State.setPool_badLines : (s.setPool k x).badLines = s.badLines := rfl
@[simp] theorem State.setPool_spares : (s.setPool k x).spares = s.spares := rfl
@[simp] theorem State.setPool_groupsOut : (s.setPool k x).groupsOut = s.groupsOut := rfl
@[simp] theorem State.setPool_trust : (s.setPool k x).trust = s.trust := rfl
@[simp] theorem State.setPool_tear : (s.setPool k x).tear = s.tear := rfl
@[simp] theorem State.setPool_pmu : (s.setPool k x).pmu = s.pmu := rfl
@[simp] theorem State.setPool_pins : (s.setPool k x).pins = s.pins := rfl

end

/-! ## State.setPort changes ports alone -/

section

variable (s : State) (q : Nat) (x : Port)

@[simp] theorem State.setPort_pending : (s.setPort q x).pending = s.pending := rfl
@[simp] theorem State.setPort_freeCtr : (s.setPort q x).freeCtr = s.freeCtr := rfl
@[simp] theorem State.setPort_time : (s.setPort q x).time = s.time := rfl
@[simp] theorem State.setPort_regs : (s.setPort q x).regs = s.regs := rfl
@[simp] theorem State.setPort_latch : (s.setPort q x).latch = s.latch := rfl
@[simp] theorem State.setPort_lastRd : (s.setPort q x).lastRd = s.lastRd := rfl
@[simp] theorem State.setPort_snap : (s.setPort q x).snap = s.snap := rfl
@[simp] theorem State.setPort_held : (s.setPort q x).held = s.held := rfl
@[simp] theorem State.setPort_mem : (s.setPort q x).mem = s.mem := rfl
@[simp] theorem State.setPort_lines : (s.setPort q x).lines = s.lines := rfl
@[simp] theorem State.setPort_host : (s.setPort q x).host = s.host := rfl
@[simp] theorem State.setPort_flash : (s.setPort q x).flash = s.flash := rfl
@[simp] theorem State.setPort_axes : (s.setPort q x).axes = s.axes := rfl
@[simp] theorem State.setPort_outs : (s.setPort q x).outs = s.outs := rfl
@[simp] theorem State.setPort_noLimit : (s.setPort q x).noLimit = s.noLimit := rfl
@[simp] theorem State.setPort_bcastSeq : (s.setPort q x).bcastSeq = s.bcastSeq := rfl
@[simp] theorem State.setPort_bcastAt : (s.setPort q x).bcastAt = s.bcastAt := rfl
@[simp] theorem State.setPort_posSeqs : (s.setPort q x).posSeqs = s.posSeqs := rfl
@[simp] theorem State.setPort_velN : (s.setPort q x).velN = s.velN := rfl
@[simp] theorem State.setPort_cams : (s.setPort q x).cams = s.cams := rfl
@[simp] theorem State.setPort_rings : (s.setPort q x).rings = s.rings := rfl
@[simp] theorem State.setPort_cals : (s.setPort q x).cals = s.cals := rfl
@[simp] theorem State.setPort_jes : (s.setPort q x).jes = s.jes := rfl
@[simp] theorem State.setPort_conLim : (s.setPort q x).conLim = s.conLim := rfl
@[simp] theorem State.setPort_hist : (s.setPort q x).hist = s.hist := rfl
@[simp] theorem State.setPort_queued : (s.setPort q x).queued = s.queued := rfl
@[simp] theorem State.setPort_jseqs : (s.setPort q x).jseqs = s.jseqs := rfl
@[simp] theorem State.setPort_born : (s.setPort q x).born = s.born := rfl
@[simp] theorem State.setPort_dies : (s.setPort q x).dies = s.dies := rfl
@[simp] theorem State.setPort_vrings : (s.setPort q x).vrings = s.vrings := rfl
@[simp] theorem State.setPort_ctxs : (s.setPort q x).ctxs = s.ctxs := rfl
@[simp] theorem State.setPort_clus : (s.setPort q x).clus = s.clus := rfl
@[simp] theorem State.setPort_sems : (s.setPort q x).sems = s.sems := rfl
@[simp] theorem State.setPort_threads : (s.setPort q x).threads = s.threads := rfl
@[simp] theorem State.setPort_retired : (s.setPort q x).retired = s.retired := rfl
@[simp] theorem State.setPort_pevt : (s.setPort q x).pevt = s.pevt := rfl
@[simp] theorem State.setPort_sup : (s.setPort q x).sup = s.sup := rfl
@[simp] theorem State.setPort_ops : (s.setPort q x).ops = s.ops := rfl
@[simp] theorem State.setPort_opCount : (s.setPort q x).opCount = s.opCount := rfl
@[simp] theorem State.setPort_lfsr : (s.setPort q x).lfsr = s.lfsr := rfl
@[simp] theorem State.setPort_tiles : (s.setPort q x).tiles = s.tiles := rfl
@[simp] theorem State.setPort_pps : (s.setPort q x).pps = s.pps := rfl
@[simp] theorem State.setPort_expTurn : (s.setPort q x).expTurn = s.expTurn := rfl
@[simp] theorem State.setPort_pools : (s.setPort q x).pools = s.pools := rfl
@[simp] theorem State.setPort_mig : (s.setPort q x).mig = s.mig := rfl
@[simp] theorem State.setPort_trained : (s.setPort q x).trained = s.trained := rfl
@[simp] theorem State.setPort_rotAt : (s.setPort q x).rotAt = s.rotAt := rfl
@[simp] theorem State.setPort_scrubQ : (s.setPort q x).scrubQ = s.scrubQ := rfl
@[simp] theorem State.setPort_pendAdv : (s.setPort q x).pendAdv = s.pendAdv := rfl
@[simp] theorem State.setPort_resid : (s.setPort q x).resid = s.resid := rfl
@[simp] theorem State.setPort_wrFail : (s.setPort q x).wrFail = s.wrFail := rfl
@[simp] theorem State.setPort_keys : (s.setPort q x).keys = s.keys := rfl
@[simp] theorem State.setPort_pcie : (s.setPort q x).pcie = s.pcie := rfl
@[simp] theorem State.setPort_evrings : (s.setPort q x).evrings = s.evrings := rfl
@[simp] theorem State.setPort_recs : (s.setPort q x).recs = s.recs := rfl
@[simp] theorem State.setPort_health : (s.setPort q x).health = s.health := rfl
@[simp] theorem State.setPort_badLines : (s.setPort q x).badLines = s.badLines := rfl
@[simp] theorem State.setPort_spares : (s.setPort q x).spares = s.spares := rfl
@[simp] theorem State.setPort_groupsOut : (s.setPort q x).groupsOut = s.groupsOut := rfl
@[simp] theorem State.setPort_trust : (s.setPort q x).trust = s.trust := rfl
@[simp] theorem State.setPort_tear : (s.setPort q x).tear = s.tear := rfl
@[simp] theorem State.setPort_pmu : (s.setPort q x).pmu = s.pmu := rfl
@[simp] theorem State.setPort_pins : (s.setPort q x).pins = s.pins := rfl

end

/-! ## State.setKey changes keys alone -/

section

variable (s : State) (p : Nat) (x : Keys)

@[simp] theorem State.setKey_pending : (s.setKey p x).pending = s.pending := rfl
@[simp] theorem State.setKey_freeCtr : (s.setKey p x).freeCtr = s.freeCtr := rfl
@[simp] theorem State.setKey_time : (s.setKey p x).time = s.time := rfl
@[simp] theorem State.setKey_regs : (s.setKey p x).regs = s.regs := rfl
@[simp] theorem State.setKey_latch : (s.setKey p x).latch = s.latch := rfl
@[simp] theorem State.setKey_lastRd : (s.setKey p x).lastRd = s.lastRd := rfl
@[simp] theorem State.setKey_snap : (s.setKey p x).snap = s.snap := rfl
@[simp] theorem State.setKey_held : (s.setKey p x).held = s.held := rfl
@[simp] theorem State.setKey_mem : (s.setKey p x).mem = s.mem := rfl
@[simp] theorem State.setKey_lines : (s.setKey p x).lines = s.lines := rfl
@[simp] theorem State.setKey_host : (s.setKey p x).host = s.host := rfl
@[simp] theorem State.setKey_flash : (s.setKey p x).flash = s.flash := rfl
@[simp] theorem State.setKey_axes : (s.setKey p x).axes = s.axes := rfl
@[simp] theorem State.setKey_outs : (s.setKey p x).outs = s.outs := rfl
@[simp] theorem State.setKey_noLimit : (s.setKey p x).noLimit = s.noLimit := rfl
@[simp] theorem State.setKey_bcastSeq : (s.setKey p x).bcastSeq = s.bcastSeq := rfl
@[simp] theorem State.setKey_bcastAt : (s.setKey p x).bcastAt = s.bcastAt := rfl
@[simp] theorem State.setKey_posSeqs : (s.setKey p x).posSeqs = s.posSeqs := rfl
@[simp] theorem State.setKey_velN : (s.setKey p x).velN = s.velN := rfl
@[simp] theorem State.setKey_cams : (s.setKey p x).cams = s.cams := rfl
@[simp] theorem State.setKey_rings : (s.setKey p x).rings = s.rings := rfl
@[simp] theorem State.setKey_cals : (s.setKey p x).cals = s.cals := rfl
@[simp] theorem State.setKey_jes : (s.setKey p x).jes = s.jes := rfl
@[simp] theorem State.setKey_conLim : (s.setKey p x).conLim = s.conLim := rfl
@[simp] theorem State.setKey_hist : (s.setKey p x).hist = s.hist := rfl
@[simp] theorem State.setKey_queued : (s.setKey p x).queued = s.queued := rfl
@[simp] theorem State.setKey_jseqs : (s.setKey p x).jseqs = s.jseqs := rfl
@[simp] theorem State.setKey_born : (s.setKey p x).born = s.born := rfl
@[simp] theorem State.setKey_dies : (s.setKey p x).dies = s.dies := rfl
@[simp] theorem State.setKey_vrings : (s.setKey p x).vrings = s.vrings := rfl
@[simp] theorem State.setKey_ctxs : (s.setKey p x).ctxs = s.ctxs := rfl
@[simp] theorem State.setKey_clus : (s.setKey p x).clus = s.clus := rfl
@[simp] theorem State.setKey_sems : (s.setKey p x).sems = s.sems := rfl
@[simp] theorem State.setKey_threads : (s.setKey p x).threads = s.threads := rfl
@[simp] theorem State.setKey_retired : (s.setKey p x).retired = s.retired := rfl
@[simp] theorem State.setKey_pevt : (s.setKey p x).pevt = s.pevt := rfl
@[simp] theorem State.setKey_sup : (s.setKey p x).sup = s.sup := rfl
@[simp] theorem State.setKey_ops : (s.setKey p x).ops = s.ops := rfl
@[simp] theorem State.setKey_opCount : (s.setKey p x).opCount = s.opCount := rfl
@[simp] theorem State.setKey_lfsr : (s.setKey p x).lfsr = s.lfsr := rfl
@[simp] theorem State.setKey_tiles : (s.setKey p x).tiles = s.tiles := rfl
@[simp] theorem State.setKey_pps : (s.setKey p x).pps = s.pps := rfl
@[simp] theorem State.setKey_expTurn : (s.setKey p x).expTurn = s.expTurn := rfl
@[simp] theorem State.setKey_pools : (s.setKey p x).pools = s.pools := rfl
@[simp] theorem State.setKey_mig : (s.setKey p x).mig = s.mig := rfl
@[simp] theorem State.setKey_trained : (s.setKey p x).trained = s.trained := rfl
@[simp] theorem State.setKey_rotAt : (s.setKey p x).rotAt = s.rotAt := rfl
@[simp] theorem State.setKey_scrubQ : (s.setKey p x).scrubQ = s.scrubQ := rfl
@[simp] theorem State.setKey_pendAdv : (s.setKey p x).pendAdv = s.pendAdv := rfl
@[simp] theorem State.setKey_resid : (s.setKey p x).resid = s.resid := rfl
@[simp] theorem State.setKey_ports : (s.setKey p x).ports = s.ports := rfl
@[simp] theorem State.setKey_wrFail : (s.setKey p x).wrFail = s.wrFail := rfl
@[simp] theorem State.setKey_pcie : (s.setKey p x).pcie = s.pcie := rfl
@[simp] theorem State.setKey_evrings : (s.setKey p x).evrings = s.evrings := rfl
@[simp] theorem State.setKey_recs : (s.setKey p x).recs = s.recs := rfl
@[simp] theorem State.setKey_health : (s.setKey p x).health = s.health := rfl
@[simp] theorem State.setKey_badLines : (s.setKey p x).badLines = s.badLines := rfl
@[simp] theorem State.setKey_spares : (s.setKey p x).spares = s.spares := rfl
@[simp] theorem State.setKey_groupsOut : (s.setKey p x).groupsOut = s.groupsOut := rfl
@[simp] theorem State.setKey_trust : (s.setKey p x).trust = s.trust := rfl
@[simp] theorem State.setKey_tear : (s.setKey p x).tear = s.tear := rfl
@[simp] theorem State.setKey_pmu : (s.setKey p x).pmu = s.pmu := rfl
@[simp] theorem State.setKey_pins : (s.setKey p x).pins = s.pins := rfl

end

/-! ## State.setMsi changes pcie alone -/

section

variable (s : State) (f : Nat) (x : Msix)

@[simp] theorem State.setMsi_pending : (s.setMsi f x).pending = s.pending := rfl
@[simp] theorem State.setMsi_freeCtr : (s.setMsi f x).freeCtr = s.freeCtr := rfl
@[simp] theorem State.setMsi_time : (s.setMsi f x).time = s.time := rfl
@[simp] theorem State.setMsi_regs : (s.setMsi f x).regs = s.regs := rfl
@[simp] theorem State.setMsi_latch : (s.setMsi f x).latch = s.latch := rfl
@[simp] theorem State.setMsi_lastRd : (s.setMsi f x).lastRd = s.lastRd := rfl
@[simp] theorem State.setMsi_snap : (s.setMsi f x).snap = s.snap := rfl
@[simp] theorem State.setMsi_held : (s.setMsi f x).held = s.held := rfl
@[simp] theorem State.setMsi_mem : (s.setMsi f x).mem = s.mem := rfl
@[simp] theorem State.setMsi_lines : (s.setMsi f x).lines = s.lines := rfl
@[simp] theorem State.setMsi_host : (s.setMsi f x).host = s.host := rfl
@[simp] theorem State.setMsi_flash : (s.setMsi f x).flash = s.flash := rfl
@[simp] theorem State.setMsi_axes : (s.setMsi f x).axes = s.axes := rfl
@[simp] theorem State.setMsi_outs : (s.setMsi f x).outs = s.outs := rfl
@[simp] theorem State.setMsi_noLimit : (s.setMsi f x).noLimit = s.noLimit := rfl
@[simp] theorem State.setMsi_bcastSeq : (s.setMsi f x).bcastSeq = s.bcastSeq := rfl
@[simp] theorem State.setMsi_bcastAt : (s.setMsi f x).bcastAt = s.bcastAt := rfl
@[simp] theorem State.setMsi_posSeqs : (s.setMsi f x).posSeqs = s.posSeqs := rfl
@[simp] theorem State.setMsi_velN : (s.setMsi f x).velN = s.velN := rfl
@[simp] theorem State.setMsi_cams : (s.setMsi f x).cams = s.cams := rfl
@[simp] theorem State.setMsi_rings : (s.setMsi f x).rings = s.rings := rfl
@[simp] theorem State.setMsi_cals : (s.setMsi f x).cals = s.cals := rfl
@[simp] theorem State.setMsi_jes : (s.setMsi f x).jes = s.jes := rfl
@[simp] theorem State.setMsi_conLim : (s.setMsi f x).conLim = s.conLim := rfl
@[simp] theorem State.setMsi_hist : (s.setMsi f x).hist = s.hist := rfl
@[simp] theorem State.setMsi_queued : (s.setMsi f x).queued = s.queued := rfl
@[simp] theorem State.setMsi_jseqs : (s.setMsi f x).jseqs = s.jseqs := rfl
@[simp] theorem State.setMsi_born : (s.setMsi f x).born = s.born := rfl
@[simp] theorem State.setMsi_dies : (s.setMsi f x).dies = s.dies := rfl
@[simp] theorem State.setMsi_vrings : (s.setMsi f x).vrings = s.vrings := rfl
@[simp] theorem State.setMsi_ctxs : (s.setMsi f x).ctxs = s.ctxs := rfl
@[simp] theorem State.setMsi_clus : (s.setMsi f x).clus = s.clus := rfl
@[simp] theorem State.setMsi_sems : (s.setMsi f x).sems = s.sems := rfl
@[simp] theorem State.setMsi_threads : (s.setMsi f x).threads = s.threads := rfl
@[simp] theorem State.setMsi_retired : (s.setMsi f x).retired = s.retired := rfl
@[simp] theorem State.setMsi_pevt : (s.setMsi f x).pevt = s.pevt := rfl
@[simp] theorem State.setMsi_sup : (s.setMsi f x).sup = s.sup := rfl
@[simp] theorem State.setMsi_ops : (s.setMsi f x).ops = s.ops := rfl
@[simp] theorem State.setMsi_opCount : (s.setMsi f x).opCount = s.opCount := rfl
@[simp] theorem State.setMsi_lfsr : (s.setMsi f x).lfsr = s.lfsr := rfl
@[simp] theorem State.setMsi_tiles : (s.setMsi f x).tiles = s.tiles := rfl
@[simp] theorem State.setMsi_pps : (s.setMsi f x).pps = s.pps := rfl
@[simp] theorem State.setMsi_expTurn : (s.setMsi f x).expTurn = s.expTurn := rfl
@[simp] theorem State.setMsi_pools : (s.setMsi f x).pools = s.pools := rfl
@[simp] theorem State.setMsi_mig : (s.setMsi f x).mig = s.mig := rfl
@[simp] theorem State.setMsi_trained : (s.setMsi f x).trained = s.trained := rfl
@[simp] theorem State.setMsi_rotAt : (s.setMsi f x).rotAt = s.rotAt := rfl
@[simp] theorem State.setMsi_scrubQ : (s.setMsi f x).scrubQ = s.scrubQ := rfl
@[simp] theorem State.setMsi_pendAdv : (s.setMsi f x).pendAdv = s.pendAdv := rfl
@[simp] theorem State.setMsi_resid : (s.setMsi f x).resid = s.resid := rfl
@[simp] theorem State.setMsi_ports : (s.setMsi f x).ports = s.ports := rfl
@[simp] theorem State.setMsi_wrFail : (s.setMsi f x).wrFail = s.wrFail := rfl
@[simp] theorem State.setMsi_keys : (s.setMsi f x).keys = s.keys := rfl
@[simp] theorem State.setMsi_evrings : (s.setMsi f x).evrings = s.evrings := rfl
@[simp] theorem State.setMsi_recs : (s.setMsi f x).recs = s.recs := rfl
@[simp] theorem State.setMsi_health : (s.setMsi f x).health = s.health := rfl
@[simp] theorem State.setMsi_badLines : (s.setMsi f x).badLines = s.badLines := rfl
@[simp] theorem State.setMsi_spares : (s.setMsi f x).spares = s.spares := rfl
@[simp] theorem State.setMsi_groupsOut : (s.setMsi f x).groupsOut = s.groupsOut := rfl
@[simp] theorem State.setMsi_trust : (s.setMsi f x).trust = s.trust := rfl
@[simp] theorem State.setMsi_tear : (s.setMsi f x).tear = s.tear := rfl
@[simp] theorem State.setMsi_pmu : (s.setMsi f x).pmu = s.pmu := rfl
@[simp] theorem State.setMsi_pins : (s.setMsi f x).pins = s.pins := rfl

end

/-! ## State.setEvring changes evrings alone -/

section

variable (s : State) (f : Nat) (x : EvRing)

@[simp] theorem State.setEvring_pending : (s.setEvring f x).pending = s.pending := rfl
@[simp] theorem State.setEvring_freeCtr : (s.setEvring f x).freeCtr = s.freeCtr := rfl
@[simp] theorem State.setEvring_time : (s.setEvring f x).time = s.time := rfl
@[simp] theorem State.setEvring_regs : (s.setEvring f x).regs = s.regs := rfl
@[simp] theorem State.setEvring_latch : (s.setEvring f x).latch = s.latch := rfl
@[simp] theorem State.setEvring_lastRd : (s.setEvring f x).lastRd = s.lastRd := rfl
@[simp] theorem State.setEvring_snap : (s.setEvring f x).snap = s.snap := rfl
@[simp] theorem State.setEvring_held : (s.setEvring f x).held = s.held := rfl
@[simp] theorem State.setEvring_mem : (s.setEvring f x).mem = s.mem := rfl
@[simp] theorem State.setEvring_lines : (s.setEvring f x).lines = s.lines := rfl
@[simp] theorem State.setEvring_host : (s.setEvring f x).host = s.host := rfl
@[simp] theorem State.setEvring_flash : (s.setEvring f x).flash = s.flash := rfl
@[simp] theorem State.setEvring_axes : (s.setEvring f x).axes = s.axes := rfl
@[simp] theorem State.setEvring_outs : (s.setEvring f x).outs = s.outs := rfl
@[simp] theorem State.setEvring_noLimit : (s.setEvring f x).noLimit = s.noLimit := rfl
@[simp] theorem State.setEvring_bcastSeq : (s.setEvring f x).bcastSeq = s.bcastSeq := rfl
@[simp] theorem State.setEvring_bcastAt : (s.setEvring f x).bcastAt = s.bcastAt := rfl
@[simp] theorem State.setEvring_posSeqs : (s.setEvring f x).posSeqs = s.posSeqs := rfl
@[simp] theorem State.setEvring_velN : (s.setEvring f x).velN = s.velN := rfl
@[simp] theorem State.setEvring_cams : (s.setEvring f x).cams = s.cams := rfl
@[simp] theorem State.setEvring_rings : (s.setEvring f x).rings = s.rings := rfl
@[simp] theorem State.setEvring_cals : (s.setEvring f x).cals = s.cals := rfl
@[simp] theorem State.setEvring_jes : (s.setEvring f x).jes = s.jes := rfl
@[simp] theorem State.setEvring_conLim : (s.setEvring f x).conLim = s.conLim := rfl
@[simp] theorem State.setEvring_hist : (s.setEvring f x).hist = s.hist := rfl
@[simp] theorem State.setEvring_queued : (s.setEvring f x).queued = s.queued := rfl
@[simp] theorem State.setEvring_jseqs : (s.setEvring f x).jseqs = s.jseqs := rfl
@[simp] theorem State.setEvring_born : (s.setEvring f x).born = s.born := rfl
@[simp] theorem State.setEvring_dies : (s.setEvring f x).dies = s.dies := rfl
@[simp] theorem State.setEvring_vrings : (s.setEvring f x).vrings = s.vrings := rfl
@[simp] theorem State.setEvring_ctxs : (s.setEvring f x).ctxs = s.ctxs := rfl
@[simp] theorem State.setEvring_clus : (s.setEvring f x).clus = s.clus := rfl
@[simp] theorem State.setEvring_sems : (s.setEvring f x).sems = s.sems := rfl
@[simp] theorem State.setEvring_threads : (s.setEvring f x).threads = s.threads := rfl
@[simp] theorem State.setEvring_retired : (s.setEvring f x).retired = s.retired := rfl
@[simp] theorem State.setEvring_pevt : (s.setEvring f x).pevt = s.pevt := rfl
@[simp] theorem State.setEvring_sup : (s.setEvring f x).sup = s.sup := rfl
@[simp] theorem State.setEvring_ops : (s.setEvring f x).ops = s.ops := rfl
@[simp] theorem State.setEvring_opCount : (s.setEvring f x).opCount = s.opCount := rfl
@[simp] theorem State.setEvring_lfsr : (s.setEvring f x).lfsr = s.lfsr := rfl
@[simp] theorem State.setEvring_tiles : (s.setEvring f x).tiles = s.tiles := rfl
@[simp] theorem State.setEvring_pps : (s.setEvring f x).pps = s.pps := rfl
@[simp] theorem State.setEvring_expTurn : (s.setEvring f x).expTurn = s.expTurn := rfl
@[simp] theorem State.setEvring_pools : (s.setEvring f x).pools = s.pools := rfl
@[simp] theorem State.setEvring_mig : (s.setEvring f x).mig = s.mig := rfl
@[simp] theorem State.setEvring_trained : (s.setEvring f x).trained = s.trained := rfl
@[simp] theorem State.setEvring_rotAt : (s.setEvring f x).rotAt = s.rotAt := rfl
@[simp] theorem State.setEvring_scrubQ : (s.setEvring f x).scrubQ = s.scrubQ := rfl
@[simp] theorem State.setEvring_pendAdv : (s.setEvring f x).pendAdv = s.pendAdv := rfl
@[simp] theorem State.setEvring_resid : (s.setEvring f x).resid = s.resid := rfl
@[simp] theorem State.setEvring_ports : (s.setEvring f x).ports = s.ports := rfl
@[simp] theorem State.setEvring_wrFail : (s.setEvring f x).wrFail = s.wrFail := rfl
@[simp] theorem State.setEvring_keys : (s.setEvring f x).keys = s.keys := rfl
@[simp] theorem State.setEvring_pcie : (s.setEvring f x).pcie = s.pcie := rfl
@[simp] theorem State.setEvring_recs : (s.setEvring f x).recs = s.recs := rfl
@[simp] theorem State.setEvring_health : (s.setEvring f x).health = s.health := rfl
@[simp] theorem State.setEvring_badLines : (s.setEvring f x).badLines = s.badLines := rfl
@[simp] theorem State.setEvring_spares : (s.setEvring f x).spares = s.spares := rfl
@[simp] theorem State.setEvring_groupsOut : (s.setEvring f x).groupsOut = s.groupsOut := rfl
@[simp] theorem State.setEvring_trust : (s.setEvring f x).trust = s.trust := rfl
@[simp] theorem State.setEvring_tear : (s.setEvring f x).tear = s.tear := rfl
@[simp] theorem State.setEvring_pmu : (s.setEvring f x).pmu = s.pmu := rfl
@[simp] theorem State.setEvring_pins : (s.setEvring f x).pins = s.pins := rfl

end

/-! ## State.setHu changes health alone -/

section

variable (s : State) (k u : Nat) (x : UnitH)

@[simp] theorem State.setHu_pending : (s.setHu k u x).pending = s.pending := rfl
@[simp] theorem State.setHu_freeCtr : (s.setHu k u x).freeCtr = s.freeCtr := rfl
@[simp] theorem State.setHu_time : (s.setHu k u x).time = s.time := rfl
@[simp] theorem State.setHu_regs : (s.setHu k u x).regs = s.regs := rfl
@[simp] theorem State.setHu_latch : (s.setHu k u x).latch = s.latch := rfl
@[simp] theorem State.setHu_lastRd : (s.setHu k u x).lastRd = s.lastRd := rfl
@[simp] theorem State.setHu_snap : (s.setHu k u x).snap = s.snap := rfl
@[simp] theorem State.setHu_held : (s.setHu k u x).held = s.held := rfl
@[simp] theorem State.setHu_mem : (s.setHu k u x).mem = s.mem := rfl
@[simp] theorem State.setHu_lines : (s.setHu k u x).lines = s.lines := rfl
@[simp] theorem State.setHu_host : (s.setHu k u x).host = s.host := rfl
@[simp] theorem State.setHu_flash : (s.setHu k u x).flash = s.flash := rfl
@[simp] theorem State.setHu_axes : (s.setHu k u x).axes = s.axes := rfl
@[simp] theorem State.setHu_outs : (s.setHu k u x).outs = s.outs := rfl
@[simp] theorem State.setHu_noLimit : (s.setHu k u x).noLimit = s.noLimit := rfl
@[simp] theorem State.setHu_bcastSeq : (s.setHu k u x).bcastSeq = s.bcastSeq := rfl
@[simp] theorem State.setHu_bcastAt : (s.setHu k u x).bcastAt = s.bcastAt := rfl
@[simp] theorem State.setHu_posSeqs : (s.setHu k u x).posSeqs = s.posSeqs := rfl
@[simp] theorem State.setHu_velN : (s.setHu k u x).velN = s.velN := rfl
@[simp] theorem State.setHu_cams : (s.setHu k u x).cams = s.cams := rfl
@[simp] theorem State.setHu_rings : (s.setHu k u x).rings = s.rings := rfl
@[simp] theorem State.setHu_cals : (s.setHu k u x).cals = s.cals := rfl
@[simp] theorem State.setHu_jes : (s.setHu k u x).jes = s.jes := rfl
@[simp] theorem State.setHu_conLim : (s.setHu k u x).conLim = s.conLim := rfl
@[simp] theorem State.setHu_hist : (s.setHu k u x).hist = s.hist := rfl
@[simp] theorem State.setHu_queued : (s.setHu k u x).queued = s.queued := rfl
@[simp] theorem State.setHu_jseqs : (s.setHu k u x).jseqs = s.jseqs := rfl
@[simp] theorem State.setHu_born : (s.setHu k u x).born = s.born := rfl
@[simp] theorem State.setHu_dies : (s.setHu k u x).dies = s.dies := rfl
@[simp] theorem State.setHu_vrings : (s.setHu k u x).vrings = s.vrings := rfl
@[simp] theorem State.setHu_ctxs : (s.setHu k u x).ctxs = s.ctxs := rfl
@[simp] theorem State.setHu_clus : (s.setHu k u x).clus = s.clus := rfl
@[simp] theorem State.setHu_sems : (s.setHu k u x).sems = s.sems := rfl
@[simp] theorem State.setHu_threads : (s.setHu k u x).threads = s.threads := rfl
@[simp] theorem State.setHu_retired : (s.setHu k u x).retired = s.retired := rfl
@[simp] theorem State.setHu_pevt : (s.setHu k u x).pevt = s.pevt := rfl
@[simp] theorem State.setHu_sup : (s.setHu k u x).sup = s.sup := rfl
@[simp] theorem State.setHu_ops : (s.setHu k u x).ops = s.ops := rfl
@[simp] theorem State.setHu_opCount : (s.setHu k u x).opCount = s.opCount := rfl
@[simp] theorem State.setHu_lfsr : (s.setHu k u x).lfsr = s.lfsr := rfl
@[simp] theorem State.setHu_tiles : (s.setHu k u x).tiles = s.tiles := rfl
@[simp] theorem State.setHu_pps : (s.setHu k u x).pps = s.pps := rfl
@[simp] theorem State.setHu_expTurn : (s.setHu k u x).expTurn = s.expTurn := rfl
@[simp] theorem State.setHu_pools : (s.setHu k u x).pools = s.pools := rfl
@[simp] theorem State.setHu_mig : (s.setHu k u x).mig = s.mig := rfl
@[simp] theorem State.setHu_trained : (s.setHu k u x).trained = s.trained := rfl
@[simp] theorem State.setHu_rotAt : (s.setHu k u x).rotAt = s.rotAt := rfl
@[simp] theorem State.setHu_scrubQ : (s.setHu k u x).scrubQ = s.scrubQ := rfl
@[simp] theorem State.setHu_pendAdv : (s.setHu k u x).pendAdv = s.pendAdv := rfl
@[simp] theorem State.setHu_resid : (s.setHu k u x).resid = s.resid := rfl
@[simp] theorem State.setHu_ports : (s.setHu k u x).ports = s.ports := rfl
@[simp] theorem State.setHu_wrFail : (s.setHu k u x).wrFail = s.wrFail := rfl
@[simp] theorem State.setHu_keys : (s.setHu k u x).keys = s.keys := rfl
@[simp] theorem State.setHu_pcie : (s.setHu k u x).pcie = s.pcie := rfl
@[simp] theorem State.setHu_evrings : (s.setHu k u x).evrings = s.evrings := rfl
@[simp] theorem State.setHu_recs : (s.setHu k u x).recs = s.recs := rfl
@[simp] theorem State.setHu_badLines : (s.setHu k u x).badLines = s.badLines := rfl
@[simp] theorem State.setHu_spares : (s.setHu k u x).spares = s.spares := rfl
@[simp] theorem State.setHu_groupsOut : (s.setHu k u x).groupsOut = s.groupsOut := rfl
@[simp] theorem State.setHu_trust : (s.setHu k u x).trust = s.trust := rfl
@[simp] theorem State.setHu_tear : (s.setHu k u x).tear = s.tear := rfl
@[simp] theorem State.setHu_pmu : (s.setHu k u x).pmu = s.pmu := rfl
@[simp] theorem State.setHu_pins : (s.setHu k u x).pins = s.pins := rfl

end

/-! ## State.setLf changes lfsr alone -/

section

variable (s : State) (k : Nat) (v : BitVec 32)

@[simp] theorem State.setLf_pending : (s.setLf k v).pending = s.pending := rfl
@[simp] theorem State.setLf_freeCtr : (s.setLf k v).freeCtr = s.freeCtr := rfl
@[simp] theorem State.setLf_time : (s.setLf k v).time = s.time := rfl
@[simp] theorem State.setLf_regs : (s.setLf k v).regs = s.regs := rfl
@[simp] theorem State.setLf_latch : (s.setLf k v).latch = s.latch := rfl
@[simp] theorem State.setLf_lastRd : (s.setLf k v).lastRd = s.lastRd := rfl
@[simp] theorem State.setLf_snap : (s.setLf k v).snap = s.snap := rfl
@[simp] theorem State.setLf_held : (s.setLf k v).held = s.held := rfl
@[simp] theorem State.setLf_mem : (s.setLf k v).mem = s.mem := rfl
@[simp] theorem State.setLf_lines : (s.setLf k v).lines = s.lines := rfl
@[simp] theorem State.setLf_host : (s.setLf k v).host = s.host := rfl
@[simp] theorem State.setLf_flash : (s.setLf k v).flash = s.flash := rfl
@[simp] theorem State.setLf_axes : (s.setLf k v).axes = s.axes := rfl
@[simp] theorem State.setLf_outs : (s.setLf k v).outs = s.outs := rfl
@[simp] theorem State.setLf_noLimit : (s.setLf k v).noLimit = s.noLimit := rfl
@[simp] theorem State.setLf_bcastSeq : (s.setLf k v).bcastSeq = s.bcastSeq := rfl
@[simp] theorem State.setLf_bcastAt : (s.setLf k v).bcastAt = s.bcastAt := rfl
@[simp] theorem State.setLf_posSeqs : (s.setLf k v).posSeqs = s.posSeqs := rfl
@[simp] theorem State.setLf_velN : (s.setLf k v).velN = s.velN := rfl
@[simp] theorem State.setLf_cams : (s.setLf k v).cams = s.cams := rfl
@[simp] theorem State.setLf_rings : (s.setLf k v).rings = s.rings := rfl
@[simp] theorem State.setLf_cals : (s.setLf k v).cals = s.cals := rfl
@[simp] theorem State.setLf_jes : (s.setLf k v).jes = s.jes := rfl
@[simp] theorem State.setLf_conLim : (s.setLf k v).conLim = s.conLim := rfl
@[simp] theorem State.setLf_hist : (s.setLf k v).hist = s.hist := rfl
@[simp] theorem State.setLf_queued : (s.setLf k v).queued = s.queued := rfl
@[simp] theorem State.setLf_jseqs : (s.setLf k v).jseqs = s.jseqs := rfl
@[simp] theorem State.setLf_born : (s.setLf k v).born = s.born := rfl
@[simp] theorem State.setLf_dies : (s.setLf k v).dies = s.dies := rfl
@[simp] theorem State.setLf_vrings : (s.setLf k v).vrings = s.vrings := rfl
@[simp] theorem State.setLf_ctxs : (s.setLf k v).ctxs = s.ctxs := rfl
@[simp] theorem State.setLf_clus : (s.setLf k v).clus = s.clus := rfl
@[simp] theorem State.setLf_sems : (s.setLf k v).sems = s.sems := rfl
@[simp] theorem State.setLf_threads : (s.setLf k v).threads = s.threads := rfl
@[simp] theorem State.setLf_retired : (s.setLf k v).retired = s.retired := rfl
@[simp] theorem State.setLf_pevt : (s.setLf k v).pevt = s.pevt := rfl
@[simp] theorem State.setLf_sup : (s.setLf k v).sup = s.sup := rfl
@[simp] theorem State.setLf_ops : (s.setLf k v).ops = s.ops := rfl
@[simp] theorem State.setLf_opCount : (s.setLf k v).opCount = s.opCount := rfl
@[simp] theorem State.setLf_tiles : (s.setLf k v).tiles = s.tiles := rfl
@[simp] theorem State.setLf_pps : (s.setLf k v).pps = s.pps := rfl
@[simp] theorem State.setLf_expTurn : (s.setLf k v).expTurn = s.expTurn := rfl
@[simp] theorem State.setLf_pools : (s.setLf k v).pools = s.pools := rfl
@[simp] theorem State.setLf_mig : (s.setLf k v).mig = s.mig := rfl
@[simp] theorem State.setLf_trained : (s.setLf k v).trained = s.trained := rfl
@[simp] theorem State.setLf_rotAt : (s.setLf k v).rotAt = s.rotAt := rfl
@[simp] theorem State.setLf_scrubQ : (s.setLf k v).scrubQ = s.scrubQ := rfl
@[simp] theorem State.setLf_pendAdv : (s.setLf k v).pendAdv = s.pendAdv := rfl
@[simp] theorem State.setLf_resid : (s.setLf k v).resid = s.resid := rfl
@[simp] theorem State.setLf_ports : (s.setLf k v).ports = s.ports := rfl
@[simp] theorem State.setLf_wrFail : (s.setLf k v).wrFail = s.wrFail := rfl
@[simp] theorem State.setLf_keys : (s.setLf k v).keys = s.keys := rfl
@[simp] theorem State.setLf_pcie : (s.setLf k v).pcie = s.pcie := rfl
@[simp] theorem State.setLf_evrings : (s.setLf k v).evrings = s.evrings := rfl
@[simp] theorem State.setLf_recs : (s.setLf k v).recs = s.recs := rfl
@[simp] theorem State.setLf_health : (s.setLf k v).health = s.health := rfl
@[simp] theorem State.setLf_badLines : (s.setLf k v).badLines = s.badLines := rfl
@[simp] theorem State.setLf_spares : (s.setLf k v).spares = s.spares := rfl
@[simp] theorem State.setLf_groupsOut : (s.setLf k v).groupsOut = s.groupsOut := rfl
@[simp] theorem State.setLf_trust : (s.setLf k v).trust = s.trust := rfl
@[simp] theorem State.setLf_tear : (s.setLf k v).tear = s.tear := rfl
@[simp] theorem State.setLf_pmu : (s.setLf k v).pmu = s.pmu := rfl
@[simp] theorem State.setLf_pins : (s.setLf k v).pins = s.pins := rfl

end

/-! ## State.setTd changes tear alone -/

section

variable (s : State) (p : Nat) (x : Tear)

@[simp] theorem State.setTd_pending : (s.setTd p x).pending = s.pending := rfl
@[simp] theorem State.setTd_freeCtr : (s.setTd p x).freeCtr = s.freeCtr := rfl
@[simp] theorem State.setTd_time : (s.setTd p x).time = s.time := rfl
@[simp] theorem State.setTd_regs : (s.setTd p x).regs = s.regs := rfl
@[simp] theorem State.setTd_latch : (s.setTd p x).latch = s.latch := rfl
@[simp] theorem State.setTd_lastRd : (s.setTd p x).lastRd = s.lastRd := rfl
@[simp] theorem State.setTd_snap : (s.setTd p x).snap = s.snap := rfl
@[simp] theorem State.setTd_held : (s.setTd p x).held = s.held := rfl
@[simp] theorem State.setTd_mem : (s.setTd p x).mem = s.mem := rfl
@[simp] theorem State.setTd_lines : (s.setTd p x).lines = s.lines := rfl
@[simp] theorem State.setTd_host : (s.setTd p x).host = s.host := rfl
@[simp] theorem State.setTd_flash : (s.setTd p x).flash = s.flash := rfl
@[simp] theorem State.setTd_axes : (s.setTd p x).axes = s.axes := rfl
@[simp] theorem State.setTd_outs : (s.setTd p x).outs = s.outs := rfl
@[simp] theorem State.setTd_noLimit : (s.setTd p x).noLimit = s.noLimit := rfl
@[simp] theorem State.setTd_bcastSeq : (s.setTd p x).bcastSeq = s.bcastSeq := rfl
@[simp] theorem State.setTd_bcastAt : (s.setTd p x).bcastAt = s.bcastAt := rfl
@[simp] theorem State.setTd_posSeqs : (s.setTd p x).posSeqs = s.posSeqs := rfl
@[simp] theorem State.setTd_velN : (s.setTd p x).velN = s.velN := rfl
@[simp] theorem State.setTd_cams : (s.setTd p x).cams = s.cams := rfl
@[simp] theorem State.setTd_rings : (s.setTd p x).rings = s.rings := rfl
@[simp] theorem State.setTd_cals : (s.setTd p x).cals = s.cals := rfl
@[simp] theorem State.setTd_jes : (s.setTd p x).jes = s.jes := rfl
@[simp] theorem State.setTd_conLim : (s.setTd p x).conLim = s.conLim := rfl
@[simp] theorem State.setTd_hist : (s.setTd p x).hist = s.hist := rfl
@[simp] theorem State.setTd_queued : (s.setTd p x).queued = s.queued := rfl
@[simp] theorem State.setTd_jseqs : (s.setTd p x).jseqs = s.jseqs := rfl
@[simp] theorem State.setTd_born : (s.setTd p x).born = s.born := rfl
@[simp] theorem State.setTd_dies : (s.setTd p x).dies = s.dies := rfl
@[simp] theorem State.setTd_vrings : (s.setTd p x).vrings = s.vrings := rfl
@[simp] theorem State.setTd_ctxs : (s.setTd p x).ctxs = s.ctxs := rfl
@[simp] theorem State.setTd_clus : (s.setTd p x).clus = s.clus := rfl
@[simp] theorem State.setTd_sems : (s.setTd p x).sems = s.sems := rfl
@[simp] theorem State.setTd_threads : (s.setTd p x).threads = s.threads := rfl
@[simp] theorem State.setTd_retired : (s.setTd p x).retired = s.retired := rfl
@[simp] theorem State.setTd_pevt : (s.setTd p x).pevt = s.pevt := rfl
@[simp] theorem State.setTd_sup : (s.setTd p x).sup = s.sup := rfl
@[simp] theorem State.setTd_ops : (s.setTd p x).ops = s.ops := rfl
@[simp] theorem State.setTd_opCount : (s.setTd p x).opCount = s.opCount := rfl
@[simp] theorem State.setTd_lfsr : (s.setTd p x).lfsr = s.lfsr := rfl
@[simp] theorem State.setTd_tiles : (s.setTd p x).tiles = s.tiles := rfl
@[simp] theorem State.setTd_pps : (s.setTd p x).pps = s.pps := rfl
@[simp] theorem State.setTd_expTurn : (s.setTd p x).expTurn = s.expTurn := rfl
@[simp] theorem State.setTd_pools : (s.setTd p x).pools = s.pools := rfl
@[simp] theorem State.setTd_mig : (s.setTd p x).mig = s.mig := rfl
@[simp] theorem State.setTd_trained : (s.setTd p x).trained = s.trained := rfl
@[simp] theorem State.setTd_rotAt : (s.setTd p x).rotAt = s.rotAt := rfl
@[simp] theorem State.setTd_scrubQ : (s.setTd p x).scrubQ = s.scrubQ := rfl
@[simp] theorem State.setTd_pendAdv : (s.setTd p x).pendAdv = s.pendAdv := rfl
@[simp] theorem State.setTd_resid : (s.setTd p x).resid = s.resid := rfl
@[simp] theorem State.setTd_ports : (s.setTd p x).ports = s.ports := rfl
@[simp] theorem State.setTd_wrFail : (s.setTd p x).wrFail = s.wrFail := rfl
@[simp] theorem State.setTd_keys : (s.setTd p x).keys = s.keys := rfl
@[simp] theorem State.setTd_pcie : (s.setTd p x).pcie = s.pcie := rfl
@[simp] theorem State.setTd_evrings : (s.setTd p x).evrings = s.evrings := rfl
@[simp] theorem State.setTd_recs : (s.setTd p x).recs = s.recs := rfl
@[simp] theorem State.setTd_health : (s.setTd p x).health = s.health := rfl
@[simp] theorem State.setTd_badLines : (s.setTd p x).badLines = s.badLines := rfl
@[simp] theorem State.setTd_spares : (s.setTd p x).spares = s.spares := rfl
@[simp] theorem State.setTd_groupsOut : (s.setTd p x).groupsOut = s.groupsOut := rfl
@[simp] theorem State.setTd_trust : (s.setTd p x).trust = s.trust := rfl
@[simp] theorem State.setTd_pmu : (s.setTd p x).pmu = s.pmu := rfl
@[simp] theorem State.setTd_pins : (s.setTd p x).pins = s.pins := rfl

end

/-! ## State.setG changes threads alone -/

section

variable (s : State) (t : Nat) (n : Reg) (v : W64)

@[simp] theorem State.setG_pending : (s.setG t n v).pending = s.pending := rfl
@[simp] theorem State.setG_freeCtr : (s.setG t n v).freeCtr = s.freeCtr := rfl
@[simp] theorem State.setG_time : (s.setG t n v).time = s.time := rfl
@[simp] theorem State.setG_regs : (s.setG t n v).regs = s.regs := rfl
@[simp] theorem State.setG_latch : (s.setG t n v).latch = s.latch := rfl
@[simp] theorem State.setG_lastRd : (s.setG t n v).lastRd = s.lastRd := rfl
@[simp] theorem State.setG_snap : (s.setG t n v).snap = s.snap := rfl
@[simp] theorem State.setG_held : (s.setG t n v).held = s.held := rfl
@[simp] theorem State.setG_mem : (s.setG t n v).mem = s.mem := rfl
@[simp] theorem State.setG_lines : (s.setG t n v).lines = s.lines := rfl
@[simp] theorem State.setG_host : (s.setG t n v).host = s.host := rfl
@[simp] theorem State.setG_flash : (s.setG t n v).flash = s.flash := rfl
@[simp] theorem State.setG_axes : (s.setG t n v).axes = s.axes := rfl
@[simp] theorem State.setG_outs : (s.setG t n v).outs = s.outs := rfl
@[simp] theorem State.setG_noLimit : (s.setG t n v).noLimit = s.noLimit := rfl
@[simp] theorem State.setG_bcastSeq : (s.setG t n v).bcastSeq = s.bcastSeq := rfl
@[simp] theorem State.setG_bcastAt : (s.setG t n v).bcastAt = s.bcastAt := rfl
@[simp] theorem State.setG_posSeqs : (s.setG t n v).posSeqs = s.posSeqs := rfl
@[simp] theorem State.setG_velN : (s.setG t n v).velN = s.velN := rfl
@[simp] theorem State.setG_cams : (s.setG t n v).cams = s.cams := rfl
@[simp] theorem State.setG_rings : (s.setG t n v).rings = s.rings := rfl
@[simp] theorem State.setG_cals : (s.setG t n v).cals = s.cals := rfl
@[simp] theorem State.setG_jes : (s.setG t n v).jes = s.jes := rfl
@[simp] theorem State.setG_conLim : (s.setG t n v).conLim = s.conLim := rfl
@[simp] theorem State.setG_hist : (s.setG t n v).hist = s.hist := rfl
@[simp] theorem State.setG_queued : (s.setG t n v).queued = s.queued := rfl
@[simp] theorem State.setG_jseqs : (s.setG t n v).jseqs = s.jseqs := rfl
@[simp] theorem State.setG_born : (s.setG t n v).born = s.born := rfl
@[simp] theorem State.setG_dies : (s.setG t n v).dies = s.dies := rfl
@[simp] theorem State.setG_vrings : (s.setG t n v).vrings = s.vrings := rfl
@[simp] theorem State.setG_ctxs : (s.setG t n v).ctxs = s.ctxs := rfl
@[simp] theorem State.setG_clus : (s.setG t n v).clus = s.clus := rfl
@[simp] theorem State.setG_sems : (s.setG t n v).sems = s.sems := rfl
@[simp] theorem State.setG_retired : (s.setG t n v).retired = s.retired := rfl
@[simp] theorem State.setG_pevt : (s.setG t n v).pevt = s.pevt := rfl
@[simp] theorem State.setG_sup : (s.setG t n v).sup = s.sup := rfl
@[simp] theorem State.setG_ops : (s.setG t n v).ops = s.ops := rfl
@[simp] theorem State.setG_opCount : (s.setG t n v).opCount = s.opCount := rfl
@[simp] theorem State.setG_lfsr : (s.setG t n v).lfsr = s.lfsr := rfl
@[simp] theorem State.setG_tiles : (s.setG t n v).tiles = s.tiles := rfl
@[simp] theorem State.setG_pps : (s.setG t n v).pps = s.pps := rfl
@[simp] theorem State.setG_expTurn : (s.setG t n v).expTurn = s.expTurn := rfl
@[simp] theorem State.setG_pools : (s.setG t n v).pools = s.pools := rfl
@[simp] theorem State.setG_mig : (s.setG t n v).mig = s.mig := rfl
@[simp] theorem State.setG_trained : (s.setG t n v).trained = s.trained := rfl
@[simp] theorem State.setG_rotAt : (s.setG t n v).rotAt = s.rotAt := rfl
@[simp] theorem State.setG_scrubQ : (s.setG t n v).scrubQ = s.scrubQ := rfl
@[simp] theorem State.setG_pendAdv : (s.setG t n v).pendAdv = s.pendAdv := rfl
@[simp] theorem State.setG_resid : (s.setG t n v).resid = s.resid := rfl
@[simp] theorem State.setG_ports : (s.setG t n v).ports = s.ports := rfl
@[simp] theorem State.setG_wrFail : (s.setG t n v).wrFail = s.wrFail := rfl
@[simp] theorem State.setG_keys : (s.setG t n v).keys = s.keys := rfl
@[simp] theorem State.setG_pcie : (s.setG t n v).pcie = s.pcie := rfl
@[simp] theorem State.setG_evrings : (s.setG t n v).evrings = s.evrings := rfl
@[simp] theorem State.setG_recs : (s.setG t n v).recs = s.recs := rfl
@[simp] theorem State.setG_health : (s.setG t n v).health = s.health := rfl
@[simp] theorem State.setG_badLines : (s.setG t n v).badLines = s.badLines := rfl
@[simp] theorem State.setG_spares : (s.setG t n v).spares = s.spares := rfl
@[simp] theorem State.setG_groupsOut : (s.setG t n v).groupsOut = s.groupsOut := rfl
@[simp] theorem State.setG_trust : (s.setG t n v).trust = s.trust := rfl
@[simp] theorem State.setG_tear : (s.setG t n v).tear = s.tear := rfl
@[simp] theorem State.setG_pmu : (s.setG t n v).pmu = s.pmu := rfl
@[simp] theorem State.setG_pins : (s.setG t n v).pins = s.pins := rfl

end

/-! ## State.wake changes threads alone -/

section

variable (s : State) (t : Nat)

@[simp] theorem State.wake_pending : (s.wake t).pending = s.pending := rfl
@[simp] theorem State.wake_freeCtr : (s.wake t).freeCtr = s.freeCtr := rfl
@[simp] theorem State.wake_time : (s.wake t).time = s.time := rfl
@[simp] theorem State.wake_regs : (s.wake t).regs = s.regs := rfl
@[simp] theorem State.wake_latch : (s.wake t).latch = s.latch := rfl
@[simp] theorem State.wake_lastRd : (s.wake t).lastRd = s.lastRd := rfl
@[simp] theorem State.wake_snap : (s.wake t).snap = s.snap := rfl
@[simp] theorem State.wake_held : (s.wake t).held = s.held := rfl
@[simp] theorem State.wake_mem : (s.wake t).mem = s.mem := rfl
@[simp] theorem State.wake_lines : (s.wake t).lines = s.lines := rfl
@[simp] theorem State.wake_host : (s.wake t).host = s.host := rfl
@[simp] theorem State.wake_flash : (s.wake t).flash = s.flash := rfl
@[simp] theorem State.wake_axes : (s.wake t).axes = s.axes := rfl
@[simp] theorem State.wake_outs : (s.wake t).outs = s.outs := rfl
@[simp] theorem State.wake_noLimit : (s.wake t).noLimit = s.noLimit := rfl
@[simp] theorem State.wake_bcastSeq : (s.wake t).bcastSeq = s.bcastSeq := rfl
@[simp] theorem State.wake_bcastAt : (s.wake t).bcastAt = s.bcastAt := rfl
@[simp] theorem State.wake_posSeqs : (s.wake t).posSeqs = s.posSeqs := rfl
@[simp] theorem State.wake_velN : (s.wake t).velN = s.velN := rfl
@[simp] theorem State.wake_cams : (s.wake t).cams = s.cams := rfl
@[simp] theorem State.wake_rings : (s.wake t).rings = s.rings := rfl
@[simp] theorem State.wake_cals : (s.wake t).cals = s.cals := rfl
@[simp] theorem State.wake_jes : (s.wake t).jes = s.jes := rfl
@[simp] theorem State.wake_conLim : (s.wake t).conLim = s.conLim := rfl
@[simp] theorem State.wake_hist : (s.wake t).hist = s.hist := rfl
@[simp] theorem State.wake_queued : (s.wake t).queued = s.queued := rfl
@[simp] theorem State.wake_jseqs : (s.wake t).jseqs = s.jseqs := rfl
@[simp] theorem State.wake_born : (s.wake t).born = s.born := rfl
@[simp] theorem State.wake_dies : (s.wake t).dies = s.dies := rfl
@[simp] theorem State.wake_vrings : (s.wake t).vrings = s.vrings := rfl
@[simp] theorem State.wake_ctxs : (s.wake t).ctxs = s.ctxs := rfl
@[simp] theorem State.wake_clus : (s.wake t).clus = s.clus := rfl
@[simp] theorem State.wake_sems : (s.wake t).sems = s.sems := rfl
@[simp] theorem State.wake_retired : (s.wake t).retired = s.retired := rfl
@[simp] theorem State.wake_pevt : (s.wake t).pevt = s.pevt := rfl
@[simp] theorem State.wake_sup : (s.wake t).sup = s.sup := rfl
@[simp] theorem State.wake_ops : (s.wake t).ops = s.ops := rfl
@[simp] theorem State.wake_opCount : (s.wake t).opCount = s.opCount := rfl
@[simp] theorem State.wake_lfsr : (s.wake t).lfsr = s.lfsr := rfl
@[simp] theorem State.wake_tiles : (s.wake t).tiles = s.tiles := rfl
@[simp] theorem State.wake_pps : (s.wake t).pps = s.pps := rfl
@[simp] theorem State.wake_expTurn : (s.wake t).expTurn = s.expTurn := rfl
@[simp] theorem State.wake_pools : (s.wake t).pools = s.pools := rfl
@[simp] theorem State.wake_mig : (s.wake t).mig = s.mig := rfl
@[simp] theorem State.wake_trained : (s.wake t).trained = s.trained := rfl
@[simp] theorem State.wake_rotAt : (s.wake t).rotAt = s.rotAt := rfl
@[simp] theorem State.wake_scrubQ : (s.wake t).scrubQ = s.scrubQ := rfl
@[simp] theorem State.wake_pendAdv : (s.wake t).pendAdv = s.pendAdv := rfl
@[simp] theorem State.wake_resid : (s.wake t).resid = s.resid := rfl
@[simp] theorem State.wake_ports : (s.wake t).ports = s.ports := rfl
@[simp] theorem State.wake_wrFail : (s.wake t).wrFail = s.wrFail := rfl
@[simp] theorem State.wake_keys : (s.wake t).keys = s.keys := rfl
@[simp] theorem State.wake_pcie : (s.wake t).pcie = s.pcie := rfl
@[simp] theorem State.wake_evrings : (s.wake t).evrings = s.evrings := rfl
@[simp] theorem State.wake_recs : (s.wake t).recs = s.recs := rfl
@[simp] theorem State.wake_health : (s.wake t).health = s.health := rfl
@[simp] theorem State.wake_badLines : (s.wake t).badLines = s.badLines := rfl
@[simp] theorem State.wake_spares : (s.wake t).spares = s.spares := rfl
@[simp] theorem State.wake_groupsOut : (s.wake t).groupsOut = s.groupsOut := rfl
@[simp] theorem State.wake_trust : (s.wake t).trust = s.trust := rfl
@[simp] theorem State.wake_tear : (s.wake t).tear = s.tear := rfl
@[simp] theorem State.wake_pmu : (s.wake t).pmu = s.pmu := rfl
@[simp] theorem State.wake_pins : (s.wake t).pins = s.pins := rfl

end

/-! ## State.setLine changes lines alone -/

section

variable (s : State) (k : Nat) (m : LineMeta)

@[simp] theorem State.setLine_pending : (s.setLine k m).pending = s.pending := rfl
@[simp] theorem State.setLine_freeCtr : (s.setLine k m).freeCtr = s.freeCtr := rfl
@[simp] theorem State.setLine_time : (s.setLine k m).time = s.time := rfl
@[simp] theorem State.setLine_regs : (s.setLine k m).regs = s.regs := rfl
@[simp] theorem State.setLine_latch : (s.setLine k m).latch = s.latch := rfl
@[simp] theorem State.setLine_lastRd : (s.setLine k m).lastRd = s.lastRd := rfl
@[simp] theorem State.setLine_snap : (s.setLine k m).snap = s.snap := rfl
@[simp] theorem State.setLine_held : (s.setLine k m).held = s.held := rfl
@[simp] theorem State.setLine_mem : (s.setLine k m).mem = s.mem := rfl
@[simp] theorem State.setLine_host : (s.setLine k m).host = s.host := rfl
@[simp] theorem State.setLine_flash : (s.setLine k m).flash = s.flash := rfl
@[simp] theorem State.setLine_axes : (s.setLine k m).axes = s.axes := rfl
@[simp] theorem State.setLine_outs : (s.setLine k m).outs = s.outs := rfl
@[simp] theorem State.setLine_noLimit : (s.setLine k m).noLimit = s.noLimit := rfl
@[simp] theorem State.setLine_bcastSeq : (s.setLine k m).bcastSeq = s.bcastSeq := rfl
@[simp] theorem State.setLine_bcastAt : (s.setLine k m).bcastAt = s.bcastAt := rfl
@[simp] theorem State.setLine_posSeqs : (s.setLine k m).posSeqs = s.posSeqs := rfl
@[simp] theorem State.setLine_velN : (s.setLine k m).velN = s.velN := rfl
@[simp] theorem State.setLine_cams : (s.setLine k m).cams = s.cams := rfl
@[simp] theorem State.setLine_rings : (s.setLine k m).rings = s.rings := rfl
@[simp] theorem State.setLine_cals : (s.setLine k m).cals = s.cals := rfl
@[simp] theorem State.setLine_jes : (s.setLine k m).jes = s.jes := rfl
@[simp] theorem State.setLine_conLim : (s.setLine k m).conLim = s.conLim := rfl
@[simp] theorem State.setLine_hist : (s.setLine k m).hist = s.hist := rfl
@[simp] theorem State.setLine_queued : (s.setLine k m).queued = s.queued := rfl
@[simp] theorem State.setLine_jseqs : (s.setLine k m).jseqs = s.jseqs := rfl
@[simp] theorem State.setLine_born : (s.setLine k m).born = s.born := rfl
@[simp] theorem State.setLine_dies : (s.setLine k m).dies = s.dies := rfl
@[simp] theorem State.setLine_vrings : (s.setLine k m).vrings = s.vrings := rfl
@[simp] theorem State.setLine_ctxs : (s.setLine k m).ctxs = s.ctxs := rfl
@[simp] theorem State.setLine_clus : (s.setLine k m).clus = s.clus := rfl
@[simp] theorem State.setLine_sems : (s.setLine k m).sems = s.sems := rfl
@[simp] theorem State.setLine_threads : (s.setLine k m).threads = s.threads := rfl
@[simp] theorem State.setLine_retired : (s.setLine k m).retired = s.retired := rfl
@[simp] theorem State.setLine_pevt : (s.setLine k m).pevt = s.pevt := rfl
@[simp] theorem State.setLine_sup : (s.setLine k m).sup = s.sup := rfl
@[simp] theorem State.setLine_ops : (s.setLine k m).ops = s.ops := rfl
@[simp] theorem State.setLine_opCount : (s.setLine k m).opCount = s.opCount := rfl
@[simp] theorem State.setLine_lfsr : (s.setLine k m).lfsr = s.lfsr := rfl
@[simp] theorem State.setLine_tiles : (s.setLine k m).tiles = s.tiles := rfl
@[simp] theorem State.setLine_pps : (s.setLine k m).pps = s.pps := rfl
@[simp] theorem State.setLine_expTurn : (s.setLine k m).expTurn = s.expTurn := rfl
@[simp] theorem State.setLine_pools : (s.setLine k m).pools = s.pools := rfl
@[simp] theorem State.setLine_mig : (s.setLine k m).mig = s.mig := rfl
@[simp] theorem State.setLine_trained : (s.setLine k m).trained = s.trained := rfl
@[simp] theorem State.setLine_rotAt : (s.setLine k m).rotAt = s.rotAt := rfl
@[simp] theorem State.setLine_scrubQ : (s.setLine k m).scrubQ = s.scrubQ := rfl
@[simp] theorem State.setLine_pendAdv : (s.setLine k m).pendAdv = s.pendAdv := rfl
@[simp] theorem State.setLine_resid : (s.setLine k m).resid = s.resid := rfl
@[simp] theorem State.setLine_ports : (s.setLine k m).ports = s.ports := rfl
@[simp] theorem State.setLine_wrFail : (s.setLine k m).wrFail = s.wrFail := rfl
@[simp] theorem State.setLine_keys : (s.setLine k m).keys = s.keys := rfl
@[simp] theorem State.setLine_pcie : (s.setLine k m).pcie = s.pcie := rfl
@[simp] theorem State.setLine_evrings : (s.setLine k m).evrings = s.evrings := rfl
@[simp] theorem State.setLine_recs : (s.setLine k m).recs = s.recs := rfl
@[simp] theorem State.setLine_health : (s.setLine k m).health = s.health := rfl
@[simp] theorem State.setLine_badLines : (s.setLine k m).badLines = s.badLines := rfl
@[simp] theorem State.setLine_spares : (s.setLine k m).spares = s.spares := rfl
@[simp] theorem State.setLine_groupsOut : (s.setLine k m).groupsOut = s.groupsOut := rfl
@[simp] theorem State.setLine_trust : (s.setLine k m).trust = s.trust := rfl
@[simp] theorem State.setLine_tear : (s.setLine k m).tear = s.tear := rfl
@[simp] theorem State.setLine_pmu : (s.setLine k m).pmu = s.pmu := rfl
@[simp] theorem State.setLine_pins : (s.setLine k m).pins = s.pins := rfl

end

/-! ## State.setByte changes mem alone -/

section

variable (s : State) (k : Nat) (v : Byte)

@[simp] theorem State.setByte_pending : (s.setByte k v).pending = s.pending := rfl
@[simp] theorem State.setByte_freeCtr : (s.setByte k v).freeCtr = s.freeCtr := rfl
@[simp] theorem State.setByte_time : (s.setByte k v).time = s.time := rfl
@[simp] theorem State.setByte_regs : (s.setByte k v).regs = s.regs := rfl
@[simp] theorem State.setByte_latch : (s.setByte k v).latch = s.latch := rfl
@[simp] theorem State.setByte_lastRd : (s.setByte k v).lastRd = s.lastRd := rfl
@[simp] theorem State.setByte_snap : (s.setByte k v).snap = s.snap := rfl
@[simp] theorem State.setByte_held : (s.setByte k v).held = s.held := rfl
@[simp] theorem State.setByte_lines : (s.setByte k v).lines = s.lines := rfl
@[simp] theorem State.setByte_host : (s.setByte k v).host = s.host := rfl
@[simp] theorem State.setByte_flash : (s.setByte k v).flash = s.flash := rfl
@[simp] theorem State.setByte_axes : (s.setByte k v).axes = s.axes := rfl
@[simp] theorem State.setByte_outs : (s.setByte k v).outs = s.outs := rfl
@[simp] theorem State.setByte_noLimit : (s.setByte k v).noLimit = s.noLimit := rfl
@[simp] theorem State.setByte_bcastSeq : (s.setByte k v).bcastSeq = s.bcastSeq := rfl
@[simp] theorem State.setByte_bcastAt : (s.setByte k v).bcastAt = s.bcastAt := rfl
@[simp] theorem State.setByte_posSeqs : (s.setByte k v).posSeqs = s.posSeqs := rfl
@[simp] theorem State.setByte_velN : (s.setByte k v).velN = s.velN := rfl
@[simp] theorem State.setByte_cams : (s.setByte k v).cams = s.cams := rfl
@[simp] theorem State.setByte_rings : (s.setByte k v).rings = s.rings := rfl
@[simp] theorem State.setByte_cals : (s.setByte k v).cals = s.cals := rfl
@[simp] theorem State.setByte_jes : (s.setByte k v).jes = s.jes := rfl
@[simp] theorem State.setByte_conLim : (s.setByte k v).conLim = s.conLim := rfl
@[simp] theorem State.setByte_hist : (s.setByte k v).hist = s.hist := rfl
@[simp] theorem State.setByte_queued : (s.setByte k v).queued = s.queued := rfl
@[simp] theorem State.setByte_jseqs : (s.setByte k v).jseqs = s.jseqs := rfl
@[simp] theorem State.setByte_born : (s.setByte k v).born = s.born := rfl
@[simp] theorem State.setByte_dies : (s.setByte k v).dies = s.dies := rfl
@[simp] theorem State.setByte_vrings : (s.setByte k v).vrings = s.vrings := rfl
@[simp] theorem State.setByte_ctxs : (s.setByte k v).ctxs = s.ctxs := rfl
@[simp] theorem State.setByte_clus : (s.setByte k v).clus = s.clus := rfl
@[simp] theorem State.setByte_sems : (s.setByte k v).sems = s.sems := rfl
@[simp] theorem State.setByte_threads : (s.setByte k v).threads = s.threads := rfl
@[simp] theorem State.setByte_retired : (s.setByte k v).retired = s.retired := rfl
@[simp] theorem State.setByte_pevt : (s.setByte k v).pevt = s.pevt := rfl
@[simp] theorem State.setByte_sup : (s.setByte k v).sup = s.sup := rfl
@[simp] theorem State.setByte_ops : (s.setByte k v).ops = s.ops := rfl
@[simp] theorem State.setByte_opCount : (s.setByte k v).opCount = s.opCount := rfl
@[simp] theorem State.setByte_lfsr : (s.setByte k v).lfsr = s.lfsr := rfl
@[simp] theorem State.setByte_tiles : (s.setByte k v).tiles = s.tiles := rfl
@[simp] theorem State.setByte_pps : (s.setByte k v).pps = s.pps := rfl
@[simp] theorem State.setByte_expTurn : (s.setByte k v).expTurn = s.expTurn := rfl
@[simp] theorem State.setByte_pools : (s.setByte k v).pools = s.pools := rfl
@[simp] theorem State.setByte_mig : (s.setByte k v).mig = s.mig := rfl
@[simp] theorem State.setByte_trained : (s.setByte k v).trained = s.trained := rfl
@[simp] theorem State.setByte_rotAt : (s.setByte k v).rotAt = s.rotAt := rfl
@[simp] theorem State.setByte_scrubQ : (s.setByte k v).scrubQ = s.scrubQ := rfl
@[simp] theorem State.setByte_pendAdv : (s.setByte k v).pendAdv = s.pendAdv := rfl
@[simp] theorem State.setByte_resid : (s.setByte k v).resid = s.resid := rfl
@[simp] theorem State.setByte_ports : (s.setByte k v).ports = s.ports := rfl
@[simp] theorem State.setByte_wrFail : (s.setByte k v).wrFail = s.wrFail := rfl
@[simp] theorem State.setByte_keys : (s.setByte k v).keys = s.keys := rfl
@[simp] theorem State.setByte_pcie : (s.setByte k v).pcie = s.pcie := rfl
@[simp] theorem State.setByte_evrings : (s.setByte k v).evrings = s.evrings := rfl
@[simp] theorem State.setByte_recs : (s.setByte k v).recs = s.recs := rfl
@[simp] theorem State.setByte_health : (s.setByte k v).health = s.health := rfl
@[simp] theorem State.setByte_badLines : (s.setByte k v).badLines = s.badLines := rfl
@[simp] theorem State.setByte_spares : (s.setByte k v).spares = s.spares := rfl
@[simp] theorem State.setByte_groupsOut : (s.setByte k v).groupsOut = s.groupsOut := rfl
@[simp] theorem State.setByte_trust : (s.setByte k v).trust = s.trust := rfl
@[simp] theorem State.setByte_tear : (s.setByte k v).tear = s.tear := rfl
@[simp] theorem State.setByte_pmu : (s.setByte k v).pmu = s.pmu := rfl
@[simp] theorem State.setByte_pins : (s.setByte k v).pins = s.pins := rfl

end

/-! ## State.fresh advances the counter of free values alone -/

section

variable (s : State)

@[simp] theorem State.fresh_fst : s.fresh.1 = s.freeCtr := rfl
@[simp] theorem State.fresh_pending : s.fresh.2.pending = s.pending := rfl
@[simp] theorem State.fresh_freeCtr : s.fresh.2.freeCtr = s.freeCtr + 1 := rfl
@[simp] theorem State.fresh_time : s.fresh.2.time = s.time := rfl
@[simp] theorem State.fresh_regs : s.fresh.2.regs = s.regs := rfl
@[simp] theorem State.fresh_latch : s.fresh.2.latch = s.latch := rfl
@[simp] theorem State.fresh_lastRd : s.fresh.2.lastRd = s.lastRd := rfl
@[simp] theorem State.fresh_snap : s.fresh.2.snap = s.snap := rfl
@[simp] theorem State.fresh_held : s.fresh.2.held = s.held := rfl
@[simp] theorem State.fresh_mem : s.fresh.2.mem = s.mem := rfl
@[simp] theorem State.fresh_lines : s.fresh.2.lines = s.lines := rfl
@[simp] theorem State.fresh_host : s.fresh.2.host = s.host := rfl
@[simp] theorem State.fresh_flash : s.fresh.2.flash = s.flash := rfl
@[simp] theorem State.fresh_axes : s.fresh.2.axes = s.axes := rfl
@[simp] theorem State.fresh_outs : s.fresh.2.outs = s.outs := rfl
@[simp] theorem State.fresh_noLimit : s.fresh.2.noLimit = s.noLimit := rfl
@[simp] theorem State.fresh_bcastSeq : s.fresh.2.bcastSeq = s.bcastSeq := rfl
@[simp] theorem State.fresh_bcastAt : s.fresh.2.bcastAt = s.bcastAt := rfl
@[simp] theorem State.fresh_posSeqs : s.fresh.2.posSeqs = s.posSeqs := rfl
@[simp] theorem State.fresh_velN : s.fresh.2.velN = s.velN := rfl
@[simp] theorem State.fresh_cams : s.fresh.2.cams = s.cams := rfl
@[simp] theorem State.fresh_rings : s.fresh.2.rings = s.rings := rfl
@[simp] theorem State.fresh_cals : s.fresh.2.cals = s.cals := rfl
@[simp] theorem State.fresh_jes : s.fresh.2.jes = s.jes := rfl
@[simp] theorem State.fresh_conLim : s.fresh.2.conLim = s.conLim := rfl
@[simp] theorem State.fresh_hist : s.fresh.2.hist = s.hist := rfl
@[simp] theorem State.fresh_queued : s.fresh.2.queued = s.queued := rfl
@[simp] theorem State.fresh_jseqs : s.fresh.2.jseqs = s.jseqs := rfl
@[simp] theorem State.fresh_born : s.fresh.2.born = s.born := rfl
@[simp] theorem State.fresh_dies : s.fresh.2.dies = s.dies := rfl
@[simp] theorem State.fresh_vrings : s.fresh.2.vrings = s.vrings := rfl
@[simp] theorem State.fresh_ctxs : s.fresh.2.ctxs = s.ctxs := rfl
@[simp] theorem State.fresh_clus : s.fresh.2.clus = s.clus := rfl
@[simp] theorem State.fresh_sems : s.fresh.2.sems = s.sems := rfl
@[simp] theorem State.fresh_threads : s.fresh.2.threads = s.threads := rfl
@[simp] theorem State.fresh_retired : s.fresh.2.retired = s.retired := rfl
@[simp] theorem State.fresh_pevt : s.fresh.2.pevt = s.pevt := rfl
@[simp] theorem State.fresh_sup : s.fresh.2.sup = s.sup := rfl
@[simp] theorem State.fresh_ops : s.fresh.2.ops = s.ops := rfl
@[simp] theorem State.fresh_opCount : s.fresh.2.opCount = s.opCount := rfl
@[simp] theorem State.fresh_lfsr : s.fresh.2.lfsr = s.lfsr := rfl
@[simp] theorem State.fresh_tiles : s.fresh.2.tiles = s.tiles := rfl
@[simp] theorem State.fresh_pps : s.fresh.2.pps = s.pps := rfl
@[simp] theorem State.fresh_expTurn : s.fresh.2.expTurn = s.expTurn := rfl
@[simp] theorem State.fresh_pools : s.fresh.2.pools = s.pools := rfl
@[simp] theorem State.fresh_mig : s.fresh.2.mig = s.mig := rfl
@[simp] theorem State.fresh_trained : s.fresh.2.trained = s.trained := rfl
@[simp] theorem State.fresh_rotAt : s.fresh.2.rotAt = s.rotAt := rfl
@[simp] theorem State.fresh_scrubQ : s.fresh.2.scrubQ = s.scrubQ := rfl
@[simp] theorem State.fresh_pendAdv : s.fresh.2.pendAdv = s.pendAdv := rfl
@[simp] theorem State.fresh_resid : s.fresh.2.resid = s.resid := rfl
@[simp] theorem State.fresh_ports : s.fresh.2.ports = s.ports := rfl
@[simp] theorem State.fresh_wrFail : s.fresh.2.wrFail = s.wrFail := rfl
@[simp] theorem State.fresh_keys : s.fresh.2.keys = s.keys := rfl
@[simp] theorem State.fresh_pcie : s.fresh.2.pcie = s.pcie := rfl
@[simp] theorem State.fresh_evrings : s.fresh.2.evrings = s.evrings := rfl
@[simp] theorem State.fresh_recs : s.fresh.2.recs = s.recs := rfl
@[simp] theorem State.fresh_health : s.fresh.2.health = s.health := rfl
@[simp] theorem State.fresh_badLines : s.fresh.2.badLines = s.badLines := rfl
@[simp] theorem State.fresh_spares : s.fresh.2.spares = s.spares := rfl
@[simp] theorem State.fresh_groupsOut : s.fresh.2.groupsOut = s.groupsOut := rfl
@[simp] theorem State.fresh_trust : s.fresh.2.trust = s.trust := rfl
@[simp] theorem State.fresh_tear : s.fresh.2.tear = s.tear := rfl
@[simp] theorem State.fresh_pmu : s.fresh.2.pmu = s.pmu := rfl
@[simp] theorem State.fresh_pins : s.fresh.2.pins = s.pins := rfl

end

/-! ## What is written is read -/

section

variable (s : State)

@[simp] theorem State.rd_wr_same (off : Nat) (v : W64) : (s.wr off v).rd off = v := Sparse.get_set_same _ _ _ _
theorem State.rd_wr_other {off k : Nat} (v : W64) (h : k ≠ off) : (s.wr off v).rd k = s.rd k := Sparse.get_set_other _ _ _ h
@[simp] theorem State.rd_wf_same (off hi lo x : Nat) : (s.wf off hi lo x).rd off = setFld (s.rd off) hi lo x := Sparse.get_set_same _ _ _ _
theorem State.rd_wf_other {off k : Nat} (hi lo x : Nat) (h : k ≠ off) : (s.wf off hi lo x).rd k = s.rd k := Sparse.get_set_other _ _ _ h
@[simp] theorem State.rd_wb_same (off i : Nat) (b : Bool) : (s.wb off i b).rd off = setBit (s.rd off) i b := Sparse.get_set_same _ _ _ _
theorem State.rd_wb_other {off k : Nat} (i : Nat) (b : Bool) (h : k ≠ off) : (s.wb off i b).rd k = s.rd k := Sparse.get_set_other _ _ _ h
@[simp] theorem State.rd_sat_same (off hi lo n : Nat) : (s.sat off hi lo n).rd off = satFld (s.rd off) hi lo n := Sparse.get_set_same _ _ _ _
theorem State.rd_sat_other {off k : Nat} (hi lo n : Nat) (h : k ≠ off) : (s.sat off hi lo n).rd k = s.rd k := Sparse.get_set_other _ _ _ h
@[simp] theorem State.rd_inc_same (off hi lo n : Nat) : (s.inc off hi lo n).rd off = wrapFld (s.rd off) hi lo n := Sparse.get_set_same _ _ _ _
theorem State.rd_inc_other {off k : Nat} (hi lo n : Nat) (h : k ≠ off) : (s.inc off hi lo n).rd k = s.rd k := Sparse.get_set_other _ _ _ h
@[simp] theorem State.byte_setByte_same (k : Nat) (v : Byte) : (s.setByte k v).byte k = v := Sparse.get_set_same _ _ _ _
theorem State.byte_setByte_other {k j : Nat} (v : Byte) (h : j ≠ k) : (s.setByte k v).byte j = s.byte j := Sparse.get_set_other _ _ _ h
@[simp] theorem State.key_setKey_same (p : Nat) (x : Keys) : (s.setKey p x).key p = x := Sparse.get_set_same _ _ _ _
theorem State.key_setKey_other {p k : Nat} (x : Keys) (h : k ≠ p) : (s.setKey p x).key k = s.key k := Sparse.get_set_other _ _ _ h
@[simp] theorem State.axis_setAxis_same (n : Nat) (x : AxisX) : (s.setAxis n x).axis n = x := Sparse.get_set_same _ _ _ _
@[simp] theorem State.out_setOut_same (o : Nat) (x : OutX) : (s.setOut o x).out o = x := Sparse.get_set_same _ _ _ _
@[simp] theorem State.port_setPort_same (q : Nat) (x : Port) : (s.setPort q x).port q = x := Sparse.get_set_same _ _ _ _

end

end Sys2Proof.Machine
end

