-- ==== Sys2Proof/Tests/Slice0.lean ====
section
/-! SUPPORT. Tests of the model: for every statement with hypotheses, concrete states and operands that meet them together (one
theorem a statement, one conjunct for each of its clauses); an ill-formed term that each check of WellFormed refuses; and a few
worked values of the spec. -/

namespace Sys2Proof.Tests

open Sys2Proof Machine

/-- Powered, with every clock running: the supervisor program runs, cluster 0 is partition 1's and runs its base thread. -/
def on : State :=
  let s := { State.reset with time := 100000000, pmu := { State.reset.pmu with on := true }, sup := { State.reset.sup with st := .run },
                              clus := [(0, { State.reset.clu 0 with running := some 64 })] }
  (((s.wr Addr.clkLive 0xFFFFFFFFFFFFFFFF).wr (Addr.cluStat 0) 0x101).wr (Addr.truPartStat 1) 1).wr (Addr.cluBasectl 0) 1

/-- The same with a register of thread t set. -/
def withG (s : State) (t : Nat) (n : Reg) (v : W64) : State := s.setThread t ((s.thread t).setG n v)

/-- A job of partition 1. -/
def job1 : Job := { job0 with part := 1, client := 5, die := 0, jseq := 7 }

/-- The same device, with job 1 running in context 3 of cluster 0. -/
def onJob : State := (on.setClu 0 { on.clu 0 with running := some 3 }).setCtx 0 3 { ctx0 with st := .run, job := job1 }

/-- A device whose thread t has an exception handler. -/
def handled (s : State) (t : Nat) : State := s.setThread t { s.thread t with ehand := 0x104, pc := 0x40 }

/-- A device whose base thread 64 has g1 and g2 set. -/
def two (a b : W64) : State := withG (withG on 64 1 a) 64 2 b

/-- An op of thread t in flight. -/
def op1 (t : Nat) : Op :=
  { uid := 1, th := t, part := 1, serial := 1, cls := 1, opc := 0, np := false, rb := false, st := false, npb := 0, dD := 0, dA := 0, dB := 0,
    dX := 0, pb := [], units := 1, unit := 0, segs := [], dst := [], srcs := [], start := none, done := false, rows := [], tries := [],
    moved := 0, resend := 0, xfer := none, late := false, status := 0, flags := 0, count := 0, aux := [], vals := [], dmg := [], corrupt := false, seeded := [] }

/-- A device with one op in flight. -/
def busy (s : State) (t : Nat) : State := { s with ops := [op1 t] }

/-- Thread t has tickets 1 (pending) and 2 (completed), and g1 names ticket n. -/
def ticket (s : State) (t n : Nat) : State :=
  s.setThread t { (s.thread t).setG 1 (BitVec.ofNat 64 (t * 2 ^ 32 + n)) with serial := 3, tkts := [⟨1, 1, 0⟩, ⟨2, 0, 3⟩] }

/-- Partition 1 sees global SRAM from 0x20000 at 0 and its cluster's SRAM at 0x100000. -/
def mapped (s : State) : State :=
  ((((((s.wr (Addr.glbSegCfg 1 0) 0xB00000001).wr (Addr.glbSegPa 1 0) 0).wr (Addr.glbSegTa 1 0) 0x20000).wr (Addr.glbSegCfg 1 1) 0xB00000080).wr
    (Addr.glbSegPa 1 1) 0x100000).wr (Addr.glbSegTa 1 1) 0x10000000)

/-- A line of on-chip memory is valid, tagged, and holds the given bytes. -/
def filled (s : State) (d tag : Nat) (bs : List Byte) : State := (s.setLine d ⟨true, tag, 0, false, false⟩).setBytes d bs

/-- Memory at 0x20000 holds 32 bytes that partition 1 may reach at 0. -/
def ldst (s : State) : State := filled (mapped s) 0x20000 1 (bytesOf 8 0x8182838485868788 ++ bytesOf 8 0xF0F1F2F3F4F5F6F7 ++ bytesOf 16 5)

/-- Thread t's g1 names a block in its cluster's SRAM that holds the bytes b. -/
def block (s : State) (t : Nat) (b : List Byte) : State := withG (filled (mapped s) 0x10000000 1 b) t 1 0x100000

/-- The state after the block of thread t has been read. -/
def blockRead (s : State) (t : Nat) (b : List Byte) (n : Nat) : State := ((block s t b).readMem ((block s t b).thPart t) 0x10000000 n 0).s

/-- The same context with another job. -/
def withJob (s : State) (j : Job) : State := s.setCtx 0 3 { s.ctx 0 3 with job := j }

/-- A PASS record for entry 0, DATA 5, its age from now on, without a deadline. -/
def passRec : List Byte := fit 64 ([0, 0, 0, 0, 16] ++ zeros 11 ++ bytesOf 16 100000000 ++ [5])

/-- A device whose partition 1 has a valid model-table entry 0 and 16. -/
def models (s : State) : State :=
  filled (filled (s.wr (Addr.vdlPartMtab 1) 0x20000) 0x20000 1 (zeros 16 ++ [1])) 0x20200 1 (zeros 16 ++ [1])

/-- VERD OPEN's block: die 0x11223344 on ring 7, falling, END 5. -/
def openRec : List Byte := fit 32 ([0x44, 0x33, 0x22, 0x11, 7, 1, 0, 0, 5])

/-- Partition 1 owns ring 7, both enabled, with a quota of n entries. -/
def ledger (s : State) (n : Nat) : State := (s.wf (Addr.vdlRingCfg 7) 3 0 3).wr (Addr.vdlPartCfg 1) (BitVec.ofNat 64 (n * 2 ^ 32 + 1))

/-- Die entry 9 is open, generation 1, partition 1's; job 3 belongs to it. -/
def open9 (posted : Nat) : State := withJob (onJob.setDie 9 { die0 with st := .opened, gen := 1, part := 1 }) { job1 with die := 4105, posted := posted }

/-- PARM's block: TGT 7, STEP 0, CTL c. -/
def parmRec (c : Nat) : List Byte := bytesOf 8 7 ++ bytesOf 8 0 ++ bytesOf 16 c

/-- Slot k belongs to partition 1. -/
def slotOwned (s : State) (k : Nat) : State := s.wf (Addr.ptbSlotCtl k) 58 56 1

/-- Ring 7 of partition 1 has die entry 9 posted, the link is up and mover 0 of cluster 0 is in service. -/
def posted9 : State :=
  (((ledger ((on.setDie 9 { die0 with st := .held, gen := 1, part := 1, ring := 7 }).setVring 7 { vring0 with q := [9] }) 5).wb Addr.pciLink 8 true).wb
    (Addr.dmMvStat 0 0) 0 true).wr (Addr.vdlRingBase 7) 0x1000

/-- Axis n counts its own encoder. -/
def axisOn (s : State) (n : Nat) (v : W64) : State := (s.wr (Addr.ptbAxCfg n) 1).wr (Addr.ptbAxCnt n) v

/-- Slot k is armed and periodic: STEP 2, target 10, r fires remain. -/
def armed (s : State) (k r : Nat) : State :=
  (((s.wr (Addr.ptbSlotCtl k) (BitVec.ofNat 64 (0x15 + r * 2 ^ 40))).wb (Addr.ptbSlotStat k) 32 true).wr (Addr.ptbSlotStep k) 2).wr (Addr.ptbSlotTgt k) 10

/-- Output o has one pulse pending, or running. -/
def pulsing (o t : Nat) (run : Bool) : State :=
  let p : Pulse := ⟨t, t, 0, 0, [], []⟩
  on.setOut o (if run then { out0 with run := some p } else { out0 with q := [p] })

/-- Axis n follows another device's axis. -/
def follower (n phase hold : Nat) : State := (on.wr (Addr.ptbAxCfg n) 3).setAxis n { axis0 with phase := phase, hold := hold, pv := -1 }

/-- The owner of the position packets, of axis 3. -/
def sender : State := on.wr Addr.ptbBcastCfg 0x6408

/-- A position packet's block. -/
def posBlock : Block := { dst := 0x1FF, src := 3, plen := 16, type := 8, vc := 1, last := true, seq := 0, dom := 9, epoch := 1, off := 0, ctr := 1, payload := zeros 16, tag := [] }

/-- Camera k is enabled on connection n alone, whose lock is up. -/
def camera (s : State) (k n : Nat) : State :=
  ((((s.wr (Addr.cxpCamCfg k) (BitVec.ofNat 64 (1 + n * 2 + 0x10000000))).wr (Addr.ingCamCfg k) 1).wr (Addr.cxpConCfg n) 0x101).wr (Addr.cxpConStat n) 1).setCam k
    { cam0 with applied := true }

/-- A queued job of partition 1. -/
def waiting (prio born : Nat) : Job := { job1 with prio := prio, born := born }

/-- The base thread of cluster 0 is about to issue the fill operation (cls, opc) of 64 bytes at 0x100040 of its cluster. -/
def fillState (cls opc : Nat) : State :=
  let s := ((block on 64 (fit 64 (bytesOf 2 (cls * 64 + opc)))).wb (Addr.dmMvStat 0 0) 0 true).wb (Addr.veEngStat 0 0) 0 true
  s.setThread 64 ((s.thread 64).setD 0 (BitVec.ofNat 256 (0x100040 + 9 * 2 ^ 48 + 63 * 2 ^ 60)))

/-- The fields of a tile-issue instruction with parameter block register r. -/
def tiAt (r : Reg) : TiFields := { dst := 0, srca := 0, srcb := 0, np := false, rb := false, st := false, pb := r, flt := 0 }

/-- The fill as an op that has started. -/
def fillOp (cls opc : Nat) : Op :=
  { op1 64 with cls := cls, opc := opc, units := 0, dD := BitVec.ofNat 256 (0x100040 + 9 * 2 ^ 48 + 63 * 2 ^ 60), pb := fit 64 (bytesOf 2 (cls * 64 + opc)),
                segs := (fillState cls opc).segsOf 1, start := some 100000000, dst := [⟨0x10000040, 0x10000080⟩] }

/-- A device on which one op runs. -/
def running (o : Op) : State := { fillState o.cls o.opc with ops := [o], opCount := 2 }

/-- Partition 1's pool of class q has n objects of memory at 0x40000, the objects l free. -/
def pooled (q n : Nat) (l : List Nat) : State :=
  ((on.wr (poolCfg 1 q) (BitVec.ofNat 64 (0x80000000 + n))).setPool (poolKey 1 q) l)

/-- DDR5 is configured and its initial write is over. -/
def ddr : State := (on.wb Addr.memCfg 0 true).wb Addr.memStat 0 true

/-- Slot 5 moves from channel 5 to spare channel 25, cp units copied. -/
def moving (cp : Nat) : State := { ddr with mig := some ⟨5, 5, 25, false, cp, false⟩ }

/-- The rotation is on, channel 24 is spare and 0 in use. -/
def rotating (t : Nat) : State := { ((ddr.wb Addr.memRotCfg 0 true).setRole 0 0).setRole 24 1 with time := t }

/-- A block for this device, in domain 9. -/
def blk (type seq : Nat) : Block := { posBlock with type := type, seq := seq, src := 3, dst := 0x1FF, plen := 64 }

/-- Port q carries blocks on two lanes; its state is x. -/
def portOn (q : Nat) (x : Port) : State := (on.setPortState q 2).setPort q x

/-- Port 3 has received the block b; domain 9 is partition 1's. -/
def received (b : Block) : State := (portOn 3 { port0 with rx := [(b, 0)] }).wr (Addr.fabPartDom 1) 9

/-- The trust unit holds the fabric key of epoch 1 of partition 1. -/
def keyed (s : State) : State := (s.setKey 1 { keys0 with fab := [⟨1, zeros 32, none⟩] }).wf (Addr.fabPartEpoch 1) 7 0 1

/-- The link is up with every function enumerated. -/
def linked : State := { on.wb Addr.pciLink 8 true with pcie := { pcie0 with nfunc := some 5 } }

/-- The device has two free clusters, 1 and 2, and partition 1 owns cluster 0, which is idle. -/
def parts : State :=
  { ((linked.wr (Addr.cluStat 1) 0x100).wr (Addr.cluStat 2) 0x100).wr (Addr.cluBasectl 0) 2 with clus := [] }

/-- Phase ph of an entry to sleep state st, with wake event 2 pending where w. -/
def sleeping (ph st : Nat) (w : Bool) : State :=
  { on.setPhase ph with pmu := { on.pmu with req := st, wakes := if w then [(2, 0)] else [] } }

/-- The first DDR5 address lies in DDR5 on either device of the family. -/
theorem region_ddrBase : region 0x1000000000 = .ddr := by
  have h : 0 < ddrCap := by unfold ddrCap; split <;> decide
  unfold region ddrBase
  rw [if_neg (by omega), if_neg (by omega), if_pos (by omega)]

/-- The host window lies above DDR5. -/
theorem region_host (a : Nat) (h : 0x7E0000000000 ≤ a) (h2 : a < 0x7F0000000000) : region a = .host := by
  have h1 : ddrCap ≤ 0x1800000000 := by unfold ddrCap; split <;> decide
  unfold region ddrBase
  rw [if_neg (by omega), if_neg (by omega), if_neg (by omega), if_neg (by omega), if_pos (by omega)]

/-- A slot has some copy units, and at most 2^20. -/
theorem slotUnits_range (s : State) : 0 < s.slotUnits ∧ s.slotUnits ≤ 8388608 := by
  have h : ddrCap = 0x1800000000 ∨ ddrCap = 0xC00000000 := by unfold ddrCap; split <;> simp
  unfold State.slotUnits chanCap; split <;> omega

/-- A fill whose source is host memory. -/
def hop : Op := { fillOp 7 0 with dA := BitVec.ofNat 256 (0x200000 + 9 * 2 ^ 48 + 63 * 2 ^ 60), segs := [⟨0x200000, 0x7E0000000000, 65536, true, true⟩, ⟨0x100000, 0x10000000, 0x800000, true, true⟩] }

theorem hop_reads : (running hop).readsHost hop = true := by
  have h : (running hop).runs hop = [⟨0x200000, 0x100040, 64, 0⟩] := by decide
  have h1 : hop.devFor .read 0x200000 1 = some 0x7E0000000000 := by decide
  have h2 : hop.is 7 1 = false := by decide
  have h3 : hop.enc = false := by decide
  have h4 : hop.moved = 0 := by decide
  simp [State.readsHost, State.nextBlock, h, h4, dropRuns, takeBlock, h3, Op.srcWin, h2, h1, window, region_host]

/-- A line of DDR5 that memory answers. -/
theorem ddr_line : (region 0x1000000000 = .ddr ∧ ddr.memAddr 0x1000000000 = true ∧ ddr.ddrUp 0x1000000000 = true ∧ (ddr.line (ddr.rkey 0x1000000000)).bad = false ∧ (ddr.line (ddr.rkey 0x1000000000)).poison = false ∧ (ddr.line (ddr.rkey 0x1000000000)).gen = ddr.gen 0 ∧ scrubRegion 0x1000000000 = 0) := by
  have h : ddr.rkey 0x1000000000 = chanKey 0 0 := by
    simp only [State.rkey, region_ddrBase]; decide
  have h2 : ddr.ddrLimit = ddrCap := by
    unfold State.ddrLimit; rw [if_neg (by decide)]
  have h3 : 0 < ddrCap := by unfold ddrCap; split <;> decide
  refine ⟨region_ddrBase, ?_, by decide, by rw [h]; decide, by rw [h]; decide, by rw [h]; decide, by decide⟩
  simp only [State.memAddr, region_ddrBase, h2]; exact decide_eq_true (by simpa [ddrBase] using h3)

theorem witness_StepRunsFrontCommand :
    (({ State.reset with pending := [.jtagBypass, .powerUp] }).pending = .jtagBypass :: [.powerUp]) ∧
    (State.reset.pending = [] ∧ State.reset.pmu.on = false) ∧
    (on.pending = [] ∧ on.clk 8 = true) :=
  ⟨by decide,
   by decide,
   by decide⟩

theorem witness_ConstantRegisters :
    ((31 : Reg) ≠ 0 ∧ (7 : BitVec 3) ≠ 0 ∧ (31 : Reg) ≠ 30) :=
  by decide

theorem witness_IntegerOperations :
    ((okTid 64 = true ∧ ((two 0x7FFFFFFFFFFFFFFF 1)).canIssue 64 = true)) ∧
    ((okTid supTid = true ∧ (on).canIssue supTid = true) ∧ (0 : Reg) = 0) ∧
    ((okTid 3 = true ∧ (onJob).canIssue 3 = true) ∧ (3 : Reg).toNat < 4 ∧ 4 ≤ (4 : Reg).toNat) :=
  ⟨by decide,
   by decide,
   by decide⟩

theorem witness_ShiftsAndMultiplication :
    ((okTid 64 = true ∧ ((two 0x8000000000000000 63)).canIssue 64 = true) ∧ 256 ≤ (256 : W16).toNat ∧ (63 : Nat) < 64 ∧ (2 : Reg) ≠ 0) :=
  by decide

theorem witness_DivisionSaturates :
    ((0 : W64) = 0 ∧ 0 ≤ (0 : W64).toInt ∧ ((two 0 0).thread 64).gr 2 = 0 ∧ (okTid 64 = true ∧ ((two 0 0)).canIssue 64 = true)) ∧
    ((-1 : W64).toInt < 0) ∧
    ((0x8000000000000000 : W64).toInt = -2 ^ 63 ∧ (-1 : W64).toInt = -1) ∧
    ((2 : W64) ≠ 0 ∧ ¬((0x8000000000000000 : W64).toInt = -2 ^ 63 ∧ (2 : W64).toInt = -1)) :=
  ⟨by decide,
   by decide,
   by decide,
   by decide⟩

theorem witness_ComparesAndPredicates :
    ((okTid 64 = true ∧ (on).canIssue 64 = true) ∧ 8 ≤ (8 : Reg).toNat) ∧
    ((on.thread 64).pr 0 = true ∧ (on.thread 64).pr 1 = false) :=
  ⟨by decide,
   by decide⟩

theorem witness_Branches :
    ((okTid 64 = true ∧ (on).canIssue 64 = true) ∧ (on.thread 64).pr 0 = !false ∧ (on.thread 64).pr 0 = true ∧ ((1 : Reg) ≠ 0 ∨ (0 : BitVec 11) ≠ 0)) :=
  by decide

theorem witness_SystemRegisters :
    ((okTid 64 = true ∧ (on).canIssue 64 = true) ∧ (0x00B : BitVec 12).toNat = 0x00B ∧ 64 ≠ supTid) ∧
    ((okTid 3 = true ∧ (onJob).canIssue 3 = true) ∧ thClass 3 = .job) ∧
    ((okTid supTid = true ∧ (on).canIssue supTid = true) ∧ (0x100 : BitVec 12).toNat = 0x100) :=
  ⟨by decide,
   by decide,
   by decide⟩

theorem witness_BreakReturnAndFence :
    ((okTid 64 = true ∧ ((handled on 64)).canIssue 64 = true) ∧ ((handled on 64).thread 64).ehand ≠ 0 ∧ ((handled on 64).thread 64).ecause.getLsbD 8 = false ∧ (15 : BitVec 12).toNat < 16 ∧ 16 ≤ (16 : BitVec 12).toNat ∧ on.flying 64 = []) ∧
    ((okTid 64 = true ∧ ((on.setThread 64 { on.thread 64 with ecause := 0x10A, epc := 0x44 })).canIssue 64 = true) ∧ (on.setThread 64 { on.thread 64 with ecause := 0x10A, epc := 0x44 }).thread 64 = { on.thread 64 with ecause := 0x10A, epc := 0x44 } ∧ (0x10A : W64).getLsbD 8 = true) :=
  ⟨by decide,
   by decide⟩

theorem witness_BreakReturnAndFence2 :
    ((okTid 64 = true ∧ ((busy on 64)).canIssue 64 = true) ∧ (busy on 64).flying 64 ≠ [] ∧ (2 : BitVec 12).getLsbD 1 = true ∧ thClass 64 ≠ .job) :=
  by decide

theorem witness_Yields :
    ((okTid 3 = true ∧ (onJob).canIssue 3 = true) ∧ thClass 3 = .job) ∧
    ((okTid 64 = true ∧ (on).canIssue 64 = true) ∧ thClass 64 = .base ∧ (1 : BitVec 11) ≠ 0) ∧
    ((okTid supTid = true ∧ (on).canIssue supTid = true) ∧ thClass supTid = .sup) :=
  ⟨by decide,
   by decide,
   by decide⟩

theorem witness_TicketsAndSemaphores :
    ((okTid 64 = true ∧ ((ticket on 64 0)).canIssue 64 = true) ∧ (64 : Nat) = 64 ∧ ((ticket on 64 4).thread 64).serial < 4) ∧
    (((ticket on 64 3).thread 64).tkt 3 = none ∧ 3 ≤ ((ticket on 64 3).thread 64).serial) ∧
    (((ticket on 64 1).thread 64).tkt 1 = some ⟨1, 1, 0⟩ ∧ (ticket on 64 1).onMover 64 1 = false) ∧
    (((ticket on 64 2).thread 64).tkt 2 = some ⟨2, 0, 3⟩ ∧ (0 : Nat) ≠ 1) ∧
    ((okTid 3 = true ∧ ((ticket onJob 3 1)).canIssue 3 = true) ∧ (ticket onJob 3 1).onMover 3 1 = false ∧ thClass 3 = .job) ∧
    ((okTid 3 = true ∧ (onJob).canIssue 3 = true) ∧ (255 : Byte).setWidth 64 + (onJob.thread 3).gr 0 = 255 ∧ onJob.semFree 255 ≠ 0 ∧ onJob.semFree 1599 ≠ 0 ∧ onJob.holds 255 3 = false) ∧
    ((onJob.setSem 5 ⟨[(4, 0)], []⟩).semFree 5 = 0 ∧ (onJob.setSem 5 ⟨[(4, 0)], []⟩).cycle 3 5 = false ∧ (onJob.setSem 5 ⟨[(3, 0)], []⟩).holds 5 3 = true) ∧
    ((((onJob.setSem 5 ⟨[(4, 0)], []⟩).setSem 6 ⟨[(3, 0)], [4]⟩).setThread 4 { thread0 with wait := .sem 6 0 }).cycle 3 5 = true) ∧
    (thClass 64 ≠ .job) :=
  ⟨by decide,
   by decide,
   by decide,
   by decide,
   by decide,
   by decide,
   by decide,
   by decide,
   by decide⟩

theorem witness_PositionWaits :
    ((okTid 64 = true ∧ ((on.wb (Addr.ptbAxStat 0) 7 true)).canIssue 64 = true) ∧ (on.wb (Addr.ptbAxStat 0) 7 true).axLost 0 = true) ∧
    ((okTid 64 = true ∧ (on).canIssue 64 = true) ∧ on.axLost 3 = false ∧ ((on.thread 64).gr 1).setWidth 48 = (0 : Cnt) ∧ (0 : Cnt).toInt ≤ (on.cnt 3).toInt) ∧
    ((okTid 64 = true ∧ ((two 1 0)).canIssue 64 = true) ∧ (two 1 0).axLost 0 = false ∧ ¬(1 : Cnt).toInt ≤ ((two 1 0).cnt 0).toInt ∧ ((two (-1) 0).cnt 0).toInt = 0 ∧ ¬(0 : Int) ≤ (-1 : Cnt).toInt) ∧
    (on.slotMine 64 63 = false ∧ (okTid 64 = true ∧ (on).canIssue 64 = true)) ∧
    ((on.wf (Addr.ptbSlotCtl 63) 58 56 1).slotMine 64 63 = true ∧ (on.pend 0).getLsbD 63 = false ∧ (({ on with pevt := [(0, 0x8000000000000001)] }).pend 0).getLsbD 63 = true) ∧
    (okTid 64 = true ∧ 100000000 ≤ on.time ∧ (({ on.thread 64 with wait := .slot 63 2 (some 100000000) }) : Thread).wait = .slot 63 2 (some 100000000)) :=
  ⟨by decide,
   by decide,
   by decide,
   by decide,
   by decide,
   by decide⟩

theorem witness_PositionWaits2 :
    ((okTid 3 = true ∧ (onJob).canIssue 3 = true) ∧ onJob.defaultDeadline 1 0 0 = none ∧ thClass 3 = .job ∧ onJob.passed { job1 with deadline := 9, ddir := false, dlmode := 0 } = false ∧ onJob.passed { job1 with deadline := 0, ddir := true, dlmode := 0 } = true) ∧
    ((onJob.wr (Addr.ptbAxVel 0) 0x100010000).defaultDeadline 1 0 5 = some (205, false) ∧ (1 : Reg) ≠ 0) :=
  ⟨by decide,
   by decide⟩

theorem witness_FatalExceptions :
    ((okTid 64 = true ∧ (on).canIssue 64 = true) ∧ (0x10000000 : W32).toNat / 2 ^ 26 = 0x04 ∧ (0xFFFFFFFF : W32).toNat / 2 ^ 26 = 0x3F) ∧
    ((0x00000012 : W32).toNat / 2 ^ 26 = 0 ∧ 0x12 ≤ (0x00000012 : W32).toNat % 2 ^ 11 ∧ (0x04000007 : W32).toNat / 2 ^ 26 = 1 ∧ 7 ≤ (0x04000007 : W32).toNat % 2 ^ 11 ∧ (0x080007FF : W32).toNat / 2 ^ 26 = 2 ∧ 6 ≤ (0x080007FF : W32).toNat % 2 ^ 11) ∧
    ((0xC0100000 : W32).toNat / 2 ^ 26 = 0x30 ∧ 1 ≤ (0xC0100000 : W32).toNat / 2 ^ 20 % 64 ∧ (0xC9100000 : W32).toNat / 2 ^ 26 = 0x32 ∧ 17 ≤ (0xC9100000 : W32).toNat / 2 ^ 20 % 64 ∧ (0xDC400000 : W32).toNat / 2 ^ 26 = 0x37 ∧ 4 ≤ (0xDC400000 : W32).toNat / 2 ^ 20 % 64) ∧
    ((okTid supTid = true ∧ (on).canIssue supTid = true) ∧ (on.thread supTid).ehand = 0 ∧ thClass supTid = .sup) ∧
    ((okTid 64 = true ∧ (on).canIssue 64 = true) ∧ (on.thread 64).ehand = 0 ∧ thClass 64 = .base ∧ (okTid 3 = true ∧ (onJob).canIssue 3 = true) ∧ (onJob.thread 3).ehand = 0) ∧
    (on.clk 0 = true ∧ on.sup.st = .run) ∧
    (({ on with sup := { on.sup with st := .stopped, restart := 0x103, g1 := 7 } }).clk 0 = true) :=
  ⟨by decide,
   by decide,
   by decide,
   by decide,
   by decide,
   by decide,
   by decide⟩

theorem witness_Loads :
    ((okTid 64 = true ∧ ((ldst on)).canIssue 64 = true) ∧ (0 : Nat) ≠ 5 ∧ (7 : Nat) ≠ 6 ∧ ((ldst on).thread 64).gr 1 + (0 : W16).signExtend 64 = 0 ∧ (ldst on).route 64 .read 0 32 = some (.mem 0x20000) ∧ (15 : Reg).toNat < 16 ∧ (0x20000 : Nat) % 32 = 0) ∧
    (onChip (0x20000 / 64 * 64) = true ∧ groupOf (0x20000 / 64 * 64) ∉ (ldst on).groupsOut ∧ ((ldst on).line (0x20000 / 64 * 64)).valid = true ∧ ((ldst on).line (0x20000 / 64 * 64)).bad = false ∧ ((ldst on).line (0x20000 / 64 * 64)).tag = (ldst on).thPart 64 ∧ (ldst on).mustWait 0x20000 = false) ∧
    ((ldst on).route 64 .read 63 1 = some (.mem 0x2003F) ∧ (ldst on).route 64 .read 6 2 = some (.mem 0x20006) ∧ (ldst on).route 64 .read 4 4 = some (.mem 0x20004) ∧ (ldst on).route 64 .read 56 8 = some (.mem 0x20038) ∧ 16 ≤ (16 : Reg).toNat) :=
  ⟨by decide,
   by decide,
   by decide⟩

theorem witness_StoresAndAtomics :
    ((okTid 64 = true ∧ ((ldst on)).canIssue 64 = true) ∧ (ldst on).route 64 .write 63 1 = some (.mem 0x2003F) ∧ (ldst on).route 64 .write 62 2 = some (.mem 0x2003E) ∧ (ldst on).route 64 .write 60 4 = some (.mem 0x2003C) ∧ (ldst on).route 64 .write 56 8 = some (.mem 0x20038) ∧ (ldst on).route 64 .write 32 32 = some (.mem 0x20020)) ∧
    ((ldst on).route 64 .atomic 0 8 = some (.mem 0x20000) ∧ BitVec.ofNat 64 (natOf ((ldst on).bytes 0x20000 8)) = 0x8182838485868788 ∧ ((ldst on).thread 64).gr 2 ≠ 0x8182838485868788) ∧
    (((withG (ldst on) 64 2 0x8182838485868788).thread 64).gr 2 = 0x8182838485868788) ∧
    (on.linkUp = false ∧ (on.wb Addr.pciLink 8 true).linkUp = true) :=
  ⟨by decide,
   by decide,
   by decide,
   by decide⟩

theorem witness_AccessExceptions :
    ((okTid 64 = true ∧ ((two 0x1000000000000 0)).canIssue 64 = true) ∧ 2 ^ 48 ≤ (((two 0x1000000000000 0).thread 64).gr 1 + (0 : W16).signExtend 64).toNat ∧ (15 : Reg).toNat < 16) ∧
    ((7 : W64).toNat < 2 ^ 48 ∧ (7 : W64).toNat % 2 ≠ 0 ∧ (1 : W64).toNat % 32 ≠ 0) ∧
    (on.route 64 .read 0 8 = none ∧ on.route 64 .write 0 32 = none ∧ on.devAddr 1 .atomic 0 8 = none) ∧
    ((okTid 3 = true ∧ ((ldst onJob)).canIssue 3 = true) ∧ thClass 3 ≠ .sup ∧ (ldst onJob).route 3 .read 56 8 = some (.mem 0x20038) ∧ (ldst onJob).mustWait 0x20038 = false ∧ (56 : Nat) % 8 = 0 ∧ (ldst onJob).stalled (.mem 0x20038) = false) :=
  ⟨by decide,
   by decide,
   by decide,
   by decide⟩

theorem witness_SegmentTranslation :
    ((0 : Nat) < 0x7F0000000000 ∧ (mapped on).devAddr 1 .read 0xFFFF 1 = some 0x2FFFF ∧ (mapped on).devAddr 1 .read 0xFFFF 2 = none ∧ (mapped on).devAddr 1 .atomic 0x100000 8 = some 0x10000000) :=
  by decide

theorem witness_UnreadableLines :
    (onChip 0x20000 = true ∧ groupOf 0x20000 ∉ on.groupsOut ∧ (on.line (on.rkey 0x20000)).valid = false) ∧
    (((ldst on).line ((ldst on).rkey 0x20000)) = ⟨true, 1, 0, false, false⟩ ∧ (2 : Nat) ≠ 1 ∧ (2 : Nat) ≤ 4) :=
  ⟨by decide,
   by decide⟩

theorem witness_PartialWriteMerges :
    (onChip 0x20000 = true ∧ groupOf 0x20000 ∉ (ldst on).groupsOut ∧ 0x20000 % 64 = 0 ∧ ((ldst on).line 0x20000).bad = false) :=
  by decide

theorem witness_InstructionBlocks :
    ((okTid 3 = true ∧ ((withG onJob 3 1 1)).canIssue 3 = true) ∧ (withG onJob 3 1 1).ckptFull 3 = false ∧ ((withG onJob 3 1 1).thread 3).gr 1 = 1 ∧ (1 : W64).toNat % 32 ≠ 0 ∧ 8 ≤ (8 : BitVec 14).toNat ∧ 64 ≤ (64 : BitVec 16).toNat) ∧
    ((ldst onJob).blockAddr 3 0 64 = none ∧ (ldst onJob).ckptFull 3 = false ∧ (3 : Nat) ≠ supTid ∧ (1 : BitVec 16) ≠ 0) ∧
    ((block onJob 3 (zeros 64)).blockAddr 3 0x100000 64 = some 0x10000000 ∧ ((block onJob 3 (zeros 64)).readMem 1 0x10000000 64 2).ok = false ∧ ((block onJob 3 (zeros 64)).readMem 1 0x10000000 32 2).ok = false) :=
  ⟨by decide,
   by decide,
   by decide⟩

set_option maxRecDepth 20000 in
theorem witness_PassCreatesJobs :
    ((okTid 3 = true ∧ ((block onJob 3 passRec)).canIssue 3 = true) ∧ ((block onJob 3 passRec).thread 3).gr 1 = 0x100000 ∧ (block onJob 3 passRec).blockAddr 3 0x100000 64 = some 0x10000000 ∧ ((block onJob 3 passRec).readMem 1 0x10000000 64 0).ok = true ∧ ((block onJob 3 passRec).readMem 1 0x10000000 64 0).data = passRec) ∧
    ((blockRead (withJob onJob { job1 with tier := 3 }) 3 passRec 64).jobOn 3 = some { job1 with tier := 3 }) ∧
    ((blockRead onJob 3 passRec 64).namedPart 3 0 = some 1 ∧ recordOk (fit 64 (zeros 31 ++ [1])) = false ∧ (blockRead onJob 3 passRec 64).partActive 1 = true ∧ recordOk passRec = true) ∧
    (((blockRead onJob 3 passRec 64).readModel 1 16 0).2.map (·.valid) = some false) ∧
    (((blockRead (models on) 64 passRec 64).readModel 1 0 0).2.map (·.valid) = some true ∧ (blockRead (models on) 64 passRec 64).jobOn 64 = none ∧ recNat passRec 0 4 = 0) ∧
    (((blockRead (models (withJob (onJob.setDie 9 { die0 with st := .opened, gen := 1, part := 1 }) { job1 with die := 4105, age0 := 100000000 })) 3 passRec 64).readModel 1 16 0).2.map (·.valid) = some true ∧ (models (withJob (onJob.setDie 9 { die0 with st := .opened, gen := 1, part := 1 }) { job1 with die := 4105, age0 := 100000000 })).openDie 4105 = some 9 ∧ job1.npass < 1) ∧
    (on.namedPart supTid 0 = none) :=
  ⟨by decide,
   by decide,
   by decide,
   by decide,
   by decide,
   by decide,
   by decide⟩

theorem witness_VerdOperations :
    (ownerOf ((ledger onJob 1).rf (Addr.vdlRingCfg (recNat openRec 4 1)) 3 1) = 1 ∧ (ledger onJob 1).rb (Addr.vdlRingCfg 7) 0 = true ∧ (ledger onJob 1).rb (Addr.vdlPartCfg 1) 0 = true ∧ (ledger onJob 1).inUse 1 < (ledger onJob 1).quota 1 ∧ ((ledger onJob 1).die 0).st = .free ∧ recNat openRec 5 1 ≤ 1 ∧ allZero (openRec.drop 14) = true) ∧
    ((ledger onJob 0).quota 1 ≤ (ledger onJob 0).inUse 1) ∧
    (on.jobOn 64 = none ∧ onJob.jobOn 3 = some job1 ∧ job1.die = 0) ∧
    (recNat (fit 32 [2, 9]) 0 1 = 2 ∧ recNat (fit 32 [2, 9]) 1 1 ≠ 0 ∧ allZero (((fit 32 [2, 9]).drop 2).take 14) = true ∧ ((open9 0).openDie 4105).isSome = true ∧ (open9 1).jobOn 3 = some { job1 with die := 4105, posted := 1 }) ∧
    (allZero ((bytesOf 32 4105).drop 4) = true ∧ (open9 0).handleStatus 1 4105 false = 0 ∧ (open9 0).handleStatus 1 4106 false = 3 ∧ (open9 0).handleStatus 2 4105 false = 4) :=
  ⟨by decide,
   by decide,
   by decide,
   by decide,
   by decide⟩

theorem witness_ParametersAndCheckpoints :
    (mayOwn (onJob.thSrc 3) (ownerOf (onJob.rf (Addr.ptbSlotCtl 63) 58 56)) = false) ∧
    (mayOwn ((slotOwned onJob 63).thSrc 3) (ownerOf ((slotOwned onJob 63).rf (Addr.ptbSlotCtl 63) 58 56)) = true ∧ (4 : W64).getLsbD 0 = false ∧ (1 : W64).getLsbD 0 = true ∧ fld (1 : W64) 3 2 = 0 ∧ fld (5 : W64) 3 2 ≠ 0) ∧
    (((onJob.wr (Addr.ptbSlotTgt 63) 7).wr (Addr.ptbSlotStep 63) 0).slotLate 63 5 = false ∧ ((onJob.wr (Addr.ptbSlotTgt 63) 7).wr (Addr.ptbSlotStep 63) 0).slotLate 63 9 = true) ∧
    (ckptOk (zeros 64) = false ∧ ckptOk (fit 64 (zeros 20 ++ [16])) = true ∧ ckptOk (fit 64 (zeros 20 ++ [17])) = false ∧ tableOk 16 (zeros 256) = false ∧ tableOk 1 (bytesOf 8 64 ++ bytesOf 8 64) = true) :=
  ⟨by decide,
   by decide,
   by decide,
   by decide⟩

theorem witness_DieEvents :
    ((open9 0).die 9 = { die0 with st := .opened, gen := 1, part := 1 } ∧ (open9 0).ptbOn = true ∧ condHolds false 0 ((open9 0).cnt ((open9 0).scanAxis 1)) = true) ∧
    ((100000000 - 6360000) + 6360000 ≤ on.time) :=
  ⟨by decide,
   by decide⟩

theorem witness_VerdictRings :
    ((posted9.vring 7).q = 9 :: [] ∧ posted9.poster 7 1 = some (0, 0) ∧ (posted9.die 9).part = 1 ∧ (posted9.die 9).part ≤ 4 ∧ posted9.rb (Addr.vdlRingCfg 7) 0 = true ∧ posted9.linkUp = true ∧ posted9.meshOn = true ∧ (posted9.rf (Addr.vdlRingPidx 7) 31 0 + 2 ^ 32 - (posted9.vring 7).cons) % 2 ^ 32 ≠ 2 ^ 6) ∧
    (natOf ((posted9.wr (Addr.vdlRingCaddr 7) 0x100).hostRead 0x100 4) = 0 ∧ (0 + 2 ^ 32 - 0) % 2 ^ 32 ≤ (0 + 2 ^ 32 - 0) % 2 ^ 32) ∧
    ((0 : Nat) + 400 * posted9.rf (Addr.vdlRingCfg 7) 39 32 ≤ posted9.time) :=
  ⟨by decide,
   by decide,
   by decide⟩

theorem witness_EncoderCounters :
    ((axisOn on 3 0x7FFFFFFFFFFF).ptbOn = true ∧ (axisOn on 3 0x7FFFFFFFFFFF).rb (Addr.ptbAxCfg 3) 0 = true ∧ (axisOn on 3 0x7FFFFFFFFFFF).rb (Addr.ptbAxCfg 3) 1 = false ∧ (axisOn on 3 0x7FFFFFFFFFFF).rb Addr.ptbWake 3 = false ∧ ((axisOn on 3 0x7FFFFFFFFFFF).axis 3).a = false ∧ ((axisOn on 3 0x7FFFFFFFFFFF).axis 3).b = false) ∧
    (((axisOn on 3 0).axis 3).lim.at_ = none ∧ ((axisOn on 3 0).axis 3).aAt = none ∧ ((axisOn on 3 0).axis 3).z = none ∧ on.time < 100000000 + (on.rf (Addr.ptbAxCfg 3) 6 2 + 1) ∧ (100000000 - 400000) + 400000 ≤ on.time ∧ on.time < 99999999 + 400000) ∧
    ((axisOn on 0 5).rf (Addr.ptbAxCfg 0) 9 8 = 0 ∧ ((axisOn on 0 5).axis 0).z = none ∧ (100000000 : Nat) < 99999999 + 2 * ((axisOn on 0 5).rf (Addr.ptbAxCfg 0) 6 2 + 1) ∧ ((axisOn on 0 5).wf (Addr.ptbAxCfg 0) 9 8 1).rf (Addr.ptbAxCfg 0) 9 8 = 1 ∧ ((axisOn on 0 5).wf (Addr.ptbAxCfg 0) 9 8 2).rf (Addr.ptbAxCfg 0) 9 8 = 2) ∧
    (((axisOn on 3 0).setAxis 3 { axis0 with aAt := some 100000000 }).time < 100000000 + (((axisOn on 3 0).setAxis 3 { axis0 with aAt := some 100000000 }).rf (Addr.ptbAxCfg 3) 6 2 + 1) ∧ (((axisOn on 3 0).setAxis 3 { axis0 with z := some (100000000, 7, 1) }).axis 3).z = some (100000000, 7, 1)) ∧
    (on.pmu.on = true ∧ (3 : Nat) < 4) :=
  ⟨by decide,
   by decide,
   by decide,
   by decide,
   by decide⟩

theorem witness_SlotFires :
    ((0 : Nat) < 3 ∧ (armed on 63 3).rb (Addr.ptbSlotCtl 63) 4 = true ∧ (armed on 63 3).rf (Addr.ptbSlotCtl 63) 55 40 = 3 ∧ on.rb (Addr.ptbSlotCtl 63) 4 = false ∧ 63 ∉ (armed on 63 3).noLimit) ∧
    ((4 : Int) < 5 ∧ (0 : Int) < 65536 ∧ (4 : Int) < (5 * 65536) / 65536 ∧ (5 * 65536 : Int) / 65536 ≤ 5 ∧ (5 : Int) < 6 ∧ (-65536 : Int) < 0 ∧ (5 * 65536 + 1 : Int) / 65536 < 6 ∧ (5 : Int) ≤ (5 * 65536 + 1) / 65536) :=
  ⟨by decide,
   by decide⟩

theorem witness_SlotArming :
    (on.pmu.on = true ∧ on.ptbOn = true ∧ mayOwn (.part 2) (ownerOf ((slotOwned on 63).rf (Addr.ptbSlotCtl 63) 58 56)) = false ∧ mayOwn .sup (ownerOf (on.rf (Addr.ptbSlotCtl 0) 58 56)) = true ∧ fld (1 : W64) 3 2 = 0 ∧ fld (4 : W64) 3 2 ≠ 0) ∧
    (on.slotLate 0 (setBit 4 0 true) = true ∧ (on.wr (Addr.ptbSlotTgt 0) 1).slotLate 0 (setBit 4 0 true) = false) :=
  ⟨by decide,
   by decide⟩

theorem witness_OutputPulses :
    (((pulsing 11 500000004 false).out 11).q = ⟨500000004, 500000004, 0, 0, [], []⟩ :: [] ∧ ((pulsing 11 500000004 false).out 11).run = none ∧ 500000004 < 5 * on.time + 5 ∧ 5 * on.time + 5 ≤ 500000005) ∧
    ((pulsing 7 500000004 true).stamped 7 = [] ∧ on.rb (Addr.ptbOutCfg 11) 32 = false ∧ (on.wb (Addr.ptbOutCfg 11) 32 true).rb (Addr.ptbOutCfg 11) 32 = true ∧ (on.out 11).lastFire ≠ some on.time ∧ (List.replicate 16 (⟨0, 0, 0, 0, [], []⟩ : Pulse)).length = 16) :=
  ⟨by decide,
   by decide⟩

theorem witness_FollowersAndVelocity :
    ((follower 3 26214400 1).follows 3 = true ∧ (follower 3 26214400 1).axLost 3 = false ∧ 26214400 ≤ ((follower 3 26214400 1).axis 3).phase ∧ 0 < ((follower 3 26214400 1).axis 3).hold ∧ ((follower 3 26214400 0).axis 3).hold = 0 ∧ ((follower 3 26214400 0).axis 3).stepAt = none ∧ ((follower 3 0 0).axis 3).pktAt + 3 * (4000 * Max.max 1 (Min.min 100 ((follower 3 0 0).rf Addr.ptbBcastCfg 15 8))) ≤ (follower 3 0 0).time ∧ ((follower 3 0 0).axis 3).phase < 26214400) ∧
    ((on.axis 3).last + 400 * Max.max 1 (on.rf (Addr.ptbAxVcfg 3) 31 16) ≤ on.time ∧ (on.setPortState 3 2).rf (Addr.fabPortStat 3) 2 0 = 2 ∧ ({ on.setPortState 3 2 with time := 500000000 }.port 3).latAt + 400000000 ≤ 500000000 ∧ on.time < (on.port 3).latAt + 400000000) ∧
    (on.rb (Addr.ptbAxCfg 3) 0 = false ∧ (axisOn on 3 20).rb (Addr.ptbAxCfg 3) 0 = true ∧ (axisOn on 3 20).rb (Addr.ptbAxCfg 3) 1 = false ∧ ((axisOn on 3 20).axis 3).k ≤ 1 ∧ (axisOn on 3 20).rf (Addr.ptbAxVcfg 3) 2 0 = 0 ∧ on.velN < on.time / 4000 ∧ on.time / 4000 ≤ ({ on with velN := 25000 }).velN) :=
  ⟨by decide,
   by decide,
   by decide⟩

theorem witness_PositionPackets :
    (sender.ptbOn = true ∧ sender.rf Addr.ptbBcastCfg 3 0 ≠ 0 ∧ sender.bcastAt + 4000 * Max.max 1 (Min.min 100 (sender.rf Addr.ptbBcastCfg 15 8)) ≤ sender.time ∧ sender.domOf (ownerOf (sender.rf Addr.ptbBcastCfg 18 16)) = 0 ∧ sender.rb Addr.ptbBcastCfg 3 = true) ∧
    (((sender.wf Addr.ptbBcastCfg 18 16 4).wf (Addr.fabPartDom 4) 7 0 9).domOf (ownerOf (((sender.wf Addr.ptbBcastCfg 18 16 4).wf (Addr.fabPartDom 4) 7 0 9).rf Addr.ptbBcastCfg 18 16)) ≠ 0) :=
  ⟨by decide,
   by decide⟩

theorem witness_PositionPackets2 :
    (((on.setPort 3 { port0 with rx := [(posBlock, 0)] }).port 3).rx = (posBlock, 0) :: [] ∧ on.clk (11 + 3) = true ∧ posBlock.type = 8) :=
  by decide

theorem witness_CameraLinks :
    ((okSrc .sup = true ∧ (on).reaches .sup = true ∧ (on).pmu.on = true ∧ (on).regLive (Addr.cxpCamCfg 3) = true ∧ (on).mayWrite .sup .cxpCamCfg 3 = true) ∧ (okSrc .sup = true ∧ (on).reaches .sup = true ∧ (on).pmu.on = true ∧ (on).regLive (Addr.ingCamCfg 3) = true ∧ (on).mayWrite .sup .ingCamCfg 3 = true) ∧ (okSrc .sup = true ∧ (on).reaches .sup = true ∧ (on).pmu.on = true ∧ (on).regLive (Addr.ingCalCtl 7) = true ∧ (on).mayWrite .sup .ingCalCtl 7 = true)) ∧
    (on.ingOn = true ∧ ((on.wr (Addr.cxpConCfg 7) 0xC01).rb (Addr.cxpConCfg 7) 0 = true) ∧ (on.wr (Addr.cxpConCfg 7) 0xC01).rf (Addr.cxpConCfg 7) 11 8 ∈ [1, 2, 3, 5, 6, 10, 12] ∧ (camera on 3 7).rb (Addr.cxpConStat 7) 0 = true) ∧
    ((camera on 3 7).receiving 3 = true ∧ (camera on 3 7).camCons 3 = (7, 1) ∧ (camera on 3 7).receiving 0 = false ∧ (camera on 3 7).receiving 1 = false ∧ (camera on 3 7).receiving 2 = false) ∧
    ((({ cam := 3, con := 7, tag := 255, crcOk := true, ovf := false, badTables := [], items := [] } : StreamPacket)).tag < 256 ∧ ((camera on 3 7).cam 3).held = [] ∧ (((camera on 3 7).setCam 3 { (camera on 3 7).cam 3 with expect := some 255 }).cam 3).expect = some 255 ∧ (∀ i, i < ((camera on 3 7).camCons 3).2 → (camera on 3 7).rb (Addr.cxpConStat (((camera on 3 7).camCons 3).1 + i)) 0 = true) ∧ (camera on 3 7).receiving 3 = true) ∧
    (0 + 400 * Max.max 1 (on.rf (Addr.ingCamCfg 3) 39 32) < on.time) ∧
    (on.inLine 7 = false ∧ ((((camera on 3 7).wb (Addr.ingCamCfg 3) 3 true).wf (Addr.ingCamCfg 3) 6 4 7).setCam 3 { cam0 with applied := true, line := some ⟨1, 0, [], 0, false, false⟩ }).inLine 7 = true ∧ (5 : W64).getLsbD 1 = false ∧ (6 : W64).getLsbD 0 = false) :=
  ⟨by decide,
   by decide,
   by decide,
   by decide,
   by decide,
   by decide⟩

theorem witness_UplinksAndAdc :
    ((({ uplink0 with edge := 499999964, busy := true, fin := 0 } : Uplink)).busy = true ∧ (499999964 + 40 : Nat) ≤ 500000004 ∧ (500000004 : Nat) < 5 * on.time + 5 ∧ on.ingOn = true) ∧
    (Max.max 1 (on.rf (Addr.cxpCamTrig 3) 15 0) = 1 ∧ (499999960 + 4 + 40 : Nat) ≤ 500000004) ∧
    ((okSrc .sup = true ∧ (on).reaches .sup = true ∧ (on).pmu.on = true ∧ (on).regLive (Addr.cxpCamCtl 3) = true ∧ (on).mayWrite .sup .cxpCamCtl 3 = true) ∧ (okSrc .sup = true ∧ (on).reaches .sup = true ∧ (on).pmu.on = true ∧ (on).regLive Addr.jesCfg = true ∧ (on).mayWrite .sup .jesCfg 0 = true)) ∧
    ((0 + 4096 - 0) % 4096 + (fit (roundUp (4 + 3) 4) (bytesOf 4 3 ++ [1, 2, 3])).length < 4096 ∧ 4096 ≤ (4088 + 4096 - 0) % 4096 + (fit (roundUp (4 + 3) 4) (bytesOf 4 3 ++ [1, 2, 3])).length) ∧
    (((camera on 3 7).wf (Addr.cxpCamCfg 3) 25 16 1).camOn 3 = true ∧ ((camera on 3 7).wf (Addr.cxpCamCfg 3) 25 16 1).rf (Addr.cxpCamCfg 3) 25 16 ≠ 0) ∧
    (({ on with jes := { jes0 with applied := true } }).jes.lemc = none ∧ on.rb Addr.jesCfg 43 = false ∧ ({ on with jes := { jes0 with applied := true, lemc := some 5 } }).jes.lemc.isSome = true ∧ on.rb Addr.jesStat 0 = false) ∧
    ((({ on with jes := { jes0 with applied := true } }).wb Addr.jesStat 0 true).rb Addr.jesStat 0 = true) :=
  ⟨by decide,
   by decide,
   by decide,
   by decide,
   by decide,
   by decide,
   by decide⟩

theorem witness_Scheduling :
    (({ on with queued := [waiting 1 1, waiting 2 2] }).cluUp 0 = true ∧ (on.wb (Addr.schCfg 0) 0 true).rb (Addr.schCfg 0) 0 = true ∧ (on.ctx 0 63).st = .free ∧ on.partActive (on.cluPart 0) = true ∧ (∀ j ∈ on.queued, on.serves 0 j = false)) ∧
    (((on.wr (Addr.schCfg 0) 0xFFFFFFFFFFFFFFFF)).serves 0 (waiting 2 2) = true) ∧
    ((on.clu 0).preempt = false ∧ (on.clu 0).innEnd ≤ on.time ∧ (on.clu 0).running = some 64 ∧ on.npFlying (tid 0 64) = false ∧ on.time < on.time + 1) ∧
    (({ op1 64 with np := true, start := some 0 }).np = true ∧ (({ on with ops := [{ op1 64 with np := true, start := some 0 }] }).npFlying (tid 0 64) = true)) ∧
    (({ op1 64 with np := true, start := some 0 }).done = false ∧ 0 + 800 * ({ op1 64 with np := true, start := some 0 }).npb ≤ on.time ∧ on.time < 0 + 800 * 125001) ∧
    (((on.setSem 1599 ⟨[(64, 0)], []⟩).sem 1599).holders = (64, 0) :: [] ∧ 0 + 400 * Max.max 1 (on.rf (semCfg 1599) 63 48) < on.time ∧ on.time ≤ 100000000 - 400 + 400 * Max.max 1 (on.rf (semCfg 255) 63 48)) ∧
    ((okSrc .sup = true ∧ (on).reaches .sup = true ∧ (on).pmu.on = true ∧ (on).regLive (Addr.schSemCfg 5 255) = true ∧ (on).mayWrite .sup .schSemCfg 5 = true) ∧ (okSrc .sup = true ∧ (on).reaches .sup = true ∧ (on).pmu.on = true ∧ (on).regLive (Addr.schGsemCfg 63) = true ∧ (on).mayWrite .sup .schGsemCfg 63 = true) ∧ (on.sem 1599).waiters = []) ∧
    (({ on with queued := [{ waiting 1 1 with agelim := 1 }] }).queued.find? (fun (j : Job) => j.part == 1 && j.jseq == 7 && ({ on with queued := [{ waiting 1 1 with agelim := 1 }] }).tooOld j) = some { waiting 1 1 with agelim := 1 }) ∧
    ((withJob onJob { job1 with agelim := 1 }).ctxs.find? (fun (e : Nat × Ctx) => e.2.st != .free && (e.2.job.part == 1 && e.2.job.jseq == 7 && (withJob onJob { job1 with agelim := 1 }).tooOld e.2.job)) = some (3, (withJob onJob { job1 with agelim := 1 }).ctx 0 3)) ∧
    ((okSrc .sup = true ∧ (on).reaches .sup = true ∧ (on).pmu.on = true ∧ (on).regLive (Addr.dlmPartCfg 4) = true ∧ (on).mayWrite .sup .dlmPartCfg 4 = true) ∧ (okSrc .sup = true ∧ (on).reaches .sup = true ∧ (on).pmu.on = true ∧ (on).regLive (Addr.vdlPartMtab 4) = true ∧ (on).mayWrite .sup .vdlPartMtab 4 = true)) :=
  ⟨by decide,
   by decide,
   by decide,
   by decide,
   by decide,
   by decide,
   by decide,
   by decide,
   by decide,
   by decide⟩

theorem witness_TileIssue :
    ((okTid 64 = true ∧ ((fillState 2 16)).canIssue 64 = true) ∧ unusedZero 2 16 (tiAt 1) = true ∧ unusedZero 2 16 { tiAt 1 with srca := 1 } = false ∧ ((fillState 2 16).flying 64).length < 32 ∧ ((fillState 2 16).thread 64).gr 1 = 0x100000) ∧
    ((fillState 2 16).pbAddr 64 0 = none ∧ (fillState 2 16).pbAddr 64 0x100000 = some 0x10000000 ∧ ((fillState 2 16).readMem 1 0x10000000 64 2).ok = false ∧ ((fillState 2 16).readMem 1 0x10000000 64 0).ok = true) ∧
    (((fillState 7 1).checks ((fillState 7 1).mkOp 64 2 16 (tiAt 1) (fillOp 7 1).pb)).head?.map (·.1) = some false) ∧
    ((((fillState 2 16).readMem 1 0x10000000 64 0).s.checks (((fillState 2 16).readMem 1 0x10000000 64 0).s.mkOp 64 2 16 (tiAt 1) ((fillState 2 16).readMem 1 0x10000000 64 0).data)).all (·.1) = true) :=
  ⟨by decide,
   by decide,
   by decide,
   by decide⟩

theorem witness_TileProgress :
    (((running (fillOp 2 16)).startOps.opOf 1) = some (fillOp 2 16) ∧ (fillOp 2 16).start.isSome = true ∧ (running (fillOp 2 16)).startOps.goes (fillOp 2 16) = true ∧ (running (fillOp 2 16)).unitOk (fillOp 2 16) ((fillOp 2 16).tryOf 0) 0 = true ∧ (fillOp 2 16).pieceOk 0 1 1600 = true ∧ ((fillOp 2 16).tryOf 0).n = 0 ∧ (running (fillOp 2 16)).startOps.opWaits (fillOp 2 16) = false ∧ (fillOp 2 16).byte 8 % 2 = 0) ∧
    (((running { fillOp 2 16 with rows := [⟨0, 1, 5, 0, 0, 0⟩] }).readyToEnd { fillOp 2 16 with rows := [⟨0, 1, 5, 0, 0, 0⟩] }) = true ∧ (fillOp 2 16).dmg = [] ∧ (fillOp 2 16).corrupt = false ∧ (fillOp 2 16).cls < 7) ∧
    ((fillOp 0 0).cls < 2 ∧ 0 ∈ ((running (fillOp 0 0)).wb (Addr.mtTileStat 0 0) 0 true).opUnits (fillOp 0 0) ∧ ((running (fillOp 0 0)).wb (Addr.mtTileStat 0 0) 0 true).cxTurn (fillOp 0 0) = true) ∧
    ((running { fillOp 7 1 with moved := 64 }).onTurn { fillOp 7 1 with moved := 64 } = true ∧ (running { fillOp 7 1 with moved := 64 }).moved { fillOp 7 1 with moved := 64 } = true ∧ (fillOp 7 1).xfer = none ∧ (fillOp 7 1).hostFlag = false ∧ (fillOp 7 1).D.amx = false) ∧
    (((running (fillOp 5 1)).setPp 1 { pp0 with q := [1] }).pp 1 = { pp0 with q := 1 :: [] } ∧ (fillOp 5 1).cls = 5 ∧ ((running (fillOp 5 1)).setPp 1 { pp0 with q := [1] }).startOps.opOf 1 = some (fillOp 5 1)) ∧
    (({ fillOp 6 0 with dmg := [64, 2, 0] }).dmg = [64, 2, 0] ∧ (9 : Nat) ≤ 9 ∧ (9 : Nat) ≠ 2 ∧ (running { fillOp 6 0 with dmg := [64, 2, 0] }).goes { fillOp 6 0 with dmg := [64, 2, 0] } = true) ∧
    ((running { fillOp 7 2 with aux := [1, 0x20000, 0] }).onTurn { fillOp 7 2 with aux := [1, 0x20000, 0] } = true ∧ (running { fillOp 7 2 with aux := [1, 0x20000, 0] }).moved { fillOp 7 2 with aux := [1, 0x20000, 0] } = true) :=
  ⟨by decide,
   by decide,
   by decide,
   by decide,
   by decide,
   by decide,
   by decide⟩

theorem witness_Pools :
    ((okSrc .sup = true ∧ (on).reaches .sup = true ∧ (on).pmu.on = true ∧ (on).regLive (Addr.awPartTalloc 1) = true ∧ (on).mayRead .sup .awPartTalloc (Addr.awPartTalloc 1) 1 = true) ∧ (okSrc .sup = true ∧ (on).reaches .sup = true ∧ (on).pmu.on = true ∧ (on).regLive (Addr.awPartPoolAlloc 4 8) = true ∧ (on).mayRead .sup .awPartPoolAlloc (Addr.awPartPoolAlloc 4 8) 4 = true) ∧ on.rb (poolCfg 1 9) 31 = false) ∧
    ((pooled 9 4 []).rb (poolCfg 1 9) 31 = true ∧ (pooled 9 4 []).pool (poolKey 1 9) = [] ∧ (pooled 8 4 [3]).pool (poolKey 1 8) = 3 :: []) ∧
    ((okSrc .sup = true ∧ (on).reaches .sup = true ∧ (on).pmu.on = true ∧ (on).regLive (Addr.awPartTfree 1) = true ∧ (on).mayWrite .sup .awPartTfree 1 = true) ∧ (okSrc .sup = true ∧ (on).reaches .sup = true ∧ (on).pmu.on = true ∧ (on).regLive (Addr.awPartPoolFree 4 8) = true ∧ (on).mayWrite .sup .awPartPoolFree 4 = true) ∧ (on.devAddr 0 .read (fld (0 : W64) 47 0) 1).bind (on.objOf 1 9) = none) ∧
    ((okSrc .sup = true ∧ (on).reaches .sup = true ∧ (on).pmu.on = true ∧ (on).regLive (poolCfg 1 9) = true ∧ (on).mayWrite .sup .awPartTpoolCfg 1 = true) ∧ (okSrc .sup = true ∧ (on).reaches .sup = true ∧ (on).pmu.on = true ∧ (on).regLive (poolCfg 4 8) = true ∧ (on).mayWrite .sup .awPartPoolCfg 4 = true)) :=
  ⟨by decide,
   by decide,
   by decide,
   by decide⟩

theorem witness_SequenceStreams :
    ((okSrc .sup = true ∧ (on).reaches .sup = true ∧ (on).pmu.on = true ∧ (on).regLive (Addr.sqStrCfg 5 255) = true ∧ (on).mayWrite .sup .sqStrCfg 5 = true) ∧ (okSrc .sup = true ∧ (on).reaches .sup = true ∧ (on).pmu.on = true ∧ (on).regLive (Addr.sqStrLive 5 255) = true ∧ (on).mayWrite .sup .sqStrLive 5 = true) ∧ on.sqRes 5 255 ≠ 3 ∧ on.sqRes 5 255 ≠ 4 ∧ on.ops.any (fun o => !o.done && o.names 5 255) = false ∧ on.rb (Addr.sqStrCfg 5 255) 31 = false) ∧
    ((on.setSqRes 5 255 3).sqRes 5 255 = 3 ∧ (on.setSqRes 5 255 4).sqRes 5 255 = 4) ∧
    (((on.setSqRes 0 255 3).wb (Addr.sqStrCfg 0 255) 31 true).rb (Addr.sqStrCfg 0 255) 31 = true ∧ ((on.setSqRes 0 255 3).wb (Addr.sqStrCfg 0 255) 31 true).sqRes 0 255 ∉ [0, 2, 5]) ∧
    (on.canSwap 0 = true ∧ (on.setSqRes 0 255 3).sqRes 0 255 = 3 ∧ (on.setSqRes 0 255 3).firstNaming 0 255 = none ∧ on.sqRes 0 255 ≠ 3 ∧ on.sqRes 0 255 ≠ 4 ∧ (((ldst on).setSqRes 0 255 3).sqRead 0 0 4).ok = true) ∧
    ((on.setSqRes 0 255 4).sqRes 0 255 = 4 ∧ (((ldst on).setSqRes 0 255 4).sqRead 0 0 4).ok = true ∧ ((on.setSqRes 0 255 4).sqRead 0 0 4).ok = false) :=
  ⟨by decide,
   by decide,
   by decide,
   by decide,
   by decide⟩

theorem witness_MemoryScrub :
    ((okSrc .sup = true ∧ (on).reaches .sup = true ∧ (on).pmu.on = true ∧ (on).regLive Addr.memSramclr = true ∧ (on).mayWrite .sup .memSramclr 0 = true) ∧ on.meshOn = true ∧ (okSrc .sup = true ∧ (on).reaches .sup = true ∧ (on).pmu.on = true ∧ (on).regLive Addr.memScrubCmd = true ∧ (on).mayWrite .sup .memScrubCmd 0 = true) ∧ (okSrc .sup = true ∧ (on).reaches .sup = true ∧ (on).pmu.on = true ∧ (on).regLive Addr.memTdunpin = true ∧ (on).mayWrite .sup .memTdunpin 0 = true)) ∧
    (on.gen 383 = 1 ∧ on.rf (Addr.memGen 383) 27 16 = 1 ∧ (if on.gen 383 + 1 > 0xFFE then 1 else on.gen 383 + 1) = 2 ∧ ((on.wr (Addr.memGen 383) 0x10FFE).gen 383 = 0xFFE) ∧ (on.wr (Addr.memGen 383) 0x10FFE).rf (Addr.memGen 383) 27 16 = 1) ∧
    (region 0x1000000000 = .ddr ∧ ddr.memAddr 0x1000000000 = true ∧ ddr.ddrUp 0x1000000000 = true ∧ (ddr.line (ddr.rkey 0x1000000000)).bad = false ∧ (ddr.line (ddr.rkey 0x1000000000)).poison = false ∧ (ddr.line (ddr.rkey 0x1000000000)).gen = ddr.gen 0 ∧ scrubRegion 0x1000000000 = 0) ∧
    (({ ddr with scrubQ := [383] }).rb Addr.memStat 0 = true ∧ 383 ∉ ({ ddr with scrubQ := [383] }).pendAdv ∧ ({ ddr with scrubQ := [383] }).scrubQ = 383 :: []) ∧
    (on.devAddr 0 .write 0x20000 64 = some 0x20000 ∧ region 0x20000 = .global ∧ on.peekNat (0x20000 + 16) 2 = 0 ∧ (filled on 0x20000 0 (zeros 16 ++ [1])).peekNat (0x20000 + 16) 2 = 1) :=
  ⟨by decide,
   by decide,
   ddr_line,
   by decide,
   by decide⟩

theorem witness_MemoryChannels :
    (({ on.setRole 25 6 with pmu := { on.pmu with boot := 3 } }).pmu.boot = 3 ∧ (on.setRole 25 6).role 25 = 6 ∧ (on.setRole 25 4).role 25 = 4) ∧
    ((rotating 120000000000).rb Addr.memRotCfg 0 = true ∧ (rotating 120000000000).rb Addr.memStat 0 = true ∧ (rotating 120000000000).rotAt + 400000000 * Max.max 1 ((rotating 120000000000).rf Addr.memRotCfg 47 32) ≤ (rotating 120000000000).time ∧ (rotating 119999999999).time < (rotating 119999999999).rotAt + 400000000 * Max.max 1 ((rotating 119999999999).rf Addr.memRotCfg 47 32) ∧ (rotating 120000000000).role 24 = 1 ∧ (rotating 120000000000).mig = none ∧ on.rb Addr.memRotCfg 0 = false ∧ (rotating 120000000000).rb Addr.pmuStat 1 = false ∧ (rotating 120000000000).role 0 = 0 ∧ (∀ c ∈ List.range 24, (rotating 120000000000).role c ≠ 1)) ∧
    ((moving 0).mig = some ⟨5, 5, 25, false, 0, false⟩ ∧ 0 < (moving 0).slotUnits ∧ (moving 0).rb Addr.pmuStat 1 = false ∧ (moving 0).lines = []) ∧
    ((moving 8388608).slotUnits ≤ 8388608 ∧ (moving 8388608).rd (Addr.hltKindRet 11) = 0) :=
  ⟨by decide,
   by decide,
   ⟨by decide, (slotUnits_range _).1, by decide⟩,
   ⟨(slotUnits_range _).2, by decide⟩⟩

theorem witness_FabricLinks :
    ((portOn 3 port0).portUp 3 = true ∧ badBlock (blk 1 0) = false ∧ badBlock { blk 1 0 with plen := 129 } = true ∧ (blk 1 0).seq = ((portOn 3 port0).port 3).rxSeq ∧ (blk 1 65535).seq ≠ ((portOn 3 port0).port 3).rxSeq ∧ (0 + 65536 - (blk 1 65535).seq % 65536) % 65536 = 1 ∧ (0 + 65536 - (blk 1 1).seq % 65536) % 65536 = 65535 ∧ (0 + 65536 - (blk 1 65472).seq % 65536) % 65536 = 64) ∧
    (({ port0 with replay := [⟨blk 1 5, 6⟩] }).replay.filter (fun (b : Sent) => !decide (seqBack 5 b.blk.seq < 64)) = [] ∧ ({ port0 with replay := [⟨blk 1 5, 6⟩] }).replay.filter (fun (b : Sent) => !decide (seqBack 4 b.blk.seq < 64)) = [⟨blk 1 5, 6⟩]) ∧
    ((portOn 3 port0).time < 100000000 - 1599 + 1600 ∧ 0 + 1600 ≤ (portOn 3 port0).time ∧ 7 ≤ (⟨blk 1 5, 7⟩ : Sent).tries ∧ (⟨blk 1 5, 6⟩ : Sent).tries < 7) ∧
    (0 < ({ port0 with unacked := 1 }).unacked ∧ 99999800 + 200 ≤ (portOn 3 port0).time ∧ (portOn 3 port0).time < 99999801 + 200) ∧
    ((portOn 3 { port0 with tx := [(blk 1 0, 0)], credits := [1, 1, 1] }).nextOut 3 = some (blk 1 0, 0) ∧ ({ port0 with tx := [(blk 1 0, 0)], credits := [1, 1, 1] }).replay.length < 64 ∧ (blk 1 0).type ≠ 8 ∧ 64 ≤ ({ port0 with replay := List.replicate 64 ⟨blk 1 0, 0⟩ }).replay.length) ∧
    (0 < ({ port0 with replay := [⟨blk 1 7, 0⟩], again := 1 }).again ∧ ({ port0 with replay := [⟨blk 1 7, 0⟩], again := 1 }).replay[({ port0 with replay := [⟨blk 1 7, 0⟩], again := 1 }).replay.length - 1]? = some ⟨blk 1 7, 0⟩) ∧
    (on.clk (11 + 3) = true ∧ (on.wr (Addr.fabPortCfg 3) 0x29).rb (Addr.fabPortCfg 3) 0 = true ∧ (on.wr (Addr.fabPortCfg 3) 0x29).portState 3 ≠ 5 ∧ (on.wr (Addr.fabPortCfg 3) 0x29).rf (Addr.fabPortCfg 3) 5 3 = 5 ∧ (on.setPortState 3 5).portState 3 = 5) ∧
    ((on.setPortState 3 1).portState 3 = 1 ∧ port0.esc = false ∧ ({ port0 with esc := true }).esc = true ∧ ({ port0 with fails := 2 }).fails = 2 ∧ on.time < ({ port0 with trainAt := 96000001 }).trainAt + 4000000) ∧
    (((on.setPortState 3 1).wf Addr.fabCfg 43 41 4).partnerOk 3 0 0 1 1 false = true) :=
  ⟨by decide,
   by decide,
   by decide,
   by decide,
   by decide,
   by decide,
   by decide,
   by decide,
   by decide⟩

theorem witness_FabricTransfers :
    ((received { blk 7 0 with dom := 8 }).rxHead 3 7 = some { blk 7 0 with dom := 8 } ∧ (received (blk 7 0)).domPart 8 = none ∧ (received (blk 7 0)).domPart 9 = some 1) ∧
    ((received { blk 1 0 with last := false }).rxHead 3 1 = some { blk 1 0 with last := false } ∧ (received (blk 1 0)).impWaits 1 .write (0 * 64) 0 = false ∧ ((received (blk 1 0)).rxDrop 3 (blk 1 0)).open_ 1 (blk 1 0) = none) ∧
    ((received (blk 2 0)).rxHead 3 2 = some (blk 2 0) ∧ ((received (blk 2 0)).rxDrop 3 (blk 2 0)).open_ 1 (blk 2 0) = none) ∧
    (({ running (fillOp 7 1) with ops := [{ fillOp 7 1 with xfer := some ⟨0, 3, 0, 64, 0, 0, [], 1, 0, 0⟩ }] }).opOf 1 = some { fillOp 7 1 with xfer := some ⟨0, 3, 0, 64, 0, 0, [], 1, 0, 0⟩ } ∧ 0 + 400 * Max.max 1 (on.rf Addr.fabCfg 63 48) ≤ on.time ∧ on.time < on.time + 400 * Max.max 1 (on.rf Addr.fabCfg 63 48)) ∧
    ((okSrc .sup = true ∧ (on).reaches .sup = true ∧ (on).pmu.on = true ∧ (on).regLive (Addr.fabPartEpoch 4) = true ∧ (on).mayWrite .sup .fabPartEpoch 4 = true) ∧ on.fabKey 4 2 = none ∧ ((on.setKey 4 { keys0 with fab := [⟨2, [], none⟩] }).fabKey 4 (on.rf (Addr.fabPartEpoch 4) 7 0 + 1)).isSome = true) ∧
    (({ op1 64 with xfer := some ⟨2, 3, 0, 8, 0, 0, [], 1, 0, 0⟩ }).xfer = some ⟨2, 3, 0, 8, 0, 0, [], 1, 0, 0⟩ ∧ ({ on with ops := [{ op1 64 with xfer := some ⟨2, 3, 0, 8, 0, 0, [], 1, 0, 0⟩ }] }).match_ 1 (blk 2 0) = some ({ op1 64 with xfer := some ⟨2, 3, 0, 8, 0, 0, [], 1, 0, 0⟩ }, ⟨2, 3, 0, 8, 0, 0, [], 1, 0, 0⟩) ∧ on.match_ 1 (blk 2 0) = none) :=
  ⟨by decide,
   by decide,
   by decide,
   by decide,
   by decide,
   by decide⟩

theorem witness_HostInterface :
    (on.pciOn = true ∧ 8 ∈ [1, 2, 4, 8] ∧ linked.linkUp = true ∧ on.linkUp = false ∧ 4 < linked.pcie.nfunc.getD 0) ∧
    (on.pcie.nfunc = none ∧ linked.pcie.nfunc = some 5 ∧ ({ linked with pcie := { pcie0 with nfunc := some 4 } }).pcie.nfunc = some 4) ∧
    (linked.bar2Ok 4 (2 ^ 34 - 1) 1 = true ∧ linked.bar2Addr 4 0 8 .read = none ∧ linked.bar2Addr 0 0x20000 8 .read = some 0x20000 ∧ linked.bar2Ok 0 0x20000 8 = true ∧ linked.mustWait 0x20000 = false) ∧
    ((okSrc .sup = true ∧ (on).reaches .sup = true ∧ (on).pmu.on = true ∧ (on).regLive Addr.pciRqCmd = true ∧ (on).mayWrite .sup .pciRqCmd 0 = true) ∧ on.rb (Addr.pciFnRqcfg 4) 0 = false ∧ (on.wr (Addr.pciFnRqcfg 4) 0x20001).rb (Addr.pciFnRqcfg 4) 0 = true ∧ on.pcie.scan = none) ∧
    (({ linked with pcie := { linked.pcie with scan := some (4, 2) } }).pcie.scan = some (4, 2) ∧ linked.meshOn = true ∧ linked.pciOn = true) ∧
    ((okSrc .sup = true ∧ (on).reaches .sup = true ∧ (on).pmu.on = true ∧ (on).regLive Addr.pciEvpost = true ∧ (on).mayWrite .sup .pciEvpost 0 = true) ∧ fld (BitVec.ofNat 64 (4 * 2 ^ 48 + 0x20000)) 50 48 = 4 ∧ fld (BitVec.ofNat 64 (4 * 2 ^ 48 + 0x20000)) 47 6 * 64 = 0x20000 ∧ (on.readMem 0 0x20000 64 0).ok = true ∧ (on.evring 4).q.length < 256) ∧
    (((linked.setEvring 4 { evring0 with q := [⟨3, 7, []⟩] }).evring 4).q = ⟨3, 7, []⟩ :: [] ∧ ringFull 64 0 (ringLog 0) = true ∧ ringFull 0 0 (ringLog 0) = false) ∧
    (((running hop).readsHost hop = true ∧ (running hop).startOps.opOf 1 = some hop ∧ hop.start.isSome = true ∧ (running hop).startOps.goes hop = true ∧ (running hop).startOps.opWaits hop = false ∧ (running hop).startOps.maskSub hop = false)) ∧
    (on.devAddr 0 .read 0x7E0000000000 1 = some 0x7E0000000000 ∧ region 0x7E0000000000 = .host) :=
  ⟨by decide,
   by decide,
   by decide,
   by decide,
   by decide,
   by decide,
   by decide,
   ⟨hop_reads, by decide, by decide, by decide, by decide, by decide⟩,
   ⟨by decide, region_host _ (by decide) (by decide)⟩⟩

theorem witness_HealthLedger :
    (2559 < kindUnits 10 ∧ 35 < kindUnits 13 ∧ (0 : Nat) < Max.max 1 (on.rf (Addr.hltKindThr 10) 31 0) ∧ on.suspect 10 2559 = false ∧ (10 : Nat) ≠ 1) ∧
    ((okSrc .sup = true ∧ (on).reaches .sup = true ∧ (on).pmu.on = true ∧ (on).regLive (Addr.hltKindThr 13) = true ∧ (on).mayWrite .sup .hltKindThr 13 = true) ∧ (okSrc .sup = true ∧ (on).reaches .sup = true ∧ (on).pmu.on = true ∧ (on).regLive (Addr.hltKindRet 1) = true ∧ (on).mayWrite .sup .hltKindRet 1 = true) ∧ (okSrc .sup = true ∧ (on).reaches .sup = true ∧ (on).pmu.on = true ∧ (on).regLive Addr.hltWdkick = true ∧ (on).mayWrite .sup .hltWdkick 0 = true) ∧ (okSrc .sup = true ∧ (on).reaches .sup = true ∧ (on).pmu.on = true ∧ (on).regLive Addr.hltScctl = true ∧ (on).mayWrite .sup .hltScctl 0 = true)) ∧
    ((on.wb (Addr.hltKindRet 1) 47 true).rb (Addr.hltKindRet 1) 47 = true) ∧
    (on.ptbOn = true ∧ (on.wf Addr.hltCkptint 15 0 0).rf Addr.hltCkptint 15 0 = 0 ∧ ({ on with time := 400000000 }).sup.ckpt + 400000000 * 1 ≤ ({ on with time := 400000000 }).time ∧ on.time < on.sup.ckpt + 400000000 * 1) ∧
    (on.pairUp = true ∧ (on.wr Addr.hltWdog 0x1000000FA).rb Addr.hltWdog 32 = true ∧ 0 + 400000 * Max.max 1 ((on.wr Addr.hltWdog 0x1000000FA).rf Addr.hltWdog 15 0) ≤ on.time ∧ on.time < 0 + 400000 * Max.max 1 ((on.wr Addr.hltWdog 0x1000000FB).rf Addr.hltWdog 15 0)) ∧
    ((on.wf Addr.hltCfg 15 0 0).rf Addr.hltCfg 15 0 = 0 ∧ (on.wf Addr.errHead 31 0 0xFFFFFFFF).rf Addr.errHead 31 0 + 1 = 2 ^ 32 ∧ (report 11 .lost 5 4).part ≤ 4) :=
  ⟨by decide,
   by decide,
   by decide,
   by decide,
   by decide,
   by decide⟩

theorem witness_IgnoredAccesses :
    (okSrc (.part 4) = true ∧ locate 0x3FFFFF8 = none ∧ (0x3FFFFF8 : Nat) < 0x4000000 ∧ (Src.part 4) ≠ .pf 0) ∧
    ((locate (Addr.truPartCtl 1)).isSome = true ∧ on.mayWrite (.part 4) .truPartCtl 1 = false ∧ on.regLive (Addr.truPartCtl 1) = true) :=
  ⟨by decide,
   by decide⟩

theorem witness_RegisterWrites :
    ((locate Addr.ptbBcastCfg).map (fun r => (r.1.id, r.2)) = some (.ptbBcastCfg, []) ∧ on.regLive Addr.ptbBcastCfg = true ∧ on.mayWrite .sup .ptbBcastCfg 0 = true ∧ (on.wr Addr.clkLive 0x7F).regLive Addr.ptbBcastCfg = false) ∧
    ((locate (Addr.cxpConCfg 7)).map (fun r => (r.1.id, r.2)) = some (.cxpConCfg, [7]) ∧ (locate (Addr.vdlRingCfg 7)).map (fun r => (r.1.id, r.2)) = some (.vdlRingCfg, [7]) ∧ (locate (Addr.vdlPartMtab 4)).map (fun r => (r.1.id, r.2)) = some (.vdlPartMtab, [4]) ∧ (locate (Addr.ptbPartScan 4)).map (fun r => (r.1.id, r.2)) = some (.ptbPartScan, [4]) ∧ on.mayWrite .sup .cxpConCfg 7 = true ∧ on.regLive (Addr.cxpConCfg 7) = true) ∧
    (on.linkUp = false ∧ linked.linkUp = true ∧ bar0Be 4 8 0x81 = false ∧ bar0Be 4 0xFFFF8 0x0F = true ∧ bar0Be 0 0x3FEFFF8 0x0F = true ∧ linked.clk 10 = true ∧ linked.clk 0 = true ∧ 4 < linked.pcie.nfunc.getD 0 ∧ 0x3EFFF8 < srcSize (.pf 4)) :=
  ⟨by decide,
   by decide,
   by decide⟩

theorem witness_Partitions :
    ((okSrc .sup = true ∧ (parts).reaches .sup = true ∧ (parts).pmu.on = true ∧ (parts).regLive (Addr.truPartCfg 4) = true ∧ (parts).mayWrite .sup .truPartCfg 4 = true) ∧ parts.partState 4 = 0 ∧ fld (4 : W64) 5 0 ≠ 0 ∧ (∀ k ∈ List.range 6, (4 : Nat).testBit k = true → parts.cluLive k = true ∧ parts.cluPart k = 0) ∧ 4 < parts.pcie.nfunc.getD 0) ∧
    (parts.partState 1 = 1 ∧ (∀ k ∈ List.range 6, (6 : Nat).testBit k = true → parts.cluPart k = 1 ∨ parts.cluLive k = true ∧ parts.cluPart k = 0) ∧ (∀ k ∈ List.range 6, (6 : Nat).testBit k = false → parts.cluPart k = 1 → parts.cluIdle k = true) ∧ on.cluIdle 0 = false ∧ 2 ≤ (parts.wf (Addr.truPartStat 1) 1 0 2).partState 1) ∧
    ((okSrc .sup = true ∧ (parts).reaches .sup = true ∧ (parts).pmu.on = true ∧ (parts).regLive (Addr.truPartCtl 4) = true ∧ (parts).mayWrite .sup .truPartCtl 4 = true) ∧ parts.partState 4 ≠ 1) ∧
    (((parts.wf (Addr.truPartStat 1) 1 0 2).setTd 1 { tear0 with step := 1 }).partState 1 = 2 ∧ (((parts.wf (Addr.truPartStat 1) 1 0 2).setTd 1 { tear0 with step := 1 }).td 1).step = 1 ∧ parts.jobsLeft 1 = false ∧ onJob.jobsLeft 1 = true) ∧
    ((100000000 - 407200) + 407200 ≤ parts.time ∧ parts.time < 100000000 - 407199 + 407200 ∧ (∀ k ∈ List.range 6, parts.cluPart k = 1 → k ∉ parts.pmu.clearing)) :=
  ⟨by decide,
   by decide,
   by decide,
   by decide,
   by decide⟩

theorem witness_TrustCommands :
    (on.rb Addr.truCmdstat 63 = false ∧ (on.wb Addr.truCmdstat 63 true).rb Addr.truCmdstat 63 = true ∧ on.trust.result = none ∧ Src.part 1 ≠ .sup) ∧
    (({ on with trust := { on.trust with result := some 255 } }).trust.result = some 255) ∧
    (6 ≤ 6 ∧ (0 : Nat) < on.trust.cmeas.length) ∧
    (((on.setKey 4 { keys0 with seed := some [] }).key 4).seed = some [] ∧ 1 < on.rf (Addr.fabPartEpoch 4) 7 0 + 1 ∧ on.rf (Addr.fabPartEpoch 4) 7 0 + 1 ≤ 255 ∧ (on.setKey 4 { keys0 with seed := some [] }).fabKey 4 2 = none ∧ (on.key 1).seed = none) :=
  ⟨by decide,
   by decide,
   by decide,
   by decide⟩

theorem witness_AttestationAndDebug :
    ((okSrc .sup = true ∧ (on).reaches .sup = true ∧ (on).pmu.on = true ∧ (on).regLive Addr.truAttctl = true ∧ (on).mayWrite .sup .truAttctl 0 = true) ∧ (okSrc .sup = true ∧ (on).reaches .sup = true ∧ (on).pmu.on = true ∧ (on).regLive Addr.truRecov = true ∧ (on).mayWrite .sup .truRecov 0 = true) ∧ (okSrc .sup = true ∧ (on).reaches .sup = true ∧ (on).pmu.on = true ∧ (on).regLive (Addr.truDbgchal 0) = true ∧ (on).mayRead .sup .truDbgchal (Addr.truDbgchal 0) 0 = true) ∧ (okSrc .sup = true ∧ (on).reaches .sup = true ∧ (on).pmu.on = true ∧ (on).regLive (Addr.truToken 4095) = true ∧ (on).mayWrite .sup .truToken 4095 = true) ∧ (okSrc .sup = true ∧ (on).reaches .sup = true ∧ (on).pmu.on = true ∧ (on).regLive Addr.truDbgctl = true ∧ (on).mayWrite .sup .truDbgctl 0 = true) ∧ on.trust.signing = none) ∧
    ((on.rf Addr.truStat 3 0 = 0) ∧ (on.wf Addr.truStat 3 0 1).rf Addr.truStat 3 0 ≠ 0 ∧ on.trust.dbgToken = false ∧ on.trust.token = false ∧ on.trust.unlockEnd = none) ∧
    (({ on with trust := { on.trust with token := true } }).trust.token = true ∧ ({ on with trust := { on.trust with token := true } }).tokenOk [] = false) ∧
    ((zeros 1024).length = 1024) :=
  ⟨by decide,
   by decide,
   by decide,
   List.length_replicate⟩

theorem witness_PowerAndBoot :
    (State.reset.pmu.on = false ∧ State.reset.pins.test = false ∧ on.pmu.on = true ∧ Sparse.get (fun _ => flash0) ({ State.reset with flash := [(4095, 0)] }).flash 4095 ≠ 0xFF) ∧
    (on.rf Addr.pmuSleepstat 6 4 < 5 ∧ on.pmu.boot ≠ 1 ∧ ({ on with pmu := { on.pmu with boot := 1 } }).pmu.boot = 1 ∧ (((on.wr Addr.clkLock 0x80).pllLock 0).rb Addr.clkLock 7 = true) ∧ 5 ≤ (on.setPhase 5).rf Addr.pmuSleepstat 6 4) ∧
    (({ on with pmu := { on.pmu with boot := 2 } }).pmu.boot = 2 ∧ on.pmu.boot ≠ 2) ∧
    (({ on with sup := { on.sup with st := .rom, g1 := 0x300 }, pmu := { on.pmu with boot := 3 } }).sup.st = .rom ∧ on.sup.st ≠ .rom ∧ on.rb Addr.memStat 0 = false ∧ (on.wb Addr.memStat 0 true).rb Addr.memStat 0 = true ∧ (on.wf Addr.truStat 3 0 1).trust.claim = none) ∧
    ((okSrc .sup = true ∧ (on).reaches .sup = true ∧ (on).pmu.on = true ∧ (on).regLive Addr.pmuRstctl = true ∧ (on).mayWrite .sup .pmuRstctl 0 = true) ∧ on.phase ≠ 6 ∧ ((on.setPhase 6).phase = 6) ∧ ({ on.setPhase 6 with pmu := { on.pmu with req := 3 } }).pmu.req = 3) :=
  ⟨by decide,
   by decide,
   by decide,
   by decide,
   by decide⟩

theorem witness_SleepAndWake :
    ((okSrc .sup = true ∧ (on).reaches .sup = true ∧ (on).pmu.on = true ∧ (on).regLive Addr.pmuSleep = true ∧ (on).mayWrite .sup .pmuSleep 0 = true) ∧ fld (1 : W64) 1 0 ≠ 0 ∧ on.refuseBits 1 ≠ 0 ∧ (parts.wr (Addr.truPartStat 1) 0).refuseBits 3 = 0) ∧
    ((sleeping 4 1 false).phase = 4 ∧ (sleeping 4 1 false).pairIdle = false ∧ (sleeping 1 1 false).wakesOn = [] ∧ (sleeping 3 1 true).wakesOn ≠ [] ∧ on.pmu.thermal = false ∧ (sleeping 5 3 false).phase = 5) ∧
    ((1 ≤ 7 ∧ 7 ≤ 7 ∧ 0 < 4) ∧ (sleeping 6 1 false).phase ≠ 0 ∧ (sleeping 6 1 false).pmu.req ≠ 3 ∧ (on.wr Addr.ptbWake 8).rb Addr.ptbWake 3 = true) ∧
    ((on.wr Addr.pmuAontime 5).rf Addr.pmuAontime 47 0 ≠ (on.wr Addr.pmuAontime 5).rf Addr.pmuAoncmp 47 0 ∧ ((on.wr Addr.pmuAontime 5).wr Addr.pmuAoncmp 5).rf Addr.pmuAontime 47 0 = ((on.wr Addr.pmuAontime 5).wr Addr.pmuAoncmp 5).rf Addr.pmuAoncmp 47 0) ∧
    ((sleeping 6 1 true).phase = 6 ∧ (sleeping 6 1 true).wakesOn ≠ [] ∧ on.phase ≠ 6) ∧
    ((okSrc .sup = true ∧ (on).reaches .sup = true ∧ (on).pmu.on = true ∧ (on).regLive Addr.pmuDramctl = true ∧ (on).mayWrite .sup .pmuDramctl 0 = true)) ∧
    ((List.replicate 12 (20 : Int)).length = 12 ∧ (20 : Int) < on.crit ∧ on.crit ≤ 115) :=
  ⟨by decide,
   by decide,
   by decide,
   by decide,
   by decide,
   by decide,
   by decide⟩

theorem witness_ClocksAndLevels :
    ((okSrc .sup = true ∧ (on).reaches .sup = true ∧ (on).pmu.on = true ∧ (on).regLive Addr.clkSel = true ∧ (on).mayWrite .sup .clkSel 0 = true) ∧ on.held = [] ∧ on.selBad 0 2 = true ∧ (on.wr Addr.clkLock 1).selBad 0 2 = false) ∧
    ((okSrc .sup = true ∧ (on).reaches .sup = true ∧ (on).pmu.on = true ∧ (on).regLive (Addr.pmuCluCtl 5) = true ∧ (on).mayWrite .sup .pmuCluCtl 5 = true) ∧ fld (0x100 : W64) 8 8 = 1 ∧ fld (0x100 : W64) 9 8 = 1 ∧ fld (0 : W64) 9 8 = 0 ∧ on.cluPart 5 = 0 ∧ on.rb (Addr.pmuCluStat 5) 6 = false ∧ (on.wb (Addr.pmuCluStat 5) 6 true).rb (Addr.pmuCluStat 5) 6 = true ∧ on.rb (Addr.pmuCluCtl 5) 8 = true ∧ on.rb (Addr.pmuCluCtl 5) 9 = false) ∧
    (on.rb (Addr.pmuCluStat 5) 4 = false ∧ on.rf (Addr.pmuCluStat 5) 2 0 ≠ Max.max (Min.min 4 3) (on.capPl 5) ∧ ((on.wb (Addr.pmuCluStat 5) 4 true).rb (Addr.pmuCluStat 5) 4 = true)) ∧
    (on.pmu.temps = [] ∧ on.throt ≤ 105 ∧ on.goalPl 5 < 4 ∧ ({ on with pmu := { on.pmu with cap := [(5, 3)] } }).goalPl 5 = 3 ∧ on.reqPl 5 < ({ on with pmu := { on.pmu with cap := [(5, 3)] } }).capPl 5) ∧
    (on.cluPart 0 ≠ 0 ∧ on.cluIdle 0 = false ∧ (on.wb (Addr.pmuCluStat 5) 7 true).rb (Addr.pmuCluStat 5) 7 = true) ∧
    (on.time % 400000 = 0 ∧ ({ on with time := 1 }).time % 400000 ≠ 0) :=
  ⟨by decide,
   by decide,
   by decide,
   by decide,
   by decide,
   by decide⟩

theorem witness_SegmentsAndBases :
    ((okSrc .sup = true ∧ (on).reaches .sup = true ∧ (on).pmu.on = true ∧ (on).regLive (Addr.glbSegCfg 4 31) = true ∧ (on).mayWrite .sup .glbSegCfg 4 = true) ∧ on.segCheck 4 31 0 0 0 ≠ 0 ∧ on.segCheck 4 31 0 0x20000 65536 = 0) ∧
    ((okSrc .sup = true ∧ (parts).reaches .sup = true ∧ (parts).pmu.on = true ∧ (parts).regLive (Addr.cluBasectl 0) = true ∧ (parts).mayWrite .sup .cluBasectl 0 = true) ∧ parts.rb (Addr.cluBasectl 0) 1 = true ∧ parts.cluLive 0 = true ∧ parts.cluPart 0 ≠ 0 ∧ on.rb (Addr.cluBasectl 0) 1 = false ∧ on.cluPart 5 = 0 ∧ (0 : W64).getLsbD 2 = false) :=
  ⟨by decide,
   by decide⟩

theorem witness_TestAndSmbus :
    (on.rb Addr.truStat 6 = false ∧ (on.wb Addr.truStat 6 true).rb Addr.truStat 6 = true ∧ on.rb Addr.truDbgstat 7 = false) :=
  by decide

theorem witness_MemoryStaysCanonical :
    (Memory.wf (filled on 0x20000 0 [1, 2]).mem = true ∧ Memory.wf State.reset.mem = true) :=
  by decide

theorem witness_SensorCommandsComplete :
    (on.pmu.on = true ∧ on.ptbOn = true ∧ on.ingOn = true ∧ (axisOn on 3 5).rb (Addr.ptbAxCfg 3) 0 = true ∧ (axisOn on 3 5).rb (Addr.ptbAxCfg 3) 1 = false ∧ (axisOn on 3 5).rb Addr.ptbWake 3 = false ∧ ((axisOn on 3 5).axis 3).z = none ∧ ((axisOn on 3 5).axis 3).aAt = none ∧ ((axisOn on 3 5).wf (Addr.ptbAxCfg 3) 9 8 1).rf (Addr.ptbAxCfg 3) 9 8 = 1) ∧
    ((on.axis 3).last + 400 * Max.max 1 (on.rf (Addr.ptbAxVcfg 3) 31 16) ≤ on.time ∧ on.velN < on.time / 4000 ∧ fld (4 : W64) 3 2 ≠ 0 ∧ (on.wr (Addr.ptbSlotTgt 63) 1).slotLate 63 (setBit 4 0 true) = false ∧ (pulsing 7 500000004 false).out 7 = { out0 with q := [⟨500000004, 500000004, 0, 0, [], []⟩] } ∧ ((pulsing 11 500000004 true).out (8 + 3)).run = some ⟨500000004, 500000004, 0, 0, [], []⟩ ∧ 500000004 < 5 * on.time + 5) ∧
    (sender.rf Addr.ptbBcastCfg 3 0 ≠ 0 ∧ (100000000 : Nat) - 4000 * 100 + 4000 * Max.max 1 (Min.min 100 (sender.rf Addr.ptbBcastCfg 15 8)) ≤ on.time ∧ ((sender.wf Addr.ptbBcastCfg 18 16 4).wf (Addr.fabPartDom 4) 7 0 9).domOf (ownerOf (((sender.wf Addr.ptbBcastCfg 18 16 4).wf (Addr.fabPartDom 4) 7 0 9).rf Addr.ptbBcastCfg 18 16)) ≠ 0 ∧ ((on.setPort 3 { port0 with rx := [(posBlock, 0)] }).port 3).rx = (posBlock, 0) :: [] ∧ on.clk (11 + 3) = true ∧ posBlock.type = 8) ∧
    ((follower 3 26214400 0).follows 3 = true ∧ (follower 3 26214400 0).axLost 3 = false ∧ 26214400 ≤ ((follower 3 26214400 0).axis 3).phase ∧ ((follower 3 26214400 0).axis 3).stepAt ≠ some 100000000 ∧ ((follower 3 26214400 0).axis 3).hold = 0 ∧ ((follower 3 26214400 0).axis 3).pktAt + 3 * (4000 * Max.max 1 (Min.min 100 ((follower 3 26214400 0).rf Addr.ptbBcastCfg 15 8))) ≤ on.time ∧ (on.setPortState 3 3).rf (Addr.fabPortStat 3) 2 0 = 3 ∧ ({ on.setPortState 3 3 with time := 400000000 }.port 3).latAt + 400000000 ≤ 400000000) ∧
    ((okSrc .sup = true ∧ (on).reaches .sup = true ∧ (on).pmu.on = true ∧ (on).regLive (Addr.cxpCamCfg 3) = true ∧ (on).mayWrite .sup .cxpCamCfg 3 = true) ∧ (okSrc .sup = true ∧ (on).reaches .sup = true ∧ (on).pmu.on = true ∧ (on).regLive (Addr.ingCamCfg 3) = true ∧ (on).mayWrite .sup .ingCamCfg 3 = true) ∧ (okSrc .sup = true ∧ (on).reaches .sup = true ∧ (on).pmu.on = true ∧ (on).regLive (Addr.cxpCamCtl 3) = true ∧ (on).mayWrite .sup .cxpCamCtl 3 = true) ∧ (okSrc .sup = true ∧ (on).reaches .sup = true ∧ (on).pmu.on = true ∧ (on).regLive (Addr.ingCalCtl 7) = true ∧ (on).mayWrite .sup .ingCalCtl 7 = true) ∧ on.inLine 7 = false ∧ (okSrc .sup = true ∧ (on).reaches .sup = true ∧ (on).pmu.on = true ∧ (on).regLive Addr.jesCfg = true ∧ (on).mayWrite .sup .jesCfg 0 = true)) ∧
    ((camera on 3 7).rb (Addr.cxpConCfg 7) 0 = true ∧ (camera on 3 7).rb (Addr.cxpConStat 7) 0 = true ∧ (camera on 3 7).camCons 3 = (7, 1) ∧ (camera on 3 7).receiving 3 = true ∧ (camera on 3 7).receiving 0 = false ∧ (camera on 3 7).receiving 1 = false ∧ (camera on 3 7).receiving 2 = false ∧ ((camera on 3 7).cam 3).held = [] ∧ (((camera on 3 7).setCam 3 { (camera on 3 7).cam 3 with expect := some 255 }).cam 3).expect = some 255 ∧ ((camera on 3 7).cam 3).line = none ∧ (on.wr (Addr.cxpConCfg 7) 0xC01).rf (Addr.cxpConCfg 7) 11 8 ∈ [1, 2, 3, 5, 6, 10, 12]) ∧
    ((({ uplink0 with edge := 499999964, busy := true, fin := 0 } : Uplink)).busy = true ∧ Max.max (499999964 + 40) 0 ≤ 500000004 ∧ 500000004 < Max.max (499999964 + 40) 0 + 960 ∧ (500000004 : Nat) + 960 ≤ 500000964 ∧ (500000004 : Nat) < 5 * on.time + 5 ∧ Max.max 1 (on.rf (Addr.cxpCamTrig 3) 15 0) = 1 ∧ ((camera on 3 7).wf (Addr.cxpCamCfg 3) 25 16 1).camOn 3 = true ∧ Min.min 1000 (((camera on 3 7).wf (Addr.cxpCamCfg 3) 25 16 1).rf (Addr.cxpCamCfg 3) 25 16) = 1 ∧ ((camera on 3 7).cam 3).hbAt + 400000 * 1 ≤ (camera on 3 7).time ∧ (0 + 4096 - on.rf (Addr.cxpCamRxptr 3) 27 16) % 4096 + 8 < 4096 ∧ 0 + 400 * Max.max 1 (on.rf (Addr.ingCamCfg 3) 39 32) < on.time) ∧
    (({ on with jes := { jes0 with applied := true } }).jes.lemc = none ∧ ({ on with jes := { jes0 with applied := true, lemc := some 5 } }).jes.lemc.isSome = true ∧ on.rb Addr.jesStat 0 = false ∧ (on.wb Addr.jesStat 0 true).rb Addr.jesStat 0 = true) :=
  ⟨by decide,
   by decide,
   by decide,
   by decide,
   by decide,
   by decide,
   by decide,
   by decide⟩

theorem witness_DeviceCommandsComplete :
    (((open9 0).die 9).st = .opened ∧ ((open9 0).die 9).acq = none ∧ ((open9 0).die 9).sealed = false ∧ condHolds ((open9 0).die 9).dir ((open9 0).die 9).endc ((open9 0).cnt ((open9 0).scanAxis 1)) = true ∧ (0 : Nat) + 6360000 ≤ on.time) ∧
    ((posted9.vring 7).q = 9 :: [] ∧ posted9.poster 7 (posted9.die 9).part = some (0, 0) ∧ (posted9.die 9).part ≤ 4 ∧ posted9.rb (Addr.vdlRingCfg 7) 0 = true ∧ (posted9.vring 7).stopped = false ∧ posted9.linkUp = true ∧ posted9.meshOn = true ∧ (posted9.rf (Addr.vdlRingPidx 7) 31 0 + 2 ^ 32 - (posted9.vring 7).cons) % 2 ^ 32 ≠ 2 ^ Max.max 6 (Min.min 16 (posted9.rf (Addr.vdlRingCfg 7) 12 8)) ∧ (posted9.vring 7).readAt = none ∧ (0 : Nat) + 400 * posted9.rf (Addr.vdlRingCfg 7) 39 32 ≤ posted9.time) ∧
    ((okSrc .sup = true ∧ (on).reaches .sup = true ∧ (on).pmu.on = true ∧ (on).regLive (Addr.vdlPartMtab 4) = true ∧ (on).mayWrite .sup .vdlPartMtab 4 = true) ∧ (okSrc .sup = true ∧ (on).reaches .sup = true ∧ (on).pmu.on = true ∧ (on).regLive (Addr.schSemCfg 5 255) = true ∧ (on).mayWrite .sup .schSemCfg 5 = true) ∧ (on.sem (5 * 256 + 255)).waiters = [] ∧ (okSrc .sup = true ∧ (on).reaches .sup = true ∧ (on).pmu.on = true ∧ (on).regLive (Addr.dlmPartCfg 4) = true ∧ (on).mayWrite .sup .dlmPartCfg 4 = true) ∧ on.cluUp 0 = true ∧ (on.wb (Addr.schCfg 0) 0 true).rb (Addr.schCfg 0) 0 = true ∧ (on.ctx 0 63).st = .free ∧ on.partActive (on.cluPart 0) = true ∧ (on.wr (Addr.schCfg 0) 0xFFFFFFFFFFFFFFFF).serves 0 (waiting 2 2) = true ∧ (on.clu 0).preempt = false ∧ (on.clu 0).innEnd ≤ on.time ∧ on.npFlying (tid 0 64) = false) ∧
    (({ op1 64 with np := true, start := some 0 }).np = true ∧ ({ op1 64 with np := true, start := some 0 }).done = false ∧ 0 + 800 * ({ op1 64 with np := true, start := some 0 }).npb ≤ on.time ∧ thClass 64 ≠ .job ∧ ((on.setSem 255 ⟨[(64, 0)], []⟩).sem (0 * 256 + 255)).holders = (64, 0) :: [] ∧ 0 + 400 * Max.max 1 (on.rf (semCfg 255) 63 48) < on.time ∧ ({ on with queued := [{ waiting 1 1 with agelim := 1 }] }).queued.find? (fun (j : Job) => j.part == 1 && j.jseq == 7 && ({ on with queued := [{ waiting 1 1 with agelim := 1 }] }).tooOld j) = some { waiting 1 1 with agelim := 1 }) ∧
    ((okSrc .sup = true ∧ (on).reaches .sup = true ∧ (on).pmu.on = true ∧ (on).regLive (Addr.awPartPoolAlloc 4 8) = true ∧ (on).mayRead .sup .awPartPoolAlloc (Addr.awPartPoolAlloc 4 8) 4 = true) ∧ (okSrc .sup = true ∧ (on).reaches .sup = true ∧ (on).pmu.on = true ∧ (on).regLive (Addr.awPartTalloc 1) = true ∧ (on).mayRead .sup .awPartTalloc (Addr.awPartTalloc 1) 1 = true) ∧ (okSrc .sup = true ∧ (on).reaches .sup = true ∧ (on).pmu.on = true ∧ (on).regLive (Addr.awPartPoolFree 4 8) = true ∧ (on).mayWrite .sup .awPartPoolFree 4 = true) ∧ (okSrc .sup = true ∧ (on).reaches .sup = true ∧ (on).pmu.on = true ∧ (on).regLive (Addr.awPartTfree 1) = true ∧ (on).mayWrite .sup .awPartTfree 1 = true) ∧ (okSrc .sup = true ∧ (on).reaches .sup = true ∧ (on).pmu.on = true ∧ (on).regLive (poolCfg 4 8) = true ∧ (on).mayWrite .sup .awPartPoolCfg 4 = true)) ∧
    ((pooled 8 4 [3]).rb (poolCfg 1 8) 31 = true ∧ (pooled 8 4 [3]).pool (poolKey 1 8) = 3 :: [] ∧ (pooled 8 4 [3]).recGet 1 8 3 8 8 < (pooled 8 4 [3]).safeEpoch 1 ∧ (pooled 9 4 [3]).rb (poolCfg 1 9) 31 = true ∧ (pooled 9 4 [3]).pool (poolKey 1 9) = 3 :: [] ∧ (pooled 9 4 [3]).recGet 1 9 3 8 8 < (pooled 9 4 [3]).safeEpoch 1) ∧
    (((pooled 8 4 []).devAddr 0 .read (fld (0x300000 : W64) 47 0) 1).bind ((pooled 8 4 []).objOf 1 8) = some 3 ∧ 2 ≤ ((pooled 8 4 []).recPut 1 8 3 0 2 2).recGet 1 8 3 0 2 ∧ ((pooled 9 4 []).devAddr 0 .read (fld (BitVec.ofNat 64 (3 * objSize 9)) 47 0) 1).bind ((pooled 9 4 []).objOf 1 9) = some 3 ∧ 2 ≤ ((pooled 9 4 []).recPut 1 9 3 0 2 2).recGet 1 9 3 0 2) ∧
    ((okSrc .sup = true ∧ (on).reaches .sup = true ∧ (on).pmu.on = true ∧ (on).regLive (Addr.sqStrCfg 5 255) = true ∧ (on).mayWrite .sup .sqStrCfg 5 = true) ∧ on.sqRes 5 255 ≠ 3 ∧ on.sqRes 5 255 ≠ 4 ∧ on.ops.any (fun o => !o.done && o.names 5 255) = false ∧ (okSrc .sup = true ∧ (on).reaches .sup = true ∧ (on).pmu.on = true ∧ (on).regLive (Addr.sqStrLive 5 255) = true ∧ (on).mayWrite .sup .sqStrLive 5 = true) ∧ on.rb (Addr.sqStrCfg 5 255) 31 = false ∧ on.canSwap 0 = true ∧ (((ldst on).setSqRes 0 255 3).sqRead 0 0 4).ok = true ∧ (((ldst on).setSqRes 0 255 4).sqRead 0 0 4).ok = true) ∧
    (({ on.setRole 25 6 with pmu := { on.pmu with boot := 3 } }).pmu.boot = 3 ∧ (on.setRole 25 6).role 25 = 6 ∧ (on.setRole 25 4).role 25 = 4 ∧ (rotating 120000000000).rb Addr.memRotCfg 0 = true ∧ (rotating 120000000000).rotAt + 400000000 * Max.max 1 ((rotating 120000000000).rf Addr.memRotCfg 47 32) ≤ (rotating 120000000000).time ∧ (rotating 120000000000).role 24 = 1 ∧ (rotating 120000000000).role 0 = 0 ∧ (rotating 120000000000).slotsOn 0 ≠ [] ∧ (moving 8388608).rd (Addr.hltKindRet 11) = 0 ∧ State.slotsOn (((moving 0).wf (Addr.memSlot 5) 4 0 25).wb (Addr.memSlot 5) 5 false) 5 = []) ∧
    ((portOn 3 port0).portUp 3 = true ∧ badBlock (blk 1 0) = false ∧ (blk 1 0).seq = ((portOn 3 port0).port 3).rxSeq ∧ ([⟨blk 1 5, 6⟩] : List Sent).filter (fun (b : Sent) => !decide (seqBack 5 b.blk.seq < 64)) = [] ∧ (⟨blk 1 5, 6⟩ : Sent).tries < 7 ∧ 0 + 1600 ≤ (portOn 3 port0).time ∧ 99999800 + 200 ≤ (portOn 3 port0).time ∧ (0xA1 : Nat) % 16 = 1 ∧ on.clk (11 + 3) = true ∧ (on.wr (Addr.fabPortCfg 3) 0x29).rb (Addr.fabPortCfg 3) 0 = true ∧ (on.wr (Addr.fabPortCfg 3) 0x29).portState 3 ≠ 5 ∧ (on.setPortState 3 1).portState 3 = 1 ∧ port0.trainAt + 4000000 ≤ on.time ∧ port0.fails < 2 ∧ ({ port0 with esc := true }).declared = false ∧ ((on.setPortState 3 1).wf Addr.fabCfg 43 41 4).partnerOk 3 0 0 1 1 false = true) :=
  ⟨by decide,
   by decide,
   by decide,
   by decide,
   by decide,
   by decide,
   by decide,
   by decide,
   by decide,
   by decide⟩

/-- A device with a command waiting and a byte of an image in its flash. -/
def flashed : State := { filled on 0x20000 0 [1, 2] with flash := [(0x30000, 7)], pending := [.jtagBypass] }

theorem witness_FlashImagesStay :
    (∀ k, 0x30000 ≤ k → Sparse.get (fun _ => flash0) flashed.flash k = Sparse.get (fun _ => flash0) [(0x30000, 7)] k) ∧
    (∃ t, StepsTo flashed t) := ⟨fun _ _ => rfl, _, rfl⟩

theorem witness_MemoryStaysCanonical_step : Memory.wf flashed.mem = true ∧ (∃ t, StepsTo flashed t) := ⟨by decide, _, rfl⟩

/-! Ill-formed terms: for every check of WellFormed, one that it refuses. -/

theorem test_illformed_source_0 :
    (∀ v0 v1, Instr.wf (.registerWrite (.part 5) 0 v0 v1) = false) ∧
    (∀ v0, Instr.wf (.axisCounterWrite (.part 5) 0 v0) = false) ∧
    (∀ v0, Instr.wf (.slotArm (.part 5) 0 v0) = false) ∧
    (∀ v0, Instr.wf (.slotDisarm (.part 5) 0 v0) = false) ∧
    (∀ v0, Instr.wf (.cameraConfigWrite (.part 5) 0 v0) = false) ∧
    (∀ v0, Instr.wf (.ingCameraEnable (.part 5) 0 v0) = false) ∧
    (∀ v0, Instr.wf (.controlSend (.part 5) 0 v0) = false) ∧
    (∀ v0, Instr.wf (.calLoad (.part 5) 0 v0) = false) ∧
    (∀ v0, Instr.wf (.calStore (.part 5) 0 v0) = false) ∧
    (∀ v0, Instr.wf (.jesdConfigWrite (.part 5) v0) = false) ∧
    (∀ v0, Instr.wf (.mtabWrite (.part 5) 1 v0) = false) ∧
    (∀ v0, Instr.wf (.semConfigWrite (.part 5) 0 0 v0) = false) ∧
    (∀ v0, Instr.wf (.dlmReseed (.part 5) 1 v0) = false) ∧
    (Instr.wf (.poolAlloc (.part 5) 1 0) = false) ∧
    (∀ v0, Instr.wf (.poolFree (.part 5) 1 0 v0) = false) ∧
    (Instr.wf (.tableAlloc (.part 5) 1) = false) ∧
    (∀ v0, Instr.wf (.tableFree (.part 5) 1 v0) = false) ∧
    (∀ v0, Instr.wf (.poolConfigWrite (.part 5) 1 0 v0) = false) ∧
    (∀ v0, Instr.wf (.sqStreamConfigWrite (.part 5) 0 0 v0) = false) ∧
    (∀ v0, Instr.wf (.sqLiveWrite (.part 5) 0 0 v0) = false) ∧
    (∀ v0, Instr.wf (.sramClear (.part 5) v0) = false) ∧
    (∀ v0, Instr.wf (.scrubAdvance (.part 5) v0) = false) ∧
    (∀ v0, Instr.wf (.tdunpin (.part 5) v0) = false) ∧
    (∀ v0, Instr.wf (.fabricEpochAdvance (.part 5) 1 v0) = false) ∧
    (∀ v0, Instr.wf (.fabricEpochRetire (.part 5) 1 v0) = false) ∧
    (∀ v0, Instr.wf (.requestScan (.part 5) v0) = false) ∧
    (∀ v0, Instr.wf (.evpost (.part 5) v0) = false) ∧
    (∀ v0, Instr.wf (.thresholdWrite (.part 5) 1 v0) = false) ∧
    (∀ v0, Instr.wf (.retireWrite (.part 5) 1 v0) = false) ∧
    (∀ v0, Instr.wf (.watchdogKick (.part 5) v0) = false) := by
  and_intros <;> intros <;> rfl

theorem test_illformed_source_1 :
    (∀ v0, Instr.wf (.requestedRestart (.part 5) v0) = false) ∧
    (∀ v0, Instr.wf (.partitionCreate (.part 5) 1 v0) = false) ∧
    (∀ v0, Instr.wf (.partitionResize (.part 5) 1 v0) = false) ∧
    (∀ v0 v1, Instr.wf (.cfgwrite (.part 5) v0 v1) = false) ∧
    (∀ v0, Instr.wf (.stage (.part 5) v0) = false) ∧
    (∀ v0, Instr.wf (.unstage (.part 5) v0) = false) ∧
    (∀ v0, Instr.wf (.extend (.part 5) v0) = false) ∧
    (∀ v0 v1, Instr.wf (.loadseed (.part 5) v0 v1) = false) ∧
    (∀ v0, Instr.wf (.hostEpochAdvance (.part 5) 1 v0) = false) ∧
    (∀ v0, Instr.wf (.teardown (.part 5) 1 v0) = false) ∧
    (∀ v0, Instr.wf (.attestGo (.part 5) v0) = false) ∧
    (∀ v0, Instr.wf (.claimPackage (.part 5) v0) = false) ∧
    (Instr.wf (.debugChallenge (.part 5)) = false) ∧
    (∀ v0, Instr.wf (.debugToken (.part 5) v0) = false) ∧
    (∀ v0, Instr.wf (.debugRelock (.part 5) v0) = false) ∧
    (∀ v0, Instr.wf (.sleepRequest (.part 5) v0) = false) ∧
    (∀ v0, Instr.wf (.clockSelect (.part 5) v0) = false) ∧
    (∀ v0, Instr.wf (.selfRefreshExit (.part 5) v0) = false) ∧
    (∀ v0, Instr.wf (.levelRequest (.part 5) 0 v0) = false) ∧
    (∀ v0 v1, Instr.wf (.warmReset v0 (.part 5) v1) = false) ∧
    (∀ v0, Instr.wf (.clusterReset (.part 5) 0 v0) = false) ∧
    (∀ v0, Instr.wf (.clusterPower (.part 5) 0 v0) = false) ∧
    (∀ v0, Instr.wf (.segmentEnable (.part 5) 1 0 v0) = false) ∧
    (∀ v0, Instr.wf (.segmentDisable (.part 5) 1 0 v0) = false) ∧
    (∀ v0, Instr.wf (.baseStart (.part 5) 0 v0) = false) ∧
    (∀ v0, Instr.wf (.baseHalt (.part 5) 0 v0) = false) := by
  and_intros <;> intros <;> rfl

theorem test_illformed_number_0 :
    (∀ v0 v1, Instr.wf (.registerWrite .sup 67108864 v0 v1) = false) ∧
    (∀ v0 v1, Instr.wf (.registerWrite .sup 4 v0 v1) = false) ∧
    (∀ v0 v1, Instr.wf (.encoderTransition 4 v0 v1) = false) ∧
    (Instr.wf (.zEdge 4) = false) ∧
    (∀ v0, Instr.wf (.axisCounterWrite .sup 4 v0) = false) ∧
    (Instr.wf (.axisStopped 4) = false) ∧
    (∀ v0, Instr.wf (.slotArm .sup 64 v0) = false) ∧
    (∀ v0, Instr.wf (.slotDisarm .sup 64 v0) = false) ∧
    (Instr.wf (.trigPulseStart 8) = false) ∧
    (Instr.wf (.trigPulseEnd 8) = false) ∧
    (Instr.wf (.markPulseStart 4) = false) ∧
    (Instr.wf (.markPulseEnd 4) = false) ∧
    (∀ v0 v1, Instr.wf (.posPacketReceive 4 v0 v1) = false) ∧
    (Instr.wf (.followerStep 4) = false) ∧
    (Instr.wf (.followerLost 4) = false) ∧
    (∀ v0 v1, Instr.wf (.linkLatencyMeasure 4 v0 v1) = false) ∧
    (∀ v0, Instr.wf (.cameraConfigWrite .sup 4 v0) = false) ∧
    (∀ v0, Instr.wf (.ingCameraEnable .sup 4 v0) = false) ∧
    (Instr.wf (.cxpLockLoss 8) = false) ∧
    (Instr.wf (.cxpLockAcquire 8) = false) ∧
    (∀ v0 v1, Instr.wf (.uplinkTriggerRising 4 v0 v1) = false) ∧
    (∀ v0 v1, Instr.wf (.uplinkTriggerFalling 4 v0 v1) = false) ∧
    (∀ v0, Instr.wf (.controlSend .sup 4 v0) = false) ∧
    (∀ v0, Instr.wf (.controlReceive 4 v0) = false) ∧
    (∀ v0, Instr.wf (.eventPacketReceive 4 v0) = false) ∧
    (Instr.wf (.heartbeat 4) = false) ∧
    (Instr.wf (.fireRecordExpire 4) = false) ∧
    (∀ v0, Instr.wf (.calLoad .sup 8 v0) = false) ∧
    (∀ v0, Instr.wf (.calStore .sup 8 v0) = false) ∧
    (Instr.wf (.jesdLockLoss 4) = false) := by
  and_intros <;> intros <;> rfl

theorem test_illformed_number_1 :
    (Instr.wf (.dieAcquired 4096) = false) ∧
    (Instr.wf (.dieForce 4096) = false) ∧
    (Instr.wf (.verdictRecordWrite 8) = false) ∧
    (Instr.wf (.consumerIndexRead 13) = false) ∧
    (Instr.wf (.interruptModerationExpiry 13) = false) ∧
    (∀ v0, Instr.wf (.jobTake 6 0 v0) = false) ∧
    (∀ v0, Instr.wf (.jobTake 0 64 v0) = false) ∧
    (Instr.wf (.inningsBoundary 6) = false) ∧
    (Instr.wf (.preemptTileBoundary 6) = false) ∧
    (Instr.wf (.holdFault 7 0) = false) ∧
    (Instr.wf (.holdFault 0 256) = false) ∧
    (∀ v0, Instr.wf (.semConfigWrite .sup 7 0 v0) = false) ∧
    (∀ v0, Instr.wf (.semConfigWrite .sup 0 256 v0) = false) ∧
    (∀ v0, Instr.wf (.weightBlockLoaded v0 8) = false) ∧
    (∀ v0, Instr.wf (.ppStreamEntry 2 v0) = false) ∧
    (Instr.wf (.poolAlloc .sup 1 9) = false) ∧
    (∀ v0, Instr.wf (.poolFree .sup 1 9 v0) = false) ∧
    (∀ v0, Instr.wf (.poolConfigWrite .sup 1 9 v0) = false) ∧
    (∀ v0, Instr.wf (.sqStreamConfigWrite .sup 6 0 v0) = false) ∧
    (∀ v0, Instr.wf (.sqStreamConfigWrite .sup 0 256 v0) = false) ∧
    (∀ v0, Instr.wf (.sqLiveWrite .sup 6 0 v0) = false) ∧
    (∀ v0, Instr.wf (.sqLiveWrite .sup 0 256 v0) = false) ∧
    (∀ v0, Instr.wf (.swapInComplete 6 0 v0) = false) ∧
    (∀ v0, Instr.wf (.swapInComplete 0 256 v0) = false) ∧
    (Instr.wf (.swapOutComplete 6 0) = false) ∧
    (Instr.wf (.swapOutComplete 0 256) = false) ∧
    (Instr.wf (.eraseScrubComplete 384) = false) ∧
    (Instr.wf (.channelInitComplete 26) = false) ∧
    (Instr.wf (.retrainComplete 26) = false) ∧
    (∀ v0 v1, Instr.wf (.fabricBlockReceive 4 v0 v1) = false) := by
  and_intros <;> intros <;> rfl

theorem test_illformed_number_2 :
    (∀ v0, Instr.wf (.ackReceive 4 v0) = false) ∧
    (∀ v0, Instr.wf (.nakReceive 4 v0) = false) ∧
    (Instr.wf (.replayTimeout 4) = false) ∧
    (Instr.wf (.ackDelayExpiry 4) = false) ∧
    (∀ v0 v1 v2 v3, Instr.wf (.fastRetrainComplete 4 v0 v1 v2 v3) = false) ∧
    (Instr.wf (.portTrainingStart 4) = false) ∧
    (∀ v0 v1 v2 v3 v4 v5 v6, Instr.wf (.trainingComplete 4 v0 v1 v2 v3 v4 v5 v6) = false) ∧
    (Instr.wf (.trainingTimeout 4) = false) ∧
    (∀ v0, Instr.wf (.eqRequest 4 0 v0) = false) ∧
    (∀ v0, Instr.wf (.eqRequest 0 2 v0) = false) ∧
    (∀ v0 v1, Instr.wf (.creditReturn 4 v0 v1) = false) ∧
    (∀ v0, Instr.wf (.blockSend 4 v0) = false) ∧
    (Instr.wf (.wrReceive 4) = false) ∧
    (Instr.wf (.wrackReceive 4) = false) ∧
    (Instr.wf (.wrnakReceive 4) = false) ∧
    (∀ v0, Instr.wf (.rdreqReceive 4 v0) = false) ∧
    (Instr.wf (.rdrspReceive 4) = false) ∧
    (Instr.wf (.rdnakReceive 4) = false) ∧
    (Instr.wf (.flagReceive 4) = false) ∧
    (∀ v0 v1 v2, Instr.wf (.configRequest 5 v0 v1 v2) = false) ∧
    (∀ v0 v1 v2, Instr.wf (.bar2Read 5 v0 v1 v2) = false) ∧
    (∀ v0 v1, Instr.wf (.bar2Write 5 v0 v1) = false) ∧
    (Instr.wf (.functionLevelReset 5) = false) ∧
    (Instr.wf (.eventRecordWrite 5) = false) ∧
    (Instr.wf (.errorWindowEnd 0 0) = false) ∧
    (Instr.wf (.errorWindowEnd 14 0) = false) ∧
    (Instr.wf (.errorWindowEnd 1 2560) = false) ∧
    (Instr.wf (.suspectExpiry 0 0) = false) ∧
    (Instr.wf (.suspectExpiry 14 0) = false) ∧
    (Instr.wf (.suspectExpiry 1 2560) = false) := by
  and_intros <;> intros <;> rfl

theorem test_illformed_number_3 :
    (∀ v0, Instr.wf (.thresholdWrite .sup 0 v0) = false) ∧
    (∀ v0, Instr.wf (.thresholdWrite .sup 14 v0) = false) ∧
    (∀ v0, Instr.wf (.retireWrite .sup 0 v0) = false) ∧
    (∀ v0, Instr.wf (.retireWrite .sup 14 v0) = false) ∧
    (Instr.wf (.clusterClearComplete 6) = false) ∧
    (Instr.wf (.wakeEvent 0 0) = false) ∧
    (Instr.wf (.wakeEvent 8 0) = false) ∧
    (Instr.wf (.wakeEvent 1 4) = false) ∧
    (Instr.wf (.pllLock 41) = false) ∧
    (∀ v0, Instr.wf (.levelRequest .sup 6 v0) = false) ∧
    (Instr.wf (.levelSwitchComplete 6) = false) ∧
    (Instr.wf (.throttleStep 6) = false) ∧
    (∀ v0, Instr.wf (.clusterReset .sup 6 v0) = false) ∧
    (∀ v0, Instr.wf (.clusterPower .sup 6 v0) = false) ∧
    (∀ v0, Instr.wf (.segmentEnable .sup 1 32 v0) = false) ∧
    (∀ v0, Instr.wf (.segmentDisable .sup 1 32 v0) = false) ∧
    (∀ v0, Instr.wf (.baseStart .sup 6 v0) = false) ∧
    (∀ v0, Instr.wf (.baseHalt .sup 6 v0) = false) ∧
    (Instr.wf (.clusterResetComplete 6) = false) := by
  and_intros <;> intros <;> rfl

theorem test_illformed_thread_0 :
    (∀ v0 v1 v2 v3 v4, Instr.wf (.pass 65 v0 v1 v2 v3 v4) = false) ∧
    (∀ v0 v1 v2 v3, Instr.wf (.verdOpen 65 v0 v1 v2 v3) = false) ∧
    (∀ v0 v1 v2 v3, Instr.wf (.verdPost 65 v0 v1 v2 v3) = false) ∧
    (∀ v0 v1 v2 v3, Instr.wf (.verdSeal 65 v0 v1 v2 v3) = false) ∧
    (∀ v0 v1 v2 v3, Instr.wf (.verdClose 65 v0 v1 v2 v3) = false) ∧
    (∀ v0 v1 v2, Instr.wf (.add 65 v0 v1 v2) = false) ∧
    (∀ v0 v1 v2, Instr.wf (.sub 65 v0 v1 v2) = false) ∧
    (∀ v0 v1 v2, Instr.wf (.and_ 65 v0 v1 v2) = false) ∧
    (∀ v0 v1 v2, Instr.wf (.or_ 65 v0 v1 v2) = false) ∧
    (∀ v0 v1 v2, Instr.wf (.xor 65 v0 v1 v2) = false) ∧
    (∀ v0 v1 v2, Instr.wf (.andn 65 v0 v1 v2) = false) ∧
    (∀ v0 v1 v2, Instr.wf (.sll 65 v0 v1 v2) = false) ∧
    (∀ v0 v1 v2, Instr.wf (.srl 65 v0 v1 v2) = false) ∧
    (∀ v0 v1 v2, Instr.wf (.sra 65 v0 v1 v2) = false) ∧
    (∀ v0 v1 v2, Instr.wf (.ror 65 v0 v1 v2) = false) ∧
    (∀ v0 v1 v2, Instr.wf (.min 65 v0 v1 v2) = false) ∧
    (∀ v0 v1 v2, Instr.wf (.max 65 v0 v1 v2) = false) ∧
    (∀ v0 v1 v2, Instr.wf (.minu 65 v0 v1 v2) = false) ∧
    (∀ v0 v1 v2, Instr.wf (.maxu 65 v0 v1 v2) = false) ∧
    (∀ v0 v1 v2, Instr.wf (.clz 65 v0 v1 v2) = false) ∧
    (∀ v0 v1 v2, Instr.wf (.popc 65 v0 v1 v2) = false) ∧
    (∀ v0 v1 v2, Instr.wf (.sx48 65 v0 v1 v2) = false) ∧
    (∀ v0 v1 v2, Instr.wf (.zx48 65 v0 v1 v2) = false) ∧
    (∀ v0 v1 v2, Instr.wf (.mul 65 v0 v1 v2) = false) ∧
    (∀ v0 v1 v2, Instr.wf (.mulh 65 v0 v1 v2) = false) ∧
    (∀ v0 v1 v2, Instr.wf (.mulhu 65 v0 v1 v2) = false) ∧
    (∀ v0 v1 v2, Instr.wf (.div 65 v0 v1 v2) = false) ∧
    (∀ v0 v1 v2, Instr.wf (.divu 65 v0 v1 v2) = false) ∧
    (∀ v0 v1 v2, Instr.wf (.rem 65 v0 v1 v2) = false) ∧
    (∀ v0 v1 v2, Instr.wf (.remu 65 v0 v1 v2) = false) := by
  and_intros <;> intros <;> rfl

theorem test_illformed_thread_1 :
    (∀ v0 v1 v2, Instr.wf (.cmpeq 65 v0 v1 v2) = false) ∧
    (∀ v0 v1 v2, Instr.wf (.cmpne 65 v0 v1 v2) = false) ∧
    (∀ v0 v1 v2, Instr.wf (.cmplt 65 v0 v1 v2) = false) ∧
    (∀ v0 v1 v2, Instr.wf (.cmpge 65 v0 v1 v2) = false) ∧
    (∀ v0 v1 v2, Instr.wf (.cmpltu 65 v0 v1 v2) = false) ∧
    (∀ v0 v1 v2, Instr.wf (.cmpgeu 65 v0 v1 v2) = false) ∧
    (∀ v0 v1 v2, Instr.wf (.pand 65 v0 v1 v2) = false) ∧
    (∀ v0 v1 v2, Instr.wf (.por 65 v0 v1 v2) = false) ∧
    (∀ v0 v1 v2, Instr.wf (.pxor 65 v0 v1 v2) = false) ∧
    (∀ v0 v1 v2, Instr.wf (.pandn 65 v0 v1 v2) = false) ∧
    (∀ v0 v1 v2 v3, Instr.wf (.sel 65 v0 v1 v2 v3) = false) ∧
    (∀ v0 v1 v2, Instr.wf (.addi 65 v0 v1 v2) = false) ∧
    (∀ v0 v1 v2, Instr.wf (.andi 65 v0 v1 v2) = false) ∧
    (∀ v0 v1 v2, Instr.wf (.ori 65 v0 v1 v2) = false) ∧
    (∀ v0 v1 v2, Instr.wf (.xori 65 v0 v1 v2) = false) ∧
    (∀ v0 v1 v2, Instr.wf (.seth 65 v0 v1 v2) = false) ∧
    (∀ v0 v1 v2, Instr.wf (.insh 65 v0 v1 v2) = false) ∧
    (∀ v0 v1 v2, Instr.wf (.cmpi 65 v0 v1 v2) = false) ∧
    (∀ v0 v1 v2, Instr.wf (.shi 65 v0 v1 v2) = false) ∧
    (∀ v0 v1 v2 v3, Instr.wf (.ldbu 65 v0 v1 v2 v3) = false) ∧
    (∀ v0 v1 v2 v3, Instr.wf (.ldhu 65 v0 v1 v2 v3) = false) ∧
    (∀ v0 v1 v2 v3, Instr.wf (.ldwu 65 v0 v1 v2 v3) = false) ∧
    (∀ v0 v1 v2 v3, Instr.wf (.ldw 65 v0 v1 v2 v3) = false) ∧
    (∀ v0 v1 v2 v3, Instr.wf (.ldd 65 v0 v1 v2 v3) = false) ∧
    (∀ v0 v1 v2 v3, Instr.wf (.stb 65 v0 v1 v2 v3) = false) ∧
    (∀ v0 v1 v2 v3, Instr.wf (.sth 65 v0 v1 v2 v3) = false) ∧
    (∀ v0 v1 v2 v3, Instr.wf (.stw 65 v0 v1 v2 v3) = false) ∧
    (∀ v0 v1 v2 v3, Instr.wf (.std 65 v0 v1 v2 v3) = false) ∧
    (∀ v0 v1 v2 v3, Instr.wf (.dld 65 v0 v1 v2 v3) = false) ∧
    (∀ v0 v1 v2 v3, Instr.wf (.dst 65 v0 v1 v2 v3) = false) := by
  and_intros <;> intros <;> rfl

theorem test_illformed_thread_2 :
    (∀ v0 v1 v2 v3, Instr.wf (.amoswp 65 v0 v1 v2 v3) = false) ∧
    (∀ v0 v1 v2 v3, Instr.wf (.amoadd 65 v0 v1 v2 v3) = false) ∧
    (∀ v0 v1 v2 v3, Instr.wf (.amoand 65 v0 v1 v2 v3) = false) ∧
    (∀ v0 v1 v2 v3, Instr.wf (.amoor 65 v0 v1 v2 v3) = false) ∧
    (∀ v0 v1 v2 v3, Instr.wf (.amocas 65 v0 v1 v2 v3) = false) ∧
    (∀ v0 v1 v2 v3, Instr.wf (.b 65 v0 v1 v2 v3) = false) ∧
    (∀ v0 v1 v2 v3, Instr.wf (.bl 65 v0 v1 v2 v3) = false) ∧
    (∀ v0 v1 v2 v3, Instr.wf (.jr 65 v0 v1 v2 v3) = false) ∧
    (∀ v0 v1 v2, Instr.wf (.mfs 65 v0 v1 v2) = false) ∧
    (∀ v0 v1 v2, Instr.wf (.mts 65 v0 v1 v2) = false) ∧
    (∀ v0 v1 v2, Instr.wf (.fence 65 v0 v1 v2) = false) ∧
    (∀ v0 v1 v2, Instr.wf (.eret 65 v0 v1 v2) = false) ∧
    (∀ v0 v1 v2, Instr.wf (.brk 65 v0 v1 v2) = false) ∧
    (∀ v0 v1 v2, Instr.wf (.yieldInnings 65 v0 v1 v2) = false) ∧
    (∀ v0 v1 v2, Instr.wf (.yieldEnd 65 v0 v1 v2) = false) ∧
    (∀ v0 v1 v2, Instr.wf (.caprd 65 v0 v1 v2) = false) ∧
    (∀ v0 v1 v2 v3, Instr.wf (.twait 65 v0 v1 v2 v3) = false) ∧
    (∀ v0 v1 v2, Instr.wf (.twaitTry 65 v0 v1 v2) = false) ∧
    (∀ v0 v1 v2 v3 v4, Instr.wf (.semacq 65 v0 v1 v2 v3 v4) = false) ∧
    (∀ v0 v1 v2 v3 v4, Instr.wf (.semacqTry 65 v0 v1 v2 v3 v4) = false) ∧
    (∀ v0 v1 v2 v3 v4 v5, Instr.wf (.semrel 65 v0 v1 v2 v3 v4 v5) = false) ∧
    (∀ v0 v1 v2 v3 v4 v5 v6, Instr.wf (.pwaitPosition 65 v0 v1 v2 v3 v4 v5 v6) = false) ∧
    (∀ v0 v1 v2 v3 v4 v5, Instr.wf (.pwaitSlot 65 v0 v1 v2 v3 v4 v5) = false) ∧
    (Instr.wf (.pwaitTimeout 65) = false) ∧
    (∀ v0 v1 v2 v3, Instr.wf (.parm 65 v0 v1 v2 v3) = false) ∧
    (∀ v0 v1 v2 v3, Instr.wf (.dlsetExplicit 65 v0 v1 v2 v3) = false) ∧
    (∀ v0 v1 v2 v3, Instr.wf (.dlsetDefault 65 v0 v1 v2 v3) = false) ∧
    (∀ v0 v1 v2 v3, Instr.wf (.dlsetNone 65 v0 v1 v2 v3) = false) ∧
    (∀ v0 v1 v2 v3, Instr.wf (.ckpt 65 v0 v1 v2 v3) = false) ∧
    (∀ v0, Instr.wf (.mxMul 65 v0) = false) := by
  and_intros <;> intros <;> rfl

theorem test_illformed_thread_3 :
    (∀ v0, Instr.wf (.cvConv 65 v0) = false) ∧
    (∀ v0, Instr.wf (.vxEw1 65 v0) = false) ∧
    (∀ v0, Instr.wf (.vxEw2 65 v0) = false) ∧
    (∀ v0, Instr.wf (.vxFma 65 v0) = false) ∧
    (∀ v0, Instr.wf (.vxRed 65 v0) = false) ∧
    (∀ v0, Instr.wf (.vxSoftmax 65 v0) = false) ∧
    (∀ v0, Instr.wf (.vxNorm 65 v0) = false) ∧
    (∀ v0, Instr.wf (.vxQuant 65 v0) = false) ∧
    (∀ v0, Instr.wf (.vxDequant 65 v0) = false) ∧
    (∀ v0, Instr.wf (.vxAmax 65 v0) = false) ∧
    (∀ v0, Instr.wf (.vxPool 65 v0) = false) ∧
    (∀ v0, Instr.wf (.vxDwconv 65 v0) = false) ∧
    (∀ v0, Instr.wf (.vxHad 65 v0) = false) ∧
    (∀ v0, Instr.wf (.vxOpt 65 v0) = false) ∧
    (∀ v0, Instr.wf (.vxTrans 65 v0) = false) ∧
    (∀ v0, Instr.wf (.vxGather 65 v0) = false) ∧
    (∀ v0, Instr.wf (.vxSelect 65 v0) = false) ∧
    (∀ v0, Instr.wf (.vxFill 65 v0) = false) ∧
    (∀ v0, Instr.wf (.atAttn 65 v0) = false) ∧
    (∀ v0, Instr.wf (.atAppend 65 v0) = false) ∧
    (∀ v0, Instr.wf (.atPrefix 65 v0) = false) ∧
    (∀ v0, Instr.wf (.atFork 65 v0) = false) ∧
    (∀ v0, Instr.wf (.atFree 65 v0) = false) ∧
    (∀ v0, Instr.wf (.sqChunk 65 v0) = false) ∧
    (∀ v0, Instr.wf (.sqStep 65 v0) = false) ∧
    (∀ v0, Instr.wf (.sqEvict 65 v0) = false) ∧
    (∀ v0, Instr.wf (.sqClear 65 v0) = false) ∧
    (∀ v0, Instr.wf (.ppConv 65 v0) = false) ∧
    (∀ v0, Instr.wf (.ppStream 65 v0) = false) ∧
    (∀ v0, Instr.wf (.cxExpand 65 v0) = false) := by
  and_intros <;> intros <;> rfl

theorem test_illformed_thread_4 :
    (∀ v0, Instr.wf (.cxCompress 65 v0) = false) ∧
    (∀ v0, Instr.wf (.dmCopy 65 v0) = false) ∧
    (∀ v0, Instr.wf (.dmFill 65 v0) = false) ∧
    (∀ v0, Instr.wf (.dmPromote 65 v0) = false) ∧
    (∀ v0, Instr.wf (.dmEvict 65 v0) = false) ∧
    (∀ v0, Instr.wf (.reservedOpcode 65 v0) = false) := by
  and_intros <;> intros <;> rfl

theorem test_illformed_partition_0 :
    (∀ v0, Instr.wf (.mtabWrite .sup 5 v0) = false) ∧
    (∀ v0, Instr.wf (.ageLimitExpiry 5 v0) = false) ∧
    (∀ v0, Instr.wf (.dlmReseed .sup 5 v0) = false) ∧
    (Instr.wf (.poolAlloc .sup 5 0) = false) ∧
    (∀ v0, Instr.wf (.poolFree .sup 5 0 v0) = false) ∧
    (Instr.wf (.tableAlloc .sup 5) = false) ∧
    (∀ v0, Instr.wf (.tableFree .sup 5 v0) = false) ∧
    (∀ v0, Instr.wf (.poolConfigWrite .sup 5 0 v0) = false) ∧
    (∀ v0, Instr.wf (.fabricEpochAdvance .sup 5 v0) = false) ∧
    (∀ v0, Instr.wf (.fabricEpochRetire .sup 5 v0) = false) ∧
    (∀ v0, Instr.wf (.partitionCreate .sup 5 v0) = false) ∧
    (∀ v0, Instr.wf (.partitionResize .sup 5 v0) = false) ∧
    (Instr.wf (.keyDeriveComplete 5) = false) ∧
    (∀ v0, Instr.wf (.keyZeroise 5 v0) = false) ∧
    (∀ v0, Instr.wf (.hostEpochAdvance .sup 5 v0) = false) ∧
    (∀ v0, Instr.wf (.teardown .sup 5 v0) = false) ∧
    (Instr.wf (.teardownScrub 5) = false) ∧
    (Instr.wf (.teardownComplete 5) = false) ∧
    (∀ v0, Instr.wf (.segmentEnable .sup 5 0 v0) = false) ∧
    (∀ v0, Instr.wf (.segmentDisable .sup 5 0 v0) = false) := by
  and_intros <;> intros <;> rfl

theorem test_illformed_packet :
    Instr.wf (.cxpStreamPacket ⟨4, 0, 0, true, false, [], []⟩) = false ∧ Instr.wf (.cxpStreamPacket ⟨0, 8, 0, true, false, [], []⟩) = false ∧
    Instr.wf (.cxpStreamPacket ⟨0, 0, 256, true, false, [], []⟩) = false := ⟨rfl, rfl, rfl⟩

theorem test_illformed_reader : Instr.wf (.hostReadFail (.scalar 65 0)) = false ∧ Instr.wf (.registerWrite (.part 0) 0 0 0) = false ∧
    Instr.wf (.registerWrite (.pf 5) 0 0 0) = false ∧ Instr.wf (.add 768 0 0 0) = false ∧ Instr.wf (.add 962 0 0 0) = false ∧
    Instr.wf (.holdFault 6 64) = false := ⟨rfl, rfl, rfl, rfl, rfl, rfl⟩

theorem test_wellformed : Instr.wf (.registerWrite (.pf 4) 0x3FFFFF8 0 0) = true ∧ Instr.wf (.add 704 31 0 31) = true ∧
    Instr.wf (.add 961 0 0 0) = true ∧ Instr.wf (.holdFault 5 255) = true ∧ Instr.wf (.wakeEvent 7 3) = true := ⟨rfl, rfl, rfl, rfl, rfl⟩

/-! Worked values: what a command leaves in one or two fields. -/

/-- The thread t after a command. -/
def after (o : Host.Outcome State Fault Refusal) (t : Nat) : Option Thread :=
  match o with
  | .next u => some (u.thread t)
  | _ => none

theorem test_div_by_zero : (after (execDiv 64 3 1 2 (two 5 0)) 64).map (·.gr 3) = some 0x7FFFFFFFFFFFFFFF := by decide
theorem test_rem_sign : (after (execRem 64 3 1 2 (two (-7) 2)) 64).map (·.gr 3) = some (-1) := by decide
theorem test_sra_wide : (after (execSra 64 3 1 2 (two 0x8000000000000000 63)) 64).map (·.gr 3) = some (-1) := by decide
theorem test_mulhu : (after (execMulhu 64 3 1 2 (two (-1) 2)) 64).map (·.gr 3) = some 1 := by decide
theorem test_g0_stays_zero : (after (execAdd 64 0 1 2 (two 5 6)) 64).map (·.gr 0) = some 0 := by decide
theorem test_seth_low_zero : (after (execSeth 64 31 3 0x8000 on) 64).map (·.gr 31) = some 0x8000000000000000 := by decide

/-- The command answers a next state in which thread t is x, and only threads, retired counts and health may have changed. -/
def Lv (i : Instr) (s : State) (t : Nat) (x : Thread) : Bool :=
  match exec i s with
  | .next u => decide (u.thread t = x ∧ u = { s with threads := u.threads, retired := u.retired, health := u.health }) &&
      [64,3,961,5].all (fun k => k == t || u.thread k == s.thread k)
  | _ => false

/-- The command answers the next state w. -/
def Nx (i : Instr) (s w : State) : Bool := match exec i s with | .next u => decide (u = w) | _ => false

/-- The command answers a next state that f holds of. -/
def NxP (i : Instr) (s : State) (f : State → Bool) : Bool := match exec i s with | .next u => f u | _ => false

/-- The command raises exception e with value v: taken by the handler, or fatal where there is none or one is being handled (R303). -/
def Tr (i : Instr) (s0 : State) (t : Nat) (e : Exc) (v : W64) : Bool :=
  let s := s0.setThread t { s0.thread t with ehand := 0x104 }
  let s1 := s0.setThread t { s0.thread t with ehand := 0x104, ecause := 0x105 }
  let s2 := s0.setThread t { s0.thread t with ehand := 0 }
  Nx i s (s.setThread t { s.thread t with
      epc := (s.thread t).pc, ecause := BitVec.ofNat 64 (256 + e.code), eval := v, pc := (s.thread t).ehand &&& 0x0000FFFFFFFFFFFC })
  && Nx i s1 (s1.fatal t e.code) && Nx i s2 (s2.fatal t e.code)

/-- The command stores n bytes v from address d for partition p, and thread t is x after it. -/
def St (i : Instr) (s : State) (t p d n : Nat) (v : Nat → Byte) (x : Thread) : Bool :=
  NxP i s fun u => (List.range 256).all (fun j => let k := d / 64 * 64 - 96 + j; u.byte k == if d ≤ k ∧ k < d + n then v (k - d) else s.byte k) &&
    decide (u.line d = ⟨true, p, 0, false, false⟩ ∧ u.thread t = x ∧ u = { s with mem := u.mem, lines := u.lines, threads := u.threads, retired := u.retired, health := u.health })

/-- Only the registers of the list differ. -/
def Rg (s u : State) (l : List Nat) : Bool := (u.regs.all fun e => l.contains e.1 || u.rd e.1 == s.rd e.1) && (s.regs.all fun e => l.contains e.1 || u.rd e.1 == s.rd e.1)

/-- The effect of a command. -/
abbrev Ex := State → Host.Outcome State Fault Refusal

/-- The effect answers the next state w. -/
def NxF (i : Ex) (s w : State) : Bool := match i s with | .next u => decide (u = w) | _ => false

/-- The effect answers a next state that f holds of. -/
def NxPF (i : Ex) (s : State) (f : State → Bool) : Bool := match i s with | .next u => f u | _ => false

/-- The effect raises exception e with value v. -/
def TrF (i : Ex) (s0 : State) (t : Nat) (e : Exc) (v : W64) : Bool :=
  let s := s0.setThread t { s0.thread t with ehand := 0x104 }
  let s1 := s0.setThread t { s0.thread t with ehand := 0x104, ecause := 0x105 }
  let s2 := s0.setThread t { s0.thread t with ehand := 0 }
  NxF i s (s.setThread t { s.thread t with
      epc := (s.thread t).pc, ecause := BitVec.ofNat 64 (256 + e.code), eval := v, pc := (s.thread t).ehand &&& 0x0000FFFFFFFFFFFC })
  && NxF i s1 (s1.fatal t e.code) && NxF i s2 (s2.fatal t e.code)


theorem test_IntegerOperations_0 : Lv (.add 64 31 1 2) (two 0x7FFFFFFFFFFFFFFF 1) 64 (((two 0x7FFFFFFFFFFFFFFF 1).thread 64).setG 31 0x8000000000000000).onward = true := by decide
theorem test_IntegerOperations_1 : Lv (.sx48 64 0 1 0) (two 0x800000000000 1) 64 (((two 0x800000000000 1).thread 64)).onward = true := by decide
theorem test_IntegerOperations_2 : Lv (.sx48 64 3 1 0) (two 0x800000000000 1) 64 (((two 0x800000000000 1).thread 64).setG 3 0xFFFF800000000000).onward = true := by decide
theorem test_IntegerOperations_3 : Lv (.insh 3 1 3 0xABCD) onJob 3 ((onJob.thread 3).setG 1 0xABCD000000000000).onward = true := by decide
theorem test_ShiftsAndMultiplication_0 : Lv (.sra 64 3 1 2) (two 0x8000000000000000 63) 64 (((two 0x8000000000000000 63).thread 64).setG 3 (-1)).onward = true := by decide
theorem test_ShiftsAndMultiplication_1 : Lv (.sra 64 3 1 2) (two 0x8000000000000000 64) 64 (((two 0x8000000000000000 64).thread 64).setG 3 0x8000000000000000).onward = true := by decide
theorem test_ShiftsAndMultiplication_2 : Lv (.mulh 64 3 1 2) (two (-1) 2) 64 (((two (-1) 2).thread 64).setG 3 (-1)).onward = true := by decide
theorem test_ShiftsAndMultiplication_3 : Lv (.mulhu 64 3 1 2) (two (-1) 2) 64 (((two (-1) 2).thread 64).setG 3 1).onward = true := by decide
theorem test_DivisionSaturates_0 : Lv (.div 64 3 1 2) (two 0 0) 64 (((two 0 0).thread 64).setG 3 0x7FFFFFFFFFFFFFFF).onward = true := by decide
theorem test_DivisionSaturates_1 : Lv (.rem 64 3 1 2) (two 5 0) 64 (((two 5 0).thread 64).setG 3 0).onward = true := by decide
theorem test_DivisionSaturates_2 : Lv (.remu 64 3 1 2) (two 5 0) 64 (((two 5 0).thread 64).setG 3 0).onward = true := by decide
theorem test_DivisionSaturates_3 : Lv (.divu 64 3 1 2) (two 5 0) 64 (((two 5 0).thread 64).setG 3 (-1)).onward = true := by decide
theorem test_ComparesAndPredicates_0 : Lv (.cmplt 64 3 1 2) (two (-7) 2) 64 (((two (-7) 2).thread 64).setP 3 true).onward = true := by decide
theorem test_ComparesAndPredicates_1 : Lv (.cmpltu 64 3 1 2) (two (-7) 2) 64 (((two (-7) 2).thread 64).setP 3 false).onward = true := by decide
theorem test_ComparesAndPredicates_3 : Lv (.cmpi 64 27 1 0xFFFF) (two (-1) 2) 64 (((two (-1) 2).thread 64).setP 3 true).onward = true := by decide
theorem test_Branches_0 : Lv (.b 64 0 false false (-1)) (handled on 64) 64 {((handled on 64).thread 64) with pc := 0x3C} = true := by decide
theorem test_Branches_1 : Lv (.bl 64 0 false false 4) (handled on 64) 64 {((handled on 64).thread 64).setG 31 0x44 with pc := 0x50} = true := by decide
theorem test_Branches_2 : Lv (.bl 64 0 true false 4) (handled on 64) 64 {((handled on 64).thread 64) with pc := 0x44} = true := by decide
theorem test_SystemRegisters_0 : Lv (.mfs 64 1 0 8) on 64 ((on.thread 64).setG 1 100000000).onward = true := by decide
theorem test_SystemRegisters_1 : Lv (.mfs 64 1 0 0) on 64 ((on.thread 64).setG 1 1).onward = true := by decide
theorem test_SystemRegisters_2 : Lv (.mfs 64 1 0 9) on 64 ((on.thread 64).setG 1 0).onward = true := by decide
theorem test_SystemRegisters_3 : Lv (.mfs 3 1 0 1) onJob 3 ((onJob.thread 3).setG 1 (BitVec.ofNat 64 (7 * 2^32 + 128 + 3))).onward = true := by decide
theorem test_BreakReturnAndFence_2 : NxP (.eret 64 0 0 5) (handled on 64) (fun u => (u.thread 64).eval == (wordSG 3 0 0 5)) = true := by decide
theorem test_BreakReturnAndFence_3 : Lv (.fence 64 0 0 15) on 64 (on.thread 64).onward = true := by decide
theorem test_BreakReturnAndFence2_0 : Nx (.fence 64 0 0 2) (busy on 64) ((busy on 64).setThread 64 {(busy on 64).thread 64 with wait := .stall}) = true := by decide
theorem test_Yields_2 : Lv (.yieldInnings 64 0 0 0) on 64 (on.thread 64).onward = true := by decide
theorem test_TicketsAndSemaphores_0 : Lv (.twait 64 2 1 0 9) (ticket on 64 0) 64 (((ticket on 64 0).thread 64).setG 2 8).onward = true := by decide
theorem test_TicketsAndSemaphores_1 : Lv (.twaitTry 64 2 1 0) (ticket on 64 4) 64 (((ticket on 64 4).thread 64).setG 2 8).onward = true := by decide
theorem test_TicketsAndSemaphores_2 : Lv (.twaitTry 64 2 1 0) (ticket on 64 3) 64 (((ticket on 64 3).thread 64).setG 2 7).onward = true := by decide
theorem test_TicketsAndSemaphores_3 : Lv (.twaitTry 64 2 1 0) (ticket on 64 1) 64 (((ticket on 64 1).thread 64).setG 2 1).onward = true := by decide
theorem test_PositionWaits_0 : Lv (.pwaitPosition 64 2 1 false 0 true false 5) (on.wb (Addr.ptbAxStat 0) 7 true) 64 (((on.wb (Addr.ptbAxStat 0) 7 true).thread 64).setG 2 2).onward = true := by decide
theorem test_PositionWaits_1 : Lv (.pwaitPosition 64 2 1 false 3 false false 5) on 64 ((on.thread 64).setG 2 0).onward = true := by decide
theorem test_PositionWaits_2 : Nx (.pwaitPosition 64 2 1 false 0 true false 5) (two 1 0) (((two 1 0).nextPc 64).block 64 (.pos 0 false 1 2 (some (100000000 + 20000))) .wpos) = true := by decide
theorem test_PositionWaits_3 : Nx (.pwaitPosition 64 2 1 true 2 false false 0) (two (-1) 0) (((two (-1) 0).nextPc 64).block 64 (.pos 2 true (-1) 2 none) .wpos) = true := by decide
theorem test_PassCreatesJobs_0 : Nx (.pass 3 2 1 0 0 0) (block (withJob onJob { job1 with tier := 3 }) 3 passRec) ((blockRead (withJob onJob { job1 with tier := 3 }) 3 passRec 64).retG 3 2 2) = true := by decide
theorem test_PassCreatesJobs_1 : Nx (.pass 3 2 1 0 0 0) (block onJob 3 (fit 64 (zeros 31 ++ [1]))) ((blockRead onJob 3 (fit 64 (zeros 31 ++ [1])) 64).retG 3 2 6) = true := by decide
theorem test_VerdOperations_1 : Nx (.verdOpen 3 2 1 0 0) (block (ledger onJob 0) 3 openRec) ((blockRead (ledger onJob 0) 3 openRec 32).retG 3 2 9) = true := by decide
theorem test_VerdOperations_3 : Nx (.verdPost 64 2 1 0 0) (block on 64 [1]) ((blockRead on 64 [1] 32).retG 64 2 8) = true := by decide
theorem test_ParametersAndCheckpoints_0 : Nx (.parm 3 2 1 63 0) (block onJob 3 (parmRec 5)) ((blockRead onJob 3 (parmRec 5) 32).retG 3 2 1) = true := by decide
theorem test_ParametersAndCheckpoints_1 : NxP (.parm 3 2 1 63 0) (block (slotOwned onJob 63) 3 (parmRec 1)) (fun u => (u.thread 3).gr 2 == 2 && u.rd (Addr.ptbSlotTgt 63) == 7 && u.rb (Addr.ptbSlotStat 63) 35) = true := by decide
theorem test_ParametersAndCheckpoints_2 : NxP (.parm 3 2 1 63 0) (block (slotOwned onJob 63) 3 (parmRec 5)) (fun u => (u.thread 3).gr 2 == 0 && u.rb (Addr.ptbSlotStat 63) 32 && u.rf (Addr.ptbSlotCtl 63) 58 56 == 1) = true := by decide
theorem test_ParametersAndCheckpoints_3 : NxP (.parm 3 2 1 63 0) (block (slotOwned onJob 63) 3 (parmRec 4)) (fun u => (u.thread 3).gr 2 == 0 && !u.rb (Addr.ptbSlotStat 63) 32) = true := by decide
theorem test_DieEvents_0 : NxP (.dieAcquired 9) (open9 0) (fun u => (u.die 9).acq == some 100000000) = true := by decide
theorem test_DieEvents_1 : NxP (.dieAcquired 9) ((open9 0).setDie 9 { (open9 0).die 9 with sealed := true }) (fun u => (u.die 9).st == .held && (u.die 9).acq == some 100000000) = true := by decide
theorem test_DieEvents_3 : Nx (.dieForce 9) ((open9 0).setDie 9 { (open9 0).die 9 with acq := some (100000001 - 6360000) }) ((open9 0).setDie 9 { (open9 0).die 9 with acq := some (100000001 - 6360000) }) = true := by decide
theorem test_EncoderCounters_2 : NxP (.encoderTransition 3 true true) (axisOn on 3 0) (fun u => u.cnt 3 == 0 && u.rb (Addr.ptbAxStat 3) 3 && u.rf (Addr.ptbAxStat 3) 31 16 == 1 && decide ((u.axis 3).lim = ⟨some 100000000, 0⟩) && (u.axis 3).a && (u.axis 3).b) = true := by decide
theorem test_EncoderCounters_3 : Nx (.encoderTransition 3 false false) (axisOn on 3 0) (axisOn on 3 0) = true := by decide
theorem test_SlotArming_0 : Nx (.slotArm (.part 2) 63 5) (slotOwned on 63) (slotOwned on 63) = true := by decide
theorem test_SlotArming_1 : NxP (.slotArm (.part 1) 63 1) (slotOwned on 63) (fun u => u.rb (Addr.ptbSlotStat 63) 35 && !u.rb (Addr.ptbSlotStat 63) 32) = true := by decide
theorem test_SlotArming_2 : NxP (.slotDisarm .sup 63 1) (armed on 63 3) (fun u => !u.rb (Addr.ptbSlotStat 63) 32 && !u.rb (Addr.ptbSlotCtl 63) 0) = true := by decide
theorem test_SlotArming_3 : NxP (.slotArm .sup 0 4) on (fun u => u.rb (Addr.ptbSlotStat 0) 33 && u.rb (Addr.ptbSlotStat 0) 32 && u.noLimit == [0]) = true := by decide
theorem test_OutputPulses_0 : NxP (.markPulseStart 3) (pulsing 11 500000004 false) (fun u => decide (u.out 11 = {out0 with run := some ⟨500000004, 500000004, 0, 0, [], []⟩})) = true := by decide
theorem test_OutputPulses_1 : Nx (.markPulseStart 3) (pulsing 11 500000005 false) (pulsing 11 500000005 false) = true := by decide
theorem test_OutputPulses_2 : Nx (.trigPulseEnd 7) (pulsing 7 500000004 true) (on.setOut 7 out0) = true := by decide
theorem test_OutputPulses_3 : Nx (.trigPulseEnd 7) (pulsing 7 500000005 true) (pulsing 7 500000005 true) = true := by decide
theorem test_FollowersAndVelocity_0 : NxP (.followerLost 3) (follower 3 0 0) (fun u => u.axLost 3 && u.cnt 3 == 0 && (u.axis 3).applied == 0 && u.rd (Addr.ptbAxVel 3) == 0) = true := by decide
theorem test_FollowersAndVelocity_1 : NxP (.axisStopped 3) on (fun u => u.rb (Addr.ptbAxStat 3) 1) = true := by decide
theorem test_FollowersAndVelocity_2 : NxP (.linkLatencyMeasure 3 100 49) { on.setPortState 3 2 with time := 500000000 } (fun u => u.rf (Addr.ptbLinkoff 3) 23 0 == 25 && (u.port 3).latAt == 500000000) = true := by decide
theorem test_FollowersAndVelocity_3 : Nx (.linkLatencyMeasure 3 100 49) on on = true := by decide
theorem test_PositionPackets_0 : Nx .bcastInterval sender { sender with bcastAt := 100000000 } = true := by decide
theorem test_PositionPackets_1 : NxP .bcastInterval ((sender.wf Addr.ptbBcastCfg 18 16 4).wf (Addr.fabPartDom 4) 7 0 9) (fun u => u.bcastSeq == 1) = true := by decide
theorem test_CameraLinks_0 : NxP (.cameraConfigWrite .sup 3 0x10000001) on (fun u => u.rb (Addr.cxpCamCfg 3) 0 && (u.cam 3).applied == u.camFits 3 && u.rb (Addr.cxpCamStat 3) 1 == !u.camFits 3 && Rg on u [Addr.cxpCamCfg 3, Addr.cxpCamStat 3]) = true := by decide
theorem test_CameraLinks_1 : NxP (.ingCameraEnable .sup 3 1) on (fun u => u.rb (Addr.ingCamCfg 3) 0 && decide (u.cam 3 = (on.cam 3).fresh ∧ u.ring 6 = ring0) && Rg on u [Addr.ingCamCfg 3, Addr.ingCamFire 3]) = true := by decide
theorem test_CameraLinks_2 : NxP (.cxpLockAcquire 7) (on.wr (Addr.cxpConCfg 7) 0xC01) (fun u => u.rb (Addr.cxpConStat 7) 0) = true := by decide
theorem test_UplinksAndAdc_0 : NxP (.controlSend .sup 3 0x30000) (on.wr (Addr.cxpCtx 3 0) 0x030201) (fun u => (u.cam 3).sent == [1, 2, 3]) = true := by decide
theorem test_UplinksAndAdc_1 : Nx (.controlReceive 3 [1,2,3]) on ((on.bufWrite (Addr.cxpCrx 3) 0 (bytesOf 4 3 ++ [1,2,3,0])).wf (Addr.cxpCamRxptr 3) 11 0 8) = true := by decide
theorem test_UplinksAndAdc_2 : Nx (.controlReceive 3 [1,2,3]) (on.wf (Addr.cxpCamRxptr 3) 11 0 4088) ((on.wf (Addr.cxpCamRxptr 3) 11 0 4088).wb (Addr.cxpCamStat 3) 3 true) = true := by decide
theorem test_UplinksAndAdc_3 : Nx (.eventPacketReceive 3 [1,2,3]) (on.wf (Addr.cxpCamEvptr 3) 11 0 4080) ((on.wf (Addr.cxpCamEvptr 3) 11 0 4080).wb (Addr.cxpCamStat 3) 4 true) = true := by decide
theorem test_Scheduling_1 : NxP (.semConfigWrite .sup 6 63 0x30000000000) (on.setSem 1599 ⟨[(64,0)], []⟩) (fun u => decide (u.sem 1599 = sem0) && u.semFree 1599 == 4 && u.rf (semStat 1599) 15 8 == 0) = true := by decide
theorem test_TileIssue_1 : TrF (execVxFill supTid (tiAt 1)) on supTid .illegal (BitVec.ofNat 64 (tiWord 2 16 (tiAt 1))) = true := by decide
theorem test_TileProgress_0 : NxPF (execPieceComplete 1 0 0 1 1600 false) (running (fillOp 2 16)) (fun u => decide (u.ops = [{fillOp 2 16 with rows := [⟨0, 1, 1600, 0, 0, 0⟩]}])) = true := by decide
theorem test_Pools_0 : Nx (.tableAlloc .sup 1) on { on with latch := 0, lastRd := 0 } = true := by decide
theorem test_Pools_1 : Nx (.poolAlloc .sup 4 8) on { on with latch := 0, lastRd := 0 } = true := by decide
theorem test_Pools_2 : Nx (.tableAlloc .sup 1) (pooled 9 4 []) { (pooled 9 4 []).sat (poolStat 1 9) 39 24 1 with latch := 0, lastRd := 0 } = true := by decide
theorem test_Pools_3 : Nx (.tableFree .sup 1 0) on (on.wb (poolStat 1 9) 0 true) = true := by decide
theorem test_SequenceStreams_0 : Nx (.sqLiveWrite .sup 5 255 7) on (on.wr (Addr.sqStrLive 5 255) (on.stored (Addr.sqStrLive 5 255) 7)) = true := by decide
theorem test_SequenceStreams_1 : Nx (.sqStreamConfigWrite .sup 5 255 0x80000000) (on.setSqRes 5 255 3) ((on.setSqRes 5 255 3).wb (Addr.sqStrStat 5 255) 40 true) = true := by decide
theorem test_MemoryScrub_0 : NxP (.sramClear .sup (BitVec.ofNat 64 (0x800 + 1 * 2 ^ 42))) (ldst on) (fun u => u.rb Addr.memSramclr 63 && u.line 0x20000 == ⟨false, 0, 0, false, false⟩) = true := by decide
theorem test_MemoryScrub_1 : NxP (.sramClear .sup (BitVec.ofNat 64 (0x801 + 1 * 2 ^ 42))) (ldst on) (fun u => u.line 0x20000 == ⟨true, 1, 0, false, false⟩) = true := by decide
theorem test_MemoryScrub_2 : Nx .sramClearDone on (on.wb Addr.memSramclr 63 false) = true := by decide
theorem test_MemoryScrub_3 : NxP (.scrubAdvance .sup (BitVec.ofNat 64 (383 * 65537))) on (fun u => u.gen 383 == 2 && u.scrubQ.contains 383 && u.gen 382 == 1) = true := by decide
theorem test_MemoryChannels_0 : NxP (.channelInitComplete 25) ({ on.setRole 25 6 with pmu := { on.pmu with boot := 3 } }) (fun u => u.role 25 == on.rf (Addr.memChCfg 25) 2 0 && u.rb Addr.memStat 0 == (List.range 26).all (fun c => u.role c != 6)) = true := by decide
theorem test_MemoryChannels_1 : NxP (.retrainComplete 25) (on.setRole 25 4) (fun u => u.role 25 == 1 && Sparse.get (fun _ => 0) u.trained 25 == 100000000) = true := by decide
theorem test_MemoryChannels_2 : Nx .rotationStart on on = true := by decide
theorem test_MemoryChannels_3 : Nx .rotationStart (rotating 119999999999) (rotating 119999999999) = true := by decide
theorem test_FabricTransfers_0 : NxF (execFabricEpochAdvance .sup 4 0) on (on.wb (Addr.fabPartStat 4) 1 true) = true := by decide
theorem test_FabricTransfers_1 : NxPF (execFabricEpochAdvance .sup 4 0) (on.setKey 4 { keys0 with fab := [⟨2, [], none⟩] }) (fun u => u.rf (Addr.fabPartEpoch 4) 7 0 == 2 && u.rf (Addr.fabPartEpoch 4) 15 8 == 1 && u.rb (Addr.fabPartEpoch 4) 16) = true := by decide
theorem test_FabricTransfers_2 : NxPF (execFabricEpochRetire .sup 4 0) (on.wr (Addr.fabPartEpoch 4) 0x10201) (fun u => u.rd (Addr.fabPartEpoch 4) == 0x201) = true := by decide
theorem test_HostInterface_0 : Nx (.pcieLinkUp 8 4) on (on.wr Addr.pciLink 0x80104) = true := by decide
theorem test_HostInterface_1 : NxP .pcieLinkDown linked (fun u => !u.linkUp && Nx .endpointReset linked u) = true := by decide
theorem test_HostInterface_2 : Nx .pcieLinkDown on on = true := by decide
theorem test_HostInterface_3 : NxP (.functionLevelReset 4) linked (fun u => u.rb (Addr.pciFnStat 4) 2) = true := by decide
theorem test_HealthLedger_0 : Nx (.errorWindowEnd 10 2559) on on = true := by decide
theorem test_HealthLedger_1 : Nx (.suspectExpiry 10 2559) on (on.wb (susBit 10 2559).1 (susBit 10 2559).2 false) = true := by decide
theorem test_HealthLedger_2 : NxPF (execThresholdWrite .sup 13 7) (on.setHu 13 5 ⟨1, 1, []⟩) (fun y => y.rd (Addr.hltKindThr 13) == on.stored (Addr.hltKindThr 13) 7 && decide (y.hu 13 5 = unit0)) = true := by decide
theorem test_HealthLedger_3 : NxF (execRetireWrite .sup 1 3) on ((on.retire 1 0).retire 1 1) = true := by decide
theorem test_IgnoredAccesses_0 : Nx (.registerWrite (.part 4) 0x3FFFFF8 0xFF 5) on on = true := by decide
theorem test_IgnoredAccesses_1 : Nx (.registerWrite (.part 4) (Addr.truPartCtl 1) 0xFF 2) on on = true := by decide
theorem test_RegisterWrites_0 : Nx (.registerWrite .sup Addr.ptbBcastCfg 0xFF 0x6408) on (on.wr Addr.ptbBcastCfg 0x6408) = true := by decide
theorem test_RegisterWrites_1 : Nx (.registerWrite .sup (Addr.cxpConCfg 7) 0xFF 0x100) (on.wr (Addr.cxpConStat 7) 1) ((on.wr (Addr.cxpConCfg 7) 0x100).wr (Addr.cxpConStat 7) 0) = true := by decide
theorem test_RegisterWrites_2 : NxP (.registerWrite .sup (Addr.vdlRingCfg 7) 0xFF 0x700) ((on.wr (Addr.vdlRingCfg 7) 0x600).wr (Addr.vdlRingPidx 7) 64) (fun u => !u.rb (Addr.vdlRingStat 7) 0 && u.rf (Addr.vdlRingCfg 7) 12 8 == 7) = true := by decide
theorem test_RegisterWrites_3 : Nx (.registerWrite (.pf 4) 8 0xFF 5) on on = true := by decide
theorem test_Partitions_0 : NxF (execPartitionCreate .sup 4 0) parts (parts.wb (Addr.truPartStat 4) 32 true) = true := by decide
theorem test_Partitions_1 : NxF (execPartitionCreate .sup 4 1) parts (parts.wb (Addr.truPartStat 4) 32 true) = true := by decide
theorem test_Partitions_3 : NxF (execHostEpochAdvance .sup 4 0) parts parts = true := by decide
theorem test_TrustCommands_0 : NxPF execTruCommandComplete ({ on.wb Addr.truCmdstat 63 true with trust := { on.trust with result := some 255 } }) (fun w => w.rd Addr.truCmdstat == 255 && decide (w.trust.result = none)) = true := by decide
theorem test_TrustCommands_1 : NxF (execKeyDeriveComplete 1) on on = true := by decide
theorem test_TrustCommands_2 : NxF execRngReseed on on = true := by decide
theorem test_TrustCommands_3 : NxF execRngReseed ({ on with trust := { on.trust with drawn := 1048576 } }) ({ on with freeCtr := 1, trust := { on.trust with drawn := 1048576 } }) = true := by decide
theorem test_AttestationAndDebug_1 : NxF execAttestComplete on on = true := by decide
theorem test_AttestationAndDebug_2 : NxF (execClaimPackage .sup 0x40) on on = true := by decide
theorem test_AttestationAndDebug_3 : NxF (execDebugChallenge .sup) on { on with latch := on.rd (Addr.truDbgchal 0), lastRd := on.rd (Addr.truDbgchal 0) } = true := by decide
theorem test_PowerAndBoot_0 : NxF execPowerUp on on = true := by decide
theorem test_PowerAndBoot_1 : NxF execPowerDown State.reset State.reset = true := by decide
theorem test_PowerAndBoot_2 : NxF execPowerDown on on.cold = true := by decide
theorem test_PowerAndBoot_3 : NxF (execPllLock 40) on ((on.pllLock 40).replay) = true := by decide
theorem test_SleepAndWake_0 : NxF (execSleepRequest .sup 0) on on = true := by decide
theorem test_SleepAndWake_1 : NxPF (execSleepRequest .sup 1) on (fun u => u.rf Addr.pmuSleepstat 20 16 == on.refuseBits 1 && u.rf Addr.pmuSleepstat 2 0 == 4 && u.phase == 0) = true := by decide
theorem test_SleepAndWake_2 : NxPF (execSleepRequest .sup 3) (parts.wr (Addr.truPartStat 1) 0) (fun u => u.phase == 1 && u.rf Addr.pmuSleepstat 2 0 == 1 && u.pmu.req == 3) = true := by decide
theorem test_SleepAndWake_3 : NxPF (execWakeEvent 4 3) (on.wr Addr.ptbWake 8) (fun u => u.pmu.wakes.contains (4, 3) && u.rb Addr.pmuWakepend (wakeBit 4 3)) = true := by decide
theorem test_ClocksAndLevels_0 : NxF (execClockSelect .sup (on.rd Addr.clkSel + 2)) on (on.wb Addr.clkStat 0 true) = true := by decide
theorem test_ClocksAndLevels_1 : NxPF (execClockSelect .sup (setFld (on.rd Addr.clkSel) 1 0 2)) (on.wr Addr.clkLock 1) (fun u => u.rf Addr.clkSel 1 0 == 2) = true := by decide
theorem test_ClocksAndLevels_3 : NxF (execClusterPower .sup 5 0) on (((on.wb (Addr.pmuCluCtl 5) 8 false).gateCluster 5).plWrite 5 0) = true := by decide
theorem test_SegmentsAndBases_1 : NxPF (execSegmentEnable .sup 4 31 0) on (fun u => u.rb (Addr.glbSegerr 4) 8 && u.rf (Addr.glbSegerr 4) 7 5 == 1 && u.rf (Addr.glbSegerr 4) 4 0 == 31) = true := by decide
theorem test_SegmentsAndBases_2 : NxF (execSegmentDisable .sup 4 31 (-1)) on (on.wr (Addr.glbSegCfg 4 31) (on.stored (Addr.glbSegCfg 4 31) (setBit (-1) 35 false))) = true := by decide
theorem test_TestAndSmbus_0 : NxF (execTestMode true) on { on.cold with pins := { on.pins with test := true } } = true := by decide
theorem test_TestAndSmbus_1 : NxF (execTestMode false) on on = true := by decide
theorem test_TestAndSmbus_3 : NxF execJtagIdcode on on = true := by decide
theorem test_SensorCommandsComplete_0 : Nx (.registerWrite .sup (Addr.ptbSlotTgt 63) 0xFF (-1)) on (on.wr (Addr.ptbSlotTgt 63) (on.stored (Addr.ptbSlotTgt 63) (-1))) = true := by decide
theorem test_SensorCommandsComplete_1 : NxP (.slotArm .sup 63 4) (on.wr (Addr.ptbSlotTgt 63) 1) (fun w => w.rb (Addr.ptbSlotStat 63) 32 && w.rf (Addr.ptbSlotStat 63) 31 0 == 0) = true := by decide
theorem test_SensorCommandsComplete_2 : NxP (.slotDisarm .sup 63 4) on (fun w => !w.rb (Addr.ptbSlotCtl 63) 0) = true := by decide
theorem test_SensorCommandsComplete_3 : NxP (.trigPulseStart 7) (pulsing 7 500000004 false) (fun u => decide (u.out 7 = { out0 with run := some ⟨500000004, 500000004, 0, 0, [], []⟩ })) = true := by decide
theorem test_DeviceCommandsComplete_1 : NxPF (execFabricBlockReceive 3 (blk 1 0) true) (portOn 3 port0) (fun y => (y.port 3).rxSeq == 1 && !(y.port 3).nakSent) = true := by decide
theorem test_DeviceCommandsComplete_2 : NxF (execEqRequest 3 1 0xA1) (portOn 3 port0) ((portOn 3 port0).setPort 3 { port0 with eq := [⟨0,0,0⟩, ⟨0,1,0⟩]}) = true := by decide

end Sys2Proof.Tests
end

section
/-! The registers as the proofs read them: bits and fields after a write, a write over the register bus, the row of an offset. -/

namespace Sys2Proof.Machine

open Sys2Proof

/-! ## Bits and fields of a word -/

@[simp] theorem bit_setFld (v : W64) {hi lo : Nat} (x j : Nat) (h : lo ≤ hi) (h2 : hi < 64) :
    bit (setFld v hi lo x) j = if lo ≤ j ∧ j ≤ hi then x.testBit (j - lo) else bit v j :=
  setFld_getLsbD v hi lo x j h h2

@[simp] theorem bit_setBit_same (v : W64) {i : Nat} (b : Bool) (h : i < 64) : bit (setBit v i b) i = b := by
  rw [setBit, bit_setFld v _ _ (Nat.le_refl i) h, if_pos ⟨Nat.le_refl i, Nat.le_refl i⟩, Nat.sub_self]
  cases b <;> rfl

theorem bit_setBit_other (v : W64) {i j : Nat} (b : Bool) (h : i < 64) (hj : j ≠ i) : bit (setBit v i b) j = bit v j := by
  rw [setBit, bit_setFld v _ _ (Nat.le_refl i) h, if_neg (by omega)]

theorem fld_setBit_other (v : W64) {i hi lo : Nat} (b : Bool) (h : i < 64) (hi' : hi < i ∨ i < lo) :
    fld (setBit v i b) hi lo = fld v hi lo :=
  fld_setFld_other v i i _ hi lo (Nat.le_refl i) h hi'

theorem bit_satFld_other (v : W64) {hi lo j : Nat} (n : Nat) (h : lo ≤ hi) (h2 : hi < 64) (hj : j < lo ∨ hi < j) :
    bit (satFld v hi lo n) j = bit v j := by
  rw [satFld, bit_setFld v _ _ h h2, if_neg (by omega)]

theorem fld_satFld_other (v : W64) {hi lo hi' lo' : Nat} (n : Nat) (h : lo ≤ hi) (h2 : hi < 64) (h3 : hi' < lo ∨ hi < lo') :
    fld (satFld v hi lo n) hi' lo' = fld v hi' lo' :=
  fld_setFld_other v hi lo _ hi' lo' h h2 h3

theorem fld_satFld_same (v : W64) {hi lo : Nat} (n : Nat) (h : lo ≤ hi) (h2 : hi < 64) :
    fld (satFld v hi lo n) hi lo = min (fld v hi lo + n) (2 ^ (hi + 1 - lo) - 1) := by
  have hpos := Nat.two_pow_pos (hi + 1 - lo)
  have hle : satAdd (hi + 1 - lo) (fld v hi lo) n ≤ 2 ^ (hi + 1 - lo) - 1 := Nat.min_le_right _ _
  rw [satFld, fld_setFld_same v hi lo _ h h2, Nat.mod_eq_of_lt (by omega), satAdd]

theorem testBit_fld (v : W64) (hi lo j : Nat) : (fld v hi lo).testBit j = (decide (j < hi + 1 - lo) && v.getLsbD (lo + j)) := by
  rw [fld, ← BitVec.getLsbD, BitVec.getLsbD_extractLsb']

/-- A field of one word copied into another. -/
theorem getLsbD_setFld_fld (a v : W64) (hi lo i : Nat) (h : lo ≤ hi) (h2 : hi < 64) :
    (setFld a hi lo (fld v hi lo)).getLsbD i = if lo ≤ i ∧ i ≤ hi then v.getLsbD i else a.getLsbD i := by
  rw [setFld_getLsbD a hi lo _ i h h2, testBit_fld]
  split
  · rename_i hin
    rw [decide_eq_true (by omega : i - lo < hi + 1 - lo), Bool.true_and, Nat.add_sub_cancel' hin.1]
  · rfl

/-- A write of all eight bytes leaves nothing of the old word. -/
theorem mergeBytes_full (v w : W64) : mergeBytes 0xFF v w = w := by
  apply BitVec.eq_of_getLsbD_eq
  intro i hi
  simp only [mergeBytes, List.range, List.range.loop, List.foldl_cons, List.foldl_nil]
  simp only [BitVec.reduceGetLsb, if_true, Nat.reduceMul, Nat.reduceAdd]
  simp only [getLsbD_setFld_fld, Nat.reduceLeDiff, Nat.reduceLT, ite_eq_left_iff]
  intros
  omega

theorem cntOf_toNat_setFld (v : W64) (c : Cnt) : cntOf (setFld v 47 0 c.toNat) = c := by
  have h := fld_setFld_same v 47 0 c.toNat (by omega) (by omega)
  apply BitVec.eq_of_toNat_eq
  rw [Nat.mod_eq_of_lt c.isLt] at h
  rw [cntOf, BitVec.toNat_setWidth]
  simpa [fld] using h

/-! ## Which register a write changes -/

@[simp] theorem State.rd_setAxis (s : State) (n : Nat) (x : AxisX) (off : Nat) : (s.setAxis n x).rd off = s.rd off := rfl

theorem State.axis_setAxis_other (s : State) {n k : Nat} (x : AxisX) (h : k ≠ n) : (s.setAxis n x).axis k = s.axis k :=
  Sparse.get_set_other _ _ _ h

theorem State.out_setOut_other (s : State) {o k : Nat} (x : OutX) (h : k ≠ o) : (s.setOut o x).out k = s.out k :=
  Sparse.get_set_other _ _ _ h

theorem State.port_setPort_other (s : State) {q k : Nat} (x : Port) (h : k ≠ q) : (s.setPort q x).port k = s.port k :=
  Sparse.get_set_other _ _ _ h

/-! ## Changes of registers and axes alone -/

/-- Two states differ at most in their registers. -/
def State.RegsOnly (s t : State) : Prop := t = { s with regs := t.regs }

/-- Two states differ at most in their registers and in what the axes hold beside them. -/
def State.AxesOnly (s t : State) : Prop := t = { s with axes := t.axes, regs := t.regs }

theorem State.RegsOnly.trans {s t u : State} (h : s.RegsOnly t) (h' : t.RegsOnly u) : s.RegsOnly u := by
  unfold State.RegsOnly at *
  rw [h', h]

theorem State.AxesOnly.trans {s t u : State} (h : s.AxesOnly t) (h' : t.AxesOnly u) : s.AxesOnly u := by
  unfold State.AxesOnly at *
  rw [h', h]

theorem State.RegsOnly.axesOnly {s t : State} (h : s.RegsOnly t) : s.AxesOnly t := by
  unfold State.RegsOnly at h
  unfold State.AxesOnly
  rw [h]

theorem State.regsOnly_wr (s : State) (off : Nat) (v : W64) : s.RegsOnly (s.wr off v) := rfl
theorem State.regsOnly_wf (s : State) (off hi lo x : Nat) : s.RegsOnly (s.wf off hi lo x) := rfl
theorem State.regsOnly_wb (s : State) (off i : Nat) (b : Bool) : s.RegsOnly (s.wb off i b) := rfl
theorem State.regsOnly_sat (s : State) (off hi lo n : Nat) : s.RegsOnly (s.sat off hi lo n) := rfl
theorem State.axesOnly_setAxis (s : State) (n : Nat) (x : AxisX) : s.AxesOnly (s.setAxis n x) := rfl

/-! ## Rows of the register map -/

/-- Every register of a row lies below an offset. -/
def RegRow.endsBy (r : RegRow) (b : Nat) : Bool :=
  match r.dims with
  | [] => decide (r.base < b)
  | (st, n, _) :: _ => decide (0 < st) && decide (r.base + n * st ≤ b)

theorem dimIndex_past (r : RegRow) {b off : Nat} (h : r.endsBy b = true) (hb : b ≤ off) : dimIndex r.dims (off - r.base) = none := by
  unfold RegRow.endsBy at h
  split at h
  case h_1 hd =>
    obtain ⟨k, hk⟩ := Nat.exists_eq_succ_of_ne_zero (n := off - r.base) (by have := of_decide_eq_true h; omega)
    rw [hd, hk]; rfl
  case h_2 st n f t hd =>
    obtain ⟨hst, hle⟩ := (Bool.and_eq_true _ _).mp h
    have hst := of_decide_eq_true hst
    have hle := of_decide_eq_true hle
    have hn : ¬ (off - r.base) / st < n := by rw [Nat.div_lt_iff_lt_mul hst]; omega
    rw [hd, dimIndex, if_neg hn]

/-- An offset past every register of the first rows is looked for in the others. -/
theorem findRow_past (l m : List RegRow) {b off : Nat} (h : l.all (·.endsBy b) = true) (hb : b ≤ off) :
    findRow (l ++ m) off = findRow m off := by
  induction l with
  | nil => rfl
  | cons r t ih =>
    obtain ⟨hr, ht⟩ := (Bool.and_eq_true _ _).mp (List.all_cons ▸ h)
    rw [List.cons_append, findRow, dimIndex_past r hr hb, ih ht]
    exact ite_self _

theorem dimIndex_one {st n i : Nat} (f : Nat) (hst : 0 < st) (h : i < n) : dimIndex [(st, n, f)] (i * st) = some [i + f] := by
  rw [dimIndex, Nat.mul_div_cancel _ hst, if_pos h, Nat.mul_mod_left]; rfl

theorem findRow_here {r : RegRow} {t : List RegRow} {off : Nat} {ix : List Nat} (h : r.base ≤ off)
    (hi : dimIndex r.dims (off - r.base) = some ix) : findRow (r :: t) off = some (r, ix) := by
  rw [findRow, if_pos h, hi]

theorem locate_ptbAxCnt : ∀ n, n < 4 → locate (Addr.ptbAxCnt n) =
    some (⟨.ptbAxCnt, 0x200008, [(0x40, 4, 0)], 0x0, 0xFFFFFFFFFFFF, 0x0⟩, [n]) := by decide

theorem locate_ptbSlotCtl : ∀ k, k < 64 → locate (Addr.ptbSlotCtl k) =
    some (⟨.ptbSlotCtl, 0x201000, [(0x20, 64, 0)], 0x0, 0x7FFFFFFFF0003FD, 0x0⟩, [k]) := by decide

theorem locate_memGen {r : Nat} (h : r < 384) :
    locate (Addr.memGen r) = some (⟨.memGen, 0xB01000, [(0x8, 384, 0)], 0x10001, 0x0, 0x0⟩, [r]) := by
  have hblock : Addr.memGen r / 0x100000 = 0x0B := by unfold Addr.memGen; omega
  have hpast : rows0B.dropLast.all (·.endsBy 0xB01000) = true := by decide
  have hle : 0xB01000 ≤ Addr.memGen r := by unfold Addr.memGen; omega
  have hi : Addr.memGen r - 0xB01000 = r * 8 := by unfold Addr.memGen; omega
  have hrows : blockRows 0x0B = rows0B.dropLast ++ [⟨.memGen, 0xB01000, [(0x8, 384, 0)], 0x10001, 0x0, 0x0⟩] := rfl
  rw [locate, hblock, hrows, findRow_past _ _ hpast hle]
  exact findRow_here hle (by rw [hi]; exact dimIndex_one 0 (by decide) h)

theorem resetOf_memGen {r : Nat} (h : r < 384) : resetOf (Addr.memGen r) = 0x10001 := by
  rw [resetOf, locate_memGen h]

/-! ## Writes over the register bus (R752, R802, R805) -/

theorem State.regLive_ptb (s : State) {off : Nat} (h : off / 0x100000 = 2) : s.regLive off = s.ptbOn := by
  rw [State.regLive, regDom, h]; rfl

/-- A permitted write reaches its register. -/
theorem State.regWrite_permitted {s : State} {src : Src} {off : Nat} {v : W64} {row : RegRow} {ix : List Nat} (hon : s.pmu.on = true)
    (hloc : locate off = some (row, ix)) (hlive : s.regLive off = true) (hmay : s.mayWrite src row.id (ix0 ix) = true) :
    s.regWrite src off 0xFF v = s.regStore src row off (ix0 ix) (ix1 ix) 0xFF v := by
  unfold State.regWrite
  simp [hon, hloc, hlive, hmay]

/-- A write that a rule forbids is ignored (R805). -/
theorem State.regWrite_forbidden {s : State} {src : Src} {off : Nat} {v : W64} {row : RegRow} {ix : List Nat} (hon : s.pmu.on = true)
    (hloc : locate off = some (row, ix)) (hlive : s.regLive off = true) (hmay : s.mayWrite src row.id (ix0 ix) = false) :
    s.regWrite src off 0xFF v = s := by
  unfold State.regWrite
  simp [hon, hloc, hlive, hmay]

end Sys2Proof.Machine
end

section
/-! What operations shared by the chapters leave unchanged: events, error records, the passing of time. -/

namespace Sys2Proof.Machine

open Sys2Proof

/-! ## Error records (R660, R685 to R689) -/

theorem State.supEvent_frame (s : State) : s.supEvent = { s with threads := s.supEvent.threads } := by
  unfold State.supEvent
  split <;> rfl

@[simp] theorem State.supEvent_regs (s : State) : s.supEvent.regs = s.regs := by
  rw [State.supEvent_frame]

@[simp] theorem State.supEvent_axes (s : State) : s.supEvent.axes = s.axes := by
  rw [State.supEvent_frame]

@[simp] theorem State.evPush_axes (s : State) (f type : Nat) (body : List Byte) : (s.evPush f type body).2.axes = s.axes := by
  unfold State.evPush
  dsimp only
  split <;> rfl

theorem State.rd_evPush (s : State) (f type : Nat) (body : List Byte) {off : Nat} (h : off ≠ Addr.pciFnStat f) :
    (s.evPush f type body).2.rd off = s.rd off := by
  unfold State.evPush
  dsimp only
  split
  · rfl
  · exact State.rd_sat_other _ _ _ _ h

/-- The registers that a record of partition p may change: the ledger's serial number and counts, and the drop counts of the event
rings that its host form goes to. -/
def recordRegs (p : Nat) : List Nat := [Addr.errHead, Addr.errCnt, Addr.hltSummary, Addr.pciFnStat 0, Addr.pciFnStat p]

@[simp] theorem State.newRec_axes (s : State) (r : Report) : (s.newRec r).axes = s.axes := by
  simp only [State.newRec]
  (repeat' split) <;> simp

theorem State.rd_newRec (s : State) (r : Report) {off : Nat} (h : off ∉ recordRegs r.part) : (s.newRec r).rd off = s.rd off := by
  simp only [recordRegs, List.mem_cons, List.not_mem_nil, not_or, or_false] at h
  obtain ⟨hhead, hcnt, hsum, hev0, hevp⟩ := h
  have hpush : ∀ (t : State) f type body, off ≠ Addr.pciFnStat f →
      Sparse.get resetOf (t.evPush f type body).2.regs off = Sparse.get resetOf t.regs off := fun _ _ _ _ h => State.rd_evPush _ _ _ _ h
  have hpre : ∀ h lo, Sparse.get resetOf (((s.wf Addr.errHead 31 0 h).sat Addr.errCnt (lo + 15) lo 1).sat Addr.hltSummary 15 0 1).regs off =
      Sparse.get resetOf s.regs off := fun h lo =>
    (State.rd_sat_other _ _ _ _ hsum).trans ((State.rd_sat_other _ _ _ _ hcnt).trans (State.rd_wf_other _ _ _ _ hhead))
  unfold State.rd
  simp only [State.newRec]
  (repeat' split) <;> simp [hpush, hpre, hev0, hevp]

/-- A record, new or merged, changes its own ledger and no other register. -/
theorem State.rd_record (s : State) (r : Report) {off : Nat} (h : off ∉ recordRegs r.part) : (s.record r).rd off = s.rd off := by
  unfold State.record
  dsimp only
  split
  · rfl
  · exact State.rd_newRec s r h

@[simp] theorem State.record_axes (s : State) (r : Report) : (s.record r).axes = s.axes := by
  unfold State.record
  dsimp only
  split
  · rfl
  · exact State.newRec_axes s r

/-! ## The passing of time (R49, R79) -/

/-- The followers' phases are all that a tick changes of the axes' units. -/
theorem State.phaseTick_eq (s : State) : ∃ a, s.phaseTick = { s with axes := a } := by
  unfold State.phaseTick
  generalize List.range 4 = l
  induction l generalizing s with
  | nil => exact ⟨s.axes, rfl⟩
  | cons n l ih =>
    rw [List.foldl_cons]
    split
    · exact ih (s.setAxis n { s.axis n with phase := (s.axis n).phase + min stepPhase (s.axis n).pv.natAbs })
    · exact ih s

theorem State.inc_withPmu (s : State) (p : Pmu) (off hi lo n : Nat) :
    State.inc { s with pmu := p } off hi lo n = { s with pmu := p, regs := (s.inc off hi lo n).regs } := rfl

/-- The always-on timer keeps its fraction of a tick and PMU_AONTIME, both only with power on. -/
theorem State.aonTick_eq (s : State) : ∃ r p, s.aonTick = { s with regs := r, pmu := { s.pmu with tick32 := p } } ∧
    (∀ off, off ≠ Addr.pmuAontime → Sparse.get resetOf r off = s.rd off) ∧
    (s.pmu.on = false → r = s.regs ∧ p = s.pmu.tick32) := by
  unfold State.aonTick
  by_cases hon : s.pmu.on = true
  · rw [if_neg (by simp [hon])]
    dsimp only
    split
    · exact ⟨_, _, rfl, fun _ _ => rfl, fun h => absurd hon (by simp [h])⟩
    · rw [State.inc_withPmu]
      exact ⟨(s.inc Addr.pmuAontime 47 0 1).regs, _, rfl, fun _ h => State.rd_inc_other s 47 0 1 h, fun h => absurd hon (by simp [h])⟩
  · rw [if_pos (by simp [hon])]
    exact ⟨_, _, rfl, fun _ _ => rfl, fun _ => ⟨rfl, rfl⟩⟩

/-- A tick of an empty queue: PTB_TIME and the phases with their clock, then the always-on timer. -/
theorem State.tick_eq (s : State) :
    ∃ a, s.tick = ({ s with time := if s.clk 8 then s.time + 1 else s.time, axes := a } : State).aonTick := by
  unfold State.tick State.ptbOn
  by_cases h : s.clk 8 = true
  · obtain ⟨a, ha⟩ := State.phaseTick_eq { s with time := s.time + 1 }
    exact ⟨a, congrArg State.aonTick ((if_pos h).trans (ha.trans (by rw [if_pos h])))⟩
  · exact ⟨s.axes, congrArg State.aonTick ((if_neg h).trans (by rw [if_neg h]))⟩

end Sys2Proof.Machine
end

section
/-! The step at the front of the queue and the state after reset. -/

open Sys2Proof Sys2Proof.Machine

/-- Settles O1: the front command is executed; a tick moves PTB_TIME, the followers' phases and the always-on timer alone. -/
theorem stepRunsFrontCommand : Obligations.StepRunsFrontCommand := by
  unfold Obligations.StepRunsFrontCommand
  constructor
  · intro c rest s h
    rw [step, h]
  · intro s h
    obtain ⟨a, ha⟩ := State.tick_eq s
    obtain ⟨r, p, hr, hrd, hoff⟩ := State.aonTick_eq { s with time := if s.clk 8 then s.time + 1 else s.time, axes := a }
    refine ⟨s.tick, by rw [step, h], ?_⟩
    rw [ha, hr]
    refine ⟨rfl, rfl, hrd, rfl, fun hon => ?_⟩
    obtain ⟨hregs, htick⟩ := hoff hon
    exact ⟨hregs, by rw [htick]⟩

/-- Settles O55: each register's row of the register map holds its reset value; nothing else is listed. -/
theorem resetValues : Obligations.ResetValues := by
  unfold Obligations.ResetValues
  rintro s rfl
  refine ⟨rfl, rfl, rfl, fun _ => rfl, fun _ => rfl, ?_, ?_, ?_, ?_, ?_, ?_, ?_, fun _ h => resetOf_memGen h, ?_, ?_⟩
  all_goals decide

end

section
/-! The encoder axes: one count, an illegal transition, the input filter, the Z edge and the loads of a counter (R34 to R43). -/

namespace Sys2Proof.Machine

open Sys2Proof

theorem State.cnt_of_rd {s t : State} {n : Nat} (h : t.rd (Addr.ptbAxCnt n) = s.rd (Addr.ptbAxCnt n)) : t.cnt n = s.cnt n :=
  congrArg cntOf h

theorem State.cnt_wf_cnt (s : State) (n : Nat) (c : Cnt) : (s.wf (Addr.ptbAxCnt n) 47 0 c.toNat).cnt n = c := by
  rw [State.cnt, State.rd_wf_same, cntOf_toNat_setFld]

/-! ## One count (R35, R36, R48) -/

/-- The count of axis n passes the end of its range. -/
def State.wraps (s : State) (n : Nat) (down : Bool) : Bool :=
  if down then s.cnt n == BitVec.intMin 48 else s.cnt n == BitVec.intMax 48

/-- The axis that takes a count: its instant, DIR, STOPPED and WRAP, before the counter moves. -/
def State.noteCount (s : State) (n : Nat) (down : Bool) : State :=
  let t := ((s.setAxis n { s.axis n with last := s.time }).wb (Addr.ptbAxStat n) 0 down).wb (Addr.ptbAxStat n) 1 false
  if s.wraps n down then t.wb (Addr.ptbAxStat n) 4 true else t

theorem State.rd_noteCount (s : State) (n : Nat) (down : Bool) {off : Nat} (h : off ≠ Addr.ptbAxStat n) :
    (s.noteCount n down).rd off = s.rd off := by
  unfold State.noteCount
  dsimp only
  split <;> simp [State.rd_wb_other, h]

theorem State.axesOnly_noteCount (s : State) (n : Nat) (down : Bool) : s.AxesOnly (s.noteCount n down) := by
  have hdir := (s.setAxis n { s.axis n with last := s.time }).regsOnly_wb (Addr.ptbAxStat n) 0 down
  have hbits := (s.axesOnly_setAxis n _).trans (hdir.trans (State.regsOnly_wb _ (Addr.ptbAxStat n) 1 false)).axesOnly
  unfold State.noteCount
  dsimp only
  split
  · exact hbits.trans (State.regsOnly_wb _ _ _ _).axesOnly
  · exact hbits

theorem State.axis_noteCount (s : State) (n : Nat) (down : Bool) :
    (s.noteCount n down).axis n = { s.axis n with last := s.time } := by
  have h := State.axis_setAxis_same s n { s.axis n with last := s.time }
  unfold State.noteCount
  dsimp only
  split <;> exact h

theorem State.stat_noteCount (s : State) (n : Nat) (down : Bool) :
    (s.noteCount n down).rb (Addr.ptbAxStat n) 0 = down ∧ (s.noteCount n down).rb (Addr.ptbAxStat n) 1 = false ∧
    (s.noteCount n down).rb (Addr.ptbAxStat n) 4 = (s.rb (Addr.ptbAxStat n) 4 || s.wraps n down) := by
  unfold State.noteCount State.rb
  dsimp only
  cases s.wraps n down <;> simp [bit_setBit_other]

theorem State.wraps_eq (s : State) (n : Nat) (down : Bool) :
    s.wraps n down = decide ((s.cnt n).toInt = if down then -2 ^ 47 else 2 ^ 47 - 1) := by
  unfold State.wraps
  cases down
  · rw [if_neg (by decide), if_neg (by decide), Bool.eq_iff_iff, beq_iff_eq, decide_eq_true_iff, ← BitVec.toInt_inj]; rfl
  · rw [if_pos rfl, if_pos rfl, Bool.eq_iff_iff, beq_iff_eq, decide_eq_true_iff, ← BitVec.toInt_inj]; rfl

/-- The counter after a count. -/
def nextCnt (c : Cnt) (down : Bool) : Cnt := if down then c - 1 else c + 1

/-- A count notes itself in the axis, moves the counter and evaluates the slots on that movement. -/
theorem State.count_eq (s : State) (n : Nat) (down : Bool) :
    s.count n down = (((s.noteCount n down).wf (Addr.ptbAxCnt n) 47 0 (nextCnt (s.cnt n) down).toNat).evalSlots n (s.cnt n)
      (nextCnt (s.cnt n) down)).afterCount n := by
  have hne : Addr.ptbAxCnt n ≠ Addr.ptbAxStat n := by simp [Addr.ptbAxCnt, Addr.ptbAxStat]
  have hcnt : (s.noteCount n down).cnt n = s.cnt n := State.cnt_of_rd (State.rd_noteCount s n down hne)
  show (s.noteCount n down).moveTo n (nextCnt (s.cnt n) down) = _
  rw [State.moveTo, hcnt]

/-! ## The filter (R37) -/

/-- A level that comes less than m filter times after the signal's last accepted one is none. -/
theorem State.filtered_iff (s : State) (n m : Nat) (last : Option Nat) :
    s.filtered n m last = true ↔ ¬ ∃ t, last = some t ∧ s.time < t + m * (s.rf (Addr.ptbAxCfg n) 6 2 + 1) := by
  cases last <;> simp [State.filtered]

/-- Axis n with newly accepted levels of A and B. -/
def State.levels (s : State) (n : Nat) (a b : Bool) : State :=
  let x := s.axis n
  s.setAxis n { x with a := a, b := b, aAt := if x.a = a then x.aAt else some s.time, bAt := if x.b = b then x.bAt else some s.time }

/-- Axis n is enabled, counts from its own encoder, and wakes nothing. -/
structure LocalAxis (s : State) (n : Nat) : Prop where
  on : s.ptbOn = true
  enabled : s.rb (Addr.ptbAxCfg n) 0 = true
  own : s.rb (Addr.ptbAxCfg n) 1 = false
  noWake : s.rb Addr.ptbWake n = false

theorem State.encoder_same {s : State} {n : Nat} {a b : Bool} (ha : (s.axis n).a = a) (hb : (s.axis n).b = b) :
    s.encoder n a b = s := by
  rw [State.encoder]
  exact if_pos ⟨ha, hb⟩

theorem State.encoder_early {s : State} {n : Nat} {a b : Bool} (hw : s.rb Addr.ptbWake n = false)
    (h : ((s.axis n).a ≠ a ∧ s.filtered n 1 (s.axis n).aAt = false) ∨ ((s.axis n).b ≠ b ∧ s.filtered n 1 (s.axis n).bAt = false)) :
    s.encoder n a b = s := by
  unfold State.encoder
  rcases h with ⟨h1, h2⟩ | ⟨h1, h2⟩ <;> simp [hw, h1, h2]

theorem State.encoder_illegal {s : State} {n : Nat} {a b : Bool} (hx : LocalAxis s n) (ha : (s.axis n).a ≠ a) (hb : (s.axis n).b ≠ b)
    (hfa : s.filtered n 1 (s.axis n).aAt = true) (hfb : s.filtered n 1 (s.axis n).bAt = true) :
    s.encoder n a b = (s.levels n a b).illegal n := by
  obtain ⟨hon, hen, hown, hw⟩ := hx
  simp only [State.rb] at hen hown
  unfold State.encoder State.levels
  simp [hw, ha, hb, hfa, hfb, hon, hen, hown]

theorem State.encoder_legal {s : State} {n : Nat} {a b : Bool} (hx : LocalAxis s n)
    (h : ((s.axis n).a ≠ a ∧ (s.axis n).b = b ∧ s.filtered n 1 (s.axis n).aAt = true) ∨
      ((s.axis n).a = a ∧ (s.axis n).b ≠ b ∧ s.filtered n 1 (s.axis n).bAt = true)) :
    s.encoder n a b = (s.levels n a b).countZ n (countsUp (s.axis n).a a b == s.rb (Addr.ptbAxCfg n) 7) := by
  obtain ⟨hon, hen, hown, hw⟩ := hx
  simp only [State.rb] at hen hown
  unfold State.encoder State.levels
  rw [show s.rb (Addr.ptbAxCfg n) 7 = bit (s.rd (Addr.ptbAxCfg n)) 7 from rfl]
  rcases h with ⟨ha, hb, hf⟩ | ⟨ha, hb, hf⟩ <;> simp [hw, ha, hb, hf, hon, hen, hown]

/-! ## A Z edge of the sample of a count (R41) -/

theorem State.countZ_apart {s : State} {n : Nat} (down : Bool) (h : ∀ z, (s.axis n).z = some z → z.1 ≠ s.time) :
    s.countZ n down = s.count n down := by
  unfold State.countZ
  split
  · rename_i t old m hz
    exact if_neg (h _ hz)
  · rfl

theorem State.countZ_same_sample {s : State} {n m : Nat} {o : Cnt} (down : Bool) (h : (s.axis n).z = some (s.time, o, m)) :
    s.countZ n down = ((s.wf (Addr.ptbAxCnt n) 47 0 o.toNat).count n down).zAct n m := by
  unfold State.countZ
  rw [h]
  exact if_pos rfl

theorem countsUp_eq (oldA a b : Bool) : countsUp oldA a b = if oldA ≠ a then decide (a ≠ b) else decide (a = b) := by
  cases oldA <;> cases a <;> cases b <;> rfl

/-! ## An illegal transition (R40, R687) -/

theorem Lim.pass_early {l : Lim} {now window t : Nat} (h : l.at_ = some t) (ht : now < t + window) :
    (l.pass now window).1 = none := by
  simp [Lim.pass, h, ht]

theorem Lim.pass_due {l : Lim} {now window : Nat} (h : l.at_ = none ∨ ∃ t, l.at_ = some t ∧ t + window ≤ now) :
    (l.pass now window).2 = ⟨some now, 0⟩ := by
  rcases h with h | ⟨t, h, ht⟩
  · simp [Lim.pass, h]
  · simp [Lim.pass, h, Nat.not_lt.mpr ht]

/-- Axis n flagged for an illegal transition, before its record: CERR and ERRCNT, and the limiter of records. -/
def State.flagIllegal (s : State) (n : Nat) : State :=
  ((s.wb (Addr.ptbAxStat n) 3 true).sat (Addr.ptbAxStat n) 31 16 1).setAxis n
    { s.axis n with lim := ((s.axis n).lim.pass s.time (msTicks 1)).2, cerr := true }

theorem State.illegal_eq (s : State) (n : Nat) : s.illegal n =
    match ((s.axis n).lim.pass s.time (msTicks 1)).1 with
    | some k => (s.flagIllegal n).record { report 16 .signal n 0 with n := k }
    | none => s.flagIllegal n := rfl

theorem State.axis_illegal (s : State) (n : Nat) : (s.illegal n).axis n =
    { s.axis n with lim := ((s.axis n).lim.pass s.time (msTicks 1)).2, cerr := true } := by
  have h : (s.flagIllegal n).axis n = _ := State.axis_setAxis_same _ n _
  rw [State.illegal_eq, ← h]
  split
  · unfold State.axis; rw [State.record_axes]
  · rfl

theorem State.rd_illegal (s : State) (n : Nat) {off : Nat} (h : off ∉ recordRegs 0) : (s.illegal n).rd off = (s.flagIllegal n).rd off := by
  rw [State.illegal_eq]
  split
  · exact State.rd_record _ _ h
  · rfl

/-- The registers of an axis are none of the ledger's. -/
theorem ptbAx_not_recordRegs {n off : Nat} (hn : n < 4) (h : off < 0x200040 + n * 0x40) : off ∉ recordRegs 0 := by
  simp [recordRegs, Addr.errHead, Addr.errCnt, Addr.hltSummary, Addr.pciFnStat]
  omega

theorem State.stat_flagIllegal (s : State) (n : Nat) :
    (s.flagIllegal n).rb (Addr.ptbAxStat n) 3 = true ∧
    (s.flagIllegal n).rf (Addr.ptbAxStat n) 31 16 = min (s.rf (Addr.ptbAxStat n) 31 16 + 1) 65535 := by
  simp [State.flagIllegal, State.rb, State.rf, bit_satFld_other, fld_satFld_same, fld_setBit_other]

theorem State.rd_flagIllegal (s : State) (n : Nat) {off : Nat} (h : off ≠ Addr.ptbAxStat n) : (s.flagIllegal n).rd off = s.rd off := by
  simp [State.flagIllegal, State.rd_sat_other, State.rd_wb_other, h]

/-- An illegal transition leaves the counter, sets CERR and counts in ERRCNT. -/
theorem State.illegal_flags (s : State) {n : Nat} (hn : n < 4) : (s.illegal n).cnt n = s.cnt n ∧
    (s.illegal n).rb (Addr.ptbAxStat n) 3 = true ∧
    (s.illegal n).rf (Addr.ptbAxStat n) 31 16 = min (s.rf (Addr.ptbAxStat n) 31 16 + 1) 65535 := by
  have hstat := State.rd_illegal s n (off := Addr.ptbAxStat n) (ptbAx_not_recordRegs hn (by unfold Addr.ptbAxStat; omega))
  have hcnt := State.rd_illegal s n (off := Addr.ptbAxCnt n) (ptbAx_not_recordRegs hn (by unfold Addr.ptbAxCnt; omega))
  have hne : Addr.ptbAxCnt n ≠ Addr.ptbAxStat n := by simp [Addr.ptbAxCnt, Addr.ptbAxStat]
  refine ⟨State.cnt_of_rd (hcnt.trans (State.rd_flagIllegal s n hne)), ?_⟩
  rw [State.rb, State.rf, hstat]
  exact State.stat_flagIllegal s n

/-! ## Z edges and loads (R41 to R43, R52) -/

theorem State.rd_velRestart (s : State) {n off : Nat} (h : off ≠ Addr.ptbAxVel n) : (s.velRestart n).rd off = s.rd off :=
  State.rd_wr_other _ _ h

/-- Axis n with its counter loaded: LOST cleared, the estimator restarted where the axis is no follower. -/
def State.loaded (s : State) (n : Nat) (v : Cnt) : State :=
  let t := (s.wf (Addr.ptbAxCnt n) 47 0 v.toNat).wb (Addr.ptbAxStat n) 7 false
  if t.follows n then t else t.velRestart n

theorem State.loadCnt_eq (s : State) (n : Nat) (v : Cnt) : s.loadCnt n v = (s.loaded n v).afterCount n := rfl

theorem State.axesOnly_loaded (s : State) (n : Nat) (v : Cnt) : s.AxesOnly (s.loaded n v) := by
  have hcnt := ((s.regsOnly_wf (Addr.ptbAxCnt n) 47 0 v.toNat).trans (State.regsOnly_wb _ (Addr.ptbAxStat n) 7 false)).axesOnly
  unfold State.loaded
  dsimp only
  split
  · exact hcnt
  · exact hcnt.trans ((State.axesOnly_setAxis _ n _).trans (State.regsOnly_wr _ (Addr.ptbAxVel n) 0).axesOnly)

theorem State.rd_loaded (s : State) {n off : Nat} (v : Cnt) (hc : off ≠ Addr.ptbAxCnt n) (hs : off ≠ Addr.ptbAxStat n)
    (hv : off ≠ Addr.ptbAxVel n) : (s.loaded n v).rd off = s.rd off := by
  unfold State.loaded
  dsimp only
  split <;> simp [State.rd_velRestart, State.rd_wb_other, State.rd_wf_other, hc, hs, hv]

theorem State.loaded_same (s : State) (n : Nat) (v : Cnt) :
    (s.loaded n v).cnt n = v ∧ (s.loaded n v).rb (Addr.ptbAxStat n) 7 = false := by
  have h1 : Addr.ptbAxCnt n ≠ Addr.ptbAxStat n := by simp [Addr.ptbAxCnt, Addr.ptbAxStat]
  have h2 : Addr.ptbAxCnt n ≠ Addr.ptbAxVel n := by simp [Addr.ptbAxCnt, Addr.ptbAxVel]
  have h3 : Addr.ptbAxStat n ≠ Addr.ptbAxVel n := by simp [Addr.ptbAxStat, Addr.ptbAxVel]
  unfold State.loaded State.cnt State.rb
  dsimp only
  split <;> simp [State.rd_velRestart, State.rd_wb_other, cntOf_toNat_setFld, h1, h2, h3]

theorem State.rd_vel_loaded (s : State) (n : Nat) (v : Cnt) :
    (s.loaded n v).rd (Addr.ptbAxVel n) = if s.follows n then s.rd (Addr.ptbAxVel n) else 0 := by
  have hcc : Addr.ptbAxCfg n ≠ Addr.ptbAxCnt n := by simp [Addr.ptbAxCfg, Addr.ptbAxCnt]
  have hcs : Addr.ptbAxCfg n ≠ Addr.ptbAxStat n := by simp [Addr.ptbAxCfg, Addr.ptbAxStat]
  have hvc : Addr.ptbAxVel n ≠ Addr.ptbAxCnt n := by simp [Addr.ptbAxVel, Addr.ptbAxCnt]
  have hvs : Addr.ptbAxVel n ≠ Addr.ptbAxStat n := by simp [Addr.ptbAxVel, Addr.ptbAxStat]
  have hf : ((s.wf (Addr.ptbAxCnt n) 47 0 v.toNat).wb (Addr.ptbAxStat n) 7 false).follows n = s.follows n := by
    simp [State.follows, State.rb, State.rd_wb_other, State.rd_wf_other, hcc, hcs]
  unfold State.loaded
  dsimp only
  rw [hf]
  split
  · rw [State.rd_wb_other _ _ _ hvs, State.rd_wf_other _ _ _ _ hvc]
  · exact State.rd_wr_same _ _ _

/-- Registers from the compare slots on are none of an axis's. -/
theorem State.rd_loaded_above (s : State) {n off : Nat} (v : Cnt) (hn : n < 4) (h : 0x201000 ≤ off) :
    (s.loaded n v).rd off = s.rd off := by
  apply State.rd_loaded <;> simp only [Addr.ptbAxCnt, Addr.ptbAxStat, Addr.ptbAxVel] <;> omega

theorem slotRegs_above (k : Nat) :
    0x201000 ≤ Addr.ptbSlotStat k ∧ 0x201000 ≤ Addr.ptbSlotCtl k ∧ 0x201000 ≤ Addr.ptbSlotTgt k := by
  simp only [Addr.ptbSlotStat, Addr.ptbSlotCtl, Addr.ptbSlotTgt]
  omega

/-- A load of a counter touches no compare slot (R42). -/
theorem State.slots_of_loaded {s t : State} (h : ∀ off, 0x201000 ≤ off → t.rd off = s.rd off) (k : Nat) :
    t.rd (Addr.ptbSlotStat k) = s.rd (Addr.ptbSlotStat k) ∧ t.rd (Addr.ptbSlotCtl k) = s.rd (Addr.ptbSlotCtl k) ∧
    t.rd (Addr.ptbSlotTgt k) = s.rd (Addr.ptbSlotTgt k) := by
  obtain ⟨h1, h2, h3⟩ := slotRegs_above k
  exact ⟨h _ h1, h _ h2, h _ h3⟩

theorem State.zEdge_early {s : State} {n : Nat} {z : Nat × Cnt × Nat} (hz : (s.axis n).z = some z)
    (h : s.time < z.1 + 2 * (s.rf (Addr.ptbAxCfg n) 6 2 + 1)) : s.zEdge n = s := by
  have hf : s.filtered n 2 ((s.axis n).z.map (·.1)) = false :=
    Bool.eq_false_iff.mpr fun hf => (State.filtered_iff s n 2 _).mp hf ⟨z.1, by rw [hz]; rfl, h⟩
  unfold State.zEdge
  simp [hf]

/-- Axis n with an accepted Z edge noted. -/
def State.noteZ (s : State) (n : Nat) : State :=
  s.setAxis n { s.axis n with z := some (s.time, s.cnt n, s.rf (Addr.ptbAxCfg n) 9 8) }

theorem State.zEdge_accepted {s : State} {n : Nat} (hon : s.ptbOn = true) (hen : s.rb (Addr.ptbAxCfg n) 0 = true)
    (h : ∀ z, (s.axis n).z = some z → z.1 + 2 * (s.rf (Addr.ptbAxCfg n) 6 2 + 1) ≤ s.time) :
    s.zEdge n = (s.noteZ n).zAct n (s.rf (Addr.ptbAxCfg n) 9 8) := by
  have hf : s.filtered n 2 ((s.axis n).z.map (·.1)) = true := (State.filtered_iff s n 2 _).mpr (by
    rintro ⟨t, ht, hlt⟩
    obtain ⟨z, hz, rfl⟩ := Option.map_eq_some_iff.mp ht
    exact absurd (h z hz) (by omega))
  have hen' : bit (s.rd (Addr.ptbAxCfg n)) 0 = true := hen
  unfold State.zEdge
  rw [if_neg (by simp [hon, hen', hf])]
  rfl

/-- The counter latched by a Z edge, before a homing load. -/
def State.zLatch (s : State) (n : Nat) : State :=
  (s.wf (Addr.ptbAxZlat n) 47 0 (s.cnt n).toNat).wb (Addr.ptbAxStat n) 5 true

theorem State.rd_zLatch (s : State) {n off : Nat} (hz : off ≠ Addr.ptbAxZlat n) (hs : off ≠ Addr.ptbAxStat n) :
    (s.zLatch n).rd off = s.rd off := by
  rw [State.zLatch, State.rd_wb_other _ _ _ hs, State.rd_wf_other _ _ _ _ hz]

theorem State.zLatch_same (s : State) (n : Nat) :
    (s.zLatch n).rf (Addr.ptbAxZlat n) 47 0 = (s.cnt n).toNat ∧ (s.zLatch n).rb (Addr.ptbAxStat n) 5 = true := by
  have hne : Addr.ptbAxZlat n ≠ Addr.ptbAxStat n := by simp [Addr.ptbAxZlat, Addr.ptbAxStat]
  refine ⟨?_, by simp [State.zLatch, State.rb]⟩
  rw [State.zLatch, State.rf, State.rd_wb_other _ _ _ hne, State.rd_wf_same, fld_setFld_same _ _ _ _ (by decide) (by decide)]
  exact Nat.mod_eq_of_lt (s.cnt n).isLt

/-- The axis that a homing load leaves: latched, ZMODE back at latching, the counter loaded from PTB_AXn_ZLOAD (R41). -/
def State.homed (s : State) (n : Nat) : State :=
  ((s.zLatch n).wf (Addr.ptbAxCfg n) 9 8 1).loaded n (cntOf (s.rd (Addr.ptbAxZload n)))

theorem State.zAct_home (s : State) (n : Nat) : s.zAct n 2 = (s.homed n).afterCount n := by
  have h1 : Addr.ptbAxZload n ≠ Addr.ptbAxZlat n := by simp [Addr.ptbAxZload, Addr.ptbAxZlat]
  have h2 : Addr.ptbAxZload n ≠ Addr.ptbAxStat n := by simp [Addr.ptbAxZload, Addr.ptbAxStat]
  rw [State.homed, ← State.rd_zLatch s h1 h2]
  rfl

theorem State.axesOnly_homed (s : State) (n : Nat) : s.AxesOnly (s.homed n) :=
  (((s.regsOnly_wf _ _ _ _).trans (State.regsOnly_wb _ _ _ _)).trans (State.regsOnly_wf _ (Addr.ptbAxCfg n) 9 8 1)).axesOnly.trans
    (State.axesOnly_loaded _ n _)

theorem State.rd_homed_above (s : State) {n off : Nat} (hn : n < 4) (h : 0x201000 ≤ off) : (s.homed n).rd off = s.rd off := by
  have hz : off ≠ Addr.ptbAxZlat n := by unfold Addr.ptbAxZlat; omega
  have hs : off ≠ Addr.ptbAxStat n := by unfold Addr.ptbAxStat; omega
  have hc : off ≠ Addr.ptbAxCfg n := by unfold Addr.ptbAxCfg; omega
  rw [State.homed, State.rd_loaded_above _ _ hn h, State.rd_wf_other _ _ _ _ hc, State.rd_zLatch s hz hs]

theorem State.homed_same (s : State) (n : Nat) :
    (s.homed n).cnt n = cntOf (s.rd (Addr.ptbAxZload n)) ∧ (s.homed n).rf (Addr.ptbAxZlat n) 47 0 = (s.cnt n).toNat ∧
    (s.homed n).rf (Addr.ptbAxCfg n) 9 8 = 1 ∧ (s.homed n).rb (Addr.ptbAxStat n) 7 = false := by
  obtain ⟨hcnt, hlost⟩ := State.loaded_same ((s.zLatch n).wf (Addr.ptbAxCfg n) 9 8 1) n (cntOf (s.rd (Addr.ptbAxZload n)))
  have hlat : (s.homed n).rd (Addr.ptbAxZlat n) = (s.zLatch n).rd (Addr.ptbAxZlat n) := by
    rw [State.homed, State.rd_loaded, State.rd_wf_other] <;>
      simp [Addr.ptbAxZlat, Addr.ptbAxCnt, Addr.ptbAxStat, Addr.ptbAxVel, Addr.ptbAxCfg]
  have hcfg : (s.homed n).rd (Addr.ptbAxCfg n) = setFld ((s.zLatch n).rd (Addr.ptbAxCfg n)) 9 8 1 := by
    rw [State.homed, State.rd_loaded, State.rd_wf_same] <;>
      simp [Addr.ptbAxCnt, Addr.ptbAxStat, Addr.ptbAxVel, Addr.ptbAxCfg]
  refine ⟨hcnt, ?_, ?_, hlost⟩
  · rw [State.rf, hlat]; exact (State.zLatch_same s n).1
  · rw [State.rf, hcfg]
    exact fld_setFld_same _ 9 8 1 (by decide) (by decide)

theorem busWrite_reaching {s : State} {src : Src} (off : Nat) (v : W64) (hsrc : okSrc src = true) (hreach : s.reaches src = true) :
    busWrite src true off v s = .next (s.regWrite src off 0xFF v) := by
  rw [busWrite, hsrc, if_pos (by rfl), if_pos hreach]

/-- A write of PTB_AXn_CNT by the supervisor program is a load of its low 48 bits (R42). -/
theorem exec_axisCounterWrite_sup {s : State} {n : Nat} (v : W64) (hn : n < 4) (hon : s.pmu.on = true) (hptb : s.ptbOn = true) :
    exec (.axisCounterWrite .sup n v) s = .next ((s.loaded n (v.setWidth 48)).afterCount n) := by
  have hlive : s.regLive (Addr.ptbAxCnt n) = true := (s.regLive_ptb (by unfold Addr.ptbAxCnt; omega)).trans hptb
  have hw := State.regWrite_permitted (src := .sup) (v := v) hon (locate_ptbAxCnt n hn) hlive rfl
  show busWrite .sup (decide (n < 4)) (Addr.ptbAxCnt n) v s = _
  rw [decide_eq_true hn, busWrite_reaching _ _ rfl rfl, hw]
  show Host.Outcome.next (s.loadCnt n (cntOf (mergeBytes 0xFF (s.rd (Addr.ptbAxCnt n)) v))) = _
  rw [mergeBytes_full, State.loadCnt_eq]
  rfl

theorem exec_encoderTransition {n : Nat} (hn : n < 4) (a b : Bool) (s : State) :
    exec (.encoderTransition n a b) s = .next (s.encoder n a b) := if_pos hn

theorem exec_zEdge {n : Nat} (hn : n < 4) (s : State) : exec (.zEdge n) s = .next (s.zEdge n) := if_pos hn

/-! ## The clauses of the statement -/

/-- One of A and B changes, late enough for its filter. -/
def State.oneEdge (s : State) (n : Nat) (a b : Bool) : Prop :=
  ((s.axis n).a ≠ a ∧ (s.axis n).b = b ∧ s.filtered n 1 (s.axis n).aAt = true) ∨
  ((s.axis n).a = a ∧ (s.axis n).b ≠ b ∧ s.filtered n 1 (s.axis n).bAt = true)

theorem State.axis_levels (s : State) (n : Nat) (a b : Bool) : (s.levels n a b).axis n =
    { s.axis n with a := a, b := b, aAt := if (s.axis n).a = a then (s.axis n).aAt else some s.time,
                    bAt := if (s.axis n).b = b then (s.axis n).bAt else some s.time } :=
  State.axis_setAxis_same _ _ _

/-- The direction of a transition (R36): up where A leads B and INV is 0. -/
theorem countsUp_not_up {oldA a b inv up : Bool} (h : up = ((if oldA ≠ a then decide (a ≠ b) else decide (a = b)) != inv)) :
    (countsUp oldA a b == inv) = !up := by
  rw [countsUp_eq, h, bne, Bool.not_not]

/-- A count that no Z edge shares its sample with. -/
theorem State.encoder_count {s : State} {n : Nat} {a b up : Bool} {old new : Cnt} (hx : LocalAxis s n) (hedge : s.oneEdge n a b)
    (hz : ∀ z, (s.axis n).z = some z → z.1 ≠ s.time)
    (hup : up = ((if (s.axis n).a ≠ a then decide (a ≠ b) else decide (a = b)) != s.rb (Addr.ptbAxCfg n) 7))
    (hold : old = s.cnt n) (hnew : new = if up then old + 1 else old - 1) : ∃ w : State,
      s.encoder n a b = (((w.wf (Addr.ptbAxCnt n) 47 0 new.toNat).evalSlots n old new).afterCount n) ∧
      (w.axis n).a = a ∧ (w.axis n).b = b ∧ (w.axis n).last = s.time ∧ w.rb (Addr.ptbAxStat n) 0 = !up ∧
      w.rb (Addr.ptbAxStat n) 1 = false ∧
      (w.rb (Addr.ptbAxStat n) 4 = (s.rb (Addr.ptbAxStat n) 4 || decide (old.toInt = (if up then 2 ^ 47 - 1 else -2 ^ 47)))) ∧
      w = { s with axes := w.axes, regs := w.regs } ∧ (∀ off, off ≠ Addr.ptbAxStat n → w.rd off = s.rd off) := by
  have hz' : ∀ z, ((s.levels n a b).axis n).z = some z → z.1 ≠ (s.levels n a b).time := by
    rw [State.axis_levels]; exact hz
  have hcnt : (s.levels n a b).cnt n = old := hold.symm
  have hnext : nextCnt old (!up) = new := by rw [hnew]; cases up <;> rfl
  have haxis := State.axis_noteCount (s.levels n a b) n (!up)
  rw [State.axis_levels] at haxis
  obtain ⟨hdir, hstop, hwrap⟩ := State.stat_noteCount (s.levels n a b) n (!up)
  refine ⟨(s.levels n a b).noteCount n (!up), ?_, ?_, ?_, ?_, hdir, hstop, ?_, ?_, fun off h => State.rd_noteCount _ _ _ h⟩
  · rw [State.encoder_legal hx hedge, countsUp_not_up hup, State.countZ_apart _ hz', State.count_eq, hcnt, hnext]
  · rw [haxis]
  · rw [haxis]
  · rw [haxis]; rfl
  · rw [hwrap, State.wraps_eq, hcnt]; cases up <;> rfl
  · exact (s.axesOnly_setAxis n _).trans (State.axesOnly_noteCount _ n _)

/-- A count whose sample a Z edge shares: the edge acts again, after the count (R41). -/
theorem State.encoder_countZ {s : State} {n m : Nat} {a b up : Bool} {o : Cnt} (hx : LocalAxis s n) (hedge : s.oneEdge n a b)
    (hz : (s.axis n).z = some (s.time, o, m))
    (hup : up = ((if (s.axis n).a ≠ a then decide (a ≠ b) else decide (a = b)) != s.rb (Addr.ptbAxCfg n) 7)) : ∃ w : State,
      s.encoder n a b = ((w.count n (!up)).zAct n m) ∧ w.cnt n = o ∧ (w.axis n).a = a ∧ (w.axis n).b = b ∧
      w = { s with axes := w.axes, regs := w.regs } ∧ (∀ off, off ≠ Addr.ptbAxCnt n → w.rd off = s.rd off) := by
  have hz' : ((s.levels n a b).axis n).z = some ((s.levels n a b).time, o, m) := by
    rw [State.axis_levels]; exact hz
  have haxis : ((s.levels n a b).wf (Addr.ptbAxCnt n) 47 0 o.toNat).axis n = _ := State.axis_levels s n a b
  refine ⟨(s.levels n a b).wf (Addr.ptbAxCnt n) 47 0 o.toNat, ?_, State.cnt_wf_cnt _ _ _, ?_, ?_, rfl,
    fun off h => State.rd_wf_other _ _ _ _ h⟩
  · rw [State.encoder_legal hx hedge, countsUp_not_up hup, State.countZ_same_sample _ hz']
  · rw [haxis]
  · rw [haxis]

/-- A level that its filter cannot have accepted yet is none. -/
theorem State.encoder_late {s : State} {n : Nat} {a b : Bool} (hw : s.rb Addr.ptbWake n = false)
    (h : ((s.axis n).a ≠ a ∧ ¬ s.filtered n 1 (s.axis n).aAt = true) ∨ ((s.axis n).b ≠ b ∧ ¬ s.filtered n 1 (s.axis n).bAt = true)) :
    s.encoder n a b = s :=
  State.encoder_early hw (h.imp (And.imp_right Bool.eq_false_iff.mpr) (And.imp_right Bool.eq_false_iff.mpr))

/-- Both levels at once: the counter stays, the axis is flagged, and the limiter lets at most one record a millisecond through. -/
theorem State.encoder_both {s : State} {n : Nat} {a b : Bool} (hn : n < 4) (hx : LocalAxis s n) (ha : (s.axis n).a ≠ a)
    (hb : (s.axis n).b ≠ b) (hfa : s.filtered n 1 (s.axis n).aAt = true) (hfb : s.filtered n 1 (s.axis n).bAt = true) :
    ∃ u, s.encoder n a b = u ∧ u.cnt n = s.cnt n ∧ u.rb (Addr.ptbAxStat n) 3 = true ∧
      u.rf (Addr.ptbAxStat n) 31 16 = Min.min (s.rf (Addr.ptbAxStat n) 31 16 + 1) 65535 ∧ (u.axis n).a = a ∧ (u.axis n).b = b ∧
      (((s.axis n).lim.at_ = none ∨ ∃ t, (s.axis n).lim.at_ = some t ∧ t + 400000 ≤ s.time) → (u.axis n).lim = ⟨some s.time, 0⟩) ∧
      (∀ t, (s.axis n).lim.at_ = some t → s.time < t + 400000 → u.recs = s.recs) := by
  obtain ⟨hcnt, hcerr, herr⟩ := (s.levels n a b).illegal_flags hn
  have haxis := (s.levels n a b).axis_illegal n
  rw [State.axis_levels] at haxis
  refine ⟨_, State.encoder_illegal hx ha hb hfa hfb, hcnt, hcerr, herr, by rw [haxis], by rw [haxis], fun hlim => ?_, fun t hat ht => ?_⟩
  · rw [haxis]
    exact Lim.pass_due hlim
  · have hpass : (((s.levels n a b).axis n).lim.pass (s.levels n a b).time (msTicks 1)).1 = none := by
      rw [State.axis_levels]; exact Lim.pass_early hat ht
    rw [State.illegal_eq, hpass]; rfl

/-- A Z edge that latches moves nothing. -/
theorem State.zAct_latch (s : State) (n : Nat) : ∃ u, s.zAct n 1 = u ∧ u = { s with regs := u.regs, axes := u.axes } ∧
    u.rf (Addr.ptbAxZlat n) 47 0 = (s.cnt n).toNat ∧ u.rb (Addr.ptbAxStat n) 5 = true ∧ u.cnt n = s.cnt n := by
  obtain ⟨hlat, hflag⟩ := s.zLatch_same n
  have hcnt : (s.zLatch n).cnt n = s.cnt n :=
    State.cnt_of_rd (s.rd_zLatch (by simp [Addr.ptbAxCnt, Addr.ptbAxZlat]) (by simp [Addr.ptbAxCnt, Addr.ptbAxStat]))
  exact ⟨s.zLatch n, rfl, rfl, hlat, hflag, hcnt⟩

end Sys2Proof.Machine

open Sys2Proof Sys2Proof.Machine

/-- Settles O26: the levels of A and B by the number of them that change, the Z edge by ZMODE, and a load as State.loaded. -/
theorem encoderCounters : Obligations.EncoderCounters := by
  unfold Obligations.EncoderCounters
  constructor
  · rintro s n a b x hn hon rfl hen hown hw late rfl
    have hx : LocalAxis s n := ⟨hon, hen, hown, hw⟩
    have hlate : ∀ l, (∃ t, l = some t ∧ s.time < t + (s.rf (Addr.ptbAxCfg n) 6 2 + 1)) ↔ ¬ s.filtered n 1 l = true := fun l => by
      simpa only [Nat.one_mul] using iff_not_comm.mp (s.filtered_iff n 1 l)
    simp only [hlate, not_not, exec_encoderTransition hn, Host.Outcome.next.injEq]
    exact ⟨fun ⟨ha, hb⟩ => State.encoder_same ha hb, State.encoder_late hw, fun h hz up old new => State.encoder_count hx h hz,
      fun h o m up => State.encoder_countZ hx h, fun ⟨ha, hb, hfa, hfb⟩ => State.encoder_both hn hx ha hb hfa hfb⟩
  · intro s n v hn hon hen
    simp only [exec_zEdge hn, Host.Outcome.next.injEq]
    refine ⟨fun ⟨z, hz, hlt⟩ => State.zEdge_early hz hlt, fun hz => ⟨fun hm => ?_, fun hm => ?_, fun hm => ?_⟩, fun hpmu => ?_⟩
    · rw [State.zEdge_accepted hon hen hz, State.noteZ, hm]; rfl
    · rw [State.zEdge_accepted hon hen hz, hm]
      exact (s.noteZ n).zAct_latch n
    · obtain ⟨hcnt, hlat, hmode, hlost⟩ := (s.noteZ n).homed_same n
      refine ⟨(s.noteZ n).homed n, by rw [State.zEdge_accepted hon hen hz, hm, State.zAct_home], hcnt, hlat, hmode, hlost, ?_, fun k _ => ?_⟩
      · exact (s.axesOnly_setAxis n _).trans (State.axesOnly_homed _ n)
      · exact State.slots_of_loaded (fun off h => (s.noteZ n).rd_homed_above hn h) k
    · obtain ⟨hcnt, hlost⟩ := s.loaded_same n (v.setWidth 48)
      have hvel := s.rd_vel_loaded n (v.setWidth 48)
      refine ⟨s.loaded n (v.setWidth 48), by rw [exec_axisCounterWrite_sup v hn hpmu hon], hcnt, hlost, fun h => ?_, fun h => ?_,
        s.axesOnly_loaded n _, fun k _ => State.slots_of_loaded (fun off h => s.rd_loaded_above _ hn h) k⟩
      · rw [hvel, if_neg (by simp [State.follows, h])]
      · rw [hvel, if_pos (by simp [State.follows, h, hen])]

end

section
/-! The compare slots: what a fire makes of its slot, how many targets a movement crosses, arming and disarming (R53 to R61, R88). -/

namespace Sys2Proof.Machine

open Sys2Proof

/-! ## The registers of one slot differ -/

@[simp] theorem slotCtl_ne_stat (k : Nat) : Addr.ptbSlotCtl k ≠ Addr.ptbSlotStat k := by simp [Addr.ptbSlotCtl, Addr.ptbSlotStat]
@[simp] theorem slotStat_ne_ctl (k : Nat) : Addr.ptbSlotStat k ≠ Addr.ptbSlotCtl k := (slotCtl_ne_stat k).symm
@[simp] theorem slotTgt_ne_stat (k : Nat) : Addr.ptbSlotTgt k ≠ Addr.ptbSlotStat k := by simp [Addr.ptbSlotTgt, Addr.ptbSlotStat]
@[simp] theorem slotStat_ne_tgt (k : Nat) : Addr.ptbSlotStat k ≠ Addr.ptbSlotTgt k := (slotTgt_ne_stat k).symm
@[simp] theorem slotTgt_ne_ctl (k : Nat) : Addr.ptbSlotTgt k ≠ Addr.ptbSlotCtl k := by simp [Addr.ptbSlotTgt, Addr.ptbSlotCtl]
@[simp] theorem slotCtl_ne_tgt (k : Nat) : Addr.ptbSlotCtl k ≠ Addr.ptbSlotTgt k := (slotTgt_ne_ctl k).symm
@[simp] theorem slotStep_ne_stat (k : Nat) : Addr.ptbSlotStep k ≠ Addr.ptbSlotStat k := by simp [Addr.ptbSlotStep, Addr.ptbSlotStat]

/-! ## A fire (R56 to R58) -/

/-- A periodic slot n targets further: the target and SKIP. -/
def State.stepped (s : State) (k n : Nat) : State :=
  (s.wr (Addr.ptbSlotTgt k) (fixReg (fixOf (s.rd (Addr.ptbSlotTgt k)) + n * fixOf (s.rd (Addr.ptbSlotStep k))))).sat
    (Addr.ptbSlotStat k) 31 16 (n - 1)

/-- The steps are taken from REMAIN; at zero the slot disarms and is DONE. -/
def State.payRemain (s : State) (k n : Nat) : State :=
  let r := s.rf (Addr.ptbSlotCtl k) 55 40 - n
  let t := s.wf (Addr.ptbSlotCtl k) 55 40 r
  if r = 0 then (t.disarm k).wb (Addr.ptbSlotStat k) 34 true else t

/-- A slot whose fire has been counted, before its outputs and events follow. -/
def State.fired (s : State) (k n : Nat) : State :=
  if s.rb (Addr.ptbSlotCtl k) 4 then
    if s.noLimit.contains k then s.stepped k n else (s.stepped k n).payRemain k n
  else s.disarm k

theorem State.slotFire_eq (s : State) (k n : Nat) :
    s.slotFire k n = ((s.sat (Addr.ptbSlotStat k) 15 0 1).fired k n).fireOuts k := rfl

theorem State.regsOnly_disarm (s : State) (k : Nat) : s.RegsOnly (s.disarm k) :=
  (s.regsOnly_wb _ _ _).trans (State.regsOnly_wb _ _ _ _)

theorem State.regsOnly_payRemain (s : State) (k n : Nat) : s.RegsOnly (s.payRemain k n) := by
  have hctl := s.regsOnly_wf (Addr.ptbSlotCtl k) 55 40 (s.rf (Addr.ptbSlotCtl k) 55 40 - n)
  unfold State.payRemain
  dsimp only
  split
  · exact hctl.trans ((State.regsOnly_disarm _ k).trans (State.regsOnly_wb _ _ _ _))
  · exact hctl

theorem State.regsOnly_fired (s : State) (k n : Nat) : s.RegsOnly (s.fired k n) := by
  have hstep : s.RegsOnly (s.stepped k n) := (s.regsOnly_wr _ _).trans (State.regsOnly_sat _ _ _ _ _)
  unfold State.fired
  split
  · split
    · exact hstep
    · exact hstep.trans (State.regsOnly_payRemain _ k n)
  · exact s.regsOnly_disarm k

theorem State.disarm_slot (s : State) (k : Nat) :
    (s.disarm k).rb (Addr.ptbSlotStat k) 32 = false ∧ (s.disarm k).rb (Addr.ptbSlotCtl k) 0 = false := by
  simp [State.disarm, State.rb, State.rd_wb_other]

theorem State.rd_disarm (s : State) {k off : Nat} (hc : off ≠ Addr.ptbSlotCtl k) (hs : off ≠ Addr.ptbSlotStat k) :
    (s.disarm k).rd off = s.rd off := by
  rw [State.disarm, State.rd_wb_other _ _ _ hs, State.rd_wb_other _ _ _ hc]

/-- A disarming leaves the counts of the slot and the other bits of its status alone. -/
theorem State.stat_disarm (s : State) (k : Nat) :
    (s.disarm k).rd (Addr.ptbSlotStat k) = setBit (s.rd (Addr.ptbSlotStat k)) 32 false := by
  simp [State.disarm, State.rd_wb_other]

theorem State.stepped_regs (s : State) (k n : Nat) :
    (s.stepped k n).rd (Addr.ptbSlotStat k) = satFld (s.rd (Addr.ptbSlotStat k)) 31 16 (n - 1) ∧
    (s.stepped k n).rd (Addr.ptbSlotTgt k) = fixReg (fixOf (s.rd (Addr.ptbSlotTgt k)) + n * fixOf (s.rd (Addr.ptbSlotStep k))) ∧
    (s.stepped k n).rd (Addr.ptbSlotCtl k) = s.rd (Addr.ptbSlotCtl k) := by
  simp [State.stepped, State.rd_sat_other, State.rd_wr_other]

/-- A payment from REMAIN leaves the target and the slot's counts. -/
theorem State.payRemain_keeps (s : State) (k n : Nat) {hi lo : Nat} (h : hi < 32) :
    (s.payRemain k n).rd (Addr.ptbSlotTgt k) = s.rd (Addr.ptbSlotTgt k) ∧
    (s.payRemain k n).rf (Addr.ptbSlotStat k) hi lo = s.rf (Addr.ptbSlotStat k) hi lo := by
  unfold State.payRemain
  dsimp only
  split
  · simp [State.rf, State.rd_wb_other, State.rd_wf_other, State.rd_disarm, State.stat_disarm, fld_setBit_other, h,
      (by omega : hi < 34)]
  · simp [State.rf, State.rd_wf_other]

/-- A payment of n steps from REMAIN: at zero the slot is disarmed and DONE. -/
theorem State.payRemain_slot (s : State) (k n : Nat) :
    (s.payRemain k n).rf (Addr.ptbSlotCtl k) 55 40 = s.rf (Addr.ptbSlotCtl k) 55 40 - n ∧
    (s.rf (Addr.ptbSlotCtl k) 55 40 ≤ n → (s.payRemain k n).rb (Addr.ptbSlotStat k) 32 = false ∧
      (s.payRemain k n).rb (Addr.ptbSlotStat k) 34 = true) ∧
    (n < s.rf (Addr.ptbSlotCtl k) 55 40 → (s.payRemain k n).rb (Addr.ptbSlotStat k) 32 = s.rb (Addr.ptbSlotStat k) 32) := by
  have hlt : s.rf (Addr.ptbSlotCtl k) 55 40 < 2 ^ 16 := fld_lt _ 55 40
  have hfits : s.rf (Addr.ptbSlotCtl k) 55 40 - n < 65536 := by omega
  unfold State.payRemain
  dsimp only
  split
  · rename_i h0
    refine ⟨?_, fun _ => ?_, fun hlt => absurd h0 (by omega)⟩
    · simp [State.rf, State.disarm, State.rd_wb_other, fld_setBit_other, fld_setFld_same]
      exact hfits
    · simp [State.rb, State.stat_disarm, bit_setBit_other]
  · rename_i h0
    refine ⟨?_, fun hle => absurd (Nat.sub_eq_zero_of_le hle) h0, fun _ => ?_⟩
    · simp [State.rf, fld_setFld_same]
      exact hfits
    · simp [State.rb, State.rd_wf_other]

theorem State.fired_oneShot {s : State} {k : Nat} (n : Nat) (h : s.rb (Addr.ptbSlotCtl k) 4 = false) : s.fired k n = s.disarm k :=
  if_neg (by simp [h])

theorem State.fired_unlimited {s : State} {k : Nat} (n : Nat) (h : s.rb (Addr.ptbSlotCtl k) 4 = true) (hk : k ∈ s.noLimit) :
    s.fired k n = s.stepped k n := by
  rw [State.fired, if_pos h, if_pos (List.contains_iff_mem.mpr hk)]

theorem State.fired_limited {s : State} {k : Nat} (n : Nat) (h : s.rb (Addr.ptbSlotCtl k) 4 = true) (hk : k ∉ s.noLimit) :
    s.fired k n = (s.stepped k n).payRemain k n := by
  rw [State.fired, if_pos h, if_neg (mt List.contains_iff_mem.mp hk)]

/-- FIRED stands whatever the kind of slot. -/
theorem State.fired_count (s : State) (k n : Nat) : (s.fired k n).rf (Addr.ptbSlotStat k) 15 0 = s.rf (Addr.ptbSlotStat k) 15 0 := by
  have hstep : (s.stepped k n).rf (Addr.ptbSlotStat k) 15 0 = s.rf (Addr.ptbSlotStat k) 15 0 := by
    rw [State.rf, (s.stepped_regs k n).1]
    exact fld_satFld_other _ _ (by decide) (by decide) (by decide)
  unfold State.fired
  split
  · split
    · exact hstep
    · exact ((s.stepped k n).payRemain_keeps k n (by decide)).2.trans hstep
  · rw [State.rf, State.stat_disarm]
    exact fld_setBit_other _ _ (by decide) (by decide)

/-- A periodic slot moves its target by the steps and counts the skipped ones, whether REMAIN limits it or not. -/
theorem State.fired_target {s : State} {k : Nat} (n : Nat) (h : s.rb (Addr.ptbSlotCtl k) 4 = true) :
    (s.fired k n).rd (Addr.ptbSlotTgt k) = fixReg (fixOf (s.rd (Addr.ptbSlotTgt k)) + n * fixOf (s.rd (Addr.ptbSlotStep k))) ∧
    (s.fired k n).rf (Addr.ptbSlotStat k) 31 16 = min (s.rf (Addr.ptbSlotStat k) 31 16 + (n - 1)) 65535 := by
  obtain ⟨hstat, htgt, -⟩ := s.stepped_regs k n
  have hskip : (s.stepped k n).rf (Addr.ptbSlotStat k) 31 16 = min (s.rf (Addr.ptbSlotStat k) 31 16 + (n - 1)) 65535 := by
    rw [State.rf, hstat]
    exact fld_satFld_same _ _ (by decide) (by decide)
  by_cases hk : k ∈ s.noLimit
  · rw [State.fired_unlimited n h hk]
    exact ⟨htgt, hskip⟩
  · obtain ⟨h1, h2⟩ := (s.stepped k n).payRemain_keeps k n (hi := 31) (lo := 16) (by decide)
    rw [State.fired_limited n h hk]
    exact ⟨h1.trans htgt, h2.trans hskip⟩

/-- A periodic slot and REMAIN: no change without a limit, else the steps are taken from it. -/
theorem State.fired_remain {s : State} {k r : Nat} (n : Nat) (h : s.rb (Addr.ptbSlotCtl k) 4 = true)
    (hr : r = s.rf (Addr.ptbSlotCtl k) 55 40) :
    (k ∈ s.noLimit → (s.fired k n).rd (Addr.ptbSlotCtl k) = s.rd (Addr.ptbSlotCtl k) ∧
      (s.fired k n).rb (Addr.ptbSlotStat k) 32 = s.rb (Addr.ptbSlotStat k) 32) ∧
    (k ∉ s.noLimit → (s.fired k n).rf (Addr.ptbSlotCtl k) 55 40 = r - n ∧
      (r ≤ n → (s.fired k n).rb (Addr.ptbSlotStat k) 32 = false ∧ (s.fired k n).rb (Addr.ptbSlotStat k) 34 = true) ∧
      (n < r → (s.fired k n).rb (Addr.ptbSlotStat k) 32 = s.rb (Addr.ptbSlotStat k) 32)) := by
  obtain ⟨hstat, -, hctl⟩ := s.stepped_regs k n
  have harmed : (s.stepped k n).rb (Addr.ptbSlotStat k) 32 = s.rb (Addr.ptbSlotStat k) 32 := by
    rw [State.rb, hstat]
    exact bit_satFld_other _ _ (by decide) (by decide) (by decide)
  have hremain : (s.stepped k n).rf (Addr.ptbSlotCtl k) 55 40 = r := by rw [State.rf, hctl, hr]; rfl
  constructor <;> intro hk
  · rw [State.fired_unlimited n h hk]
    exact ⟨hctl, harmed⟩
  · have hpay := (s.stepped k n).payRemain_slot k n
    rw [hremain, harmed] at hpay
    rw [State.fired_limited n h hk]
    exact hpay

/-! ## Crossings (R54, R58) -/

/-- The targets that a movement up crosses, once it crosses the first. -/
theorem lt_crossed_up {old new t step : Int} (i : Nat) (hm : old < new) (hs : 0 < step) :
    i < crossed old new t step ↔ (t + i * step) / 65536 ≤ new := by
  have hcount : crossed old new t step = ((new * 65536 + 65535 - t) / step + 1).toNat := by
    simp only [crossed, if_pos hm, if_neg hs.ne', if_pos hs]
  rw [hcount, Int.lt_toNat, Int.lt_add_one_iff, Int.le_ediv_iff_mul_le hs]
  omega

/-- The targets that a movement down crosses, once it crosses the first. -/
theorem lt_crossed_down {old new t step : Int} (i : Nat) (hm : new < old) (hs : step < 0) :
    i < crossed old new t step ↔ new ≤ (t + i * step) / 65536 := by
  have hcount : crossed old new t step = ((t - new * 65536) / (-step) + 1).toNat := by
    simp only [crossed, if_neg (not_lt.mpr hm.le), if_neg hs.ne, if_neg (not_lt.mpr hs.le)]
  rw [hcount, Int.lt_toNat, Int.lt_add_one_iff, Int.le_ediv_iff_mul_le (by omega : (0 : Int) < -step), mul_neg]
  omega

theorem crosses_eq (old new t : Int) :
    crosses 1 old new t = decide (old < t ∧ t ≤ new) ∧ crosses 2 old new t = decide (t < old ∧ new ≤ t) ∧
    crosses 3 old new t = decide ((old < t ∧ t ≤ new) ∨ (t < old ∧ new ≤ t)) ∧ crosses 0 old new t = false := by
  have h1 : Nat.testBit 1 0 = true ∧ Nat.testBit 1 1 = false ∧ Nat.testBit 2 0 = false ∧ Nat.testBit 2 1 = true ∧
      Nat.testBit 3 0 = true ∧ Nat.testBit 3 1 = true := by decide
  simp [crosses, h1]

/-! ## Arming and disarming (R55, R61, R88) -/

theorem bit_eq_fld (v : W64) (i : Nat) : bit v i = decide (fld v i i = 1) := by
  have hlt : fld v i i < 2 := by simpa using fld_lt v i i
  have hbit : (fld v i i).testBit 0 = bit v i := by rw [testBit_fld]; simp [bit]
  rw [← hbit, Nat.testBit_zero, Nat.mod_eq_of_lt hlt]

/-- The bits of a word that a mask selects, over those of another. -/
def overlay (m old v : W64) : W64 := (old &&& ~~~m) ||| (v &&& m)

theorem getLsbD_overlay (m old v : W64) {i : Nat} (h : m.getLsbD i = true) : (overlay m old v).getLsbD i = v.getLsbD i := by
  have hi : i < 64 := BitVec.lt_of_getLsbD h
  simp only [overlay, BitVec.getLsbD_or, BitVec.getLsbD_and, BitVec.getLsbD_not, h, hi, Bool.not_true, Bool.and_false, Bool.and_true,
    Bool.false_or]

/-- A field that the mask selects as a whole. -/
theorem fld_overlay (m old v : W64) {hi lo : Nat} (h : ∀ i, lo ≤ i → i ≤ hi → m.getLsbD i = true) :
    fld (overlay m old v) hi lo = fld v hi lo := by
  apply Nat.eq_of_testBit_eq
  intro j
  rw [testBit_fld, testBit_fld]
  by_cases hj : j < hi + 1 - lo
  · rw [getLsbD_overlay m old v (h _ (by omega) (by omega))]
  · simp [hj]

/-- The bits of PTB_SLOTs_CTL that a program's write sets: OWNER is the supervisor program's (R53). -/
def slotMask (src : Src) : W64 := if isSup src then 0x07FFFFFFFF0003FD else 0x00FFFFFFFF0003FD

theorem slotMask_fields (src : Src) :
    (∀ i, 2 ≤ i → i ≤ 9 → (slotMask src).getLsbD i = true) ∧ (∀ i, 24 ≤ i → i ≤ 55 → (slotMask src).getLsbD i = true) ∧
    (slotMask src).getLsbD 0 = true := by
  have hmask : slotMask src = 0x07FFFFFFFF0003FD ∨ slotMask src = 0x00FFFFFFFF0003FD := by
    unfold slotMask; split <;> simp
  have bounded : ∀ m : W64, m = 0x07FFFFFFFF0003FD ∨ m = 0x00FFFFFFFF0003FD →
      (∀ i, i ≤ 9 → 2 ≤ i → m.getLsbD i = true) ∧ (∀ i, i ≤ 55 → 24 ≤ i → m.getLsbD i = true) ∧ m.getLsbD 0 = true := by
    rintro m (rfl | rfl) <;> decide
  obtain ⟨h1, h2, h3⟩ := bounded _ hmask
  exact ⟨fun i hlo hhi => h1 i hhi hlo, fun i hlo hhi => h2 i hhi hlo, h3⟩

/-- A program: the supervisor program or the program of a partition that exists. -/
def isProgram (src : Src) : Prop := src = .sup ∨ ∃ p, src = .part p ∧ 1 ≤ p ∧ p ≤ 4

theorem mayWrite_slotCtl {src : Src} (h : isProgram src) (s : State) (k : Nat) :
    s.mayWrite src .ptbSlotCtl k = mayOwn src (ownerOf (s.rf (Addr.ptbSlotCtl k) 58 56)) := by
  rcases h with rfl | ⟨p, rfl, hp, -⟩
  · rfl
  · show (ownerOf (s.rf (Addr.ptbSlotCtl k) 58 56) == p) = (p == ownerOf _ && ownerOf _ != 0)
    rw [Bool.eq_iff_iff]
    simp only [Bool.and_eq_true, beq_iff_eq, bne_iff_ne]
    omega

/-- A program's write of PTB_SLOTs_CTL: ignored from one that does not own the slot. -/
theorem busWrite_slotCtl {s : State} {src : Src} {k : Nat} (v : W64) (hsrc : isProgram src) (hk : k < 64) (hon : s.pmu.on = true)
    (hptb : s.ptbOn = true) : busWrite src (decide (k < 64)) (Addr.ptbSlotCtl k) v s =
      .next (if mayOwn src (ownerOf (s.rf (Addr.ptbSlotCtl k) 58 56)) then s.slotCtl src k v 0xFF else s) := by
  have hlive : s.regLive (Addr.ptbSlotCtl k) = true := (s.regLive_ptb (by unfold Addr.ptbSlotCtl; omega)).trans hptb
  have hok : okSrc src = true ∧ s.reaches src = true := by
    rcases hsrc with rfl | ⟨p, rfl, hp, hp4⟩
    · exact ⟨rfl, rfl⟩
    · exact ⟨by simp [okSrc, hp, hp4], rfl⟩
  have hmay := mayWrite_slotCtl hsrc s k
  rw [decide_eq_true hk, busWrite_reaching _ _ hok.1 hok.2]
  congr 1
  split
  · rename_i hown
    exact State.regWrite_permitted hon (locate_ptbSlotCtl k hk) hlive (hmay.trans hown)
  · rename_i hown
    exact State.regWrite_forbidden hon (locate_ptbSlotCtl k hk) hlive (hmay.trans (Bool.eq_false_iff.mpr hown))

/-- The slot with its control word written. -/
def State.withSlotCtl (s : State) (src : Src) (k : Nat) (v : W64) : State :=
  s.wr (Addr.ptbSlotCtl k) (overlay (slotMask src) (s.rd (Addr.ptbSlotCtl k)) v)

/-- The owner's write of all bytes of PTB_SLOTs_CTL arms or disarms. -/
theorem State.slotCtl_owner {s : State} {src : Src} {k : Nat} (v : W64)
    (hown : mayOwn src (ownerOf (s.rf (Addr.ptbSlotCtl k) 58 56)) = true) :
    s.slotCtl src k v 0xFF = if bit v 0 then (s.withSlotCtl src k v).arm k else (s.withSlotCtl src k v).disarm k := by
  have hall : byteMask 0xFF = BitVec.allOnes 64 := by decide
  have hown' : mayOwn src (ownerOf (fld (s.rd (Addr.ptbSlotCtl k)) 58 56)) = true := hown
  unfold State.slotCtl
  simp only [hall, hown', BitVec.allOnes_and, Bool.not_true, Bool.false_eq_true, if_false]
  rfl

theorem State.arm_reserved {s : State} {k : Nat} (h : fld (s.rd (Addr.ptbSlotCtl k)) 3 2 = 0) :
    s.arm k = (s.disarm k).wb (Addr.ptbSlotStat k) 35 true := if_pos h

/-- A slot armed afresh, before it is looked at whether it is late. -/
def State.armed (s : State) (k : Nat) : State :=
  let t := (s.wf (Addr.ptbSlotStat k) 31 0 0).wb (Addr.ptbSlotStat k) 32 true
  let others := s.noLimit.filter (· != k)
  { t with noLimit := if fld (s.rd (Addr.ptbSlotCtl k)) 55 40 = 0 then others ++ [k] else others }

theorem State.armed_frame {s t : State} (k : Nat) (h : s.RegsOnly t) :
    t.armed k = { s with regs := (t.armed k).regs, noLimit := (t.armed k).noLimit } := by
  have harmed : t.armed k = { t with regs := (t.armed k).regs, noLimit := (t.armed k).noLimit } := rfl
  unfold State.RegsOnly at h
  rw [harmed, h]

theorem State.rd_armed (s : State) {k off : Nat} (h : off ≠ Addr.ptbSlotStat k) : (s.armed k).rd off = s.rd off := by
  show ((s.wf (Addr.ptbSlotStat k) 31 0 0).wb (Addr.ptbSlotStat k) 32 true).rd off = s.rd off
  rw [State.rd_wb_other _ _ _ h, State.rd_wf_other _ _ _ _ h]

theorem State.armed_stat (s : State) (k : Nat) :
    (s.armed k).rb (Addr.ptbSlotStat k) 32 = true ∧ (s.armed k).rf (Addr.ptbSlotStat k) 31 0 = 0 := by
  have h : (s.armed k).rd (Addr.ptbSlotStat k) = setBit (setFld (s.rd (Addr.ptbSlotStat k)) 31 0 0) 32 true := by
    show ((s.wf (Addr.ptbSlotStat k) 31 0 0).wb (Addr.ptbSlotStat k) 32 true).rd (Addr.ptbSlotStat k) = _
    simp
  simp [State.rb, State.rf, h, fld_setBit_other, fld_setFld_same]

theorem State.mem_armed_noLimit (s : State) (k : Nat) : k ∈ (s.armed k).noLimit ↔ fld (s.rd (Addr.ptbSlotCtl k)) 55 40 = 0 := by
  show k ∈ (if _ then _ else _ : List Nat) ↔ _
  split <;> simp [*]

theorem ite_bnot {α : Type} (b : Bool) (x y : α) : (if (!b) = true then x else y) = if b = true then y else x := by
  cases b <;> rfl

theorem ptbAxCnt_ne_slotCtl (n k : Nat) : Addr.ptbAxCnt n ≠ Addr.ptbSlotCtl k := by
  unfold Addr.ptbAxCnt Addr.ptbSlotCtl
  omega

theorem ptbAxCnt_ne_slotStat (n k : Nat) : Addr.ptbAxCnt n ≠ Addr.ptbSlotStat k := by
  unfold Addr.ptbAxCnt Addr.ptbSlotStat
  omega

theorem State.slotLate_congr {s t : State} {k : Nat} {c d : W64} (htgt : t.rd (Addr.ptbSlotTgt k) = s.rd (Addr.ptbSlotTgt k))
    (hcnt : t.cnt (fld d 9 8) = s.cnt (fld d 9 8)) (hax : fld c 9 8 = fld d 9 8) (hq : fld c 3 2 = fld d 3 2) :
    t.slotLate k c = s.slotLate k d := by
  unfold State.slotLate
  rw [htgt, hax, hcnt, hq]

/-- Arming with a qualifier: a late arming sets LATE, and with LATEFIRE fires (R55). -/
theorem State.arm_qualified {s : State} {k : Nat} {c : W64} (hc : c = s.rd (Addr.ptbSlotCtl k)) (hq : fld c 3 2 ≠ 0) :
    s.arm k = if s.slotLate k c then
      (if bit c 5 then ((s.armed k).wb (Addr.ptbSlotStat k) 33 true).slotFire k 1 else (s.armed k).wb (Addr.ptbSlotStat k) 33 true)
      else s.armed k := by
  subst hc
  have hcases : fld (s.rd (Addr.ptbSlotCtl k)) 3 2 = 1 ∨ fld (s.rd (Addr.ptbSlotCtl k)) 3 2 = 2 ∨ fld (s.rd (Addr.ptbSlotCtl k)) 3 2 = 3 := by
    have hlt : fld (s.rd (Addr.ptbSlotCtl k)) 3 2 < 4 := fld_lt _ 3 2
    omega
  have hlate : (s.armed k).slotLate k (s.rd (Addr.ptbSlotCtl k)) = s.slotLate k (s.rd (Addr.ptbSlotCtl k)) :=
    State.slotLate_congr (s.rd_armed (slotTgt_ne_stat k)) (State.cnt_of_rd (s.rd_armed (ptbAxCnt_ne_slotStat _ k))) rfl rfl
  rw [← hlate]
  unfold State.arm State.slotLate
  rcases hcases with h | h | h <;> simp only [h] <;> exact ite_bnot _ _ _

/-- The control word that an owner's write leaves: its qualifier, axis, kind and counts are those written. -/
theorem State.withSlotCtl_fields (s : State) (src : Src) (k : Nat) (v : W64) :
    (∀ hi lo, 2 ≤ lo → hi ≤ 9 → (s.withSlotCtl src k v).rf (Addr.ptbSlotCtl k) hi lo = fld v hi lo) ∧
    (∀ hi lo, 24 ≤ lo → hi ≤ 55 → (s.withSlotCtl src k v).rf (Addr.ptbSlotCtl k) hi lo = fld v hi lo) ∧
    (s.withSlotCtl src k v).rb (Addr.ptbSlotCtl k) 0 = bit v 0 := by
  obtain ⟨hlow, hhigh, harm⟩ := slotMask_fields src
  simp only [State.rf, State.rb, State.withSlotCtl, State.rd_wr_same]
  exact ⟨fun hi lo h1 h2 => fld_overlay _ _ _ fun i h3 h4 => hlow i (by omega) (by omega),
    fun hi lo h1 h2 => fld_overlay _ _ _ fun i h3 h4 => hhigh i (by omega) (by omega), getLsbD_overlay _ _ _ harm⟩

end Sys2Proof.Machine

open Sys2Proof Sys2Proof.Machine

/-- Settles O27: the slot's registers by its kind (one-shot, periodic without a limit, periodic with one); the crossings by the
direction of the movement. -/
theorem slotFires : Obligations.SlotFires := by
  unfold Obligations.SlotFires
  constructor
  · rintro s k n r - - rfl
    let c := s.sat (Addr.ptbSlotStat k) 15 0 1
    have hctl : c.rd (Addr.ptbSlotCtl k) = s.rd (Addr.ptbSlotCtl k) := State.rd_sat_other s _ _ _ (slotCtl_ne_stat k)
    have htgt : c.rd (Addr.ptbSlotTgt k) = s.rd (Addr.ptbSlotTgt k) := State.rd_sat_other s _ _ _ (slotTgt_ne_stat k)
    have hstep : c.rd (Addr.ptbSlotStep k) = s.rd (Addr.ptbSlotStep k) := State.rd_sat_other s _ _ _ (slotStep_ne_stat k)
    have hstat : c.rd (Addr.ptbSlotStat k) = satFld (s.rd (Addr.ptbSlotStat k)) 15 0 1 := State.rd_sat_same s _ _ _ _
    have hcount : c.rf (Addr.ptbSlotStat k) 15 0 = min (s.rf (Addr.ptbSlotStat k) 15 0 + 1) 65535 := by
      rw [State.rf, hstat]; exact fld_satFld_same _ 1 (by decide) (by decide)
    have hskip : c.rf (Addr.ptbSlotStat k) 31 16 = s.rf (Addr.ptbSlotStat k) 31 16 := by
      rw [State.rf, hstat]; exact fld_satFld_other _ 1 (by decide) (by decide) (by decide)
    have harmed : c.rb (Addr.ptbSlotStat k) 32 = s.rb (Addr.ptbSlotStat k) 32 := by
      rw [State.rb, hstat]; exact bit_satFld_other _ 1 (by decide) (by decide) (by decide)
    have hkind : c.rb (Addr.ptbSlotCtl k) 4 = s.rb (Addr.ptbSlotCtl k) 4 := by rw [State.rb, hctl]; rfl
    have hr : s.rf (Addr.ptbSlotCtl k) 55 40 = c.rf (Addr.ptbSlotCtl k) 55 40 := by rw [State.rf, State.rf, hctl]
    refine ⟨c.fired k n, State.slotFire_eq s k n, (s.regsOnly_sat _ _ _ _).trans (c.regsOnly_fired k n), (c.fired_count k n).trans hcount, fun h => ?_, fun h => ?_⟩
    · rw [State.fired_oneShot n (hkind.trans h)]
      obtain ⟨hdis, hctl0⟩ := c.disarm_slot k
      exact ⟨hdis, hctl0, (c.rd_disarm (slotTgt_ne_ctl k) (slotTgt_ne_stat k)).trans htgt⟩
    · have htarget := State.fired_target n (hkind.trans h)
      have hremain := State.fired_remain n (hkind.trans h) hr
      rw [htgt, hstep, hskip] at htarget
      rw [hctl, harmed] at hremain
      exact ⟨htarget.1, htarget.2, hremain.1, hremain.2⟩
  · intro old new t step i
    exact ⟨fun hm hs _ _ => lt_crossed_up i hm hs, fun hm hs _ _ => lt_crossed_down i hm hs, crosses_eq old new t⟩

/-- Settles O28: a write of the control word by a program that owns the slot, by the qualifier and by whether the arming is late. -/
theorem slotArming : Obligations.SlotArming := by
  unfold Obligations.SlotArming
  rintro s src k c v q hk hon hptb hsrc rfl
  have harm : exec (.slotArm src k v) s = _ := busWrite_slotCtl (setBit v 0 true) hsrc hk hon hptb
  have hdisarm : exec (.slotDisarm src k v) s = _ := busWrite_slotCtl (setBit v 0 false) hsrc hk hon hptb
  refine ⟨fun h => ?_, fun h => ?_, fun h hq => ?_, ?_⟩
  · rw [harm, hdisarm, h]
    exact ⟨rfl, rfl⟩
  · rw [hdisarm, if_pos h, State.slotCtl_owner _ h, bit_setBit_same _ _ (by decide)]
    obtain ⟨hstat, hctl⟩ := (s.withSlotCtl src k (setBit v 0 false)).disarm_slot k
    exact ⟨_, rfl, (s.regsOnly_wr _ _).trans (State.regsOnly_disarm _ k), hctl, hstat⟩
  · obtain ⟨hlow, -, -⟩ := s.withSlotCtl_fields src k (setBit v 0 true)
    have hq' : (s.withSlotCtl src k (setBit v 0 true)).rf (Addr.ptbSlotCtl k) 3 2 = 0 := by
      rw [hlow 3 2 (by decide) (by decide), fld_setBit_other _ _ (by decide) (by decide), hq]
    rw [harm, if_pos h, State.slotCtl_owner _ h, bit_setBit_same _ _ (by decide), if_pos rfl, State.arm_reserved hq']
    refine ⟨_, rfl, ((s.regsOnly_wr _ _).trans (State.regsOnly_disarm _ k)).trans (State.regsOnly_wb _ _ _ _), ?_, ?_⟩
    · simp [State.rb, State.stat_disarm, bit_setBit_other]
    · simp [State.rb]
  · rintro h hq rfl
    let t := s.withSlotCtl src k (setBit v 0 true)
    obtain ⟨hlow, hhigh, hbit⟩ := s.withSlotCtl_fields src k (setBit v 0 true)
    have hfld : ∀ hi lo, 2 ≤ lo → fld (setBit v 0 true) hi lo = fld v hi lo := fun hi lo hlo =>
      fld_setBit_other v true (by decide) (by omega)
    have hctl : (t.armed k).rd (Addr.ptbSlotCtl k) = t.rd (Addr.ptbSlotCtl k) := t.rd_armed (slotCtl_ne_stat k)
    have hlate : t.slotLate k (t.rd (Addr.ptbSlotCtl k)) = s.slotLate k (setBit v 0 true) :=
      State.slotLate_congr (s.rd_wr_other _ (slotTgt_ne_ctl k)) (State.cnt_of_rd (s.rd_wr_other _ (ptbAxCnt_ne_slotCtl _ k)))
        (hlow 9 8 (by decide) (by decide)) (hlow 3 2 (by decide) (by decide))
    have hfire : bit (t.rd (Addr.ptbSlotCtl k)) 5 = decide (fld v 5 5 = 1) := by
      rw [bit_eq_fld, ← hfld 5 5 (by decide), ← hlow 5 5 (by decide) (by decide)]; rfl
    have hq' : fld (t.rd (Addr.ptbSlotCtl k)) 3 2 ≠ 0 := fun h0 =>
      hq ((hfld 3 2 (by decide)).symm.trans ((hlow 3 2 (by decide) (by decide)).symm.trans h0))
    have hexec : exec (.slotArm src k v) s = .next (t.arm k) := by
      rw [harm, if_pos h, State.slotCtl_owner _ h, bit_setBit_same _ _ (by decide), if_pos rfl]
    rw [hexec, State.arm_qualified rfl hq', hlate, hfire]
    obtain ⟨harmed, hzero⟩ := t.armed_stat k
    have hwritten : s.RegsOnly t := s.regsOnly_wr _ _
    refine ⟨t.armed k, State.armed_frame k hwritten, harmed, hzero, ?_, ?_, ?_, ?_, fun h => ?_, fun h => ?_⟩
    · rw [State.rb, hctl]; exact hbit.trans (bit_setBit_same v true (by decide))
    · rw [State.rf, hctl]; exact (hlow 9 2 (by decide) (by decide)).trans (hfld 9 2 (by decide))
    · rw [State.rf, hctl]; exact (hhigh 55 24 (by decide) (by decide)).trans (hfld 55 24 (by decide))
    · rw [State.mem_armed_noLimit, ← hfld 55 40 (by decide), ← hhigh 55 40 (by decide) (by decide)]; rfl
    · simp [h]
    · simp [h]

end

section
/-! The outputs: their pulses start and end when their instants have come; a fire makes one pulse a sample (R64 to R69). -/

namespace Sys2Proof.Machine

open Sys2Proof

/-- A fire record changes the camera it goes to and the count of those unmatched. -/
theorem State.pushFire_eq (s : State) (k : Nat) (cnts : List Cnt) (lost : List Bool) (time slot : Nat) :
    ∃ c r, s.pushFire k cnts lost time slot = { s with cams := c, regs := r } := by
  unfold State.pushFire
  dsimp only
  split <;> exact ⟨_, _, rfl⟩

theorem State.pushFires_eq (s : State) (l : List Nat) (p : Pulse) :
    ∃ c r, l.foldl (fun s k => State.pushFire s k p.cnts p.lost p.fire p.slot) s = { s with cams := c, regs := r } := by
  induction l generalizing s with
  | nil => exact ⟨s.cams, s.regs, rfl⟩
  | cons k l ih =>
    obtain ⟨c, r, h⟩ := s.pushFire_eq k p.cnts p.lost p.fire p.slot
    obtain ⟨c', r', h'⟩ := ih (s.pushFire k p.cnts p.lost p.fire p.slot)
    exact ⟨c', r', by rw [List.foldl_cons, h', h]⟩

/-- The output whose next pulse starts. -/
def State.started (s : State) (o : Nat) (p : Pulse) (q : List Pulse) : State :=
  s.setOut o { s.out o with q := q, run := some p }

theorem State.pulseStart_due {s : State} {o : Nat} {p : Pulse} {q : List Pulse} (hq : (s.out o).q = p :: q) (hrun : (s.out o).run = none)
    (h : p.start < 5 * s.time + 5) : s.pulseStart o =
      (s.stamped o).foldl (fun s k => State.pushFire s k p.cnts p.lost p.fire p.slot) (s.started o p q) := by
  unfold State.pulseStart
  dsimp only
  rw [hq, hrun]
  exact if_pos h

theorem State.pulseStart_early {s : State} {o : Nat} {p : Pulse} {q : List Pulse} (hq : (s.out o).q = p :: q)
    (hrun : (s.out o).run = none) (h : 5 * s.time + 5 ≤ p.start) : s.pulseStart o = s := by
  unfold State.pulseStart
  dsimp only
  rw [hq, hrun]
  exact if_neg (by omega)

theorem State.pulseEnd_due {s : State} {o : Nat} {p : Pulse} (hrun : (s.out o).run = some p) (h : p.stop < 5 * s.time + 5) :
    s.pulseEnd o = s.setOut o { s.out o with run := none } := by
  unfold State.pulseEnd
  dsimp only
  rw [hrun]
  exact if_pos h

theorem State.pulseEnd_early {s : State} {o : Nat} {p : Pulse} (hrun : (s.out o).run = some p) (h : 5 * s.time + 5 ≤ p.stop) :
    s.pulseEnd o = s := by
  unfold State.pulseEnd
  dsimp only
  rw [hrun]
  exact if_neg (by omega)

/-- The start of a pulse: the first eight outputs are TRIG, the last four MARK. -/
theorem exec_pulseStart {s : State} {o : Nat} (ho : o < 12) (hon : s.ptbOn = true) :
    exec (if o < 8 then .trigPulseStart o else .markPulseStart (o - 8)) s = .next (s.pulseStart o) := by
  split
  · rename_i h
    exact (if_pos h).trans (congrArg _ (if_pos hon))
  · have hmark : exec (.markPulseStart (o - 8)) s = .next (s.pulseStart (8 + (o - 8))) :=
      (if_pos (by omega)).trans (congrArg _ (if_pos hon))
    rw [hmark, Nat.add_sub_cancel' (by omega)]

theorem exec_pulseEnd {s : State} {o : Nat} (ho : o < 12) (hon : s.ptbOn = true) :
    exec (if o < 8 then .trigPulseEnd o else .markPulseEnd (o - 8)) s = .next (s.pulseEnd o) := by
  split
  · rename_i h
    exact (if_pos h).trans (congrArg _ (if_pos hon))
  · have hmark : exec (.markPulseEnd (o - 8)) s = .next (s.pulseEnd (8 + (o - 8))) :=
      (if_pos (by omega)).trans (congrArg _ (if_pos hon))
    rw [hmark, Nat.add_sub_cancel' (by omega)]

/-! ## A fire that reaches an output (R64 to R69) -/

theorem State.outFire_ignored {s : State} {o : Nat} (slot : Nat)
    (h : s.rb (Addr.ptbOutCfg o) 32 = false ∨ (s.out o).lastFire = some s.time) : s.outFire o slot = s :=
  if_pos (h.imp_left fun h => by simp [h])

@[simp] theorem State.setOut_setOut (s : State) (o : Nat) (x y : OutX) : (s.setOut o x).setOut o y = s.setOut o y := by
  simp [State.setOut]

theorem State.outFire_idle {s : State} {o : Nat} (slot : Nat) (hen : s.rb (Addr.ptbOutCfg o) 32 = true)
    (hlast : (s.out o).lastFire ≠ some s.time) (hq : (s.out o).q = []) (hrun : (s.out o).run = none) :
    s.outFire o slot = s.setOut o { s.out o with
      q := [⟨s.pulseAt o, s.pulseAt o + s.pulseLen o, s.time, slot, s.cnts, s.losts⟩], lastFire := some s.time } := by
  unfold State.outFire
  rw [if_neg (by simp [hen, hlast])]
  dsimp only
  rw [hq, hrun]
  exact (if_neg (by simp)).trans (State.setOut_setOut s o _ _)

theorem State.outFire_full {s : State} {o : Nat} (slot : Nat) (hen : s.rb (Addr.ptbOutCfg o) 32 = true)
    (hlast : (s.out o).lastFire ≠ some s.time) (hq : 16 ≤ (s.out o).q.length) :
    s.outFire o slot = (s.setOut o { s.out o with lastFire := some s.time }).sat (Addr.ptbOutStat o) 15 0 1 := by
  unfold State.outFire
  rw [if_neg (by simp [hen, hlast])]
  exact if_pos (Or.inr hq)

theorem State.pulseLen_eq (s : State) (o : Nat) : s.pulseLen o =
    max 1 (s.rf (Addr.ptbOutCfg o) 31 16) * (if 8 ≤ o ∧ s.rb (Addr.ptbOutCfg o) 34 = true then 2000 else 4) := by
  unfold State.pulseLen
  dsimp only
  split <;> rfl

end Sys2Proof.Machine

open Sys2Proof Sys2Proof.Machine

/-- Settles O29: a due start takes the first pending pulse and its records follow; a fire by the room that the output has. -/
theorem outputPulses : Obligations.OutputPulses := by
  unfold Obligations.OutputPulses
  constructor
  · rintro s o p q ho hon start stop rfl rfl
    simp only [exec_pulseStart ho hon, exec_pulseEnd ho hon, Host.Outcome.next.injEq]
    refine ⟨fun hq hrun hdue => ?_, State.pulseStart_early, State.pulseEnd_due, State.pulseEnd_early⟩
    obtain ⟨c, r, h⟩ := State.pushFires_eq (s.started o p q) (s.stamped o) p
    have hstart := State.pulseStart_due hq hrun hdue
    refine ⟨_, hstart.trans h, State.out_setOut_same s o _, fun k hk => State.out_setOut_other s _ hk, rfl, fun hnone => ?_⟩
    rw [hnone] at h
    exact ⟨(congrArg State.cams h).symm, (congrArg State.regs h).symm⟩
  · intro s o slot _
    refine ⟨fun h => State.outFire_ignored slot (.inl h), fun h => State.outFire_ignored slot (.inr h), ?_,
      fun hen hlast hq => State.outFire_full slot hen hlast hq⟩
    rintro hen hlast hq hrun start len rfl rfl
    rw [State.outFire_idle slot hen hlast hq hrun, State.pulseLen_eq]
    rfl

end

section
/-! Follower axes, the stopped flag, the link latency and the velocity estimate (R48, R51, R75, R79, R81). -/

namespace Sys2Proof.Machine

open Sys2Proof

/-! ## Followers (R79, R81) -/

/-- Follower axis n with one step taken from its phase in this tick. -/
def State.phaseStep (s : State) (n : Nat) : AxisX :=
  { s.axis n with phase := (s.axis n).phase - stepPhase, stepAt := some s.time }

theorem State.phaseStep_eq (s : State) (n : Nat) :
    s.phaseStep n = { s.axis n with phase := (s.axis n).phase - 26214400, stepAt := some s.time } := by
  unfold State.phaseStep stepPhase
  rfl

theorem State.stepDue_iff (s : State) (n : Nat) : s.stepDue n = true ↔
    s.ptbOn = true ∧ s.follows n = true ∧ s.axLost n = false ∧ stepPhase ≤ (s.axis n).phase ∧ (s.axis n).stepAt ≠ some s.time := by
  simp [State.stepDue, and_assoc]

theorem exec_followerStep_idle {s : State} {n : Nat} (hn : n < 4) (h : s.stepDue n = false) : exec (.followerStep n) s = .next s :=
  (if_pos hn).trans (congrArg _ (if_pos (by simp [h])))

theorem exec_followerStep_due {s : State} {n : Nat} (hn : n < 4) (h : s.stepDue n = true) : exec (.followerStep n) s =
    .next (if 0 < (s.axis n).hold then s.setAxis n { s.phaseStep n with hold := (s.axis n).hold - 1 }
      else (s.setAxis n (s.phaseStep n)).count n (decide ((s.axis n).pv < 0))) :=
  (if_pos hn).trans (congrArg _ (if_neg (by simp [h])))

theorem State.bcastIntv_eq (s : State) : s.bcastIntv = 4000 * max 1 (min 100 (s.rf Addr.ptbBcastCfg 15 8)) := by
  unfold State.bcastIntv usTicks
  omega

/-- A follower that has lost its packets, before the threads that wait on it go on. -/
def State.lose (s : State) (n : Nat) : State :=
  (((((s.setAxis n { s.axis n with applied := 0, pv := 0, phase := 0, hold := 0 }).wb (Addr.ptbAxStat n) 7 true).wr
    (Addr.ptbAxVel n) 0).record (report 16 .signal n 0)).noteHist)

theorem exec_followerLost_due {s : State} {n : Nat} (hn : n < 4) (h : s.lostDue n = true) :
    exec (.followerLost n) s = .next ((s.lose n).wakePos n) :=
  (if_pos hn).trans (congrArg _ (if_neg (by simp [h])))

theorem State.rd_lose (s : State) {n off : Nat} (hn : n < 4) (h : off < 0x200040 + n * 0x40) :
    (s.lose n).rd off = ((s.wb (Addr.ptbAxStat n) 7 true).wr (Addr.ptbAxVel n) 0).rd off :=
  State.rd_record _ _ (ptbAx_not_recordRegs hn h)

theorem State.lose_same (s : State) {n : Nat} (hn : n < 4) : (s.lose n).cnt n = s.cnt n ∧
    (s.lose n).rb (Addr.ptbAxStat n) 7 = true ∧ (s.lose n).rd (Addr.ptbAxVel n) = 0 ∧ ((s.lose n).axis n).applied = 0 := by
  have hsv : Addr.ptbAxStat n ≠ Addr.ptbAxVel n := by simp [Addr.ptbAxStat, Addr.ptbAxVel]
  have hcv : Addr.ptbAxCnt n ≠ Addr.ptbAxVel n := by simp [Addr.ptbAxCnt, Addr.ptbAxVel]
  have hcs : Addr.ptbAxCnt n ≠ Addr.ptbAxStat n := by simp [Addr.ptbAxCnt, Addr.ptbAxStat]
  refine ⟨State.cnt_of_rd ?_, ?_, ?_, ?_⟩
  · rw [s.rd_lose hn (by unfold Addr.ptbAxCnt; omega), State.rd_wr_other _ _ hcv, State.rd_wb_other _ _ _ hcs]
  · rw [State.rb, s.rd_lose hn (by unfold Addr.ptbAxStat; omega), State.rd_wr_other _ _ hsv, State.rd_wb_same,
      bit_setBit_same _ _ (by decide)]
  · rw [s.rd_lose hn (by unfold Addr.ptbAxVel; omega), State.rd_wr_same]
  · have haxes : (s.lose n).axes = (s.setAxis n { s.axis n with applied := 0, pv := 0, phase := 0, hold := 0 }).axes :=
      State.record_axes _ _
    rw [State.axis, haxes]
    exact congrArg AxisX.applied (State.axis_setAxis_same s n _)

/-! ## The stopped flag and the link latency (R48, R75) -/

theorem exec_axisStopped_due {s : State} {n : Nat} (hn : n < 4) (hon : s.ptbOn = true)
    (h : (s.axis n).last + 400 * max 1 (s.rf (Addr.ptbAxVcfg n) 31 16) ≤ s.time) :
    exec (.axisStopped n) s = .next (s.wb (Addr.ptbAxStat n) 1 true) :=
  (if_pos hn).trans (congrArg _ (if_pos ⟨hon, by unfold usTicks; omega⟩))

theorem State.latDue_iff (s : State) (q : Nat) : s.latDue q = true ↔ s.ptbOn = true ∧
    (s.rf (Addr.fabPortStat q) 2 0 = 2 ∨ s.rf (Addr.fabPortStat q) 2 0 = 3) ∧ (s.port q).latAt + usTicks 1000000 ≤ s.time := by
  simp [State.latDue, and_assoc]

theorem exec_linkLatencyMeasure {q : Nat} (hq : q < 4) (rtt res : Nat) (s : State) :
    exec (.linkLatencyMeasure q rtt res) s = .next (if s.latDue q then s.setLatency q rtt res else s) := if_pos hq

/-! ## The velocity estimate (R51, R52) -/

theorem exec_velocityUpdate (s : State) : exec .velocityUpdate s =
    .next (if s.velDue then ((List.range 4).foldl (fun (t : State) n => t.velUpdate n) { s with velN := s.time / 4000 }).evalAll else s) := rfl

theorem State.velUpdate_off {s : State} {n : Nat} (h : s.rb (Addr.ptbAxCfg n) 0 = false ∨ s.rb (Addr.ptbAxCfg n) 1 = true) :
    s.velUpdate n = s := by
  unfold State.rb at h
  unfold State.velUpdate
  exact if_pos (by rcases h with h | h <;> simp [h])

/-- The samples that an update of axis n looks at, the newest first. -/
def State.samples (s : State) (n : Nat) : List Cnt := (s.cnt n :: (s.axis n).hist).take 129

/-- The estimate of an update of axis n: zero for the first two updates, then the window's count over its time, smoothed (R51). -/
def State.estimate (s : State) (n : Nat) : Int :=
  let k := (s.axis n).k + 1
  let v := s.rd (Addr.ptbAxVcfg n)
  let w := min (2 ^ fld v 2 0) k
  let raw := tdiv (((s.samples n).getD 0 0 - (s.samples n).getD w 0 : Cnt).toInt * 65536) (w * 10)
  if k ≤ 2 then 0 else if k = 3 ∨ fld v 6 4 = 0 then raw else s.vel n + ashr (raw - s.vel n) (fld v 6 4)

/-- PTB_AXn_VEL after an update: the estimate, and VALID from the third update on. -/
def State.velWord (s : State) (n : Nat) : W64 :=
  setFld (setFld 0 31 0 (BitVec.ofInt 32 (s.estimate n)).toNat) 32 32 (decide (3 ≤ (s.axis n).k + 1)).toNat

theorem State.velUpdate_eq {s : State} {n : Nat} (hen : s.rb (Addr.ptbAxCfg n) 0 = true) (hown : s.rb (Addr.ptbAxCfg n) 1 = false) :
    s.velUpdate n = (s.setAxis n { s.axis n with k := (s.axis n).k + 1, hist := s.samples n }).wr (Addr.ptbAxVel n)
      (s.velWord n) := by
  unfold State.rb at hen hown
  unfold State.velUpdate
  exact if_neg (by simp [hen, hown])

theorem State.rd_velUpdate (s : State) {n off : Nat} (h : off ≠ Addr.ptbAxVel n) : (s.velUpdate n).rd off = s.rd off := by
  unfold State.velUpdate
  dsimp only
  split
  · rfl
  · exact State.rd_wr_other _ _ h

/-- What PTB_AXn_VEL shows of an estimate: its low 32 bits and VALID. -/
theorem State.vel_of_rd {s : State} {n : Nat} {e : Int} {b : Bool}
    (h : s.rd (Addr.ptbAxVel n) = setFld (setFld 0 31 0 (BitVec.ofInt 32 e).toNat) 32 32 b.toNat) :
    s.vel n = (BitVec.ofInt 32 e).toInt ∧ s.velValid n = b := by
  have hlow : s.rf (Addr.ptbAxVel n) 31 0 = (BitVec.ofInt 32 e).toNat := by
    rw [State.rf, h, fld_setFld_other _ _ _ _ _ _ (by decide) (by decide) (by decide), fld_setFld_same _ _ _ _ (by decide) (by decide)]
    exact Nat.mod_eq_of_lt (BitVec.ofInt 32 e).isLt
  constructor
  · rw [State.vel, hlow, BitVec.ofNat_toNat, BitVec.setWidth_eq]
  · rw [State.velValid, State.rb, h]
    exact bit_setBit_same _ b (by decide)

/-- The first two updates after a restart show no velocity. -/
theorem State.estimate_first {s : State} {n : Nat} (h : (s.axis n).k ≤ 1) : s.estimate n = 0 :=
  if_pos (by omega)

/-- The third update shows the raw estimate; a window of one update is the newest count less the one before it, over 10 us. -/
theorem State.estimate_third {s : State} {n : Nat} {c : Cnt} (hk : (s.axis n).k = 2) (hw : s.rf (Addr.ptbAxVcfg n) 2 0 = 0)
    (hc : (s.axis n).hist.head? = some c) : s.estimate n = Int.tdiv ((s.cnt n - c).toInt * 65536) 10 := by
  obtain ⟨t, ht⟩ := List.head?_eq_some_iff.mp hc
  have hsamples : s.samples n = s.cnt n :: c :: t.take 127 := by rw [State.samples, ht]; rfl
  have hwindow : fld (s.rd (Addr.ptbAxVcfg n)) 2 0 = 0 := hw
  unfold State.estimate
  dsimp only
  rw [hk, hwindow, hsamples]
  rfl

end Sys2Proof.Machine

open Sys2Proof Sys2Proof.Machine

/-- Settles O30: each command by whether it is due; the estimate by the number of updates since a restart. -/
theorem followersAndVelocity : Obligations.FollowersAndVelocity := by
  unfold Obligations.FollowersAndVelocity
  constructor
  · rintro s n rtt res x hn hon rfl
    refine ⟨fun hf hl hp ht hh => ?_, fun hf hl hp ht hh => ?_, fun h => ?_, fun hf hl h => ?_, fun h => ?_, fun hup h => ?_, fun h => ?_⟩
    · rw [exec_followerStep_due hn (s.stepDue_iff n |>.mpr ⟨hon, hf, hl, hp, ht⟩), if_pos hh, State.phaseStep_eq]
    · rw [exec_followerStep_due hn (s.stepDue_iff n |>.mpr ⟨hon, hf, hl, hp, ht⟩), if_neg (by omega), State.phaseStep_eq]
    · refine exec_followerStep_idle hn (Bool.eq_false_iff.mpr fun hdue => ?_)
      obtain ⟨-, -, -, hp, ht⟩ := (s.stepDue_iff n).mp hdue
      exact h.elim (fun h => absurd hp (Nat.not_le.mpr h)) ht
    · have hdue : s.lostDue n = true := by
        rw [← State.bcastIntv_eq] at h
        simp [State.lostDue, hon, hf, hl, h]
      exact ⟨s.lose n, exec_followerLost_due hn hdue, s.lose_same hn⟩
    · exact ⟨_, exec_axisStopped_due hn hon h, by simp [State.rb], rfl, fun off hoff => State.rd_wb_other s _ _ hoff⟩
    · refine ⟨s.setLatency n rtt res, ?_, ?_, rfl, fun off hoff => ?_, State.port_setPort_same s n _,
        fun q hq => State.port_setPort_other s _ hq⟩
      · rw [exec_linkLatencyMeasure hn, if_pos ((s.latDue_iff n).mpr ⟨hon, hup, h⟩)]
      · rw [State.setLatency, State.rf, State.rd_wf_same]
        exact fld_setFld_same _ 23 0 _ (by decide) (by decide)
      · exact State.rd_wf_other (s.setPort n _) _ _ _ hoff
    · rw [exec_linkLatencyMeasure hn, if_neg fun hdue => ?_]
      exact absurd ((s.latDue_iff n).mp hdue).2.2 (Nat.not_le.mpr h)
  · rintro s n x hn hon rfl
    refine ⟨?_, fun h => ?_, State.velUpdate_off, ?_⟩
    · rintro h w rfl
      rw [exec_velocityUpdate, if_pos (by simp [State.velDue, hon, h])]
      rfl
    · rw [exec_velocityUpdate, if_neg (by simp [State.velDue, h])]
    · rintro hen hown u rfl
      have hu := State.velUpdate_eq hen hown
      have haxis : (s.velUpdate n).axis n = { s.axis n with k := (s.axis n).k + 1, hist := s.samples n } := by
        rw [hu]; exact State.axis_setAxis_same s n _
      have hrd : (s.velUpdate n).rd (Addr.ptbAxVel n) = s.velWord n := by rw [hu]; exact State.rd_wr_same _ _ _
      obtain ⟨hvel, hvalid⟩ := State.vel_of_rd hrd
      refine ⟨by rw [haxis], by rw [haxis]; rfl, by rw [hu]; rfl, fun off => s.rd_velUpdate, fun m hm => ?_, fun hk => ?_, fun hk => ?_,
        fun hk hw c hc => ?_⟩
      · rw [hu]; exact State.axis_setAxis_other s _ hm
      · rw [hrd, State.velWord, State.estimate_first hk, decide_eq_false (by omega)]; rfl
      · rw [hvalid, decide_eq_true (by omega)]
      · rw [hvel, State.estimate_third hk hw hc]

end

section
/-! The ingest units as the proofs read them: cameras, rings, and the write of a register by a source that may (R802, R805). -/

namespace Sys2Proof.Machine

open Sys2Proof

/-! ## Cameras and rings -/

@[simp] theorem State.rd_setCam (s : State) (k : Nat) (x : Cam) (off : Nat) : (s.setCam k x).rd off = s.rd off := rfl

@[simp] theorem State.rd_setRing (s : State) (r : Nat) (x : Ring) (off : Nat) : (s.setRing r x).rd off = s.rd off := rfl

@[simp] theorem State.cam_setCam_same (s : State) (k : Nat) (x : Cam) : (s.setCam k x).cam k = x := Sparse.get_set_same _ _ _ _

theorem State.cam_setCam_other (s : State) {k j : Nat} (x : Cam) (h : j ≠ k) : (s.setCam k x).cam j = s.cam j :=
  Sparse.get_set_other _ _ _ h

@[simp] theorem State.setCam_setCam (s : State) (k : Nat) (x y : Cam) : (s.setCam k x).setCam k y = s.setCam k y := by
  simp [State.setCam]

@[simp] theorem State.ring_setRing_same (s : State) (r : Nat) (x : Ring) : (s.setRing r x).ring r = x := Sparse.get_set_same _ _ _ _

theorem State.ring_setRing_other (s : State) {r q : Nat} (x : Ring) (h : q ≠ r) : (s.setRing r x).ring q = s.ring q :=
  Sparse.get_set_other _ _ _ h

/-- Two states differ at most in their registers and their cameras. -/
def State.CamsOnly (s t : State) : Prop := t = { s with regs := t.regs, cams := t.cams }

theorem State.CamsOnly.trans {s t u : State} (h : s.CamsOnly t) (h' : t.CamsOnly u) : s.CamsOnly u := by
  unfold State.CamsOnly at *
  rw [h', h]

theorem State.RegsOnly.camsOnly {s t : State} (h : s.RegsOnly t) : s.CamsOnly t := by
  unfold State.RegsOnly at h
  unfold State.CamsOnly
  rw [h]

theorem State.camsOnly_setCam (s : State) (k : Nat) (x : Cam) : s.CamsOnly (s.setCam k x) := rfl

/-! ## Writes that take effect -/

theorem and_byteMask_full (v : W64) : v &&& byteMask 0xFF = v := by
  rw [show byteMask 0xFF = BitVec.allOnes 64 by decide, BitVec.and_allOnes]

/-- A register with no bit that writing 1 clears takes the written value in its writable bits (R802). -/
theorem storeReg_plain {row : RegRow} (h : row.w1c = 0) (old v : W64) : storeReg row old v 0xFF = overlay row.rw old v := by
  have hkeep : ~~~((0 : W64) &&& v) = BitVec.allOnes 64 := by simp
  simp only [storeReg, and_byteMask_full, h, hkeep, BitVec.and_allOnes, overlay]

theorem State.stored_of_locate {off : Nat} {row : RegRow} {ix : List Nat} (hloc : locate off = some (row, ix)) (s : State) (v : W64) :
    s.stored off v = storeReg row (s.rd off) v 0xFF := by
  rw [State.stored, hloc]

/-- A write that takes effect does what its register's row says. -/
theorem busWrite_takes {s : State} {src : Src} {id : RegId} {i off : Nat} {row : RegRow} {ix : List Nat} {ok : Bool} (v : W64)
    (hok : ok = true) (h : TakesWrite s src id i off) (hloc : locate off = some (row, ix)) (hid : row.id = id) (hi : ix0 ix = i) :
    busWrite src ok off v s = .next (s.regStore src row off i (ix1 ix) 0xFF v) := by
  obtain ⟨hsrc, hreach, hon, hlive, hmay⟩ := h
  subst hok hid hi
  rw [busWrite_reaching off v hsrc hreach, State.regWrite_permitted hon hloc hlive hmay]

theorem locate_cxpCamCfg : ∀ k, k < 4 → locate (Addr.cxpCamCfg k) =
    some (⟨.cxpCamCfg, 0x401000, [(0x40, 4, 0)], 0x0, 0x73FF007F, 0x0⟩, [k]) := by decide

theorem locate_ingCamCfg : ∀ k, k < 4 → locate (Addr.ingCamCfg k) =
    some (⟨.ingCamCfg, 0x300000, [(0x40, 4, 0)], 0x1400000000, 0xFF000FC001, 0x0⟩, [k]) := by decide

theorem locate_ingCalCtl : ∀ t, t < 8 → locate (Addr.ingCalCtl t) =
    some (⟨.ingCalCtl, 0x300820, [(0x40, 8, 0)], 0x0, 0x4, 0x0⟩, [t]) := by decide

theorem locate_cxpCamCtl : ∀ k, k < 4 → locate (Addr.cxpCamCtl k) =
    some (⟨.cxpCamCtl, 0x401010, [(0x40, 4, 0)], 0x0, 0x1FFF0000, 0x0⟩, [k]) := by decide

theorem locate_jesCfg : locate Addr.jesCfg = some (⟨.jesCfg, 0x500000, [], 0x200000000000, 0x7FFFFFFFFFFFF01, 0x0⟩, []) := by decide

end Sys2Proof.Machine
end

section
/-! Cameras: their configuration, the lock of their connections, their stream, their fire records and their tables (R92 to R94, R112,
R123 to R132, R838). -/

namespace Sys2Proof.Machine

open Sys2Proof

/-! ## The configuration (R92, R93) -/

theorem exec_cameraConfigWrite {s : State} {src : Src} {k : Nat} (v : W64) (hk : k < 4)
    (h : TakesWrite s src .cxpCamCfg k (Addr.cxpCamCfg k)) :
    exec (.cameraConfigWrite src k v) s = .next (s.camCfgWrite k (s.stored (Addr.cxpCamCfg k) v)) := by
  rw [State.stored_of_locate (locate_cxpCamCfg k hk)]
  exact busWrite_takes v (decide_eq_true hk) h (locate_cxpCamCfg k hk) rfl rfl

/-- Camera k with its stream afresh and its configuration written, not yet applied. -/
def State.camWritten (s : State) (k : Nat) (new : W64) : State :=
  ((s.camFresh k).setCam k { (s.camFresh k).cam k with applied := false }).wr (Addr.cxpCamCfg k) new

theorem State.camCfgWrite_eq (s : State) (k : Nat) (new : W64) : s.camCfgWrite k new =
    if !bit new 0 then s.camWritten k new
    else if (s.camWritten k new).camFits k then
      (s.camWritten k new).setCam k { (s.camWritten k new).cam k with applied := true, hbAt := (s.camWritten k new).time }
    else (s.camWritten k new).wb (Addr.cxpCamStat k) 1 true := rfl

/-- Whether a camera's configuration fits depends on the configurations and on the other cameras. -/
theorem State.camFits_congr {s t : State} {k : Nat} (hcfg : ∀ j, t.rd (Addr.cxpCamCfg j) = s.rd (Addr.cxpCamCfg j))
    (hcam : ∀ j, j ≠ k → t.cam j = s.cam j) : t.camFits k = s.camFits k := by
  have hother : ∀ j, (j == k || !t.camOn j) = (j == k || !s.camOn j) := fun j => by
    by_cases hj : j = k
    · simp [hj]
    · simp [State.camOn, State.rb, hcfg, hcam j hj]
  simp only [State.camFits, State.camCons, hcfg, hother]
  rfl

theorem cxpCamCfg_ne_camStat (j k : Nat) : Addr.cxpCamCfg j ≠ Addr.cxpCamStat k := by
  unfold Addr.cxpCamCfg Addr.cxpCamStat
  omega

theorem State.camsOnly_camWritten (s : State) (k : Nat) (new : W64) : (s.camFresh k).CamsOnly (s.camWritten k new) :=
  ((s.camFresh k).camsOnly_setCam k _).trans (State.regsOnly_wr _ _ _).camsOnly

@[simp] theorem State.rd_cfg_camWritten (s : State) (k : Nat) (new : W64) : (s.camWritten k new).rd (Addr.cxpCamCfg k) = new :=
  State.rd_wr_same _ _ _

theorem State.rd_camWritten (s : State) {k off : Nat} (new : W64) (h : off ≠ Addr.cxpCamCfg k) :
    (s.camWritten k new).rd off = (s.camFresh k).rd off :=
  State.rd_wr_other _ new h

theorem State.cam_camWritten_other (s : State) {k j : Nat} (new : W64) (h : j ≠ k) :
    (s.camWritten k new).cam j = (s.camFresh k).cam j :=
  State.cam_setCam_other _ _ h

theorem State.cam_camWritten_same (s : State) (k : Nat) (new : W64) : ((s.camWritten k new).cam k).applied = false :=
  congrArg Cam.applied (State.cam_setCam_same _ k _)

/-- What a write of CXP_CAMk_CFG leaves beside the register: the camera applied if it is enabled and fits, refused with CFGERR if it is
enabled and does not (R93). -/
theorem State.camCfgWrite_cases (s : State) (k : Nat) (new : W64) : ∃ t : State, t = s.camWritten k new ∧
    ((bit new 0 = false ∧ s.camCfgWrite k new = t) ∨
     (bit new 0 = true ∧ t.camFits k = true ∧ s.camCfgWrite k new = t.setCam k { t.cam k with applied := true, hbAt := t.time }) ∨
     (bit new 0 = true ∧ t.camFits k = false ∧ s.camCfgWrite k new = t.wb (Addr.cxpCamStat k) 1 true)) := by
  refine ⟨_, rfl, ?_⟩
  rw [State.camCfgWrite_eq]
  cases bit new 0 <;> cases (s.camWritten k new).camFits k <;> simp

theorem State.rd_camCfgWrite (s : State) {k off : Nat} (new : W64) (h : off ≠ Addr.cxpCamStat k) :
    (s.camCfgWrite k new).rd off = (s.camWritten k new).rd off := by
  obtain ⟨t, rfl, ⟨-, hu⟩ | ⟨-, -, hu⟩ | ⟨-, -, hu⟩⟩ := s.camCfgWrite_cases k new <;> rw [hu]
  · rfl
  · exact State.rd_wb_other _ _ _ h

theorem State.cam_camCfgWrite_other (s : State) {k j : Nat} (new : W64) (h : j ≠ k) :
    (s.camCfgWrite k new).cam j = (s.camWritten k new).cam j := by
  obtain ⟨t, rfl, ⟨-, hu⟩ | ⟨-, -, hu⟩ | ⟨-, -, hu⟩⟩ := s.camCfgWrite_cases k new <;> rw [hu]
  · exact State.cam_setCam_other _ _ h
  · rfl

theorem State.camsOnly_camCfgWrite (s : State) (k : Nat) (new : W64) : (s.camFresh k).CamsOnly (s.camCfgWrite k new) := by
  have hwritten := s.camsOnly_camWritten k new
  obtain ⟨t, rfl, ⟨-, hu⟩ | ⟨-, -, hu⟩ | ⟨-, -, hu⟩⟩ := s.camCfgWrite_cases k new <;> rw [hu]
  · exact hwritten
  · exact hwritten.trans (State.camsOnly_setCam _ k _)
  · exact hwritten.trans (State.regsOnly_wb _ _ _ _).camsOnly

/-- The verdict on a configuration: applied, or CFGERR. -/
theorem State.camCfgWrite_verdict (s : State) (k : Nat) (new : W64) :
    ((s.camCfgWrite k new).cam k).applied = (bit new 0 && (s.camWritten k new).camFits k) ∧
    (s.camCfgWrite k new).rb (Addr.cxpCamStat k) 1 =
      ((s.camWritten k new).rb (Addr.cxpCamStat k) 1 || (bit new 0 && !(s.camWritten k new).camFits k)) := by
  obtain ⟨t, rfl, ⟨hen, hu⟩ | ⟨hen, hfits, hu⟩ | ⟨hen, hfits, hu⟩⟩ := s.camCfgWrite_cases k new <;> rw [hu]
  · simp [hen, State.cam_camWritten_same]
  · simp [hen, hfits, State.rb]
  · exact ⟨by rw [hen, hfits]; exact s.cam_camWritten_same k new, by simp [hen, hfits, State.rb]⟩

/-- The verdict read from the state after the write, which fits as the written configuration did. -/
theorem State.camFits_camCfgWrite (s : State) (k : Nat) (new : W64) :
    (s.camCfgWrite k new).camFits k = (s.camWritten k new).camFits k :=
  State.camFits_congr (fun j => s.rd_camCfgWrite new (cxpCamCfg_ne_camStat j k)) fun _ h => s.cam_camCfgWrite_other new h

/-- Where no LOAD or STORE waits, a stream starts afresh in its camera alone. -/
theorem State.camFresh_idle {s : State} {k : Nat}
    (h : ∀ j ∈ [2 * k, 2 * k + 1], (s.cal j).waiting = false ∧ (s.cal j).storing = false) :
    s.camFresh k = s.setCam k (s.cam k).fresh := by
  have hdue : ∀ j ∈ [2 * k, 2 * k + 1], (s.setCam k (s.cam k).fresh).calDue j = s.setCam k (s.cam k).fresh := fun j hj => by
    obtain ⟨hw, hs⟩ : ((s.setCam k (s.cam k).fresh).cal j).waiting = false ∧ ((s.setCam k (s.cam k).fresh).cal j).storing = false :=
      h j hj
    simp [State.calDue, hw, hs]
  rw [State.camFresh, hdue _ (by simp), hdue _ (by simp)]

/-! ## Enabling ingest (R838) -/

theorem exec_ingCameraEnable {s : State} {src : Src} {k : Nat} (v : W64) (hk : k < 4)
    (h : TakesWrite s src .ingCamCfg k (Addr.ingCamCfg k)) : ∃ new, bit new 0 = true ∧
      exec (.ingCameraEnable src k v) s = .next (s.ingCfgWrite k new) := by
  refine ⟨storeReg _ _ _ _, ?_, busWrite_takes _ (decide_eq_true hk) h (locate_ingCamCfg k hk) rfl rfl⟩
  rw [storeReg_plain rfl, bit, getLsbD_overlay _ _ _ (by decide)]
  exact bit_setBit_same v true (by decide)

/-- ING_CAMk_CFG as written, its fire counts cleared. -/
def State.ingWritten (s : State) (k : Nat) (new : W64) : State := (s.wr (Addr.ingCamCfg k) new).wr (Addr.ingCamFire k) 0

theorem ingCamCfg_ne_ingCamFire (k : Nat) : Addr.ingCamCfg k ≠ Addr.ingCamFire k := by
  simp [Addr.ingCamCfg, Addr.ingCamFire]

theorem State.ingWritten_regs (s : State) (k : Nat) (new : W64) :
    s.onlyRegs (s.ingWritten k new) [Addr.ingCamCfg k, Addr.ingCamFire k] ∧
    (s.ingWritten k new).rd (Addr.ingCamCfg k) = new ∧ (s.ingWritten k new).rd (Addr.ingCamFire k) = 0 := by
  refine ⟨fun off h => ?_, ?_, State.rd_wr_same _ _ _⟩
  · obtain ⟨hcfg, hfire⟩ : off ≠ Addr.ingCamCfg k ∧ off ≠ Addr.ingCamFire k := by simpa using h
    exact (State.rd_wr_other _ _ hfire).trans (State.rd_wr_other _ _ hcfg)
  · exact (State.rd_wr_other _ _ (ingCamCfg_ne_ingCamFire k)).trans (State.rd_wr_same _ _ _)

/-- Both rings of camera k number their entries from 0. -/
def State.seqFresh (s : State) (k : Nat) : State :=
  (s.setRing (2 * k) { s.ring (2 * k) with seq := 0 }).setRing (2 * k + 1) { s.ring (2 * k + 1) with seq := 0 }

theorem State.ring_seqFresh (s : State) (k r : Nat) :
    (s.seqFresh k).ring r = if r = 2 * k ∨ r = 2 * k + 1 then { s.ring r with seq := 0 } else s.ring r := by
  by_cases h1 : r = 2 * k + 1
  · rw [if_pos (.inr h1), h1]
    exact State.ring_setRing_same _ _ _
  · rw [State.seqFresh, State.ring_setRing_other _ _ h1]
    by_cases h0 : r = 2 * k
    · rw [if_pos (.inl h0), h0, State.ring_setRing_same]
    · rw [if_neg (by omega), State.ring_setRing_other _ _ h0]

/-- Enabling an enabled camera clears its fire counts; enabling a disabled one starts its stream and its SEQ afresh too. -/
theorem State.ingCfgWrite_enable {s : State} {k : Nat} {new : W64} (h : bit new 0 = true) : s.ingCfgWrite k new =
    if s.rb (Addr.ingCamCfg k) 0 then s.ingWritten k new else ((s.ingWritten k new).camFresh k).seqFresh k := by
  unfold State.ingCfgWrite State.rb
  cases hold : bit (s.rd (Addr.ingCamCfg k)) 0 with
  | true => exact if_pos (by rw [h, hold])
  | false => exact (if_neg (by rw [h, hold]; decide)).trans (if_pos h)

/-! ## The lock of a connection (R134, Table 3.8) -/

theorem exec_cxpLockAcquire {s : State} {n : Nat} (hn : n < 8) (hon : s.ingOn = true) (hen : s.rb (Addr.cxpConCfg n) 0 = true)
    (hrate : s.rf (Addr.cxpConCfg n) 11 8 ∈ [1, 2, 3, 5, 6, 10, 12]) :
    exec (.cxpLockAcquire n) s = .next (s.wb (Addr.cxpConStat n) 0 true) :=
  (if_pos hn).trans (congrArg _ (if_pos (by simp only [hon, hen, rateOk, List.contains_iff_mem.mpr hrate]; rfl)))

theorem State.clk_congr {s t : State} (h : t.rd Addr.clkLive = s.rd Addr.clkLive) (i : Nat) : t.clk i = s.clk i :=
  congrArg (bit · i) h

theorem State.camCons_congr {s t : State} {k : Nat} (h : t.rd (Addr.cxpCamCfg k) = s.rd (Addr.cxpCamCfg k)) :
    t.camCons k = s.camCons k := by
  rw [State.camCons, State.camCons, h]

theorem State.camOwner_congr {s t : State} {k : Nat} (h : t.rd (Addr.cxpCamCfg k) = s.rd (Addr.cxpCamCfg k)) :
    t.camOwner k = s.camOwner k := by
  rw [State.camOwner, State.camOwner, State.rf, State.rf, h]

theorem conStat_apart (n j : Nat) : Addr.clkLive ≠ Addr.cxpConStat n ∧ Addr.cxpCamCfg j ≠ Addr.cxpConStat n ∧
    Addr.ingCamCfg j ≠ Addr.cxpConStat n := by
  simp only [Addr.clkLive, Addr.cxpConStat, Addr.cxpCamCfg, Addr.ingCamCfg]
  omega

/-- What the ingest unit receives does not depend on the state of a connection. -/
theorem State.receiving_congr {s t : State} {n k : Nat} (h : ∀ off, off ≠ Addr.cxpConStat n → t.rd off = s.rd off)
    (hcam : t.cam k = s.cam k) : t.receiving k = s.receiving k := by
  obtain ⟨hclk, hcfg, hing⟩ := conStat_apart n k
  simp only [State.receiving, State.ingOn, State.clk_congr (h _ hclk), State.camOn, State.rb, h _ hcfg, h _ hing, hcam]

/-- Connection n is one of those of camera j, whose stream the ingest unit receives. -/
def State.carries (s : State) (n j : Nat) : Bool :=
  s.receiving j && (decide ((s.camCons j).1 ≤ n) && decide (n < (s.camCons j).1 + (s.camCons j).2))

/-- A connection without its lock. -/
def State.unlocked (s : State) (n : Nat) : State := s.wb (Addr.cxpConStat n) 0 false

theorem State.carries_unlocked (s : State) (n j : Nat) : (s.unlocked n).carries n j = s.carries n j := by
  have hrd : ∀ off, off ≠ Addr.cxpConStat n → (s.unlocked n).rd off = s.rd off := fun off h => State.rd_wb_other _ _ _ h
  obtain ⟨-, hcfg, -⟩ := conStat_apart n j
  rw [State.carries, State.carries, State.receiving_congr hrd rfl, State.camCons_congr (hrd _ hcfg)]

/-- What the loss of a lock makes of camera k: the line in progress ends incomplete, the stream starts afresh. -/
def State.dropLine (s : State) (k : Nat) : State :=
  (match (s.cam k).line with
    | some l => (s.setCam k { s.cam k with line := some { l with inc := true } }).lineEnd k
    | none => s).camFresh k

theorem State.dropLine_none {s : State} {k : Nat} (h : (s.cam k).line = none) : s.dropLine k = s.camFresh k := by
  rw [State.dropLine, h]

theorem State.dropLine_some {s : State} {k : Nat} {l : LineBuf} (h : (s.cam k).line = some l) :
    s.dropLine k = ((s.setCam k { s.cam k with line := some { l with inc := true } }).lineEnd k).camFresh k := by
  rw [State.dropLine, h]

theorem filter_cameras_eq_singleton {p : Nat → Bool} {k : Nat} (hk : k < 4) (h : ∀ j, j < 4 → (p j = true ↔ j = k)) :
    (List.range 4).filter p = [k] := by
  have honly : (List.range 4).filter p = (List.range 4).filter fun j => decide (j = k) :=
    List.filter_congr fun j hj => Bool.eq_iff_iff.mpr ((h j (List.mem_range.mp hj)).trans decide_eq_true_iff.symm)
  have hone : ∀ k, k < 4 → ((List.range 4).filter fun j => decide (j = k)) = [k] := by decide
  exact honly.trans (hone k hk)

/-- The loss of the lock of a connection that one camera uses: recorded, and that camera's stream starts afresh (R134). -/
theorem exec_cxpLockLoss {s : State} {n k : Nat} (hn : n < 8) (hon : s.ingOn = true) (hlock : s.rb (Addr.cxpConStat n) 0 = true)
    (hk : k < 4) (h : ∀ j, j < 4 → (s.carries n j = true ↔ j = k)) :
    exec (.cxpLockLoss n) s = .next (((s.unlocked n).record (report 17 .signal n (s.camOwner k))).dropLine k) := by
  have hcams : (List.range 4).filter ((s.unlocked n).carries n) = [k] :=
    filter_cameras_eq_singleton hk fun j hj => by rw [s.carries_unlocked]; exact h j hj
  have howner : (s.unlocked n).camOwner k = s.camOwner k := State.camOwner_congr (State.rd_wb_other _ _ _ (conStat_apart n k).2.1)
  have hloss : exec (.cxpLockLoss n) s = .next (((List.range 4).filter ((s.unlocked n).carries n)).foldl State.dropLine
      ((s.unlocked n).record (report 17 .signal n
        ((((List.range 4).filter ((s.unlocked n).carries n)).head?.map (s.unlocked n).camOwner).getD 0)))) :=
    (if_pos hn).trans (congrArg _ (if_neg (by simp [hon, hlock])))
  rw [hloss, hcams, ← howner]
  rfl

/-! ## A stream packet (R94) -/

theorem exec_cxpStreamPacket {s : State} {p : StreamPacket} (hcam : p.cam < 4) (hcon : p.con < 8) (htag : p.tag < 256) :
    exec (.cxpStreamPacket p) s = .next (s.streamPacket p) :=
  if_pos ⟨hcam, hcon, htag⟩

theorem State.streamPacket_unlocked {s : State} {p : StreamPacket} (h : s.rb (Addr.cxpConStat p.con) 0 = false) :
    s.streamPacket p = s :=
  if_pos (by simp [h])

/-- The overflow of a packet, counted at its connection (R123). -/
def State.overflowed (s : State) (p : StreamPacket) : State :=
  if p.ovf = true then s.sat (Addr.cxpConStat p.con) 63 48 1 else s

theorem State.rd_overflowed (s : State) (p : StreamPacket) {off : Nat} (h : off ≠ Addr.cxpConStat p.con) :
    (s.overflowed p).rd off = s.rd off := by
  unfold State.overflowed
  split
  · exact State.rd_sat_other _ _ _ _ h
  · rfl

theorem State.lock_overflowed (s : State) (p : StreamPacket) (n : Nat) :
    (s.overflowed p).rb (Addr.cxpConStat n) 0 = s.rb (Addr.cxpConStat n) 0 := by
  by_cases h : Addr.cxpConStat n = Addr.cxpConStat p.con
  · unfold State.overflowed
    split
    · rw [State.rb, State.rb, h, State.rd_sat_same, bit_satFld_other _ _ (by decide) (by decide) (by decide)]
    · rfl
  · rw [State.rb, State.rb, s.rd_overflowed p h]

theorem State.overflowed_frame (s : State) (p : StreamPacket) : s.RegsOnly (s.overflowed p) := by
  unfold State.overflowed
  split <;> rfl

/-- A sound packet at a camera whose connections all have lock is held, and the packets in order are delivered. -/
theorem State.streamPacket_taken {s : State} {p : StreamPacket} (hon : s.ingOn = true) (hen : s.rb (Addr.cxpConCfg p.con) 0 = true)
    (hcar : s.carries p.con p.cam = true) (hlock : s.rb (Addr.cxpConStat p.con) 0 = true)
    (hall : ∀ i, i < (s.camCons p.cam).2 → s.rb (Addr.cxpConStat ((s.camCons p.cam).1 + i)) 0 = true) (hcrc : p.crcOk = true) :
    s.streamPacket p = ((s.overflowed p).setCam p.cam { s.cam p.cam with
      held := (s.cam p.cam).held ++ [(s.time, p)],
      tops := Sparse.set (fun _ => 256) (s.cam p.cam).tops p.con p.tag }).deliver p.cam 256 := by
  obtain ⟨hrec, hlo, hhi⟩ : s.receiving p.cam = true ∧ (s.camCons p.cam).1 ≤ p.con ∧
      p.con < (s.camCons p.cam).1 + (s.camCons p.cam).2 := by simpa [State.carries] using hcar
  have hcam : (s.overflowed p).cam p.cam = s.cam p.cam := by rw [s.overflowed_frame p]; rfl
  have htime : (s.overflowed p).time = s.time := by rw [s.overflowed_frame p]
  have hrec' : (s.overflowed p).receiving p.cam = true := (State.receiving_congr (fun _ h => s.rd_overflowed p h) hcam).trans hrec
  have hall' : ((List.range (s.camCons p.cam).2).all fun i => (s.overflowed p).rb (Addr.cxpConStat ((s.camCons p.cam).1 + i)) 0) = true :=
    List.all_eq_true.mpr fun i hi => (s.lock_overflowed p _).trans (hall i (List.mem_range.mp hi))
  unfold State.overflowed at hcam htime hrec' hall' ⊢
  unfold State.streamPacket
  simp only [hcrc, if_true]
  rw [if_neg (by simp [hon, hen, hlock])]
  rw [if_neg (by simp [hrec', hall', Nat.not_lt.mpr hlo, Nat.not_le.mpr hhi]), hcam, htime]

/-- A held packet that carries the expected tag is delivered (R94). -/
theorem State.deliver_expected {s : State} {k arr n : Nat} {p : StreamPacket} (hheld : (s.cam k).held = [(arr, p)])
    (hexp : (s.cam k).expect = some p.tag) : s.deliver k (n + 1) =
      ((s.setCam k { s.cam k with held := [], expect := some ((p.tag + 1) % 256) }).items arr p).deliver k n := by
  have hnext : s.nextPacket k = some ((arr, p), false) := by
    simp [State.nextPacket, hheld, hexp]
  rw [State.deliver, hnext]
  simp [hheld]

/-! ## Fire records and tables (R112, R124 to R132) -/

theorem exec_fireRecordExpire_old {s : State} {k : Nat} {f : FireRec} {rest : List FireRec} (hk : k < 4)
    (hfires : (s.cam k).fires = f :: rest) (hold : f.time + 400 * max 1 (s.rf (Addr.ingCamCfg k) 39 32) < s.time) :
    exec (.fireRecordExpire k) s = .next ((s.setCam k { s.cam k with fires := rest }).sat (Addr.ingCamFire k) 15 0 1) := by
  have hstale : s.stale k f = true := decide_eq_true (by unfold usTicks; omega)
  have hexec : exec (.fireRecordExpire k) s = execFireRecordExpire k s := rfl
  rw [hexec, execFireRecordExpire, if_pos hk]
  simp [hfires, hstale]

/-- A write of ING_CALt_CTL: LOAD and STORE of the write alone, FREEZE as the register takes it. -/
theorem busWrite_calCtl {s : State} {src : Src} {t : Nat} (v : W64) (ht : t < 8) (h : TakesWrite s src .ingCalCtl t (Addr.ingCalCtl t)) :
    ∃ x, (∀ i, i ≤ 2 → bit x i = bit v i) ∧ busWrite src (decide (t < 8)) (Addr.ingCalCtl t) v s = .next (s.calCtl t x) := by
  refine ⟨setBit _ 2 (bit (storeReg _ _ _ _) 2), fun i hi => ?_, busWrite_takes v (decide_eq_true ht) h (locate_ingCalCtl t ht) rfl rfl⟩
  by_cases hi2 : i = 2
  · rw [hi2, bit_setBit_same _ _ (by decide), storeReg_plain rfl]
    exact getLsbD_overlay _ _ _ (by decide)
  · rw [bit_setBit_other _ _ (by decide) hi2, and_byteMask_full]

theorem State.calCtl_load {s : State} {t : Nat} {x : W64} (hload : bit x 0 = true) (hstore : bit x 1 = false) :
    s.calCtl t x = (s.wb (Addr.ingCalCtl t) 2 (bit x 2)).calLoad t := by
  simp [State.calCtl, hload, hstore]

theorem State.calCtl_store {s : State} {t : Nat} {x : W64} (hload : bit x 0 = false) (hstore : bit x 1 = true) :
    s.calCtl t x = if s.inLine t then State.setCal (s.wb (Addr.ingCalCtl t) 2 (bit x 2)) t { s.cal t with storing := true }
      else (s.wb (Addr.ingCalCtl t) 2 (bit x 2)).calStoreNow t := by
  have hline : (s.wb (Addr.ingCalCtl t) 2 (bit x 2)).inLine t = s.inLine t := rfl
  simp only [State.calCtl, hload, hstore, hline]
  rfl

/-- CAL_LOAD loads its table at the boundary of the line in progress, at once where there is none (R124). -/
theorem exec_calLoad {s : State} {src : Src} {t : Nat} {v : W64} (ht : t < 8) (h : TakesWrite s src .ingCalCtl t (Addr.ingCalCtl t))
    (hstore : bit v 1 = false) : exec (.calLoad src t v) s = .next (if s.inLine t then
        State.setCal (s.wb (Addr.ingCalCtl t) 2 (bit v 2)) t { s.cal t with waiting := true }
      else (s.wb (Addr.ingCalCtl t) 2 (bit v 2)).calLoadNow t) := by
  obtain ⟨x, hx, hw⟩ := busWrite_calCtl (setBit v 0 true) ht h
  have hbit : ∀ i, i ≤ 2 → i ≠ 0 → bit x i = bit v i := fun i hi h0 => (hx i hi).trans (bit_setBit_other _ _ (by decide) h0)
  have hload : bit x 0 = true := (hx 0 (by decide)).trans (bit_setBit_same _ _ (by decide))
  have hexec : exec (.calLoad src t v) s = _ := hw
  rw [hexec, State.calCtl_load hload ((hbit 1 (by decide) (by decide)).trans hstore), hbit 2 (by decide) (by decide)]
  rfl

/-- CAL_STORE writes its table at the boundary of the line in progress, at once where there is none (R132). -/
theorem exec_calStore {s : State} {src : Src} {t : Nat} {v : W64} (ht : t < 8) (h : TakesWrite s src .ingCalCtl t (Addr.ingCalCtl t))
    (hload : bit v 0 = false) : exec (.calStore src t v) s = .next (if s.inLine t then
        State.setCal (s.wb (Addr.ingCalCtl t) 2 (bit v 2)) t { s.cal t with storing := true }
      else (s.wb (Addr.ingCalCtl t) 2 (bit v 2)).calStoreNow t) := by
  obtain ⟨x, hx, hw⟩ := busWrite_calCtl (setBit v 1 true) ht h
  have hbit : ∀ i, i ≤ 2 → i ≠ 1 → bit x i = bit v i := fun i hi h1 => (hx i hi).trans (bit_setBit_other _ _ (by decide) h1)
  have hstore : bit x 1 = true := (hx 1 (by decide)).trans (bit_setBit_same _ _ (by decide))
  have hexec : exec (.calStore src t v) s = _ := hw
  rw [hexec, State.calCtl_store ((hbit 0 (by decide) (by decide)).trans hload) hstore, hbit 2 (by decide) (by decide)]

end Sys2Proof.Machine

open Sys2Proof Sys2Proof.Machine

/-- Settles O32: each command by the one state that it leaves; a packet by the lock of its connection; a LOAD or STORE by the line
in progress. -/
theorem cameraLinks : Obligations.CameraLinks := by
  unfold Obligations.CameraLinks
  intro s src k n t v hk hn ht
  refine ⟨fun htake => ⟨_, exec_cameraConfigWrite v hk htake, ?_⟩, State.camFresh_idle, fun htake => ?_, fun hon hen hrate => ?_,
    fun hon hlock huse => ?_, fun p hcam hcon htag hon hen => ⟨fun hlock => ?_, fun hlock hlo hhi hrec hall hcrc hheld hexp => ?_⟩,
    fun f rest hfires hold => exec_fireRecordExpire_old hk hfires hold, fun htake => ?_⟩
  · rintro m rfl
    let new := s.stored (Addr.cxpCamCfg k) v
    have hcfg : (s.camCfgWrite k new).rd (Addr.cxpCamCfg k) = new :=
      (s.rd_camCfgWrite new (cxpCamCfg_ne_camStat k k)).trans (s.rd_cfg_camWritten k new)
    have hstat : (s.camWritten k new).rb (Addr.cxpCamStat k) 1 = (s.camFresh k).rb (Addr.cxpCamStat k) 1 :=
      congrArg (bit · 1) (s.rd_camWritten new (cxpCamCfg_ne_camStat k k).symm)
    obtain ⟨happlied, herr⟩ := s.camCfgWrite_verdict k new
    have hen : (s.camCfgWrite k new).rb (Addr.cxpCamCfg k) 0 = bit new 0 := congrArg (bit · 0) hcfg
    rw [State.camFits_camCfgWrite, hen, hcfg, ← hstat]
    refine ⟨s.camsOnly_camCfgWrite k new, fun off h => ?_, rfl, fun j hj => ?_, happlied, herr⟩
    · obtain ⟨hc, hs⟩ : off ≠ Addr.cxpCamCfg k ∧ off ≠ Addr.cxpCamStat k := by simpa using h
      exact (s.rd_camCfgWrite new hs).trans (s.rd_camWritten new hc)
    · exact (s.cam_camCfgWrite_other new hj).trans (s.cam_camWritten_other new hj)
  · obtain ⟨new, hnew, hexec⟩ := exec_ingCameraEnable v hk htake
    obtain ⟨hregs, hcfg, hfire⟩ := s.ingWritten_regs k new
    rw [State.ingCfgWrite_enable hnew] at hexec
    refine ⟨_, hexec, s.ingWritten k new, rfl, hregs, by rw [State.rb, hcfg, hnew], hfire, fun h => if_pos h, fun h m hm => ?_⟩
    rw [if_neg (by simp [h]), ← hm]
    exact ⟨rfl, m.ring_seqFresh k⟩
  · refine ⟨_, exec_cxpLockAcquire hn hon hen hrate, rfl, fun off h => State.rd_wb_other _ _ _ (by simpa using h), fun i hi => ?_⟩
    rw [State.rb, State.rd_wb_same]
    by_cases h0 : i = 0
    · simp [h0]
    · simp [bit_setBit_other _ _ _ h0, h0, State.rb]
  · have hcar : ∀ j, j < 4 → (s.carries n j = true ↔ j = k) := fun j hj => by simpa [State.carries] using huse j hj
    have hexec := exec_cxpLockLoss hn hon hlock hk hcar
    rintro w rfl
    refine ⟨fun hline => hexec.trans (congrArg _ (State.dropLine_none hline)), ?_⟩
    rintro l u hline rfl
    exact hexec.trans (congrArg _ (State.dropLine_some hline))
  · subst hcam hcon
    rw [exec_cxpStreamPacket hk hn htag, State.streamPacket_unlocked hlock]
  · subst hcam hcon
    rintro w w0 rfl rfl
    have hcar : s.carries p.con p.cam = true := by simp [State.carries, hrec, hlo, hhi]
    rw [exec_cxpStreamPacket hk hn htag, State.streamPacket_taken hon hen hcar hlock hall hcrc, hheld,
      State.deliver_expected (arr := s.time) (p := p) (by simp) (by simp [hexp])]
    simp [State.overflowed, hheld]
  · rintro w rfl
    refine ⟨fun hb hl => ?_, fun hb hl => ?_, fun hb hl => ?_, fun hb hl => ?_⟩
    · rw [exec_calLoad ht htake hb, hl]; rfl
    · rw [exec_calLoad ht htake hb, hl]; rfl
    · rw [exec_calStore ht htake hb, hl]; rfl
    · rw [exec_calStore ht htake hb, hl]; rfl

end

section
/-! The uplinks: trigger packets, control and event buffers, heartbeats (R97 to R105). -/

namespace Sys2Proof.Machine

open Sys2Proof

/-! ## Trigger packets (R97, R98, R101) -/

/-- A boundary at which a trigger packet may start: the first that is 20 ns after its edge and at which the one ahead has ended. -/
theorem State.mayStart_iff {s : State} {k edge b fin : Nat} : s.mayStart k edge b fin = true ↔
    max (edge + 40) (s.cam k).up.fin ≤ b ∧ b < max (edge + 40) (s.cam k).up.fin + s.charTime k ∧ b + s.charTime k ≤ fin ∧
      b < 5 * s.time + 5 := by
  simp [State.mayStart, and_assoc]

/-- The boundaries of one character's time from lo on start the packet; one too early, or past the first that serves, starts nothing. -/
theorem State.ite_mayStart {s t : State} {k edge b fin lo : Nat} (hlo : lo = max (edge + 40) (s.cam k).up.fin)
    (hfin : b + s.charTime k ≤ fin) (hnow : b < 5 * s.time + 5) :
    (lo ≤ b → b < lo + s.charTime k → (if s.mayStart k edge b fin = true then t else s) = t) ∧
    (b < lo ∨ lo + s.charTime k ≤ b → (if s.mayStart k edge b fin = true then t else s) = s) := by
  simp only [State.mayStart_iff, ← hlo]
  exact ⟨fun h1 h2 => if_pos ⟨h1, h2, hfin, hnow⟩, fun h => if_neg fun ⟨h1, h2, _⟩ => by omega⟩

theorem exec_uplinkTriggerRising {s : State} {k : Nat} (b fin : Nat) (hk : k < 4) (hon : s.ingOn = true)
    (hbusy : (s.cam k).up.busy = true) (hrisen : (s.cam k).up.risen = false) :
    exec (.uplinkTriggerRising k b fin) s = .next (if s.mayStart k (s.cam k).up.edge b fin then s.setCam k { s.cam k with
      up := { (s.cam k).up with risen := true, fin := fin }, trig := some (true, b - (s.cam k).up.edge - 40) } else s) := by
  refine (if_pos hk).trans (congrArg _ ?_)
  simp only [hon, hbusy, hrisen, Bool.not_false, Bool.true_and]

theorem exec_uplinkTriggerFalling {s : State} {k : Nat} (b fin : Nat) (hk : k < 4) (hon : s.ingOn = true)
    (hbusy : (s.cam k).up.busy = true) (hrisen : (s.cam k).up.risen = true) :
    exec (.uplinkTriggerFalling k b fin) s = .next (if s.mayStart k ((s.cam k).up.edge + s.trigWidth k) b fin then
      s.setCam k { s.cam k with up := { (s.cam k).up with busy := false, risen := false, fin := fin },
                                trig := some (false, b - ((s.cam k).up.edge + s.trigWidth k) - 40) } else s) := by
  refine (if_pos hk).trans (congrArg _ ?_)
  simp only [hon, hbusy, hrisen, Bool.true_and]

/-! ## Control and event packets (R102 to R104) -/

theorem cxpCtx_ne_camCtl (k w : Nat) {j : Nat} (hj : j < 4) : Addr.cxpCtx k w ≠ Addr.cxpCamCtl j := by
  unfold Addr.cxpCtx Addr.cxpCamCtl
  omega

/-- A register of the ingest unit answers where the unit's clock runs. -/
theorem State.regLive_ing (s : State) {off : Nat} (h : off / 0x100000 = 4) : s.regLive off = s.ingOn := by
  rw [State.regLive, regDom, h]; rfl

/-- SEND of an enabled ingest unit takes the packet from the transmit buffer (R102). -/
theorem State.ctlWrite_send {s : State} (k : Nat) (new : W64) (hon : s.ingOn = true) : s.ctlWrite k new true =
    (s.wr (Addr.cxpCamCtl k) new).setCam k { s.cam k with
      sent := (s.wr (Addr.cxpCamCtl k) new).bufRead (Addr.cxpCtx k) 0 (min 4096 (fld new 28 16)) } := by
  have hclk : (s.wr (Addr.cxpCamCtl k) new).ingOn = true :=
    (State.clk_congr (State.rd_wr_other _ _ (by simp only [Addr.clkLive, Addr.cxpCamCtl]; omega)) 9).trans hon
  exact if_pos hclk

/-- A send takes its length from the write. -/
theorem exec_controlSend {s : State} {src : Src} {k : Nat} (v : W64) (hk : k < 4)
    (h : TakesWrite s src .cxpCamCtl k (Addr.cxpCamCtl k)) : ∃ new, fld new 28 16 = fld v 28 16 ∧
      exec (.controlSend src k v) s = .next (s.ctlWrite k new true) := by
  have hsend : bit (setBit v 0 true &&& byteMask 0xFF) 0 = true := by
    rw [and_byteMask_full]
    exact bit_setBit_same v true (by decide)
  have hexec : exec (.controlSend src k v) s =
      .next (s.ctlWrite k (storeReg _ _ (setBit v 0 true) 0xFF) (bit (setBit v 0 true &&& byteMask 0xFF) 0)) :=
    busWrite_takes _ (decide_eq_true hk) h (locate_cxpCamCtl k hk) rfl rfl
  refine ⟨_, ?_, hsend ▸ hexec⟩
  rw [storeReg_plain rfl, fld_overlay _ _ _ fun i h1 h2 => by interval_cases i <;> decide]
  exact fld_setBit_other v true (by decide) (by decide)

theorem ingOn_of_takesWrite {s : State} {src : Src} {id : RegId} {i off : Nat} (h : TakesWrite s src id i off)
    (hoff : off / 0x100000 = 4) : s.ingOn = true := by
  obtain ⟨-, -, -, hlive, -⟩ := h
  exact (s.regLive_ing hoff).symm.trans hlive

theorem State.bufRead_length (s : State) (reg : Nat → Nat) (off n : Nat) : (s.bufRead reg off n).length = n := by
  simp [State.bufRead]

theorem State.bufRead_getD {s : State} {reg : Nat → Nat} {n i : Nat} (hn : n ≤ 4096) (hi : i < n) :
    (s.bufRead reg 0 n).getD i 0 = (s.rd (reg (i / 8))).extractLsb' (8 * (i % 8)) 8 := by
  have hwrap : i % 4096 = i := Nat.mod_eq_of_lt (by omega)
  simp [State.bufRead, hi, hwrap]

/-- A record as a buffer holds it: filled to a multiple of 4 bytes. -/
def padded (r : List Byte) : List Byte := fit (roundUp r.length 4) r

/-- The bytes that a buffer would hold with a record in it. -/
def State.bufFill (s : State) (ptr : Nat) (r : List Byte) : Nat :=
  (s.rf ptr 11 0 + 4096 - s.rf ptr 27 16) % 4096 + (padded r).length

/-- A record enters where the buffer does not become full. -/
theorem State.bufPut_eq (s : State) (ptr : Nat) (reg : Nat → Nat) (r : List Byte) : s.bufPut ptr reg r =
    if s.bufFill ptr r < 4096 then
      (true, (s.bufWrite reg (s.rf ptr 11 0) (padded r)).wf ptr 11 0 ((s.rf ptr 11 0 + (padded r).length) % 4096))
    else (false, s) := by
  have htail : s.rf ptr 27 16 % 4096 = s.rf ptr 27 16 := Nat.mod_eq_of_lt (fld_lt _ 27 16)
  simp only [State.bufPut, htail]
  rfl

/-- Where a received record goes: into its buffer, or nowhere with its bit set. -/
def State.receive (s : State) (k ptr : Nat) (reg : Nat → Nat) (i : Nat) (r : List Byte) : State :=
  match s.bufPut ptr reg r with
  | (true, t) => t
  | (false, t) => t.wb (Addr.cxpCamStat k) i true

theorem State.receive_eq (s : State) (k ptr : Nat) (reg : Nat → Nat) (i : Nat) (r : List Byte) : s.receive k ptr reg i r =
    if s.bufFill ptr r < 4096 then
      (s.bufWrite reg (s.rf ptr 11 0) (padded r)).wf ptr 11 0 ((s.rf ptr 11 0 + (padded r).length) % 4096)
    else s.wb (Addr.cxpCamStat k) i true := by
  rw [State.receive, State.bufPut_eq]
  by_cases h : s.bufFill ptr r < 4096
  · rw [if_pos h, if_pos h]
  · rw [if_neg h, if_neg h]

theorem exec_controlReceive {s : State} {k : Nat} (pay : List Byte) (hk : k < 4) (hon : s.ingOn = true) :
    exec (.controlReceive k pay) s =
      .next (s.receive k (Addr.cxpCamRxptr k) (Addr.cxpCrx k) 3 (bytesOf 4 pay.length ++ pay)) :=
  (if_pos hk).trans (congrArg _ (if_neg (by simp [hon])))

theorem exec_eventPacketReceive {s : State} {k : Nat} (pay : List Byte) (hk : k < 4) (hon : s.ingOn = true) :
    exec (.eventPacketReceive k pay) s =
      .next (s.receive k (Addr.cxpCamEvptr k) (Addr.cxpCev k) 4 (bytesOf 4 pay.length ++ bytesOf 8 s.time ++ pay)) :=
  (if_pos hk).trans (congrArg _ (if_neg (by simp [hon])))

/-! ## Heartbeats (R105) -/

theorem State.hbDue_iff {s : State} {k : Nat} : s.hbDue k = true ↔ s.ingOn = true ∧ s.camOn k = true ∧
    min 1000 (s.rf (Addr.cxpCamCfg k) 25 16) ≠ 0 ∧ (s.cam k).hbAt + msTicks (min 1000 (s.rf (Addr.cxpCamCfg k) 25 16)) ≤ s.time := by
  simp [State.hbDue, and_assoc]

theorem exec_heartbeat {s : State} {k : Nat} (hk : k < 4) : exec (.heartbeat k) s =
    .next (if s.hbDue k then s.setCam k { s.cam k with sent := bytesOf 8 (s.time * 5 / 2), hbAt := s.time } else s) :=
  if_pos hk

end Sys2Proof.Machine
end

section
/-! The JESD204C link: its configuration, its clock and lanes, its blocks (R106 to R109, R115, R118, R134, R838). -/

namespace Sys2Proof.Machine

open Sys2Proof

/-! ## The state of the lanes -/

/-- The lanes of a list take a state. -/
def State.setLanes (s : State) (l : List Nat) (x : Nat) : State := l.foldl (fun s j => s.wf (Addr.jesLaneStat j) 1 0 x) s

theorem State.regsOnly_setLanes (s : State) (l : List Nat) (x : Nat) : s.RegsOnly (s.setLanes l x) := by
  induction l generalizing s with
  | nil => rfl
  | cons j l ih => exact (s.regsOnly_wf _ _ _ _).trans (ih _)

theorem State.rd_setLanes (s : State) (l : List Nat) (x : Nat) {off : Nat} (h : ∀ j, off ≠ Addr.jesLaneStat j) :
    (s.setLanes l x).rd off = s.rd off := by
  induction l generalizing s with
  | nil => rfl
  | cons j l ih => exact (ih _).trans (State.rd_wf_other _ _ _ _ (h j))

theorem jesLaneStat_inj {i j : Nat} (h : Addr.jesLaneStat i = Addr.jesLaneStat j) : i = j := by
  unfold Addr.jesLaneStat at h
  omega

/-- A lane of the list is in the state, each other lane is as before. -/
theorem State.lane_setLanes (s : State) (l : List Nat) (x i : Nat) : (s.setLanes l x).rf (Addr.jesLaneStat i) 1 0 =
    if i ∈ l then x % 4 else s.rf (Addr.jesLaneStat i) 1 0 := by
  induction l generalizing s with
  | nil => rfl
  | cons j l ih =>
    have hstep : (s.wf (Addr.jesLaneStat j) 1 0 x).rf (Addr.jesLaneStat i) 1 0 =
        if i = j then x % 4 else s.rf (Addr.jesLaneStat i) 1 0 := by
      by_cases h : i = j
      · rw [if_pos h, h, State.rf, State.rd_wf_same]
        exact fld_setFld_same _ 1 0 _ (by decide) (by decide)
      · rw [if_neg h, State.rf, State.rf, State.rd_wf_other _ _ _ _ fun e => h (jesLaneStat_inj e)]
    have hrest := ih (s.wf (Addr.jesLaneStat j) 1 0 x)
    rw [hstep] at hrest
    refine hrest.trans ?_
    by_cases hl : i ∈ l <;> by_cases hj : i = j <;> simp [hl, hj]

theorem jesCfg_apart (j : Nat) : Addr.jesCfg ≠ Addr.jesLaneStat j ∧ Addr.jesStat ≠ Addr.jesLaneStat j := by
  simp only [Addr.jesCfg, Addr.jesStat, Addr.jesLaneStat]
  omega

/-! ## The configuration (R107) -/

theorem exec_jesdConfigWrite {s : State} {src : Src} (v : W64) (h : TakesWrite s src .jesCfg 0 Addr.jesCfg) :
    exec (.jesdConfigWrite src v) s = .next (s.jesCfgWrite (s.stored Addr.jesCfg v)) := by
  rw [State.stored_of_locate locate_jesCfg]
  exact busWrite_takes v rfl h locate_jesCfg rfl rfl

/-- A configuration of the link that can be applied. -/
def jesFits (new : W64) : Bool := bit new 0 && jesOk new && ownerOf (fld new 58 56) != 0

/-- The link with its configuration written: down, its clock not aligned, its lanes not locked. -/
def State.jesDown (s : State) (new : W64) : State :=
  ((({ s.wr Addr.jesCfg new with jes := { s.jes with applied := jesFits new, lemc := none, inc := false } }.wb
    Addr.jesStat 0 false).wb Addr.jesStat 1 false).setLanes (List.range 4) 0)

theorem State.jesCfgWrite_eq (s : State) (new : W64) : s.jesCfgWrite new =
    if bit new 0 && !jesFits new then (s.jesDown new).wb Addr.jesStat 2 true else s.jesDown new := rfl

theorem State.jesDown_frame (s : State) (new : W64) : s.jesDown new =
    { s with regs := (s.jesDown new).regs, jes := { s.jes with applied := jesFits new, lemc := none, inc := false } } := by
  unfold State.jesDown
  rw [State.regsOnly_setLanes]
  rfl

theorem State.rd_cfg_jesDown (s : State) (new : W64) : (s.jesDown new).rd Addr.jesCfg = new := by
  unfold State.jesDown
  rw [State.rd_setLanes _ _ _ fun j => (jesCfg_apart j).1, State.rd_wb_other _ _ _ (by decide), State.rd_wb_other _ _ _ (by decide)]
  exact State.rd_wr_same _ _ _

/-- JES_STAT of the link that is down: neither up nor aligned, its other bits as before. -/
theorem State.rd_stat_jesDown (s : State) (new : W64) :
    (s.jesDown new).rd Addr.jesStat = setBit (setBit (s.rd Addr.jesStat) 0 false) 1 false := by
  have hkept : State.rd { s.wr Addr.jesCfg new with jes := { s.jes with applied := jesFits new, lemc := none, inc := false } }
      Addr.jesStat = s.rd Addr.jesStat := State.rd_wr_other _ _ (by decide)
  unfold State.jesDown
  rw [State.rd_setLanes _ _ _ fun j => (jesCfg_apart j).2, State.rd_wb_same, State.rd_wb_same, hkept]

theorem State.lane_jesDown (s : State) (new : W64) {l : Nat} (h : l < 4) : (s.jesDown new).rf (Addr.jesLaneStat l) 1 0 = 0 :=
  (State.lane_setLanes _ _ _ _).trans (if_pos (List.mem_range.mpr h))

/-- A write of JES_CFG takes the link down and applies the configuration, or sets CFGERR where it is to be up and cannot be. -/
theorem State.jesCfgWrite_cases (s : State) (new : W64) : ∃ t : State, t = s.jesDown new ∧
    (((bit new 0 && !jesFits new) = false ∧ s.jesCfgWrite new = t) ∨
     ((bit new 0 && !jesFits new) = true ∧ s.jesCfgWrite new = t.wb Addr.jesStat 2 true)) := by
  refine ⟨_, rfl, ?_⟩
  rw [State.jesCfgWrite_eq]
  cases bit new 0 && !jesFits new <;> simp

theorem State.jesCfgWrite_frame (s : State) (new : W64) : s.jesCfgWrite new =
    { s with regs := (s.jesCfgWrite new).regs, jes := { s.jes with applied := jesFits new, lemc := none, inc := false } } := by
  obtain ⟨t, rfl, ⟨-, hu⟩ | ⟨-, hu⟩⟩ := s.jesCfgWrite_cases new <;> rw [hu]
  · exact s.jesDown_frame new
  · rw [State.regsOnly_wb (s.jesDown new), s.jesDown_frame new]

theorem State.rd_jesCfgWrite (s : State) {off : Nat} (new : W64) (h : off ≠ Addr.jesStat) :
    (s.jesCfgWrite new).rd off = (s.jesDown new).rd off := by
  obtain ⟨t, rfl, ⟨-, hu⟩ | ⟨-, hu⟩⟩ := s.jesCfgWrite_cases new <;> rw [hu]
  exact State.rd_wb_other _ _ _ h

/-- JES_STAT after a configuration: neither up nor aligned, CFGERR set where the configuration is refused (R107). -/
theorem State.stat_jesCfgWrite (s : State) (new : W64) :
    (s.jesCfgWrite new).rb Addr.jesStat 0 = false ∧ (s.jesCfgWrite new).rb Addr.jesStat 1 = false ∧
    (s.jesCfgWrite new).rb Addr.jesStat 2 = (s.rb Addr.jesStat 2 || (bit new 0 && !jesFits new)) := by
  have hstat := s.rd_stat_jesDown new
  obtain ⟨t, rfl, ⟨herr, hu⟩ | ⟨herr, hu⟩⟩ := s.jesCfgWrite_cases new <;> rw [hu, herr] <;>
    simp [State.rb, hstat, bit_setBit_other]

/-! ## SYSREF and the lanes (R108, R838) -/

/-- The first edge after the configuration aligns the LEMC. -/
theorem exec_sysrefEdge_first {s : State} (phase : Nat) (hon : s.ingOn = true) (happ : s.jes.applied = true) (h : s.jes.lemc = none) :
    exec (.sysrefEdge phase) s = .next (({ s with jes := { s.jes with
      lemc := some (phase % ((s.rf Addr.jesCfg 42 39 + 1) * 32)) } }).wb Addr.jesStat 1 true) := by
  refine congrArg _ ((if_neg (by simp [hon, happ])).trans ?_)
  simp only [h]

/-- An edge that the LEMC agrees with, or that is not checked, does nothing. -/
theorem exec_sysrefEdge_agrees {s : State} {phase q : Nat} (hon : s.ingOn = true) (happ : s.jes.applied = true) (h : s.jes.lemc = some q)
    (hq : s.rb Addr.jesCfg 43 = false ∨ q = phase % ((s.rf Addr.jesCfg 42 39 + 1) * 32)) : exec (.sysrefEdge phase) s = .next s := by
  refine congrArg _ ((if_neg (by simp [hon, happ])).trans ?_)
  simp only [h]
  refine if_pos (hq.imp (fun h => by simp [h]) fun h => .inl ?_)
  rw [← h, Nat.add_sub_cancel_left, Nat.mod_self]
  exact Nat.zero_le 1

/-- The link with every lane of it locked. -/
def State.lanesLocked (s : State) : State := s.setLanes (List.range (s.rf Addr.jesCfg 24 23 + 1)) 3

/-- Where the LEMC is aligned, the lock of the lanes brings the link up and numbers its blocks from 0. -/
theorem exec_jesdLaneLock {s : State} (hon : s.ingOn = true) (happ : s.jes.applied = true) (hlemc : s.jes.lemc.isSome = true)
    (hdown : s.rb Addr.jesStat 0 = false) : exec .jesdLaneLock s =
      .next ((s.lanesLocked.setRing 8 { s.lanesLocked.ring 8 with seq := 0 }).wb Addr.jesStat 0 true) := by
  have hdown' : s.lanesLocked.rb Addr.jesStat 0 = false :=
    (congrArg (bit · 0) (s.rd_setLanes _ _ fun j => (jesCfg_apart j).2)).trans hdown
  have hlemc' : s.jes.lemc.isNone = false := by rw [← Option.not_isSome, hlemc]; rfl
  exact congrArg _ ((if_neg (by simp [hon, happ, hlemc'])).trans (if_neg (Bool.eq_false_iff.mp hdown')))

/-- A lock that is lost while the link is up leaves the block in progress incomplete (R134). -/
theorem exec_jesdLockLoss {s : State} {k : Nat} (hk : k < 4) (hon : s.ingOn = true) (hup : s.rb Addr.jesStat 0 = true) :
    exec (.jesdLockLoss k) s = .next (({ s.wf (Addr.jesLaneStat k) 1 0 0 with jes := { s.jes with inc := true } }).record
      (report 17 .signal k s.jesOwner)) := by
  have howner : State.jesOwner { s.wf (Addr.jesLaneStat k) 1 0 0 with jes := { s.jes with inc := true } } = s.jesOwner :=
    congrArg (fun v => ownerOf (fld v 58 56)) (State.rd_wf_other s _ _ _ (jesCfg_apart k).1)
  rw [← howner]
  exact (if_pos hk).trans (congrArg _ (if_neg (by simp [hon, hup])))

/-! ## Blocks (R115, R118) -/

theorem sample16_length (n : Nat) (v : W16) : (sample16 n v).length = 2 := bytesOf_length _ _

theorem descrBytes_length (p : Stamp) (src seq len calgen flags y : Nat) : (descrBytes p src seq len calgen flags y).length = 32 := by
  simp [descrBytes, bytesOf_length, zeros]

/-- A number written after o bytes is read back there. -/
theorem recNat_bytesOf {pre : List Byte} {o : Nat} (h : pre.length = o) (post : List Byte) (n x : Nat) :
    recNat (pre ++ (bytesOf n x ++ post)) o n = x % 256 ^ n := by
  rw [recNat, List.drop_left' h, List.take_left' (bytesOf_length n x), natOf_bytesOf]

theorem recNat_descrBytes_seq (p : Stamp) (src seq len calgen flags y : Nat) (data : List Byte) :
    recNat (descrBytes p src seq len calgen flags y ++ data) 16 4 = seq % 2 ^ 32 := by
  have hpre : (bytesOf 6 p.cnt.toNat ++ bytesOf 1 (p.axis + 4 * p.follower.toNat) ++ bytesOf 1 src ++ bytesOf 8 p.time).length = 16 := by
    simp [bytesOf_length]
  have h := recNat_bytesOf hpre
    (bytesOf 2 len ++ bytesOf 2 calgen ++ bytesOf 2 flags ++ bytesOf 2 y ++ bytesOf 1 p.slot ++ zeros 3 ++ data) 4 seq
  rw [show 2 ^ 32 = 256 ^ 4 by norm_num]
  simpa only [descrBytes, List.append_assoc] using h

/-- A block numbered and no longer marked incomplete, before it goes to ring 8. -/
def State.jesNumbered (s : State) : State :=
  State.setRing { s with jes := { s.jes with inc := false } } 8 { s.ring 8 with seq := ((s.ring 8).seq + 1) % 2 ^ 32 }

theorem samples_length (n need : Nat) (l : List W16) :
    (((l ++ List.replicate need 0).take need).flatMap (sample16 n)).length = 2 * need := by
  simp [List.length_flatMap, sample16_length, Nat.mul_comm]

/-- The samples of a block: of BLK frames, M converters and S samples (R115). -/
def State.jesNeed (s : State) : Nat := 64 * 2 ^ s.rf Addr.jesCfg 45 44 * (s.rf Addr.jesCfg 27 25 + 1) * ((s.rb Addr.jesCfg 38).toNat + 1)

/-- A block without CRC errors goes to ring 8 as a descriptor with its SEQ and as many samples as its frames hold. -/
theorem State.jesBlock_sound (s : State) (age : Nat) (samples : List W16) : ∃ p flags,
    s.jesBlock age samples [] = s.jesNumbered.ringPut 8
      (descrBytes p 8 (s.ring 8).seq (64 * 2 ^ s.rf Addr.jesCfg 45 44) 0 flags 0 ++
        ((samples ++ List.replicate s.jesNeed 0).take s.jesNeed).flatMap (sample16 (s.rf Addr.jesCfg 36 32 + 1))) :=
  ⟨_, _, rfl⟩

theorem exec_jesdBlockComplete {s : State} (age : Nat) (samples : List W16) (crc : List Nat) (hon : s.ingOn = true)
    (happ : s.jes.applied = true) (hup : s.rb Addr.jesStat 0 = true) :
    exec (.jesdBlockComplete age samples crc) s = .next (s.jesBlock age samples crc) :=
  congrArg _ (if_pos (by simp [hon, happ, hup]))

end Sys2Proof.Machine

open Sys2Proof Sys2Proof.Machine

/-- Settles O33: a trigger packet by the boundaries that serve it, a received record by the room in its buffer, a configuration of the
link by whether it fits, an edge by the LEMC that it finds. -/
theorem uplinksAndAdc : Obligations.UplinksAndAdc := by
  unfold Obligations.UplinksAndAdc
  intro s src k v hk
  refine ⟨?_, ?_, fun htake => ?_, ?_, ?_, ?_, fun htake => ?_, ?_, fun hon happ hlemc hdown => ?_,
    fun hon hup => exec_jesdLockLoss hk hon hup, fun age samples hon happ hup => ?_⟩
  · rintro b fin lo ch rfl hon hbusy hrisen hfin hnow hlo
    simp only [exec_uplinkTriggerRising b fin hk hon hbusy hrisen, Host.Outcome.next.injEq]
    exact State.ite_mayStart hlo hfin hnow
  · rintro b fin e lo ch rfl hon hbusy hrisen hfin hnow he hlo
    obtain rfl : e = (s.cam k).up.edge + s.trigWidth k := he
    simp only [exec_uplinkTriggerFalling b fin hk hon hbusy hrisen, Host.Outcome.next.injEq]
    exact State.ite_mayStart hlo hfin hnow
  · have hblock : Addr.cxpCamCtl k / 0x100000 = 4 := by unfold Addr.cxpCamCtl; omega
    obtain ⟨new, hlen, hexec⟩ := exec_controlSend v hk htake
    rw [State.ctlWrite_send k new (ingOn_of_takesWrite htake hblock), hlen] at hexec
    refine ⟨_, hexec, rfl, fun off h => State.rd_wr_other _ _ (by simpa using h), fun j hj => State.cam_setCam_other _ _ hj, ?_⟩
    rw [State.cam_setCam_same]
    refine ⟨rfl, State.bufRead_length _ _ _ _, fun i hi => ?_⟩
    rw [State.bufRead_length] at hi
    rw [State.bufRead_getD (Nat.min_le_left _ _) hi, State.rd_wr_other _ _ (cxpCtx_ne_camCtl k _ hk)]
  · rintro pay bs head tail hon hbs rfl rfl
    have hrec : bs = padded (bytesOf 4 pay.length ++ pay) := by rw [hbs, padded, List.length_append, bytesOf_length]
    rw [exec_controlReceive pay hk hon, State.receive_eq, hrec]
    exact ⟨fun h => congrArg _ (if_pos h), fun h => congrArg _ (if_neg (Nat.not_lt.mpr h))⟩
  · rintro pay bs head tail hon hbs rfl rfl
    have hrec : bs = padded (bytesOf 4 pay.length ++ bytesOf 8 s.time ++ pay) := by
      rw [hbs, padded, List.length_append, List.length_append, bytesOf_length, bytesOf_length]
    rw [exec_eventPacketReceive pay hk hon, State.receive_eq, hrec]
    exact ⟨fun h => congrArg _ (if_pos h), fun h => congrArg _ (if_neg (Nat.not_lt.mpr h))⟩
  · rintro hb rfl hon hcam hne
    rw [exec_heartbeat hk, Nat.mul_comm 400000]
    refine ⟨fun h => ?_, fun h => ?_⟩
    · rw [if_pos (State.hbDue_iff.mpr ⟨hon, hcam, hne, h⟩)]
    · rw [if_neg fun hdue => ?_]
      obtain ⟨-, -, -, hle⟩ := State.hbDue_iff.mp hdue
      exact absurd hle (Nat.not_le.mpr h)
  · let new := s.stored Addr.jesCfg v
    have hcfg : (s.jesCfgWrite new).rd Addr.jesCfg = new := (s.rd_jesCfgWrite new (by decide)).trans (s.rd_cfg_jesDown new)
    have hframe := s.jesCfgWrite_frame new
    have hjes : (s.jesCfgWrite new).jes = { s.jes with applied := jesFits new, lemc := none, inc := false } := congrArg State.jes hframe
    have hen : (s.jesCfgWrite new).rb Addr.jesCfg 0 = bit new 0 := congrArg (bit · 0) hcfg
    have howner : (s.jesCfgWrite new).jesOwner = ownerOf (fld new 58 56) := congrArg (fun v => ownerOf (fld v 58 56)) hcfg
    obtain ⟨hup, hlemc, herr⟩ := s.stat_jesCfgWrite new
    refine ⟨_, exec_jesdConfigWrite v htake, ?_, hcfg, by rw [hjes], ?_, hup, hlemc, ?_, fun l hl => ?_⟩
    · rw [hjes]
      exact hframe
    · rw [hjes, hen, hcfg, howner, Bool.eq_iff_iff]
      simp [jesFits]
    · rw [hjes, hen]
      exact herr
    · rw [State.rf, s.rd_jesCfgWrite new (jesCfg_apart l).2.symm]
      exact s.lane_jesDown new hl
  · rintro phase p hon happ rfl
    exact ⟨exec_sysrefEdge_first phase hon happ, fun h => exec_sysrefEdge_agrees hon happ h (.inr rfl),
      fun q h hfree => exec_sysrefEdge_agrees hon happ h (.inl hfree)⟩
  · have hlanes : s.RegsOnly s.lanesLocked := s.regsOnly_setLanes _ _
    have hring : s.lanesLocked.ring 8 = s.ring 8 := by rw [hlanes]; rfl
    refine ⟨_, exec_jesdLaneLock hon happ hlemc hdown, ?_, ?_, ?_, fun l hl => ?_⟩
    · rw [hlanes]
      rfl
    · rw [State.rb, State.rd_wb_same, bit_setBit_same _ _ (by decide)]
    · rw [← hring]
      exact State.ring_setRing_same _ _ _
    · rw [State.rf, State.rd_wb_other _ _ _ (jesCfg_apart l).2.symm, State.rd_setRing]
      exact (s.lane_setLanes _ _ l).trans (by simp only [List.mem_range, Nat.lt_succ_iff])
  · obtain ⟨p, flags, hblock⟩ := s.jesBlock_sound age samples
    refine ⟨s.jesNumbered, _, (exec_jesdBlockComplete age samples [] hon happ hup).trans (congrArg _ hblock), rfl,
      congrArg Ring.seq (State.ring_setRing_same _ _ _), rfl, recNat_descrBytes_seq _ _ _ _ _ _ _ _, ?_⟩
    rw [List.length_append, descrBytes_length, samples_length]
    rfl

end

section
/-! The verdict ledger: how a die is acquired, posted and forced (R158, R161, R162). -/

namespace Sys2Proof.Machine

open Sys2Proof

/-! ## Dies and verdict rings -/

@[simp] theorem State.die_setDie_same (s : State) (e : Nat) (x : Die) : (s.setDie e x).die e = x := Sparse.get_set_same _ _ _ _

theorem State.die_setDie_other (s : State) {e k : Nat} (x : Die) (h : k ≠ e) : (s.setDie e x).die k = s.die k :=
  Sparse.get_set_other _ _ _ h

@[simp] theorem State.vring_setVring_same (s : State) (r : Nat) (x : VRing) : (s.setVring r x).vring r = x := Sparse.get_set_same _ _ _ _

/-! ## Acquisition, posting, forcing -/

theorem State.maybePost_due {s : State} {e : Nat} (hst : (s.die e).st = .opened) (hacq : (s.die e).acq.isSome = true)
    (h : (s.die e).sealed = true ∧ (s.die e).openJobs = 0) : s.maybePost e = s.postDie e :=
  if_pos ⟨hst, hacq, h⟩

theorem State.maybePost_waits {s : State} {e : Nat} (h : ¬((s.die e).sealed = true ∧ (s.die e).openJobs = 0)) : s.maybePost e = s :=
  if_neg fun hall => h hall.2.2

/-- The scan axis meets END of an open die: it is ACQUIRED, and posted where nothing else is waited for (R158, R161). -/
theorem exec_dieAcquired_meets {s : State} {e : Nat} (he : e < 4096) (hon : s.ptbOn = true) (hst : (s.die e).st = .opened)
    (hacq : (s.die e).acq = none) (hend : condHolds (s.die e).dir (s.die e).endc (s.cnt (s.scanAxis (s.die e).part)) = true) :
    exec (.dieAcquired e) s =
      .next ((s.setDie e { s.die e with acq := some s.time, lostPos := s.axLost (s.scanAxis (s.die e).part) }).maybePost e) := by
  have hexec : exec (.dieAcquired e) s = execDieAcquired e s := rfl
  rw [hexec, execDieAcquired, if_pos he]
  exact congrArg _ (if_pos ⟨hon, hst, by rw [hacq]; rfl, hend⟩)

/-- A die still open 15,900 us after TEND is forced (R162). -/
theorem exec_dieForce_due {s : State} {e t : Nat} (he : e < 4096) (hst : (s.die e).st = .opened) (hacq : (s.die e).acq = some t)
    (hdue : t + 6360000 ≤ s.time) : exec (.dieForce e) s =
      .next (((s.setDie e { s.die e with forced := true }).sat (Addr.vdlPartStat (s.die e).part) 15 0 1).forceDie e 4) := by
  have hexec : exec (.dieForce e) s = execDieForce e s := rfl
  rw [hexec, execDieForce, if_pos he]
  simp only [hacq]
  exact congrArg _ (if_pos ⟨hst, hdue⟩)

end Sys2Proof.Machine

open Sys2Proof Sys2Proof.Machine

/-- Settles O24: the two commands on an open die, the first posting it where it is sealed and has no open job. -/
theorem dieEvents : Obligations.DieEvents := by
  unfold Obligations.DieEvents
  rintro s e tend d he rfl hst
  refine ⟨fun hon hacq hend => ?_, fun hacq hdue => exec_dieForce_due he hst hacq hdue⟩
  rintro a rfl
  rw [exec_dieAcquired_meets he hon hst hacq hend]
  refine ⟨fun h => congrArg _ (State.maybePost_due ?_ ?_ ?_), fun h => congrArg _ (State.maybePost_waits ?_)⟩
  all_goals rw [State.die_setDie_same]
  · exact hst
  · rfl
  · exact h
  · exact h

end

section
/-! What a write of memory leaves unchanged, with the failures of lines and bursts that it may find (R546 to R559, R664, R671 to R681). -/

namespace Sys2Proof.Machine

open Sys2Proof

/-- Two states differ at most in memory, in registers, and in what the health ledger and the memory channels keep of failures. -/
def State.StoreOnly (s t : State) : Prop :=
  t = { s with regs := t.regs, mem := t.mem, lines := t.lines, recs := t.recs, evrings := t.evrings, threads := t.threads,
               health := t.health, badLines := t.badLines, spares := t.spares, groupsOut := t.groupsOut, mig := t.mig,
               freeCtr := t.freeCtr }

theorem State.StoreOnly.refl (s : State) : s.StoreOnly s := rfl

theorem State.StoreOnly.trans {s t u : State} (h : s.StoreOnly t) (h' : t.StoreOnly u) : s.StoreOnly u := by
  unfold State.StoreOnly at *
  rw [h', h]

theorem State.RegsOnly.storeOnly {s t : State} (h : s.RegsOnly t) : s.StoreOnly t := by
  unfold State.RegsOnly at h
  unfold State.StoreOnly
  rw [h]

theorem State.StoreOnly.queued {s t : State} (h : s.StoreOnly t) : t.queued = s.queued := by
  unfold State.StoreOnly at h
  rw [h]

theorem State.StoreOnly.ite {s t u : State} {c : Prop} [Decidable c] (ht : s.StoreOnly t) (hu : s.StoreOnly u) :
    s.StoreOnly (if c then t else u) := by
  split
  · exact ht
  · exact hu

/-- A step taken where a condition holds. -/
theorem State.StoreOnly.also {s t u : State} {c : Prop} [Decidable c] (h : s.StoreOnly t) (step : s.StoreOnly t → s.StoreOnly u) :
    s.StoreOnly (if c then u else t) := .ite (step h) h

/-- A step taken where a condition fails. -/
theorem State.StoreOnly.unless {s t u : State} {c : Prop} [Decidable c] (h : s.StoreOnly t) (step : s.StoreOnly t → s.StoreOnly u) :
    s.StoreOnly (if c then t else u) := .ite h (step h)

theorem State.storeOnly_foldl {α : Type} {f : State → α → State} (hf : ∀ (s : State) a, s.StoreOnly (f s a)) (l : List α) (s : State) :
    s.StoreOnly (l.foldl f s) := by
  induction l generalizing s with
  | nil => exact .refl s
  | cons a l ih => exact (hf s a).trans (ih (f s a))

/-! ## One more update -/

section

variable {s t : State}

theorem State.StoreOnly.wr (h : s.StoreOnly t) (off : Nat) (v : W64) : s.StoreOnly (t.wr off v) := h.trans rfl
theorem State.StoreOnly.wf (h : s.StoreOnly t) (off hi lo x : Nat) : s.StoreOnly (t.wf off hi lo x) := h.trans rfl
theorem State.StoreOnly.wb (h : s.StoreOnly t) (off i : Nat) (b : Bool) : s.StoreOnly (t.wb off i b) := h.trans rfl
theorem State.StoreOnly.sat (h : s.StoreOnly t) (off hi lo n : Nat) : s.StoreOnly (t.sat off hi lo n) := h.trans rfl
theorem State.StoreOnly.inc (h : s.StoreOnly t) (off hi lo n : Nat) : s.StoreOnly (t.inc off hi lo n) := h.trans rfl
theorem State.StoreOnly.setHu (h : s.StoreOnly t) (k u : Nat) (x : UnitH) : s.StoreOnly (t.setHu k u x) := h.trans rfl
theorem State.StoreOnly.setLine (h : s.StoreOnly t) (k : Nat) (m : LineMeta) : s.StoreOnly (t.setLine k m) := h.trans rfl

theorem State.StoreOnly.supEvent (h : s.StoreOnly t) : s.StoreOnly t.supEvent := by
  refine h.trans ?_
  unfold State.supEvent
  split <;> rfl

theorem State.StoreOnly.evPush (h : s.StoreOnly t) (f type : Nat) (body : List Byte) : s.StoreOnly (t.evPush f type body).2 := by
  refine h.trans ?_
  unfold State.evPush
  dsimp only
  split <;> rfl

theorem State.StoreOnly.newRec (h : s.StoreOnly t) (r : Report) : s.StoreOnly (t.newRec r) := by
  refine h.trans ?_
  have hrecs : ∀ {u : State}, t.StoreOnly u → ∀ m, t.StoreOnly { u with recs := m } := fun h _ => h.trans rfl
  have hcount := fun n lo => ((((State.StoreOnly.refl t).wf Addr.errHead 31 0 n).sat Addr.errCnt (lo + 15) lo 1).sat Addr.hltSummary 15 0 1)
  unfold State.newRec
  dsimp only
  by_cases hp : r.part = 0
  · rw [if_pos hp]
    refine .ite (.supEvent ?_) ?_
    all_goals exact hrecs ((hcount _ _).evPush _ _ _) _
  · rw [if_neg hp]
    refine .ite (.supEvent ?_) ?_
    all_goals exact hrecs (((hcount _ _).evPush _ _ _).evPush _ _ _) _

theorem State.StoreOnly.record (h : s.StoreOnly t) (r : Report) : s.StoreOnly (t.record r) := by
  unfold State.record
  dsimp only
  split
  · exact h.trans rfl
  · exact h.newRec r

/-! ## Suspicion and retirement of SRAM groups and memory channels -/

theorem State.StoreOnly.susSync (h : s.StoreOnly t) (k u : Nat) : s.StoreOnly (t.susSync k u) := by
  have hsus := h.wb (susBit k u).1 (susBit k u).2 (t.suspect k u)
  have hmark := State.StoreOnly.ite (c := k = 1) (hsus.wb (Addr.mtTileStat (u / 8) (u % 8)) 3 (t.suspect k u))
    (.ite (c := k = 2) (hsus.wb (Addr.veEngStat (u / 2) (u % 2)) 3 (t.suspect k u)) hsus)
  exact .ite (hmark.record _) hmark

theorem State.StoreOnly.rollWindow (h : s.StoreOnly t) (k u : Nat) : s.StoreOnly (t.rollWindow k u) :=
  .ite ((h.setHu _ _ _).susSync _ _) h

theorem State.StoreOnly.alertSync (h : s.StoreOnly t) : s.StoreOnly t.alertSync := by
  unfold State.alertSync
  exact h.wb _ _ _

theorem State.StoreOnly.floorCheck (h : s.StoreOnly t) (k u : Nat) : s.StoreOnly (t.floorCheck k u) := by
  unfold State.floorCheck
  have hbits := (h.wb Addr.hltStat 1 (!t.aboveFloor)).wb Addr.hltSummary 16 (!t.aboveFloor)
  exact (State.StoreOnly.ite (hbits.record _).supEvent hbits).alertSync

theorem State.StoreOnly.rotSync (h : s.StoreOnly t) : s.StoreOnly t.rotSync := by
  unfold State.rotSync
  split
  · exact (h.wb _ _ _).wr _ _
  · exact (h.wb _ _ _).wr _ _

theorem State.StoreOnly.setMig (h : s.StoreOnly t) (m : Option Mig) : s.StoreOnly { t with mig := m } := h.trans rfl

theorem State.StoreOnly.startMig (h : s.StoreOnly t) (slot src dst : Nat) (upper retire : Bool) :
    s.StoreOnly (t.startMig slot src dst upper retire) := by
  have hrot := (((h.wf (Addr.memChStat src) 2 0 2).wf (Addr.memChStat dst) 2 0 3).setMig (some ⟨slot, src, dst, upper, 0, retire⟩)).rotSync
  exact .ite (hrot.record _) hrot

theorem State.StoreOnly.dropMig (h : s.StoreOnly t) : s.StoreOnly t.dropMig := by
  unfold State.dropMig
  split
  · exact h
  · exact (((h.setMig none).wf _ _ _ _).wf _ _ _ _).rotSync

theorem State.StoreOnly.noTarget (h : s.StoreOnly t) (f : Nat) : s.StoreOnly (t.noTarget f) := by
  refine .ite ((h.trans (State.storeOnly_foldl (fun u n => ?_) _ _)).wf _ _ _ _) ?_
  · exact (State.StoreOnly.refl u).wb _ _ _
  · exact (((h.wb _ _ _).wb _ _ _).record _).supEvent.alertSync

theorem State.StoreOnly.evacuate (h : s.StoreOnly t) (f : Nat) : s.StoreOnly (t.evacuate f) := by
  unfold State.evacuate
  split
  · exact h.wf _ _ _ _
  · split
    · exact h.startMig _ _ _ _ _
    · exact h.noTarget f

theorem State.StoreOnly.retireChan (h : s.StoreOnly t) (f : Nat) : s.StoreOnly (t.retireChan f) := by
  unfold State.retireChan
  split
  · exact .ite (h.setMig _) (.ite (h.dropMig.wf _ _ _ _) (.ite (h.wf _ _ _ _) (.ite h (h.dropMig.evacuate f))))
  · exact .ite (h.wf _ _ _ _) (h.evacuate f)

/-- The retirement of a unit, with the effect that Table 15.3 gives to its kind. -/
theorem State.StoreOnly.retire (h : s.StoreOnly t) {k u : Nat} (heff : ∀ v : State, v.StoreOnly (v.retireEffect k u)) :
    s.StoreOnly (t.retire k u) := by
  have hret := h.wb (Addr.hltKindRet k) u true
  unfold State.retire
  refine .ite h (.floorCheck (.trans (.supEvent (.record (.sat ?_ _ _ _ _) _)) (heff _)) _ _)
  split
  · dsimp only
    split
    · exact (hret.wb _ _ _).wb _ _ _
    · exact hret.wb _ _ _
  · exact hret

theorem State.StoreOnly.retire_tile (h : s.StoreOnly t) (u : Nat) : s.StoreOnly (t.retire 1 u) := h.retire .refl

theorem State.StoreOnly.retire_channel (h : s.StoreOnly t) (u : Nat) : s.StoreOnly (t.retire 11 u) :=
  h.retire fun v => (State.StoreOnly.refl v).retireChan u

theorem State.StoreOnly.spareGroup (h : s.StoreOnly t) (g : Nat) : s.StoreOnly (t.spareGroup g) := by
  refine .ite (.retire_tile (.susSync (.setHu (h.trans ?_) _ _ _) _ _) _) (.susSync (.setHu (h.trans ?_) _ _ _) _ _)
  all_goals
    refine State.storeOnly_foldl (fun u l => .ite (.refl u) ?_) _ _
    refine .ite (.record (.sat (.setLine ?_ _ _) _ _ _ _) _) (.supEvent (.sat (.wb ?_ _ _ _) _ _ _ _))
  all_goals rfl

/-! ## Detected errors and exhaustions of SRAM groups and memory channels (R664, R671) -/

theorem State.StoreOnly.declare_group (h : s.StoreOnly t) (u : Nat) : s.StoreOnly (t.declare 10 u) :=
  (h.sat _ _ _ _).spareGroup u

theorem State.StoreOnly.declare_channel (h : s.StoreOnly t) (u : Nat) : s.StoreOnly (t.declare 11 u) :=
  (h.sat _ _ _ _).retire_channel u

theorem State.StoreOnly.detect (h : s.StoreOnly t) {k u : Nat} (hdec : ∀ {v : State}, s.StoreOnly v → s.StoreOnly (v.declare k u)) :
    s.StoreOnly (t.detect k u) := by
  have herr := (((h.rollWindow k u).setHu k u { (t.rollWindow k u).hu k u with errs := ((t.rollWindow k u).hu k u).errs + 1 }).sat
    (Addr.hltKindCnt k) 63 32 1).susSync k u
  exact .ite (hdec herr) herr

theorem State.StoreOnly.exhaust (h : s.StoreOnly t) {k u : Nat} (hdec : ∀ {v : State}, s.StoreOnly v → s.StoreOnly (v.declare k u)) :
    s.StoreOnly (t.exhaust k u) := by
  refine .ite (hdec ?_) ?_
  all_goals exact (((h.setHu _ _ _).sat _ _ _ _).susSync _ _).record _

/-! ## Failing lines and bursts (R556, R664) -/

theorem State.StoreOnly.lineFail (h : s.StoreOnly t) (a : Nat) : s.StoreOnly (t.lineFail a) := by
  unfold State.lineFail
  refine .ite (.exhaust (.detect (.record ?_ _) (·.declare_group _)) (·.declare_group _)) (.detect (.record ?_ _) (·.declare_group _))
  all_goals exact h.trans rfl

theorem State.StoreOnly.tagErr (h : s.StoreOnly t) (p a : Nat) : s.StoreOnly (t.tagErr p a) := by
  unfold State.tagErr
  split <;> exact (h.sat _ _ _ _).record _

theorem State.StoreOnly.burstFail (h : s.StoreOnly t) (a : Nat) (count : Bool) : s.StoreOnly (t.burstFail a count) := by
  unfold State.burstFail
  refine .ite (.exhaust (.record ?_ _) (·.declare_channel _)) (.record ?_ _)
  all_goals exact h.trans rfl

theorem State.StoreOnly.burstRetry (h : s.StoreOnly t) (ch n : Nat) : s.StoreOnly (t.burstRetry ch n) := by
  induction n generalizing t with
  | zero => exact h
  | succ n ih => exact ih (.detect (h.sat _ _ _ _) (·.declare_channel _))

/-! ## Writes of memory (R547, R550, R559) -/

theorem State.StoreOnly.countOps (h : s.StoreOnly t) (k u n : Nat) : s.StoreOnly (t.countOps k u n) :=
  .ite h (h.setHu _ _ _)

theorem State.StoreOnly.setBytes (h : s.StoreOnly t) (k : Nat) (l : List Byte) : s.StoreOnly (t.setBytes k l) := by
  induction l generalizing t k with
  | nil => exact h
  | cons b l ih => exact ih (t := t.setByte k b) (h.trans rfl) (k + 1)

theorem State.StoreOnly.writeLine (h : s.StoreOnly t) (tag la o : Nat) (bs : List Byte) : s.StoreOnly (t.writeLine tag la o bs) := by
  unfold State.writeLine
  dsimp only
  refine .ite (.ite h (.setLine (.setBytes ?_ _ _) _ _)) (.ite h (.trans ?_ (State.storeOnly_foldl (fun u k => ?_) _ _)))
  · refine .also (.also (.also (.also (.also h ?_) ?_) ?_) ?_) ?_
    · exact (·.trans rfl)
    · exact (·.countOps _ _ _)
    · exact fun h => (h.lineFail la).lineFail la
    · exact (·.tagErr _ _)
    · exact (·.setBytes _ _)
  · refine .also (.also (.unless ((h.inc _ _ _ _).countOps _ _ _) ?_) ?_) ?_
    · exact fun h => (h.inc _ _ _ _).countOps _ _ _
    · exact fun h => (h.burstRetry _ _).burstFail _ _
    · exact (·.tagErr _ _)
  · exact .setLine (.setBytes (.also (.refl u) (·.setBytes _ _)) _ _) _ _

theorem State.StoreOnly.writeMem (h : s.StoreOnly t) (tag a : Nat) (bs : List Byte) : s.StoreOnly (t.writeMem tag a bs) := by
  refine h.trans (State.storeOnly_foldl (fun u q => ?_) _ _)
  exact (State.StoreOnly.refl u).writeLine _ _ _ _

end

end Sys2Proof.Machine
end

section
/-! PASS and VERD: their block, the job that a PASS makes, what VERD does to a die (R146 to R168, R271 to R274). -/

namespace Sys2Proof.Machine

open Sys2Proof

/-! ## The block -/

/-- The block of a PASS or VERD that is aligned, lies in the cluster's SRAM and is read without a failure. -/
theorem State.withBlock_read {s u : State} {t n flt d : Nat} {a : W64} {b : List Byte} (f : State → List Byte → State)
    (hal : a.toNat % n = 0) (haddr : s.blockAddr t a.toNat n = some d) (hread : s.readMem (s.thPart t) d n flt = ⟨u, b, true⟩) :
    s.withBlock t a n flt f = f u b := by
  rw [State.withBlock, if_neg (not_not.mpr hal), State.withBytes, haddr]
  simp only [hread, if_pos]

/-- The field sel of a PASS or VERD that names a partition only for the supervisor thread (R271, R273). -/
theorem sel_permitted {t n : Nat} (h : n < 8 ∧ (t = supTid ∨ n = 0)) : ¬(8 ≤ n ∨ (t ≠ supTid ∧ n ≠ 0)) := by
  obtain ⟨hlt, hsup⟩ := h
  rintro (h8 | ⟨ht, hn⟩)
  · omega
  · exact hsup.elim ht hn

theorem exec_pass_read {s u : State} {t flt mflt d : Nat} {gd ga : Reg} {sel : BitVec 16} {b : List Byte} (hruns : Runs s t)
    (hsel : sel.toNat < 8 ∧ (t = supTid ∨ sel.toNat = 0)) (hal : ((s.thread t).gr ga).toNat % 64 = 0)
    (haddr : s.blockAddr t ((s.thread t).gr ga).toNat 64 = some d) (hread : s.readMem (s.thPart t) d 64 flt = ⟨u, b, true⟩) :
    exec (.pass t gd ga sel flt mflt) s = .next (u.passBlock t gd sel.toNat mflt b) := by
  have hexec : exec (.pass t gd ga sel flt mflt) s = execPass t gd ga sel flt mflt s := rfl
  rw [hexec, execPass, instr_runs hruns, if_neg (sel_permitted hsel), State.withBlock_read _ hal haddr hread]

/-! ## PASS -/

theorem State.passBlock_last {s : State} {t : Nat} {j : Job} (gd : Reg) (sel mflt : Nat) (b : List Byte) (hjob : s.jobOn t = some j)
    (h : j.tier = 3) : s.passBlock t gd sel mflt b = s.retG t gd 2 := by
  simp [State.passBlock, hjob, h]

theorem State.passBlock_noPart {s : State} {t sel : Nat} (gd : Reg) (mflt : Nat) (b : List Byte) (hpart : s.namedPart t sel = none)
    (h : ∀ j, s.jobOn t = some j → j.tier ≠ 3) : s.passBlock t gd sel mflt b = s.retG t gd 6 := by
  have htier : (s.jobOn t).map (·.tier) ≠ some 3 := by simpa using h
  simp [State.passBlock, htier, hpart]

section

variable {s v : State} {t sel p mflt : Nat} {b : List Byte} (gd : Reg) (hpart : s.namedPart t sel = some p)

include hpart

theorem State.passBlock_refused (mflt : Nat) (hjob : ∀ j, s.jobOn t = some j → j.tier ≠ 3)
    (h : s.partActive p = false ∨ recordOk b = false) : s.passBlock t gd sel mflt b = s.retG t gd 6 := by
  have htier : (s.jobOn t).map (·.tier) ≠ some 3 := by simpa using hjob
  have hbad : (!s.partActive p || !recordOk b) = true := by simpa using h
  simp only [State.passBlock, htier, hpart, hbad, if_true, if_false]

variable (hact : s.partActive p = true) (hrec : recordOk b = true)

include hact hrec

theorem State.passBlock_invalid {m : ModelEntry} (hjob : ∀ j, s.jobOn t = some j → j.tier ≠ 3)
    (hread : s.readModel p (s.makeJob p b (s.jobOn t)).entry mflt = (v, some m)) (h : m.valid = false) :
    s.passBlock t gd sel mflt b = v.retG t gd 6 := by
  have htier : (s.jobOn t).map (·.tier) ≠ some 3 := by simpa using hjob
  simp [State.passBlock, htier, hpart, hact, hrec, hread, h]

/-- Outside a job, with no die: the job that the record makes joins its queue (R147, R149). -/
theorem State.passBlock_first {m : ModelEntry} (hjob : s.jobOn t = none)
    (hread : s.readModel p (s.makeJob p b none).entry mflt = (v, some m)) (hvalid : m.valid = true) (hdie : (s.makeJob p b none).die = 0)
    (hroom : (v.queued.filter fun q => q.part == p && q.tier == (s.makeJob p b none).tier).length < v.qDepth p (s.makeJob p b none).tier) :
    s.passBlock t gd sel mflt b = ((v.enqueue (s.makeJob p b none) none).retG t gd 0).watchNew (s.makeJob p b none) := by
  have hopen : v.openDie 0 = none := by simp [State.openDie]
  simp [State.passBlock, hjob, hpart, hact, hrec, hread, hvalid, hdie, hopen, hroom]

/-- From a job with a die that can take one more: the job joins the queue of the next tier (R147, R148). -/
theorem State.passBlock_next {m : ModelEntry} {k : Job} {e : Nat} (hjob : s.jobOn t = some k) (htier : k.tier ≠ 3)
    (hread : s.readModel p (s.makeJob p b (some k)).entry mflt = (v, some m)) (hvalid : m.valid = true) (hopen : v.openDie k.die = some e)
    (hpass : k.npass < max 1 (v.rf (Addr.vdlPartCfg p) 15 8)) (hnjob : (v.die e).njob < 65535)
    (hroom : (v.queued.filter fun q => q.part == p && q.tier == k.tier + 1).length < v.qDepth p (k.tier + 1)) :
    s.passBlock t gd sel mflt b =
      ((v.enqueue (s.makeJob p b (some k)) (some (thClu t, thCtx t))).retG t gd 0).watchNew (s.makeJob p b (some k)) := by
  have hdie : (s.makeJob p b (some k)).die = k.die := rfl
  have hup : (s.makeJob p b (some k)).tier = k.tier + 1 := rfl
  have hfits : ¬(1 ≤ k.npass ∧ v.rf (Addr.vdlPartCfg p) 15 8 ≤ k.npass ∨ 65535 ≤ (v.die e).njob) := by omega
  simp [State.passBlock, hjob, htier, hpart, hact, hrec, hread, hvalid, hdie, hup, hopen, hfits, Nat.not_le.mpr hroom]

end

/-- A job joins its queue behind the ones that are there. -/
theorem State.queued_enqueue (s : State) (j : Job) (by_ : Option (Nat × Nat)) : (s.enqueue j by_).queued = s.queued ++ [j] := by
  unfold State.enqueue
  have hmem := fun (u : State) (a : Nat) (l : List Byte) => ((State.StoreOnly.refl u).writeMem j.part a l).queued
  dsimp only
  split <;> split <;> simp [State.accIssued, hmem]

end Sys2Proof.Machine

open Sys2Proof Sys2Proof.Machine

/-- Settles O21: the statuses of PASS that its record and its partition decide, and the two ways in which it makes a job. -/
theorem passCreatesJobs : Obligations.PassCreatesJobs := by
  unfold Obligations.PassCreatesJobs
  rintro s u v t flt mflt d gd ga sel b m hruns ⟨hlt, hsup⟩ hal haddr hread
  rw [exec_pass_read hruns ⟨hlt, hsup.imp id (congrArg _)⟩ hal haddr hread]
  refine ⟨fun j hjob htier => congrArg _ (State.passBlock_last gd _ mflt b hjob htier), fun p hpart htier => ⟨fun h => ?_, fun hact hrec hmodel =>
    ⟨fun hvalid => ?_, fun hvalid hjob hdie hroom => ?_, fun k e hvalid hjob hdie hopen hpass hnjob hroom => ?_⟩⟩,
    fun hpart htier => congrArg _ (State.passBlock_noPart gd mflt b hpart htier)⟩
  · exact congrArg _ (State.passBlock_refused gd hpart mflt htier h)
  · exact congrArg _ (State.passBlock_invalid gd hpart hact hrec htier hmodel hvalid)
  · rw [hjob] at hmodel
    exact ⟨_, congrArg _ (State.passBlock_first gd hpart hact hrec hjob hmodel hvalid hdie hroom), State.queued_enqueue _ _ _,
      rfl, rfl, hdie, rfl, rfl, rfl, rfl, rfl, rfl⟩
  · rw [hjob] at hmodel
    exact ⟨_, congrArg _ (State.passBlock_next gd hpart hact hrec hjob (htier k hjob) hmodel hvalid hopen hpass hnjob hroom),
      rfl, rfl, rfl, rfl, rfl, rfl⟩

end

section
/-! VERD: what OPEN, POST, SEAL and CLOSE do to a die entry (R155 to R168). -/

namespace Sys2Proof.Machine

open Sys2Proof

/-! ## The four operations with their block read -/

theorem State.verd_read {s u : State} {t flt d p : Nat} {gd ga : Reg} {q : BitVec 14} {b : List Byte} (op : Nat)
    (f : State → Nat → List Byte → State) (hsel : q.toNat < 8 ∧ (t = supTid ∨ q.toNat = 0)) (hal : ((s.thread t).gr ga).toNat % 32 = 0)
    (haddr : s.blockAddr t ((s.thread t).gr ga).toNat 32 = some d) (hread : s.readMem (s.thPart t) d 32 flt = ⟨u, b, true⟩)
    (hpart : u.namedPart t q.toNat = some p) (hact : u.partActive p = true) : s.verd t gd ga q op flt f = f u p b := by
  rw [State.verd, if_neg (sel_permitted hsel), State.withBlock_read _ hal haddr hread]
  simp only [hpart, hact, if_true]

/-! ## OPEN (R155 to R159) -/

/-- The die entry that an OPEN of partition p makes of entry e (Table 4.5). -/
def State.openedDie (s : State) (p e : Nat) (b : List Byte) : Die :=
  let dir := recNat b 5 1 == 1
  let endc : Cnt := BitVec.ofNat 48 (recNat b 8 6)
  let now := condHolds dir endc (s.cnt (s.scanAxis p))
  { die0 with st := .opened, gen := nextGen (s.die e).gen, part := p, dieid := recNat b 0 4, ring := recNat b 4 1, dir := dir, endc := endc,
              acq := if now then some s.time else none, lateOpen := now, lostPos := now && s.axLost (s.scanAxis p) }

/-- An OPEN's block that is in order, for a ring that its partition owns and that is enabled (R155, R156). -/
def State.openOk (s : State) (p : Nat) (b : List Byte) : Prop :=
  recNat b 4 1 < 8 ∧ recNat b 5 1 ≤ 1 ∧ allZero ((b.drop 6).take 2) = true ∧ allZero (b.drop 14) = true ∧
    ownerOf (fld (s.rd (Addr.vdlRingCfg (recNat b 4 1))) 3 1) = p ∧ bit (s.rd (Addr.vdlRingCfg (recNat b 4 1))) 0 = true

section

variable {s : State} {p : Nat} {b : List Byte} (t : Nat) (gd : Reg) (hok : s.openOk p b)

include hok

theorem State.openBlock_room {e : Nat} (hen : s.rb (Addr.vdlPartCfg p) 0 = true) (hroom : s.inUse p < s.quota p)
    (hfind : (List.range 4096).find? (fun i => (s.die i).st == .free) = some e) : s.openBlock t gd p b =
      ((s.setDie e (s.openedDie p e b)).useSync p).retG t gd (BitVec.ofNat 64 (dieHandle e (nextGen (s.die e).gen))) := by
  obtain ⟨hring, hdir, hres1, hres2, hown, hon⟩ := hok
  simp [State.openBlock, Nat.not_le.mpr hring, Nat.not_lt.mpr hdir, hres1, hres2, hown, hon, hen, Nat.not_le.mpr hroom, hfind, State.openedDie]

theorem State.openBlock_full (h : s.quota p ≤ s.inUse p ∨ ∀ i, i < 4096 → (s.die i).st ≠ .free) : s.openBlock t gd p b = s.retG t gd 9 := by
  obtain ⟨hring, hdir, hres1, hres2, hown, hon⟩ := hok
  have hno : s.quota p ≤ s.inUse p ∨ (List.range 4096).find? (fun i => (s.die i).st == .free) = none :=
    h.imp id fun hall => by simpa using hall
  obtain hquota | hfind := hno
  · simp [State.openBlock, Nat.not_le.mpr hring, Nat.not_lt.mpr hdir, hres1, hres2, hown, hon, hquota]
  · simp [State.openBlock, Nat.not_le.mpr hring, Nat.not_lt.mpr hdir, hres1, hres2, hown, hon, hfind]

end

/-! ## POST (R153, R167, R168, R231) -/

theorem State.jobOn_some {s : State} {t : Nat} {j : Job} (h : s.jobOn t = some j) : (s.ctx (thClu t) (thCtx t)).job = j := by
  unfold State.jobOn at h
  split at h
  · exact Option.some.inj h
  · exact absurd h (by simp)

/-- The context of a thread with its job marked as posted. -/
def State.postedCtx (s : State) (t : Nat) : Ctx :=
  { s.ctx (thClu t) (thCtx t) with job := { (s.ctx (thClu t) (thCtx t)).job with posted := 1 } }

section

variable {s : State} {t out : Nat} {j : Job} (hjob : s.jobOn t = some j)

include hjob

theorem State.postDetached_again (h : j.posted ≠ 0 ∨ 4 ≤ out) : s.postDetached t out = s := by
  rw [State.postDetached, State.jobOn_some hjob]
  exact if_pos h

theorem State.postDetached_first (hp : j.posted = 0) (hout : out < 3) :
    s.postDetached t out = s.putCtx (thClu t) (thCtx t) (s.postedCtx t) := by
  have hno : ¬(j.posted ≠ 0 ∨ 4 ≤ out) := by omega
  simp only [State.postDetached, State.postedCtx, State.jobOn_some hjob, if_neg hno, if_neg (by omega : ¬out = 3)]

theorem State.postDetached_defer (hp : j.posted = 0) (hout : out = 3) : s.postDetached t out =
    (s.accDeferred j.part j.client).putCtx (thClu t) (thCtx t) (s.postedCtx t) := by
  have hno : ¬(j.posted ≠ 0 ∨ 4 ≤ out) := by omega
  simp only [State.postDetached, State.postedCtx, State.jobOn_some hjob, if_neg hno, if_pos hout]

variable (gd : Reg) (p : Nat) {b : List Byte}

theorem State.postBlock_detached (h : j.die = 0) : s.postBlock t gd p b = (s.postDetached t (recNat b 0 1)).retG t gd 8 := by
  simp only [State.postBlock, hjob, if_pos h]

/-- A POST of a DEFECT with its class and no reserved byte set is decided by what the job has posted (Table 4.6). -/
theorem State.postBlock_defect (hdie : j.die ≠ 0) (hout : recNat b 0 1 = 2) (hcls : recNat b 1 1 ≠ 0)
    (hres : allZero ((b.drop 2).take 14) = true) :
    (j.posted = 1 → s.postBlock t gd p b = s.retG t gd 7) ∧
    (j.posted = 2 → s.postBlock t gd p b = (s.staleCount p).retG t gd 3) ∧
    (j.posted = 0 → (s.openDie j.die).isSome = true → ∃ k w, postContrib j 2 (recNat b 1 1) ((b.drop 16).take 16) = some k ∧
      w = s.contribute j.die k ∧ s.postBlock t gd p b = (w.putCtx (thClu t) (thCtx t)
        { w.ctx (thClu t) (thCtx t) with job := { j with posted := 1 } }).retG t gd 0) := by
  have hchecks : (decide (4 ≤ recNat b 0 1) || (recNat b 0 1 == 2) == (recNat b 1 1 == 0) || !allZero ((b.drop 2).take 14)) = false := by
    simp [hout, hcls, hres]
  refine ⟨fun hp => ?_, fun hp => ?_, fun hp hopen => ⟨_, _, rfl, rfl, ?_⟩⟩
  all_goals simp only [State.postBlock, hjob, if_neg hdie, hchecks]
  · simp [hp]
  · simp [hp]
  · have hsome : (s.openDie j.die).isNone = false := by simpa using hopen
    simp [hp, hsome, hout, postContrib]

end

/-! ## SEAL and CLOSE (R160, R161, R164) -/

/-- Entry e as a CLOSE of partition p leaves it before it is forced: TEND is the time where END has not been met (R164). -/
def State.closedDie (s : State) (p e : Nat) : Die :=
  { s.die e with closed := true, acq := some ((s.die e).acq.getD s.time),
                 lostPos := if (s.die e).acq.isSome then (s.die e).lostPos else s.axLost (s.scanAxis p) }

section

variable {s : State} {p : Nat} {b : List Byte} (t : Nat) (gd : Reg) (hres : allZero (b.drop 4) = true)

include hres

theorem State.sealBlock_open (h : s.handleStatus p (recNat b 0 4) false = 0) : s.sealBlock t gd p b =
    ((s.setDie (recNat b 0 4 % 4096) { s.die (recNat b 0 4 % 4096) with sealed := true }).retG t gd 0).maybePost (recNat b 0 4 % 4096) := by
  simp [State.sealBlock, hres, h]

theorem State.closeBlock_open (h : s.handleStatus p (recNat b 0 4) false = 0) : s.closeBlock t gd p b =
    ((s.setDie (recNat b 0 4 % 4096) (s.closedDie p (recNat b 0 4 % 4096))).retG t gd 0).forceDie (recNat b 0 4 % 4096) 5 := by
  simp [State.closeBlock, State.closedDie, hres, h]

theorem State.sealClose_stale (h : s.handleStatus p (recNat b 0 4) false = 3) :
    s.sealBlock t gd p b = (s.staleCount p).retG t gd 3 ∧ s.closeBlock t gd p b = (s.staleCount p).retG t gd 3 := by
  constructor <;> simp [State.sealBlock, State.closeBlock, hres, h]

theorem State.sealClose_foreign (h : s.handleStatus p (recNat b 0 4) false = 4) :
    s.sealBlock t gd p b = s.retG t gd 4 ∧ s.closeBlock t gd p b = s.retG t gd 4 := by
  constructor <;> simp [State.sealBlock, State.closeBlock, hres, h]

end

end Sys2Proof.Machine

open Sys2Proof Sys2Proof.Machine

/-- Settles O22: VERD reads its block once; each operation is then one of the cases of the block, the job and the die entry. -/
theorem verdOperations : Obligations.VerdOperations := by
  unfold Obligations.VerdOperations
  rintro s u t flt d p h gd ga q b hruns ⟨hlt, hsup⟩ hal haddr hread hpart hact rfl
  have hverd : ∀ op f, s.verd t gd ga q op flt f = f u p b := fun op f =>
    State.verd_read op f ⟨hlt, hsup.imp id (congrArg _)⟩ hal haddr hread hpart hact
  have hopen : exec (.verdOpen t gd ga q flt) s = .next (u.openBlock t gd p b) := (instr_runs hruns _).trans (congrArg _ (hverd 0 _))
  have hpost : exec (.verdPost t gd ga q flt) s = .next (u.postBlock t gd p b) := (instr_runs hruns _).trans (congrArg _ (hverd 1 _))
  have hseal : exec (.verdSeal t gd ga q flt) s = .next (u.sealBlock t gd p b) := (instr_runs hruns _).trans (congrArg _ (hverd 2 _))
  have hclose : exec (.verdClose t gd ga q flt) s = .next (u.closeBlock t gd p b) := (instr_runs hruns _).trans (congrArg _ (hverd 3 _))
  rw [hopen, hpost, hseal, hclose]
  refine ⟨fun e hring hdir hres1 hres2 hown hon hen hroom hfind => ?_, fun hring hdir hres1 hres2 hown hon hfull => ?_, fun hjob => ?_,
    fun j hjob => ⟨fun hdie => ?_, fun hdie hout hcls hres => ?_⟩, fun hres => ⟨fun hst => ⟨?_, ?_⟩, fun hst => ?_, fun hst => ?_⟩⟩
  · refine ⟨nextGen (u.die e).gen, (u.setDie e (u.openedDie p e b)).useSync p,
      congrArg _ (State.openBlock_room t gd ⟨hring, hdir, hres1, hres2, hown, hon⟩ hen hroom hfind), rfl, ?_⟩
    have hdies : ∀ k, ((u.setDie e (u.openedDie p e b)).useSync p).die k = (u.setDie e (u.openedDie p e b)).die k := fun _ => rfl
    simp only [hdies, State.die_setDie_same]
    exact ⟨rfl, rfl, rfl, rfl, rfl, rfl, fun k hk => State.die_setDie_other u _ hk⟩
  · exact congrArg _ (State.openBlock_full t gd ⟨hring, hdir, hres1, hres2, hown, hon⟩ hfull)
  · simp only [State.postBlock, hjob]
  · rw [State.jobOn_some hjob]
    exact ⟨_, congrArg _ (State.postBlock_detached hjob gd p hdie), State.postDetached_again hjob,
      fun hp hout => (State.postDetached_first hjob hp hout).trans (by rw [State.postedCtx, State.jobOn_some hjob]),
      fun hp hout => (State.postDetached_defer hjob hp hout).trans (by rw [State.postedCtx, State.jobOn_some hjob])⟩
  · obtain ⟨hdone, hstale, hfirst⟩ := State.postBlock_defect hjob gd p hdie hout hcls hres
    refine ⟨fun hp => congrArg _ (hdone hp), fun hp => congrArg _ (hstale hp), fun hp hopen => ?_⟩
    obtain ⟨k, w, hk, hw, hpost⟩ := hfirst hp hopen
    exact ⟨k, w, hk, hw, congrArg _ hpost⟩
  · exact congrArg _ (State.sealBlock_open t gd hres hst)
  · exact ⟨_, congrArg _ (State.closeBlock_open t gd hres hst), rfl, rfl⟩
  · exact (State.sealClose_stale t gd hres hst).imp (congrArg _) (congrArg _)
  · exact (State.sealClose_foreign t gd hres hst).imp (congrArg _) (congrArg _)

end

section
/-! The verdict rings: the record of a posted die, the host's consumer index, the interrupts that wait (R172 to R178). -/

namespace Sys2Proof.Machine

open Sys2Proof

/-! ## What the entries and the rings hold apart -/

section

variable (s : State) (e r : Nat) (d : Die) (x : VRing)

@[simp] theorem State.die_setVring : (s.setVring r x).die e = s.die e := rfl
@[simp] theorem State.byte_setVring (k : Nat) : (s.setVring r x).byte k = s.byte k := rfl
@[simp] theorem State.byte_setDie (k : Nat) : (s.setDie e d).byte k = s.byte k := rfl
@[simp] theorem State.rd_setVring (off : Nat) : (s.setVring r x).rd off = s.rd off := rfl
@[simp] theorem State.rd_setDie (off : Nat) : (s.setDie e d).rd off = s.rd off := rfl

end

/-! ## Host memory, counts of operations, interrupts -/

theorem State.hostWrite_frame (s : State) (a : Nat) (l : List Byte) : s.hostWrite a l = { s with host := (s.hostWrite a l).host } := by
  induction l generalizing s a with
  | nil => rfl
  | cons b l ih =>
    rw [State.hostWrite, ih]

@[simp] theorem State.rd_hostWrite (s : State) (a : Nat) (l : List Byte) (off : Nat) : (s.hostWrite a l).rd off = s.rd off := by
  rw [State.hostWrite_frame]
  rfl

theorem State.countOps_frame (s : State) (k u n : Nat) : s.countOps k u n = { s with health := (s.countOps k u n).health } := by
  unfold State.countOps
  split <;> rfl

@[simp] theorem State.rd_countOps (s : State) (k u n off : Nat) : (s.countOps k u n).rd off = s.rd off := by
  unfold State.countOps
  split <;> rfl

@[simp] theorem State.countOps_host (s : State) (k u n : Nat) : (s.countOps k u n).host = s.host := by
  unfold State.countOps
  split <;> rfl

theorem State.raiseMsi_frame (s : State) (f v : Nat) : s.raiseMsi f v = { s with pcie := (s.raiseMsi f v).pcie } := by
  unfold State.raiseMsi
  dsimp only
  split
  · rfl
  · split <;> rfl

@[simp] theorem State.rd_raiseMsi (s : State) (f v off : Nat) : (s.raiseMsi f v).rd off = s.rd off := by
  rw [State.raiseMsi_frame]
  rfl

/-- Two states differ at most in interrupts and in what ring r keeps of its own: the posted dies and the function of the last record
are the same. -/
def State.IntOnly (r : Nat) (s t : State) : Prop :=
  t = { s with vrings := t.vrings, pcie := t.pcie } ∧ (t.vring r).q = (s.vring r).q ∧ (t.vring r).rid = (s.vring r).rid

theorem State.IntOnly.raiseMsi {r : Nat} {s t : State} (h : State.IntOnly r s t) (f v : Nat) : State.IntOnly r s (t.raiseMsi f v) := by
  obtain ⟨hframe, hq, hrid⟩ := h
  rw [State.raiseMsi_frame]
  refine ⟨?_, hq, hrid⟩
  rw [hframe]

theorem State.ringRaise_eq (s : State) (r : Nat) (fs : List Nat) : s.ringRaise r fs =
    fs.foldl (fun w f => w.raiseMsi f (s.rf (Addr.vdlRingCfg r) 31 27))
      (s.setVring r { s.vring r with intAt := some s.time, intPend := [] }) := by
  have hfold : ∀ t : State, t.rd (Addr.vdlRingCfg r) = s.rd (Addr.vdlRingCfg r) →
      fs.foldl (fun w f => w.raiseMsi f (w.rf (Addr.vdlRingCfg r) 31 27)) t =
        fs.foldl (fun w f => w.raiseMsi f (s.rf (Addr.vdlRingCfg r) 31 27)) t := by
    induction fs with
    | nil => exact fun _ _ => rfl
    | cons f fs ih =>
      intro t ht
      have hvec : t.rf (Addr.vdlRingCfg r) 31 27 = s.rf (Addr.vdlRingCfg r) 31 27 := congrArg (fld · 31 27) ht
      rw [List.foldl_cons, List.foldl_cons, ih _ ((State.rd_raiseMsi _ _ _ _).trans ht), hvec]
  exact hfold _ rfl

theorem State.intOnly_setVring (s : State) (r : Nat) (at_ : Option Nat) (pend : List Nat) :
    State.IntOnly r s (s.setVring r { s.vring r with intAt := at_, intPend := pend }) :=
  ⟨rfl, by rw [State.vring_setVring_same], by rw [State.vring_setVring_same]⟩

theorem State.intOnly_ringRaise (s : State) (r : Nat) (fs : List Nat) : State.IntOnly r s (s.ringRaise r fs) := by
  rw [State.ringRaise_eq]
  generalize hstart : s.setVring r _ = t
  have ht : State.IntOnly r s t := hstart ▸ s.intOnly_setVring r _ _
  clear hstart
  induction fs generalizing t with
  | nil => exact ht
  | cons f fs ih => exact ih _ (ht.raiseMsi f _)

theorem State.intOnly_ringInt (s : State) (r f : Nat) : State.IntOnly r s (s.ringInt r f) := by
  unfold State.ringInt
  dsimp only
  split
  · exact ⟨rfl, rfl, rfl⟩
  · split
    · split
      · exact s.intOnly_setVring r _ _
      · exact s.intOnly_ringRaise r _
    · exact s.intOnly_ringRaise r _

/-! ## The record of a posted die (R172, R173, R176, R177) -/

/-- A die's END was met more than 16 ms ago (Table 4.9, LATE). -/
def State.dieLate (s : State) (d : Die) : Bool := match d.acq with | some t => decide (t + msTicks 16 < s.time) | none => false

/-- The record of die entry e and then the producer index stand in host memory, and the index has moved on. -/
def State.recordPut (s : State) (r e : Nat) : State :=
  ((s.hostWrite
      (s.rf (Addr.vdlRingBase r) 63 12 * 4096 + 64 * (s.rf (Addr.vdlRingPidx r) 31 0 % 2 ^ ringLog (s.rf (Addr.vdlRingCfg r) 12 8)))
      (dieRecord (s.die e) (s.rf (Addr.vdlRingPidx r) 31 0)
        (s.rf (Addr.vdlRingPidx r) 31 0 / 2 ^ ringLog (s.rf (Addr.vdlRingCfg r) 12 8) % 2) (s.dieLate (s.die e)))).hostWrite
    (s.rf (Addr.vdlRingPaddr r) 63 3 * 8) (bytesOf 4 (s.rf (Addr.vdlRingPidx r) 31 0 + 1))).inc (Addr.vdlRingPidx r) 31 0 1

/-- A late record is counted, and what mover m of cluster c wrote. -/
def State.recordSent (s : State) (r e c m : Nat) : State :=
  ((if s.dieLate (s.die e) then (s.recordPut r e).sat (Addr.vdlRingStat r) 63 32 1 else s.recordPut r e).inc
    (Addr.dmMvCnt c m) 63 24 1).countOps 6 (4 * c + m) 1

/-- After its record entry e is free again, and the ring goes on with its next die. -/
def State.recordFree (s : State) (r e c m : Nat) (q : List Nat) : State :=
  ((s.recordSent r e c m).setDie e { die0 with gen := (s.die e).gen }).setVring r { s.vring r with q := q, rid := (s.die e).part }

/-- The counts of the held records and of its partition's entries follow. -/
def State.recordGone (s : State) (r e c m : Nat) (q : List Nat) : State :=
  ((s.recordFree r e c m q).wf Addr.vdlHeld 12 0 ((s.recordFree r e c m q).rf Addr.vdlHeld 12 0 - 1)).useSync (s.die e).part

theorem State.writeRecord_room {s : State} {r e c m : Nat} {q : List Nat} (hq : (s.vring r).q = e :: q)
    (hposter : s.poster r (s.die e).part = some (c, m)) (hen : s.rb (Addr.vdlRingCfg r) 0 = true) (hgo : (s.vring r).stopped = false)
    (hlink : s.linkUp = true) (hmesh : s.meshOn = true)
    (hroom : ringFull (s.rf (Addr.vdlRingPidx r) 31 0) (s.vring r).cons (ringLog (s.rf (Addr.vdlRingCfg r) 12 8)) = false) :
    s.writeRecord r = ((s.recordGone r e c m q).ringInt r (s.die e).part).ringSync r := by
  have hhead : ((e :: q).head?.bind fun e => s.poster r (s.die e).part) = some (c, m) := hposter
  have hgoes : (!bit (s.rd (Addr.vdlRingCfg r)) 0 || (s.vring r).stopped || !s.linkUp || !s.meshOn ||
      ringFull (s.rf (Addr.vdlRingPidx r) 31 0) (s.vring r).cons (ringLog (fld (s.rd (Addr.vdlRingCfg r)) 12 8))) = false := by
    have hen' : bit (s.rd (Addr.vdlRingCfg r)) 0 = true := hen
    have hroom' : ringFull (s.rf (Addr.vdlRingPidx r) 31 0) (s.vring r).cons (ringLog (fld (s.rd (Addr.vdlRingCfg r)) 12 8)) = false := hroom
    simp [hen', hgo, hlink, hmesh, hroom']
  have hpaddr : ∀ a l, (s.hostWrite a l).rf (Addr.vdlRingPaddr r) 63 3 = s.rf (Addr.vdlRingPaddr r) 63 3 := fun a l =>
    congrArg (fld · 63 3) (s.rd_hostWrite a l _)
  unfold State.writeRecord
  simp only [hq, hhead, hgoes, hpaddr]
  rfl

/-- Two states differ at most in host memory, registers and counts of operations. -/
def State.SentOnly (s t : State) : Prop := t = { s with host := t.host, regs := t.regs, health := t.health }

theorem State.SentOnly.trans {s t u : State} (h : s.SentOnly t) (h' : t.SentOnly u) : s.SentOnly u := by
  unfold State.SentOnly at *
  rw [h', h]

theorem State.sentOnly_hostWrite (s : State) (a : Nat) (l : List Byte) : s.SentOnly (s.hostWrite a l) := by
  unfold State.SentOnly
  rw [State.hostWrite_frame]

theorem State.sentOnly_countOps (s : State) (k u n : Nat) : s.SentOnly (s.countOps k u n) := by
  unfold State.SentOnly
  rw [State.countOps_frame]

theorem State.sentOnly_inc (s : State) (off hi lo n : Nat) : s.SentOnly (s.inc off hi lo n) := rfl
theorem State.sentOnly_sat (s : State) (off hi lo n : Nat) : s.SentOnly (s.sat off hi lo n) := rfl

theorem State.sentOnly_recordSent (s : State) (r e c m : Nat) : s.SentOnly (s.recordSent r e c m) := by
  have hput : s.SentOnly (s.recordPut r e) :=
    ((s.sentOnly_hostWrite _ _).trans (State.sentOnly_hostWrite _ _ _)).trans (State.sentOnly_inc _ _ _ _ _)
  refine .trans (.trans ?_ (State.sentOnly_inc _ _ _ _ _)) (State.sentOnly_countOps _ _ _ _)
  split
  · exact hput.trans (State.sentOnly_sat _ _ _ _ _)
  · exact hput

theorem State.host_recordSent (s : State) (r e c m : Nat) : (s.recordSent r e c m).host = (s.recordPut r e).host := by
  rw [State.recordSent, State.countOps_host, State.inc_host]
  split
  · rw [State.sat_host]
  · rfl

theorem State.rd_pidx_recordSent (s : State) (r e c m : Nat) : (s.recordSent r e c m).rd (Addr.vdlRingPidx r) =
    wrapFld (s.rd (Addr.vdlRingPidx r)) 31 0 1 := by
  have hput : (s.recordPut r e).rd (Addr.vdlRingPidx r) = wrapFld (s.rd (Addr.vdlRingPidx r)) 31 0 1 := by
    rw [State.recordPut, State.rd_inc_same, State.rd_hostWrite, State.rd_hostWrite]
  have hstat : Addr.vdlRingPidx r ≠ Addr.vdlRingStat r := by simp [Addr.vdlRingPidx, Addr.vdlRingStat]
  have hmv : Addr.vdlRingPidx r ≠ Addr.dmMvCnt c m := by
    unfold Addr.vdlRingPidx Addr.dmMvCnt
    omega
  rw [State.recordSent, State.rd_countOps, State.rd_inc_other _ _ _ _ hmv]
  split
  · rw [State.rd_sat_other _ _ _ _ hstat, hput]
  · exact hput

/-! ## What the write of a record leaves -/

section

variable {s t : State}

theorem State.RegsOnly.die (h : s.RegsOnly t) (k : Nat) : t.die k = s.die k := by rw [h]; rfl
theorem State.RegsOnly.vring (h : s.RegsOnly t) (r : Nat) : t.vring r = s.vring r := by rw [h]; rfl
theorem State.RegsOnly.byte (h : s.RegsOnly t) (k : Nat) : t.byte k = s.byte k := by rw [h]; rfl
theorem State.RegsOnly.host (h : s.RegsOnly t) : t.host = s.host := by rw [h]

theorem State.SentOnly.die (h : s.SentOnly t) (k : Nat) : t.die k = s.die k := by rw [h]; rfl
theorem State.SentOnly.byte (h : s.SentOnly t) (k : Nat) : t.byte k = s.byte k := by rw [h]; rfl

theorem State.IntOnly.die {r : Nat} (h : State.IntOnly r s t) (k : Nat) : t.die k = s.die k := by rw [h.1]; rfl
theorem State.IntOnly.byte {r : Nat} (h : State.IntOnly r s t) (k : Nat) : t.byte k = s.byte k := by rw [h.1]; rfl
theorem State.IntOnly.host {r : Nat} (h : State.IntOnly r s t) : t.host = s.host := by rw [h.1]
theorem State.IntOnly.rd {r : Nat} (h : State.IntOnly r s t) (off : Nat) : t.rd off = s.rd off := by rw [h.1]; rfl

end

theorem State.regsOnly_ringSync (s : State) (r : Nat) : s.RegsOnly (s.ringSync r) := (s.regsOnly_wb _ _ _).trans (State.regsOnly_wb _ _ _ _)

theorem State.regsOnly_recordGone (s : State) (r e c m : Nat) (q : List Nat) : (s.recordFree r e c m q).RegsOnly (s.recordGone r e c m q) := by
  rw [State.recordGone, State.useSync]
  exact (State.regsOnly_wf _ _ _ _ _).trans (State.regsOnly_wf _ _ _ _ _)

theorem State.die_recordFree (s : State) (r e c m : Nat) (q : List Nat) :
    (s.recordFree r e c m q).die e = { die0 with gen := (s.die e).gen } := by
  rw [State.recordFree, State.die_setVring, State.die_setDie_same]

theorem State.die_recordFree_other (s : State) {r e c m k : Nat} (q : List Nat) (h : k ≠ e) : (s.recordFree r e c m q).die k = s.die k := by
  rw [State.recordFree, State.die_setVring, State.die_setDie_other _ _ h, (s.sentOnly_recordSent r e c m).die k]

theorem State.vring_recordFree (s : State) (r e c m : Nat) (q : List Nat) :
    (s.recordFree r e c m q).vring r = { s.vring r with q := q, rid := (s.die e).part } := by
  rw [State.recordFree, State.vring_setVring_same]

theorem State.byte_recordFree (s : State) (r e c m : Nat) (q : List Nat) (k : Nat) : (s.recordFree r e c m q).byte k = s.byte k := by
  rw [State.recordFree, State.byte_setVring, State.byte_setDie, (s.sentOnly_recordSent r e c m).byte]

theorem State.host_recordFree (s : State) (r e c m : Nat) (q : List Nat) : (s.recordFree r e c m q).host = (s.recordPut r e).host := by
  rw [State.recordFree, State.setVring_host, State.setDie_host, State.host_recordSent]

theorem State.rd_pidx_recordGone (s : State) {r e c m : Nat} (q : List Nat) (hr : r < 8) :
    (s.recordGone r e c m q).rd (Addr.vdlRingPidx r) = wrapFld (s.rd (Addr.vdlRingPidx r)) 31 0 1 := by
  have hheld : Addr.vdlRingPidx r ≠ Addr.vdlHeld := by unfold Addr.vdlRingPidx Addr.vdlHeld; omega
  have hstat : Addr.vdlRingPidx r ≠ Addr.vdlPartStat (s.die e).part := by unfold Addr.vdlRingPidx Addr.vdlPartStat; omega
  rw [State.recordGone, State.useSync, State.rd_wf_other _ _ _ _ hstat, State.rd_wf_other _ _ _ _ hheld, State.recordFree,
    State.rd_setVring, State.rd_setDie, State.rd_pidx_recordSent]

/-- The record of the oldest posted die of a ring that has space, written (R32, R172, R173, R176). -/
theorem exec_verdictRecordWrite_room {s : State} {r e c m : Nat} {q : List Nat} (hr : r < 8) (hq : (s.vring r).q = e :: q)
    (hposter : s.poster r (s.die e).part = some (c, m)) (hen : s.rb (Addr.vdlRingCfg r) 0 = true)
    (hgo : (s.vring r).stopped = false) (hlink : s.linkUp = true) (hmesh : s.meshOn = true)
    (hroom : ringFull (s.rf (Addr.vdlRingPidx r) 31 0) (s.vring r).cons (ringLog (s.rf (Addr.vdlRingCfg r) 12 8)) = false) :
    ∃ u, exec (.verdictRecordWrite r) s = .next u ∧ u.die e = { die0 with gen := (s.die e).gen } ∧ (u.vring r).q = q ∧
      (u.vring r).rid = (s.die e).part ∧ u.rf (Addr.vdlRingPidx r) 31 0 = (s.rf (Addr.vdlRingPidx r) 31 0 + 1) % 2 ^ 32 ∧
      (∀ k, k ≠ e → u.die k = s.die k) ∧ (∀ k, u.byte k = s.byte k) ∧ u.host = (s.recordPut r e).host := by
  have hexec : exec (.verdictRecordWrite r) s = execVerdictRecordWrite r s := rfl
  rw [hexec, execVerdictRecordWrite, if_pos hr, State.writeRecord_room hq hposter hen hgo hlink hmesh hroom]
  have hint := (s.recordGone r e c m q).intOnly_ringInt r (s.die e).part
  have hsync := ((s.recordGone r e c m q).ringInt r (s.die e).part).regsOnly_ringSync r
  have hgone := s.regsOnly_recordGone r e c m q
  have hdie := fun k => (hsync.die k).trans ((hint.die k).trans (hgone.die k))
  have hring : (s.recordGone r e c m q).vring r = { s.vring r with q := q, rid := (s.die e).part } :=
    (hgone.vring r).trans (s.vring_recordFree r e c m q)
  have hstat : Addr.vdlRingPidx r ≠ Addr.vdlRingStat r := by simp [Addr.vdlRingPidx, Addr.vdlRingStat]
  have hpidx := hint.rd (Addr.vdlRingPidx r)
  rw [s.rd_pidx_recordGone q hr] at hpidx
  refine ⟨_, rfl, (hdie e).trans (s.die_recordFree r e c m q), ?_, ?_, ?_, fun k hk => (hdie k).trans (s.die_recordFree_other q hk), fun k => ?_, ?_⟩
  · rw [hsync.vring, hint.2.1, hring]
  · rw [hsync.vring, hint.2.2, hring]
  · rw [State.rf, State.ringSync, State.rd_wb_other _ _ _ hstat, State.rd_wb_other _ _ _ hstat, hpidx]
    exact fld_setFld_same _ 31 0 _ (by decide) (by decide)
  · rw [hsync.byte, hint.byte, hgone.byte, State.byte_recordFree]
  · rw [hsync.host, hint.host, hgone.host, State.host_recordFree]

/-! ## The host's consumer index (R174, R175) -/

/-- What a read of ring r's consumer index v leaves. -/
def State.consRead (s : State) (r v : Nat) : State :=
  if cidxOk (s.vring r).cons v (s.rf (Addr.vdlRingPidx r) 31 0) then
    (s.setVring r { s.vring r with cons := v, readAt := some s.time, stopped := false }).ringSync r
  else
    ((s.setVring r { s.vring r with readAt := some s.time, stopped := true }).wb (Addr.vdlRingStat r) 2 true).record
      (report 18 .access r (ownerOf (s.rf (Addr.vdlRingCfg r) 3 1)))

/-- Ring r reads its consumer index: it shows no space or is stopped, its last read is not too recent, and the host can be reached. -/
def State.readsCons (s : State) (r : Nat) : Prop :=
  ((s.vring r).stopped || ringFull (s.rf (Addr.vdlRingPidx r) 31 0) (s.vring r).cons (ringLog (s.rf (Addr.vdlRingCfg r) 12 8))) = true ∧
    (s.vring r).readAt = none ∧ s.linkUp = true ∧ s.meshOn = true

theorem exec_consumerIndexRead_due {s : State} {r : Nat} (hr : r < 8) (h : s.readsCons r) : exec (.consumerIndexRead r) s =
    .next (s.consRead r (natOf (s.hostRead (s.rf (Addr.vdlRingCaddr r) 63 3 * 8) 4))) := by
  obtain ⟨hdue, hat, hlink, hmesh⟩ := h
  have hgo : (!((s.vring r).stopped || ringFull (s.rf (Addr.vdlRingPidx r) 31 0) (s.vring r).cons
      (ringLog (s.rf (Addr.vdlRingCfg r) 12 8))) || !true || !s.linkUp || !s.meshOn) = false := by
    rw [hdue, hlink, hmesh]
    rfl
  have hexec : exec (.consumerIndexRead r) s = execConsumerIndexRead r s := rfl
  rw [hexec, execConsumerIndexRead, if_pos hr]
  have hown : ∀ x, (s.setVring r x).rf (Addr.vdlRingCfg r) 3 1 = s.rf (Addr.vdlRingCfg r) 3 1 := fun _ => rfl
  simp only [State.readCons, hat, hgo, hown, State.consRead, Bool.false_eq_true, if_false]

theorem State.vring_consRead_taken {s : State} {r v : Nat} (h : cidxOk (s.vring r).cons v (s.rf (Addr.vdlRingPidx r) 31 0) = true) :
    (s.consRead r v).vring r = { s.vring r with cons := v, readAt := some s.time, stopped := false } := by
  rw [State.consRead, if_pos h, (State.regsOnly_ringSync _ r).vring, State.vring_setVring_same]

theorem State.StoreOnly.vring {s t : State} (h : s.StoreOnly t) (r : Nat) : t.vring r = s.vring r := by rw [h]; rfl

theorem vdlRingStat_not_recordRegs {r : Nat} (p : Nat) (hr : r < 8) : Addr.vdlRingStat r ∉ recordRegs p := by
  simp only [recordRegs, List.mem_cons, List.not_mem_nil, or_false, Addr.vdlRingStat, Addr.errHead, Addr.errCnt, Addr.hltSummary, Addr.pciFnStat]
  omega

theorem State.consRead_stops {s : State} {r v : Nat} (hr : r < 8)
    (h : cidxOk (s.vring r).cons v (s.rf (Addr.vdlRingPidx r) 31 0) = false) :
    (s.consRead r v).vring r = { s.vring r with readAt := some s.time, stopped := true } ∧
      (s.consRead r v).rb (Addr.vdlRingStat r) 2 = true := by
  have hno : ¬cidxOk (s.vring r).cons v (s.rf (Addr.vdlRingPidx r) 31 0) = true := by rw [h]; exact Bool.false_ne_true
  rw [State.consRead, if_neg hno]
  refine ⟨?_, ?_⟩
  · rw [((State.StoreOnly.refl _).record _).vring, (State.regsOnly_wb _ _ _ _).vring, State.vring_setVring_same]
  · rw [State.rb, State.rd_record _ _ (vdlRingStat_not_recordRegs _ hr), State.rd_wb_same, bit_setBit_same _ _ (by decide)]

/-! ## The interrupts that wait for their spacing (R178) -/

theorem exec_interruptModerationExpiry_due {s : State} {r t : Nat} (hr : r < 8) (hpend : (s.vring r).intPend ≠ [])
    (hat : (s.vring r).intAt = some t) (hdue : t + 400 * s.rf (Addr.vdlRingCfg r) 39 32 ≤ s.time) :
    exec (.interruptModerationExpiry r) s = .next (s.ringRaise r (s.vring r).intPend) := by
  obtain ⟨f, fs, hfs⟩ := List.exists_cons_of_ne_nil hpend
  have hexec : exec (.interruptModerationExpiry r) s = execInterruptModerationExpiry r s := rfl
  have hticks : t + usTicks (s.rf (Addr.vdlRingCfg r) 39 32) ≤ s.time := by unfold usTicks; omega
  rw [hexec, execInterruptModerationExpiry, if_pos hr]
  simp [State.modExpiry, hfs, hat, hticks]

end Sys2Proof.Machine

open Sys2Proof Sys2Proof.Machine

/-- Settles O25: the record's write by what it leaves of the entry, the ring and host memory; the read index by the range it lies in. -/
theorem verdictRings : Obligations.VerdictRings := by
  unfold Obligations.VerdictRings
  refine ⟨?_, ?_⟩
  · rintro s r e c m log pidx q hr hq hposter - - hen hgo hlink hmesh rfl rfl hroom
    obtain ⟨u, hexec, hdie, hring, hrid, hpidx, hother, hbyte, hhost⟩ :=
      exec_verdictRecordWrite_room hr hq hposter hen hgo hlink hmesh (beq_eq_false_iff_ne.mpr hroom)
    refine ⟨u, hexec, by rw [hdie]; rfl, by rw [hdie], hring, hrid, hpidx, hother, hbyte, s.dieLate (s.die e), ?_⟩
    rw [hhost, State.recordPut, State.inc_host]
    rfl
  · rintro s r v pidx t x hr rfl rfl hv hlink hmesh
    refine ⟨fun hdue hat => ⟨fun hin => ?_, fun hout => ?_⟩, fun hpend hat hdue => ?_⟩
    · exact ⟨_, exec_consumerIndexRead_due hr ⟨(Bool.or_eq_true _ _).mpr hdue, hat, hlink, hmesh⟩, hv ▸ State.vring_consRead_taken (decide_eq_true hin)⟩
    · exact ⟨_, exec_consumerIndexRead_due hr ⟨(Bool.or_eq_true _ _).mpr hdue, hat, hlink, hmesh⟩,
        hv ▸ State.consRead_stops hr (decide_eq_false (Nat.not_le.mpr hout))⟩
    · rw [exec_interruptModerationExpiry_due hr hpend hat hdue, State.ringRaise_eq]

end

section
/-! The scheduler's and the monitors' commands: the job that a cluster takes, boundaries, faults (R185, R192, R203, R208, R210, R219). -/

namespace Sys2Proof.Machine

open Sys2Proof

/-! ## The job that a cluster takes (R185) -/

theorem State.before_trans {s : State} {a b c : Job} (hab : s.before a b = true) (hbc : s.before b c = true) : s.before a c = true := by
  simp only [State.before, Bool.or_eq_true, Bool.and_eq_true, decide_eq_true_eq, beq_iff_eq] at *
  omega

theorem State.before_split {s : State} {a c : Job} (b : Job) (hac : s.before a c = true) : s.before a b = true ∨ s.before b c = true := by
  simp only [State.before, Bool.or_eq_true, Bool.and_eq_true, decide_eq_true_eq, beq_iff_eq] at *
  omega

theorem State.before_irrefl (s : State) (a : Job) : s.before a a = false := by
  simp [State.before]

/-- The better of two jobs. -/
def State.firstOf (s : State) (a b : Job) : Job := if s.before b a then b else a

/-- The better of two jobs, kept over a list, is one that none of them goes before. -/
theorem State.firstOf_foldl (s : State) (l : List Job) (j : Job) :
    l.foldl s.firstOf j ∈ j :: l ∧ ∀ q ∈ j :: l, s.before q (l.foldl s.firstOf j) = false := by
  induction l generalizing j with
  | nil => simpa using s.before_irrefl j
  | cons b l ih =>
    obtain ⟨hin, hbest⟩ := ih (s.firstOf j b)
    rw [List.foldl_cons]
    have hfirst := hbest _ (List.mem_cons_self ..)
    have htail := fun q hq => hbest q (List.mem_cons_of_mem _ hq)
    generalize l.foldl s.firstOf (s.firstOf j b) = r at hin hfirst htail
    unfold State.firstOf at hin hfirst
    by_cases hb : s.before b j = true
    · rw [if_pos hb] at hin hfirst
      have hj : s.before j r = false := Bool.eq_false_iff.mpr fun h => absurd (State.before_trans hb h) (by simp [hfirst])
      exact ⟨List.mem_cons_of_mem _ hin, List.forall_mem_cons.mpr ⟨hj, List.forall_mem_cons.mpr ⟨hfirst, htail⟩⟩⟩
    · rw [if_neg hb] at hin hfirst
      have hb' : s.before b r = false := Bool.eq_false_iff.mpr fun h => (State.before_split j h).elim hb (by simp [hfirst])
      refine ⟨?_, List.forall_mem_cons.mpr ⟨hfirst, List.forall_mem_cons.mpr ⟨hb', htail⟩⟩⟩
      exact List.cons_subset_cons j (List.subset_cons_self b l) hin

theorem State.nextJob_serves {s : State} {c : Nat} (h : ∃ j ∈ s.queued, s.serves c j = true) : ∃ j, s.nextJob c = some j ∧
    j ∈ s.queued ∧ s.serves c j = true ∧ ∀ q ∈ s.queued, s.serves c q = true → s.before q j = false := by
  obtain ⟨j, hj, hserves⟩ := h
  have hmem : j ∈ s.queued.filter (s.serves c) := List.mem_filter.mpr ⟨hj, hserves⟩
  obtain ⟨a, l, hl⟩ := List.exists_cons_of_ne_nil (List.ne_nil_of_mem hmem)
  obtain ⟨hin, hbest⟩ := s.firstOf_foldl l a
  rw [← hl] at hin hbest
  obtain ⟨hq, hs⟩ := List.mem_filter.mp hin
  refine ⟨_, ?_, hq, hs, fun q hq hs => hbest q (List.mem_filter.mpr ⟨hq, hs⟩)⟩
  rw [State.nextJob, hl]
  rfl

theorem exec_jobTake {s : State} {c x : Nat} (flt : Nat) {j : Job} (hc : c < 6) (hx : x < 64) (hup : s.cluUp c = true)
    (hen : s.rb (Addr.schCfg c) 0 = true) (hfree : (s.ctx c x).st = .free) (hact : s.partActive (s.cluPart c) = true)
    (hj : s.nextJob c = some j) : exec (.jobTake c x flt) s = .next (s.take c x flt j) := by
  have hexec : exec (.jobTake c x flt) s = execJobTake c x flt s := rfl
  rw [hexec, execJobTake, if_pos ⟨hc, hx⟩]
  simp [hup, hen, hfree, hact, hj]

/-! ## Boundaries (R192, R203) -/

theorem exec_inningsBoundary_idle {s : State} {c : Nat} (hc : c < 6) (hup : s.cluUp c = true) (hpre : (s.clu c).preempt = false)
    (hend : (s.clu c).innEnd ≤ s.time) (hrun : (s.clu c).running = none) : exec (.inningsBoundary c) s = .next (s.pick c) := by
  have hexec : exec (.inningsBoundary c) s = execInningsBoundary c s := rfl
  rw [hexec, execInningsBoundary, if_pos hc]
  simp [hup, hend, hpre, State.inningsEnd, hrun]

theorem exec_preemptTileBoundary_due {s : State} {c x : Nat} (hc : c < 6) (hup : s.cluUp c = true) (hpre : (s.clu c).preempt = true)
    (hrun : (s.clu c).running = some x) (hnp : s.npFlying (tid c x) = false) :
    exec (.preemptTileBoundary c) s = .next (s.switchOut c) := by
  have hexec : exec (.preemptTileBoundary c) s = execPreemptTileBoundary c s := rfl
  rw [hexec, execPreemptTileBoundary, if_pos hc]
  simp [hup, hpre, hrun, hnp]

/-! ## Faults and limits (R208, R210, R219) -/

/-- A non-pre-emptible op of a base or supervisor thread that has run for twice its bound ends with TIMEOUT (R208). -/
theorem exec_overrunFault_due {s : State} {uid t : Nat} {o : Op} (hfind : s.ops.find? (fun (o : Op) => o.uid == uid) = some o)
    (hstart : o.start = some t) (hnp : o.np = true) (hgoing : o.done = false) (hdue : t + 800 * o.npb ≤ s.time)
    (hjob : thClass o.th ≠ .job) : exec (.overrunFault uid) s =
      .next ((((s.sat (Addr.schOvr (thClu o.th)) 63 48 1).record { report 19 .fault (thClu o.th) o.part with
        jseq := ((s.jobOn o.th).map (·.jseq)).getD 0 }).endOp o 2 o.flags).overrun o.th) := by
  have hticks : ¬s.time < t + usTicks (2 * o.npb) := by unfold usTicks; omega
  have hexec : exec (.overrunFault uid) s = execOverrunFault uid s := rfl
  rw [hexec, execOverrunFault]
  simp [hfind, hstart, hnp, hgoing, hticks, hjob]

theorem exec_holdFault_due {s : State} {c k t at_ : Nat} {rest : List (Nat × Nat)} (hc : c < 6) (hk : k < 256)
    (hheld : (s.sem (c * 256 + k)).holders = (t, at_) :: rest)
    (hdue : at_ + 400 * max 1 (s.rf (semCfg (c * 256 + k)) 63 48) < s.time) : exec (.holdFault c k) s =
      .next ((State.record (s.forceRel (c * 256 + k) t) { report 19 .fault (thClu t) ((s.forceRel (c * 256 + k) t).thPart t) with
        jseq := (((s.forceRel (c * 256 + k) t).jobOn t).map (·.jseq)).getD 0 }).overrun t) := by
  have hok : okSem c k = true := by simp [okSem, hc, hk]
  have hkey : semKey c k = c * 256 + k := if_pos hc
  have hticks : ¬s.time ≤ at_ + s.semHold (c * 256 + k) := by unfold State.semHold usTicks; omega
  have hexec : exec (.holdFault c k) s = execHoldFault c k s := rfl
  rw [hexec, execHoldFault, if_pos hok]
  simp [hkey, hheld, hticks]

theorem State.rowOf_tooOld {s : State} {j : Job} (p : Predict) (h : s.tooOld j = true) : s.rowOf j p = some .age := if_pos h

theorem State.evalQueued_tooOld {s : State} {j : Job} (h : s.tooOld j = true) :
    s.evalQueued j = (s.dlmCount Addr.dlmDevStat .age).endQueued j 3 0 := by
  rw [State.evalQueued, State.rowOf_tooOld _ h]

theorem State.dlmCount_age (s : State) (off : Nat) : s.dlmCount off .age = s.sat off 15 0 1 := rfl

theorem exec_ageLimitExpiry_queued {s : State} {p n : Nat} {j : Job} (hp : 1 ≤ p ∧ p ≤ 4)
    (hfind : s.queued.find? (fun (j : Job) => j.part == p && j.jseq == n && s.tooOld j) = some j) :
    exec (.ageLimitExpiry p n) s = .next ((s.sat Addr.dlmDevStat 15 0 1).endQueued j 3 0) := by
  have hold : s.tooOld j = true := by
    have hhit := List.find?_some hfind
    simp only [Bool.and_eq_true] at hhit
    exact hhit.2
  have hexec : exec (.ageLimitExpiry p n) s = execAgeLimitExpiry p n s := rfl
  rw [hexec, execAgeLimitExpiry, if_pos hp]
  simp only [hfind]
  rw [State.evalQueued_tooOld hold, State.dlmCount_age]

end Sys2Proof.Machine
end

section
/-! The register bus at the registers of the cascade, the scheduler, the pools and the sequence engines: where their rows stand, and what
a write or a read of one of them does (R146, R209, R447, R448, R486, R492, R801 to R805). -/

namespace Sys2Proof.Machine

open Sys2Proof

/-! ## Rows of the cascade and the pools -/

theorem locate_vdlPartMtab : ∀ p, p < 5 → 1 ≤ p → locate (Addr.vdlPartMtab p) =
    some (⟨.vdlPartMtab, 0x600010, [(0x80, 4, 1)], 0x0, 0xFFFFFFFFFFC0, 0x0⟩, [p]) := by decide

theorem locate_dlmPartCfg : ∀ p, p < 5 → 1 ≤ p → locate (Addr.dlmPartCfg p) =
    some (⟨.dlmPartCfg, 0x800000, [(0x400, 4, 1)], 0x32004003000001, 0xFFFF00F007000001, 0x0⟩, [p]) := by decide

theorem locate_awPartTalloc : ∀ p, p < 5 → 1 ≤ p → locate (Addr.awPartTalloc p) =
    some (⟨.awPartTalloc, 0x900038, [(0x800, 4, 1)], 0x0, 0x0, 0x0⟩, [p]) := by decide

theorem locate_awPartTfree : ∀ p, p < 5 → 1 ≤ p → locate (Addr.awPartTfree p) =
    some (⟨.awPartTfree, 0x900040, [(0x800, 4, 1)], 0x0, 0x0, 0x0⟩, [p]) := by decide

theorem locate_awPartPoolCfg {p : Nat} (hp : 1 ≤ p) (hp4 : p < 5) : ∀ q, q < 9 → locate (Addr.awPartPoolCfg p q) =
    some (⟨.awPartPoolCfg, 0x900110, [(0x800, 4, 1), (0x40, 9, 0)], 0x0, 0x80FFFFFF, 0x0⟩, [p, q]) := by
  interval_cases p <;> decide

theorem locate_awPartPoolAlloc {p : Nat} (hp : 1 ≤ p) (hp4 : p < 5) : ∀ q, q < 9 → locate (Addr.awPartPoolAlloc p q) =
    some (⟨.awPartPoolAlloc, 0x900118, [(0x800, 4, 1), (0x40, 9, 0)], 0x0, 0x0, 0x0⟩, [p, q]) := by
  interval_cases p <;> decide

theorem locate_awPartPoolFree {p : Nat} (hp : 1 ≤ p) (hp4 : p < 5) : ∀ q, q < 9 → locate (Addr.awPartPoolFree p q) =
    some (⟨.awPartPoolFree, 0x900120, [(0x800, 4, 1), (0x40, 9, 0)], 0x0, 0x0, 0x0⟩, [p, q]) := by
  interval_cases p <;> decide

/-! ## Rows of the clusters -/

/-- The row of one cluster's registers in a row of all six. -/
def RegRow.oneCluster (r : RegRow) : RegRow := { r with base := r.base - 0x2000000, dims := r.dims.tail }

/-- Every register of a row of cluster registers lies below an offset in its cluster's block. -/
def RegRow.endsInClusterBy (r : RegRow) (b : Nat) : Bool :=
  r.dims.head? == some (0x100000, 6, 0) && decide (0x2000000 ≤ r.base) && r.oneCluster.endsBy b && decide (r.oneCluster.base ≤ b)

theorem dimIndex_cluster (t : List (Nat × Nat × Nat)) {c b m : Nat} (hc : c < 6) (hb : b ≤ m) (hm : m < 0x100000) :
    dimIndex ((0x100000, 6, 0) :: t) (0x2000000 + c * 0x100000 + m - (0x2000000 + b)) = (dimIndex t (m - b)).map (c :: ·) := by
  have hdiv : (0x2000000 + c * 0x100000 + m - (0x2000000 + b)) / 0x100000 = c := by omega
  have hmod : (0x2000000 + c * 0x100000 + m - (0x2000000 + b)) % 0x100000 = m - b := by omega
  rw [dimIndex, hdiv, hmod, if_pos hc]
  rfl

/-- An offset past every register of the first rows in its cluster's block is looked for in the others. -/
theorem findRow_pastCluster (l m : List RegRow) {b c k : Nat} (hc : c < 6) (h : l.all (·.endsInClusterBy b) = true) (hb : b ≤ k)
    (hk : k < 0x100000) : findRow (l ++ m) (0x2000000 + c * 0x100000 + k) = findRow m (0x2000000 + c * 0x100000 + k) := by
  induction l with
  | nil => rfl
  | cons r t ih =>
    obtain ⟨hr, ht⟩ := (Bool.and_eq_true _ _).mp (List.all_cons ▸ h)
    simp only [RegRow.endsInClusterBy, Bool.and_eq_true, beq_iff_eq, decide_eq_true_eq] at hr
    obtain ⟨⟨⟨hhead, hbase⟩, hends⟩, hle⟩ := hr
    have hdims : r.dims = (0x100000, 6, 0) :: r.oneCluster.dims := (List.cons_head?_tail hhead).symm
    have hsplit : r.base = 0x2000000 + r.oneCluster.base := (Nat.add_sub_cancel' hbase).symm
    have hnone : dimIndex r.dims (0x2000000 + c * 0x100000 + k - r.base) = none := by
      rw [hdims, hsplit, dimIndex_cluster _ hc (hle.trans hb) hk, dimIndex_past _ hends hb, Option.map_none]
    rw [List.cons_append, findRow, hnone, ih ht]
    exact ite_self _

theorem blockRows_cluster {c m : Nat} (hc : c < 6) (hm : m < 0x100000) :
    blockRows ((0x2000000 + c * 0x100000 + m) / 0x100000) = rows20 := by
  have hdiv : (0x2000000 + c * 0x100000 + m) / 0x100000 = 0x20 + c := by omega
  rw [hdiv]
  interval_cases c <;> rfl

/-- The registers of a row of cluster registers that stands after rows that end before it. -/
theorem locate_cluster (l t : List RegRow) {r : RegRow} {b c m : Nat} {ix : List Nat} (hc : c < 6) (hm : m < 0x100000)
    (hrows : rows20 = l ++ r :: t) (hpast : l.all (·.endsInClusterBy b) = true) (hb : b ≤ m)
    (hdims : r.dims = (0x100000, 6, 0) :: r.oneCluster.dims) (hbase : r.base = 0x2000000 + r.oneCluster.base)
    (hle : r.oneCluster.base ≤ m) (hix : dimIndex r.oneCluster.dims (m - r.oneCluster.base) = some ix) :
    locate (0x2000000 + c * 0x100000 + m) = some (r, c :: ix) := by
  rw [locate, blockRows_cluster hc hm, hrows, findRow_pastCluster l _ hc hpast hb hm]
  refine findRow_here (by omega) ?_
  rw [hdims, hbase, dimIndex_cluster _ hc hle hm, hix]
  rfl

theorem findRow_skip {r : RegRow} {t : List RegRow} {off : Nat} (h : dimIndex r.dims (off - r.base) = none) :
    findRow (r :: t) off = findRow t off := by
  rw [findRow, h]
  exact ite_self _

theorem locate_schSemCfg {c k : Nat} (hc : c < 6) (hk : k < 256) : locate (Addr.schSemCfg c k) =
    some (⟨.schSemCfg, 0x2021000, [(0x100000, 6, 0), (0x10, 256, 0)], 0x3E8000000000000, 0xFFFF0F0000000000, 0x0⟩, [c, k]) := by
  have haddr : Addr.schSemCfg c k = 0x2000000 + c * 0x100000 + (0x21000 + k * 0x10) := by unfold Addr.schSemCfg; omega
  have hix : dimIndex [(0x10, 256, 0)] (0x21000 + k * 0x10 - 0x21000) = some [k] := by
    rw [Nat.add_sub_cancel_left]; exact dimIndex_one 0 (by decide) hk
  rw [haddr]
  exact locate_cluster (rows20.take 3) (rows20.drop 4) (b := 0x21000) hc (by omega) rfl (by decide) (by omega) rfl rfl
    (Nat.le_add_right ..) hix

theorem locate_sqStrCfg {c k : Nat} (hc : c < 6) (hk : k < 256) : locate (Addr.sqStrCfg c k) =
    some (⟨.sqStrCfg, 0x20A1000, [(0x100000, 6, 0), (0x20, 256, 0)], 0x0, 0x93F00FFF, 0x0⟩, [c, k]) := by
  have haddr : Addr.sqStrCfg c k = 0x2000000 + c * 0x100000 + (0xA1000 + k * 0x20) := by unfold Addr.sqStrCfg; omega
  have hix : dimIndex [(0x20, 256, 0)] (0xA1000 + k * 0x20 - 0xA1000) = some [k] := by
    rw [Nat.add_sub_cancel_left]; exact dimIndex_one 0 (by decide) hk
  rw [haddr]
  exact locate_cluster (rows20.take 13) (rows20.drop 14) (b := 0xA1000) hc (by omega) rfl (by decide) (by omega) rfl rfl
    (Nat.le_add_right ..) hix

/-- SQ_STRk_LIVE stands between two SQ_STRk_CFG. -/
theorem locate_sqStrLive {c k : Nat} (hc : c < 6) (hk : k < 256) : locate (Addr.sqStrLive c k) =
    some (⟨.sqStrLive, 0x20A1008, [(0x100000, 6, 0), (0x20, 256, 0)], 0x0, 0xFFFFFFFFFFC0, 0x0⟩, [c, k]) := by
  have haddr : Addr.sqStrLive c k = 0x2000000 + c * 0x100000 + (0xA1008 + k * 0x20) := by unfold Addr.sqStrLive; omega
  have hbetween : dimIndex [(0x20, 256, 0)] (0xA1008 + k * 0x20 - 0xA1000) = none := by
    have hmod : (0xA1008 + k * 0x20 - 0xA1000) % 0x20 = 8 := by omega
    rw [dimIndex, hmod]
    exact ite_self _
  have hix : dimIndex [(0x20, 256, 0)] (0xA1008 + k * 0x20 - 0xA1008) = some [k] := by
    rw [Nat.add_sub_cancel_left]; exact dimIndex_one 0 (by decide) hk
  have hrows : rows20 = rows20.take 13 ++ rows20.drop 13 := (List.take_append_drop ..).symm
  have hm : 0xA1008 + k * 0x20 < 0x100000 := by omega
  rw [haddr, locate, blockRows_cluster hc hm, hrows, findRow_pastCluster (b := 0xA1000) _ _ hc (by decide) (by omega) hm]
  have hskip : dimIndex [(0x100000, 6, 0), (0x20, 256, 0)] (0x2000000 + c * 0x100000 + (0xA1008 + k * 0x20) - (0x2000000 + 0xA1000)) = none := by
    rw [dimIndex_cluster _ hc (by omega) hm, hbetween, Option.map_none]
  have hfound := (dimIndex_cluster [(0x20, 256, 0)] (b := 0xA1008) hc (by omega) hm).trans (congrArg (Option.map (c :: ·)) hix)
  exact (findRow_skip hskip).trans (findRow_here (show 0x20A1008 ≤ _ by omega) hfound)

end Sys2Proof.Machine
end

section
/-! Register writes with an effect of their own: the model table, semaphores, pools and streams (R146, R209, R222, R446 to R449, R486,
R489, R493). -/

namespace Sys2Proof.Machine

open Sys2Proof

/-! ## The cascade's and the monitors' tables (R146, R222) -/

theorem exec_mtabWrite {s : State} {src : Src} {p : Nat} (v : W64) (hp : 1 ≤ p) (hp4 : p ≤ 4)
    (h : TakesWrite s src .vdlPartMtab p (Addr.vdlPartMtab p)) : exec (.mtabWrite src p v) s =
      .next ((s.wr (Addr.vdlPartMtab p) (s.stored (Addr.vdlPartMtab p) v)).reseed p) := by
  have hloc := locate_vdlPartMtab p (Nat.lt_succ_of_le hp4) hp
  rw [State.stored_of_locate hloc]
  exact busWrite_takes v (decide_eq_true ⟨hp, hp4⟩) h hloc rfl rfl

theorem setBit_one_true (v : W64) : setBit v 1 true = v ||| 2 := by
  have hmask : fmask 1 1 = 2 := by decide
  have hval : (BitVec.ofNat 64 true.toNat <<< 1 &&& 2 : W64) = 2 := by decide
  rw [setBit, setFld, hmask, hval]
  refine BitVec.eq_of_getLsbD_eq fun i hi => ?_
  simp only [BitVec.getLsbD_or, BitVec.getLsbD_and, BitVec.getLsbD_not, hi]
  cases v.getLsbD i <;> cases (2 : W64).getLsbD i <;> rfl

/-- A write of DLM_PARTp_CFG with RESEED. -/
theorem exec_dlmReseed {s : State} {src : Src} {p : Nat} (v : W64) (hp : 1 ≤ p) (hp4 : p ≤ 4)
    (h : TakesWrite s src .dlmPartCfg p (Addr.dlmPartCfg p)) : exec (.dlmReseed src p v) s =
      .next ((s.wr (Addr.dlmPartCfg p) (s.stored (Addr.dlmPartCfg p) (v ||| 2))).reseed p) := by
  have hloc := locate_dlmPartCfg p (Nat.lt_succ_of_le hp4) hp
  have hwrite := busWrite_takes (setBit v 1 true) (decide_eq_true (⟨hp, hp4⟩ : 1 ≤ p ∧ p ≤ 4)) h hloc rfl rfl
  have hreseed : bit (setBit v 1 true &&& byteMask 0xFF) 1 = true := by
    rw [and_byteMask_full]; exact bit_setBit_same v true (by decide)
  rw [State.stored_of_locate hloc, ← setBit_one_true]
  exact hwrite.trans (congrArg Host.Outcome.next (if_pos hreseed))

/-! ## Semaphores (R209) -/

/-- A semaphore without holders or waiters has nothing to grant. -/
theorem State.grantAll_idle {s : State} {k : Nat} (n : Nat) (h : (s.sem k).waiters = []) : State.grantAll n s k = s := by
  have hnone : s.nextWaiter k = none := by rw [State.nextWaiter, h]
  cases n with
  | zero => rfl
  | succ n => rw [State.grantAll, hnone, ite_self]

theorem State.semSync_idle {s : State} {k : Nat} (h : (s.sem k).holders = []) : ∃ v, s.semSync k = s.wr (semStat k) v := by
  rw [State.semSync, h]
  exact ⟨_, rfl⟩

theorem State.sem_wr (s : State) (off : Nat) (v : W64) (k : Nat) : (s.wr off v).sem k = s.sem k := rfl

/-- A semaphore whose configuration is written, before its waiters are granted. -/
def State.semFreed (s : State) (k : Nat) (new : W64) : State :=
  ((s.wr (semCfg k) new).wf (semStat k) 15 8 0).setSem k { s.sem k with holders := [] }

theorem State.sem_semFreed {s : State} {k : Nat} (new : W64) (h : (s.sem k).waiters = []) : (s.semFreed k new).sem k = sem0 := by
  exact (Sparse.get_set_same _ _ _ _).trans (congrArg (Sem.mk []) h)

theorem State.rd_setSem (s : State) (k : Nat) (x : Sem) (off : Nat) : (s.setSem k x).rd off = s.rd off := rfl

theorem State.rd_semFreed (s : State) {k : Nat} (new : W64) (h : semCfg k ≠ semStat k) : (s.semFreed k new).rd (semCfg k) = new := by
  rw [State.semFreed, State.rd_setSem, State.rd_wf_other _ _ _ _ h, State.rd_wr_same]

theorem State.semCfgWrite_idle {s : State} {k : Nat} (new : W64) (h : (s.sem k).waiters = []) :
    ∃ v, s.semCfgWrite k new = (s.semFreed k new).wr (semStat k) v := by
  have hsem := State.sem_semFreed new h
  have hgrant : State.grantAll 16 (s.semFreed k new) k = s.semFreed k new := State.grantAll_idle 16 (by rw [hsem]; rfl)
  obtain ⟨v, hv⟩ := State.semSync_idle (s := s.semFreed k new) (k := k) (by rw [hsem]; rfl)
  exact ⟨v, (congrArg (State.semSync · k) hgrant).trans hv⟩

theorem exec_semConfigWrite_idle {s : State} {src : Src} {c k : Nat} (v : W64) (hc : c < 6) (hk : k < 256)
    (h : TakesWrite s src .schSemCfg c (Addr.schSemCfg c k)) (hidle : (s.sem (c * 256 + k)).waiters = []) : ∃ u,
      exec (.semConfigWrite src c k v) s = .next u ∧ u.sem (c * 256 + k) = sem0 ∧
      u.rd (Addr.schSemCfg c k) = s.stored (Addr.schSemCfg c k) v := by
  have hloc := locate_schSemCfg hc hk
  have hcfg : semCfg (c * 256 + k) = Addr.schSemCfg c k := by
    rw [semCfg, if_pos (by omega), show (c * 256 + k) / 256 = c by omega, show (c * 256 + k) % 256 = k by omega]
  have hstat : semStat (c * 256 + k) = Addr.schSemStat c k := by
    rw [semStat, if_pos (by omega), show (c * 256 + k) / 256 = c by omega, show (c * 256 + k) % 256 = k by omega]
  have hne : semCfg (c * 256 + k) ≠ semStat (c * 256 + k) := by
    rw [hcfg, hstat]; unfold Addr.schSemCfg Addr.schSemStat; omega
  obtain ⟨x, hx⟩ := State.semCfgWrite_idle (s.stored (Addr.schSemCfg c k) v) hidle
  have hexec : exec (.semConfigWrite src c k v) s = .next (s.semCfgWrite (c * 256 + k) (s.stored (Addr.schSemCfg c k) v)) := by
    have hdef : exec (.semConfigWrite src c k v) s = busWrite src (decide ((c < 6 ∧ k < 256) ∨ (c = 6 ∧ k < 64)))
      (if c = 6 then Addr.schGsemCfg k else Addr.schSemCfg c k) v s := rfl
    rw [hdef, if_neg hc.ne, busWrite_takes v (decide_eq_true (.inl ⟨hc, hk⟩)) h hloc rfl rfl, State.stored_of_locate hloc]
    rfl
  rw [hexec, hx, ← hcfg]
  refine ⟨_, rfl, ?_, ?_⟩
  · rw [State.sem_wr, State.sem_semFreed _ hidle]
  · rw [State.rd_wr_other _ _ hne, State.rd_semFreed _ _ hne]

/-! ## Allocation and release of objects (R447 to R449) -/

/-- A read that takes effect returns what the register's read returns. -/
theorem busRead_takes {s : State} {src : Src} {id : RegId} {i off : Nat} {ok : Bool} (hok : ok = true) (h : TakesRead s src id i off) :
    busRead src ok off s = .next { (s.regRead src off 0xFF).2 with lastRd := (s.regRead src off 0xFF).1 } := by
  obtain ⟨hsrc, hreach, hon, hlive, -⟩ := h
  rw [busRead, hsrc, hok, hreach, hon, hlive]
  rfl

/-- The state after the head of a pool's free list has been allocated. -/
def State.headTaken (s : State) (p q i : Nat) (rest : List Nat) : State := ((s.recPut p q i 0 2 1).recPut p q i 2 1 1).putPool p q rest

theorem State.alloc_head {s : State} {p q i : Nat} {rest : List Nat} (hen : s.rb (poolCfg p q) 31 = true)
    (hfree : s.pool (poolKey p q) = i :: rest) (hsafe : s.recGet p q i 8 8 < s.safeEpoch p) :
    s.alloc p q = (some (s.poolBase p q + i * objSize q), s.headTaken p q i rest) := by
  rw [State.alloc, hen, hfree]
  exact if_pos hsafe

theorem State.allocReg_head {s : State} {p q i : Nat} {rest : List Nat} (view : Nat) (hen : s.rb (poolCfg p q) 31 = true)
    (hfree : s.pool (poolKey p q) = i :: rest) (hsafe : s.recGet p q i 8 8 < s.safeEpoch p) : s.allocReg view p q =
      (BitVec.ofNat 64 ((s.headTaken p q i rest).asSeen view (s.poolBase p q + i * objSize q)), s.headTaken p q i rest) := by
  rw [State.allocReg, State.alloc_head hen hfree hsafe]

theorem State.regRead_poolAlloc {s : State} {src : Src} {p q : Nat} (hp : 1 ≤ p) (hp4 : p ≤ 4) (hq : q < 9)
    (hmay : s.mayRead src .awPartPoolAlloc (Addr.awPartPoolAlloc p q) p = true) :
    s.regRead src (Addr.awPartPoolAlloc p q) 0xFF =
      ((s.allocReg (srcAddrs src) p q).1, { (s.allocReg (srcAddrs src) p q).2 with latch := (s.allocReg (srcAddrs src) p q).1 }) := by
  have hmay' : s.mayRead src .awPartPoolAlloc (Addr.awPartPoolAlloc p q) (ix0 [p, q]) = true := hmay
  rw [State.regRead, locate_awPartPoolAlloc hp (Nat.lt_succ_of_le hp4) q hq]
  simp only [hmay']
  rfl

theorem State.regRead_talloc {s : State} {src : Src} {p : Nat} (hp : 1 ≤ p) (hp4 : p ≤ 4)
    (hmay : s.mayRead src .awPartTalloc (Addr.awPartTalloc p) p = true) : s.regRead src (Addr.awPartTalloc p) 0xFF =
      ((s.allocReg (srcAddrs src) p 9).1, { (s.allocReg (srcAddrs src) p 9).2 with latch := (s.allocReg (srcAddrs src) p 9).1 }) := by
  have hmay' : s.mayRead src .awPartTalloc (Addr.awPartTalloc p) (ix0 [p]) = true := hmay
  rw [State.regRead, locate_awPartTalloc p (Nat.lt_succ_of_le hp4) hp]
  simp only [hmay']
  rfl

theorem exec_poolAlloc {s : State} {src : Src} {p q i : Nat} {rest : List Nat} (hp : 1 ≤ p) (hp4 : p ≤ 4) (hq : q ≤ 8)
    (h : TakesRead s src .awPartPoolAlloc p (Addr.awPartPoolAlloc p q)) (hen : s.rb (poolCfg p q) 31 = true)
    (hfree : s.pool (poolKey p q) = i :: rest) (hsafe : s.recGet p q i 8 8 < s.safeEpoch p) {r : W64}
    (hr : r = BitVec.ofNat 64 ((s.headTaken p q i rest).asSeen (srcAddrs src) (s.poolBase p q + i * objSize q))) :
    exec (.poolAlloc src p q) s = .next { s.headTaken p q i rest with latch := r, lastRd := r } := by
  have hexec : exec (.poolAlloc src p q) s = busRead src (decide (1 ≤ p ∧ p ≤ 4 ∧ q < 9)) (Addr.awPartPoolAlloc p q) s := rfl
  rw [hexec, busRead_takes (decide_eq_true ⟨hp, hp4, Nat.lt_succ_of_le hq⟩) h,
    State.regRead_poolAlloc hp hp4 (Nat.lt_succ_of_le hq) h.2.2.2.2, State.allocReg_head _ hen hfree hsafe, hr]

theorem exec_tableAlloc {s : State} {src : Src} {p i : Nat} {rest : List Nat} (hp : 1 ≤ p) (hp4 : p ≤ 4)
    (h : TakesRead s src .awPartTalloc p (Addr.awPartTalloc p)) (hen : s.rb (poolCfg p 9) 31 = true)
    (hfree : s.pool (poolKey p 9) = i :: rest) (hsafe : s.recGet p 9 i 8 8 < s.safeEpoch p) {r : W64}
    (hr : r = BitVec.ofNat 64 ((s.headTaken p 9 i rest).asSeen (srcAddrs src) (s.poolBase p 9 + i * objSize 9))) :
    exec (.tableAlloc src p) s = .next { s.headTaken p 9 i rest with latch := r, lastRd := r } := by
  have hexec : exec (.tableAlloc src p) s = busRead src (decide (1 ≤ p ∧ p ≤ 4)) (Addr.awPartTalloc p) s := rfl
  rw [hexec, busRead_takes (decide_eq_true ⟨hp, hp4⟩) h, State.regRead_talloc hp hp4 h.2.2.2.2, State.allocReg_head _ hen hfree hsafe, hr]

/-- A release of an object that is still held leaves one reference less. -/
theorem State.releaseObj_held {s : State} {p q i : Nat} {a : Option Nat} (hobj : a.bind (s.objOf p q) = some i)
    (hcount : 2 ≤ s.recGet p q i 0 2) : s.releaseObj p q a = s.recPut p q i 0 2 (s.recGet p q i 0 2 - 1) := by
  have hzero : s.recGet p q i 0 2 ≠ 0 := by omega
  have hone : s.recGet p q i 0 2 ≠ 1 := by omega
  rw [State.releaseObj, hobj]
  simp only [if_neg hzero, if_neg hone]

theorem exec_poolFree_held {s : State} {src : Src} {p q i : Nat} {v : W64} (hp : 1 ≤ p) (hp4 : p ≤ 4) (hq : q ≤ 8)
    (h : TakesWrite s src .awPartPoolFree p (Addr.awPartPoolFree p q))
    (hobj : (s.devAddr (srcAddrs src) .read (fld v 47 0) 1).bind (s.objOf p q) = some i) (hcount : 2 ≤ s.recGet p q i 0 2) :
    exec (.poolFree src p q v) s = .next (s.recPut p q i 0 2 (s.recGet p q i 0 2 - 1)) := by
  have hq9 := Nat.lt_succ_of_le hq
  have hloc := locate_awPartPoolFree hp (Nat.lt_succ_of_le hp4) q hq9
  have hwrite : exec (.poolFree src p q v) s = .next (s.freeReg (srcAddrs src) p q (fld (v &&& byteMask 0xFF) 47 0)) :=
    busWrite_takes v (decide_eq_true ⟨hp, hp4, hq9⟩) h hloc rfl rfl
  rw [hwrite, and_byteMask_full, State.freeReg, State.releaseObj_held hobj hcount]

theorem exec_tableFree_held {s : State} {src : Src} {p i : Nat} {v : W64} (hp : 1 ≤ p) (hp4 : p ≤ 4)
    (h : TakesWrite s src .awPartTfree p (Addr.awPartTfree p))
    (hobj : (s.devAddr (srcAddrs src) .read (fld v 47 0) 1).bind (s.objOf p 9) = some i) (hcount : 2 ≤ s.recGet p 9 i 0 2) :
    exec (.tableFree src p v) s = .next (s.recPut p 9 i 0 2 (s.recGet p 9 i 0 2 - 1)) := by
  have hloc := locate_awPartTfree p (Nat.lt_succ_of_le hp4) hp
  have hwrite : exec (.tableFree src p v) s = .next (s.freeReg (srcAddrs src) p 9 (fld (v &&& byteMask 0xFF) 47 0)) :=
    busWrite_takes v (decide_eq_true ⟨hp, hp4⟩) h hloc rfl rfl
  rw [hwrite, and_byteMask_full, State.freeReg, State.releaseObj_held hobj hcount]

/-! ## Configuration of pools and streams (R486, R489, R493) -/

theorem State.rd_putPool (s : State) (p q : Nat) (l : List Nat) {off : Nat} (h : off ≠ poolStat p q) : (s.putPool p q l).rd off = s.rd off :=
  State.rd_wf_other _ _ _ _ h

theorem State.pool_putPool (s : State) (p q : Nat) (l : List Nat) : (s.putPool p q l).pool (poolKey p q) = l :=
  Sparse.get_set_same _ _ _ _

/-- The records of a pool as its configuration is written (R486). -/
def State.poolCleared (s : State) (p q : Nat) (new : W64) : State := { s.wr (poolCfg p q) new with
  mem := Sparse.keep (fun k => !(decide ((s.wr (poolCfg p q) new).poolRec p q ≤ k) &&
    decide (k < (s.wr (poolCfg p q) new).poolRec p q + 16 * fld new 23 0))) (s.wr (poolCfg p q) new).mem }

theorem State.rd_poolCleared (s : State) (p q : Nat) (new : W64) : (s.poolCleared p q new).rd (poolCfg p q) = new := State.rd_wr_same _ _ _

theorem State.poolCfgWrite_eq (s : State) (p q : Nat) (new : W64) :
    s.poolCfgWrite p q new = ((s.poolCleared p q new).putPool p q (List.range (fld new 23 0))).wf (poolStat p q) 23 8 0 := rfl

theorem State.rd_poolCfgWrite (s : State) {p q : Nat} (new : W64) (h : poolCfg p q ≠ poolStat p q) :
    (s.poolCfgWrite p q new).rd (poolCfg p q) = new := by
  rw [State.poolCfgWrite_eq, State.rd_wf_other _ _ _ _ h, State.rd_putPool _ _ _ _ h, State.rd_poolCleared]

theorem State.pool_wf (s : State) (off hi lo x k : Nat) : (s.wf off hi lo x).pool k = s.pool k := rfl

theorem State.pool_poolCfgWrite (s : State) (p q : Nat) (new : W64) :
    (s.poolCfgWrite p q new).pool (poolKey p q) = List.range (fld new 23 0) := by
  rw [State.poolCfgWrite_eq, State.pool_wf, State.pool_putPool]

theorem exec_poolConfigWrite {s : State} {src : Src} {p q : Nat} (v : W64) (hp : 1 ≤ p) (hp4 : p ≤ 4) (hq : q ≤ 8)
    (h : TakesWrite s src .awPartPoolCfg p (poolCfg p q)) : ∃ u, exec (.poolConfigWrite src p q v) s = .next u ∧
      u.rd (poolCfg p q) = s.stored (poolCfg p q) v ∧ u.pool (poolKey p q) = List.range (fld (s.stored (poolCfg p q) v) 23 0) := by
  have hq9 : ¬q = 9 := by omega
  have hcfg : poolCfg p q = Addr.awPartPoolCfg p q := if_neg hq9
  have hne : poolCfg p q ≠ poolStat p q := by
    rw [hcfg, poolStat, if_neg hq9]; unfold Addr.awPartPoolCfg Addr.awPartPoolStat; omega
  rw [hcfg] at h
  have hloc := locate_awPartPoolCfg hp (Nat.lt_succ_of_le hp4) q (Nat.lt_succ_of_le hq)
  have hwrite : busWrite src (decide (1 ≤ p ∧ p ≤ 4 ∧ q ≤ 9)) (Addr.awPartPoolCfg p q) v s =
      .next (s.poolCfgWrite p q (storeReg _ (s.rd (Addr.awPartPoolCfg p q)) v 0xFF)) :=
    busWrite_takes v (decide_eq_true ⟨hp, hp4, by omega⟩) h hloc rfl rfl
  have hexec : exec (.poolConfigWrite src p q v) s = busWrite src (decide (1 ≤ p ∧ p ≤ 4 ∧ q ≤ 9))
    (if q = 9 then Addr.awPartTpoolCfg p else Addr.awPartPoolCfg p q) v s := rfl
  refine ⟨s.poolCfgWrite p q (s.stored (poolCfg p q) v), ?_, State.rd_poolCfgWrite _ _ hne, State.pool_poolCfgWrite _ _ _ _⟩
  rw [hexec, if_neg hq9, hwrite, hcfg, State.stored_of_locate hloc]

/-- A stream as its configuration is written (R492), before the enabled ones are counted. -/
def State.sqWritten (s : State) (c k g : Nat) (new : W64) : State :=
  ((((s.wr (Addr.sqStrCfg c k) new).setSqRes c k 0).wb (Addr.sqStrStat c k) 39 false).wf (Addr.sqStrStat c k) 23 8 g).wf
    (Addr.sqStrStat c k) 7 0 k

theorem State.sqCfgWrite_free {s : State} {c k : Nat} (new : W64) (hin : s.sqRes c k ≠ 3) (hout : s.sqRes c k ≠ 4)
    (hops : s.ops.any (fun o => !o.done && o.names c k) = false) : ∃ g, s.sqCfgWrite c k new = (s.sqWritten c k g new).sqLiveSync c := by
  rw [State.sqCfgWrite, if_neg (by simp [hin, hout, hops])]
  exact ⟨_, rfl⟩

theorem State.rd_sqWritten (s : State) {c k : Nat} (g : Nat) (new : W64) (h : Addr.sqStrCfg c k ≠ Addr.sqStrStat c k) :
    (s.sqWritten c k g new).rd (Addr.sqStrCfg c k) = new := by
  rw [State.sqWritten, State.rd_wf_other _ _ _ _ h, State.rd_wf_other _ _ _ _ h, State.rd_wb_other _ _ _ h, State.setSqRes,
    State.rd_wf_other _ _ _ _ h, State.rd_wr_same]

theorem State.sqRes_sqWritten (s : State) (c k g : Nat) (new : W64) : (s.sqWritten c k g new).sqRes c k = 0 := by
  rw [State.sqRes, State.rf, State.sqWritten, State.rd_wf_same, State.rd_wf_same, State.rd_wb_same, State.setSqRes, State.rd_wf_same,
    fld_setFld_other _ 7 0 _ _ _ (by decide) (by decide) (by decide), fld_setFld_other _ 23 8 _ _ _ (by decide) (by decide) (by decide),
    fld_setBit_other _ _ (by decide) (by decide), fld_setFld_same _ _ _ _ (by decide) (by decide), Nat.zero_mod]

theorem exec_sqStreamConfigWrite_free {s : State} {src : Src} {c k : Nat} (v : W64) (hc : c < 6) (hk : k < 256)
    (h : TakesWrite s src .sqStrCfg c (Addr.sqStrCfg c k)) (hin : s.sqRes c k ≠ 3) (hout : s.sqRes c k ≠ 4)
    (hops : s.ops.any (fun o => !o.done && o.names c k) = false) : ∃ u, exec (.sqStreamConfigWrite src c k v) s = .next u ∧
      u.rd (Addr.sqStrCfg c k) = s.stored (Addr.sqStrCfg c k) v ∧ u.sqRes c k = 0 := by
  have hloc := locate_sqStrCfg hc hk
  have hcfg : Addr.sqStrCfg c k ≠ Addr.sqStat c := by unfold Addr.sqStrCfg Addr.sqStat; omega
  have hstat : Addr.sqStrStat c k ≠ Addr.sqStat c := by unfold Addr.sqStrStat Addr.sqStat; omega
  have hne : Addr.sqStrCfg c k ≠ Addr.sqStrStat c k := by unfold Addr.sqStrCfg Addr.sqStrStat; omega
  obtain ⟨g, hg⟩ := State.sqCfgWrite_free (s.stored (Addr.sqStrCfg c k) v) hin hout hops
  have hexec : exec (.sqStreamConfigWrite src c k v) s = .next (s.sqCfgWrite c k (s.stored (Addr.sqStrCfg c k) v)) := by
    rw [State.stored_of_locate hloc]
    exact busWrite_takes v (decide_eq_true ⟨hc, hk⟩) h hloc rfl rfl
  refine ⟨_, hexec.trans (congrArg Host.Outcome.next hg), ?_, ?_⟩
  · exact (State.rd_wf_other _ _ _ _ hcfg).trans (State.rd_sqWritten _ _ _ hne)
  · exact (congrArg (fld · 34 32) (State.rd_wf_other _ _ _ _ hstat)).trans (State.sqRes_sqWritten _ _ _ _ _)

theorem exec_sqLiveWrite_off {s : State} {src : Src} {c k : Nat} (v : W64) (hc : c < 6) (hk : k < 256)
    (h : TakesWrite s src .sqStrLive c (Addr.sqStrLive c k)) (hoff : s.rb (Addr.sqStrCfg c k) 31 = false) :
    exec (.sqLiveWrite src c k v) s = .next (s.wr (Addr.sqStrLive c k) (s.stored (Addr.sqStrLive c k) v)) := by
  have hloc := locate_sqStrLive hc hk
  have hwrite : exec (.sqLiveWrite src c k v) s = .next (s.sqLiveWrite c k (storeReg _ (s.rd (Addr.sqStrLive c k)) v 0xFF)) :=
    busWrite_takes v (decide_eq_true ⟨hc, hk⟩) h hloc rfl rfl
  rw [hwrite, State.stored_of_locate hloc, State.sqLiveWrite, hoff]
  rfl

end Sys2Proof.Machine
end

section
/-! Swaps of streams, and the memory channels: initialisation, retraining, rotation and migration (R506, R507, R569, R572 to R577). -/

namespace Sys2Proof.Machine

open Sys2Proof

/-! ## Swaps (R506, R507) -/

theorem exec_swapInComplete_read {s y : State} {c k : Nat} {data : List Byte} (hc : c < 6) (hk : k < 256) (hcan : s.canSwap c = true)
    (hres : s.sqRes c k = 3) (hread : s.sqRead c (s.rf (Addr.sqStrBack c k) 47 0) (s.imgLen c k) = ⟨y, data, true⟩) :
    exec (.swapInComplete c k false) s = .next
      ((((State.sqWrite y c (s.imgAddr c k 0) data).swapMoved c (s.imgAddr c k 0) (s.imgLen c k)).setSqRes c k 1).sat
        (Addr.sqCnt c) 31 16 1).startOps := by
  have hdone : s.swapInDone c k false = (((State.sqWrite y c (s.imgAddr c k 0) data).swapMoved c (s.imgAddr c k 0)
      (s.imgLen c k)).setSqRes c k 1).sat (Addr.sqCnt c) 31 16 1 := by
    rw [State.swapInDone, if_neg (not_not_intro hres), hread]
    rfl
  have hexec : exec (.swapInComplete c k false) s = execSwapInComplete c k false s := rfl
  rw [hexec, execSwapInComplete, if_pos ⟨hc, hk⟩, if_pos hcan, hdone]

theorem exec_swapOutComplete_read {s y : State} {c k : Nat} {data : List Byte} (hc : c < 6) (hk : k < 256) (hcan : s.canSwap c = true)
    (hres : s.sqRes c k = 4) (hread : s.sqRead c (s.imgAddr c k (s.curImg c k)) (s.imgLen c k) = ⟨y, data, true⟩) :
    exec (.swapOutComplete c k) s = .next (((State.sqWrite y c (s.rf (Addr.sqStrBack c k) 47 0) data).swapMoved c
      (s.rf (Addr.sqStrBack c k) 47 0) (s.imgLen c k)).setSqRes c k 2).startOps := by
  have hdone : s.swapOutDone c k = ((State.sqWrite y c (s.rf (Addr.sqStrBack c k) 47 0) data).swapMoved c
      (s.rf (Addr.sqStrBack c k) 47 0) (s.imgLen c k)).setSqRes c k 2 := by
    rw [State.swapOutDone, if_neg (not_not_intro hres), hread]
    rfl
  have hexec : exec (.swapOutComplete c k) s = execSwapOutComplete c k s := rfl
  rw [hexec, execSwapOutComplete, if_pos ⟨hc, hk⟩, if_pos hcan, hdone]

/-! ## Roles of channels -/

theorem State.role_setRole_same (s : State) (ch r : Nat) : (s.setRole ch r).role ch = r % 8 := by
  rw [State.role, State.rf, State.setRole, State.rd_wf_same]
  exact fld_setFld_same _ 2 0 r (by decide) (by decide)

theorem State.role_of_rd {s t : State} {ch : Nat} (h : t.rd (Addr.memChStat ch) = s.rd (Addr.memChStat ch)) : t.role ch = s.role ch :=
  congrArg (fld · 2 0) h

theorem memChStat_inj {a b : Nat} (h : Addr.memChStat a = Addr.memChStat b) : a = b := by
  unfold Addr.memChStat at h
  omega

theorem State.role_setRole_other (s : State) {a b : Nat} (r : Nat) (h : a ≠ b) : (s.setRole b r).role a = s.role a :=
  State.role_of_rd (State.rd_wf_other _ _ _ _ fun e => h (memChStat_inj e))

theorem memSlot_ne_chStat {n : Nat} (ch : Nat) (h : n < 24) : Addr.memSlot n ≠ Addr.memChStat ch := by
  unfold Addr.memSlot Addr.memChStat
  omega

theorem exec_channelInitComplete_due {s : State} {ch : Nat} (hch : ch < 26) (hboot : s.pmu.boot = 3) (hinit : s.role ch = 6) :
    ∃ u, exec (.channelInitComplete ch) s = .next u ∧ u.role ch = s.rf (Addr.memChCfg ch) 2 0 := by
  have hexec : exec (.channelInitComplete ch) s = execChannelInitComplete ch s := rfl
  have hne : Addr.memChStat ch ≠ Addr.memStat := by unfold Addr.memChStat Addr.memStat; omega
  have hcfg : s.rf (Addr.memChCfg ch) 2 0 % 8 = s.rf (Addr.memChCfg ch) 2 0 := Nat.mod_eq_of_lt (fld_lt _ 2 0)
  rw [hexec, execChannelInitComplete, if_pos hch, if_pos ⟨hboot, hinit⟩]
  refine ⟨_, rfl, ?_⟩
  exact (State.role_of_rd (State.rd_wb_other _ _ _ hne)).trans ((State.role_setRole_same _ _ _).trans hcfg)

/-- A spare, as its retraining ends. -/
def State.retrained (s : State) (ch : Nat) : State :=
  { s.setRole ch 1 with trained := Sparse.set (fun _ => 0) (s.setRole ch 1).trained ch (s.setRole ch 1).time }

theorem State.role_retrained (s : State) (ch : Nat) : (s.retrained ch).role ch = 1 := s.role_setRole_same ch 1

theorem State.trained_retrained (s : State) (ch : Nat) : Sparse.get (fun _ => 0) (s.retrained ch).trained ch = s.time :=
  Sparse.get_set_same _ _ _ _

theorem exec_retrainComplete_due {s : State} {ch : Nat} (hch : ch < 26) (hrole : s.role ch = 4) :
    exec (.retrainComplete ch) s = .next (s.retrained ch) := by
  have hexec : exec (.retrainComplete ch) s = execRetrainComplete ch s := rfl
  rw [hexec, execRetrainComplete, if_pos hch, if_pos hrole]
  rfl

/-! ## Rotation (R576) -/

/-- When a channel was trained. -/
def State.trainedAt (s : State) (ch : Nat) : Nat := Sparse.get (fun _ => 0) s.trained ch

/-- The one of two channels that was trained less recently, the first of equals. -/
def State.elder (s : State) : Option Nat → Nat → Option Nat
  | some x, c => if s.trainedAt c < s.trainedAt x then some c else some x
  | none, c => some c

theorem State.oldest_eq (s : State) :
    s.oldest = ((List.range 26).filter fun c => s.role c == 0 && !(s.slotsOn c).isEmpty).foldl s.elder none := by
  unfold State.oldest
  congr 1
  funext b c
  cases b <;> rfl

/-- Once the channel trained least recently has been met, it stays. -/
theorem State.foldl_elder_some {s : State} {b : Nat} (l : List Nat) (h : ∀ j ∈ l, s.trainedAt b ≤ s.trainedAt j) :
    l.foldl s.elder (some b) = some b := by
  induction l with
  | nil => rfl
  | cons c l ih =>
    obtain ⟨hc, hl⟩ := List.forall_mem_cons.mp h
    rw [List.foldl_cons, State.elder, if_neg (Nat.not_lt.mpr hc), ih hl]

theorem State.foldl_elder {s : State} {b : Nat} (l : List Nat) (a : Option Nat) (hsorted : l.Pairwise (· < ·)) (hb : b ∈ l)
    (ha : ∀ x ∈ a, s.trainedAt b < s.trainedAt x)
    (hmin : ∀ j ∈ l, s.trainedAt b < s.trainedAt j ∨ s.trainedAt b = s.trainedAt j ∧ b ≤ j) : l.foldl s.elder a = some b := by
  induction l generalizing a with
  | nil => exact absurd hb List.not_mem_nil
  | cons c l ih =>
    obtain ⟨hfirst, hsorted'⟩ := List.pairwise_cons.mp hsorted
    obtain ⟨hc, hl⟩ := List.forall_mem_cons.mp hmin
    rw [List.foldl_cons]
    by_cases hbc : b = c
    · have hstep : s.elder a c = some b := by
        cases a with
        | none => rw [hbc]; rfl
        | some x => rw [hbc] at ha ⊢; exact if_pos (ha x rfl)
      rw [hstep]
      exact State.foldl_elder_some l fun j hj => by have := hl j hj; omega
    · have hbl : b ∈ l := (List.mem_cons.mp hb).resolve_left hbc
      have hlt : s.trainedAt b < s.trainedAt c := by have := hfirst b hbl; omega
      refine ih _ hsorted' hbl (fun x hx => ?_) hl
      cases a with
      | none => rw [State.elder, Option.mem_some_iff] at hx; exact hx ▸ hlt
      | some y =>
        rw [State.elder] at hx
        split at hx <;> rw [Option.mem_some_iff] at hx
        · exact hx ▸ hlt
        · exact hx ▸ ha y rfl

theorem State.oldest_of_first {s : State} {b : Nat} (hb : b < 26) (hrole : s.role b = 0) (hslots : s.slotsOn b ≠ [])
    (hmin : ∀ j, j < 26 → s.role j = 0 → s.slotsOn j ≠ [] →
      s.trainedAt b < s.trainedAt j ∨ s.trainedAt b = s.trainedAt j ∧ b ≤ j) : s.oldest = some b := by
  have hmem : ∀ j, j ∈ (List.range 26).filter (fun c => s.role c == 0 && !(s.slotsOn c).isEmpty) ↔
      j < 26 ∧ s.role j = 0 ∧ s.slotsOn j ≠ [] := by simp
  rw [State.oldest_eq]
  refine State.foldl_elder _ _ (List.pairwise_lt_range.filter _) ((hmem b).mpr ⟨hb, hrole, hslots⟩) (by simp) fun j hj => ?_
  obtain ⟨hj, hrole', hslots'⟩ := (hmem j).mp hj
  exact hmin j hj hrole' hslots'

theorem exec_rotationStart_due {s : State} {ch b n : Nat} {rest : List Nat}
    (hdue : s.rotAt + 400000000 * max 1 (s.rf Addr.memRotCfg 47 32) ≤ s.time) (hen : s.rb Addr.memRotCfg 0 = true)
    (hready : s.rb Addr.memStat 0 = true) (hawake : s.rb Addr.pmuStat 1 = false) (hidle : s.mig = none) (hch : ch < 26)
    (hspare : s.role ch = 1) (hlow : ∀ j, j < ch → s.role j ≠ 1) (hold : s.oldest = some b) (hslots : s.slotsOn b = n :: rest) :
    exec .rotationStart s = .next { s.startMig n b ch false false with rotAt := s.time } := by
  have hticks : s.rotAt + sTicks (max 1 (s.rf Addr.memRotCfg 47 32)) ≤ s.time := by unfold sTicks; omega
  have hfind : (List.range 26).find? (fun c => s.role c == 1) = some ch := by
    simpa [List.find?_range_eq_some, hspare, hch] using hlow
  have hexec : exec .rotationStart s = execRotationStart s := rfl
  rw [hexec, execRotationStart, if_pos ⟨hticks, hen, hready, by simp [hawake], by simp [hidle]⟩, hfind, hold]
  simp only [hslots]

/-! ## The copy of a migration (R572, R573) -/

/-- No burst of memory fails its check. -/
def State.clean (s : State) : Prop := ∀ k, (s.line k).bad = false ∧ (s.line k).poison = false

theorem State.clean_of_lines {s t : State} (h : t.lines = s.lines) (hs : s.clean) : t.clean := fun k => by
  have hline : t.line k = s.line k := congrArg (fun l => Sparse.get lineDefault l (k / 64)) h
  rw [hline]
  exact hs k

theorem State.clean_setLine {s : State} (k : Nat) (m : LineMeta) (hs : s.clean) (hbad : m.bad = false) (hpoison : m.poison = false) :
    (s.setLine k m).clean := fun j => by
  by_cases h : j / 64 = k / 64
  · have hline : (s.setLine k m).line j = m := by rw [State.line, h]; exact Sparse.get_set_same _ _ _ _
    rw [hline]
    exact ⟨hbad, hpoison⟩
  · have hline : (s.setLine k m).line j = s.line j := Sparse.get_set_other _ _ _ h
    rw [hline]
    exact hs j

theorem State.countOps_mig (s : State) (k u n : Nat) : (s.countOps k u n).mig = s.mig := by
  rw [State.countOps_frame]

theorem State.countOps_lines (s : State) (k u n : Nat) : (s.countOps k u n).lines = s.lines := by
  rw [State.countOps_frame]

theorem State.moveBursts_mig (s : State) (ch n : Nat) : (s.moveBursts ch n).mig = s.mig := by
  rw [State.moveBursts, State.countOps_mig, State.inc_mig]

theorem State.moveBursts_lines (s : State) (ch n : Nat) : (s.moveBursts ch n).lines = s.lines := by
  rw [State.moveBursts, State.countOps_lines, State.inc_lines]

theorem State.setBytes_mig (s : State) (k : Nat) (l : List Byte) : (s.setBytes k l).mig = s.mig := by
  induction l generalizing s k with
  | nil => rfl
  | cons b l ih => exact ih ..

theorem State.setBytes_lines (s : State) (k : Nat) (l : List Byte) : (s.setBytes k l).lines = s.lines := by
  induction l generalizing s k with
  | nil => rfl
  | cons b l ih => exact ih ..

/-- What a scrub or a migration does with the burst that it has counted and read (R556, R557). -/
def State.burstRead (s : State) (la k : Nat) (fail : Bool) : State :=
  if (s.line k).poison then s.burstFail la false
  else if (s.line k).bad || fail then (s.burstRetry (chanOf k) 3).burstFail la true
  else s

theorem State.burstRead_clean {s : State} (la k : Nat) (h : s.clean) : s.burstRead la k false = s := by
  obtain ⟨hbad, hpoison⟩ := h k
  simp [State.burstRead, hbad, hpoison]

theorem State.scrubRead_eq (s : State) (la : Nat) (fail : Bool) :
    s.scrubRead la fail = (s.moveBursts (chanOf (s.rkey la)) 1).burstRead la (s.rkey la) fail := rfl

/-- A scrub or a migration that reads a sound burst only counts it. -/
theorem State.scrubRead_clean {s : State} (la : Nat) (h : s.clean) : s.scrubRead la false = s.moveBursts (chanOf (s.rkey la)) 1 := by
  rw [State.scrubRead_eq, State.burstRead_clean _ _ (State.clean_of_lines (s.moveBursts_lines _ _) h)]

theorem State.copyBurst_clean {s : State} (m : Mig) (i : Nat) (h : s.clean) : (s.copyBurst m [] i).mig = s.mig ∧ (s.copyBurst m [] i).clean := by
  obtain ⟨hbad, hpoison⟩ := h (s.slotKey m.slot (m.cp * 4096 + 64 * i))
  simp only [State.copyBurst, List.contains_nil, State.scrubRead_clean _ h, hbad, hpoison]
  constructor
  · rw [State.setLine_mig, State.setBytes_mig, State.moveBursts_mig, State.moveBursts_mig]
  · refine State.clean_setLine _ _ (State.clean_of_lines ?_ h) rfl rfl
    rw [State.setBytes_lines, State.moveBursts_lines, State.moveBursts_lines]

theorem State.copyUnit_clean {s : State} (m : Mig) (l : List Nat) (h : s.clean) :
    (l.foldl (fun s i => s.copyBurst m [] i) s).mig = s.mig := by
  induction l generalizing s with
  | nil => rfl
  | cons i l ih =>
    obtain ⟨hmig, hclean⟩ := State.copyBurst_clean m i h
    exact (ih hclean).trans hmig

theorem State.rotSync_mig (s : State) : s.rotSync.mig = s.mig := by
  rw [State.rotSync]
  split <;> rw [State.wr_mig, State.wb_mig]

theorem exec_migrationUnitCopy_clean {s : State} {m : Mig} (hmig : s.mig = some m) (hcp : m.cp < s.slotUnits)
    (hawake : s.rb Addr.pmuStat 1 = false) (hclean : s.clean) :
    ∃ u, exec (.migrationUnitCopy []) s = .next u ∧ u.mig = some { m with cp := m.cp + 1 } := by
  have hexec : exec (.migrationUnitCopy []) s = execMigrationUnitCopy [] s := rfl
  rw [hexec, execMigrationUnitCopy, hmig]
  simp only [if_pos (⟨hcp, by simp [hawake]⟩ : m.cp < s.slotUnits ∧ (!s.rb Addr.pmuStat 1) = true)]
  refine ⟨_, rfl, ?_⟩
  rw [State.rotSync_mig, State.copyUnit_clean m _ hclean, hmig, Option.map_some, if_pos rfl]

/-! ## The end of a migration (R574, R577) -/

/-- The slot of a migration at its target. -/
def State.slotMoved (s : State) (m : Mig) : State := (s.wf (Addr.memSlot m.slot) 4 0 m.dst).wb (Addr.memSlot m.slot) 5 m.upper

/-- The target of a migration in service, the source in its new role r. -/
def State.slotHome (s : State) (m : Mig) (r : Nat) : State := (({ s.slotMoved m with mig := none } : State).setRole m.dst 0).setRole m.src r

theorem State.slotsOn_of_rd {s t : State} (h : ∀ n, n < 24 → t.rd (Addr.memSlot n) = s.rd (Addr.memSlot n)) (ch : Nat) :
    t.slotsOn ch = s.slotsOn ch := by
  refine List.filter_congr fun n hn => ?_
  rw [State.rf, State.rb, State.rf, State.rb, h n (List.mem_range.mp hn)]

theorem State.rotSync_idle {s : State} (h : s.mig = none) : s.rotSync = (s.wb Addr.memStat 1 false).wr Addr.memRotStat 0 := by
  rw [State.rotSync, h]

theorem State.evacuateNext_idle {s : State} (h : s.rd (Addr.hltKindRet 11) = 0) : s.evacuateNext = s := by
  have hbit : ∀ c, s.rb (Addr.hltKindRet 11) c = false := fun c => by rw [State.rb, h]; exact BitVec.getLsbD_zero
  have hfind : ∀ l : List Nat, l.find? (fun c => s.rb (Addr.hltKindRet 11) c && s.role c != 5 && !(s.slotsOn c).isEmpty &&
      ((s.target c).isSome || !s.rb Addr.memStat 2)) = none := fun l => by simp [hbit]
  rw [State.evacuateNext, hfind, ite_self]

theorem State.rd_slotHome_slot (s : State) (m : Mig) (r : Nat) {n : Nat} (h : n < 24) :
    (s.slotHome m r).rd (Addr.memSlot n) = (s.slotMoved m).rd (Addr.memSlot n) := by
  rw [State.slotHome, State.setRole, State.rd_wf_other _ _ _ _ (memSlot_ne_chStat _ h), State.setRole,
    State.rd_wf_other _ _ _ _ (memSlot_ne_chStat _ h)]
  rfl

theorem State.dst_slotMoved (s : State) (m : Mig) : (s.slotMoved m).rf (Addr.memSlot m.slot) 4 0 = m.dst % 32 := by
  rw [State.rf, State.slotMoved, State.rd_wb_same, State.rd_wf_same, fld_setBit_other _ _ (by decide) (by decide)]
  exact fld_setFld_same _ 4 0 _ (by decide) (by decide)

theorem State.role_slotHome_dst (s : State) {m : Mig} (r : Nat) (h : m.src ≠ m.dst) : (s.slotHome m r).role m.dst = 0 := by
  rw [State.slotHome, State.role_setRole_other _ _ h.symm, State.role_setRole_same]

theorem State.rd_slotHome_ret (s : State) (m : Mig) (r : Nat) (hslot : m.slot < 24) (hsrc : m.src < 26) (hdst : m.dst < 26) :
    (s.slotHome m r).rd (Addr.hltKindRet 11) = s.rd (Addr.hltKindRet 11) := by
  have hs : Addr.hltKindRet 11 ≠ Addr.memChStat m.src := by unfold Addr.hltKindRet Addr.memChStat; omega
  have hd : Addr.hltKindRet 11 ≠ Addr.memChStat m.dst := by unfold Addr.hltKindRet Addr.memChStat; omega
  have hn : Addr.hltKindRet 11 ≠ Addr.memSlot m.slot := by unfold Addr.hltKindRet Addr.memSlot; omega
  have hmoved : (s.slotMoved m).rd (Addr.hltKindRet 11) = s.rd (Addr.hltKindRet 11) := by
    rw [State.slotMoved, State.rd_wb_other _ _ _ hn, State.rd_wf_other _ _ _ _ hn]
  rw [State.slotHome, State.setRole, State.rd_wf_other _ _ _ _ hs, State.setRole, State.rd_wf_other _ _ _ _ hd]
  exact hmoved

theorem State.slotHome_mig (s : State) (m : Mig) (r : Nat) : (s.slotHome m r).mig = none := rfl

theorem State.slotsOn_target (s : State) (m : Mig) : State.slotsOn (({ s.slotMoved m with mig := none } : State).setRole m.dst 0) m.src =
    (s.slotMoved m).slotsOn m.src := by
  refine State.slotsOn_of_rd (fun n hn => ?_) _
  rw [State.setRole, State.rd_wf_other _ _ _ _ (memSlot_ne_chStat _ hn)]
  rfl

/-- A migration off a channel that hosts no other slot leaves the rotation registers idle. -/
theorem State.migDone_last {s : State} {m : Mig} (hempty : (s.slotMoved m).slotsOn m.src = []) :
    s.migDone m = (s.slotHome m (if m.retire then 5 else 4)).rotSync.evacuateNext := by
  have hslots := (s.slotsOn_target m).trans hempty
  unfold State.slotMoved at hslots
  rw [State.migDone, hslots]
  rfl

/-- What stands after a migration off a channel that hosts no other slot, where no unit is retired. -/
theorem State.migDone_idle {s : State} {m : Mig} (hslot : m.slot < 24) (hsrc : m.src < 26) (hdst : m.dst < 26)
    (hret : s.rd (Addr.hltKindRet 11) = 0) (hempty : (s.slotMoved m).slotsOn m.src = []) : ∃ r,
      s.migDone m = ((s.slotHome m r).wb Addr.memStat 1 false).wr Addr.memRotStat 0 := by
  refine ⟨if m.retire then 5 else 4, ?_⟩
  rw [State.migDone_last hempty, State.rotSync_idle (State.slotHome_mig ..)]
  refine State.evacuateNext_idle ?_
  rw [State.rd_wr_other _ _ (by decide), State.rd_wb_other _ _ _ (by decide), State.rd_slotHome_ret _ _ _ hslot hsrc hdst, hret]

theorem exec_migrationComplete_due {s : State} {m : Mig} (hmig : s.mig = some m) (hend : s.slotUnits ≤ m.cp) :
    exec .migrationComplete s = .next (s.migDone m) := by
  have hexec : exec .migrationComplete s = execMigrationComplete s := rfl
  rw [hexec, execMigrationComplete, hmig]
  simp only [if_pos hend]

theorem State.migDone_effect {s : State} {m : Mig} (hslot : m.slot < 24) (hsrc : m.src < 26) (hdst : m.dst < 26) (hne : m.src ≠ m.dst)
    (hret : s.rd (Addr.hltKindRet 11) = 0) (hempty : (s.slotMoved m).slotsOn m.src = []) :
    (s.migDone m).mig = none ∧ (s.migDone m).rf (Addr.memSlot m.slot) 4 0 = m.dst ∧ (s.migDone m).role m.dst = 0 := by
  obtain ⟨r, hr⟩ := State.migDone_idle hslot hsrc hdst hret hempty
  have hslotStat : Addr.memSlot m.slot ≠ Addr.memRotStat ∧ Addr.memSlot m.slot ≠ Addr.memStat := by
    unfold Addr.memSlot Addr.memRotStat Addr.memStat; omega
  have hchStat : Addr.memChStat m.dst ≠ Addr.memRotStat ∧ Addr.memChStat m.dst ≠ Addr.memStat := by
    unfold Addr.memChStat Addr.memRotStat Addr.memStat; omega
  rw [hr]
  refine ⟨?_, ?_, ?_⟩
  · rw [State.wr_mig, State.wb_mig, State.slotHome_mig]
  · rw [State.rf, State.rd_wr_other _ _ hslotStat.1, State.rd_wb_other _ _ _ hslotStat.2, State.rd_slotHome_slot _ _ _ hslot]
    exact (s.dst_slotMoved m).trans (Nat.mod_eq_of_lt (by omega))
  · rw [State.role_of_rd (State.rd_wr_other _ _ hchStat.1), State.role_of_rd (State.rd_wb_other _ _ _ hchStat.2),
      State.role_slotHome_dst _ _ hne]

end Sys2Proof.Machine
end

section
/-! The fabric's ports: the link layer, and training (R602 to R613). -/

namespace Sys2Proof.Machine

open Sys2Proof

/-! ## What stands in a port -/

theorem State.setPort_setPort (s : State) (q : Nat) (x y : Port) : (s.setPort q x).setPort q y = s.setPort q y := by
  simp [State.setPort]

theorem State.port_inc (s : State) (off hi lo n q : Nat) : (s.inc off hi lo n).port q = s.port q := rfl

theorem State.port_wf (s : State) (off hi lo x q : Nat) : (s.wf off hi lo x).port q = s.port q := rfl

theorem State.port_countOps (s : State) (k u n q : Nat) : (s.countOps k u n).port q = s.port q := by
  rw [State.countOps_frame]
  rfl

theorem State.port_raiseWake (s : State) (n sub q : Nat) : (s.raiseWake n sub).port q = s.port q := rfl

/-! ## Blocks that arrive (R603, R604) -/

/-- The operations that a block counts on a port's lanes. -/
def State.blockCounted (s : State) (q : Nat) : State := s.onLanes q fun s u => s.countOps 12 u 1

theorem State.port_foldl_countOps (l : List Nat) (s : State) (q k : Nat) :
    (l.foldl (fun (s : State) l => s.countOps 12 (2 * q + l) 1) s).port k = s.port k := by
  induction l generalizing s with
  | nil => rfl
  | cons l ls ih => rw [List.foldl_cons, ih, State.port_countOps]

theorem State.port_blockCounted (s : State) (q k : Nat) : (s.blockCounted q).port k = s.port k := State.port_foldl_countOps ..

/-- A port after a block in its turn. -/
def Port.accepted (x : Port) (now : Nat) : Port :=
  { x with rxSeq := (x.rxSeq + 1) % 65536, nakSent := false, unacked := x.unacked + 1, unackedAt := if x.unacked = 0 then now else x.unackedAt }

/-- The state after a block in its turn, before the block goes on. -/
def State.blockAccepted (s : State) (q : Nat) : State := (s.setPort q ((s.port q).accepted s.time)).inc (Addr.fabPortCnt0 q) 31 0 1

/-- An accepted block, the eighth without an ACK acknowledged at once. -/
def State.blockAcked (s : State) (q : Nat) : State :=
  if 8 ≤ (s.port q).unacked + 1 then (s.blockAccepted q).sendAck q else s.blockAccepted q

theorem State.port_blockAccepted (s : State) (q : Nat) : (s.blockAccepted q).port q = (s.port q).accepted s.time := by
  rw [State.blockAccepted, State.port_inc, State.port_setPort_same]

theorem State.port_sendAck (s : State) (q : Nat) : (s.sendAck q).port q =
    { s.port q with ctl := (s.port q).ctl ++ [(0, ((s.port q).rxSeq + 65535) % 65536)], unacked := 0 } :=
  State.port_setPort_same ..

theorem State.port_blockAcked (s : State) (q : Nat) : ((s.blockAcked q).port q).rxSeq = ((s.port q).rxSeq + 1) % 65536 ∧
    ((s.blockAcked q).port q).nakSent = false := by
  unfold State.blockAcked
  split
  · rw [State.port_sendAck, State.port_blockAccepted]; exact ⟨rfl, rfl⟩
  · rw [State.port_blockAccepted]; exact ⟨rfl, rfl⟩

/-- What a counted block does. -/
def State.blockTaken (s : State) (q : Nat) (b : Block) (crcOk : Bool) : State :=
  if !crcOk || badBlock b then (s.sat (Addr.fabPortCnt1 q) 63 48 1).discard q
  else if b.seq ≠ (s.port q).rxSeq then
    if 1 ≤ ((s.port q).rxSeq + 65536 - b.seq % 65536) % 65536 ∧ ((s.port q).rxSeq + 65536 - b.seq % 65536) % 65536 ≤ 64 then
      (s.onLanes q fun s u => s.detect 12 u).sendAck q
    else s.discard q
  else (s.blockAcked q).place q b

theorem State.blockIn_eq (s : State) (q : Nat) (b : Block) (crcOk : Bool) : s.blockIn q b crcOk = (s.blockCounted q).blockTaken q b crcOk := rfl

theorem State.blockTaken_inTurn {s : State} {q : Nat} {b : Block} (hgood : badBlock b = false) (hseq : b.seq = (s.port q).rxSeq) :
    s.blockTaken q b true = (s.blockAcked q).place q b := by
  rw [State.blockTaken, if_neg (by simp [hgood]), if_neg (not_not_intro hseq)]

theorem exec_fabricBlockReceive_inTurn {s : State} {q : Nat} {b : Block} (hq : q < 4) (hup : s.portUp q = true) (hgood : badBlock b = false)
    (hseq : b.seq = (s.port q).rxSeq) : ∃ y, exec (.fabricBlockReceive q b true) s = .next (State.place y q b) ∧
      (y.port q).rxSeq = ((s.port q).rxSeq + 1) % 65536 ∧ (y.port q).nakSent = false := by
  obtain ⟨w, hw, hport⟩ : ∃ w : State, (if s.clk 0 then s else s.raiseWake 5 q) = w ∧ w.port q = s.port q := by
    by_cases h : s.clk 0 = true
    · exact ⟨s, if_pos h, rfl⟩
    · exact ⟨s.raiseWake 5 q, if_neg h, s.port_raiseWake 5 q q⟩
  have hcounted : (w.blockCounted q).port q = s.port q := (w.port_blockCounted q q).trans hport
  obtain ⟨hrx, hnak⟩ := (w.blockCounted q).port_blockAcked q
  have hexec : exec (.fabricBlockReceive q b true) s = execFabricBlockReceive q b true s := rfl
  refine ⟨(w.blockCounted q).blockAcked q, ?_, by rw [hrx, hcounted], hnak⟩
  rw [hexec, execFabricBlockReceive, if_pos hq, if_pos hup, hw, State.blockIn_eq, State.blockTaken_inTurn hgood (by rw [hcounted, hseq])]

/-! ## Acknowledgements, replay and credits (R604 to R606, R614) -/

theorem exec_ackReceive_progress {s : State} {q n : Nat} {l : List Sent} (hq : q < 4) (hup : s.portUp q = true)
    (hl : l = (s.port q).replay.filter fun b => !decide (seqBack n b.blk.seq < 64)) (hlen : l.length < (s.port q).replay.length) :
    exec (.ackReceive q n) s =
      .next (s.setPort q { s.port q with replay := l, again := min (s.port q).again l.length, progressAt := s.time }) := by
  subst hl
  have hexec : exec (.ackReceive q n) s = execAckReceive q n s := rfl
  rw [hexec, execAckReceive, if_pos hq, if_pos hup]
  exact congrArg Host.Outcome.next (if_pos hlen)

/-- A port that sends its replay buffer again. -/
def Port.replayed (x : Port) (b : Sent) (rest : List Sent) (now : Nat) : Port :=
  { x with replay := { b with tries := b.tries + 1 } :: rest, progressAt := now, again := rest.length + 1, ctl := x.ctl ++ [(3, 0)] }

theorem State.startReplay_again {s : State} {q : Nat} {b : Sent} {rest : List Sent} (hreplay : (s.port q).replay = b :: rest)
    (htries : b.tries < 7) :
    s.startReplay q = (s.sat (Addr.fabPortCnt1 q) 47 32 1).setPort q ((s.port q).replayed b rest s.time) := by
  rw [State.startReplay, hreplay]
  exact if_pos (Nat.succ_lt_succ htries)

theorem exec_nakReceive_up {s : State} {q : Nat} (n : Nat) (hq : q < 4) (hup : s.portUp q = true) :
    exec (.nakReceive q n) s = .next (s.startReplay q) := by
  have hexec : exec (.nakReceive q n) s = execNakReceive q n s := rfl
  rw [hexec, execNakReceive, if_pos hq, if_pos hup]

theorem exec_replayTimeout_due {s : State} {q : Nat} (hq : q < 4) (hup : s.portUp q = true) (hdue : (s.port q).progressAt + 1600 ≤ s.time) :
    exec (.replayTimeout q) s = .next (s.startReplay q) := by
  have hexec : exec (.replayTimeout q) s = execReplayTimeout q s := rfl
  rw [hexec, execReplayTimeout, if_pos hq, if_pos ⟨hup, hdue⟩]

theorem exec_ackDelayExpiry_due {s : State} {q : Nat} (hq : q < 4) (hup : s.portUp q = true) (hun : 0 < (s.port q).unacked)
    (hdue : (s.port q).unackedAt + 200 ≤ s.time) : exec (.ackDelayExpiry q) s =
      .next (s.setPort q { s.port q with ctl := (s.port q).ctl ++ [(0, ((s.port q).rxSeq + 65535) % 65536)], unacked := 0 }) := by
  have hexec : exec (.ackDelayExpiry q) s = execAckDelayExpiry q s := rfl
  rw [hexec, execAckDelayExpiry, if_pos hq, if_pos ⟨hup, hun, hdue⟩]
  rfl

theorem exec_creditReturn_up {s : State} {q v n : Nat} (hq : q < 4) (hup : s.portUp q = true) (hv : v < 3) (h1 : 1 ≤ n) (h8 : n ≤ 8) :
    exec (.creditReturn q v n) s = .next (s.setPort q { s.port q with
      credits := (s.port q).credits.set v (min (if v = 2 then 4 else 16) ((s.port q).credits.getD v 0 + n)) }) := by
  have hexec : exec (.creditReturn q v n) s = execCreditReturn q v n s := rfl
  rw [hexec, execCreditReturn, if_pos ⟨hq, hv⟩, if_pos ⟨hup, h1, h8⟩]

/-! ## A replayed block (R615) -/

theorem State.wire_plain {s : State} {b : Block} (h : b.type ≠ 8) : s.wire b = (some b, s) := by
  rw [State.wire, if_neg h]

theorem State.blockOut_replay {s : State} {q : Nat} {b : Sent} (t : Nat) (hagain : 0 < (s.port q).again)
    (hb : (s.port q).replay[(s.port q).replay.length - (s.port q).again]? = some b) (htype : b.blk.type ≠ 8) : s.blockOut q t =
      (s.setPort q { s.port q with ctl := [], again := (s.port q).again - 1, out := some b.blk }).inc (Addr.fabPortCnt0 q) 63 32 1 := by
  rw [State.blockOut, if_pos hagain, hb]
  simp only [if_neg htype, State.wire_plain htype, State.port_setPort_same, State.setPort_setPort]

theorem exec_blockSend_replay {s : State} {q : Nat} {b : Sent} (t : Nat) (hq : q < 4) (hup : s.portUp q = true)
    (hagain : 0 < (s.port q).again) (hb : (s.port q).replay[(s.port q).replay.length - (s.port q).again]? = some b)
    (htype : b.blk.type ≠ 8) : exec (.blockSend q t) s =
      .next ((s.setPort q { s.port q with ctl := [], again := (s.port q).again - 1, out := some b.blk }).inc (Addr.fabPortCnt0 q) 63 32 1) := by
  have hexec : exec (.blockSend q t) s = execBlockSend q t s := rfl
  rw [hexec, execBlockSend, if_pos hq, if_pos hup, State.blockOut_replay t hagain hb htype]

/-! ## Training (R607 to R613) -/

theorem exec_eqRequest_pre {s : State} {q l r : Nat} (hq : q < 4) (hup : s.portUp q = true) (hl : l < 2) (hr : r % 16 = 1) :
    exec (.eqRequest q l r) s = .next (s.setPort q { s.port q with
      eq := (s.port q).eq.set l { (s.port q).eq.getD l ⟨0, 0, 0⟩ with pre := ((s.port q).eq.getD l ⟨0, 0, 0⟩).pre + 1 } }) := by
  have happly : ∀ e : EqTap, e.apply r = { e with pre := e.pre + 1 } := fun e => by rw [EqTap.apply, hr]; rfl
  have hclk : s.clk (11 + q) = true := ((Bool.and_eq_true _ _).mp hup).1
  have hexec : exec (.eqRequest q l r) s = execEqRequest q l r s := rfl
  rw [hexec, execEqRequest, if_pos ⟨hq, hl⟩, if_pos ⟨hclk, .inr hup⟩]
  simp only [happly]

theorem exec_portTrainingStart_due {s : State} {q : Nat} (hq : q < 4) (hclk : s.clk (11 + q) = true)
    (hen : s.rb (Addr.fabPortCfg q) 0 = true) (hin : s.portState q ≠ 5) : exec (.portTrainingStart q) s =
      .next ((s.setPort q { s.port q with
        esc := false, trainAt := s.time, eq := [⟨s.rf (Addr.fabPortCfg q) 5 3, 0, 0⟩, ⟨s.rf (Addr.fabPortCfg q) 5 3, 0, 0⟩] }).setPortState q 1) := by
  have hexec : exec (.portTrainingStart q) s = execPortTrainingStart q s := rfl
  rw [hexec, execPortTrainingStart, if_pos hq, if_pos ⟨hclk, hen, hin⟩]

theorem exec_trainingTimeout_again {s : State} {q : Nat} (hq : q < 4) (hclk : s.clk (11 + q) = true) (htrain : s.portState q = 1)
    (hdue : (s.port q).trainAt + 4000000 ≤ s.time) (hfails : (s.port q).fails < 2) : exec (.trainingTimeout q) s =
      .next (s.setPort q { s.port q with fails := (s.port q).fails + 1, esc := false, trainAt := s.time }) := by
  have hexec : exec (.trainingTimeout q) s = execTrainingTimeout q s := rfl
  rw [hexec, execTrainingTimeout, if_pos hq, if_pos ⟨hclk, htrain, hdue⟩]
  exact congrArg Host.Outcome.next (if_pos (Nat.succ_lt_succ hfails))

/-- A port that has found its partner. -/
def Port.restarted (x : Port) (now : Nat) : Port :=
  { x with
    txSeq := 0, rxSeq := 0, replay := [], tx := (x.replay.map fun b => (b.blk, now)) ++ x.tx, nakSent := false, unacked := 0,
    credits := [0, 0, 0], ctl := [(2, 8), (2, 8), (2, 24), (2, 24), (2, 36)], again := 0, fails := 0, progressAt := now }

/-- The state in which a trained port goes up. -/
def State.portTrained (s : State) (q nid np rtt res : Nat) : State :=
  (((s.setPort q ((s.port q).restarted s.time)).wf (Addr.fabPortStat q) 48 40 nid).wf (Addr.fabPortStat q) 54 52 np).setLatency q rtt res

theorem State.goUp_eq (s : State) (q : Nat) : s.goUp q = s.wf (Addr.fabPortStat q) 2 0 (if (s.lanesIn q).length = 2 then 2 else 3) := by
  rw [State.goUp, State.setPortState]
  exact if_neg (by split <;> decide)

theorem State.port_setLatency (s : State) (q rtt res : Nat) : (s.setLatency q rtt res).port q = { s.port q with latAt := s.time } :=
  State.port_setPort_same ..

theorem State.rd_setPort (s : State) (q : Nat) (x : Port) (off : Nat) : (s.setPort q x).rd off = s.rd off := rfl

theorem State.rd_setLatency (s : State) {q off : Nat} (rtt res : Nat) (h : off ≠ Addr.ptbLinkoff q) :
    (s.setLatency q rtt res).rd off = s.rd off := by
  rw [State.setLatency, State.rd_wf_other _ _ _ _ h, State.rd_setPort]

theorem State.port_trained (s : State) (q nid np rtt res : Nat) :
    ((s.portTrained q nid np rtt res).port q).txSeq = 0 ∧ ((s.portTrained q nid np rtt res).port q).rxSeq = 0 := by
  rw [State.portTrained, State.port_setLatency, State.port_wf, State.port_wf, State.port_setPort_same]
  exact ⟨rfl, rfl⟩

theorem fabPort_ne_linkoff {q : Nat} (h : q < 4) :
    Addr.fabPortStat q ≠ Addr.ptbLinkoff q ∧ Addr.fabPortLane q ≠ Addr.ptbLinkoff q ∧ Addr.fabPortLane q ≠ Addr.fabPortStat q := by
  unfold Addr.fabPortStat Addr.fabPortLane Addr.ptbLinkoff
  omega

theorem State.lanesIn_trained (s : State) {q : Nat} (nid np rtt res : Nat) (h : q < 4) :
    (s.portTrained q nid np rtt res).lanesIn q = s.lanesIn q := by
  obtain ⟨-, hlink, hstat⟩ := fabPort_ne_linkoff h
  have hlane : (s.portTrained q nid np rtt res).rd (Addr.fabPortLane q) = s.rd (Addr.fabPortLane q) := by
    rw [State.portTrained, State.rd_setLatency _ _ _ hlink, State.rd_wf_other _ _ _ _ hstat, State.rd_wf_other _ _ _ _ hstat, State.rd_setPort]
  simp only [State.lanesIn, State.rb, hlane]

theorem State.nid_trained (s : State) {q : Nat} (nid np rtt res : Nat) (h : q < 4) :
    (s.portTrained q nid np rtt res).rf (Addr.fabPortStat q) 48 40 = nid % 512 := by
  rw [State.rf, State.portTrained, State.rd_setLatency _ _ _ (fabPort_ne_linkoff h).1, State.rd_wf_same, State.rd_wf_same,
    fld_setFld_other _ 54 52 _ _ _ (by decide) (by decide) (by decide)]
  exact fld_setFld_same _ 48 40 _ (by decide) (by decide)

theorem exec_trainingComplete_partner {s : State} {q nid np w h : Nat} {loop : Bool} (rtt res : Nat) (hq : q < 4)
    (hclk : s.clk (11 + q) = true) (htrain : s.portState q = 1) (hesc : (s.port q).esc = false)
    (hpartner : s.partnerOk q nid np w h loop = true) :
    exec (.trainingComplete q nid np w h loop rtt res) s = .next ((s.portTrained q nid np rtt res).goUp q) := by
  have hexec : exec (.trainingComplete q nid np w h loop rtt res) s = execTrainingComplete q nid np w h loop rtt res s := rfl
  rw [hexec, execTrainingComplete, if_pos hq, if_pos ⟨hclk, htrain, by simp [hesc]⟩, if_pos hpartner]
  rfl

/-- A trained port is up, its numbers at 0, its partner shown. -/
theorem State.goUp_trained (s : State) {q : Nat} (nid np rtt res : Nat) (hq : q < 4) {u : State}
    (hu : u = (s.portTrained q nid np rtt res).goUp q) : (u.port q).txSeq = 0 ∧ (u.port q).rxSeq = 0 ∧
      u.portState q = (if (s.lanesIn q).length = 2 then 2 else 3) ∧ u.rf (Addr.fabPortStat q) 48 40 = nid % 512 := by
  obtain ⟨htx, hrx⟩ := s.port_trained q nid np rtt res
  rw [State.goUp_eq, State.lanesIn_trained _ _ _ _ _ hq] at hu
  subst hu
  refine ⟨by rw [State.port_wf, htx], by rw [State.port_wf, hrx], ?_, ?_⟩
  · rw [State.portState, State.rf, State.rd_wf_same, fld_setFld_same _ _ _ _ (by decide) (by decide)]
    split <;> rfl
  · rw [State.rf, State.rd_wf_same, fld_setFld_other _ 2 0 _ _ _ (by decide) (by decide) (by decide)]
    exact s.nid_trained nid np rtt res hq

theorem exec_fastRetrainComplete_kept {s : State} {q : Nat} (b0 b1 : Bool) (rtt res : Nat) (hq : q < 4) (hclk : s.clk (11 + q) = true)
    (htrain : s.portState q = 1) (hesc : (s.port q).esc = true) (hkept : (s.port q).declared = false) :
    exec (.fastRetrainComplete q b0 b1 rtt res) s = .next (((s.setPort q { s.port q with
      esc := false, declared := false, fails := 0, replay := (s.port q).replay.map (fun (b : Sent) => { b with tries := 0 }),
      again := (s.port q).replay.length, ctl := [(3, 0)], progressAt := s.time }).setLatency q rtt res).goUp q) := by
  have hstate : ∀ x, (s.setPort q x).portState q ≠ 5 := fun x h => absurd (htrain.symm.trans h) (by decide)
  have hexec : exec (.fastRetrainComplete q b0 b1 rtt res) s = execFastRetrainComplete q b0 b1 rtt res s := rfl
  rw [hexec, execFastRetrainComplete, if_pos hq, if_pos ⟨hclk, htrain, hesc⟩]
  simp only [hkept, Bool.false_eq_true, if_false, if_neg (hstate _)]

end Sys2Proof.Machine
end

section
/-! Where the commands on dies, jobs, pools, streams, channels and fabric ports complete. -/

open Sys2Proof Sys2Proof.Machine

/-- Settles O60: one command after the other, each by the lemma that says what it does where it is due. -/
theorem deviceCommandsComplete : Obligations.DeviceCommandsComplete := by
  unfold Obligations.DeviceCommandsComplete
  refine ⟨?_, ?_, ?_⟩
  · intro s src e r c x flt p k v he hr hc hx hp hp4 hk
    refine ⟨?_, ?_, ?_, ?_, ?_, exec_mtabWrite v hp hp4, ?_, ?_, ?_, ?_, ?_, exec_semConfigWrite_idle v hc hk, ?_, exec_dlmReseed v hp hp4⟩
    · intro hon hst hacq hsealed hend
      rw [exec_dieAcquired_meets he hon hst hacq hend, State.maybePost_waits]
      rw [State.die_setDie_same]
      exact fun h => absurd (hsealed.symm.trans h.1) Bool.false_ne_true
    · exact fun t hst hacq hdue => exec_dieForce_due he hst hacq hdue
    · intro q n m hq hposter _ _ hen hgo hlink hmesh hroom
      obtain ⟨u, hexec, hdie, hring, -, hpidx, -⟩ :=
        exec_verdictRecordWrite_room hr hq hposter hen hgo hlink hmesh (beq_eq_false_iff_ne.mpr hroom)
      exact ⟨u, hexec, by rw [hdie]; rfl, hring, hpidx⟩
    · intro i hi hlink hmesh hstopped hat hin
      have hreads : s.readsCons r := ⟨by rw [hstopped, Bool.true_or], by rw [hat], hlink, hmesh⟩
      exact ⟨_, exec_consumerIndexRead_due hr hreads, hi ▸ State.vring_consRead_taken (decide_eq_true (hi ▸ hin))⟩
    · intro f t hpend hat hdue _ _
      rw [exec_interruptModerationExpiry_due hr (hpend ▸ List.cons_ne_nil f []) hat hdue, State.ringRaise_eq, hpend]
      rfl
    · intro hup hen hfree hact hany
      obtain ⟨j, hj, hin, hserves, hfirst⟩ := State.nextJob_serves hany
      exact ⟨j, hin, hserves, hfirst, exec_jobTake flt hc hx hup hen hfree hact hj⟩
    · exact fun hup hpre hend hrun => exec_inningsBoundary_idle hc hup hpre hend hrun
    · exact fun y hup hpre hrun hnp => exec_preemptTileBoundary_due hc hup hpre hrun hnp
    · exact fun o t uid hfind hstart hnp hgoing hdue hjob => exec_overrunFault_due hfind hstart hnp hgoing hdue hjob
    · rintro t since rest q rfl hheld hdue w rfl
      exact exec_holdFault_due hc hk hheld hdue
    · exact fun j n hfind => exec_ageLimitExpiry_queued ⟨hp, hp4⟩ hfind
  · intro s src p q c k ch v hp hp4 hq hc hk hch
    refine ⟨?_, ?_, ?_, ?_, exec_poolConfigWrite v hp hp4 hq, exec_sqStreamConfigWrite_free v hc hk, exec_sqLiveWrite_off v hc hk,
      ?_, ?_, exec_channelInitComplete_due hch, ?_, ?_, ?_, ?_⟩
    · rintro htake i rest w x hen hfree hsafe rfl hx
      exact exec_poolAlloc hp hp4 hq htake hen hfree hsafe hx
    · rintro htake i rest w x hen hfree hsafe rfl hx
      exact exec_tableAlloc hp hp4 htake hen hfree hsafe hx
    · exact fun htake i hobj hcount => exec_poolFree_held hp hp4 hq htake hobj hcount
    · exact fun htake i hobj hcount => exec_tableFree_held hp hp4 htake hobj hcount
    · exact fun hcan y data hres hread => exec_swapInComplete_read hc hk hcan hres hread
    · exact fun hcan y data hres hread => exec_swapOutComplete_read hc hk hcan hres hread
    · exact fun hrole => ⟨_, exec_retrainComplete_due hch hrole, s.role_retrained ch, s.trained_retrained ch⟩
    · intro b n rest hdue hen hready hawake hidle hspare hlow hb hrole hslots hmin
      have hold : s.oldest = some b := State.oldest_of_first hb hrole (hslots ▸ List.cons_ne_nil n rest) hmin
      exact exec_rotationStart_due hdue hen hready hawake hidle hch hspare hlow hold hslots
    · exact fun m hmig hcp hawake hclean => exec_migrationUnitCopy_clean hmig hcp hawake hclean
    · intro m hmig hend hslot hsrc hdst hne hret hempty
      exact ⟨_, exec_migrationComplete_due hmig hend, State.migDone_effect hslot hsrc hdst hne hret hempty⟩
  · rintro s q x hq rfl
    refine ⟨fun hup => ⟨?_, ?_, ?_, ?_, ?_, ?_, ?_⟩, fun hclk => ⟨?_, ?_, ?_, ?_⟩⟩
    · exact fun b hgood hseq => exec_fabricBlockReceive_inTurn hq hup hgood hseq
    · exact fun n l hl hlen => exec_ackReceive_progress hq hup hl hlen
    · rintro n b rest y hreplay htries rfl
      have hagain := State.startReplay_again hreplay htries
      exact ⟨(exec_nakReceive_up n hq hup).trans (congrArg _ hagain),
        fun hdue => (exec_replayTimeout_due hq hup hdue).trans (congrArg _ hagain)⟩
    · exact fun hun hdue => exec_ackDelayExpiry_due hq hup hun hdue
    · exact fun n m hn h1 h8 => exec_creditReturn_up hq hup hn h1 h8
    · exact fun b t hagain hb htype => exec_blockSend_replay t hq hup hagain hb htype
    · exact fun l n hl hn => exec_eqRequest_pre hq hup hl hn
    · rintro p hen hin rfl
      exact exec_portTrainingStart_due hq hclk hen hin
    · intro nid np w h loop rtt res htrain hesc hpartner
      exact ⟨_, exec_trainingComplete_partner rtt res hq hclk htrain hesc hpartner, s.goUp_trained nid np rtt res hq rfl⟩
    · exact fun htrain hdue hfails => exec_trainingTimeout_again hq hclk htrain hdue hfails
    · exact fun b0 b1 rtt res htrain hesc hkept => exec_fastRetrainComplete_kept b0 b1 rtt res hq hclk htrain hesc hkept

end

section
/-! The scheduler's commands where they do nothing, wait, or meet what only some threads have: a queue without a job to take, a boundary
within the innings' time or under a non-pre-emptible op, an op of a job that is ending, device semaphores, a running job past its age limit
(R185, R191, R192, R206, R208, R210, R219). -/

namespace Sys2Proof.Machine

open Sys2Proof

/-! ## Taking a job (R185, R186) -/

theorem State.before_eq (s : State) (a b : Job) : s.before a b =
    decide (b.prio < a.prio ∨ a.prio = b.prio ∧ (s.tLim a < s.tLim b ∨ s.tLim a = s.tLim b ∧ a.born < b.born)) := by
  simp only [State.before, Bool.decide_or, Bool.decide_and, beq_eq_decide]

theorem State.nextJob_none {s : State} {c : Nat} (h : ∀ j ∈ s.queued, s.serves c j = false) : s.nextJob c = none := by
  have hnone : s.queued.filter (s.serves c) = [] := List.filter_eq_nil_iff.mpr fun j hj => by simp [h j hj]
  rw [State.nextJob, hnone]

theorem exec_jobTake_none {s : State} {c x : Nat} (flt : Nat) (hc : c < 6) (hx : x < 64)
    (h : ∀ j ∈ s.queued, s.serves c j = false) : exec (.jobTake c x flt) s = .next s := by
  have hexec : exec (.jobTake c x flt) s = execJobTake c x flt s := rfl
  rw [hexec, execJobTake, if_pos ⟨hc, hx⟩, State.nextJob_none h, ite_self]

/-! ## Boundaries (R191, R192, R203, R206) -/

/-- The state in which a boundary finds thread y, which runs: its monitor has evaluated its job; a base thread has none (R218). -/
def State.evaluated (s : State) (c y : Nat) : State := if y = 64 then s else s.evalCtx c y

theorem exec_inningsBoundary_early {s : State} {c : Nat} (hc : c < 6) (h : s.time < (s.clu c).innEnd) :
    exec (.inningsBoundary c) s = .next s := by
  have hexec : exec (.inningsBoundary c) s = execInningsBoundary c s := rfl
  rw [hexec, execInningsBoundary, if_pos hc]
  simp [Nat.not_le.mpr h]

/-- A boundary that the running thread's evaluation leaves due comes at once, or waits for the thread's non-pre-emptible op. -/
theorem exec_inningsBoundary_running {s : State} {c y : Nat} (hc : c < 6) (hup : s.cluUp c = true) (hpre : (s.clu c).preempt = false)
    (hend : (s.clu c).innEnd ≤ s.time) (hrun : (s.clu c).running = some y) (hstill : ((s.evaluated c y).clu c).running = some y)
    (hdue : ((s.evaluated c y).clu c).innEnd ≤ (s.evaluated c y).time) : exec (.inningsBoundary c) s =
      .next (if (s.evaluated c y).npFlying (tid c y) then (s.evaluated c y).setClu c { (s.evaluated c y).clu c with
        deferred := some (((s.evaluated c y).clu c).deferred.getD (s.evaluated c y).time) } else (s.evaluated c y).boundary c) := by
  have hexec : exec (.inningsBoundary c) s = execInningsBoundary c s := rfl
  have hboundary : (s.cluUp c && decide ((s.clu c).innEnd ≤ s.time) && !(s.clu c).preempt) = true := by simp [hup, hend, hpre]
  rw [hexec, execInningsBoundary, if_pos hc, if_pos hboundary, State.inningsEnd, hrun]
  exact congrArg Host.Outcome.next (if_neg (not_or.mpr ⟨not_not_intro hstill, Nat.not_lt.mpr hdue⟩))

theorem exec_preemptTileBoundary_np {s : State} {c y : Nat} (hc : c < 6) (hrun : (s.clu c).running = some y)
    (hnp : s.npFlying (tid c y) = true) : exec (.preemptTileBoundary c) s = .next s := by
  have hexec : exec (.preemptTileBoundary c) s = execPreemptTileBoundary c s := rfl
  rw [hexec, execPreemptTileBoundary, if_pos hc]
  simp [hrun, hnp]

/-! ## Overruns, holds and age limits (R208, R210, R219) -/

/-- An overrun of an op, counted and recorded. -/
def State.overrunRecorded (s : State) (o : Op) : State :=
  (s.sat (Addr.schOvr (thClu o.th)) 63 48 1).record { report 19 .fault (thClu o.th) o.part with
    jseq := ((s.jobOn o.th).map (·.jseq)).getD 0 }

theorem exec_overrunFault_early {s : State} {uid t : Nat} {o : Op} (hfind : s.ops.find? (fun (o : Op) => o.uid == uid) = some o)
    (hstart : o.start = some t) (h : s.time < t + 800 * o.npb) : exec (.overrunFault uid) s = .next s := by
  have hticks : s.time < t + usTicks (2 * o.npb) := by unfold usTicks; omega
  have hexec : exec (.overrunFault uid) s = execOverrunFault uid s := rfl
  rw [hexec, execOverrunFault]
  simp [hfind, hstart, hticks]

/-- An op past twice its bound ends with TIMEOUT; its job has a fault, unless it was only waiting for the op to end. -/
theorem exec_overrunFault_over {s : State} {uid t : Nat} {o : Op} (hfind : s.ops.find? (fun (o : Op) => o.uid == uid) = some o)
    (hstart : o.start = some t) (hnp : o.np = true) (hgoing : o.done = false) (hdue : t + 800 * o.npb ≤ s.time) :
    exec (.overrunFault uid) s =
      .next (if thClass o.th = .job ∧ ((s.overrunRecorded o).ctx (thClu o.th) (thCtx o.th)).st = .ending
        then (s.overrunRecorded o).endOp o 2 o.flags else ((s.overrunRecorded o).endOp o 2 o.flags).overrun o.th) := by
  have hticks : ¬s.time < t + usTicks (2 * o.npb) := by unfold usTicks; omega
  have hfault : ¬(!o.np ∨ o.done ∨ s.time < t + usTicks (2 * o.npb)) := by simp [hnp, hgoing, hticks]
  have hexec : exec (.overrunFault uid) s = execOverrunFault uid s := rfl
  rw [hexec, execOverrunFault, hfind]
  simp only [hstart, if_neg hfault]
  rfl

/-- The commands name semaphore k of cluster d, or device semaphore k with d = 6. -/
theorem okSem_semKey {d k q : Nat} (h : d < 6 ∧ k < 256 ∧ q = d * 256 + k ∨ d = 6 ∧ k < 64 ∧ q = 1536 + k) :
    okSem d k = true ∧ semKey d k = q := by
  obtain ⟨hd, hk, rfl⟩ | ⟨rfl, hk, rfl⟩ := h
  · exact ⟨by simp [okSem, hd, hk], if_pos hd⟩
  · exact ⟨by simp [okSem, hk], rfl⟩

/-- The earliest unit of a semaphore, by the time since which it is held. -/
theorem exec_holdFault_held {s : State} {d k q t at_ : Nat} {rest : List (Nat × Nat)} (hsem : okSem d k = true) (hkey : semKey d k = q)
    (hheld : (s.sem q).holders = (t, at_) :: rest) : exec (.holdFault d k) s =
      .next (if s.time ≤ at_ + 400 * max 1 (s.rf (semCfg q) 63 48) then s else
        (State.record (s.forceRel q t) { report 19 .fault (thClu t) ((s.forceRel q t).thPart t) with
          jseq := (((s.forceRel q t).jobOn t).map (·.jseq)).getD 0 }).overrun t) := by
  have hexec : exec (.holdFault d k) s = execHoldFault d k s := rfl
  rw [hexec, execHoldFault, if_pos hsem, hkey, Nat.mul_comm 400]
  simp only [hheld]
  rfl

/-- The expired age limit of a job that a context holds, where no queued job has its number. -/
theorem exec_ageLimitExpiry_held {s : State} {p n k : Nat} {e : Ctx} (hp : 1 ≤ p ∧ p ≤ 4)
    (hqueued : ∀ j ∈ s.queued, ¬(j.part = p ∧ j.jseq = n))
    (hfind : s.ctxs.find? (fun (e : Nat × Ctx) => e.2.st != .free && (e.2.job.part == p && e.2.job.jseq == n && s.tooOld e.2.job)) =
      some (k, e)) : exec (.ageLimitExpiry p n) s = .next (s.evalCtx (k / 128) (k % 128)) := by
  have hnone : s.queued.find? (fun (j : Job) => j.part == p && j.jseq == n && s.tooOld j) = none :=
    List.find?_eq_none.mpr fun j hj hit => hqueued j hj (by
      simp only [Bool.and_eq_true, beq_iff_eq] at hit
      exact hit.1)
  have hexec : exec (.ageLimitExpiry p n) s = execAgeLimitExpiry p n s := rfl
  rw [hexec, execAgeLimitExpiry, if_pos hp]
  simp only [hnone, hfind]

/-! ## The configuration of a semaphore (R209) -/

theorem semCfg_cluster {d k : Nat} (hd : d < 6) (hk : k < 256) : semCfg (d * 256 + k) = Addr.schSemCfg d k := by
  rw [semCfg, if_pos (by omega), show (d * 256 + k) / 256 = d by omega, show (d * 256 + k) % 256 = k by omega]

theorem semCfg_device (k : Nat) : semCfg (1536 + k) = Addr.schGsemCfg k := by
  rw [semCfg, if_neg (by omega), Nat.add_sub_cancel_left]

theorem semCfg_ne_semStat (q : Nat) : semCfg q ≠ semStat q := by
  unfold semCfg semStat Addr.schSemCfg Addr.schSemStat Addr.schGsemCfg Addr.schGsemStat
  split <;> omega

theorem locate_schGsemCfg : ∀ k, k < 64 → locate (Addr.schGsemCfg k) =
    some (⟨.schGsemCfg, 0x700000, [(0x10, 64, 0)], 0x3E8000000000000, 0xFFFF0F0000000000, 0x0⟩, [k]) := by decide

/-- The status of a semaphore that nothing holds keeps its count of forced releases. -/
theorem State.semSync_unheld {s : State} {q : Nat} (h : (s.sem q).holders = []) :
    ∃ v, fld v 15 8 = s.rf (semStat q) 15 8 ∧ s.semSync q = s.wr (semStat q) v := by
  refine ⟨_, ?_, by rw [State.semSync, h]⟩
  simp [State.rf, fld_setFld_other]

/-- A semaphore that no thread waits for is freed, and only its status is brought up to date. -/
theorem State.semCfgWrite_unwaited {s : State} {q : Nat} (new : W64) (h : (s.sem q).waiters = []) :
    ∃ v, fld v 15 8 = 0 ∧ s.semCfgWrite q new = (s.semFreed q new).wr (semStat q) v := by
  have hsem := State.sem_semFreed new h
  have hgrant : State.grantAll 16 (s.semFreed q new) q = s.semFreed q new := State.grantAll_idle 16 (by rw [hsem]; rfl)
  obtain ⟨v, hcount, hsync⟩ := State.semSync_unheld (s := s.semFreed q new) (q := q) (by rw [hsem]; rfl)
  refine ⟨v, hcount.trans ?_, (congrArg (State.semSync · q) hgrant).trans hsync⟩
  rw [State.rf, State.semFreed, State.rd_setSem, State.rd_wf_same]
  exact fld_setFld_same _ 15 8 _ (by decide) (by decide)

/-- What the write of a configuration makes of a semaphore that no thread waits for, and what it leaves as it was. -/
theorem State.semCfgWrite_resets {s u : State} {q : Nat} {new : W64} (h : (s.sem q).waiters = []) (hu : u = s.semCfgWrite q new) :
    u = { s with regs := u.regs, sems := u.sems } ∧ u.sem q = sem0 ∧ u.rd (semCfg q) = new ∧
    u.semFree q = u.rf (semCfg q) 43 40 + 1 ∧ u.rf (semStat q) 15 8 = 0 ∧ (∀ n, n ≠ q → u.sem n = s.sem n) ∧
    s.onlyRegs u [semCfg q, semStat q] := by
  obtain ⟨v, hcount, hwrite⟩ := State.semCfgWrite_unwaited new h
  rw [hwrite] at hu
  have hsem : u.sem q = sem0 := by rw [hu, State.sem_wr, State.sem_semFreed _ h]
  refine ⟨by rw [hu]; rfl, hsem, ?_, by rw [State.semFree, hsem]; rfl, ?_, fun n hn => ?_, fun off hoff => ?_⟩
  · rw [hu, State.rd_wr_other _ _ (semCfg_ne_semStat q), State.rd_semFreed _ _ (semCfg_ne_semStat q)]
  · rw [hu, State.rf, State.rd_wr_same, hcount]
  · rw [hu]
    exact Sparse.get_set_other _ _ _ hn
  · obtain ⟨hcfg, hstat⟩ : off ≠ semCfg q ∧ off ≠ semStat q := by simpa using hoff
    rw [hu, State.rd_wr_other _ _ hstat, State.semFreed, State.rd_setSem, State.rd_wf_other _ _ _ _ hstat, State.rd_wr_other _ _ hcfg]

theorem exec_semConfigWrite_cluster {s : State} {src : Src} {d k : Nat} (v : W64) (hd : d < 6) (hk : k < 256)
    (h : TakesWrite s src .schSemCfg d (Addr.schSemCfg d k)) :
    exec (.semConfigWrite src d k v) s = .next (s.semCfgWrite (d * 256 + k) (s.stored (Addr.schSemCfg d k) v)) := by
  have hloc := locate_schSemCfg hd hk
  have hexec : exec (.semConfigWrite src d k v) s = busWrite src (decide ((d < 6 ∧ k < 256) ∨ (d = 6 ∧ k < 64)))
    (if d = 6 then Addr.schGsemCfg k else Addr.schSemCfg d k) v s := rfl
  rw [hexec, if_neg hd.ne, State.stored_of_locate hloc]
  exact busWrite_takes v (decide_eq_true (.inl ⟨hd, hk⟩)) h hloc rfl rfl

theorem exec_semConfigWrite_device {s : State} {src : Src} {k : Nat} (v : W64) (hk : k < 64)
    (h : TakesWrite s src .schGsemCfg k (Addr.schGsemCfg k)) :
    exec (.semConfigWrite src 6 k v) s = .next (s.semCfgWrite (1536 + k) (s.stored (Addr.schGsemCfg k) v)) := by
  have hloc := locate_schGsemCfg k hk
  rw [State.stored_of_locate hloc]
  exact busWrite_takes v (decide_eq_true (.inr ⟨rfl, hk⟩)) h hloc rfl rfl

/-- A configuration write that takes effect is State.semCfgWrite of the semaphore that it names. -/
theorem exec_semConfigWrite {s : State} {src : Src} {d k q i off : Nat} {id : RegId} (v : W64)
    (hsem : d < 6 ∧ k < 256 ∧ q = d * 256 + k ∧ id = .schSemCfg ∧ i = d ∧ off = Addr.schSemCfg d k ∨
      d = 6 ∧ k < 64 ∧ q = 1536 + k ∧ id = .schGsemCfg ∧ i = k ∧ off = Addr.schGsemCfg k) (h : TakesWrite s src id i off) :
    off = semCfg q ∧ exec (.semConfigWrite src d k v) s = .next (s.semCfgWrite q (s.stored off v)) := by
  obtain ⟨hd, hk, rfl, rfl, rfl, rfl⟩ | ⟨rfl, hk, rfl, rfl, rfl, rfl⟩ := hsem
  · exact ⟨(semCfg_cluster hd hk).symm, exec_semConfigWrite_cluster v hd hk h⟩
  · exact ⟨(semCfg_device _).symm, exec_semConfigWrite_device v hk h⟩

end Sys2Proof.Machine
end

section
/-! How jobs are taken and innings end, and what becomes of overruns, holds, age limits and estimates. -/

open Sys2Proof Sys2Proof.Machine

/-- Settles O34: each command by whether it is due and by the thread that it meets; the job taken as the first of the queue's order. -/
theorem scheduling : Obligations.Scheduling := by
  unfold Obligations.Scheduling
  intro s src c x flt p v hc hx hp hp4
  refine ⟨?_, s.before_eq, ?_, ?_, ?_, ?_, ?_, ?_, ?_, exec_dlmReseed v hp hp4, exec_mtabWrite v hp hp4⟩
  · refine fun hup hen hfree hact => ⟨exec_jobTake_none flt hc hx, fun hany => ?_⟩
    obtain ⟨j, hj, hin, hserves, hfirst⟩ := State.nextJob_serves hany
    exact ⟨j, hin, hserves, hfirst, exec_jobTake flt hc hx hup hen hfree hact hj⟩
  · refine fun hup hpre => ⟨exec_inningsBoundary_early hc, exec_inningsBoundary_idle hc hup hpre, ?_⟩
    rintro y w hend hrun rfl hstill hdue
    have hexec := exec_inningsBoundary_running hc hup hpre hend hrun hstill hdue
    exact ⟨fun hnp => hexec.trans (congrArg _ (if_neg (Bool.eq_false_iff.mp hnp))), fun hnp => hexec.trans (congrArg _ (if_pos hnp))⟩
  · exact fun y hup hpre hrun => ⟨exec_preemptTileBoundary_due hc hup hpre hrun, exec_preemptTileBoundary_np hc hrun⟩
  · refine fun o t uid hfind hstart hnp hgoing => ⟨exec_overrunFault_early hfind hstart, ?_⟩
    rintro hdue r rfl stopping rfl
    have hexec := exec_overrunFault_over hfind hstart hnp hgoing hdue
    exact ⟨fun h => hexec.trans (congrArg _ (if_neg h)), fun h => hexec.trans (congrArg _ (if_pos h))⟩
  · intro d k q t at_ rest hsem hheld
    obtain ⟨hok, hkey⟩ := okSem_semKey hsem
    have hexec := exec_holdFault_held hok hkey hheld
    refine ⟨fun h => hexec.trans (congrArg _ (if_pos h)), ?_⟩
    rintro h w rfl
    exact hexec.trans (congrArg _ (if_neg (Nat.not_le.mpr h)))
  · intro d k q id i off hsem htake hidle
    obtain ⟨rfl, hexec⟩ := exec_semConfigWrite v hsem htake
    exact ⟨_, hexec, State.semCfgWrite_resets hidle rfl⟩
  · exact fun j n hfind => exec_ageLimitExpiry_queued ⟨hp, hp4⟩ hfind
  · exact fun n k e hqueued hfind => exec_ageLimitExpiry_held ⟨hp, hp4⟩ hqueued hfind

end

section
/-! How an instruction of a Clove core ends: a register written, the next instruction, an exception. -/

namespace Sys2Proof.Machine

open Sys2Proof

section
variable {i : Instr} {s : State} {t : Nat} {f : State → State}

/-- An instruction of a thread that may issue answers with its effect on the state. -/
theorem exec_instr (hruns : Runs s t) (hexec : exec i s = instr t f s) : exec i s = .next (f s) :=
  hexec.trans (instr_runs hruns f)

/-- An instruction that leaves its thread as x and is counted as retired. -/
theorem leaves_instr {x : Thread} (hruns : Runs s t) (hexec : exec i s = instr t f s) (hf : f s = (s.setThread t x).tally t) :
    Leaves i s t x :=
  leaves_of ((exec_instr hruns hexec).trans (congrArg _ hf))

theorem leaves_retG {gd : Reg} {v w : W64} (hruns : Runs s t) (hexec : exec i s = instr t f s) (hf : f s = s.retG t gd w) (hv : w = v) :
    Leaves i s t ((s.thread t).setG gd v).onward :=
  leaves_instr hruns hexec (by rw [hf, hv, State.retG_eq])

theorem leaves_retP {pd : BitVec 3} {v w : Bool} (hruns : Runs s t) (hexec : exec i s = instr t f s) (hf : f s = s.retP t pd w)
    (hv : w = v) : Leaves i s t ((s.thread t).setP pd v).onward :=
  leaves_instr hruns hexec (by rw [hf, hv, State.retP_eq])

theorem leaves_nextPc (hruns : Runs s t) (hexec : exec i s = instr t f s) (hf : f s = s.nextPc t) : Leaves i s t (s.thread t).onward :=
  leaves_instr hruns hexec (hf.trans (s.nextPc_eq t))

theorem traps_instr {e : Exc} {v : W64} (hruns : Runs s t) (hexec : exec i s = instr t f s) (hf : f s = s.raise t e v) : Traps i s t e v :=
  traps_of ((exec_instr hruns hexec).trans (congrArg _ hf))

/-! ## Operand forms of Table 6.6 -/

theorem leaves_rr {gd ga gb : Reg} {v : W64} {op : W64 → W64 → W64} (hruns : Runs s t)
    (hexec : exec i s = instr t (fun s => s.rr t gd ga gb op) s) (hv : op ((s.thread t).gr ga) ((s.thread t).gr gb) = v) :
    Leaves i s t ((s.thread t).setG gd v).onward :=
  leaves_retG hruns hexec rfl hv

theorem leaves_ri {gd ga : Reg} {v : W64} {op : W64 → W64} (hruns : Runs s t)
    (hexec : exec i s = instr t (fun s => s.ri t gd ga op) s) (hv : op ((s.thread t).gr ga) = v) :
    Leaves i s t ((s.thread t).setG gd v).onward :=
  leaves_retG hruns hexec rfl hv

theorem leaves_r1 {gd ga gb : Reg} {v : W64} {func : Nat} {op : W64 → W64} (hruns : Runs s t) (hgb : gb = 0)
    (hexec : exec i s = instr t (fun s => s.r1 t gd ga gb func op) s) (hv : op ((s.thread t).gr ga) = v) :
    Leaves i s t ((s.thread t).setG gd v).onward :=
  leaves_retG hruns hexec (if_pos hgb) hv

theorem traps_r1 {gd ga gb : Reg} {func : Nat} {op : W64 → W64} (hruns : Runs s t) (hgb : gb ≠ 0)
    (hexec : exec i s = instr t (fun s => s.r1 t gd ga gb func op) s) : Traps i s t .illegal (wordRR 0 gd ga gb func) :=
  traps_instr hruns hexec (if_neg hgb)

theorem pField_setWidth (p : BitVec 3) : pField (p.setWidth 5) = p := by decide +revert

theorem pRest_setWidth (p : BitVec 3) : pRest (p.setWidth 5) = 0 := by decide +revert

theorem pRest_ne_zero {r : Reg} (h : 8 ≤ r.toNat) : pRest r ≠ 0 := by unfold pRest; omega

theorem leaves_cmp {pd : BitVec 3} {ga gb : Reg} {v : Bool} {func : Nat} {op : W64 → W64 → Bool} (hruns : Runs s t)
    (hexec : exec i s = instr t (fun s => s.cmp t (pd.setWidth 5) ga gb func op) s)
    (hv : op ((s.thread t).gr ga) ((s.thread t).gr gb) = v) : Leaves i s t ((s.thread t).setP pd v).onward :=
  leaves_retP hruns hexec ((if_pos (pRest_setWidth pd)).trans (by rw [pField_setWidth])) hv

theorem traps_cmp {gd ga gb : Reg} {func : Nat} {op : W64 → W64 → Bool} (hruns : Runs s t) (hgd : 8 ≤ gd.toNat)
    (hexec : exec i s = instr t (fun s => s.cmp t gd ga gb func op) s) : Traps i s t .illegal (wordRR 2 gd ga gb func) :=
  traps_instr hruns hexec (if_neg (pRest_ne_zero hgd))

theorem leaves_plog {pd pa pb : BitVec 3} {func : Nat} {op : Bool → Bool → Bool} (hruns : Runs s t)
    (hexec : exec i s = instr t (fun s => s.plog t (pd.setWidth 5) (pa.setWidth 5) (pb.setWidth 5) func op) s) :
    Leaves i s t ((s.thread t).setP pd (op ((s.thread t).pr pa) ((s.thread t).pr pb))).onward :=
  leaves_retP hruns hexec
    ((if_pos ⟨pRest_setWidth pd, pRest_setWidth pa, pRest_setWidth pb⟩).trans (by rw [pField_setWidth, pField_setWidth, pField_setWidth])) rfl

theorem traps_plog {gd ga gb : Reg} {func : Nat} {op : Bool → Bool → Bool} (hruns : Runs s t)
    (h : 8 ≤ gd.toNat ∨ 8 ≤ ga.toNat ∨ 8 ≤ gb.toNat)
    (hexec : exec i s = instr t (fun s => s.plog t gd ga gb func op) s) : Traps i s t .illegal (wordRR 3 gd ga gb func) :=
  traps_instr hruns hexec (if_neg fun ⟨hd, ha, hb⟩ => h.elim (pRest_ne_zero · hd) (·.elim (pRest_ne_zero · ha) (pRest_ne_zero · hb)))

end

/-! ## The p registers (R239) -/

theorem Thread.pr_setP_same (x : Thread) {n : BitVec 3} (v : Bool) (h : n ≠ 0) : (x.setP n v).pr n = v := by
  rw [Thread.setP, Thread.pr, if_neg h, if_neg h, Sparse.get_set_same]

theorem Thread.pr_setP_other (x : Thread) {n m : BitVec 3} (v : Bool) (h : m ≠ n) : (x.setP n v).pr m = x.pr m := by
  unfold Thread.setP
  split
  · rfl
  · simp only [Thread.pr, Sparse.get_set_other _ _ _ fun e => h (BitVec.eq_of_toNat_eq e)]

theorem Thread.setG_frame (x : Thread) (n : Reg) (v : W64) : x.setG n v = { x with g := (x.setG n v).g } := by
  unfold Thread.setG; split <;> rfl

theorem Thread.setP_frame (x : Thread) (n : BitVec 3) (v : Bool) : x.setP n v = { x with p := (x.setP n v).p } := by
  unfold Thread.setP; split <;> rfl

/-! ## SHI, CMPI and the branches (Table 6.5) -/

section
variable {s : State} {t : Nat} (hruns : Runs s t)
include hruns

/-- SHI takes the kind from imm16[7:6] and the amount from imm16[5:0]. -/
theorem leaves_shi {gd ga : Reg} {imm : W16} {kind k : Nat} {v : W64} (hk : k < 64) (hkind : kind < 4) (himm : imm.toNat = 64 * kind + k)
    (hv : shiftBy kind k ((s.thread t).gr ga) = v) : Leaves (.shi t gd ga imm) s t ((s.thread t).setG gd v).onward := by
  refine leaves_retG hruns rfl (if_pos (by omega)) ?_
  rw [show imm.toNat / 64 = kind by omega, show imm.toNat % 64 = k by omega]
  exact hv

/-- CMPI takes the condition from gd[4:3] and writes the p register gd[2:0]. -/
theorem leaves_cmpi {gd ga : Reg} {imm : W16} {pd : BitVec 3} {cond : Nat} {v : Bool} (hpd : pField gd = pd) (hcond : pRest gd = cond)
    (hv : cmpiHolds cond ((s.thread t).gr ga) (imm.signExtend 64) = v) : Leaves (.cmpi t gd ga imm) s t ((s.thread t).setP pd v).onward :=
  leaves_retP hruns rfl (by rw [hpd, hcond]) hv

theorem leaves_goTo {i : Instr} {f : State → State} {pc : W64} (hexec : exec i s = instr t f s) (hf : f s = s.goTo t pc) :
    Leaves i s t { s.thread t with pc := pcOf pc } :=
  leaves_instr hruns hexec hf

/-- A jump that writes its link to a register first. -/
theorem leaves_link {i : Instr} {f : State → State} {gd : Reg} {v pc : W64} (hexec : exec i s = instr t f s)
    (hf : f s = (s.setG t gd v).goTo t pc) : Leaves i s t { (s.thread t).setG gd v with pc := pcOf pc } :=
  leaves_instr hruns hexec (by rw [hf, State.goTo, State.setG, State.thread_setThread_same, State.setThread_setThread])

end

theorem ne_not_of_eq {a b : Bool} (h : a = b) : ¬(a = !b) := by simp [h]

theorem State.branch_taken {s : State} {t : Nat} {p : BitVec 3} {n : Bool} (off : BitVec 21) (h : (s.thread t).pr p = !n) :
    s.branch t p n off = s.goTo t ((s.thread t).pc + off.signExtend 64 * 4) := if_pos h

theorem State.branch_untaken {s : State} {t : Nat} {p : BitVec 3} {n : Bool} (off : BitVec 21) (h : (s.thread t).pr p = n) :
    s.branch t p n off = s.nextPc t := if_neg (ne_not_of_eq h)

theorem Thread.pr_setG (x : Thread) (n : Reg) (v : W64) (p : BitVec 3) : (x.setG n v).pr p = x.pr p := by
  unfold Thread.setG; split <;> rfl

theorem branch_target (pc : W64) (off : BitVec 21) :
    pc + off.signExtend 64 * 4 = BitVec.ofInt 64 (pc.toInt + 4 * off.toInt) := by
  rw [BitVec.ofInt_add, BitVec.ofInt_toInt, BitVec.ofInt_mul, BitVec.mul_comm]; rfl

theorem not_ltS (a b : W64) : (!ltS a b) = decide (b.toInt ≤ a.toInt) := by simp only [ltS, ← decide_not, not_lt]

theorem not_ltU (a b : W64) : (!ltU a b) = decide (b.toNat ≤ a.toNat) := by simp only [ltU, ← decide_not, not_lt]

/-! ## The results of Table 6.6 as numbers -/

theorem add_eq_ofNat (a b : W64) : a + b = BitVec.ofNat 64 (a.toNat + b.toNat) := by simp [BitVec.ofNat_add]

theorem sub_eq_ofInt (a b : W64) : a - b = BitVec.ofInt 64 (a.toInt - b.toInt) := by
  rw [Int.sub_eq_add_neg, BitVec.ofInt_add, BitVec.ofInt_neg, BitVec.ofInt_toInt, BitVec.ofInt_toInt, BitVec.sub_eq_add_neg]

theorem mul_eq_ofInt (a b : W64) : a * b = BitVec.ofInt 64 (a.toInt * b.toInt) := by simp [BitVec.ofInt_mul]

theorem add_signExtend_eq_ofInt (a : W64) (imm : W16) : a + imm.signExtend 64 = BitVec.ofInt 64 (a.toInt + imm.toInt) := by
  rw [BitVec.ofInt_add, BitVec.ofInt_toInt]; rfl

theorem setWidth_cntOf (a : W64) : (cntOf a).setWidth 64 = a &&& 0x0000FFFFFFFFFFFF := by
  refine BitVec.eq_of_toNat_eq ?_
  rw [BitVec.toNat_and, show (0x0000FFFFFFFFFFFF : W64).toNat = 2 ^ 48 - 1 from rfl, Nat.and_two_pow_sub_one_eq_mod]
  simp only [cntOf, BitVec.toNat_setWidth]
  omega

theorem twoPow_eq_ofInt {n : Nat} : BitVec.twoPow 64 n = BitVec.ofInt 64 (2 ^ n) :=
  BitVec.eq_of_toNat_eq (by rw [BitVec.toNat_twoPow]; exact (BitVec.toNat_ofNat (2 ^ n) 64).symm.trans (by congr 1))

theorem shiftLeft_eq_ofInt (imm : W16) (n : Nat) : imm.signExtend 64 <<< n = BitVec.ofInt 64 (imm.toInt * 2 ^ n) := by
  rw [BitVec.shiftLeft_eq_mul_twoPow, BitVec.ofInt_mul, twoPow_eq_ofInt]; rfl

theorem shiftLeft_eq_ofNat (a : W64) (n : Nat) : a <<< n = BitVec.ofNat 64 (a.toNat * 2 ^ n) :=
  BitVec.eq_of_toNat_eq (by simp [Nat.shiftLeft_eq])

theorem ushiftRight_eq_ofNat (a : W64) (n : Nat) : a >>> n = BitVec.ofNat 64 (a.toNat / 2 ^ n) := by
  refine BitVec.eq_of_toNat_eq ?_
  rw [BitVec.toNat_ushiftRight, BitVec.toNat_ofNat, Nat.shiftRight_eq_div_pow, Nat.mod_eq_of_lt ((Nat.div_le_self _ _).trans_lt a.isLt)]

theorem sshiftRight_eq_ofInt (a : W64) (n : Nat) : a.sshiftRight n = BitVec.ofInt 64 (a.toInt / 2 ^ n) := by
  rw [BitVec.sshiftRight, Int.shiftRight_eq_div_pow]; norm_cast

theorem hField_of_lt {ga : Reg} (h : ga.toNat < 4) : hField ga = ga.toNat := Nat.mod_eq_of_lt h

theorem ltS_iff {a b : W64} : ltS a b = true ↔ a.toInt < b.toInt := decide_eq_true_iff

theorem ltU_iff {a b : W64} : ltU a b = true ↔ a.toNat < b.toNat := decide_eq_true_iff

theorem minS_eq_ofInt (a b : W64) : (if ltS b a then b else a) = BitVec.ofInt 64 (min a.toInt b.toInt) := by
  split
  · next h => rw [min_eq_right (ltS_iff.mp h).le, BitVec.ofInt_toInt]
  · next h => rw [min_eq_left (not_lt.mp (ltS_iff.not.mp h)), BitVec.ofInt_toInt]

theorem maxS_eq_ofInt (a b : W64) : (if ltS a b then b else a) = BitVec.ofInt 64 (max a.toInt b.toInt) := by
  split
  · next h => rw [max_eq_right (ltS_iff.mp h).le, BitVec.ofInt_toInt]
  · next h => rw [max_eq_left (not_lt.mp (ltS_iff.not.mp h)), BitVec.ofInt_toInt]

theorem minU_eq_ofNat (a b : W64) : (if ltU b a then b else a) = BitVec.ofNat 64 (min a.toNat b.toNat) := by
  split
  · next h => rw [min_eq_right (ltU_iff.mp h).le, BitVec.ofNat_toNat, BitVec.setWidth_eq]
  · next h => rw [min_eq_left (not_lt.mp (ltU_iff.not.mp h)), BitVec.ofNat_toNat, BitVec.setWidth_eq]

theorem maxU_eq_ofNat (a b : W64) : (if ltU a b then b else a) = BitVec.ofNat 64 (max a.toNat b.toNat) := by
  split
  · next h => rw [max_eq_right (ltU_iff.mp h).le, BitVec.ofNat_toNat, BitVec.setWidth_eq]
  · next h => rw [max_eq_left (not_lt.mp (ltU_iff.not.mp h)), BitVec.ofNat_toNat, BitVec.setWidth_eq]

/-- The zero bits above the highest set bit of a number below 2^64, by number. -/
theorem clz_spec (a : W64) : ∃ n, clz a = BitVec.ofNat 64 n ∧ n ≤ 64 ∧ a.toNat < 2 ^ (64 - n) ∧ (n < 64 → 2 ^ (63 - n) ≤ a.toNat) := by
  unfold clz
  split
  · next h => exact ⟨64, rfl, le_rfl, by simp [h], fun h => absurd h (by decide)⟩
  · next h =>
    have hne : a.toNat ≠ 0 := fun h0 => h (BitVec.eq_of_toNat_eq h0)
    have hlog : a.toNat.log2 < 64 := (Nat.log2_lt hne).mpr a.isLt
    refine ⟨63 - a.toNat.log2, rfl, by omega, ?_, fun _ => ?_⟩
    · rw [show 64 - (63 - a.toNat.log2) = a.toNat.log2 + 1 by omega]; exact Nat.lt_log2_self
    · rw [show 63 - (63 - a.toNat.log2) = a.toNat.log2 by omega]; exact Nat.log2_self_le hne

theorem popc_eq (a : W64) :
    popc a = BitVec.ofNat 64 ((List.range 64).filter fun i => a.toNat / 2 ^ i % 2 == 1).length := by
  unfold popc
  rw [List.countP_eq_length_filter]
  congr 3
  funext i
  rw [BitVec.getLsbD, Nat.testBit_eq_decide_div_mod_eq]
  rfl

/-! ## Division (R248) -/

theorem eq_minS_iff {a : W64} : a = minS ↔ a.toInt = -2 ^ 63 :=
  ⟨fun h => h ▸ rfl, fun h => BitVec.eq_of_toInt_eq h⟩

theorem eq_neg_one_iff {b : W64} : b = -1 ↔ b.toInt = -1 := ⟨fun h => h ▸ rfl, fun h => BitVec.eq_of_toInt_eq h⟩

theorem divS_zero (a : W64) : divS a 0 = if a.toInt < 0 then minS else maxS := if_pos rfl

theorem overflow_iff {a b : W64} : (a = minS ∧ b = -1) ↔ (a.toInt = -2 ^ 63 ∧ b.toInt = -1) := and_congr eq_minS_iff eq_neg_one_iff

theorem divS_overflow {a b : W64} (ha : a.toInt = -2 ^ 63) (hb : b.toInt = -1) : divS a b = maxS := by
  rw [eq_neg_one_iff.mpr hb, eq_minS_iff.mpr ha]; rfl

theorem remS_overflow {a b : W64} (ha : a.toInt = -2 ^ 63) (hb : b.toInt = -1) : remS a b = 0 := by
  rw [eq_neg_one_iff.mpr hb, eq_minS_iff.mpr ha]; rfl

theorem divS_plain {a b : W64} (hb : b ≠ 0) (h : ¬(a.toInt = -2 ^ 63 ∧ b.toInt = -1)) :
    divS a b = BitVec.ofInt 64 (Int.tdiv a.toInt b.toInt) := (if_neg hb).trans (if_neg (overflow_iff.not.mpr h))

theorem remS_plain {a b : W64} (hb : b ≠ 0) (h : ¬(a.toInt = -2 ^ 63 ∧ b.toInt = -1)) :
    remS a b = BitVec.ofInt 64 (Int.tmod a.toInt b.toInt) := (if_neg hb).trans (if_neg (overflow_iff.not.mpr h))

theorem abs_tmod_lt (a : Int) {b : Int} (hb : b ≠ 0) : |a.tmod b| < |b| := by
  rw [Int.abs_eq_natAbs, Int.abs_eq_natAbs, Int.natAbs_tmod]
  exact_mod_cast Nat.mod_lt _ (Int.natAbs_pos.mpr hb)

theorem tmod_zero_or_sign (a b : Int) : a.tmod b = 0 ∨ (a.tmod b).sign = a.sign := by
  rcases em (b ∣ a) with h | h
  · exact .inl (Int.tmod_eq_zero_of_dvd h)
  · exact .inr ((Int.sign_tmod a b).trans (if_neg h))

theorem divU_eq_ofNat {a b : W64} (hb : b ≠ 0) : divU a b = BitVec.ofNat 64 (a.toNat / b.toNat) := (if_neg hb).trans BitVec.udiv_def

theorem remU_eq_ofNat {a b : W64} (hb : b ≠ 0) : remU a b = BitVec.ofNat 64 (a.toNat % b.toNat) := (if_neg hb).trans BitVec.umod_def

end Sys2Proof.Machine
end

section
/-! The registers that read a constant, and the operations of Table 6.6. -/

open Sys2Proof Sys2Proof.Machine

/-- Settles O2: a read after a write of the same and of another register. -/
theorem constantRegisters : Obligations.ConstantRegisters := by
  unfold Obligations.ConstantRegisters
  intro x n m p q v b
  exact ⟨rfl, rfl, rfl, rfl, x.gr_setG_same n v, x.pr_setP_same b, x.gr_setG_other v, x.pr_setP_other b, x.setG_frame n v, x.setP_frame p b⟩

/-- Settles O3: each operation's result as the number that the statement gives. -/
theorem integerOperations : Obligations.IntegerOperations := by
  unfold Obligations.IntegerOperations
  constructor
  · rintro s t gd ga gb h _ a b rfl rfl rfl
    exact ⟨leaves_rr h rfl (add_eq_ofNat _ _), leaves_rr h rfl (sub_eq_ofInt _ _), leaves_rr h rfl rfl, leaves_rr h rfl rfl,
      leaves_rr h rfl rfl, leaves_rr h rfl rfl,
      fun hgb => ⟨leaves_r1 h hgb rfl rfl, leaves_r1 h hgb rfl (setWidth_cntOf _)⟩,
      fun hgb => ⟨traps_r1 h hgb rfl, traps_r1 h hgb rfl⟩⟩
  · rintro s t gd ga imm h _ a rfl rfl
    have himm : imm.setWidth 64 = BitVec.ofNat 64 imm.toNat := (BitVec.ofNat_toNat 64 imm).symm
    refine ⟨leaves_ri h rfl (add_signExtend_eq_ofInt _ _), leaves_ri h rfl (by rw [himm]), leaves_ri h rfl (by rw [himm]),
      leaves_ri h rfl (by rw [himm]),
      fun hga => ⟨leaves_retG h rfl (if_pos hga) ?_, _, leaves_retG h rfl (if_pos hga) rfl, fun k => ?_⟩,
      fun hga => ⟨traps_instr h rfl (if_neg (Nat.not_lt.mpr hga)), traps_instr h rfl (if_neg (Nat.not_lt.mpr hga))⟩⟩
    · rw [hField_of_lt hga, shiftLeft_eq_ofInt]
    · rw [hField_of_lt hga, setFld_getLsbD _ _ _ _ _ (by omega) (by omega)]
      exact if_congr (and_congr_right' (Nat.lt_succ_iff.symm)) rfl rfl

/-- Settles O4: products and shifts as numbers, SHI's kind and amount from its immediate, CLZ by the logarithm. -/
theorem shiftsAndMultiplication : Obligations.ShiftsAndMultiplication := by
  unfold Obligations.ShiftsAndMultiplication
  refine ⟨?_, ?_, ?_⟩
  · rintro s t gd ga gb h _ a b rfl rfl rfl
    exact ⟨leaves_rr h rfl (mul_eq_ofInt _ _), leaves_rr h rfl rfl, leaves_rr h rfl rfl⟩
  · rintro s t gd ga gb imm h _ a n rfl rfl rfl
    refine ⟨leaves_rr h rfl (shiftLeft_eq_ofNat _ _), leaves_rr h rfl (ushiftRight_eq_ofNat _ _), leaves_rr h rfl (sshiftRight_eq_ofInt _ _),
      leaves_rr h rfl rfl, fun himm => traps_instr h rfl (if_neg (Nat.not_lt.mpr himm)), fun k hk => ?_⟩
    have himm (c : Nat) (hc : c < 4) : (BitVec.ofNat 16 (64 * c + k)).toNat = 64 * c + k := Nat.mod_eq_of_lt (by omega)
    refine ⟨?_, ?_, ?_, ?_⟩
    · exact leaves_shi h (kind := 0) hk (by decide) (by simpa using himm 0 (by decide)) (shiftLeft_eq_ofNat _ _)
    · exact leaves_shi h (kind := 1) hk (by decide) (himm 1 (by decide)) (ushiftRight_eq_ofNat _ _)
    · exact leaves_shi h (kind := 2) hk (by decide) (himm 2 (by decide)) (sshiftRight_eq_ofInt _ _)
    · exact leaves_shi h (kind := 3) hk (by decide) (himm 3 (by decide)) rfl
  · rintro s t gd ga gb h _ a b rfl rfl rfl
    obtain ⟨n, hn, hle, hlt, hge⟩ := clz_spec ((s.thread t).gr ga)
    exact ⟨leaves_rr h rfl (minS_eq_ofInt _ _), leaves_rr h rfl (maxS_eq_ofInt _ _), leaves_rr h rfl (minU_eq_ofNat _ _),
      leaves_rr h rfl (maxU_eq_ofNat _ _),
      fun hgb => ⟨⟨n, leaves_r1 h hgb rfl hn, hle, hlt, hge⟩, leaves_r1 h hgb rfl (popc_eq _)⟩,
      fun hgb => ⟨traps_r1 h hgb rfl, traps_r1 h hgb rfl⟩⟩

/-- Settles O5: the two saturating cases by name, the others by the laws of truncated division. -/
theorem divisionSaturates : Obligations.DivisionSaturates := by
  unfold Obligations.DivisionSaturates
  rintro s t gd ga gb h _ a b rfl rfl rfl
  refine ⟨fun hb ha => leaves_rr h rfl ?_, fun hb ha => leaves_rr h rfl ?_,
    fun hb => ⟨leaves_rr h rfl (if_pos hb), leaves_rr h rfl (if_pos hb), leaves_rr h rfl (if_pos hb)⟩,
    fun ha hb => ⟨leaves_rr h rfl (divS_overflow ha hb), leaves_rr h rfl (remS_overflow ha hb)⟩,
    fun hb hno => ⟨_, _, Int.tdiv_mul_add_tmod _ _, abs_tmod_lt _ fun h0 => hb (BitVec.eq_of_toInt_eq h0), tmod_zero_or_sign _ _,
      leaves_rr h rfl (divS_plain hb hno), leaves_rr h rfl (remS_plain hb hno)⟩,
    fun hb => ⟨leaves_rr h rfl (divU_eq_ofNat hb), leaves_rr h rfl (remU_eq_ofNat hb)⟩⟩
  · exact (congrArg (divS _) hb).trans ((divS_zero _).trans (if_neg (not_lt.mpr ha)))
  · exact (congrArg (divS _) hb).trans ((divS_zero _).trans (if_pos ha))

/-- Settles O6: the fields of a register number that names a p register, and each compare as a condition on the values. -/
theorem comparesAndPredicates : Obligations.ComparesAndPredicates := by
  unfold Obligations.ComparesAndPredicates
  constructor
  · rintro s t gd ga gb imm pd h _ a b i rfl rfl rfl rfl
    refine ⟨leaves_cmp h rfl rfl, leaves_cmp h rfl (decide_not).symm, leaves_cmp h rfl rfl, leaves_cmp h rfl (not_ltS _ _),
      leaves_cmp h rfl rfl, leaves_cmp h rfl (not_ltU _ _), fun hgd => ?_, ?_, ?_, ?_, ?_⟩
    · simp only [List.forall_mem_cons, List.not_mem_nil, false_implies, implies_true, and_true]
      exact ⟨traps_cmp h hgd rfl, traps_cmp h hgd rfl, traps_cmp h hgd rfl, traps_cmp h hgd rfl, traps_cmp h hgd rfl, traps_cmp h hgd rfl⟩
    · exact leaves_cmpi h (cond := 0) (pField_setWidth pd) (pRest_setWidth pd) rfl
    · exact leaves_cmpi h (cond := 1) (by decide +revert) (by decide +revert) (decide_not).symm
    · exact leaves_cmpi h (cond := 2) (by decide +revert) (by decide +revert) rfl
    · exact leaves_cmpi h (cond := 3) (by decide +revert) (by decide +revert) (not_ltS _ _)
  · rintro s t gd ga gb pd pa pb h _ rfl
    refine ⟨leaves_plog h rfl, leaves_plog h rfl, ?_, leaves_plog (op := fun a b => a && !b) h rfl, fun hbits => ?_, fun hp => ?_, fun hp => ?_⟩
    · exact leaves_plog h rfl
    · simp only [List.forall_mem_cons, List.not_mem_nil, false_implies, implies_true, and_true]
      exact ⟨traps_plog h hbits rfl, traps_plog h hbits rfl, traps_plog h hbits rfl, traps_plog h hbits rfl⟩
    · exact leaves_retG h rfl rfl (if_pos hp)
    · exact leaves_retG h rfl rfl (if_neg (Bool.eq_false_iff.mp hp))

/-- Settles O7: a branch by whether its predicate asks for it; the reserved fields before that. -/
theorem branches : Obligations.Branches := by
  unfold Obligations.Branches
  rintro s t p n off gd ga gb fn h _ dest link rfl rfl rfl
  rw [← branch_target]
  refine ⟨fun hp => ⟨leaves_goTo h rfl (s.branch_taken off hp), leaves_link h rfl ?_⟩,
    fun hp => ⟨leaves_nextPc h rfl (s.branch_untaken off hp), leaves_nextPc h rfl ?_⟩,
    traps_instr h rfl rfl, traps_instr h rfl rfl, leaves_link h rfl rfl, fun hres => traps_instr h rfl (if_pos hres)⟩
  · refine (if_neg Bool.false_ne_true).trans ((if_pos hp).trans ?_)
    have hlinked : ((s.setG t 31 (pcOf ((s.thread t).pc + 4))).thread t).pr p = !n := by
      rw [State.setG, State.thread_setThread_same, Thread.pr_setG, hp]
    rw [State.branch_taken off hlinked, State.setG, State.thread_setThread_same, Thread.setG_pc]
    rfl
  · exact (if_neg Bool.false_ne_true).trans ((if_neg (ne_not_of_eq hp)).trans (s.branch_untaken off hp))

end

section
/-! Instructions of the system group: system registers, exceptions and their return, FENCE, YIELD (R245, R256, R278, R279). -/

namespace Sys2Proof.Machine

open Sys2Proof

/-! ## Threads and their classes -/

theorem thClass_sup_iff {t : Nat} : thClass t = .sup ↔ t = supTid := by
  unfold thClass; split
  · next h => exact iff_of_true rfl h
  · next h => exact iff_of_false (by split <;> exact Class.noConfusion) h

theorem tid_thClu_thCtx (t : Nat) : tid (thClu t) (thCtx t) = t := by unfold tid thClu thCtx; omega

/-! ## Going on to the next instruction -/

section
variable (s : State) (t : Nat)

theorem State.nextPc_frame : s.nextPc t = { s with threads := (s.nextPc t).threads, retired := (s.nextPc t).retired, health := (s.nextPc t).health } := by
  rw [State.nextPc_eq, State.tally_frame]; rfl

@[simp] theorem State.thread_nextPc_same : (s.nextPc t).thread t = (s.thread t).onward := by
  rw [State.nextPc_eq, State.thread, State.tally_threads]; exact State.thread_setThread_same _ _ _

theorem State.thread_nextPc_other {k : Nat} (h : k ≠ t) : (s.nextPc t).thread k = s.thread k := by
  rw [State.nextPc_eq, State.thread, State.tally_threads]; exact State.thread_setThread_other _ _ h

@[simp] theorem State.ctx_nextPc (c x : Nat) : (s.nextPc t).ctx c x = s.ctx c x := by rw [State.nextPc_frame]; rfl
@[simp] theorem State.clu_nextPc (c : Nat) : (s.nextPc t).clu c = s.clu c := by rw [State.nextPc_frame]; rfl
@[simp] theorem State.nextPc_ops : (s.nextPc t).ops = s.ops := by rw [State.nextPc_frame]
@[simp] theorem State.pend_nextPc (c : Nat) : (s.nextPc t).pend c = s.pend c := by rw [State.nextPc_frame]; rfl
@[simp] theorem State.nextPc_sup : (s.nextPc t).sup = s.sup := by rw [State.nextPc_frame]
@[simp] theorem State.nextPc_time : (s.nextPc t).time = s.time := by rw [State.nextPc_frame]
@[simp] theorem State.rd_nextPc (off : Nat) : (s.nextPc t).rd off = s.rd off := by rw [State.nextPc_frame]; rfl

theorem State.nextPc_setThread (x : Thread) : (s.setThread t x).nextPc t = (s.setThread t x.onward).tally t := by
  rw [State.nextPc_eq, State.thread_setThread_same, State.setThread_setThread]

theorem State.countOps_setThread (k u n : Nat) (x : Thread) : (s.setThread t x).countOps k u n = (s.countOps k u n).setThread t x := by
  by_cases h : (s.rb (Addr.hltKindRet k) u && decide (u < 64)) = true
  · exact (if_pos h).trans (congrArg (State.setThread · t x) (if_pos h)).symm
  · have hcount (w : State) (hw : w.rb (Addr.hltKindRet k) u = s.rb (Addr.hltKindRet k) u) :
        w.countOps k u n = w.setHu k u { w.hu k u with ops := (w.hu k u).ops + n } := if_neg (by rw [hw]; exact h)
    rw [hcount (s.setThread t x) rfl, hcount s rfl]; rfl

/-- Counting a retired instruction does not look at the thread. -/
theorem State.tally_setThread (x : Thread) : (s.setThread t x).tally t = (s.tally t).setThread t x := by
  unfold State.tally
  simp only [apply_ite (fun w : State => w.setThread t x), ← State.countOps_setThread]
  rfl

theorem State.setThread_nextPc (x : Thread) : (s.nextPc t).setThread t x = (s.setThread t x).tally t := by
  rw [State.nextPc_eq, State.tally_setThread, State.setThread_setThread, State.tally_setThread]

end

@[simp] theorem State.pend_setPend_same (s : State) (c : Nat) (v : W64) : (s.setPend c v).pend c = v := Sparse.get_set_same _ _ _ _

theorem State.pend_setPend_other (s : State) {c k : Nat} (v : W64) (h : k ≠ c) : (s.setPend c v).pend k = s.pend k :=
  Sparse.get_set_other _ _ _ h

/-! ## System registers (Table 6.4) -/

section
variable {s : State} {t : Nat} (hruns : Runs s t)
include hruns

theorem leaves_mfs {gd ga : Reg} {n : BitVec 12} {v : W64} (hacc : syAcc (thClass t) n.toNat ≠ .none) (hv : s.syRead t n.toNat = v) :
    Leaves (.mfs t gd ga n) s t ((s.thread t).setG gd v).onward :=
  leaves_retG hruns rfl (if_neg hacc) hv

theorem traps_mfs {gd ga : Reg} {n : BitVec 12} (hacc : syAcc (thClass t) n.toNat = .none) :
    Traps (.mfs t gd ga n) s t .illegal (wordSG 0 gd ga n.toNat) :=
  traps_instr hruns rfl (if_pos hacc)

theorem traps_mts {gd ga : Reg} {n : BitVec 12} (hacc : syAcc (thClass t) n.toNat = .none ∨ syAcc (thClass t) n.toNat = .ro) :
    Traps (.mts t gd ga n) s t .priv (n.setWidth 64) := by
  refine traps_instr hruns rfl ?_
  rcases hacc with h | h <;> simp only [h]

theorem exec_mts {gd ga : Reg} {n : BitVec 12} (hacc : syAcc (thClass t) n.toNat = .rw ∨ syAcc (thClass t) n.toNat = .w1c) :
    exec (.mts t gd ga n) s = .next ((s.syWrite t n.toNat ((s.thread t).gr ga)).nextPc t) := by
  refine (exec_instr hruns rfl).trans (congrArg _ ?_)
  rcases hacc with h | h <;> simp only [h]

/-- A system register that is part of the thread takes the value. -/
theorem leaves_mts {gd ga : Reg} {n : BitVec 12} {x : Thread} (hacc : syAcc (thClass t) n.toNat = .rw)
    (hw : s.syWrite t n.toNat ((s.thread t).gr ga) = s.setThread t x) : Leaves (.mts t gd ga n) s t x.onward :=
  leaves_of ((exec_mts hruns (.inl hacc)).trans (congrArg _ (by rw [hw, State.nextPc_setThread])))

end

/-! ## YIELD -/

/-- A context changes with its status register. -/
theorem State.putCtx_eq (s : State) (c x : Nat) (v : Ctx) : ∃ w, s.putCtx c x v = (s.setCtx c x v).wr (Addr.schCtxStat c x) w := by
  unfold State.putCtx State.ctxSync
  dsimp only
  split
  · exact ⟨_, rfl⟩
  · exact ⟨_, rfl⟩

@[simp] theorem State.putCtx_ops (s : State) (c x : Nat) (v : Ctx) : (s.putCtx c x v).ops = s.ops := by
  obtain ⟨w, h⟩ := s.putCtx_eq c x v
  rw [h, State.wr_ops, State.setCtx_ops]

@[simp] theorem State.clu_putCtx (s : State) (c x : Nat) (v : Ctx) (k : Nat) : (s.putCtx c x v).clu k = s.clu k := by
  obtain ⟨w, h⟩ := s.putCtx_eq c x v
  rw [h, State.clu, State.wr_clus, State.setCtx_clus]; rfl

theorem State.npFlying_congr {s u : State} (h : u.ops = s.ops) (t : Nat) : u.npFlying t = s.npFlying t := by
  rw [State.npFlying, State.npFlying, State.flying, State.flying, h]

/-- The thread goes on to its next instruction and idles there. -/
theorem leaves_idle {i : Instr} {s : State} {t : Nat} {f : State → State} (hruns : Runs s t) (hexec : exec i s = instr t f s)
    (hf : f s = (s.nextPc t).setThread t { (s.nextPc t).thread t with wait := .idle }) :
    Leaves i s t { (s.thread t).onward with wait := .idle } :=
  leaves_instr hruns hexec (by rw [hf, State.thread_nextPc_same, State.setThread_nextPc])

/-! ## FENCE, ERET and CAPRD -/

theorem setBit_clear_eight (v : W64) : setBit v 8 false = v &&& ~~~0x100 := by
  have hmask : fmask 8 8 = 0x100 := by decide
  simp [setBit, setFld, hmask]

theorem State.holdAt_stays (s : State) {t : Nat} (w : Wait) (h : thClass t ≠ .job) :
    s.holdAt t w = s.setThread t { s.thread t with wait := w } := if_neg h

theorem State.cap_reserved (s : State) (c : Nat) {n : Nat} (h : 0x00E ≤ n) : s.cap c n = 0 := by
  unfold State.cap
  split
  all_goals first | rfl | omega

theorem leaves_caprd {s : State} {t : Nat} {gd : Reg} {k : BitVec 12} {v : W64} (hruns : Runs s t) (hsup : t ≠ supTid)
    (hv : BitVec.ofNat 64 (s.cap (thClu t) k.toNat) = v) : Leaves (.caprd t gd 0 k) s t ((s.thread t).setG gd v).onward :=
  leaves_retG hruns rfl (if_neg (by simp [thClass_sup_iff, hsup])) hv

/-- A register number that Table 6.4 does not give the thread's class. -/
theorem syAcc_none {t n : Nat} (h : (t ≠ supTid ∧ (n = 0x100 ∨ n = 0x101)) ∨ (t = supTid ∧ n ∈ [0x001, 0x002, 0x003, 0x009, 0x00A]) ∨
    (thClass t = .base ∧ n = 0x002) ∨ (0x010 ≤ n ∧ n ≠ 0x100 ∧ n ≠ 0x101)) : syAcc (thClass t) n = .none := by
  rw [ne_eq, ← thClass_sup_iff] at h
  obtain ⟨hsup, rfl | rfl⟩ | ⟨hsup, hn⟩ | ⟨hbase, rfl⟩ | ⟨h16, h100, h101⟩ := h
  · exact if_neg hsup
  · exact if_neg hsup
  · rw [hsup]
    revert hn
    revert n
    decide
  · rw [hbase]; rfl
  · unfold syAcc
    split
    all_goals first | rfl | omega

/-- A register number that Table 6.4 lists as read-only where it exists. -/
theorem syAcc_readOnly {k : Class} : ∀ n ∈ [0x000, 0x001, 0x002, 0x003, 0x005, 0x007, 0x008, 0x009, 0x00A, 0x101],
    syAcc k n = .none ∨ syAcc k n = .ro := by
  cases k <;> decide

end Sys2Proof.Machine
end

section
/-! System registers, exceptions and returns, FENCE, capabilities, YIELD. -/

open Sys2Proof Sys2Proof.Machine

/-- Settles O8: by the access that Table 6.4 gives the number in each class of thread. -/
theorem systemRegisters : Obligations.SystemRegisters := by
  unfold Obligations.SystemRegisters
  rintro s t gd ga n h _ v rfl rfl
  have hjob (hj : thClass t = .job) : t ≠ supTid := fun hs => by rw [thClass_sup_iff.mpr hs] at hj; cases hj
  refine ⟨?_, fun hsup => ?_, fun hj hn => leaves_mfs h ?_ ?_, fun hj hn => leaves_mfs h ?_ ?_, fun hsup => ?_,
    fun hn => ⟨traps_mfs h (syAcc_none hn), traps_mts h (.inl (syAcc_none hn))⟩, fun hn => traps_mts h (syAcc_readOnly _ hn),
    fun hn => leaves_mts h ?_ ?_, fun hn => leaves_mts h ?_ ?_, fun hlo hhi => leaves_mts h ?_ ?_, fun hn => ?_, fun hsup hn => ?_⟩
  · simp only [List.forall_mem_cons, List.not_mem_nil, false_implies, implies_true, and_true]
    refine ⟨fun hn => ?_, fun hn => ?_, fun hn => ?_, fun hn => ?_, fun hn => ?_, fun hn => ?_, fun hn => ?_, fun hn => ?_, fun hn => ?_⟩
    all_goals exact leaves_mfs h (by rw [hn]; exact SyAcc.noConfusion) (by rw [hn]; rfl)
  · simp only [List.forall_mem_cons, List.not_mem_nil, false_implies, implies_true, and_true]
    have hc : thClass t ≠ .sup := fun hc => hsup (thClass_sup_iff.mp hc)
    refine ⟨fun hn => ?_, fun hn => ?_, fun hn => ?_⟩
    all_goals exact leaves_mfs h (by rw [hn]; exact (if_neg hc).trans_ne SyAcc.noConfusion) (by rw [hn]; rfl)
  · rw [hn, hj]; exact SyAcc.noConfusion
  · rw [hn]; rfl
  · rw [hn, hj]; exact SyAcc.noConfusion
  · rw [hn]; exact if_pos hj
  · simp only [List.forall_mem_cons, List.not_mem_nil, false_implies, implies_true, and_true]
    have hc : thClass t = .sup := thClass_sup_iff.mpr hsup
    refine ⟨fun hn => ?_, fun hn => ?_⟩
    all_goals exact leaves_mfs h (by rw [hn, hc]; exact SyAcc.noConfusion) (by rw [hn]; rfl)
  · rw [hn]; rfl
  · rw [hn]; rfl
  · rw [hn]; rfl
  · rw [hn]; rfl
  · have hcases : n.toNat = 0x00C ∨ n.toNat = 0x00D ∨ n.toNat = 0x00E ∨ n.toNat = 0x00F := by omega
    rcases hcases with hn | hn | hn | hn <;> rw [hn] <;> rfl
  · have hcases : n.toNat = 0x00C ∨ n.toNat = 0x00D ∨ n.toNat = 0x00E ∨ n.toNat = 0x00F := by omega
    rcases hcases with hn | hn | hn | hn <;> rw [hn] <;> rfl
  · have hw : s.syWrite t n.toNat ((s.thread t).gr ga) = s.setPend (thClu t) (s.pend (thClu t) &&& ~~~(s.thread t).gr ga) := by rw [hn]; rfl
    refine ⟨_, exec_mts h (.inr (by rw [hn]; rfl)), ?_⟩
    rw [hw]
    refine ⟨?_, fun c hc => ?_, State.thread_nextPc_same _ _, fun k hk => State.thread_nextPc_other _ _ hk, ?_⟩
    · rw [State.pend_nextPc, State.pend_setPend_same]
    · rw [State.pend_nextPc, State.pend_setPend_other _ _ hc]
    · rw [State.nextPc_frame]; rfl
  · have hc : thClass t = .sup := thClass_sup_iff.mpr hsup
    refine ⟨_, exec_mts h (.inl (by rw [hn, hc]; rfl)), ?_⟩
    rw [hn]
    refine ⟨State.nextPc_sup _ _, State.thread_nextPc_same _ _, fun k hk => State.thread_nextPc_other _ _ hk, ?_⟩
    rw [State.nextPc_frame]; rfl

/-- Settles O9: by INHANDLER for ERET, by the ops in flight for FENCE T; a capability is a register read. -/
theorem breakReturnAndFence : Obligations.BreakReturnAndFence := by
  unfold Obligations.BreakReturnAndFence
  constructor
  · rintro s t gd ga n h _ rfl
    refine ⟨traps_instr h rfl rfl, fun hin => ?_, fun hin => traps_instr h rfl (if_pos (by rw [bit, hin]; rfl))⟩
    refine leaves_instr h rfl ((if_neg (by rw [bit, hin]; decide)).trans ?_)
    rw [State.goTo, State.thread_setThread_same, State.setThread_setThread, setBit_clear_eight]
    rfl
  · rintro s t gd ga k h _ rfl
    refine ⟨fun hk hpass => leaves_nextPc h rfl ((if_neg (by omega)).trans (if_neg ?_)), fun hk hT hfly hjob => ?_,
      fun hk => traps_instr h rfl (if_pos hk), fun hsup => leaves_caprd h hsup rfl,
      fun hsup hk => leaves_caprd h hsup (by rw [hk]; rfl), fun hsup hk => leaves_caprd h hsup (by rw [hk]; rfl),
      fun hsup hk => leaves_caprd h hsup ?_, fun hbad => traps_instr h rfl (if_pos ?_)⟩
    · rcases hpass with hT | hfly
      · rw [hT]; exact Bool.false_ne_true
      · rw [hfly]; simp
    · have hexec := exec_instr (i := .fence t gd ga k) h rfl
      refine hexec.trans (congrArg _ ((if_neg (by omega)).trans ((if_pos ?_).trans (s.holdAt_stays .stall hjob))))
      rw [hT]; simpa using hfly
    · rw [State.cap_reserved _ _ hk]; rfl
    · rw [thClass_sup_iff]; exact hbad.symm

/-- Settles O10: by the class of the thread; a job gives up its innings now or, with an op in flight, at its end. -/
theorem yields : Obligations.Yields := by
  unfold Obligations.Yields
  rintro s t c gd ga z h rfl _ rfl
  have htid := tid_thClu_thCtx t
  refine ⟨fun hj u hu => ?_, fun hb => ?_, fun hs => ?_, fun hj j hj' => ?_, fun hb => ?_, fun hs => ?_,
    fun hz => ⟨traps_instr h rfl (if_pos hz), traps_instr h rfl (if_pos hz)⟩⟩
  · have hexec : exec (.yieldInnings t gd ga 0) s = .next (u.giveUp (thClu t) (thCtx t)) := by
      rw [exec_instr (i := .yieldInnings t gd ga 0) h rfl, hu]
      simp [hj]
    have hnp : u.npFlying (tid (thClu t) (thCtx t)) = s.npFlying t := by
      rw [htid, hu]; exact State.npFlying_congr (by simp) t
    have hclu : u.clu (thClu t) = s.clu (thClu t) := by rw [hu, State.clu_putCtx, State.clu_nextPc]
    refine ⟨fun hn => hexec.trans (congrArg _ (if_neg (by rw [hnp, hn]; exact Bool.false_ne_true))), fun hn => ?_⟩
    rw [hexec, ← hclu]
    exact congrArg _ (if_pos (hnp.trans hn))
  · exact leaves_nextPc h rfl (by simp [hb])
  · exact leaves_idle h rfl (by simp [hs])
  · rw [exec_instr (i := .yieldEnd t gd ga 0) h rfl, hj']
    simp [hj]
  · rw [exec_instr (i := .yieldEnd t gd ga 0) h rfl]
    simp [hb]
  · exact leaves_idle h rfl (by simp [hs])

end

section
/-! DLSET and the deadline monitor; a job of a partition that the device does not have. -/

namespace Sys2Proof.Machine

open Sys2Proof Tests

/-- What each step of a fold keeps, the fold keeps. -/
theorem foldl_keeps {α β : Type} {p : State → β} {f : State → α → State} (h : ∀ s a, p (f s a) = p s) (l : List α) (s : State) :
    p (l.foldl f s) = p s := by
  induction l generalizing s with
  | nil => rfl
  | cons a l ih => exact (ih (f s a)).trans (h s a)

@[simp] theorem State.unwait_ops (s : State) (t : Nat) : (s.unwait t).ops = s.ops := by
  unfold State.unwait; exact foldl_keeps (p := State.ops) (fun _ _ => by rfl) _ _

@[simp] theorem State.ctx_putCtx_same (s : State) (c x : Nat) (v : Ctx) : (s.putCtx c x v).ctx c x = v := by
  obtain ⟨w, h⟩ := s.putCtx_eq c x v
  rw [h, State.ctx, State.wr_ctxs]
  exact Sparse.get_set_same _ _ _ _

theorem State.stopOps_nonpre {s : State} (t : Nat) (h : ∀ o ∈ s.ops, o.np = true) : s.stopOps t = s := by
  have hnone : (s.flying t).filter (fun o => !o.np) = [] :=
    List.filter_eq_nil_iff.mpr fun o ho => by simp [h o (List.mem_filter.mp ho).1]
  rw [State.stopOps, hnone, List.foldl_nil]

/-- A job with only non-pre-emptible ops in flight is still ending once it has been stopped. -/
theorem State.stopCtx_ending {s : State} {c x : Nat} (sw : Bool) (hst : (s.ctx c x).st ≠ .free) (hnp : ∀ o ∈ s.ops, o.np = true)
    (hfly : s.npFlying (tid c x) = true) : ((s.stopCtx c x sw).ctx c x).st = .ending := by
  let t := tid c x
  let u := ((s.setThread t { s.thread t with wait := .none }).unwait t).putCtx c x { s.ctx c x with st := .ending, switching := sw }
  have hops : u.ops = s.ops := (State.putCtx_ops _ _ _ _).trans (State.unwait_ops _ _)
  have hstop : u.stopOps t = u := State.stopOps_nonpre t (hops ▸ hnp)
  have hend : s.stopCtx c x sw = u := by
    refine (if_neg hst).trans ((if_pos ?_).trans hstop)
    exact (congrArg (State.npFlying · t) hstop).trans ((State.npFlying_congr hops t).trans hfly)
  rw [hend, State.ctx_putCtx_same]

/-- A running job whose deadline has passed is ended (R219, Table 4.6). -/
theorem State.evalCtx_passed {s : State} {c x : Nat} (hlive : (s.ctx c x).live = true) (hposted : (s.ctx c x).job.posted ≠ 0)
    (hyoung : s.tooOld (s.ctx c x).job = false) (hpassed : s.passed (s.ctx c x).job = true) :
    s.evalCtx c x = (s.dlmCount (Addr.dlmCluStat c) .passed).endCtx c x 0 0 := by
  have hrow : s.rowOf (s.ctx c x).job (s.predictCtx c x none) = some .passed :=
    (if_neg (Bool.eq_false_iff.mp hyoung)).trans (if_pos hpassed)
  have heval : s.evalCtx c x = s.applyRow c x .passed (s.predictCtx c x none) :=
    (if_neg (by simp [hlive])).trans (by rw [hrow])
  refine heval.trans ((if_neg (by simp [hlive])).trans (if_pos hposted))

/-- The job of context x in state s with a deadline that has passed and an op in flight that runs to its end: the monitor ends it. -/
theorem State.evalCtx_ending {s : State} {c x : Nat} (hlive : (s.ctx c x).live = true) (hposted : (s.ctx c x).job.posted ≠ 0)
    (hyoung : s.tooOld (s.ctx c x).job = false) (hpassed : s.passed (s.ctx c x).job = true) (hst : (s.ctx c x).st ≠ .free)
    (hnp : ∀ o ∈ s.ops, o.np = true) (hfly : s.npFlying (tid c x) = true) : ((s.evalCtx c x).ctx c x).st = .ending := by
  let w := s.dlmCount (Addr.dlmCluStat c) .passed
  let v := { s.ctx c x with job := { (s.ctx c x).job with posted := if (s.ctx c x).job.posted = 0 then 2 else (s.ctx c x).job.posted } }
  have hv : (w.setCtx c x v).ctx c x = v := Sparse.get_set_same _ _ _ _
  have hend : w.endCtx c x 0 0 = (w.setCtx c x v).stopCtx c x false :=
    (if_neg hst).trans (congrArg (fun u : State => (u.setCtx c x v).stopCtx c x false) (if_pos hposted))
  rw [State.evalCtx_passed hlive hposted hyoung hpassed, hend]
  exact State.stopCtx_ending false (by rw [hv]; exact hst) hnp hfly

/-- A state without its memory. -/
def State.noMem (s : State) : State := { s with mem := [] }

theorem State.noMem_setByte (s : State) (k : Nat) (b : Byte) : (s.setByte k b).noMem = s.noMem := rfl

/-- The record copy of a context is memory. -/
theorem State.noMem_syncCopy (s : State) (c x : Nat) : (s.syncCopy c x).noMem = s.noMem :=
  foldl_keeps (p := State.noMem) (fun s _ => foldl_keeps (p := State.noMem) (fun s k => s.noMem_setByte k _) (s.wkeys _) s) _ _

section
variable {s u : State} (h : s.noMem = u.noMem)
include h

theorem State.rd_of_noMem (off : Nat) : s.rd off = u.rd off :=
  show s.noMem.rd off = u.noMem.rd off from h ▸ rfl

theorem State.ctx_of_noMem (c x : Nat) : s.ctx c x = u.ctx c x :=
  show s.noMem.ctx c x = u.noMem.ctx c x from h ▸ rfl

theorem State.ops_of_noMem : s.ops = u.ops := show s.noMem.ops = u.noMem.ops from h ▸ rfl

theorem State.time_of_noMem : s.time = u.time := show s.noMem.time = u.noMem.time from h ▸ rfl

end

theorem State.passed_congr {s u : State} (h : ∀ off, s.rd off = u.rd off) (j : Job) : s.passed j = u.passed j := by
  have hscan : s.scanAxis j.part = u.scanAxis j.part := by rw [State.scanAxis, State.scanAxis, State.rf, State.rf, h]
  rw [State.passed, State.passed, State.toGo, State.toGo, hscan, State.cnt, State.cnt, h]

theorem State.tooOld_congr {s u : State} (h : ∀ off, s.rd off = u.rd off) (htime : s.time = u.time) (j : Job) :
    s.tooOld j = u.tooOld j := by
  rw [State.tooOld, State.tooOld, State.ageLim, State.ageLim, State.rf, State.rf, h, htime]

/-- DLSET in a job: the job is set and, where its deadline has passed by then, evaluated. -/
theorem State.dlset_job {s : State} {t : Nat} (ga : Reg) (mode : Nat) (d : Bool) (f : Job → W64 → Job) {n : Job} (hjob : thClass t = .job)
    (hn : f (s.ctx (thClu t) (thCtx t)).job ((s.thread t).gr ga) = n) :
    s.dlset t 0 ga 0 mode d false f =
      if ((s.setJob t n).nextPc t).passed n then ((s.setJob t n).nextPc t).evalCtx (thClu t) (thCtx t) else (s.setJob t n).nextPc t := by
  subst hn
  simp [State.dlset, hjob]

/-- A job whose partition number is far beyond the device's seven: the address of that partition's scan axis is the address of the
status register of context 2 of cluster 0. Its deadline is count 0, falling. -/
def strayJob : Job := { job0 with part := 1973521, ddir := true, posted := 1 }

/-- The stray job runs in that context with an op in flight that runs to its end; axis 0 stands at 1, axis 2 at 0. -/
def strayPart : State :=
  let s := (on.setClu 0 { on.clu 0 with running := some 2 }).setCtx 0 2 { ctx0 with st := .run, job := strayJob }
  { s with ops := [{ op1 2 with np := true }] }.wr (Addr.ptbAxCnt 0) 1

theorem strayJob_scan : Addr.ptbPartScan strayJob.part = Addr.schCtxStat 0 2 := by decide

theorem strayPart_runs : Runs strayPart 2 := by unfold Runs; decide

theorem strayPart_not_passed : strayPart.passed strayJob = false := by decide

/-- The stray job set in its context once more, without its record copy. -/
def strayNext : State := strayPart.putCtx 0 2 { strayPart.ctx 0 2 with job := strayJob }

theorem strayPart_set : (strayPart.setJob 2 strayJob).noMem = strayNext.noMem := State.noMem_syncCopy _ _ _

theorem strayNext_passed : strayNext.passed strayJob = true := by decide

theorem strayNext_young : strayNext.tooOld strayJob = false := by decide

theorem strayNext_ctx : strayNext.ctx 0 2 = { strayPart.ctx 0 2 with job := strayJob } := State.ctx_putCtx_same _ _ _ _

theorem strayNext_ops : strayNext.ops = strayPart.ops := State.putCtx_ops _ _ _ _

section
variable {w : State} (hrd : ∀ off, w.rd off = strayNext.rd off) (htime : w.time = strayNext.time) (hctx : w.ctx 0 2 = strayNext.ctx 0 2)
  (hops : w.ops = strayNext.ops)
include hrd htime hctx hops

/-- The monitor ends the stray job. -/
theorem strayNext_evaluated : w.evalCtx 0 2 ≠ w := by
  rw [strayNext_ctx] at hctx
  rw [strayNext_ops] at hops
  intro hsame
  have hending : ((w.evalCtx 0 2).ctx 0 2).st = .ending := by
    refine State.evalCtx_ending ?_ ?_ ?_ ?_ ?_ ?_ ?_
    · rw [hctx]; rfl
    · rw [hctx]; decide
    · rw [hctx, State.tooOld_congr hrd htime]; exact strayNext_young
    · rw [hctx, State.passed_congr hrd]; exact strayNext_passed
    · rw [hctx]; decide
    · rw [hops]; decide
    · rw [State.npFlying, State.flying, hops]; rfl
  rw [hsame, hctx] at hending
  exact absurd hending (by decide)

end

end Sys2Proof.Machine
end

section
/-! PWAIT and DLSET. -/

open Sys2Proof Sys2Proof.Machine Sys2Proof.Tests

/-- Refutes O12: DLSET writes the status register of the job's context, and a job of a partition far out of range has its scan axis
there; its deadline, not passed before, has passed once the job is set, and the monitor ends the job. -/
theorem not_positionWaits : ¬ Obligations.PositionWaits := by
  unfold Obligations.PositionWaits
  rintro ⟨-, -, hdlset⟩
  obtain ⟨hjob, -, -⟩ := hdlset strayPart 2 0 2 0 0 0 true strayPart_runs rfl rfl 0 strayJob (by decide) (by decide)
  obtain ⟨hgoes, -⟩ := hjob (by decide) (.dlsetExplicit 2 0 0 0 true) strayJob (.inl ⟨rfl, rfl⟩)
  have hexec := exec_instr (i := .dlsetExplicit 2 0 0 0 true) strayPart_runs rfl
  rw [hgoes strayPart_not_passed] at hexec
  have hrd (off : Nat) : ((strayPart.setJob 2 strayJob).nextPc 2).rd off = strayNext.rd off :=
    (State.rd_nextPc _ _ _).trans (State.rd_of_noMem strayPart_set off)
  have hpassed : ((strayPart.setJob 2 strayJob).nextPc 2).passed strayJob = true := (State.passed_congr hrd _).trans strayNext_passed
  have hset := State.dlset_job (s := strayPart) (t := 2) 0 0 true
    (fun j v => { j with deadline := cntOf v, ddir := true, dlmode := 0 }) (n := strayJob) (by decide) (by decide)
  refine strayNext_evaluated hrd ((State.nextPc_time _ _).trans (State.time_of_noMem strayPart_set))
    ((State.ctx_nextPc _ _ _ _).trans (State.ctx_of_noMem strayPart_set 0 2))
    ((State.nextPc_ops _ _).trans (State.ops_of_noMem strayPart_set)) ?_
  exact ((Host.Outcome.next.inj hexec).trans (hset.trans (if_pos hpassed))).symm

end

section
/-! What keeps the supervisor pair and every thread's program counter: the scheduler, the semaphores, the health ledger and the end of
a job (R186 to R210, R664 to R684). -/

namespace Sys2Proof.Machine

open Sys2Proof

/-- The pair and every thread's program counter are as before, and no further job has begun to stop for its fallback (which starts a
program). -/
def State.KeepsCore (s t : State) : Prop :=
  t.sup = s.sup ∧ (∀ k, (t.thread k).pc = (s.thread k).pc) ∧
    ∀ c x, (t.ctx c x).switching = true → (s.ctx c x).switching = true

theorem State.KeepsCore.refl (s : State) : s.KeepsCore s := ⟨rfl, fun _ => rfl, fun _ _ => id⟩

theorem State.KeepsCore.sup {s t : State} (h : s.KeepsCore t) : t.sup = s.sup := h.1

theorem State.KeepsCore.pc {s t : State} (h : s.KeepsCore t) (k : Nat) : (t.thread k).pc = (s.thread k).pc := h.2.1 k

theorem State.KeepsCore.switching {s t : State} (h : s.KeepsCore t) {c x : Nat} (hsw : (s.ctx c x).switching = false) :
    (t.ctx c x).switching = false :=
  Bool.eq_false_iff.mpr fun ht => Bool.eq_false_iff.mp hsw (h.2.2 c x ht)

theorem State.KeepsCore.trans {s t u : State} (h : s.KeepsCore t) (h' : t.KeepsCore u) : s.KeepsCore u :=
  ⟨h'.sup.trans h.sup, fun k => (h'.pc k).trans (h.pc k), fun c x hu => h.2.2 c x (h'.2.2 c x hu)⟩

theorem State.KeepsCore.ite {s t u : State} {c : Prop} [Decidable c] (ht : s.KeepsCore t) (hu : s.KeepsCore u) :
    s.KeepsCore (if c then t else u) := by
  split
  · exact ht
  · exact hu

/-- A step taken where a condition holds. -/
theorem State.KeepsCore.also {s t u : State} {c : Prop} [Decidable c] (h : s.KeepsCore t) (step : s.KeepsCore t → s.KeepsCore u) :
    s.KeepsCore (if c then u else t) := .ite (step h) h

/-- A step taken where a condition fails. -/
theorem State.KeepsCore.unless {s t u : State} {c : Prop} [Decidable c] (h : s.KeepsCore t) (step : s.KeepsCore t → s.KeepsCore u) :
    s.KeepsCore (if c then t else u) := .ite h (step h)

section
variable {s t : State} (h : s.KeepsCore t)
include h

/-- One more step, which touches neither the pair nor a thread nor a context. -/
theorem State.KeepsCore.step {u : State} (hsup : u.sup = t.sup) (hthreads : u.threads = t.threads) (hctxs : u.ctxs = t.ctxs) :
    s.KeepsCore u :=
  h.trans ⟨hsup, fun k => by rw [State.thread, State.thread, hthreads], fun c x => by rw [State.ctx, State.ctx, hctxs]; exact id⟩

theorem State.KeepsCore.foldl {α : Type} {f : State → α → State} (hf : ∀ {s u : State} (a : α), s.KeepsCore u → s.KeepsCore (f u a)) (l : List α) :
    s.KeepsCore (l.foldl f t) := by
  induction l generalizing t with
  | nil => exact h
  | cons a l ih => exact ih (hf a h)

/-- A thread changes but goes on where it was. -/
theorem State.KeepsCore.setThread (n : Nat) {x : Thread} (hx : x.pc = (t.thread n).pc) : s.KeepsCore (t.setThread n x) := by
  refine h.trans ⟨rfl, fun k => ?_, fun _ _ => id⟩
  by_cases hk : k = n
  · rw [hk, State.thread_setThread_same, hx]
  · rw [State.thread_setThread_other _ _ hk]

theorem State.KeepsCore.wake (n : Nat) : s.KeepsCore (t.wake n) := h.setThread n rfl

theorem State.KeepsCore.setG (n : Nat) (r : Reg) (v : W64) : s.KeepsCore (t.setG n r v) := h.setThread n (Thread.setG_pc _ _ _)

theorem State.KeepsCore.wr (off : Nat) (v : W64) : s.KeepsCore (t.wr off v) := h.step rfl rfl rfl

theorem State.KeepsCore.wf (off hi lo x : Nat) : s.KeepsCore (t.wf off hi lo x) := h.step rfl rfl rfl

theorem State.KeepsCore.wb (off i : Nat) (b : Bool) : s.KeepsCore (t.wb off i b) := h.step rfl rfl rfl

theorem State.KeepsCore.sat (off hi lo n : Nat) : s.KeepsCore (t.sat off hi lo n) := h.step rfl rfl rfl

theorem State.KeepsCore.setHu (k u : Nat) (x : UnitH) : s.KeepsCore (t.setHu k u x) := h.step rfl rfl rfl

theorem State.KeepsCore.setClu (c : Nat) (k : Clu) : s.KeepsCore (t.setClu c k) := h.step rfl rfl rfl

theorem State.KeepsCore.setCtx {c x : Nat} {v : Ctx} (hv : v.switching = true → (t.ctx c x).switching = true) :
    s.KeepsCore (t.setCtx c x v) := by
  refine h.trans ⟨rfl, fun _ => rfl, fun d y hy => ?_⟩
  by_cases hk : d * 128 + y = c * 128 + x
  · rw [State.ctx, hk] at hy ⊢
    rw [State.setCtx, Sparse.get_set_same] at hy
    exact hv hy
  · rwa [State.ctx, State.setCtx, Sparse.get_set_other _ _ _ hk] at hy

theorem State.KeepsCore.setSem (k : Nat) (q : Sem) : s.KeepsCore (t.setSem k q) := h.step rfl rfl rfl

theorem State.KeepsCore.setTile (k : Nat) (x : TileX) : s.KeepsCore (t.setTile k x) := h.step rfl rfl rfl

theorem State.KeepsCore.setByte (k : Nat) (v : Byte) : s.KeepsCore (t.setByte k v) := h.step rfl rfl rfl

theorem State.KeepsCore.setLine (k : Nat) (m : LineMeta) : s.KeepsCore (t.setLine k m) := h.step rfl rfl rfl

theorem State.KeepsCore.fresh : s.KeepsCore t.fresh.2 := h.step rfl rfl rfl

theorem State.KeepsCore.putCtx {c x : Nat} {v : Ctx} (hv : v.switching = true → (t.ctx c x).switching = true) :
    s.KeepsCore (t.putCtx c x v) := by
  obtain ⟨w, hw⟩ := t.putCtx_eq c x v
  rw [hw]
  exact (h.setCtx hv).wr _ _

theorem State.KeepsCore.semSync (k : Nat) : s.KeepsCore (t.semSync k) := by
  unfold State.semSync
  split
  · exact h.wr _ _
  · exact h.wr _ _

/-! ## The choice of the next thread -/

theorem State.KeepsCore.loadArr (c x : Nat) : s.KeepsCore (t.loadArr c x) := h.foldl (fun _ h => h.setTile _ _) _

omit h in
theorem State.ctx_loadArr (c x d y : Nat) : (t.loadArr c x).ctx d y = t.ctx d y := by
  unfold State.loadArr
  exact foldl_keeps (p := fun s => s.ctx d y) (fun _ _ => by rfl) _ _

omit h in
theorem State.ctx_setClu (c : Nat) (k : Clu) (d y : Nat) : (t.setClu c k).ctx d y = t.ctx d y := rfl

theorem State.KeepsCore.runBase (c : Nat) (lent : Option Nat) (dev : Bool) : s.KeepsCore (t.runBase c lent dev) :=
  (h.setClu _ _).loadArr _ _

theorem State.KeepsCore.runCtx (c x : Nat) (lent : Option Nat) : s.KeepsCore (t.runCtx c x lent) :=
  ((h.loadArr c x).setClu _ _).putCtx (by
    rw [State.ctx_setClu, State.ctx_loadArr]
    exact id)

theorem State.KeepsCore.pickFrom (c : Nat) (paid l : List Nat) : s.KeepsCore (t.pickFrom c paid l) := by
  fun_induction State.pickFrom t c paid l with
  | case1 => exact h
  | case2 _ _ _ _ _ _ ih => exact ih h
  | case3 => exact h.runBase _ _ _
  | case4 t paid x rest y hrun hctx v hdebt ih => exact ih (h.putCtx id)
  | case5 => exact h.runCtx _ _ _

theorem State.KeepsCore.pick (c : Nat) : s.KeepsCore (t.pick c) := by
  have hfrom (k : Clu) := (h.setClu c k).pickFrom c [] ((t.setClu c k).order c)
  exact .ite (hfrom _) (.ite ((hfrom _).runBase _ _ _) (hfrom _))

theorem State.KeepsCore.askPreempt (c : Nat) : s.KeepsCore (t.askPreempt c) := by
  unfold State.askPreempt
  dsimp only
  split
  · exact h.pick c
  · exact h.setClu _ _

theorem State.KeepsCore.offer (c x : Nat) : s.KeepsCore (t.offer c x) := by
  unfold State.offer
  split
  · exact h.pick c
  · exact .ite (h.askPreempt c) h

theorem State.KeepsCore.becomeReady (c x : Nat) : s.KeepsCore (t.becomeReady c x) :=
  (h.putCtx (v := { t.ctx c x with st := .ready }) id).offer c x

theorem State.KeepsCore.resume (n : Nat) : s.KeepsCore (t.resume n) :=
  .ite (.ite ((h.wake n).putCtx id) ((h.wake n).becomeReady _ _)) (.ite ((h.wake n).pick _) (h.wake n))

theorem State.KeepsCore.unrun (c : Nat) : s.KeepsCore (t.unrun c) := by
  unfold State.unrun
  dsimp only
  split
  · exact h.setClu _ _
  · exact .ite ((h.setClu _ _).setCtx id) ((h.setClu _ _).putCtx id)

/-! ## Semaphores -/

theorem State.KeepsCore.grant (k n : Nat) : s.KeepsCore (t.grant k n) := (h.setSem _ _).semSync _

theorem State.KeepsCore.grantAll (n k : Nat) : s.KeepsCore (State.grantAll n t k) := by
  induction n generalizing t with
  | zero => exact h
  | succ n ih =>
    unfold State.grantAll
    split
    · exact h
    · split
      · exact h
      · exact ih (((h.grant _ _).setG _ _ _).resume _)

theorem State.KeepsCore.dropRaise (n : Nat) : s.KeepsCore (t.dropRaise n) := .ite (h.askPreempt _) h

theorem State.KeepsCore.release (k n : Nat) : s.KeepsCore (t.release k n) := (((h.setSem _ _).semSync _).grantAll _ _).dropRaise _

theorem State.KeepsCore.forceRel (k n : Nat) : s.KeepsCore (t.forceRel k n) := (h.sat _ _ _ _).release _ _

theorem State.KeepsCore.unwait (n : Nat) : s.KeepsCore (t.unwait n) := h.foldl (fun _ h => h.setSem _ _) _

theorem State.KeepsCore.releaseAll (n : Nat) (count : Bool) : s.KeepsCore (t.releaseAll n count) :=
  (h.unwait n).foldl (fun _ h => h.foldl (fun _ h => .ite (h.forceRel _ _) (h.release _ _)) _) _

/-! ## Records, detections and exhaustions -/

theorem State.KeepsCore.supEvent : s.KeepsCore t.supEvent := by
  unfold State.supEvent
  split
  · exact h.wake _
  · exact h

theorem State.KeepsCore.evPush (f type : Nat) (body : List Byte) : s.KeepsCore (t.evPush f type body).2 := by
  unfold State.evPush
  dsimp only
  split
  · exact h.step rfl rfl rfl
  · exact h.sat _ _ _ _

theorem State.KeepsCore.setRecs (m : Sparse ErrRec) : s.KeepsCore { t with recs := m } := h.step rfl rfl rfl

theorem State.KeepsCore.newRec (r : Report) : s.KeepsCore (t.newRec r) := by
  have hcount (n lo : Nat) := ((h.wf Addr.errHead 31 0 n).sat Addr.errCnt (lo + 15) lo 1).sat Addr.hltSummary 15 0 1
  unfold State.newRec
  dsimp only
  by_cases hp : r.part = 0
  · rw [if_pos hp]
    refine .ite (.supEvent ?_) ?_
    all_goals exact ((hcount _ _).evPush _ _ _).setRecs _
  · rw [if_neg hp]
    refine .ite (.supEvent ?_) ?_
    all_goals exact (((hcount _ _).evPush _ _ _).evPush _ _ _).setRecs _

theorem State.KeepsCore.record (r : Report) : s.KeepsCore (t.record r) := by
  unfold State.record
  dsimp only
  split
  · exact h.setRecs _
  · exact h.newRec r

theorem State.KeepsCore.susSync (k u : Nat) : s.KeepsCore (t.susSync k u) := by
  have hsus := h.wb (susBit k u).1 (susBit k u).2 (t.suspect k u)
  have hmark := State.KeepsCore.ite (c := k = 1) (hsus.wb (Addr.mtTileStat (u / 8) (u % 8)) 3 (t.suspect k u))
    (.ite (c := k = 2) (hsus.wb (Addr.veEngStat (u / 2) (u % 2)) 3 (t.suspect k u)) hsus)
  exact .ite (hmark.record _) hmark

theorem State.KeepsCore.rollWindow (k u : Nat) : s.KeepsCore (t.rollWindow k u) := .ite ((h.setHu _ _ _).susSync _ _) h

theorem State.KeepsCore.alertSync : s.KeepsCore t.alertSync := h.wb _ _ _

theorem State.KeepsCore.floorCheck (k u : Nat) : s.KeepsCore (t.floorCheck k u) := by
  have hbits := (h.wb Addr.hltStat 1 (!t.aboveFloor)).wb Addr.hltSummary 16 (!t.aboveFloor)
  exact (State.KeepsCore.ite (hbits.record _).supEvent hbits).alertSync

theorem State.KeepsCore.detect {k u : Nat} (hdec : ∀ {v : State}, s.KeepsCore v → s.KeepsCore (v.declare k u)) :
    s.KeepsCore (t.detect k u) := by
  have herr := (((h.rollWindow k u).setHu k u { (t.rollWindow k u).hu k u with errs := ((t.rollWindow k u).hu k u).errs + 1 }).sat
    (Addr.hltKindCnt k) 63 32 1).susSync k u
  exact .ite (hdec herr) herr

theorem State.KeepsCore.exhaust {k u : Nat} (hdec : ∀ {v : State}, s.KeepsCore v → s.KeepsCore (v.declare k u)) :
    s.KeepsCore (t.exhaust k u) := by
  refine .ite (hdec ?_) ?_
  all_goals exact (((h.setHu _ _ _).sat _ _ _ _).susSync _ _).record _

/-- A permanent fault of the lockstep pair is an alert (R695). -/
theorem State.KeepsCore.declare_pair (u : Nat) : s.KeepsCore (t.declare 9 u) := (((h.sat _ _ _ _).wb _ _ _).wb _ _ _).alertSync

/-! ## The end of ops -/

theorem State.KeepsCore.setBytes (k : Nat) (l : List Byte) : s.KeepsCore (t.setBytes k l) := by
  induction l generalizing t k with
  | nil => exact h
  | cons b l ih => exact ih (h.setByte k b) _

theorem State.KeepsCore.poke (a : Nat) (bs : List Byte) : s.KeepsCore (t.poke a bs) :=
  h.foldl (fun _ h => h.foldl (fun _ h => h.setByte _ _) _) _

theorem State.KeepsCore.rawWrite (tag a : Nat) (bs : List Byte) : s.KeepsCore (t.rawWrite tag a bs) :=
  h.foldl (fun _ h => .ite h (h.foldl (fun _ h => .setLine (.setByte (.ite h (h.setBytes _ _)) _ _) _ _) _)) _

theorem State.KeepsCore.setHost (a : Nat) (b : Byte) : s.KeepsCore { t with host := Sparse.set (fun _ => 0) t.host a b } := h.step rfl rfl rfl

theorem State.KeepsCore.opWrite (o : Op) (a : Nat) (bs : List Byte) : s.KeepsCore (t.opWrite o a bs) := by
  unfold State.opWrite
  split
  · exact h
  · exact .ite (h.foldl (fun _ h => h.setHost _ _) _) (.ite (h.rawWrite _ _ _) h)

theorem State.KeepsCore.undefDesc (o : Op) (i : Nat) (d : Desc) : s.KeepsCore (t.undefDesc o i d) := by
  have hranges := h.foldl (f := fun s (r : Nat × Nat) => s.opWrite o r.1 ((List.range r.2).map fun k => Config.freeByte i (r.1 + k)))
    (fun _ h => h.opWrite _ _ _) d.ranges
  exact .ite (hranges.rawWrite _ _ _) hranges

theorem State.KeepsCore.notDone (o : Op) : s.KeepsCore (t.notDone o) :=
  .ite (h.foldl (fun _ h => (h.opWrite _ _ _).opWrite _ _ _) _) h

theorem State.KeepsCore.undefDst (o : Op) : s.KeepsCore (t.undefDst o) :=
  .ite (.ite ((h.fresh.undefDesc _ _ _).undefDesc _ _ _) (h.fresh.undefDesc _ _ _)) h

theorem State.KeepsCore.writeRes (o : Op) (st flags : Nat) : s.KeepsCore (t.writeRes o st flags) := .ite h (h.opWrite _ _ _)

theorem State.KeepsCore.leave (o : Op) (st flags : Nat) : s.KeepsCore (t.leave o st flags) := by
  have hleft := State.KeepsCore.ite (c := st = 2) (h.notDone o) h
  exact (State.KeepsCore.ite (hleft.undefDst o) hleft).writeRes o st flags

theorem State.KeepsCore.tktDone (n serial st flags : Nat) : s.KeepsCore (t.tktDone n serial st flags) := by
  have hset (l : List Tkt) : s.KeepsCore (t.setThread n { t.thread n with tkts := l }) := h.setThread n rfl
  unfold State.tktDone
  dsimp only
  split
  · exact .ite (((hset _).setG _ _ _).resume _) (hset _)
  · exact (hset _).resume _
  · exact hset _

theorem State.KeepsCore.unsend (o : Op) : s.KeepsCore (t.unsend o) := .ite h (h.step rfl rfl rfl)

theorem State.KeepsCore.setOps (ops : List Op) : s.KeepsCore { t with ops := ops } := h.step rfl rfl rfl

theorem State.KeepsCore.setQueues (ops : List Op) (pps : Sparse PpX) : s.KeepsCore { t with ops := ops, pps := pps } := h.step rfl rfl rfl

theorem State.KeepsCore.cancelOp (o : Op) : s.KeepsCore (t.cancelOp o) := (((h.unsend o).leave _ _ _).setQueues _ _).tktDone _ _ _ _

theorem State.KeepsCore.setResid (m : Sparse (List Nat)) : s.KeepsCore { t with resid := m } := h.step rfl rfl rfl

theorem State.KeepsCore.setRes (c : Nat) (l : List Nat) : s.KeepsCore (t.setRes c l) := (h.setResid _).wf _ _ _ _

theorem State.KeepsCore.dropDir (o : Op) : s.KeepsCore (t.dropDir o) := by
  unfold State.dropDir
  dsimp only
  refine .ite (.also (.unless (.unless (.poke (.also (h.poke _ _) ?_) _ _) ?_) ?_) ?_) h
  · exact (·.poke _ _)
  · exact (·.poke _ _)
  · exact (·.setRes _ _)
  · exact (·.setOps _)

theorem State.KeepsCore.stopOps (n : Nat) : s.KeepsCore (t.stopOps n) := h.foldl (fun _ h => (h.dropDir _).cancelOp _) _

/-! ## The end of a job -/

theorem State.KeepsCore.setDie (e : Nat) (d : Die) : s.KeepsCore (t.setDie e d) := h.step rfl rfl rfl

theorem State.KeepsCore.setVring (r : Nat) (x : VRing) : s.KeepsCore (t.setVring r x) := h.step rfl rfl rfl

theorem State.KeepsCore.contribute (k : Nat) (x : Contrib) : s.KeepsCore (t.contribute k x) := by
  unfold State.contribute
  split
  · exact h
  · exact h.setDie _ _

theorem State.KeepsCore.inc (off hi lo n : Nat) : s.KeepsCore (t.inc off hi lo n) := h.step rfl rfl rfl

theorem State.KeepsCore.deferFor (j : Job) (path reason : Nat) : s.KeepsCore (t.deferFor j path reason) :=
  .ite h ((h.contribute _ _).inc _ _ _ _)

omit h in
theorem State.ctx_deferFor (j : Job) (path reason c x : Nat) : (t.deferFor j path reason).ctx c x = t.ctx c x := by
  unfold State.deferFor State.contribute
  split
  · rfl
  · split <;> rfl

theorem State.KeepsCore.postDie (e : Nat) : s.KeepsCore (t.postDie e) := (((h.setDie _ _).setVring _ _).wb _ _ _).wf _ _ _ _

theorem State.KeepsCore.jobGone (k : Nat) : s.KeepsCore (t.jobGone k) := by
  unfold State.jobGone
  split
  · exact h
  · exact .ite ((h.setDie _ _).postDie _) (h.setDie _ _)

/-- A context whose job stops for its fallback starts a program; one that ends does not. -/
theorem State.KeepsCore.finish {c x : Nat} (hsw : (t.ctx c x).switching = false) : s.KeepsCore (t.finish c x) := by
  have hrel := (h.releaseAll (tid c x) true).setThread (tid c x) (x := { (t.releaseAll (tid c x) true).thread (tid c x) with wait := .none }) rfl
  unfold State.finish
  simp only [hsw, Bool.not_false, Bool.false_eq_true, if_false]
  refine .also (.jobGone (.putCtx (.also hrel (·.unrun c)) Bool.noConfusion) _) (·.pick c)

theorem State.KeepsCore.stopCtx (c x : Nat) : s.KeepsCore (t.stopCtx c x false) := by
  have hstop := (((h.setThread (tid c x) (x := { t.thread (tid c x) with wait := .none }) rfl).unwait (tid c x)).putCtx (c := c) (x := x)
    (v := { t.ctx c x with st := .ending, switching := false }) Bool.noConfusion).stopOps (tid c x)
  refine .ite h (.ite hstop (hstop.finish ?_))
  refine ((State.KeepsCore.refl _).stopOps _).switching ?_
  rw [State.ctx_putCtx_same]

theorem State.KeepsCore.endCtx (c x path reason : Nat) : s.KeepsCore (t.endCtx c x path reason) :=
  .ite h (((h.deferFor _ _ _).setCtx (by rw [State.ctx_deferFor]; exact id)).stopCtx _ _)

theorem State.KeepsCore.mapSync : s.KeepsCore t.mapSync := h.foldl (fun _ h => h.wf _ _ _ _) _

theorem State.KeepsCore.leaveService (c : Nat) : s.KeepsCore (t.leaveService c) := by
  have hleft := ((h.wb (Addr.cluStat c) 8 false).mapSync.foldl (f := fun s x => s.endCtx c x 6 0) (fun _ h => h.endCtx _ _ _ _)
    (List.range 64)).wf (Addr.cluBasectl c) 1 0 2
  have hstop := hleft.stopOps (tid c 64)
  exact .ite h (State.KeepsCore.ite (hstop.setClu _ _) hstop).supEvent

theorem State.KeepsCore.declare_core (c : Nat) : s.KeepsCore (t.declare 8 c) := by
  have hret := (h.sat (Addr.hltKindCnt 8) 15 0 1)
  refine .ite hret (.floorCheck (.leaveService (.supEvent (.record (.sat (.wb hret _ _ _) _ _ _ _) _)) _) _ _)

end

end Sys2Proof.Machine
end

section
/-! Reserved words, and the supervisor pair's stop and restart (R244, R291, R292, R697). -/

namespace Sys2Proof.Machine

open Sys2Proof

/-! ## Reserved words -/

theorem reservedWord_of_op {w : W32} (h : w.toNat / 2 ^ 26 ∈ [0x04, 0x05, 0x06, 0x07, 0x1C, 0x1D, 0x1E, 0x1F, 0x23, 0x24, 0x25, 0x26,
    0x27, 0x38, 0x39, 0x3A, 0x3B, 0x3C, 0x3D, 0x3E, 0x3F]) : reservedWord w = true := by
  unfold reservedWord
  generalize w.toNat / 2 ^ 26 = op at *
  revert h
  revert op
  simp only [List.forall_mem_cons, List.not_mem_nil, false_implies, implies_true, and_true]
  decide

theorem reservedWord_of_func {w : W32} (h : (w.toNat / 2 ^ 26 = 0 ∧ 0x12 ≤ w.toNat % 2 ^ 11) ∨ (w.toNat / 2 ^ 26 = 1 ∧ 7 ≤ w.toNat % 2 ^ 11) ∨
    (w.toNat / 2 ^ 26 = 2 ∧ 6 ≤ w.toNat % 2 ^ 11)) : reservedWord w = true := by
  unfold reservedWord
  obtain ⟨hop, hfunc⟩ | ⟨hop, hfunc⟩ | ⟨hop, hfunc⟩ := h
  all_goals rw [hop]; exact decide_eq_true hfunc

theorem badTileOp_of_op {w : W32} (h : w.toNat / 2 ^ 26 = 0x30 ∧ 1 ≤ w.toNat / 2 ^ 20 % 64 ∨ w.toNat / 2 ^ 26 = 0x32 ∧ 17 ≤ w.toNat / 2 ^ 20 % 64 ∨
    w.toNat / 2 ^ 26 = 0x37 ∧ 4 ≤ w.toNat / 2 ^ 20 % 64) : reservedWord w = false ∧ badTileOp w = true := by
  unfold reservedWord badTileOp
  obtain ⟨hop, hn⟩ | ⟨hop, hn⟩ | ⟨hop, hn⟩ := h
  all_goals rw [hop]; exact ⟨rfl, decide_eq_true hn⟩

/-! ## The stop of the pair -/

theorem State.exhaust_pair_sup (s : State) : (s.exhaust 9 0).sup = s.sup := ((State.KeepsCore.refl s).exhaust (·.declare_pair 0)).sup

theorem State.detect_pair_sup (s : State) : (s.detect 9 0).sup = s.sup := ((State.KeepsCore.refl s).detect (·.declare_pair 0)).sup

theorem State.stopPair_sup (s : State) (code g1 : Nat) : (s.stopPair code g1).sup = { s.sup with st := .stopped, g1 := g1 } := by
  have hall := ((State.KeepsCore.refl s).releaseAll supTid false).sup
  unfold State.stopPair
  simp only [apply_ite State.sup, State.exhaust_pair_sup, ite_self, State.sat_sup, State.wf_sup, State.setThread_sup, hall]

/-- A fatal exception of the supervisor thread stops the pair. -/
theorem State.fatal_sup {s : State} {t : Nat} (code : Nat) (h : thClass t = .sup) :
    (s.fatal t code).sup = { s.sup with st := .stopped, g1 := code, lockstat := setFld s.sup.lockstat 7 0 code } := by
  rw [State.fatal, h]
  exact State.stopPair_sup _ _ _

theorem fld_eq (v : W64) (hi lo : Nat) : fld v hi lo = v.toNat / 2 ^ lo % 2 ^ (hi + 1 - lo) := by
  rw [fld, BitVec.extractLsb'_toNat, Nat.shiftRight_eq_div_pow]

theorem cause_setFld (v : W64) {n : Nat} (h : n < 256) : (setFld v 7 0 n).toNat % 256 = n := by
  have hcause := fld_setFld_same v 7 0 n (by decide) (by decide)
  rw [fld_eq] at hcause
  omega

/-- A lockstep mismatch counts in bits [31:16], whatever the cause is. -/
theorem count_lockstat (v : W64) (n : Nat) :
    (setFld (satFld v 31 16 1) 7 0 n).toNat / 2 ^ 16 % 2 ^ 16 = min (v.toNat / 2 ^ 16 % 2 ^ 16 + 1) 65535 := by
  have hcount := fld_setFld_other (satFld v 31 16 1) 7 0 n 31 16 (by decide) (by decide) (by decide)
  rw [satFld, fld_setFld_same _ _ _ _ (by decide) (by decide), satAdd] at hcount
  rw [satFld, satAdd]
  simp only [fld_eq] at hcount ⊢
  rw [hcount]
  omega

theorem fatal_exec {i : Instr} {s : State} {t : Nat} {e : Exc} {v : W64} (h : Traps i s t e v) (hhand : (s.thread t).ehand = 0) :
    exec i s = .next (s.fatal t e.code) := h.2 (.inl hhand)

/-- A lockstep mismatch of the running pair stops it with cause 0xFF. -/
theorem exec_lockstepMismatch {s : State} (hclk : s.clk 0 = true) (hst : s.sup.st = .run ∨ s.sup.st = .rom) :
    ∃ u, exec .lockstepMismatch s = .next u ∧
      u.sup = { s.sup with st := .stopped, g1 := 0xFF, lockstat := setFld (satFld s.sup.lockstat 31 16 1) 7 0 0xFF } := by
  have hgo : ¬(!s.clk 0 ∨ s.sup.st = .off ∨ s.sup.st = .stopped) := by
    rcases hst with h | h <;> simp [hclk, h]
  refine ⟨_, congrArg Host.Outcome.next (if_neg hgo), ?_⟩
  rw [State.stopPair_sup, State.detect_pair_sup, ((State.KeepsCore.refl s).record _).sup]

/-! ## The restart of the pair -/

/-- The pair restarts in the boot ROM: SY_RESTART is zero, or restarts came too often. -/
def State.restartsInRom (s : State) : Prop :=
  s.sup.restart = 0 ∨ max 2 (s.rf Addr.hltScthr 3 0) ≤ s.recentRestarts.length + 1

section
variable (s : State)

/-- Where the pair restarts, as the model computes it. -/
theorem State.restartsInRom_iff :
    (decide (max 2 (s.rf Addr.hltScthr 3 0) ≤ (s.recentRestarts ++ [s.time]).length) || s.sup.restart == 0) = true ↔ s.restartsInRom := by
  simp [State.restartsInRom, or_comm]

theorem State.restartPair_st :
    s.restartPair.sup.st = (if s.sup.restart = 0 ∨ max 2 (s.rf Addr.hltScthr 3 0) ≤ s.recentRestarts.length + 1 then .rom else .run) :=
  if_congr s.restartsInRom_iff rfl rfl

theorem State.restartPair_restart : s.restartPair.sup.restart = s.sup.restart := rfl

/-- The registers that the restarted pair starts with. -/
theorem State.restartPair_thread : ∃ pc, (s.restartPair.sup.st = .run → pc = pcOf s.sup.restart) ∧
    s.restartPair.thread supTid = { ({ thread0 with pc := pc }.setG 1 (BitVec.ofNat 64 s.sup.g1)) with
      serial := (s.thread supTid).serial, tkts := (s.thread supTid).tkts } := by
  refine ⟨_, fun hrun => ?_, State.thread_setThread_same _ _ _⟩
  refine if_neg fun hrom => ?_
  have hst : s.restartPair.sup.st = .rom := if_pos hrom
  rw [hst] at hrun
  exact SupSt.noConfusion hrun

theorem State.restartPair_thread_other {k : Nat} (h : k ≠ supTid) : s.restartPair.thread k = s.thread k :=
  State.thread_setThread_other _ _ h

theorem State.restartPair_rd {off : Nat} (h : off ≠ Addr.hltScstat) : s.restartPair.rd off = s.rd off :=
  (State.rd_wr_other _ _ h).trans (State.rd_wr_other _ _ h)

theorem State.restartPair_frame :
    s.restartPair = { s with regs := s.restartPair.regs, threads := s.restartPair.threads, sup := s.restartPair.sup } := rfl

end

end Sys2Proof.Machine
end

section
/-! Fatal exceptions. -/

open Sys2Proof Sys2Proof.Machine

/-- Settles O13: a reserved word by its fields, a fatal exception by the class of its thread, the pair by its state. -/
theorem fatalExceptions : Obligations.FatalExceptions := by
  unfold Obligations.FatalExceptions
  refine ⟨?_, ?_, ?_⟩
  · rintro s t op w h rfl
    refine ⟨fun hop => traps_instr h rfl (if_pos (.inl (reservedWord_of_op hop))),
      fun hfunc => traps_instr h rfl (if_pos (.inl (reservedWord_of_func hfunc))), fun htile => ?_⟩
    obtain ⟨hword, hbad⟩ := badTileOp_of_op htile
    refine ⟨fun hsup => traps_instr h rfl (if_pos (.inr ⟨hbad, thClass_sup_iff.mpr hsup⟩)), fun hsup => traps_instr h rfl ?_⟩
    refine (if_neg ?_).trans (if_pos hbad)
    rw [thClass_sup_iff]
    simp [hword, hsup]
  · intro s t gd ga n h hhand
    have htrap : Traps (.brk t gd ga n) s t .brk (n.setWidth 64) := traps_instr h rfl rfl
    have hexec := fatal_exec htrap hhand
    rw [show Exc.brk.code = 0x0A from rfl] at hexec
    refine ⟨fun hsup => ⟨_, hexec, ?_⟩, fun hbase => ?_, fun hjob => ?_⟩
    · rw [State.fatal_sup _ hsup]
      exact ⟨rfl, cause_setFld _ (by decide), rfl⟩
    · rw [hexec, State.fatal, hbase]
    · rw [hexec, State.fatal, hjob]
  · intro s hclk
    refine ⟨fun hst => ?_, fun hst => ?_⟩
    · obtain ⟨u, hexec, hu⟩ := exec_lockstepMismatch hclk hst
      refine ⟨u, hexec, ?_⟩
      rw [hu]
      exact ⟨rfl, cause_setFld _ (by decide), count_lockstat _ _⟩
    · obtain ⟨pc, hpc, hthread⟩ := s.restartPair_thread
      refine ⟨s.restartPair, congrArg Host.Outcome.next (if_pos ⟨hclk, hst⟩), s.restartPair_restart, s.restartPair_st, fun hrun => ?_, ?_,
        fun r hr => ?_, fun k hk => s.restartPair_thread_other hk, s.restartPair_frame, fun off hoff => s.restartPair_rd hoff⟩
      · rw [hthread]
        exact hpc hrun
      · rw [hthread]
        exact Thread.gr_setG_same { thread0 with pc := pc } (n := 1) _ (by decide)
      · rw [hthread]
        exact (Thread.gr_setG_other { thread0 with pc := pc } _ hr).trans (ite_self _)

end

section
/-! Scalar accesses: what the core meets, the checks of the address, and the bytes of a sound line (R249 to R251, R547, R665). -/

namespace Sys2Proof.Machine

open Sys2Proof

/-- An exception taken in the state that the instruction has met on its way. -/
theorem trapsFrom_of {i : Instr} {s w : State} {t : Nat} {e : Exc} {v : W64} (h : exec i s = .next (w.raise t e v)) :
    TrapsFrom i s w t e v := by
  refine ⟨fun ⟨hhand, hin⟩ => h.trans (congrArg _ (if_neg ?_)), fun hno => h.trans (congrArg _ (if_pos ?_))⟩
  · rintro (h0 | h8)
    · exact hhand h0
    · exact Bool.false_ne_true (hin.symm.trans h8)
  · exact hno

/-! ## What the core meets (R254, R665) -/

section
variable {i : Instr} {s : State} {t flt : Nat} {f : State → State} (hruns : Runs s t)
  (hexec : exec i s = instr t (fun s => s.coreErr t flt f) s)
include hruns hexec

theorem exec_core (h5 : flt ≠ 5) (h6 : flt ≠ 6) : exec i s = .next (f s) :=
  (exec_instr hruns hexec).trans (congrArg _ ((if_neg fun h => h5 h.1).trans (if_neg h6)))

/-- A register-file parity error of a cluster core is fatal. -/
theorem exec_parity (hflt : flt = 5) (hclass : thClass t ≠ .sup) :
    exec i s = .next (((s.detect 8 (thClu t)).exhaust 8 (thClu t)).fatal t 5) :=
  (exec_instr hruns hexec).trans (congrArg _ (if_pos ⟨hflt, hclass⟩))

/-- An instruction line that failed its check twice: a cluster core counts the two failures and their exhaustion. -/
theorem traps_fetchedLine (hflt : flt = 6) (hclass : thClass t ≠ .sup) :
    TrapsFrom i s (((s.detect 8 (thClu t)).detect 8 (thClu t)).exhaust 8 (thClu t)) t .dataErr (s.thread t).pc := by
  have hkeeps := (((State.KeepsCore.refl s).detect (·.declare_core (thClu t))).detect (·.declare_core (thClu t))).exhaust
    (·.declare_core (thClu t))
  refine trapsFrom_of ((exec_instr hruns hexec).trans (congrArg _ ?_))
  refine (if_neg (by rw [hflt]; simp)).trans ((if_pos hflt).trans ?_)
  dsimp only
  rw [if_pos hclass, hkeeps.pc]

theorem traps_fetchedLine_sup (hflt : flt = 6) (hclass : thClass t = .sup) : Traps i s t .dataErr (s.thread t).pc := by
  refine trapsFrom_of ((exec_instr hruns hexec).trans (congrArg _ ?_))
  refine (if_neg (by rw [hflt]; simp)).trans ((if_pos hflt).trans ?_)
  rw [if_neg (not_not_intro hclass)]

end

/-! ## The checks of an address (R249, R789) -/

section
variable {s : State} {t n : Nat} {k : Acc} {a : W64} {r : Route} {f : Route → State}

theorem State.access_high (h : 2 ^ 48 ≤ a.toNat) : s.access t k a n f = s.raise t .access a := if_pos h

theorem State.access_unaligned (h : a.toNat < 2 ^ 48) (hal : a.toNat % n ≠ 0) : s.access t k a n f = s.raise t .align a :=
  (if_neg (not_le.mpr h)).trans (if_pos hal)

variable (h : a.toNat < 2 ^ 48) (hal : a.toNat % n = 0)
include h hal

theorem State.access_unrouted (hroute : s.route t k a.toNat n = none) : s.access t k a n f = s.raise t .access a := by
  rw [State.access, if_neg (not_le.mpr h), if_neg (not_not_intro hal), hroute]

theorem State.access_stalled (hroute : s.route t k a.toNat n = some r) (hst : s.stalled r = true) : s.access t k a n f = s := by
  rw [State.access, if_neg (not_le.mpr h), if_neg (not_not_intro hal), hroute]
  exact if_pos hst

theorem State.access_routed (hroute : s.route t k a.toNat n = some r) (hst : s.stalled r = false) : s.access t k a n f = f r := by
  rw [State.access, if_neg (not_le.mpr h), if_neg (not_not_intro hal), hroute]
  exact if_neg (by rw [hst]; exact Bool.false_ne_true)

end

/-- An instruction of thread t makes an access of kind k to n bytes at address a; flt 7 drops a packet of the mesh at the access. -/
def Accesses (i : Instr) (s : State) (t flt : Nat) (k : Acc) (a : W64) (n : Nat) : Prop :=
  ∃ f, exec i s = .next (s.access t k a n f) ∧ (flt = 7 → ∀ r, f r = s.meshDrop.raise t .dataErr a)

section
variable {i : Instr} {s : State} {t flt n : Nat} {k : Acc} {a : W64} (hacc : Accesses i s t flt k a n)
include hacc

/-- The three exceptions of an address. -/
theorem traps_address : (2 ^ 48 ≤ a.toNat → Traps i s t .access a) ∧ (a.toNat < 2 ^ 48 → a.toNat % n ≠ 0 → Traps i s t .align a) ∧
    (a.toNat < 2 ^ 48 → a.toNat % n = 0 → s.route t k a.toNat n = none → Traps i s t .access a) := by
  obtain ⟨f, hexec, -⟩ := hacc
  exact ⟨fun h => trapsFrom_of (hexec.trans (congrArg _ (State.access_high h))),
    fun h hal => trapsFrom_of (hexec.trans (congrArg _ (State.access_unaligned h hal))),
    fun h hal hroute => trapsFrom_of (hexec.trans (congrArg _ (State.access_unrouted h hal hroute)))⟩

theorem traps_dropped (hflt : flt = 7) (r : Route) (h : a.toNat < 2 ^ 48) (hal : a.toNat % n = 0) (hroute : s.route t k a.toNat n = some r)
    (hst : s.stalled r = false) : TrapsFrom i s s.meshDrop t .dataErr a := by
  obtain ⟨f, hexec, hdrop⟩ := hacc
  exact trapsFrom_of (hexec.trans (congrArg _ ((State.access_routed h hal hroute hst).trans (hdrop hflt r))))

end

section
variable {i : Instr} {s : State} {t flt : Nat} (hruns : Runs s t) (h5 : flt ≠ 5) (h6 : flt ≠ 6)
include hruns h5 h6

theorem accesses_load {gt gb : Reg} {imm : W16} {n : Nat} {ext : Nat → W64}
    (hexec : exec i s = instr t (fun s => s.coreErr t flt fun s => s.load t gt gb imm n flt ext) s) :
    Accesses i s t flt .read ((s.thread t).gr gb + imm.signExtend 64) n :=
  ⟨_, exec_core hruns hexec h5 h6, fun h _ => if_pos h⟩

theorem accesses_storeG {gt gb : Reg} {imm : W16} {n : Nat}
    (hexec : exec i s = instr t (fun s => s.coreErr t flt fun s => s.storeG t gt gb imm n flt) s) :
    Accesses i s t flt .write ((s.thread t).gr gb + imm.signExtend 64) n :=
  ⟨_, exec_core hruns hexec h5 h6, fun h _ => if_pos h⟩

theorem accesses_atomic {gd ga : Reg} {new : State → W64 → Option W64}
    (hexec : exec i s = instr t (fun s => s.coreErr t flt fun s => s.atomic t gd ga flt (new s)) s) :
    Accesses i s t flt .atomic ((s.thread t).gr ga) 8 :=
  ⟨_, exec_core hruns hexec h5 h6, fun h _ => if_pos h⟩

theorem accesses_dld {gt gb : Reg} {imm : W16} (hgt : gt.toNat < 16) :
    Accesses (.dld t gt gb imm flt) s t flt .read ((s.thread t).gr gb + imm.signExtend 64) 32 :=
  ⟨_, (exec_core (i := .dld t gt gb imm flt) hruns rfl h5 h6).trans (congrArg _ (if_neg (not_le.mpr hgt))), fun h _ => if_pos h⟩

theorem accesses_dst {gt gb : Reg} {imm : W16} (hgt : gt.toNat < 16) :
    Accesses (.dst t gt gb imm flt) s t flt .write ((s.thread t).gr gb + imm.signExtend 64) 32 :=
  ⟨_, (exec_core (i := .dst t gt gb imm flt) hruns rfl h5 h6).trans (congrArg _ (if_neg (not_le.mpr hgt))), fun h _ => if_pos h⟩

end

/-- Atomics reach cluster SRAM and global SRAM only. -/
theorem State.route_atomic_none {s : State} {t a n : Nat} (h : ∀ d, s.devAddr (s.thPart t) .atomic a n = some d →
    region d ≠ .global ∧ ∀ k, region d ≠ .cluster k) : s.route t .atomic a n = none := by
  unfold State.route
  split
  · rfl
  · next d hd =>
    obtain ⟨hglobal, hcluster⟩ := h d hd
    unfold State.routeDev
    split
    · next hr => exact absurd hr hglobal
    · next c hr => exact absurd hr (hcluster c)
    all_goals simp

theorem traps_atomicAddress {i : Instr} {s : State} {t flt : Nat} {a : W64} (hacc : Accesses i s t flt .atomic a 8) :
    (2 ^ 48 ≤ a.toNat → Traps i s t .access a) ∧ (a.toNat < 2 ^ 48 → a.toNat % 8 ≠ 0 → Traps i s t .align a) ∧
    (a.toNat < 2 ^ 48 → a.toNat % 8 = 0 → (∀ d, s.devAddr (s.thPart t) .atomic a.toNat 8 = some d →
      region d ≠ .global ∧ ∀ k, region d ≠ .cluster k) → Traps i s t .access a) := by
  obtain ⟨hhigh, hal, hroute⟩ := traps_address hacc
  exact ⟨hhigh, hal, fun h h8 hreach => hroute h h8 (State.route_atomic_none hreach)⟩

end Sys2Proof.Machine
end

section
/-! Scalar accesses. -/

open Sys2Proof Sys2Proof.Machine

/-- Settles O16: what the core meets before the access, then the checks of the address, then the packet that is dropped. -/
theorem accessExceptions : Obligations.AccessExceptions := by
  unfold Obligations.AccessExceptions
  rintro s t flt gt ga gb imm h a b rfl rfl
  refine ⟨?_, fun hgt => ?_, fun hgt h5 h6 => ⟨?_, ?_⟩⟩
  · simp only [List.forall_mem_cons, List.not_mem_nil, false_implies, implies_true, and_true]
    refine ⟨?_, ?_, ?_, ?_, ?_, ?_, ?_, ?_, ?_, ?_, ?_, ?_, ?_, ?_, ?_, ?_⟩
    all_goals exact ⟨exec_parity h rfl rfl, traps_fetchedLine h rfl rfl, traps_fetchedLine_sup h rfl rfl⟩
  · have h75 : 7 ≠ 5 := by decide
    have h76 : 7 ≠ 6 := by decide
    simp only [List.forall_mem_cons, List.not_mem_nil, false_implies, implies_true, and_true]
    refine ⟨?_, ?_, ?_, ?_, ?_, ?_, ?_, ?_, ?_, ?_, ?_, ?_, ?_, ?_, ?_, ?_⟩
    iterate 5 · exact traps_dropped (accesses_load h h75 h76 rfl) rfl
    · exact traps_dropped (accesses_dld h h75 h76 hgt) rfl
    iterate 4 · exact traps_dropped (accesses_storeG h h75 h76 rfl) rfl
    · exact traps_dropped (accesses_dst h h75 h76 hgt) rfl
    iterate 5 · exact traps_dropped (accesses_atomic h h75 h76 rfl) rfl
  · simp only [List.forall_mem_cons, List.not_mem_nil, false_implies, implies_true, and_true]
    refine ⟨?_, ?_, ?_, ?_, ?_, ?_, ?_, ?_, ?_, ?_, ?_⟩
    iterate 5 · exact traps_address (accesses_load h h5 h6 rfl)
    · exact traps_address (accesses_dld h h5 h6 hgt)
    iterate 4 · exact traps_address (accesses_storeG h h5 h6 rfl)
    · exact traps_address (accesses_dst h h5 h6 hgt)
  · simp only [List.forall_mem_cons, List.not_mem_nil, false_implies, implies_true, and_true]
    refine ⟨?_, ?_, ?_, ?_, ?_⟩
    all_goals exact traps_atomicAddress (accesses_atomic h h5 h6 rfl)

end

section
/-! The bytes of a sound line, read and written (R547, R550). -/

namespace Sys2Proof.Machine

open Sys2Proof

/-! ## Lines -/

/-- A range that lies in one line. -/
theorem lineParts_within {a n : Nat} (hn : 0 < n) (h : a % 64 + n ≤ 64) : lineParts a n = [(a / 64 * 64, a % 64, 0, n)] := by
  have hone : (a % 64 + n + 63) / 64 = 1 := by omega
  rw [lineParts, if_neg hn.ne', hone]
  simp only [List.range_one, List.map_cons, List.map_nil]
  have hlo : max a (a / 64 * 64 + 64 * 0) = a := by omega
  rw [hlo]
  simp only [List.cons.injEq, Prod.mk.injEq, and_true]
  omega

theorem region_ne_ddr {d : Nat} (h : onChip (d / 64 * 64) = true) : region d ≠ .ddr := by
  intro hddr
  have hlow : ddrBase ≤ d := by
    unfold region at hddr
    split_ifs at hddr
    · dsimp only at hddr; split_ifs at hddr
    · omega
  unfold ddrBase at hlow
  unfold onChip region at h
  rw [if_neg (by omega), if_neg (by omega)] at h
  split_ifs at h

theorem State.rkey_onChip (s : State) {a : Nat} (h : onChip a = true) : s.rkey a = a := by
  unfold State.rkey
  split
  · next hr => simp [onChip, hr] at h
  · rfl

/-! ## Bytes -/

theorem State.setBytes_frame (s : State) (k : Nat) (l : List Byte) : s.setBytes k l = { s with mem := (s.setBytes k l).mem } := by
  induction l generalizing s k with
  | nil => rfl
  | cons b l ih => rw [State.setBytes, ih]; rfl

theorem State.byte_setBytes (s : State) (k j : Nat) (l : List Byte) :
    (s.setBytes k l).byte j = if k ≤ j ∧ j < k + l.length then l.getD (j - k) 0 else s.byte j := by
  induction l generalizing s k with
  | nil => exact (if_neg (by simp)).symm
  | cons b l ih =>
    rw [State.setBytes, ih, List.length_cons]
    have hset : (s.setByte k b).byte j = if j = k then b else s.byte j := by
      by_cases hj : j = k
      · rw [if_pos hj, hj]; exact Sparse.get_set_same _ _ _ _
      · rw [if_neg hj]; exact Sparse.get_set_other _ _ _ hj
    by_cases hj : j = k
    · rw [if_neg (by omega), hset, if_pos hj, if_pos (by omega), hj, Nat.sub_self]; rfl
    · by_cases hin : k + 1 ≤ j ∧ j < k + 1 + l.length
      · rw [if_pos hin, if_pos (by omega), show j - k = j - (k + 1) + 1 by omega]; rfl
      · rw [if_neg hin, if_neg (by omega), hset, if_neg hj]

theorem getD_bytesOf {n : Nat} (x : Nat) {i : Nat} (h : i < n) : (bytesOf n x).getD i 0 = BitVec.ofNat 8 (x / 256 ^ i) := by
  induction n generalizing x i with
  | zero => omega
  | succ n ih =>
    cases i with
    | zero => simp [bytesOf]
    | succ i =>
      have hi := ih (x / 256) (Nat.lt_of_succ_lt_succ h)
      rw [Nat.div_div_eq_div_mul, ← Nat.pow_succ'] at hi
      exact hi

/-- A byte of a value, by its number. -/
theorem getD_bytesOf_toNat {w n : Nat} (v : BitVec w) {i : Nat} (h : i < n) : (bytesOf n v.toNat).getD i 0 = v.extractLsb' (8 * i) 8 := by
  rw [getD_bytesOf _ h]
  refine BitVec.eq_of_toNat_eq ?_
  rw [BitVec.toNat_ofNat, BitVec.extractLsb'_toNat, Nat.shiftRight_eq_div_pow, Nat.pow_mul]

/-! ## A sound line -/

section
variable {s : State} {p d : Nat} (hgood : GoodLine s p d)
include hgood

theorem State.stalled_sound : s.stalled (.mem d) = false := by
  obtain ⟨-, -, -, -, -, hready⟩ := hgood
  exact hready

/-- A read of a sound line answers its bytes and counts as an operation of its SRAM group. -/
theorem State.readLine_sound (o n : Nat) : s.readLine p (d / 64 * 64) o n 0 =
    ⟨s.countOps 10 (groupOf (d / 64 * 64)) 1, s.bytes (d / 64 * 64 + o) n, true⟩ := by
  obtain ⟨hchip, hin, hvalid, hsound, htag, -⟩ := hgood
  have hforeign : ¬((s.line (d / 64 * 64)).tag ≠ 0 ∧ p ≠ 0 ∧ (s.line (d / 64 * 64)).tag ≠ p) := by
    rintro ⟨h0, hp, hne⟩
    exact htag.elim h0 (·.elim hp hne)
  unfold State.readLine
  rw [s.rkey_onChip hchip]
  simp only [hchip, hin, hvalid, hsound, hforeign, List.contains_eq_mem]
  rw [State.countOps_frame]
  rfl

theorem State.readMem_sound {n : Nat} (hn : 0 < n) (h : d % 64 + n ≤ 64) :
    s.readMem p d n 0 = ⟨s.countOps 10 (groupOf (d / 64 * 64)) 1, s.bytes d n, true⟩ := by
  rw [State.readMem, lineParts_within hn h, List.foldl_cons, List.foldl_nil]
  simp only [if_true, State.readLine_sound hgood, List.nil_append, Bool.and_self, Nat.div_add_mod']

/-- A write of part of a sound line merges into it and makes it partition p's. -/
theorem State.writeLine_sound (o : Nat) {bs : List Byte} (hlen : bs.length < 64) : s.writeLine p (d / 64 * 64) o bs =
    ((s.countOps 10 (groupOf (d / 64 * 64)) 1).setBytes (d / 64 * 64 + o) bs).setLine (d / 64 * 64) ⟨true, p, 0, false, false⟩ := by
  obtain ⟨hchip, hin, hvalid, hsound, htag, -⟩ := hgood
  have hforeign : ¬((¬(s.line (d / 64 * 64)).tag = 0 ∧ ¬p = 0) ∧ ¬(s.line (d / 64 * 64)).tag = p) := by
    rintro ⟨⟨h0, hp⟩, hne⟩
    exact htag.elim h0 (·.elim hp hne)
  have hpart : decide (bs.length = 64) = false := decide_eq_false hlen.ne
  unfold State.writeLine
  rw [s.rkey_onChip hchip]
  simp [hchip, hin, hvalid, hsound, hforeign, hpart]

theorem State.writeMem_sound {bs : List Byte} (hn : 0 < bs.length) (h : d % 64 + bs.length ≤ 64) (hlen : bs.length < 64) :
    s.writeMem p d bs =
    ((s.countOps 10 (groupOf (d / 64 * 64)) 1).setBytes d bs).setLine (d / 64 * 64) ⟨true, p, 0, false, false⟩ := by
  rw [State.writeMem, lineParts_within hn h, List.foldl_cons, List.foldl_nil]
  simp only [List.drop_zero, List.take_length, State.writeLine_sound hgood _ hlen, Nat.div_add_mod']

end

/-! ## Loads, stores and atomics of a sound line -/

/-- A thread set after an operation of a unit was counted, and then counted as having retired an instruction. -/
theorem leaves_counted {i : Instr} {s : State} {t k u n : Nat} {x : Thread}
    (h : exec i s = .next (((s.countOps k u n).setThread t x).tally t)) : Leaves i s t x := by
  refine ⟨_, h, ?_, fun j hj => ?_, ?_⟩
  · rw [State.thread, State.tally_threads]
    exact State.thread_setThread_same _ _ _
  · rw [State.thread, State.tally_threads, State.countOps_frame]
    exact State.thread_setThread_other _ _ hj
  · rw [State.tally_frame, State.countOps_frame]; rfl

theorem State.thread_countOps (s : State) (k u n t : Nat) : (s.countOps k u n).thread t = s.thread t := by
  rw [State.countOps_frame]; rfl

/-- The bytes of a line written for partition p, which owns it from then on. -/
def State.lineWritten (s : State) (p d : Nat) (bs : List Byte) : State :=
  (s.setBytes d bs).setLine (d / 64 * 64) ⟨true, p, 0, false, false⟩

theorem State.lineWritten_frame (s : State) (p d : Nat) (bs : List Byte) :
    s.lineWritten p d bs = { s with mem := (s.lineWritten p d bs).mem, lines := (s.lineWritten p d bs).lines } := by
  rw [State.lineWritten, State.setBytes_frame]; rfl

theorem State.thread_lineWritten (s : State) (p d : Nat) (bs : List Byte) (t : Nat) : (s.lineWritten p d bs).thread t = s.thread t := by
  rw [State.lineWritten_frame]; rfl

theorem State.line_lineWritten_same (s : State) (p d : Nat) (bs : List Byte) : (s.lineWritten p d bs).line d = ⟨true, p, 0, false, false⟩ := by
  have hline : d / 64 * 64 / 64 = d / 64 := by omega
  refine (congrArg (Sparse.get lineDefault _) hline.symm).trans ?_
  exact Sparse.get_set_same _ _ _ _

theorem State.line_lineWritten_other (s : State) (p : Nat) {d j : Nat} (bs : List Byte) (h : j / 64 ≠ d / 64) :
    (s.lineWritten p d bs).line j = s.line j := by
  rw [State.lineWritten, State.setBytes_frame]
  exact Sparse.get_set_other _ _ _ (by omega)

/-- A command that writes bytes of a line while operations are counted. -/
theorem stores_of {i : Instr} {s w : State} {t p d n : Nat} {bs : List Byte} {v : Nat → Byte} {x : Thread}
    (h : exec i s = .next (((w.lineWritten p d bs).setThread t x).tally t)) (hw : w = { s with health := w.health })
    (hlen : bs.length = n) (hv : ∀ i, i < n → bs.getD i 0 = v i) : Stores i s t p d n v x := by
  refine ⟨_, h, fun j => ?_, ?_, fun j hj => ?_, ?_, fun j hj => ?_, ?_⟩
  · rw [State.tally_frame]
    refine (w.byte_setBytes d j bs).trans ?_
    rw [hlen, hw]
    by_cases hin : d ≤ j ∧ j < d + n
    · rw [if_pos hin, if_pos hin, hv _ (by omega)]
    · rw [if_neg hin, if_neg hin]; rfl
  · rw [State.tally_frame]
    exact w.line_lineWritten_same p d bs
  · rw [State.tally_frame]
    exact (w.line_lineWritten_other p bs hj).trans (by rw [hw]; rfl)
  · rw [State.thread, State.tally_threads]
    exact State.thread_setThread_same _ _ _
  · rw [State.thread, State.tally_threads, State.lineWritten_frame, hw]
    exact State.thread_setThread_other _ _ hj
  · rw [State.tally_frame, State.lineWritten_frame, hw]; rfl

section
variable {i : Instr} {s : State} {t d n : Nat} {a : W64} {k : Acc} (hgood : GoodLine s (s.thPart t) d) (hn : 0 < n)
  (hin : d % 64 + n ≤ 64)
include hgood hn hin

theorem State.fetch_sound (a : W64) (f : State → Nat → State) :
    s.fetch t a n 0 f (.mem d) = f (s.countOps 10 (groupOf (d / 64 * 64)) 1) (natOf (s.bytes d n)) := by
  rw [State.fetch, if_neg (by decide)]
  simp only [State.readMem_sound hgood hn hin, if_true]

theorem State.put_sound {flt : Nat} (a : W64) {bs : List Byte} (hflt : flt ≠ 7) (hlen : bs.length = n) (hpart : n < 64) :
    s.put t a bs flt (.mem d) =
    ((s.countOps 10 (groupOf (d / 64 * 64)) 1).lineWritten (s.thPart t) d bs).nextPc t := by
  subst hlen
  obtain ⟨hchip, -⟩ := id hgood
  rw [State.put, if_neg hflt]
  simp only [State.writeMemF, region_ne_ddr hchip, ne_eq, not_false_iff, true_or, if_true, State.writeMem_sound hgood hn hin hpart]
  rfl

section
variable (ha : a.toNat < 2 ^ 48) (hal : a.toNat % n = 0) (hroute : s.route t k a.toNat n = some (.mem d))
include ha hal hroute

/-- A load or an atomic goes on with the bytes of the line. -/
theorem exec_reads {f : Route → State → Nat → State} (hexec : exec i s = .next (s.access t k a n fun r => s.fetch t a n 0 (f r) r)) :
    exec i s = .next (f (.mem d) (s.countOps 10 (groupOf (d / 64 * 64)) 1) (natOf (s.bytes d n))) :=
  hexec.trans (congrArg _ ((State.access_routed ha hal hroute (State.stalled_sound hgood)).trans (State.fetch_sound hgood hn hin _ _)))

/-- A store writes its bytes and goes on. -/
theorem stores_put {bs : List Byte} {flt : Nat} {v : Nat → Byte} (hexec : exec i s = .next (s.access t k a n (s.put t a bs flt)))
    (hflt : flt ≠ 7) (hpart : n < 64) (hlen : bs.length = n) (hv : ∀ i, i < n → bs.getD i 0 = v i) :
    Stores i s t (s.thPart t) d n v (s.thread t).onward := by
  refine stores_of (hexec.trans (congrArg _ ?_)) (s.countOps_frame 10 (groupOf (d / 64 * 64)) 1) hlen hv
  rw [State.access_routed ha hal hroute (State.stalled_sound hgood), State.put_sound hgood hn hin a hflt hlen hpart, State.nextPc_eq,
    State.thread_lineWritten, State.thread_countOps]

end

variable (hruns : Runs s t)
include hruns

theorem leaves_load {gt gb : Reg} {imm : W16} {ext : Nat → W64} {v : W64}
    (hexec : exec i s = instr t (fun s => s.coreErr t 0 fun s => s.load t gt gb imm n 0 ext) s)
    (ha : ((s.thread t).ea gb imm).toNat < 2 ^ 48) (hal : ((s.thread t).ea gb imm).toNat % n = 0)
    (hroute : s.route t .read ((s.thread t).ea gb imm).toNat n = some (.mem d)) (hv : ext (natOf (s.bytes d n)) = v) :
    Leaves i s t ((s.thread t).setG gt v).onward := by
  have hread := exec_reads hgood hn hin ha hal hroute (exec_core hruns hexec (by decide) (by decide))
  refine leaves_counted (k := 10) (u := groupOf (d / 64 * 64)) (n := 1) (hread.trans (congrArg _ ?_))
  rw [hv, State.retG_eq, State.thread_countOps]

theorem stores_storeG {gt gb : Reg} {imm : W16} {flt : Nat}
    (hexec : exec i s = instr t (fun s => s.coreErr t flt fun s => s.storeG t gt gb imm n flt) s) (h5 : flt ≠ 5) (h6 : flt ≠ 6)
    (h7 : flt ≠ 7) (hpart : n < 64)
    (ha : ((s.thread t).ea gb imm).toNat < 2 ^ 48) (hal : ((s.thread t).ea gb imm).toNat % n = 0)
    (hroute : s.route t .write ((s.thread t).ea gb imm).toNat n = some (.mem d)) :
    Stores i s t (s.thPart t) d n (fun i => ((s.thread t).gr gt).extractLsb' (8 * i) 8) (s.thread t).onward :=
  stores_put hgood hn hin ha hal hroute (exec_core hruns hexec h5 h6) h7 hpart (bytesOf_length _ _) fun _ hi => getD_bytesOf_toNat _ hi

end

section
variable {i : Instr} {s : State} {t d : Nat} {gd ga : Reg} {new : State → W64 → Option W64} {old : W64} (hgood : GoodLine s (s.thPart t) d)
  (hd : d % 8 = 0) (hruns : Runs s t)
  (hexec : exec i s = instr t (fun s => s.coreErr t 0 fun s => s.atomic t gd ga 0 (new s)) s)
  (ha : ((s.thread t).gr ga).toNat < 2 ^ 48) (hal : ((s.thread t).gr ga).toNat % 8 = 0)
  (hroute : s.route t .atomic ((s.thread t).gr ga).toNat 8 = some (.mem d)) (hold : old = BitVec.ofNat 64 (natOf (s.bytes d 8)))
include hgood hd hruns hexec ha hal hroute hold

theorem stores_atomic {w : W64} (hnew : new s old = some w) :
    Stores i s t (s.thPart t) d 8 (fun i => w.extractLsb' (8 * i) 8) ((s.thread t).setG gd old).onward := by
  let u := s.countOps 10 (groupOf (d / 64 * 64)) 1
  have hu : u = { s with health := u.health } := State.countOps_frame _ _ _ _
  have hgood' : GoodLine u (s.thPart t) d := by rw [hu]; exact hgood
  have hpart : u.thPart t = s.thPart t := by rw [hu]; rfl
  have hread := exec_reads hgood (by decide) (by omega) ha hal hroute (exec_core hruns hexec (by decide) (by decide))
  have hwrite := State.writeMem_sound hgood' (bs := bytesOf 8 w.toNat) (by rw [bytesOf_length]; decide) (by rw [bytesOf_length]; omega)
    (by rw [bytesOf_length]; decide)
  refine stores_of (w := u.countOps 10 (groupOf (d / 64 * 64)) 1) (hread.trans (congrArg _ ?_)) ?_ (bytesOf_length 8 w.toNat)
    fun _ hi => getD_bytesOf_toNat _ hi
  · rw [← hold, hnew]
    simp only
    rw [hpart, hwrite, State.retG_eq, ← State.lineWritten, State.thread_lineWritten, State.thread_countOps, State.thread_countOps]
  · rw [State.countOps_frame, hu]

theorem leaves_atomic (hnew : new s old = none) : Leaves i s t ((s.thread t).setG gd old).onward := by
  have hread := exec_reads hgood (by decide) (by omega) ha hal hroute (exec_core hruns hexec (by decide) (by decide))
  refine leaves_counted (k := 10) (u := groupOf (d / 64 * 64)) (n := 1) (hread.trans (congrArg _ ?_))
  rw [← hold, hnew, State.retG_eq, State.thread_countOps]

end

/-! ## Stores to the host window and to registers -/

section
variable {s : State} {t d flt : Nat} {gt gb : Reg} {imm : W16} (hruns : Runs s t) (h5 : flt ≠ 5) (h6 : flt ≠ 6)
  (ha : ((s.thread t).ea gb imm).toNat < 2 ^ 48) (hal : ((s.thread t).ea gb imm).toNat % 8 = 0)
include hruns h5 h6 ha hal

/-- STD at an address that is routed and reached now. -/
theorem exec_std {r : Route} (hroute : s.route t .write ((s.thread t).ea gb imm).toNat 8 = some r) (hst : s.stalled r = false) :
    exec (.std t gt gb imm flt) s = .next (s.put t ((s.thread t).ea gb imm) (bytesOf 8 ((s.thread t).gr gt).toNat) flt r) :=
  (exec_core (i := .std t gt gb imm flt) hruns rfl h5 h6).trans (congrArg _ (State.access_routed ha hal hroute hst))

theorem exec_std_stopped (hroute : s.route t .write ((s.thread t).ea gb imm).toNat 8 = some (.reg d)) (hloc : (locate d).isSome = true)
    (hlive : s.regLive d = false) : exec (.std t gt gb imm flt) s = .next s :=
  (exec_core (i := .std t gt gb imm flt) hruns rfl h5 h6).trans
    (congrArg _ (State.access_stalled ha hal hroute (by simp [State.stalled, hloc, hlive])))

theorem exec_std_reg (h7 : flt ≠ 7) (hroute : s.route t .write ((s.thread t).ea gb imm).toNat 8 = some (.reg d))
    (hlive : locate d = none ∨ s.regLive d = true) :
    exec (.std t gt gb imm flt) s = .next ((s.nextPc t).regWrite (s.thSrc t) d 0xFF ((s.thread t).gr gt)) := by
  have hst : s.stalled (.reg d) = false := by
    rcases hlive with h | h <;> simp [State.stalled, h]
  have hval : BitVec.ofNat 64 (natOf (bytesOf 8 ((s.thread t).gr gt).toNat)) = (s.thread t).gr gt := by
    rw [natOf_bytesOf]
    exact BitVec.eq_of_toNat_eq (by simp; exact ((s.thread t).gr gt).isLt)
  refine (exec_std hruns h5 h6 ha hal hroute hst).trans (congrArg _ ((if_neg h7).trans ?_))
  simp only [hval]

theorem exec_std_host (h7 : flt ≠ 7) (hroute : s.route t .write ((s.thread t).ea gb imm).toNat 8 = some (.host d)) : exec (.std t gt gb imm flt) s =
    .next ((if s.linkUp then s.hostWrite (s.hostAddr (s.thPart t) d) (bytesOf 8 ((s.thread t).gr gt).toNat) else s).nextPc t) :=
  (exec_std hruns h5 h6 ha hal hroute rfl).trans (congrArg _ (if_neg h7))

end

end Sys2Proof.Machine
end

section
/-! Loads and stores. -/

open Sys2Proof Sys2Proof.Machine

/-- Settles O14: the address is routed to a sound line, which answers its bytes. -/
theorem loads : Obligations.Loads := by
  unfold Obligations.Loads
  rintro s t d gt gb imm h x a rfl rfl ha hgood
  refine ⟨fun hr => ?_, fun hal hd hr => ?_, fun hal hd hr => ⟨?_, ?_⟩, fun hal hd hr => ?_, fun hal hd hgt hr => ?_, fun hgt => ?_⟩
  · refine leaves_load hgood (by omega) (by omega) h rfl ha (Nat.mod_one _) hr ?_
    simp [State.bytes, natOf]
  · exact leaves_load hgood (by omega) (by omega) h rfl ha hal hr rfl
  · exact leaves_load hgood (by omega) (by omega) h rfl ha hal hr rfl
  · exact leaves_load hgood (by omega) (by omega) h rfl ha hal hr rfl
  · exact leaves_load hgood (by omega) (by omega) h rfl ha hal hr rfl
  · have hcore := (exec_core (i := .dld t gt gb imm 0) h rfl (by decide) (by decide)).trans (congrArg _ (if_neg (not_le.mpr hgt)))
    have hread := exec_reads hgood (by omega) (by omega) ha hal hr hcore
    refine leaves_counted (k := 10) (u := groupOf (d / 64 * 64)) (n := 1) (hread.trans (congrArg _ ?_))
    rw [State.nextPc_setThread, State.thread_countOps]
  · exact trapsFrom_of ((exec_core (i := .dld t gt gb imm 0) h rfl (by decide) (by decide)).trans (congrArg _ (if_pos hgt)))

/-- Settles O15: what the address is routed to decides: a sound line, the host window with its link, a register with its clock. -/
theorem storesAndAtomics : Obligations.StoresAndAtomics := by
  unfold Obligations.StoresAndAtomics
  constructor
  · rintro s t d flt gt gb imm h h5 h6 h7 x a v rfl rfl rfl ha
    refine ⟨fun hgood => ⟨fun hr => ?_, fun hal hd hr => ?_, fun hal hd hr => ?_, fun hal hd hr => ?_, fun hal hd hgt hr => ?_⟩,
      fun hal hr hlink => ?_, fun hal hr hlink => ?_, fun hal hr => exec_std_stopped h h5 h6 ha hal hr,
      fun hal hr => exec_std_reg h h5 h6 ha hal h7 hr, fun hgt => ?_⟩
    · exact stores_storeG hgood (by decide) (by omega) h rfl h5 h6 h7 (by decide) ha (Nat.mod_one _) hr
    · exact stores_storeG hgood (by decide) (by omega) h rfl h5 h6 h7 (by decide) ha hal hr
    · exact stores_storeG hgood (by decide) (by omega) h rfl h5 h6 h7 (by decide) ha hal hr
    · exact stores_storeG hgood (by decide) (by omega) h rfl h5 h6 h7 (by decide) ha hal hr
    · have hcore := (exec_core (i := .dst t gt gb imm flt) h rfl h5 h6).trans (congrArg _ (if_neg (not_le.mpr hgt)))
      exact stores_put hgood (by decide) (by omega) ha hal hr hcore h7 (by decide) (bytesOf_length _ _) fun _ hi => getD_bytesOf_toNat _ hi
    · refine ⟨_, (exec_std_host h h5 h6 ha hal h7 hr).trans (congrArg _ (by rw [if_pos hlink])), ?_, ?_, ?_⟩
      · rw [State.nextPc_frame]
      · rw [State.thread_nextPc_same, State.hostWrite_frame]; rfl
      · rw [State.nextPc_frame, State.hostWrite_frame]
    · refine leaves_of ((exec_std_host h h5 h6 ha hal h7 hr).trans (congrArg _ ?_))
      rw [if_neg (by rw [hlink]; exact Bool.false_ne_true), State.nextPc_eq]
    · exact trapsFrom_of ((exec_core (i := .dst t gt gb imm flt) h rfl h5 h6).trans (congrArg _ (if_pos hgt)))
  · rintro s t d gd ga gb h x a b old rfl rfl rfl hold ha hal hd hgood hr y rfl
    refine ⟨stores_atomic hgood hd h rfl ha hal hr hold rfl, stores_atomic hgood hd h rfl ha hal hr hold rfl,
      stores_atomic hgood hd h rfl ha hal hr hold rfl, stores_atomic hgood hd h rfl ha hal hr hold rfl, fun heq => ?_, fun hne => ?_⟩
    · exact stores_atomic hgood hd h rfl ha hal hr hold (if_pos heq)
    · exact leaves_atomic hgood hd h rfl ha hal hr hold (if_neg hne)

end

section
/-! The memory block of PASS, VERD, PARM and CKPT (R264 to R274, R281, R282). -/

namespace Sys2Proof.Machine

open Sys2Proof

/-! ## The block -/

section
variable {i : Instr} {s u : State} {t n flt d : Nat} {a : W64} {b : List Byte} {f : State → List Byte → State}

theorem State.withBytes_read (haddr : s.blockAddr t a.toNat n = some d) (hread : s.readMem (s.thPart t) d n flt = ⟨u, b, true⟩) :
    s.withBytes t a n flt f = f u b := by
  rw [State.withBytes, haddr]
  simp only [hread, if_pos]

theorem State.withBlock_aligned (hal : a.toNat % n = 0) : s.withBlock t a n flt f = s.withBytes t a n flt f := if_neg (not_not_intro hal)

/-- An instruction that reads a block raises ACCESS where nothing holds the block, and DATAERR where the read fails. -/
theorem block_exceptions (hexec : exec i s = .next (s.withBytes t a n flt f)) :
    (s.blockAddr t a.toNat n = none → Traps i s t .access a) ∧
    (s.blockAddr t a.toNat n = some d → (s.readMem (s.thPart t) d n flt).ok = false →
      exec i s = .next ((s.readMem (s.thPart t) d n flt).s.raise t .dataErr a)) := by
  refine ⟨fun haddr => traps_of (hexec.trans (congrArg _ ?_)), fun haddr hbad => hexec.trans (congrArg _ ?_)⟩
  · rw [State.withBytes, haddr]
  · rw [State.withBytes, haddr]
    exact if_neg (by rw [hbad]; exact Bool.false_ne_true)

end

theorem traps_block_unaligned {i : Instr} {s : State} {t n flt : Nat} {a : W64}
    (hexec : ∃ f, exec i s = .next (s.withBlock t a n flt f)) (hal : a.toNat % n ≠ 0) : Traps i s t .align a := by
  obtain ⟨f, hexec⟩ := hexec
  exact traps_of (hexec.trans (congrArg _ (if_pos hal)))

/-- The exceptions of an aligned block, for an instruction other than PARM, whose block needs no alignment. -/
theorem block_exceptions_aligned {i j : Instr} {s : State} {t n flt d : Nat} {a : W64}
    (hexec : ∃ f, exec i s = .next (s.withBlock t a n flt f)) (hne : i ≠ j) :
    ((i = j ∨ a.toNat % n = 0) → s.blockAddr t a.toNat n = none → Traps i s t .access a) ∧
    ((i = j ∨ a.toNat % n = 0) → s.blockAddr t a.toNat n = some d → (s.readMem (s.thPart t) d n flt).ok = false →
      exec i s = .next ((s.readMem (s.thPart t) d n flt).s.raise t .dataErr a)) := by
  obtain ⟨f, hexec⟩ := hexec
  have haligned (h : i = j ∨ a.toNat % n = 0) :=
    block_exceptions (d := d) (hexec.trans (congrArg _ (State.withBlock_aligned (h.resolve_left hne))))
  exact ⟨fun h => (haligned h).1, fun h => (haligned h).2⟩

/-! ## VERD and PASS -/

section
variable {i : Instr} {s : State} {t flt op : Nat} {gd ga : Reg} (hruns : Runs s t)
include hruns

theorem exec_verd {q : BitVec 14} {f : State → Nat → List Byte → State} (hexec : exec i s = instr t (fun s => s.verd t gd ga q op flt f) s)
    (hq : q = 0) : ∃ g, exec i s = .next (s.withBlock t ((s.thread t).gr ga) 32 flt g) := by
  subst hq
  exact ⟨_, (exec_instr hruns hexec).trans (congrArg _ (if_neg (by simp)))⟩

theorem exec_pass_block {sel : BitVec 16} {mflt : Nat} (hsel : sel = 0) :
    ∃ f, exec (.pass t gd ga sel flt mflt) s = .next (s.withBlock t ((s.thread t).gr ga) 64 flt f) := by
  subst hsel
  exact ⟨_, (exec_instr (i := .pass t gd ga 0 flt mflt) hruns rfl).trans (congrArg _ (if_neg (by simp)))⟩

theorem exec_parm_block {sel : BitVec 16} (hsel : sel.toNat < 64) :
    exec (.parm t gd ga sel flt) s = .next (s.withBytes t ((s.thread t).gr ga) 32 flt fun s b => s.parm t gd sel.toNat b) :=
  (exec_instr (i := .parm t gd ga sel flt) hruns rfl).trans (congrArg _ (if_neg (not_le.mpr hsel)))

theorem exec_ckpt_block (hroom : s.ckptFull t = false) (hal : ((s.thread t).gr ga).toNat % 64 = 0) : exec (.ckpt t gd ga 0 flt) s =
    .next (s.withBytes t ((s.thread t).gr ga) 64 flt fun u b => (u.ckptBlock t gd ((s.thread t).gr ga) b).startOps) :=
  (exec_instr (i := .ckpt t gd ga 0 flt) hruns rfl).trans (congrArg _ ((if_neg (not_not_intro rfl)).trans
    ((if_neg (by rw [hroom]; exact Bool.false_ne_true)).trans (if_neg (not_not_intro hal)))))

theorem traps_ckpt_unaligned (hroom : s.ckptFull t = false) (hal : ((s.thread t).gr ga).toNat % 64 ≠ 0) :
    Traps (.ckpt t gd ga 0 flt) s t .ckptArg ((s.thread t).gr ga) :=
  traps_of ((exec_instr (i := .ckpt t gd ga 0 flt) hruns rfl).trans (congrArg _ ((if_neg (not_not_intro rfl)).trans
    ((if_neg (by rw [hroom]; exact Bool.false_ne_true)).trans (if_pos hal)))))

theorem traps_verd_reserved {q : BitVec 14} {f : State → Nat → List Byte → State}
    (hexec : exec i s = instr t (fun s => s.verd t gd ga q op flt f) s) (hq : 8 ≤ q.toNat ∨ (t ≠ supTid ∧ q ≠ 0)) :
    Traps i s t .illegal (wordSY 0x2D gd ga (q.toNat * 4 + op)) := by
  refine traps_of ((exec_instr hruns hexec).trans (congrArg _ (if_pos ?_)))
  exact hq.imp id fun ⟨ht, hne⟩ => ⟨ht, fun h0 => hne (BitVec.eq_of_toNat_eq h0)⟩

end

/-! ## PARM with its block read -/

section
variable {s : State} {t k : Nat} {gd : Reg} {b : List Byte}

theorem State.parm_notOwner (h : mayOwn (s.thSrc t) (ownerOf (s.rf (Addr.ptbSlotCtl k) 58 56)) = false) : s.parm t gd k b = s.retG t gd 1 :=
  if_pos (by rw [← State.thSrc, h]; rfl)

/-- PARM by the owner: target and step written, then the control image with the answer that it gives. -/
theorem State.parm_owner {v : W64} {w : State} {st : Nat} (h : mayOwn (s.thSrc t) (ownerOf (s.rf (Addr.ptbSlotCtl k) 58 56)) = true)
    (hv : v = setFld (BitVec.ofNat 64 (recNat b 16 8)) 58 56 (s.rf (Addr.ptbSlotCtl k) 58 56))
    (hw : w = (s.wr (Addr.ptbSlotTgt k) (BitVec.ofNat 64 (recNat b 0 8))).wr (Addr.ptbSlotStep k) (BitVec.ofNat 64 (recNat b 8 8)))
    (hst : (if !bit v 0 then 0 else if fld v 3 2 = 0 then 2 else if w.slotLate k v then 3 else 0) = st) :
    s.parm t gd k b = (w.retG t gd (BitVec.ofNat 64 st)).slotCtl (s.thSrc t) k v 0xFF := by
  subst hv hw hst
  exact if_neg (by rw [← State.thSrc, h]; exact Bool.false_ne_true)

end

/-! ## CKPT with its block and table read -/

section
variable {s w : State} {t : Nat} {gd : Reg} {a : W64} {b tab : List Byte}

theorem State.ckptBlock_bad (h : ckptOk b = false) : s.ckptBlock t gd a b = s.raise t .ckptArg a := if_pos (by rw [h]; rfl)

theorem State.ckptBlock_table (h : ckptOk b = true) (htab : s.ckptTable t (recNat b 24 8) (16 * recNat b 20 2) = (w, .ok tab)) :
    s.ckptBlock t gd a b = if tableOk (recNat b 20 2) tab then w.ckptGo t gd (b ++ tab) else w.raise t .ckptArg a := by
  rw [State.ckptBlock, if_neg (by rw [h]; exact Bool.false_ne_true)]
  simp only [htab]

/-- A thread that has taken its next ticket into gd and as its last one. -/
def Thread.ticketed (x : Thread) (t : Nat) (gd : Reg) : Thread :=
  let n := nextSerial x.serial
  let y : Thread := { x with serial := n, wrapped := x.wrapped || (n == 1 && x.serial != 0),
                             tkts := ⟨n, 1, 0⟩ :: x.tkts.take 255 ++ (x.tkts.drop 255).filter fun k => k.st == 1 }
  { (y.setG gd (ticket t n)).onward with lastTkt := ticket t n }

theorem Thread.setG_serial (x : Thread) (n : Reg) (v : W64) : (x.setG n v).serial = x.serial := by rw [Thread.setG_frame]

theorem Thread.setG_tkts (x : Thread) (n : Reg) (v : W64) : (x.setG n v).tkts = x.tkts := by rw [Thread.setG_frame]

theorem Thread.ticketed_serial (x : Thread) (t : Nat) (gd : Reg) : (x.ticketed t gd).serial = nextSerial x.serial := Thread.setG_serial _ _ _

theorem Thread.ticketed_tkt (x : Thread) (t : Nat) (gd : Reg) :
    (x.ticketed t gd).tkt (nextSerial x.serial) = some ⟨nextSerial x.serial, 1, 0⟩ := by
  have htkts : (x.ticketed t gd).tkts = _ := Thread.setG_tkts _ _ _
  rw [Thread.tkt, htkts]
  exact List.find?_cons_of_pos (beq_self_eq_true _)

theorem Thread.ticketed_gr (x : Thread) (t : Nat) {gd : Reg} (h : gd ≠ 0) : (x.ticketed t gd).gr gd = ticket t (nextSerial x.serial) :=
  Thread.gr_setG_same _ _ _ h

/-- A transfer that a cluster's thread starts, with the ticket of the next serial number. -/
theorem State.ckptGo_cluster (hsup : t ≠ supTid) : ∃ (o : Op) (v : State), s.ckptGo t gd b = { v with ops := v.ops ++ [o], opCount := v.opCount + 1 } ∧
    o.cls = 8 ∧ o.th = t ∧ o.serial = nextSerial (s.thread t).serial ∧ v.ops = s.ops ∧ v.thread t = (s.thread t).ticketed t gd ∧
    ∀ k, k ≠ t → v.thread k = s.thread k := by
  unfold State.ckptGo
  simp only [hsup, decide_false, Bool.false_eq_true, if_false, Option.isNone_some]
  refine ⟨_, _, rfl, rfl, rfl, rfl, ?_, ?_, fun k hk => ?_⟩
  · rw [State.setThread_ops, State.nextPc_ops]; rfl
  · rw [State.thread_setThread_same, State.thread_nextPc_same, State.setG, State.thread_setThread_same,
      State.newTkt, State.thread_setThread_same]
    rfl
  · rw [State.thread_setThread_other _ _ hk, State.thread_nextPc_other _ _ hk, State.setG, State.thread_setThread_other _ _ hk]
    exact State.thread_setThread_other _ _ hk

end

end Sys2Proof.Machine
end

section
/-! Instructions with a block in memory. -/

open Sys2Proof Sys2Proof.Machine

/-- Settles O20: each instruction reads its block alike, once its fields, its room and its alignment let it. -/
theorem instructionBlocks : Obligations.InstructionBlocks := by
  unfold Obligations.InstructionBlocks
  rintro s t flt gd ga sel q d h hroom a rfl
  refine ⟨fun hsel hq => ?_, fun hsel hal => ⟨traps_block_unaligned (exec_pass_block h hsel) hal, ?_⟩, fun hq hal => ?_, fun hsel => ?_,
    fun hq => ⟨traps_verd_reserved (op := 0) h rfl hq, traps_verd_reserved h rfl hq, traps_verd_reserved h rfl hq, traps_verd_reserved h rfl hq⟩,
    fun hsel => traps_instr h rfl (if_pos hsel), fun hsel => traps_instr h rfl (if_pos hsel)⟩
  · simp only [List.forall_mem_cons, List.not_mem_nil, false_implies, implies_true, and_true]
    refine ⟨block_exceptions_aligned (exec_pass_block h hsel) nofun, ?_, ?_, ?_, ?_, ?_, ?_⟩
    iterate 4 · exact block_exceptions_aligned (exec_verd h rfl hq) nofun
    · have hparm := block_exceptions (d := d) (exec_parm_block (gd := gd) (ga := ga) (flt := flt) h (sel := sel) (by rw [hsel]; decide))
      exact ⟨fun _ => hparm.1, fun _ => hparm.2⟩
    · subst hsel
      have hckpt (hal : ((s.thread t).gr ga).toNat % 64 = 0) := block_exceptions (d := d) (exec_ckpt_block (gd := gd) (flt := flt) h hroom hal)
      exact ⟨fun hal => (hckpt (hal.resolve_left nofun)).1, fun hal => (hckpt (hal.resolve_left nofun)).2⟩
  · subst hsel
    exact traps_ckpt_unaligned h hroom hal
  · simp only [List.forall_mem_cons, List.not_mem_nil, false_implies, implies_true, and_true]
    refine ⟨?_, ?_, ?_, ?_⟩
    all_goals exact traps_block_unaligned (exec_verd h rfl hq) hal
  · refine traps_instr h rfl (if_pos ?_)
    exact hsel.imp id fun ⟨ht, hne⟩ => ⟨ht, fun h0 => hne (BitVec.eq_of_toNat_eq h0)⟩

/-- Settles O23: PARM by the owner of its slot and by its control image, CKPT by its block and then by its table. -/
theorem parametersAndCheckpoints : Obligations.ParametersAndCheckpoints := by
  unfold Obligations.ParametersAndCheckpoints
  constructor
  · rintro s u t flt d k gd ga sel b v h rfl hk haddr hread hv
    have hexec := (exec_parm_block (gd := gd) h hk).trans (congrArg _ (State.withBytes_read haddr hread))
    refine ⟨fun hown => hexec.trans (congrArg _ (State.parm_notOwner hown)), fun hown w hw => ⟨fun hen => ?_, fun hen hc => ?_,
      fun hen hc hlate => ?_, fun hen hc hlate => ?_⟩⟩
    all_goals refine hexec.trans (congrArg _ (State.parm_owner hown hv hw ?_))
    all_goals rw [show bit v 0 = _ from hen]
    · rfl
    · simp [hc]
    · simp [hc, hlate]
    · simp [hc, hlate]
  · rintro s u t flt d gd ga b a h rfl hroom hal haddr hread
    have hexec := (exec_ckpt_block (gd := gd) h hroom hal).trans (congrArg _ (State.withBytes_read haddr hread))
    refine ⟨fun hbad => hexec.trans (congrArg _ (by rw [State.ckptBlock_bad hbad])), fun hok w tab htab => ?_⟩
    rw [State.ckptBlock_table hok htab] at hexec
    refine ⟨fun hbad => hexec.trans (congrArg _ (by rw [if_neg (by rw [hbad]; exact Bool.false_ne_true)])), fun hgood hsup n hn => ?_⟩
    obtain ⟨o, v, hgo, hcls, hth, hserial, hops, hthread, hother⟩ := State.ckptGo_cluster (s := w) (gd := gd) (b := b ++ tab) hsup
    subst hn
    have hv : (w.ckptGo t gd (b ++ tab)).thread t = (w.thread t).ticketed t gd := by rw [hgo]; exact hthread
    refine ⟨o, _, hexec.trans (congrArg _ (by rw [if_pos hgood])), ?_, hcls, hth, hserial, ?_, ?_, ?_, fun hgd => ?_, fun k hk => ?_⟩
    · rw [hgo, ← hops]
    · rw [hv]; rfl
    · rw [hv, Thread.ticketed_serial]
    · rw [hv, Thread.ticketed_tkt]
    · rw [hv, Thread.ticketed_gr _ _ hgd]; rfl
    · rw [hgo]; exact hother k hk

end

section
/-! Progress on a running tile operation or transfer, and how each ends (R283, R317, R326, R398, R475, R541, R589). -/

namespace Sys2Proof.Machine

open Sys2Proof

/-! ## Progress -/

/-- The op as a progress finds it: with MASKSUB from when its mask names no unit in service (R313). -/
def State.masked (s : State) (q : Op) : Op := if s.maskSub q = true then { q with flags := q.flags ||| 32 } else q

/-- Op `q` of number `uid` runs, and memory does not hold it up. -/
structure State.Runs (s : State) (uid : Nat) (q : Op) : Prop where
  found : s.opOf uid = some q
  started : q.start.isSome = true
  goes : s.goes q = true
  free : s.opWaits q = false

theorem State.opOf_uid {s : State} {uid : Nat} {q : Op} (h : s.opOf uid = some q) : q.uid = uid := by
  have hfound := List.find?_some h
  simp only [Bool.and_eq_true, beq_iff_eq] at hfound
  exact hfound.1

theorem State.masked_uid (s : State) (q : Op) : (s.masked q).uid = q.uid := by
  unfold State.masked
  split <;> rfl

/-- Progress on op `uid` works on state `w` and op `o`, and ops may start after it. -/
def State.Progresses (s : State) (uid : Nat) (w : State) (o : Op) : Prop := ∀ f : State → Op → State, s.progress uid f = (f w o).startOps

/-- Progress on a running op works on the op as masked, with the op so written back. -/
theorem State.Runs.progresses {s : State} {uid : Nat} {q : Op} (h : s.startOps.Runs uid q) :
    s.Progresses uid (s.startOps.putOp (s.startOps.masked q)) (s.startOps.masked q) := by
  intro f
  unfold State.progress
  simp only [h.found, h.started, h.goes, h.free, Bool.not_false, Bool.and_self, if_true]
  rfl

theorem Op.is_of {o : Op} {cls opc : Nat} (hcls : o.cls = cls) (hopc : o.opc = opc) : o.is cls opc = true := by
  rw [Op.is, hcls, hopc, beq_self_eq_true, beq_self_eq_true]; rfl

theorem Op.is_cls_ne {o : Op} {cls : Nat} (h : o.cls ≠ cls) (opc : Nat) : o.is cls opc = false := by
  rw [Op.is, beq_false_of_ne h]; rfl

theorem Op.is_opc_ne {o : Op} (cls : Nat) {opc : Nat} (h : o.opc ≠ opc) : o.is cls opc = false := by
  rw [Op.is, beq_false_of_ne h, Bool.and_false]

/-! ## Pieces and weight blocks -/

theorem State.seedLoad_ops (s : State) (o : Op) (u : Nat) : (s.seedLoad o u).1.ops = s.ops := by
  unfold State.seedLoad
  split
  · exact foldl_keeps (p := State.ops) (fun s _ => s.setLf_ops _ _) _ _
  · rfl

/-- Loading seeds changes no field of the op but the list of the units seeded. -/
theorem State.seedLoad_op (s : State) (o : Op) (u : Nat) :
    (s.seedLoad o u).2 = { o with seeded := (s.seedLoad o u).2.seeded } := by
  unfold State.seedLoad
  split <;> rfl

theorem State.seedLoad_none {o : Op} (s : State) (u : Nat) (h : o.byte 8 % 2 = 0) : s.seedLoad o u = (s, o) :=
  if_neg fun ⟨hone, _⟩ => by omega

theorem State.unitCnt_ops (s : State) (o : Op) (u hi lo n : Nat) : (s.unitCnt o u hi lo n).ops = s.ops := by
  have hadd (off : Nat) : (if lo = 32 then s.inc off hi lo n else s.sat off hi lo n).ops = s.ops := by
    split
    · exact s.inc_ops _ _ _ _
    · exact s.sat_ops _ _ _ _
  unfold State.unitCnt
  match o.cls with
  | 0 | 1 => exact hadd _
  | 2 => exact hadd _
  | _ + 3 => rfl

theorem State.countOps_ops (s : State) (k u n : Nat) : (s.countOps k u n).ops = s.ops := by
  unfold State.countOps
  split
  · rfl
  · exact s.setHu_ops _ _ _

section
variable {w : State} {o : Op} {unit row n cc : Nat} (hcls : o.cls ≤ 2)
include hcls

theorem State.piece_passes (hact : 1 < o.cls ∨ (w.tile (thClu o.th * 8 + unit)).active = some o.uid)
    (hunit : w.unitOk o (o.tryOf row) unit = true) (hfits : o.pieceOk row n cc = true) :
    w.piece o unit row n cc false = w.pieceGood o unit row n cc := by
  have hblock : (o.is 3 0 || o.is 6 0) = false := by rw [Op.is_cls_ne (by omega), Op.is_cls_ne (by omega)]; rfl
  have hstream : o.is 5 1 = false := Op.is_cls_ne (by omega) _
  have hactive : (decide (1 < o.cls) || (w.tile (thClu o.th * 8 + unit)).active == some o.uid) = true := by
    rcases hact with h | h <;> simp [h]
  have hlow : ¬ 6 < o.cls := by omega
  unfold State.piece
  simp [hblock, hstream, hactive, hunit, hfits, hlow]

/-- A piece that passes at its first attempt covers its rows and changes the op in its rows, attempts and seeds alone. -/
theorem State.pieceGood_ops (htry : (o.tryOf row).n = 0) : ∃ p : Op,
    (w.pieceGood o unit row n cc).ops = (w.ops.map fun q => if q.uid = o.uid then p else q) ∧
    p = { o with rows := (if n = 0 then o.rows else o.rows ++ [⟨row, n, cc, unit, 0, (o.tryOf row).unit⟩]),
                 tries := o.tries.filter (fun t => t.row != row), seeded := p.seeded } ∧
    (o.byte 8 % 2 = 0 → p.seeded = o.seeded) := by
  have hconv : o.is 5 0 = false := Op.is_cls_ne (by omega) _
  let x := (w.countOps (o.kindUnit unit).1 (o.kindUnit unit).2 1).unitCnt o unit 63 32 1
  have hx : x.ops = w.ops := (State.unitCnt_ops _ _ _ _ _ _).trans (State.countOps_ops _ _ _ _)
  refine ⟨{ o with rows := (if n = 0 then o.rows else o.rows ++ [⟨row, n, cc, unit, 0, (o.tryOf row).unit⟩]),
                   tries := o.tries.filter (fun t => t.row != row), seeded := (x.seedLoad o unit).2.seeded }, ?_, rfl, ?_⟩
  · have hgood : w.pieceGood o unit row n cc = (x.seedLoad o unit).1.putOp { (x.seedLoad o unit).2 with
        rows := (if n = 0 then (x.seedLoad o unit).2.rows else
          (x.seedLoad o unit).2.rows ++ [⟨row, n, cc, unit, (o.tryOf row).n, (o.tryOf row).unit⟩])
        tries := (x.seedLoad o unit).2.tries.filter (fun t => t.row != row) } := by
      have hne : o.cls ≠ 5 := by omega
      unfold State.pieceGood
      simp [hconv, htry, hne, x]
    rw [hgood, State.seedLoad_op, htry]
    show (x.seedLoad o unit).1.ops.map _ = _
    rw [State.seedLoad_ops, hx]
  · intro hodd
    rw [x.seedLoad_none unit hodd]

end

/-! ## The end of the work (R317) -/

/-- The op that a completion works on, with the state: its seeds loaded where no piece of it ran. -/
def State.seeded (w : State) (o : Op) : State × Op := if o.rows = [] then w.seedLoad o 0 else (w, o)

theorem State.seeded_op (w : State) (o : Op) : (w.seeded o).2 = { o with seeded := (w.seeded o).2.seeded } := by
  unfold State.seeded
  split
  · exact w.seedLoad_op o 0
  · rfl

/-- The end of a tile op that is ready, with no damaged block, is its completion. -/
theorem State.opComplete_tile {w : State} {o : Op} (hcls : o.cls < 7) (hseq : o.cls ≠ 4) (hdmg : o.dmg = [])
    (hready : w.readyToEnd o = true) :
    w.opComplete o ⟨false, none, []⟩ = (w.seeded o).1.complete (w.seeded o).2 [] := by
  have hmove (k : Nat) : o.is 7 k = false := Op.is_cls_ne (by omega) k
  have hsq : (w.seedLoad o 0).2.is 4 2 = false := by rw [State.seedLoad_op]; exact Op.is_cls_ne hseq 2
  have hlow : ¬ 8 ≤ o.cls := by omega
  have hne : o.cls ≠ 7 := by omega
  unfold State.opComplete State.seeded
  by_cases hrows : o.rows = []
  · simp [hmove, hsq, hlow, hne, hdmg, hready, hseq, hrows]
  · simp [hmove, Op.is_cls_ne hseq, hlow, hne, hdmg, hready, hseq, hrows]

/-- Work that comes to a result ends the op with the result's status, count, values and flags. -/
theorem State.complete_ok {e x y : State} {p : Op} {i : Nat} {r : Res} (hfresh : e.fresh = (i, x)) (hcorrupt : p.corrupt = false)
    (hwork : x.work p i [] = (y, .ok r)) (hstat : r.status ≠ 3) :
    e.complete p [] = State.endOp y { p with count := r.count, vals := r.vals } r.status (p.flags ||| r.flags) := by
  unfold State.complete State.workEnd State.finishOp
  simp [hfresh, hwork, hcorrupt, hstat]

/-! ## Transfers -/

theorem State.opComplete_copy {w : State} {o : Op} (hcls : o.cls = 7) (hopc : o.opc < 2) (hdmg : o.dmg = [])
    (hturn : w.onTurn o = true) (hmoved : w.moved o = true) : w.opComplete o ⟨false, none, []⟩ = w.copyEnd o := by
  have hmove (k : Nat) (hk : 2 ≤ k) : o.is 7 k = false := Op.is_opc_ne 7 (by omega)
  unfold State.opComplete
  simp [hmove, hcls, hdmg, hturn, hmoved]

theorem State.copyEnd_linkDown {w : State} {o : Op} (hflag : o.hostFlag = true) (hlink : w.linkUp = false) :
    w.copyEnd o = w.moveFail o 0 := by
  unfold State.copyEnd
  simp [hflag, hlink]

theorem State.copyEnd_ok {w x : State} {o : Op} (hflag : o.hostFlag = false ∨ w.linkUp = true) (hamx : w.copyAmx o = (x, .ok ())) :
    w.copyEnd o = (x.signal o).endOp o 0 o.flags := by
  have hgo : (o.hostFlag && !w.linkUp) = false := by rcases hflag with h | h <;> simp [h]
  unfold State.copyEnd
  simp [hgo, hamx]

theorem State.copyAmx_none {w : State} {o : Op} (hamx : o.D.amx = false) : w.copyAmx o = (w, .ok ()) := by
  unfold State.copyAmx
  simp [hamx]

/-- The end of a promote's or an evict's copy, on its turn and with every block moved. -/
theorem State.dirCopyEnd_moved {z : State} {uid opc : Nat} {q : Op} (hop : z.opOf uid = some q) (hcls : q.cls = 7) (hopc : q.opc = opc)
    (hstart : q.start.isSome = true) (hcopy : q.aux.getD 0 0 = 1) (hturn : z.onTurn q = true) (hmoved : z.moved q = true) :
    z.dirCopyEnd uid opc false = z.dirEnd q := by
  have hcopying : q.copying opc = true := by
    rw [Op.copying, Op.is_of hcls hopc, hstart, hcopy]; rfl
  unfold State.dirCopyEnd
  simp [hop, hcopying, hturn, hmoved]

/-- The directory entry takes the state that an end leaves: HOT of a promote (2), else COLD. -/
theorem State.dirEnd_free {z : State} {q : Op} (hsrc : q.aux.getD 2 0 = 0) :
    z.dirEnd q = (z.setDir (q.aux.getD 1 0) (if q.opc = 2 then 2 else 0)).endOp q 0 q.flags := by
  unfold State.dirEnd
  simp only [hsrc, if_true]

theorem State.dirEnd_counted {z : State} {q : Op} (hsrc : q.aux.getD 2 0 ≠ 0) :
    z.dirEnd q = ((z.setDir (q.aux.getD 1 0) (if q.opc = 2 then 2 else 0)).dirAdd (q.aux.getD 2 0 + 18) (-1)).endOp q 0 q.flags := by
  unfold State.dirEnd
  simp only [if_neg hsrc]

/-- A commit whose record reaches memory, or the host while the link is up, ends the checkpoint. -/
theorem State.commit_here {w : State} {o : Op} {d : Nat} (hdev : o.devFor .write (w.commitAt o) 64 = some d)
    (hfab : region d ≠ .fabric) (hhost : region d = .host → w.linkUp = true) :
    w.commit o false = (w.opStore o (w.commitAt o) (w.commitRec o)).endOp o 0 o.flags := by
  have hgo : (decide (region d = .host) && !w.linkUp) = false := by
    by_cases h : region d = .host <;> simp [h, hhost]
  unfold State.commit
  simp [hdev, hfab, hgo]

/-! ## Damaged blocks (R541) -/

section
variable {w : State} {o : Op} {a c f chk : Nat} (hdmg : o.dmg = [a, c, f])
  (hsound : ∀ b e, ((w.sat (Addr.cxCnt1 (thClu o.th)) 63 48 1).work { o with dmg := [] } 0 []).2 ≠ .error (.damaged b e))
include hdmg hsound

/-- A block that memory holds sound fails the check that its fetch brings, and no other. -/
theorem State.refetch_sound : w.refetch o chk =
    (let y := w.sat (Addr.cxCnt1 (thClu o.th)) 63 48 1
     if chk = 0 then
       let o : Op := { o with dmg := [], flags := o.flags ||| flRefetched }
       if o.is 5 1 then (y.putOp o).streamDrain o else y.putOp o
     else if f = 2 ∨ chk = c then (y.cxLast o a chk (f + 1)).corruptBlock o a chk
     else (y.cxLast o a chk (f + 1)).putOp { o with dmg := [a, chk, 2] }) := by
  unfold State.refetch
  simp only [hdmg]
  generalize ((w.sat (Addr.cxCnt1 (thClu o.th)) 63 48 1).work { o with dmg := [] } 0 []).2 = result at hsound
  match result with
  | .error (.damaged b e) => exact absurd rfl (hsound b e)
  | .error (.bad _) => rfl
  | .ok _ => rfl

end

/-! ## The commands -/

section
variable {s w : State} {uid : Nat} {o : Op} (h : s.Progresses uid w o)
include h

theorem State.Progresses.pieceComplete (unit row n cc : Nat) (err : Bool) :
    exec (.pieceComplete uid unit row n cc err) s = .next (w.piece o unit row n cc err).startOps :=
  congrArg Host.Outcome.next (h _)

theorem State.Progresses.weightBlockLoaded {tile : Nat} (hcls : o.cls < 2) (htile : tile ∈ w.opUnits o) :
    (w.cxTurn o = true → exec (.weightBlockLoaded uid tile) s =
      .next ((w.cxServed o).setTile (thClu o.th * 8 + tile) ⟨some uid, some uid⟩).startOps) ∧
    (w.cxTurn o = false → exec (.weightBlockLoaded uid tile) s = .next w.startOps) := by
  constructor
  · intro hturn
    refine congrArg Host.Outcome.next ((h _).trans (congrArg State.startOps ?_))
    exact if_pos ⟨hcls, List.contains_iff_mem.mpr htile, hturn⟩
  · intro hturn
    refine congrArg Host.Outcome.next ((h _).trans (congrArg State.startOps ?_))
    exact if_neg fun ⟨_, _, hserved⟩ => Bool.false_ne_true (hturn.symm.trans hserved)

theorem State.Progresses.tileOpComplete (env : OpEnv) :
    exec (.tileOpComplete uid env) s = .next (w.opComplete o env).startOps :=
  congrArg Host.Outcome.next (h _)

theorem State.Progresses.ppStreamEntry {n : Nat} {rest : List Nat} (b : Bool) (hn : n < 2) (hhead : (s.pp n).q = uid :: rest)
    (hcls : o.cls = 5) (hopc : o.opc = 1) : exec (.ppStreamEntry n b) s = .next (w.streamEntryIn o b).startOps := by
  show execPpStreamEntry n b s = _
  unfold execPpStreamEntry
  simp only [if_pos hn, hhead, h _, Op.is_of hcls hopc, if_true]

theorem State.Progresses.blockRefetch {chk : Nat} (hchk : chk ≤ 9) :
    exec (.blockRefetch uid chk) s = .next (w.refetch o chk).startOps :=
  congrArg Host.Outcome.next ((h _).trans (congrArg State.startOps (if_pos hchk)))

theorem State.Progresses.movementBlock (m flt : Nat) (hturn : w.onTurn o = true) :
    (o.xfer = none → exec (.movementBlock uid m flt) s = .next (w.moveBlock o m flt).startOps) ∧
    (o.xfer ≠ none → exec (.movementBlock uid m flt) s = .next w.startOps) := by
  constructor
  · intro hnone
    refine congrArg Host.Outcome.next ((h _).trans (congrArg State.startOps (if_pos ?_)))
    rw [hturn, hnone]; rfl
  · intro hsome
    refine congrArg Host.Outcome.next ((h _).trans (congrArg State.startOps (if_neg ?_)))
    simp [hsome]

theorem State.Progresses.ckptCommit (hcls : o.cls = 8) (hturn : w.onTurn o = true) (hmoved : w.moved o = true) :
    exec (.ckptCommit uid false) s = .next (w.commit o false).startOps := by
  refine congrArg Host.Outcome.next ((h _).trans (congrArg State.startOps (if_pos ?_)))
  rw [hcls, hturn, hmoved]; rfl

end

theorem State.fillComplete_moved {s : State} {uid : Nat} {q : Op} (h : s.startOps.dirCopyEnd uid 2 false = s.startOps.dirEnd q) :
    exec (.fillComplete uid false) s = .next (s.startOps.dirEnd q).startOps :=
  congrArg (fun z : State => Host.Outcome.next z.startOps) h

theorem State.drainComplete_moved {s : State} {uid : Nat} {q : Op} (h : s.startOps.dirCopyEnd uid 3 false = s.startOps.dirEnd q) :
    exec (.drainComplete uid false) s = .next (s.startOps.dirEnd q).startOps :=
  congrArg (fun z : State => Host.Outcome.next z.startOps) h

end Sys2Proof.Machine
end

section
/-! The obligation on the progress of tile operations. -/

open Sys2Proof Sys2Proof.Machine

/-- Settles O36: each command is a progress on the op as masked, and each clause is what that progress does. -/
theorem tileProgress : Obligations.TileProgress := by
  unfold Obligations.TileProgress
  intro s w uid q o hop hstart hgoes hwait ho hw
  have hruns : s.startOps.Runs uid q := ⟨hop, hstart, hgoes, hwait⟩
  have hmask : o = s.startOps.masked q := ho
  have huid : o.uid = uid := by rw [hmask, State.masked_uid, State.opOf_uid hop]
  have h : s.Progresses uid w o := by rw [hw, hmask]; exact hruns.progresses
  refine ⟨?piece, ?weight, ?work, ?copy, ?stream, ?refetch, ?turn⟩
  case piece =>
    intro unit row n cc hcls hact hunit hfits htry
    obtain ⟨p, hops, hp, hseeds⟩ := State.pieceGood_ops (w := w) (unit := unit) (row := row) (n := n) (cc := cc) hcls htry
    refine ⟨w.pieceGood o unit row n cc, p, ?_, huid ▸ hops, hp, hseeds⟩
    rw [h.pieceComplete, State.piece_passes hcls (huid.symm ▸ hact) hunit hfits]
  case weight =>
    rintro tile k hcls htile rfl
    exact h.weightBlockLoaded hcls htile
  case work =>
    intro hcls hseq hdmg hready hcorrupt e p i x y r hseeded hfresh hwork hstat
    have hpair : w.seeded o = (e, p) := hseeded.symm
    have hp : p = { o with seeded := p.seeded } := by simpa [hpair] using w.seeded_op o
    have hsame : p.corrupt = false := by rw [hp]; exact hcorrupt
    rw [h.tileOpComplete, State.opComplete_tile hcls hseq hdmg hready, hpair, State.complete_ok hfresh hsame hwork hstat]
  case copy =>
    intro hcls hopc hdmg hturn hmoved
    refine ⟨fun hflag hlink => ?_, fun hflag x hamx => ?_, State.copyAmx_none⟩
    · rw [h.tileOpComplete, State.opComplete_copy hcls hopc hdmg hturn hmoved, State.copyEnd_linkDown hflag hlink]
    · rw [h.tileOpComplete, State.opComplete_copy hcls hopc hdmg hturn hmoved, State.copyEnd_ok hflag hamx]
  case stream =>
    intro n rest b hn hhead hcls hopc
    exact h.ppStreamEntry b hn hhead hcls hopc
  case refetch =>
    rintro a c f chk y hdmg hchk rfl hsound
    rw [h.blockRefetch hchk, State.refetch_sound hdmg hsound]
    refine ⟨fun hzero hstream => ?_, fun hchk hagain => ?_, fun hchk hfirst hnew => ?_⟩
    · have hnot : ({ o with dmg := [], flags := o.flags ||| flRefetched } : Op).is 5 1 = false := hstream
      simp only [hzero, hnot, if_true, Bool.false_eq_true, if_false]
      rfl
    · simp only [if_neg hchk, if_pos hagain]
    · simp only [if_neg hchk, hfirst, hnew, or_self, if_false]
  case turn =>
    intro hturn
    refine ⟨fun m flt => (h.movementBlock m flt hturn).1, fun m flt => (h.movementBlock m flt hturn).2, ?_, ?_⟩
    · rintro e src z rfl hown rfl rfl hcls hcopy hmoved
      have hend {opc : Nat} (hopc : q.opc = opc) := State.dirCopyEnd_moved hop hcls hopc hstart hcopy hown hmoved
      refine ⟨fun hopc hsrc => ?_, fun hopc hsrc => ?_, fun hopc hsrc => ?_, fun hopc hsrc => ?_⟩
      · rw [State.fillComplete_moved (hend hopc), State.dirEnd_free hsrc, if_pos hopc]
      · rw [State.fillComplete_moved (hend hopc), State.dirEnd_counted hsrc, if_pos hopc]
      · rw [State.drainComplete_moved (hend hopc), State.dirEnd_free hsrc, if_neg (by omega)]
      · rw [State.drainComplete_moved (hend hopc), State.dirEnd_counted hsrc, if_neg (by omega)]
    · intro d hcls hmoved hdev hfab hhost
      rw [h.ckptCommit hcls hturn hmoved, State.commit_here hdev hfab hhost]

end

section
/-! TWAIT and the semaphore instructions (R209, R215, R259 to R263, R316 to R318). -/

namespace Sys2Proof.Machine

open Sys2Proof

/-! ## What TWAIT finds (R316, R318) -/

section
variable {s : State} {t : Nat} {w : W64}

theorem State.tktFind_notMine (h : w.toNat / 2 ^ 32 ≠ t ∨ w.toNat % 2 ^ 32 = 0 ∨
    ((s.thread t).serial < w.toNat % 2 ^ 32 ∧ (s.thread t).wrapped = false)) : s.tktFind t w = (8, 0) :=
  if_pos (h.imp_right (.imp_right (.imp_right fun hw => by rw [hw]; rfl)))

/-- The ticket of a serial number that the thread has been given. -/
structure State.Issued (s : State) (t : Nat) (w : W64) : Prop where
  own : w.toNat / 2 ^ 32 = t
  pos : 0 < w.toNat % 2 ^ 32
  given : w.toNat % 2 ^ 32 ≤ (s.thread t).serial ∨ (s.thread t).wrapped = true

theorem State.Issued.mine (h : s.Issued t w) : ¬(w.toNat / 2 ^ 32 ≠ t ∨ w.toNat % 2 ^ 32 = 0 ∨
    ((s.thread t).serial < w.toNat % 2 ^ 32 ∧ !(s.thread t).wrapped)) := by
  obtain ⟨hown, hpos, hgiven⟩ := h
  rintro (hother | hzero | ⟨hlater, hunwrapped⟩)
  · exact hother hown
  · omega
  · rcases hgiven with hle | hwrapped
    · omega
    · rw [hwrapped] at hunwrapped
      exact Bool.false_ne_true hunwrapped

theorem State.Issued.tktFind_kept {k : Tkt} (h : s.Issued t w) (hk : (s.thread t).tkt (w.toNat % 2 ^ 32) = some k) :
    s.tktFind t w = (k.st, k.flags) :=
  (if_neg h.mine).trans (by rw [hk])

theorem State.Issued.tktFind_forgotten (h : s.Issued t w) (hk : (s.thread t).tkt (w.toNat % 2 ^ 32) = none) :
    s.tktFind t w = (7, 0) :=
  (if_neg h.mine).trans (by rw [hk])

end

/-! ## The two forms of TWAIT -/

section
variable {s : State} {t st fl : Nat} {gd ga : Reg} (hruns : Runs s t) (hfind : s.tktFind t ((s.thread t).gr ga) = (st, fl))
include hruns hfind

theorem leaves_twaitTry : Leaves (.twaitTry t gd ga 0) s t ((s.thread t).setG gd (tktVal st fl)).onward :=
  leaves_retG hruns rfl ((if_neg (not_not_intro rfl)).trans (by rw [hfind])) rfl

theorem leaves_twait (eta : Nat) (hst : st ≠ 1) : Leaves (.twait t gd ga 0 eta) s t ((s.thread t).setG gd (tktVal st fl)).onward := by
  refine leaves_retG hruns rfl ((if_neg (not_not_intro rfl)).trans ?_) rfl
  rw [hfind]
  split
  · next heq => exact absurd (congrArg Prod.fst heq) hst
  · next heq => cases heq; rfl

/-- Both forms of TWAIT on a ticket that is not pending. -/
theorem leaves_twait_both (eta : Nat) (hst : st ≠ 1) :
    Leaves (.twait t gd ga 0 eta) s t ((s.thread t).setG gd (tktVal st fl)).onward ∧
      Leaves (.twaitTry t gd ga 0) s t ((s.thread t).setG gd (tktVal st fl)).onward :=
  ⟨leaves_twait hruns hfind eta hst, leaves_twaitTry hruns hfind⟩

/-- A pending ticket of no mover's op is waited for at the next instruction. -/
theorem exec_twait_pending (eta : Nat) (hst : st = 1) (hmover : s.onMover t (((s.thread t).gr ga).toNat % 2 ^ 32) = false) :
    exec (.twait t gd ga 0 eta) s = .next ((s.nextPc t).holdAt t (.tkt ((s.thread t).gr ga) gd 0 s.time)) := by
  subst hst
  refine (exec_instr (i := .twait t gd ga 0 eta) hruns rfl).trans (congrArg _ ((if_neg (not_not_intro rfl)).trans ?_))
  simp only [hfind, hmover, Bool.false_eq_true, false_and, if_false]

end

/-- A thread other than a job's that is held at its next instruction. -/
theorem leaves_holdAt {i : Instr} {s : State} {t : Nat} {w : Wait} (hexec : exec i s = .next ((s.nextPc t).holdAt t w))
    (hjob : thClass t ≠ .job) : Leaves i s t { (s.thread t).onward with wait := w } :=
  leaves_of (by rw [hexec, State.holdAt_stays _ _ hjob, State.thread_nextPc_same, State.setThread_nextPc])

/-! ## A unit granted (R260) -/

@[simp] theorem State.sem_semSync (s : State) (k j : Nat) : (s.semSync k).sem j = s.sem j := by
  unfold State.semSync
  split <;> rfl

theorem State.sem_grant (s : State) (k t : Nat) :
    (s.grant k t).sem k = ⟨(s.sem k).holders ++ [(t, s.time)], (s.sem k).waiters.filter (· != t)⟩ :=
  (State.sem_semSync _ _ _).trans (Sparse.get_set_same _ _ _ _)

theorem State.holds_grant (s : State) (k t : Nat) : (s.grant k t).holds k t = true := by
  rw [State.holds, State.sem_grant]
  simp

/-! ## SEMACQ and SEMREL -/

/-- A semaphore instruction's operands give it semaphore `k`, of number `n`. -/
def State.NamesSem (s : State) (t : Nat) (ga : Reg) (g : Bool) (base : Byte) (k : Nat) (n : W64) : Prop :=
  ∀ f : State → Nat → W64 → State, s.withSem t ga g base f = f s k n

/-- A semaphore instruction's operands give it number `n`, which is no semaphore's (R259). -/
def State.NamesNoSem (s : State) (t : Nat) (ga : Reg) (g : Bool) (base : Byte) (n : W64) : Prop :=
  ∀ f : State → Nat → W64 → State, s.withSem t ga g base f = s.raise t .semNum n

section
variable {s : State} {t k : Nat} {gd ga : Reg} {g : Bool} {base : Byte} {n : W64}

theorem State.namesSem (hn : n = base.setWidth 64 + (s.thread t).gr ga) (hk : k = if g then 1536 + n.toNat else thClu t * 256 + n.toNat)
    (h : n.toNat < if g then 64 else 256) : s.NamesSem t ga g base k n := by
  subst hn hk
  exact fun _ => if_neg (Nat.not_le.mpr h)

theorem State.namesNoSem (hn : n = base.setWidth 64 + (s.thread t).gr ga) (h : (if g then 64 else 256) ≤ n.toNat) :
    s.NamesNoSem t ga g base n := by
  subst hn
  exact fun _ => if_pos h

/-- The supervisor thread has no semaphores of a cluster. -/
theorem not_sup_clusterSem (hsup : t = supTid → g = true) : ¬(thClass t = .sup ∧ !g) := by
  rintro ⟨hclass, hg⟩
  rw [hsup (thClass_sup_iff.mp hclass)] at hg
  exact Bool.false_ne_true hg

section
variable (hruns : Runs s t)
include hruns

theorem traps_semacq_ctxReq (hjob : thClass t ≠ .job) :
    Traps (.semacq t gd ga g 0 base) s t .ctxReq (wordSem 0 gd ga g false 0 base) :=
  traps_instr hruns rfl ((if_neg (not_not_intro rfl)).trans (if_pos hjob))

theorem exec_semacq (hjob : thClass t = .job) (h : s.NamesSem t ga g base k n) : exec (.semacq t gd ga g 0 base) s = .next
    (if s.semFree k ≠ 0 then (s.grant k t).retG t gd 0 else if s.cycle t k then s.raise t .semCycle n
      else ((s.nextPc t).joinSem k t).block t (.sem k gd) .wsem) :=
  (exec_instr (i := .semacq t gd ga g 0 base) hruns rfl).trans
    (congrArg _ ((if_neg (not_not_intro rfl)).trans ((if_neg (not_not_intro hjob)).trans (h _))))

theorem exec_semacqTry (hsup : t = supTid → g = true) (h : s.NamesSem t ga g base k n) : exec (.semacqTry t gd ga g 0 base) s = .next
    (if s.semFree k ≠ 0 then (s.grant k t).retG t gd 0 else s.retG t gd 1) :=
  (exec_instr (i := .semacqTry t gd ga g 0 base) hruns rfl).trans
    (congrArg _ ((if_neg (not_or_intro (not_not_intro rfl) (not_sup_clusterSem hsup))).trans (h _)))

theorem exec_semrel (hsup : t = supTid → g = true) (h : s.NamesSem t ga g base k n) : exec (.semrel t gd ga g false 0 base) s = .next
    (if s.holds k t then (s.retG t gd 0).release k t else s.raise t .semState n) :=
  (exec_instr (i := .semrel t gd ga g false 0 base) hruns rfl).trans
    (congrArg _ ((if_neg (not_or_intro Bool.false_ne_true (not_or_intro (not_not_intro rfl) (not_sup_clusterSem hsup)))).trans (h _)))

/-- What SEMACQ does with a job's wait for a semaphore that has no unit free. -/
theorem semacq_waits (hjob : thClass t = .job) (h : s.NamesSem t ga g base k n) (hnone : s.semFree k = 0) :
    (s.cycle t k = true → Traps (.semacq t gd ga g 0 base) s t .semCycle n) ∧
    (s.cycle t k = false → exec (.semacq t gd ga g 0 base) s = .next (((s.nextPc t).joinSem k t).block t (.sem k gd) .wsem)) := by
  have hexec := (exec_semacq (gd := gd) hruns hjob h).trans (congrArg _ (if_neg (not_not_intro hnone)))
  exact ⟨fun hcycle => traps_of (hexec.trans (congrArg _ (if_pos hcycle))),
    fun hcycle => hexec.trans (congrArg _ (if_neg (Bool.eq_false_iff.mp hcycle)))⟩

/-- A number out of range raises SEMNUM in each semaphore instruction that its thread may use. -/
theorem traps_semNum (hsup : t = supTid → g = true) (h : s.NamesNoSem t ga g base n) :
    (thClass t = .job → Traps (.semacq t gd ga g 0 base) s t .semNum n) ∧ Traps (.semacqTry t gd ga g 0 base) s t .semNum n ∧
    Traps (.semrel t gd ga g false 0 base) s t .semNum n := by
  refine ⟨fun hjob => traps_instr hruns rfl ?_, traps_instr hruns rfl ?_, traps_instr hruns rfl ?_⟩
  · exact (if_neg (not_not_intro rfl)).trans ((if_neg (not_not_intro hjob)).trans (h _))
  · exact (if_neg (not_or_intro (not_not_intro rfl) (not_sup_clusterSem hsup))).trans (h _)
  · exact (if_neg (not_or_intro Bool.false_ne_true (not_or_intro (not_not_intro rfl) (not_sup_clusterSem hsup)))).trans (h _)

end

end

end Sys2Proof.Machine
end

section
/-! The obligation on tickets and semaphores. -/

open Sys2Proof Sys2Proof.Machine

/-- Settles O11: a TWAIT by what the ticket is found to be, a semaphore instruction by the semaphore that its operands name. -/
theorem ticketsAndSemaphores : Obligations.TicketsAndSemaphores := by
  unfold Obligations.TicketsAndSemaphores
  constructor
  · rintro s t eta gd ga z h _ _ _ rfl rfl rfl
    refine ⟨fun hnot => ?notMine, fun hown hpos hgiven => ?issued,
      fun hz => ⟨traps_instr h rfl (if_pos hz), traps_instr h rfl (if_pos hz)⟩⟩
    case notMine => exact leaves_twait_both h (State.tktFind_notMine hnot) eta (by decide)
    case issued =>
      have hissued : s.Issued t ((s.thread t).gr ga) := ⟨hown, hpos, hgiven⟩
      refine ⟨fun hnone => leaves_twait_both h (hissued.tktFind_forgotten hnone) eta (by decide), fun k hk => ?_⟩
      have hfind := hissued.tktFind_kept hk
      have hpending := exec_twait_pending (gd := gd) h hfind eta
      exact ⟨leaves_twaitTry h hfind, leaves_twait h hfind eta,
        fun hst hmover hjob => leaves_holdAt (hpending hst hmover) hjob, fun hst hmover _ => hpending hst hmover⟩
  · rintro s t k gd ga g base n h hn hk hsup _ rfl
    refine ⟨fun hrange => ?named, fun hrange => traps_semNum h hsup (State.namesNoSem hn hrange), traps_semacq_ctxReq h⟩
    case named =>
      have hsem := State.namesSem hn hk hrange
      have htry := exec_semacqTry (gd := gd) h hsup hsem
      have hrel := exec_semrel (gd := gd) h hsup hsem
      have hwaits (hjob : thClass t = .job) := semacq_waits (gd := gd) h hjob hsem
      refine ⟨fun hfree => ⟨fun hjob => ?_, ?_, s.holds_grant k t, s.sem_grant k t⟩, fun hnone => ⟨?_, fun hjob => (hwaits hjob hnone).1,
        fun hjob => (hwaits hjob hnone).2⟩, fun hheld => ?_, fun hnot => ?_⟩
      · exact (exec_semacq h hjob hsem).trans (congrArg _ (if_pos hfree))
      · exact htry.trans (congrArg _ (if_pos hfree))
      · exact leaves_of (htry.trans (congrArg _ ((if_neg (not_not_intro hnone)).trans (s.retG_eq t gd 1))))
      · exact hrel.trans (congrArg _ (if_pos hheld))
      · exact traps_of (hrel.trans (congrArg _ (if_neg (Bool.eq_false_iff.mp hnot))))

end

section
/-! The issue of a tile operation: what its instruction raises, and what its acceptance leaves (R294 to R299, R315, R319). -/

namespace Sys2Proof.Machine

open Sys2Proof

/-! ## Acceptance (R297, R315) -/

/-- An accepted op is last in the order of acceptance, its thread goes on with the ticket, and at most the Pepper engines' queues change
with them. -/
theorem State.accept_eq (s : State) (o : Op) : ∃ (p : Op) (pps : Sparse PpX), s.accept o =
      State.nextPc (State.setThread { (s.newTkt o.th).2 with ops := s.ops ++ [p], opCount := s.opCount + 1, pps := pps } o.th
        { (s.newTkt o.th).2.thread o.th with lastTkt := ticket o.th (nextSerial (s.thread o.th).serial) }) o.th ∧
    p = { o with serial := nextSerial (s.thread o.th).serial, unit := p.unit, np := p.np, flags := p.flags, dst := p.dst, srcs := p.srcs } := by
  unfold State.accept
  dsimp only
  split
  · exact ⟨_, _, rfl, rfl⟩
  · exact ⟨_, _, rfl, rfl⟩

@[simp] theorem State.nextPc_opCount (s : State) (t : Nat) : (s.nextPc t).opCount = s.opCount := by rw [State.nextPc_frame]

section
variable (s : State) (o : Op)

theorem State.accept_opCount : (s.accept o).opCount = s.opCount + 1 := by
  obtain ⟨p, pps, h, hp⟩ := s.accept_eq o
  rw [h, State.nextPc_opCount, State.setThread_opCount]

theorem State.accept_ops : ∃ p : Op, (s.accept o).ops = s.ops ++ [p] ∧
    p = { o with serial := nextSerial (s.thread o.th).serial, unit := p.unit, np := p.np, flags := p.flags, dst := p.dst, srcs := p.srcs } := by
  obtain ⟨p, pps, h, hp⟩ := s.accept_eq o
  exact ⟨p, by rw [h, State.nextPc_ops, State.setThread_ops], hp⟩

theorem State.thread_accept_same : (s.accept o).thread o.th = (s.thread o.th).ticketed o.th 0 := by
  obtain ⟨p, pps, h, hp⟩ := s.accept_eq o
  rw [h, State.thread_nextPc_same, State.thread_setThread_same, State.newTkt, State.thread_setThread_same]
  rfl

theorem State.thread_accept_other {k : Nat} (hk : k ≠ o.th) : (s.accept o).thread k = s.thread k := by
  obtain ⟨p, pps, h, hp⟩ := s.accept_eq o
  rw [h, State.thread_nextPc_other _ _ hk, State.thread_setThread_other _ _ hk]
  exact State.thread_setThread_other _ _ hk

end

/-! ## The cases of an issue -/

section
variable {s u : State} {t cls opc d : Nat} {ti : TiFields} {pb : List Byte} {a : W64}

theorem State.ti_illegal (h : t = supTid ∨ unusedZero cls opc ti = false) :
    s.ti t cls opc ti = s.raise t .illegal (BitVec.ofNat 64 (tiWord cls opc ti)) :=
  if_pos (h.imp thClass_sup_iff.mpr fun hunused => by rw [hunused]; rfl)

/-- The value of a refused issue: the word and the operand's number (R319). -/
theorem tiEval_eq (w n : Nat) : tiEval w n = BitVec.ofNat 64 w * 256 + BitVec.ofNat 64 n := by
  rw [tiEval, BitVec.ofNat_add, BitVec.ofNat_mul]; rfl

section
variable (hsup : t ≠ supTid) (hunused : unusedZero cls opc ti = true) (hroom : (s.flying t).length < 32) (ha : a = (s.thread t).gr ti.pb)
include hsup hunused hroom ha

theorem State.ti_unaligned (hal : a.toNat % 64 ≠ 0) : s.ti t cls opc ti = s.raise t .align a := by
  subst ha
  unfold State.ti
  simp [thClass_sup_iff, hsup, hunused, hroom.not_ge, hal]

variable (hal : a.toNat % 64 = 0)
include hal

theorem State.ti_outside (haddr : s.pbAddr t a.toNat = none) :
    s.ti t cls opc ti = s.raise t .pbArg (BitVec.ofNat 64 (tiWord cls opc ti) * 256 + 3) := by
  have hval := tiEval_eq (tiWord cls opc ti) 3
  subst ha
  unfold State.ti
  simp [thClass_sup_iff, hsup, hunused, hroom.not_ge, hal, haddr, hval]

variable (haddr : s.pbAddr t a.toNat = some d)
include haddr

theorem State.ti_unreadable (hread : s.readMem (s.thPart t) d 64 ti.flt = ⟨u, pb, false⟩) : s.ti t cls opc ti = u.raise t .dataErr a := by
  subst ha
  unfold State.ti
  simp [thClass_sup_iff, hsup, hunused, hroom.not_ge, hal, haddr, hread]

theorem State.ti_read (hread : s.readMem (s.thPart t) d 64 ti.flt = ⟨u, pb, true⟩) : s.ti t cls opc ti = u.tiIssue t cls opc ti pb := by
  subst ha
  unfold State.ti
  simp [thClass_sup_iff, hsup, hunused, hroom.not_ge, hal, haddr, hread]

end

section
variable {o : Op} (ho : o = s.mkOp t cls opc ti pb)
include ho

theorem State.tiIssue_refused {e : Exc} {n : Nat} (h : (s.checks o).find? (fun k => !k.1) = some (false, e, n)) :
    s.tiIssue t cls opc ti pb = s.raise t e (BitVec.ofNat 64 (tiWord cls opc ti) * 256 + BitVec.ofNat 64 n) := by
  rw [State.tiIssue, ← ho, h, ← tiEval_eq]

theorem State.tiIssue_accepted (hpass : ∀ k ∈ s.checks o, k.1 = true) (hroom : s.ppFull o = false) :
    s.tiIssue t cls opc ti pb = ((s.accept o).sqAccepted s.opCount).startOps := by
  have hnone : (s.checks o).find? (fun k => !k.1) = none := List.find?_eq_none.mpr fun k hk => by rw [hpass k hk]; decide
  rw [State.tiIssue, ← ho, hnone, ho]
  exact if_neg (Bool.eq_false_iff.mp (ho ▸ hroom))

end

end

end Sys2Proof.Machine
end

section
/-! The obligation on the issue of tile operations. -/

open Sys2Proof Sys2Proof.Machine

/-- Settles O35: every tile-issue command is one issue of its class and operation, which ends at the first check that fails or is accepted. -/
theorem tileIssue : Obligations.TileIssue := by
  unfold Obligations.TileIssue
  rintro s t ti h a ha q hq _ cls opc _ rfl hcls hopc rfl
  have hcmd : exec q.1 s = tileCmd cls opc t ti s := by
    subst hcls hopc
    clear ha
    revert q
    simp only [List.forall_mem_cons, List.not_mem_nil, false_implies, implies_true, and_true]
    and_intros
    all_goals rfl
  have hexec : exec q.1 s = .next (s.ti t cls opc ti) := exec_instr h hcmd
  refine ⟨fun hbad => traps_of (hexec.trans (congrArg _ (State.ti_illegal hbad))), fun hsup hunused hroom => ⟨fun hal => ?_,
    fun hal haddr => ?_, fun d u pb hal haddr => ⟨fun hread => ?_, ?_⟩⟩⟩
  · exact traps_of (hexec.trans (congrArg _ (State.ti_unaligned hsup hunused hroom ha hal)))
  · exact traps_of (hexec.trans (congrArg _ (State.ti_outside hsup hunused hroom ha hal haddr)))
  · exact hexec.trans (congrArg _ (State.ti_unreadable hsup hunused hroom ha hal haddr hread))
  · intro hread o ho
    rw [State.ti_read hsup hunused hroom ha hal haddr hread] at hexec
    refine ⟨fun e n hfirst => hexec.trans (congrArg _ (State.tiIssue_refused ho hfirst)), fun hpass hqueue => ?_⟩
    have hth : o.th = t := by rw [ho]; rfl
    have hthread : (u.accept o).thread t = (u.thread t).ticketed t 0 := by rw [← hth]; exact u.thread_accept_same o
    obtain ⟨p, hops, hp⟩ := u.accept_ops o
    refine ⟨u.accept o, hexec.trans (congrArg _ (State.tiIssue_accepted ho hpass hqueue)), u.accept_opCount o,
      fun k hk => u.thread_accept_other o (hth ▸ hk), ?_, ?_, ?_⟩
    · rw [hthread]; rfl
    · rw [hthread]; rfl
    · rintro n rfl
      rw [hthread]
      refine ⟨Thread.ticketed_serial _ _ _, rfl, Thread.ticketed_tkt _ _ _, p, hops, ?_⟩
      rw [hp, ho]
      exact ⟨rfl, rfl, rfl, rfl, rfl, rfl, rfl, rfl⟩

end

section
/-! The pools of pages and table slots: when an allocation finds nothing, what a release meets, and what the write of a configuration
leaves of the pool (R445 to R449, R486). -/

namespace Sys2Proof.Machine

open Sys2Proof

/-! ## Allocation (R447) -/

/-- A pool that is enabled and has no safe object counts a failure. -/
theorem State.alloc_exhausted {s : State} {p q : Nat} (hen : s.rb (poolCfg p q) 31 = true)
    (h : s.pool (poolKey p q) = [] ∨ ∃ i rest, s.pool (poolKey p q) = i :: rest ∧ s.safeEpoch p ≤ s.recGet p q i 8 8) :
    s.alloc p q = (none, s.sat (poolStat p q) 39 24 1) := by
  rw [State.alloc, hen]
  obtain hempty | ⟨i, rest, hhead, hheld⟩ := h
  · rw [hempty]; rfl
  · rw [hhead]; exact if_neg (Nat.not_lt.mpr hheld)

/-- A pool that is not enabled gives nothing, and counts no failure (log entry 53). -/
theorem State.alloc_disabled {s : State} {p q : Nat} (hen : s.rb (poolCfg p q) 31 = false) : s.alloc p q = (none, s) := by
  rw [State.alloc, hen]
  rfl

theorem State.allocReg_none {s w : State} {p q : Nat} (view : Nat) (h : s.alloc p q = (none, w)) : s.allocReg view p q = (0, w) := by
  rw [State.allocReg, h]

/-- The state as the read of a register has answered r. -/
def State.readOut (w : State) (r : W64) : State := { w with latch := r, lastRd := r }

/-- Allocation by either command is a read of the pool's register. -/
theorem exec_allocate {s : State} {src : Src} {p q : Nat} {al : Instr} {ai : RegId} {aoff : Nat} (hp : 1 ≤ p) (hp4 : p ≤ 4)
    (hq : q ≤ 9) (hal : (al, ai, aoff) = if q = 9 then (.tableAlloc src p, .awPartTalloc, Addr.awPartTalloc p)
      else (.poolAlloc src p q, .awPartPoolAlloc, Addr.awPartPoolAlloc p q))
    (h : TakesRead s src ai p aoff) :
    exec al s = .next ((s.allocReg (srcAddrs src) p q).2.readOut (s.allocReg (srcAddrs src) p q).1) := by
  have ⟨_, _, _, _, hmay⟩ := h
  by_cases hq9 : q = 9
  · rw [if_pos hq9] at hal
    obtain ⟨rfl, rfl, rfl⟩ := hal
    subst hq9
    have hexec : exec (.tableAlloc src p) s = busRead src (decide (1 ≤ p ∧ p ≤ 4)) (Addr.awPartTalloc p) s := rfl
    rw [hexec, busRead_takes (decide_eq_true ⟨hp, hp4⟩) h, State.regRead_talloc hp hp4 hmay]
    rfl
  · rw [if_neg hq9] at hal
    obtain ⟨rfl, rfl, rfl⟩ := hal
    have hlt : q < 9 := Nat.lt_of_le_of_ne hq hq9
    have hexec : exec (.poolAlloc src p q) s = busRead src (decide (1 ≤ p ∧ p ≤ 4 ∧ q < 9)) (Addr.awPartPoolAlloc p q) s := rfl
    rw [hexec, busRead_takes (decide_eq_true ⟨hp, hp4, hlt⟩) h, State.regRead_poolAlloc hp hp4 hlt hmay]
    rfl

/-! ## Release (R448, R449) -/

section
variable {s : State} {p q i : Nat} {a : Option Nat}

theorem State.releaseObj_outside (h : a.bind (s.objOf p q) = none) : s.releaseObj p q a = s.wb (poolStat p q) 0 true := by
  rw [State.releaseObj, h]

theorem State.releaseObj_unheld (hobj : a.bind (s.objOf p q) = some i) (hcount : s.recGet p q i 0 2 = 0) :
    s.releaseObj p q a = s.wb (poolStat p q) 0 true := by
  rw [State.releaseObj, hobj]
  exact if_pos hcount

theorem State.releaseObj_last (hobj : a.bind (s.objOf p q) = some i) (hcount : s.recGet p q i 0 2 = 1) :
    s.releaseObj p q a = (s.recPut p q i 0 2 0).retireObj p q i := by
  rw [State.releaseObj, hobj]
  simp [hcount]

end

/-- Release by either command is a write of the pool's register. -/
theorem exec_release {s : State} {src : Src} {p q : Nat} {v : W64} {fr : Instr} {fi : RegId} {foff : Nat} (hp : 1 ≤ p) (hp4 : p ≤ 4)
    (hq : q ≤ 9) (hfr : (fr, fi, foff) = if q = 9 then (.tableFree src p v, .awPartTfree, Addr.awPartTfree p)
      else (.poolFree src p q v, .awPartPoolFree, Addr.awPartPoolFree p q))
    (h : TakesWrite s src fi p foff) :
    exec fr s = .next (s.releaseObj p q (s.devAddr (srcAddrs src) .read (fld v 47 0) 1)) := by
  by_cases hq9 : q = 9
  · rw [if_pos hq9] at hfr
    obtain ⟨rfl, rfl, rfl⟩ := hfr
    subst hq9
    have hloc := locate_awPartTfree p (Nat.lt_succ_of_le hp4) hp
    have hwrite : exec (.tableFree src p v) s = .next (s.freeReg (srcAddrs src) p 9 (fld (v &&& byteMask 0xFF) 47 0)) :=
      busWrite_takes v (decide_eq_true ⟨hp, hp4⟩) h hloc rfl rfl
    rw [hwrite, and_byteMask_full, State.freeReg]
  · rw [if_neg hq9] at hfr
    obtain ⟨rfl, rfl, rfl⟩ := hfr
    have hlt : q < 9 := Nat.lt_of_le_of_ne hq hq9
    have hloc := locate_awPartPoolFree hp (Nat.lt_succ_of_le hp4) q hlt
    have hwrite : exec (.poolFree src p q v) s = .next (s.freeReg (srcAddrs src) p q (fld (v &&& byteMask 0xFF) 47 0)) :=
      busWrite_takes v (decide_eq_true ⟨hp, hp4, hlt⟩) h hloc rfl rfl
    rw [hwrite, and_byteMask_full, State.freeReg]

/-! ## Configuration (R486) -/

theorem locate_awPartTpoolCfg : ∀ p, p < 5 → 1 ≤ p → locate (Addr.awPartTpoolCfg p) =
    some (⟨.awPartTpoolCfg, 0x900030, [(0x800, 4, 1)], 0x0, 0x80FFFFFF, 0x0⟩, [p]) := by decide

/-- The configuration of either kind of pool is one write of its register. -/
theorem exec_poolConfigWrite_takes {s : State} {src : Src} {p q : Nat} (v : W64) (hp : 1 ≤ p) (hp4 : p ≤ 4) (hq : q ≤ 9)
    (h : TakesWrite s src (if q = 9 then .awPartTpoolCfg else .awPartPoolCfg) p (poolCfg p q)) :
    exec (.poolConfigWrite src p q v) s = .next (s.poolCfgWrite p q (s.stored (poolCfg p q) v)) := by
  have hexec : exec (.poolConfigWrite src p q v) s = busWrite src (decide (1 ≤ p ∧ p ≤ 4 ∧ q ≤ 9)) (poolCfg p q) v s := rfl
  have hok : decide (1 ≤ p ∧ p ≤ 4 ∧ q ≤ 9) = true := decide_eq_true ⟨hp, hp4, hq⟩
  rw [hexec]
  by_cases hq9 : q = 9
  · subst hq9
    have hloc : locate (poolCfg p 9) = _ := locate_awPartTpoolCfg p (Nat.lt_succ_of_le hp4) hp
    rw [State.stored_of_locate hloc]
    exact busWrite_takes v hok h hloc rfl rfl
  · have hcfg : poolCfg p q = Addr.awPartPoolCfg p q := if_neg hq9
    have hloc := locate_awPartPoolCfg hp (Nat.lt_succ_of_le hp4) q (Nat.lt_of_le_of_ne hq hq9)
    rw [if_neg hq9] at h
    rw [← hcfg] at hloc
    rw [State.stored_of_locate hloc]
    exact busWrite_takes v hok h hloc rfl rfl

theorem poolCfg_ne_poolStat (p q : Nat) : poolCfg p q ≠ poolStat p q := by
  unfold poolCfg poolStat Addr.awPartTpoolCfg Addr.awPartTstat Addr.awPartPoolCfg Addr.awPartPoolStat
  split <;> omega

/-- The records stay where they are when the configuration is written. -/
theorem State.poolRec_wr_poolCfg (s : State) (p q : Nat) (new : W64) : (s.wr (poolCfg p q) new).poolRec p q = s.poolRec p q := by
  have htable : Addr.awPartTpoolRec p ≠ Addr.awPartTpoolCfg p := by unfold Addr.awPartTpoolRec Addr.awPartTpoolCfg; omega
  have hpage : Addr.awPartPoolRec p q ≠ Addr.awPartPoolCfg p q := by unfold Addr.awPartPoolRec Addr.awPartPoolCfg; omega
  unfold State.poolRec poolCfg State.rf
  split
  · rw [State.rd_wr_other _ _ htable]
  · rw [State.rd_wr_other _ _ hpage]

theorem State.poolCfgWrite_frame (s : State) (p q : Nat) (new : W64) {u : State} (hu : u = s.poolCfgWrite p q new) :
    u = { s with regs := u.regs, mem := u.mem, pools := u.pools } := by
  rw [hu]; rfl

theorem State.onlyRegs_poolCfgWrite (s : State) (p q : Nat) (new : W64) :
    s.onlyRegs (s.poolCfgWrite p q new) [poolCfg p q, poolStat p q] := fun off hoff => by
  obtain ⟨hcfg, hstat⟩ : off ≠ poolCfg p q ∧ off ≠ poolStat p q := by simpa using hoff
  rw [State.poolCfgWrite_eq, State.rd_wf_other _ _ _ _ hstat, State.rd_putPool _ _ _ _ hstat]
  exact State.rd_wr_other _ _ hcfg

/-- No object is held out of use by a new configuration (R448). -/
theorem State.ncorrupt_poolCfgWrite (s : State) (p q : Nat) (new : W64) : (s.poolCfgWrite p q new).rf (poolStat p q) 23 8 = 0 := by
  rw [State.rf, State.poolCfgWrite_eq, State.rd_wf_same, fld_setFld_same _ _ _ _ (by decide) (by decide), Nat.zero_mod]

theorem State.nfree_poolCfgWrite (s : State) (p q : Nat) (new : W64) :
    (s.poolCfgWrite p q new).rf (poolStat p q) 63 40 = fld new 23 0 := by
  rw [State.rf, State.poolCfgWrite_eq, State.rd_wf_same, fld_setFld_other _ 23 8 _ _ _ (by decide) (by decide) (by decide),
    State.putPool, State.rd_wf_same, fld_setFld_same _ _ _ _ (by decide) (by decide), List.length_range]
  exact Nat.mod_eq_of_lt (fld_lt new 23 0)

theorem State.pool_poolCfgWrite_other (s : State) {p q k : Nat} (new : W64) (h : k ≠ poolKey p q) :
    (s.poolCfgWrite p q new).pool k = s.pool k :=
  Sparse.get_set_other _ _ _ h

theorem State.mem_poolCfgWrite (s : State) (p q : Nat) (new : W64) : (s.poolCfgWrite p q new).mem = Sparse.keep
    (fun k => !(decide (s.poolRec p q ≤ k) && decide (k < s.poolRec p q + 16 * fld new 23 0))) s.mem := by
  rw [← State.poolRec_wr_poolCfg s p q new]
  rfl

/-- The records of the pool read zero, and every other byte of memory stays. -/
theorem State.byte_poolCfgWrite (s : State) (p q : Nat) (new : W64) (a : Nat) : (s.poolCfgWrite p q new).byte a =
    if s.poolRec p q ≤ a ∧ a < s.poolRec p q + 16 * fld new 23 0 then 0 else s.byte a := by
  rw [State.byte, State.mem_poolCfgWrite, Sparse.get_keep]
  by_cases h : s.poolRec p q ≤ a ∧ a < s.poolRec p q + 16 * fld new 23 0
  · rw [if_pos h, if_neg (by simpa using h)]
  · rw [if_neg h, if_pos (by simpa [or_iff_not_imp_left] using h), State.byte]

end Sys2Proof.Machine
end

section
/-! The obligation on allocation and release. -/

open Sys2Proof Sys2Proof.Machine

/-- Settles O37: an allocation by the pool's free list, a release by the count of the object that the address names, a configuration
write by what it leaves of registers, lists and records. -/
theorem pools : Obligations.Pools := by
  unfold Obligations.Pools
  rintro s src p q v hp hp4 hq al fr cf ai fi ci aoff foff hal hfr hcf
  obtain ⟨rfl, rfl⟩ := hcf
  refine ⟨fun hread => ?_, ?_, ?_⟩
  · have hexec := exec_allocate hp hp4 hq hal hread
    refine ⟨?_, fun hen hnone => ?_, fun hen => ?_⟩
    · rintro i rest w r hen hhead hsafe rfl rfl
      rw [hexec, State.allocReg_head _ hen hhead hsafe]
      rfl
    · rw [hexec, State.allocReg_none _ (State.alloc_exhausted hen hnone)]
      rfl
    · rw [hexec, State.allocReg_none _ (State.alloc_disabled hen)]
      rfl
  · rintro hwrite o rfl
    have hexec := exec_release hp hp4 hq hfr hwrite
    refine ⟨fun hout => hexec.trans (congrArg _ (State.releaseObj_outside hout)), ?_⟩
    rintro i n hobj rfl
    exact ⟨fun h => hexec.trans (congrArg _ (State.releaseObj_unheld hobj h)),
      fun h => hexec.trans (congrArg _ (State.releaseObj_last hobj h)),
      fun h => hexec.trans (congrArg _ (State.releaseObj_held hobj h))⟩
  · rintro hwrite n lo rfl rfl
    exact ⟨_, exec_poolConfigWrite_takes v hp hp4 hq hwrite, s.poolCfgWrite_frame p q _ rfl,
      State.rd_poolCfgWrite _ _ (poolCfg_ne_poolStat p q), s.pool_poolCfgWrite p q _, s.nfree_poolCfgWrite p q _,
      s.ncorrupt_poolCfgWrite p q _, s.onlyRegs_poolCfgWrite p q _, fun k hk => s.pool_poolCfgWrite_other _ hk,
      s.byte_poolCfgWrite p q _⟩

end

section
/-! Sequence streams: the write of a configuration or of a live address, and the ends of swaps (R489, R491 to R493, R506 to R508). -/

namespace Sys2Proof.Machine

open Sys2Proof

/-! ## The configuration of a stream (R489, R492) -/

theorem exec_sqStreamConfigWrite {s : State} {src : Src} {c k : Nat} (v : W64) (hc : c < 6) (hk : k < 256)
    (h : TakesWrite s src .sqStrCfg c (Addr.sqStrCfg c k)) :
    exec (.sqStreamConfigWrite src c k v) s = .next (s.sqCfgWrite c k (s.stored (Addr.sqStrCfg c k) v)) := by
  have hloc := locate_sqStrCfg hc hk
  rw [State.stored_of_locate hloc]
  exact busWrite_takes v (decide_eq_true ⟨hc, hk⟩) h hloc rfl rfl

/-- A stream that is being swapped, or that an op names, refuses its configuration. -/
theorem State.sqCfgWrite_busy {s : State} {c k : Nat} (new : W64)
    (h : s.sqRes c k = 3 ∨ s.sqRes c k = 4 ∨ s.ops.any (fun o => !o.done && o.names c k) = true) :
    s.sqCfgWrite c k new = s.wb (Addr.sqStrStat c k) 40 true := if_pos h

/-- The generation that a configuration write gives a stream: from 1, never 0 (R489). -/
def State.nextSqGen (s : State) (c k : Nat) : Nat :=
  if s.rf (Addr.sqStrStat c k) 23 8 = 65535 then 1 else s.rf (Addr.sqStrStat c k) 23 8 + 1

theorem State.nextSqGen_lt (s : State) (c k : Nat) : s.nextSqGen c k < 65536 := by
  have hlt : s.rf (Addr.sqStrStat c k) 23 8 < 65536 := fld_lt _ 23 8
  unfold State.nextSqGen
  split <;> omega

theorem State.sqCfgWrite_idle {s : State} {c k : Nat} (new : W64) (hin : s.sqRes c k ≠ 3) (hout : s.sqRes c k ≠ 4)
    (hops : s.ops.any (fun o => !o.done && o.names c k) = false) :
    s.sqCfgWrite c k new = (s.sqWritten c k (s.nextSqGen c k) new).sqLiveSync c := by
  have hlt : s.rf (Addr.sqStrStat c k) 23 8 < 65536 := fld_lt _ 23 8
  have hgen : (if s.rf (Addr.sqStrStat c k) 23 8 + 1 ≥ 65536 then 1 else s.rf (Addr.sqStrStat c k) 23 8 + 1) = s.nextSqGen c k :=
    if_congr (by omega) rfl rfl
  have hfree : ¬(s.sqRes c k = 3 ∨ s.sqRes c k = 4 ∨ s.ops.any (fun o => !o.done && o.names c k) = true) := by
    simp only [hin, hout, hops, Bool.false_eq_true, or_self, not_false_eq_true]
  rw [← hgen]
  exact if_neg hfree

theorem sqStrCfg_ne_sqStrStat (c k : Nat) : Addr.sqStrCfg c k ≠ Addr.sqStrStat c k := by
  unfold Addr.sqStrCfg Addr.sqStrStat
  omega

theorem sqStrCfg_ne_sqStat (c k : Nat) : Addr.sqStrCfg c k ≠ Addr.sqStat c := by
  unfold Addr.sqStrCfg Addr.sqStat
  omega

theorem sqStrStat_ne_sqStat (c k : Nat) : Addr.sqStrStat c k ≠ Addr.sqStat c := by
  unfold Addr.sqStrStat Addr.sqStat
  omega

/-! ## The status of a stream whose configuration is written -/

theorem State.slot_sqWritten (s : State) {c k : Nat} (g : Nat) (new : W64) (hk : k < 256) :
    (s.sqWritten c k g new).rf (Addr.sqStrStat c k) 7 0 = k := by
  rw [State.rf, State.sqWritten, State.rd_wf_same, fld_setFld_same _ _ _ _ (by decide) (by decide)]
  exact Nat.mod_eq_of_lt hk

theorem State.gen_sqWritten (s : State) {c k g : Nat} (new : W64) (hg : g < 65536) :
    (s.sqWritten c k g new).rf (Addr.sqStrStat c k) 23 8 = g := by
  rw [State.rf, State.sqWritten, State.rd_wf_same, fld_setFld_other _ 7 0 _ _ _ (by decide) (by decide) (by decide),
    State.rd_wf_same, fld_setFld_same _ _ _ _ (by decide) (by decide)]
  exact Nat.mod_eq_of_lt hg

theorem State.curImg_sqWritten (s : State) (c k g : Nat) (new : W64) : (s.sqWritten c k g new).curImg c k = 0 := by
  rw [State.curImg, State.rb, State.sqWritten, State.rd_wf_same, State.rd_wf_same, State.rd_wb_same]
  simp

theorem State.rd_sqWritten_other (s : State) {c k off : Nat} (g : Nat) (new : W64) (hcfg : off ≠ Addr.sqStrCfg c k)
    (hstat : off ≠ Addr.sqStrStat c k) : (s.sqWritten c k g new).rd off = s.rd off := by
  rw [State.sqWritten, State.rd_wf_other _ _ _ _ hstat, State.rd_wf_other _ _ _ _ hstat, State.rd_wb_other _ _ _ hstat, State.setSqRes,
    State.rd_wf_other _ _ _ _ hstat, State.rd_wr_other _ _ hcfg]

/-! ## The count of the enabled streams -/

theorem State.rd_sqLiveSync (s : State) {c off : Nat} (h : off ≠ Addr.sqStat c) : (s.sqLiveSync c).rd off = s.rd off :=
  State.rd_wf_other _ _ _ _ h

theorem State.nlive_sqLiveSync (s : State) (c : Nat) : (s.sqLiveSync c).rf (Addr.sqStat c) 24 16 =
    ((List.range 256).filter fun j => (s.sqLiveSync c).rb (Addr.sqStrCfg c j) 31).length := by
  have hen : ∀ j, (s.sqLiveSync c).rb (Addr.sqStrCfg c j) 31 = s.rb (Addr.sqStrCfg c j) 31 := fun j =>
    congrArg (bit · 31) (s.rd_sqLiveSync (sqStrCfg_ne_sqStat c j))
  have hle : ((List.range 256).filter fun j => s.rb (Addr.sqStrCfg c j) 31).length ≤ 256 :=
    (List.length_filter_le _ _).trans_eq List.length_range
  simp only [hen]
  rw [State.rf, State.sqLiveSync, State.rd_wf_same, fld_setFld_same _ _ _ _ (by decide) (by decide)]
  exact Nat.mod_eq_of_lt (Nat.lt_of_le_of_lt hle (by decide))

/-- A stream after a configuration write that its state admits, with the enabled ones counted. -/
def State.sqConfigured (s : State) (c k : Nat) (new : W64) : State := (s.sqWritten c k (s.nextSqGen c k) new).sqLiveSync c

theorem State.regsOnly_sqConfigured (s : State) (c k : Nat) (new : W64) : s.RegsOnly (s.sqConfigured c k new) :=
  (s.regsOnly_wr _ _).trans <| (State.regsOnly_wf _ _ _ _ _).trans <| (State.regsOnly_wb _ _ _ _).trans <|
    (State.regsOnly_wf _ _ _ _ _).trans <| (State.regsOnly_wf _ _ _ _ _).trans (State.regsOnly_wf _ _ _ _ _)

theorem State.rd_cfg_sqConfigured (s : State) (c k : Nat) (new : W64) : (s.sqConfigured c k new).rd (Addr.sqStrCfg c k) = new :=
  (State.rd_sqLiveSync _ (sqStrCfg_ne_sqStat c k)).trans (s.rd_sqWritten _ new (sqStrCfg_ne_sqStrStat c k))

/-- The count leaves the stream's status as it was written. -/
theorem State.rd_stat_sqConfigured (s : State) (c k : Nat) (new : W64) :
    (s.sqConfigured c k new).rd (Addr.sqStrStat c k) = (s.sqWritten c k (s.nextSqGen c k) new).rd (Addr.sqStrStat c k) :=
  State.rd_sqLiveSync _ (sqStrStat_ne_sqStat c k)

theorem State.onlyRegs_sqConfigured (s : State) (c k : Nat) (new : W64) :
    s.onlyRegs (s.sqConfigured c k new) [Addr.sqStrCfg c k, Addr.sqStrStat c k, Addr.sqStat c] := fun off hoff => by
  obtain ⟨hcfg, hstat, hlive⟩ : off ≠ Addr.sqStrCfg c k ∧ off ≠ Addr.sqStrStat c k ∧ off ≠ Addr.sqStat c := by simpa using hoff
  exact (State.rd_sqLiveSync _ hlive).trans (s.rd_sqWritten_other _ new hcfg hstat)

/-! ## The live address of a stream (R493) -/

theorem exec_sqLiveWrite {s : State} {src : Src} {c k : Nat} (v : W64) (hc : c < 6) (hk : k < 256)
    (h : TakesWrite s src .sqStrLive c (Addr.sqStrLive c k)) :
    exec (.sqLiveWrite src c k v) s = .next (s.sqLiveWrite c k (s.stored (Addr.sqStrLive c k) v)) := by
  have hloc := locate_sqStrLive hc hk
  rw [State.stored_of_locate hloc]
  exact busWrite_takes v (decide_eq_true ⟨hc, hk⟩) h hloc rfl rfl

/-- The live address moves while no image stands at it: the stream is off, ZERO, OUT or FAILED. -/
theorem State.sqLiveWrite_eq (s : State) (c k : Nat) (new : W64) : s.sqLiveWrite c k new =
    if s.rb (Addr.sqStrCfg c k) 31 = false ∨ s.sqRes c k ∈ [0, 2, 5] then s.wr (Addr.sqStrLive c k) new
    else s.wb (Addr.sqStrStat c k) 40 true := by
  refine if_congr ?_ rfl rfl
  simp only [Bool.or_eq_true, Bool.not_eq_true', beq_iff_eq, List.mem_cons, List.not_mem_nil, or_false, or_assoc]

/-! ## The ends of swaps (R506 to R508) -/

theorem State.StoreOnly.ops {s t : State} (h : s.StoreOnly t) : t.ops = s.ops := by
  unfold State.StoreOnly at h
  rw [h]

/-- Neither a stream's residency nor a record changes which op names a slot. -/
theorem State.firstNaming_record_setSqRes (s : State) (c k x : Nat) (r : Report) :
    ((s.setSqRes c k x).record r).firstNaming c k = s.firstNaming c k :=
  congrArg (List.find? _) ((s.regsOnly_wf _ _ _ _).storeOnly.record r).ops

theorem exec_swapInComplete {s : State} {c k : Nat} (fail : Bool) (hc : c < 6) (hk : k < 256) (hcan : s.canSwap c = true) :
    exec (.swapInComplete c k fail) s = .next (s.swapInDone c k fail).startOps := by
  have hexec : exec (.swapInComplete c k fail) s = execSwapInComplete c k fail s := rfl
  rw [hexec, execSwapInComplete, if_pos ⟨hc, hk⟩, if_pos hcan]

theorem exec_swapOutComplete {s : State} {c k : Nat} (hc : c < 6) (hk : k < 256) (hcan : s.canSwap c = true) :
    exec (.swapOutComplete c k) s = .next (s.swapOutDone c k).startOps := by
  have hexec : exec (.swapOutComplete c k) s = execSwapOutComplete c k s := rfl
  rw [hexec, execSwapOutComplete, if_pos ⟨hc, hk⟩, if_pos hcan]

theorem State.swapInDone_idle {s : State} {c k : Nat} (fail : Bool) (h : s.sqRes c k ≠ 3) : s.swapInDone c k fail = s := if_pos h

theorem State.swapOutDone_idle {s : State} {c k : Nat} (h : s.sqRes c k ≠ 4) : s.swapOutDone c k = s := if_pos h

/-- A swap-in that fails leaves the stream FAILED; where no op names it, none ends for it. -/
theorem State.swapInDone_fail {s y : State} {c k : Nat} {data : List Byte} {b : Bool} (hres : s.sqRes c k = 3)
    (hread : s.sqRead c (s.rf (Addr.sqStrBack c k) 47 0) (s.imgLen c k) = ⟨y, data, b⟩) (hnone : y.firstNaming c k = none) :
    s.swapInDone c k true = (y.setSqRes c k 5).record
      { report 4 .lost c (s.cluPart c) with addr := s.rf (Addr.sqStrBack c k) 47 0 } := by
  rw [State.swapInDone, if_neg (not_not_intro hres), hread]
  simp only [true_or, if_true, State.firstNaming_record_setSqRes, hnone]

/-- A swap-out whose image cannot be read leaves the stream RESIDENT; where no op names it, none ends for it. -/
theorem State.swapOutDone_unread {s y : State} {c k : Nat} {data : List Byte} (hres : s.sqRes c k = 4)
    (hread : s.sqRead c (s.imgAddr c k (s.curImg c k)) (s.imgLen c k) = ⟨y, data, false⟩) (hnone : y.firstNaming c k = none) :
    s.swapOutDone c k = (y.setSqRes c k 1).record
      { report 4 .lost c (s.cluPart c) with addr := s.imgAddr c k (s.curImg c k) } := by
  rw [State.swapOutDone, if_neg (not_not_intro hres), hread]
  simp only [Bool.false_eq_true, if_false, State.firstNaming_record_setSqRes, hnone]

end Sys2Proof.Machine
end

section
/-! The obligation on sequence streams. -/

open Sys2Proof Sys2Proof.Machine

/-- Settles O38: a configuration write by whether the stream is busy, a write of the live address by whether an image stands at it, the
end of a swap by the stream's residency and by whether its image could be read. -/
theorem sequenceStreams : Obligations.SequenceStreams := by
  unfold Obligations.SequenceStreams
  rintro s src c k v hc hk cf st rfl rfl
  refine ⟨fun hwrite => ?_, fun hwrite => ?_, fun hcan y data b => ?_⟩
  · have hexec := exec_sqStreamConfigWrite v hc hk hwrite
    refine ⟨fun hbusy => hexec.trans (congrArg _ (State.sqCfgWrite_busy _ hbusy)), fun hin hout hops => ?_⟩
    have hstat := s.rd_stat_sqConfigured c k (s.stored (Addr.sqStrCfg c k) v)
    exact ⟨s.sqConfigured c k _, hexec.trans (congrArg _ (State.sqCfgWrite_idle _ hin hout hops)), s.regsOnly_sqConfigured c k _,
      s.rd_cfg_sqConfigured c k _, (congrArg (fld · 34 32) hstat).trans (s.sqRes_sqWritten c k _ _),
      (congrArg (fld · 7 0) hstat).trans (s.slot_sqWritten _ _ hk),
      (congrArg (fld · 23 8) hstat).trans (s.gen_sqWritten _ (s.nextSqGen_lt c k)),
      (congrArg (fun w => (bit w 39).toNat) hstat).trans (s.curImg_sqWritten c k _ _), s.onlyRegs_sqConfigured c k _,
      State.nlive_sqLiveSync _ c⟩
  · have hexec := (exec_sqLiveWrite v hc hk hwrite).trans (congrArg _ (s.sqLiveWrite_eq c k _))
    exact ⟨fun hmoves => hexec.trans (congrArg _ (if_pos hmoves)),
      fun hen hres => hexec.trans (congrArg _ (if_neg (not_or.mpr ⟨by rw [hen]; decide, hres⟩)))⟩
  · have hin := fun fail => exec_swapInComplete fail hc hk hcan
    have hout := exec_swapOutComplete hc hk hcan
    refine ⟨exec_swapInComplete_read hc hk hcan, fun hres hread hnone => ?_, fun hres => ?_, ?_, fun hres => ?_⟩
    · rw [hin true, State.swapInDone_fail hres hread hnone]
    · rw [hin false, State.swapInDone_idle false hres]
    · rintro hres hread back rfl
      refine ⟨fun hok => ?_, fun hunread hnone => ?_⟩
      · subst hok
        exact exec_swapOutComplete_read hc hk hcan hres hread
      · subst hunread
        rw [hout, State.swapOutDone_unread hres hread hnone]
    · rw [hout, State.swapOutDone_idle hres]

end

section
/-! Reads and partial writes of on-chip lines: what a line that is invalid or another partition's answers, and how a write merges into it
(R547 to R550). -/

namespace Sys2Proof.Machine

open Sys2Proof

/-! ## What a record leaves of memory -/

theorem State.evPush_lines (s : State) (f type : Nat) (body : List Byte) : (s.evPush f type body).2.lines = s.lines := by
  unfold State.evPush
  dsimp only
  split
  · rfl
  · exact State.sat_lines ..

theorem State.supEvent_lines (s : State) : s.supEvent.lines = s.lines := by
  rw [State.supEvent_frame]

theorem State.newRec_lines (s : State) (r : Report) : (s.newRec r).lines = s.lines := by
  simp only [State.newRec]
  (repeat' split) <;> simp [State.supEvent_lines, State.evPush_lines]

theorem State.record_lines (s : State) (r : Report) : (s.record r).lines = s.lines := by
  unfold State.record
  dsimp only
  split
  · rfl
  · exact State.newRec_lines s r

theorem State.byte_of_mem {s t : State} (h : t.mem = s.mem) (k : Nat) : t.byte k = s.byte k :=
  congrArg (Sparse.get (fun _ => 0) · k) h

theorem State.line_of_lines {s t : State} (h : t.lines = s.lines) (k : Nat) : t.line k = s.line k :=
  congrArg (Sparse.get lineDefault · (k / 64)) h

/-! ## Lines that read as zero (R548, R549) -/

theorem State.readLine_invalid {s : State} {la : Nat} (p o n flt : Nat) (hchip : onChip la = true) (hin : groupOf la ∉ s.groupsOut)
    (hvalid : (s.line (s.rkey la)).valid = false) : s.readLine p la o n flt = ⟨s, zeros n, true⟩ := by
  unfold State.readLine
  simp [hchip, hin, hvalid]

/-- A valid, sound on-chip line answers by its tag. -/
theorem State.readLine_valid {s : State} {la : Nat} (p o n : Nat) (hchip : onChip la = true) (hin : groupOf la ∉ s.groupsOut)
    (hvalid : (s.line (s.rkey la)).valid = true) (hsound : (s.line (s.rkey la)).bad = false) : s.readLine p la o n 0 =
      if (s.line (s.rkey la)).tag ≠ 0 ∧ p ≠ 0 ∧ (s.line (s.rkey la)).tag ≠ p
      then ⟨(s.countOps 10 (groupOf la) 1).tagErr p la, zeros n, true⟩
      else ⟨s.countOps 10 (groupOf la) 1, (s.countOps 10 (groupOf la) 1).bytes (s.rkey la + o) n, true⟩ := by
  unfold State.readLine
  simp [hchip, hin, hvalid, hsound]

/-- A tag mismatch on chip is counted, then recorded for the line's SRAM group. -/
theorem State.tagErr_onChip {s : State} {la : Nat} (p : Nat) (hchip : onChip la = true) : s.tagErr p la =
    (s.sat Addr.memTagerr 31 0 1).record { report 10 .access (groupOf la) p with addr := la / 64 * 64 } := by
  unfold State.tagErr
  simp only [if_pos hchip]

theorem memTagerr_notMem_recordRegs {p : Nat} (hp : p ≤ 4) : Addr.memTagerr ∉ recordRegs p := by
  interval_cases p <;> decide

theorem State.tagerr_tagErr {s : State} {p la : Nat} (hchip : onChip la = true) (hp : p ≤ 4) :
    (s.tagErr p la).rf Addr.memTagerr 31 0 = min (s.rf Addr.memTagerr 31 0 + 1) (2 ^ 32 - 1) := by
  rw [State.tagErr_onChip p hchip, State.rf, State.rd_record _ _ (memTagerr_notMem_recordRegs hp), State.rd_sat_same]
  exact fld_satFld_same _ 1 (by decide) (by decide)

theorem State.tagErr_lines (s : State) (p la : Nat) : (s.tagErr p la).lines = s.lines := by
  unfold State.tagErr
  split <;> exact (State.record_lines _ _).trans (State.sat_lines ..)

/-! ## Partial writes (R547, R550) -/

/-- A write of part of a sound on-chip line merges into what the writer reads there: the line's bytes, or zeros where it is invalid or
another partition's. -/
theorem State.writeLine_partial {s : State} {la : Nat} (tag o : Nat) {bs : List Byte} (hchip : onChip la = true)
    (hin : groupOf la ∉ s.groupsOut) (hlen : bs.length < 64) (hsound : (s.line la).bad = false) :
    ∃ w : State, w.mem = s.mem ∧ s.writeLine tag la o bs =
      ((if (s.line la).valid = true ∧ ((s.line la).tag = 0 ∨ tag = 0 ∨ (s.line la).tag = tag) then w else w.setBytes la (zeros 64)).setBytes
        (la + o) bs).setLine la ⟨true, tag, 0, false, false⟩ := by
  have hpart : decide (bs.length = 64) = false := decide_eq_false hlen.ne
  unfold State.writeLine
  rw [s.rkey_onChip hchip]
  by_cases hvalid : (s.line la).valid = true
  · by_cases hown : (s.line la).tag = 0 ∨ tag = 0 ∨ (s.line la).tag = tag
    · refine ⟨s.countOps 10 (groupOf la) 1, State.countOps_mem .., ?_⟩
      have hforeign : ¬((¬(s.line la).tag = 0 ∧ ¬tag = 0) ∧ ¬(s.line la).tag = tag) := by tauto
      simp [hchip, hin, hvalid, hsound, hpart, hown, hforeign]
    · refine ⟨(s.countOps 10 (groupOf la) 1).tagErr tag la, (State.tagErr_mem ..).trans (State.countOps_mem ..), ?_⟩
      have hforeign : (¬(s.line la).tag = 0 ∧ ¬tag = 0) ∧ ¬(s.line la).tag = tag := by tauto
      simp [hchip, hin, hvalid, hsound, hpart, hforeign]
  · refine ⟨s, rfl, ?_⟩
    simp [hchip, hin, hvalid, hpart]

theorem State.byte_zeroed (s : State) (la j : Nat) :
    (s.setBytes la (zeros 64)).byte j = if la ≤ j ∧ j < la + 64 then 0 else s.byte j := by
  rw [State.byte_setBytes, zeros, List.length_replicate]
  split
  · exact List.getD_replicate _ (by omega)
  · rfl

end Sys2Proof.Machine
end

section
/-! The obligations on on-chip lines and on memory after reset. -/

open Sys2Proof Sys2Proof.Machine

/-- Settles O56: nothing is listed after reset, and a loss of power brings memory to its reset value. -/
theorem resetMemoryCanonical : Obligations.ResetMemoryCanonical := by
  unfold Obligations.ResetMemoryCanonical
  exact ⟨rfl, fun _ => rfl⟩

/-- Settles O18: an invalid line is answered before any check; a valid one by its tag. -/
theorem unreadableLines : Obligations.UnreadableLines := by
  unfold Obligations.UnreadableLines
  refine ⟨fun s p la o n flt hchip hin hvalid => ?_, ?_⟩
  · rw [State.readLine_invalid p o n flt hchip hin hvalid]
    exact ⟨rfl, rfl, rfl⟩
  · rintro s p la o n m hchip hin rfl hvalid hsound hp0 hp4
    have hread := State.readLine_valid p o n hchip hin hvalid hsound
    refine ⟨fun htag hne => ?_, fun hown => ?_⟩
    · rw [if_pos ⟨htag, hp0, hne⟩] at hread
      refine ⟨_, rfl, ?_⟩
      rw [hread]
      refine ⟨rfl, rfl, ?_, ⟨(s.countOps 10 (groupOf la) 1).sat Addr.memTagerr 31 0 1, ?_, ?_,
        { report 10 .access (groupOf la) p with addr := la / 64 * 64 }, rfl, rfl, rfl, rfl, rfl, ?_⟩, fun k => ?_, fun k => ?_⟩
      · rw [State.tagerr_tagErr hchip hp4, State.rf, State.rd_countOps, State.rf]
      · rw [State.rd_sat_other _ _ _ _ (by decide), State.rd_countOps]
      · rw [State.sat_recs, State.countOps_frame]
      · exact State.tagErr_onChip p hchip
      · exact State.byte_of_mem ((State.tagErr_mem ..).trans (State.countOps_mem ..)) k
      · exact State.line_of_lines ((State.tagErr_lines ..).trans (State.countOps_lines ..)) k
    · rw [if_neg (fun h => hown.elim h.1 h.2.2)] at hread
      rw [hread]
      exact ⟨congrArg (List.map · _) (funext fun i => State.byte_of_mem (State.countOps_mem ..) _), rfl⟩

/-- Settles O19: the bytes that the writer does not give are the line's where it may read them, else zeros. -/
theorem partialWriteMerges : Obligations.PartialWriteMerges := by
  unfold Obligations.PartialWriteMerges
  rintro s u tag la o bs hchip hin - hfit hlen hsound rfl
  obtain ⟨w, hmem, hwrite⟩ := State.writeLine_partial tag o hchip hin hlen hsound
  have hbyte : ∀ j, (s.writeLine tag la o bs).byte j = if la + o ≤ j ∧ j < la + o + bs.length then bs.getD (j - (la + o)) 0
      else if (s.line la).valid = true ∧ ((s.line la).tag = 0 ∨ tag = 0 ∨ (s.line la).tag = tag) then s.byte j
      else if la ≤ j ∧ j < la + 64 then 0 else s.byte j := fun j => by
    rw [hwrite, State.byte_of_mem (State.setLine_memory ..), State.byte_setBytes]
    congr 1
    split
    · exact State.byte_of_mem hmem j
    · rw [State.byte_zeroed, State.byte_of_mem hmem]
  refine ⟨?_, fun j hout => ?_, fun i hi => ?_, fun i hi hgap => ?_⟩
  · rw [hwrite]
    exact Sparse.get_set_same _ _ _ _
  · rw [hbyte, if_neg (by omega), if_neg (show ¬(la ≤ j ∧ j < la + 64) by omega), ite_self]
  · rw [hbyte, if_pos (by omega), Nat.add_sub_cancel_left]
  · rw [hbyte, if_neg (by omega), if_pos (show la ≤ la + i ∧ la + i < la + 64 by omega)]

end

section
/-! The memory channels: what their commands leave unchanged, and the bytes that a migration copies (R569, R572 to R577). -/

namespace Sys2Proof.Machine

open Sys2Proof

/-! ## Roles (R569, R576) -/

theorem memChStat_ne_memStat (ch : Nat) : Addr.memChStat ch ≠ Addr.memStat := by
  unfold Addr.memChStat Addr.memStat
  omega

theorem State.rd_setRole_other (s : State) (ch r : Nat) {off : Nat} (h : off ≠ Addr.memChStat ch) :
    (s.setRole ch r).rd off = s.rd off := State.rd_wf_other _ _ _ _ h

/-- The state as a channel's initial write ends. -/
def State.initEnded (s : State) (ch : Nat) : State :=
  (s.setRole ch (s.rf (Addr.memChCfg ch) 2 0)).wb Addr.memStat 0
    ((List.range 26).all fun c => (s.setRole ch (s.rf (Addr.memChCfg ch) 2 0)).role c != 6)

theorem exec_channelInitComplete_initEnded {s : State} {ch : Nat} (hch : ch < 26) (hboot : s.pmu.boot = 3) (hinit : s.role ch = 6) :
    exec (.channelInitComplete ch) s = .next (s.initEnded ch) := by
  have hexec : exec (.channelInitComplete ch) s = execChannelInitComplete ch s := rfl
  rw [hexec, execChannelInitComplete, if_pos hch, if_pos ⟨hboot, hinit⟩]
  rfl

theorem State.role_initEnded (s : State) (ch c : Nat) :
    (s.initEnded ch).role c = (s.setRole ch (s.rf (Addr.memChCfg ch) 2 0)).role c :=
  State.role_of_rd (State.rd_wb_other _ _ _ (memChStat_ne_memStat c))

theorem State.role_initEnded_same (s : State) (ch : Nat) : (s.initEnded ch).role ch = s.rf (Addr.memChCfg ch) 2 0 := by
  rw [State.role_initEnded, State.role_setRole_same]
  exact Nat.mod_eq_of_lt (fld_lt _ 2 0)

theorem State.rb_memStat_initEnded (s : State) (ch : Nat) :
    (s.initEnded ch).rb Addr.memStat 0 = true ↔ ∀ c, c < 26 → (s.initEnded ch).role c ≠ 6 := by
  have hbit : (s.initEnded ch).rb Addr.memStat 0 =
      (List.range 26).all fun c => (s.setRole ch (s.rf (Addr.memChCfg ch) 2 0)).role c != 6 := by
    rw [State.rb, State.initEnded, State.rd_wb_same]
    exact bit_setBit_same _ _ (by decide)
  simp [hbit, State.role_initEnded]

theorem State.onlyRegs_initEnded (s : State) (ch : Nat) : s.onlyRegs (s.initEnded ch) [Addr.memChStat ch, Addr.memStat] := fun off hoff => by
  simp only [List.mem_cons, List.not_mem_nil, or_false, not_or] at hoff
  rw [State.initEnded, State.rd_wb_other _ _ _ hoff.2, State.rd_setRole_other _ _ _ hoff.1]

theorem State.onlyRegs_retrained (s : State) (ch : Nat) : s.onlyRegs (s.retrained ch) [Addr.memChStat ch] := fun off hoff => by
  have hregs : (s.retrained ch).regs = (s.setRole ch 1).regs := rfl
  exact (congrArg (Sparse.get resetOf · off) hregs).trans (State.rd_setRole_other s ch 1 (List.ne_of_not_mem_cons hoff))

/-! ## Rotation (R576) -/

theorem exec_rotationStart_idle {s : State} (h : s.rb Addr.memRotCfg 0 = false ∨ s.mig ≠ none ∨
    s.time < s.rotAt + 400000000 * max 1 (s.rf Addr.memRotCfg 47 32)) : exec .rotationStart s = .next s := by
  have hexec : exec .rotationStart s = execRotationStart s := rfl
  have hticks : ∀ n, sTicks n = 400000000 * n := fun n => by unfold sTicks; omega
  rw [hexec, execRotationStart, if_neg]
  rintro ⟨hdue, hen, -, -, hmig⟩
  rw [hticks] at hdue
  rcases h with hoff | hmoving | hearly
  · simp [hoff] at hen
  · exact hmoving (by simpa using hmig)
  · omega

/-! ## The copy of a migration (R572, R573) -/

theorem chanCap_half_aligned : chanCap / 2 % 4096 = 0 := by
  unfold chanCap ddrCap
  split <;> rfl

theorem chanKey_add_aligned (ch o : Nat) (upper : Bool) :
    ∃ b, b % 4096 = 0 ∧ ∀ i, chanKey ch (o * 4096 + i + if upper then chanCap / 2 else 0) = b + i := by
  have hhalf := chanCap_half_aligned
  refine ⟨chanKey ch (o * 4096 + if upper then chanCap / 2 else 0), ?_, fun i => ?_⟩
  · unfold chanKey
    split <;> omega
  · unfold chanKey
    omega

/-- The 4 KiB unit at a migration's copy pointer is aligned at its target. -/
theorem Mig.key_aligned (m : Mig) : ∃ b, b % 4096 = 0 ∧ ∀ i, m.key (m.cp * 4096 + i) = b + i :=
  chanKey_add_aligned m.dst m.cp m.upper

/-- The 4 KiB unit at a migration's copy pointer is aligned on its source. -/
theorem State.slotKey_aligned (s : State) (m : Mig) : ∃ b, b % 4096 = 0 ∧ ∀ i, s.slotKey m.slot (m.cp * 4096 + i) = b + i :=
  chanKey_add_aligned _ m.cp _

theorem fld_wrapFld_other (v : W64) {hi lo hi' lo' : Nat} (n : Nat) (h : lo ≤ hi) (h2 : hi < 64) (h3 : hi' < lo) :
    fld (wrapFld v hi lo n) hi' lo' = fld v hi' lo' :=
  fld_setFld_other v hi lo _ hi' lo' h h2 (.inl h3)

theorem bit_wrapFld_other (v : W64) {hi lo j : Nat} (n : Nat) (h : lo ≤ hi) (h2 : hi < 64) (hj : j < lo) :
    bit (wrapFld v hi lo n) j = bit v j := by
  rw [wrapFld, bit_setFld v _ _ h h2, if_neg (by omega)]

/-- The counts of migration and scrub bursts stand in the upper half of their register. -/
theorem State.rf_moveBursts (s : State) (ch n off : Nat) {hi lo : Nat} (h : hi < 32) :
    (s.moveBursts ch n).rf off hi lo = s.rf off hi lo := by
  rw [State.rf, State.moveBursts, State.rd_countOps]
  by_cases heq : off = Addr.memChCnt1 ch
  · rw [heq, State.rd_inc_same, fld_wrapFld_other _ _ (by decide) (by decide) h, State.rf]
  · rw [State.rd_inc_other _ _ _ _ heq, State.rf]

theorem State.rb_moveBursts (s : State) (ch n off : Nat) {i : Nat} (h : i < 32) : (s.moveBursts ch n).rb off i = s.rb off i := by
  rw [State.rb, State.moveBursts, State.rd_countOps]
  by_cases heq : off = Addr.memChCnt1 ch
  · rw [heq, State.rd_inc_same, bit_wrapFld_other _ _ (by decide) (by decide) h, State.rb]
  · rw [State.rd_inc_other _ _ _ _ heq, State.rb]

theorem State.slotKey_moveBursts (s : State) (ch k n o : Nat) : (s.moveBursts ch k).slotKey n o = s.slotKey n o := by
  rw [State.slotKey, State.rf_moveBursts _ _ _ _ (by decide), State.rb_moveBursts _ _ _ _ (by decide), State.slotKey]

theorem State.slotKey_of_regs {s t : State} (h : s.regs = t.regs) (n o : Nat) : s.slotKey n o = t.slotKey n o := by
  unfold State.slotKey State.rf State.rb State.rd
  rw [h]

@[simp] theorem State.moveBursts_mem (s : State) (ch n : Nat) : (s.moveBursts ch n).mem = s.mem := by
  rw [State.moveBursts, State.countOps_mem, State.inc_memory]

/-- Where no burst fails, the copy of one counts it on both channels and writes its bytes. -/
theorem State.copyBurst_eq {s : State} (m : Mig) (i : Nat) (h : s.clean) : ∃ c d l, s.copyBurst m [] i =
    (((s.moveBursts c 1).moveBursts d 1).setBytes (m.key (m.cp * 4096 + 64 * i))
      (s.bytes (s.slotKey m.slot (m.cp * 4096 + 64 * i)) 64)).setLine (m.key (m.cp * 4096 + 64 * i)) l := by
  have hbytes : ∀ c d k n, ((s.moveBursts c 1).moveBursts d 1).bytes k n = s.bytes k n := fun c d k n =>
    congrArg (List.map · _) (funext fun j => State.byte_of_mem (by rw [State.moveBursts_mem, State.moveBursts_mem]) _)
  simp only [State.copyBurst, List.contains_nil, State.scrubRead_clean _ h, hbytes]
  exact ⟨_, _, _, rfl⟩

theorem State.slotKey_copyBurst {s : State} (m : Mig) (i n o : Nat) (h : s.clean) :
    (s.copyBurst m [] i).slotKey n o = s.slotKey n o := by
  obtain ⟨c, d, l, heq⟩ := State.copyBurst_eq m i h
  rw [heq, State.slotKey_of_regs (t := ((s.moveBursts c 1).moveBursts d 1)), State.slotKey_moveBursts, State.slotKey_moveBursts]
  rw [State.setLine_regs, State.setBytes_frame]

theorem State.getD_bytes (s : State) (k : Nat) {n i : Nat} (h : i < n) : (s.bytes k n).getD i 0 = s.byte (k + i) := by
  simp [State.bytes, h]

theorem State.byte_copyBurst {s : State} (m : Mig) (i k : Nat) (h : s.clean) : (s.copyBurst m [] i).byte k =
    if m.key (m.cp * 4096 + 64 * i) ≤ k ∧ k < m.key (m.cp * 4096 + 64 * i) + 64
    then s.byte (s.slotKey m.slot (m.cp * 4096 + 64 * i) + (k - m.key (m.cp * 4096 + 64 * i))) else s.byte k := by
  obtain ⟨c, d, l, heq⟩ := State.copyBurst_eq m i h
  have hlen : (s.bytes (s.slotKey m.slot (m.cp * 4096 + 64 * i)) 64).length = 64 := by simp [State.bytes]
  rw [heq, State.byte_of_mem (State.setLine_memory ..), State.byte_setBytes, hlen]
  split
  · exact State.getD_bytes _ _ (by omega)
  · exact State.byte_of_mem (by rw [State.moveBursts_mem, State.moveBursts_mem]) _

/-- The bursts of a unit, copied one after the other from keys a to keys b: the units are one and the same or lie apart. -/
theorem State.byte_copyUnit {s : State} {m : Mig} {a b : Nat} (ha : a % 4096 = 0) (hb : b % 4096 = 0)
    (hdst : ∀ i, m.key (m.cp * 4096 + i) = b + i) (l : List Nat) (hl : ∀ i ∈ l, i < 64) (hclean : s.clean)
    (hsrc : ∀ i, s.slotKey m.slot (m.cp * 4096 + i) = a + i) :
    (∀ k, (∀ i ∈ l, ¬(b + 64 * i ≤ k ∧ k < b + 64 * i + 64)) → (l.foldl (fun s i => s.copyBurst m [] i) s).byte k = s.byte k) ∧
    ∀ i ∈ l, ∀ x < 64, (l.foldl (fun s i => s.copyBurst m [] i) s).byte (b + 64 * i + x) = s.byte (a + 64 * i + x) := by
  induction l generalizing s with
  | nil => exact ⟨fun _ _ => rfl, fun _ hi => absurd hi List.not_mem_nil⟩
  | cons i l ih =>
    obtain ⟨hi, hl'⟩ := List.forall_mem_cons.mp hl
    obtain ⟨hout, hin⟩ := ih hl' (State.copyBurst_clean m i hclean).2 fun j => (State.slotKey_copyBurst m i _ _ hclean).trans (hsrc j)
    have hone : ∀ k, (s.copyBurst m [] i).byte k =
        if b + 64 * i ≤ k ∧ k < b + 64 * i + 64 then s.byte (a + 64 * i + (k - (b + 64 * i))) else s.byte k := fun k => by
      rw [State.byte_copyBurst m i k hclean, hdst, hsrc]
    refine ⟨fun k hk => ?_, fun j hj x hx => ?_⟩
    · obtain ⟨hk, hk'⟩ := List.forall_mem_cons.mp hk
      rw [List.foldl_cons, hout k hk', hone, if_neg hk]
    · rw [List.foldl_cons]
      by_cases hjl : j ∈ l
      · rw [hin j hjl x hx, hone]
        split
        · have := hl' j hjl
          congr 1
          omega
        · rfl
      · have hji : j = i := (List.mem_cons.mp hj).resolve_right hjl
        subst hji
        rw [hout _ fun n hn => ?_, hone, if_pos (by omega), Nat.add_sub_cancel_left]
        have : n ≠ j := fun e => hjl (e ▸ hn)
        omega

theorem exec_migrationUnitCopy_due {s : State} {m : Mig} (bad : List Nat) (hmig : s.mig = some m) (hcp : m.cp < s.slotUnits)
    (hawake : s.rb Addr.pmuStat 1 = false) : ∃ u, exec (.migrationUnitCopy bad) s = .next u ∧
      u.mem = ((List.range 64).foldl (fun s i => s.copyBurst m bad i) s).mem := by
  have hexec : exec (.migrationUnitCopy bad) s = execMigrationUnitCopy bad s := rfl
  rw [hexec, execMigrationUnitCopy, hmig]
  simp only [if_pos (⟨hcp, by simp [hawake]⟩ : m.cp < s.slotUnits ∧ (!s.rb Addr.pmuStat 1) = true)]
  exact ⟨_, rfl, State.rotSync_mem _⟩

/-- The unit at the copy pointer stands at the target as it stood on the source. -/
theorem bytes_migrationUnitCopy {s u : State} {m : Mig} (hmig : s.mig = some m) (hcp : m.cp < s.slotUnits)
    (hawake : s.rb Addr.pmuStat 1 = false) (hclean : s.clean) (hu : exec (.migrationUnitCopy []) s = .next u) {i : Nat} (hi : i < 64) :
    u.bytes (m.key (m.cp * 4096 + 64 * i)) 64 = s.bytes (s.slotKey m.slot (m.cp * 4096 + 64 * i)) 64 := by
  obtain ⟨v, hv, hmem⟩ := exec_migrationUnitCopy_due [] hmig hcp hawake
  obtain rfl := Host.Outcome.next.inj (hv.symm.trans hu)
  obtain ⟨a, ha, hsrc⟩ := s.slotKey_aligned m
  obtain ⟨b, hb, hdst⟩ := m.key_aligned
  obtain ⟨-, hcopy⟩ := State.byte_copyUnit ha hb hdst (List.range 64) (fun _ => List.mem_range.mp) hclean hsrc
  rw [hsrc, hdst]
  refine List.map_congr_left fun x hx => ?_
  exact (State.byte_of_mem hmem _).trans (hcopy i (List.mem_range.mpr hi) x (List.mem_range.mp hx))

/-! ## The end of a migration (R574, R577) -/

theorem exec_migrationComplete_early {s : State} {m : Mig} (hmig : s.mig = some m) (hcp : m.cp < s.slotUnits) :
    exec .migrationComplete s = .next s := by
  have hexec : exec .migrationComplete s = execMigrationComplete s := rfl
  rw [hexec, execMigrationComplete, hmig]
  simp only [if_neg (Nat.not_le.mpr hcp)]

/-- What stands after the last migration off a channel, where no unit of the ledger is retired. -/
theorem State.migDone_last_idle {s : State} {m : Mig} (hslot : m.slot < 24) (hsrc : m.src < 26) (hdst : m.dst < 26)
    (hret : s.rd (Addr.hltKindRet 11) = 0) (hempty : (s.slotMoved m).slotsOn m.src = []) :
    s.migDone m = ((s.slotHome m (if m.retire then 5 else 4)).wb Addr.memStat 1 false).wr Addr.memRotStat 0 := by
  rw [State.migDone_last hempty, State.rotSync_idle (State.slotHome_mig ..)]
  refine State.evacuateNext_idle ?_
  rw [State.rd_wr_other _ _ (by decide), State.rd_wb_other _ _ _ (by decide), State.rd_slotHome_ret _ _ _ hslot hsrc hdst, hret]

theorem State.upper_slotMoved (s : State) (m : Mig) : (s.slotMoved m).rb (Addr.memSlot m.slot) 5 = m.upper := by
  rw [State.rb, State.slotMoved, State.rd_wb_same]
  exact bit_setBit_same _ _ (by decide)

theorem State.regsOnly_setRole (s : State) (ch r : Nat) : s.RegsOnly (s.setRole ch r) := s.regsOnly_wf _ _ _ _

theorem State.regsOnly_slotMoved (s : State) (m : Mig) : s.RegsOnly (s.slotMoved m) := (s.regsOnly_wf _ _ _ _).trans (State.regsOnly_wb _ _ _ _)

/-- The end of a migration changes registers and ends it. -/
theorem State.slotHome_idle_frame (s : State) (m : Mig) (r : Nat) :
    ((s.slotHome m r).wb Addr.memStat 1 false).wr Addr.memRotStat 0 =
      { s with regs := (((s.slotHome m r).wb Addr.memStat 1 false).wr Addr.memRotStat 0).regs, mig := none } := by
  have hmoved : ({ s.slotMoved m with mig := none } : State) = { s with regs := (s.slotMoved m).regs, mig := none } :=
    congrArg (fun t : State => { t with mig := none }) (s.regsOnly_slotMoved m)
  have hregs : State.RegsOnly { s.slotMoved m with mig := none } (((s.slotHome m r).wb Addr.memStat 1 false).wr Addr.memRotStat 0) :=
    ((State.regsOnly_setRole _ m.dst 0).trans (State.regsOnly_setRole _ m.src r)).trans
      ((State.regsOnly_wb _ Addr.memStat 1 false).trans (State.regsOnly_wr _ Addr.memRotStat 0))
  generalize ((s.slotHome m r).wb Addr.memStat 1 false).wr Addr.memRotStat 0 = t at hregs ⊢
  unfold State.RegsOnly at hregs
  exact hregs.trans (congrArg (fun w : State => { w with regs := t.regs }) hmoved)

/-- The source of the last migration off a channel retrains or is retired; the slot lies where the migration says. -/
theorem State.migDone_source {s : State} {m : Mig} (hslot : m.slot < 24) (hsrc : m.src < 26) (hdst : m.dst < 26)
    (hret : s.rd (Addr.hltKindRet 11) = 0) (hempty : (s.slotMoved m).slotsOn m.src = []) :
    (s.migDone m).rb (Addr.memSlot m.slot) 5 = m.upper ∧ (s.migDone m).role m.src = (if m.retire then 5 else 4) ∧
      s.migDone m = { s with regs := (s.migDone m).regs, mig := none } := by
  have hslotStat : Addr.memSlot m.slot ≠ Addr.memRotStat ∧ Addr.memSlot m.slot ≠ Addr.memStat := by
    unfold Addr.memSlot Addr.memRotStat Addr.memStat; omega
  have hchStat : Addr.memChStat m.src ≠ Addr.memRotStat := by
    unfold Addr.memChStat Addr.memRotStat; omega
  rw [State.migDone_last_idle hslot hsrc hdst hret hempty]
  refine ⟨?_, ?_, State.slotHome_idle_frame ..⟩
  · rw [State.rb, State.rd_wr_other _ _ hslotStat.1, State.rd_wb_other _ _ _ hslotStat.2, State.rd_slotHome_slot _ _ _ hslot]
    exact s.upper_slotMoved m
  · rw [State.role_of_rd (State.rd_wr_other _ _ hchStat), State.role_of_rd (State.rd_wb_other _ _ _ (memChStat_ne_memStat _)),
      State.slotHome, State.role_setRole_same]
    split <;> rfl

end Sys2Proof.Machine
end

section
/-! The obligation on memory channels. -/

open Sys2Proof Sys2Proof.Machine

/-- Settles O40: each command by whether it is due, and the state that it leaves. -/
theorem memoryChannels : Obligations.MemoryChannels := by
  unfold Obligations.MemoryChannels
  intro s ch hch
  refine ⟨fun hboot hinit => ?_, fun hrole => ?_, ?_, exec_rotationStart_idle, fun m hmig hcp hawake hclean => ?_,
    fun m => exec_migrationComplete_early, fun m hmig hend hslot hsrc hdst hne hret hempty => ?_⟩
  · exact ⟨_, exec_channelInitComplete_initEnded hch hboot hinit, rfl, s.onlyRegs_initEnded ch, s.role_initEnded_same ch,
      s.rb_memStat_initEnded ch⟩
  · exact ⟨_, exec_retrainComplete_due hch hrole, s.role_retrained ch, s.trained_retrained ch, rfl, s.onlyRegs_retrained ch⟩
  · intro p n rest hdue hen hready hawake hidle hspare hlow hp hin hslots hmin
    have hold : s.oldest = some p := State.oldest_of_first hp hin (by rw [hslots]; exact List.cons_ne_nil _ _) hmin
    exact exec_rotationStart_due hdue hen hready hawake hidle hch hspare hlow hold hslots
  · obtain ⟨u, hu, hnext⟩ := exec_migrationUnitCopy_clean hmig hcp hawake hclean
    exact ⟨u, hu, hnext, fun i => bytes_migrationUnitCopy hmig hcp hawake hclean hu⟩
  · obtain ⟨hmig', hdst', hrole'⟩ := State.migDone_effect hslot hsrc hdst hne hret hempty
    obtain ⟨hupper, hsource, hframe⟩ := State.migDone_source hslot hsrc hdst hret hempty
    exact ⟨_, exec_migrationComplete_due hmig hend, hmig', hdst', hupper, hrole', hsource, hframe⟩

end

section
/-! The SRAM clear, scrub generations, the erase and patrol scrubs, and unpinning (R553, R566 to R570, R590). -/

namespace Sys2Proof.Machine

open Sys2Proof

/-! ## Rows of the memory tiers -/

theorem locate_memSramclr : locate Addr.memSramclr =
    some (⟨.memSramclr, 0xB00038, [], 0x0, 0xFFFFFFFFFFFFFFFF, 0x0⟩, []) := by decide

theorem locate_memScrubCmd : locate Addr.memScrubCmd = some (⟨.memScrubCmd, 0xB00028, [], 0x0, 0x0, 0x0⟩, []) := by decide

theorem locate_memTdunpin : locate Addr.memTdunpin = some (⟨.memTdunpin, 0xB00048, [], 0x0, 0x0, 0x0⟩, []) := by decide

theorem memGen_inj {a b : Nat} (h : Addr.memGen a = Addr.memGen b) : a = b := by
  unfold Addr.memGen at h
  omega

theorem memGen_ne_scrubStat (r : Nat) : Addr.memGen r ≠ Addr.memScrubStat := by
  unfold Addr.memGen Addr.memScrubStat
  omega

/-! ## SRAM clear (R553) -/

theorem State.sramClear_go (s : State) {new : W64} (h : bit new 63 = true) : s.sramClear new =
    { s.wr Addr.memSramclr (setBit new 63 true) with
      lines := Sparse.keep (fun k => !(decide (fld new 41 0 ≤ k) && decide (k < fld new 41 0 + fld new 62 42) && onChip (k * 64))) s.lines } := by
  unfold State.sramClear
  simp only [h, Bool.or_true, if_true]
  rfl

/-- SRAM_CLEAR takes its range from the value written, whatever bit 63 of it is. -/
theorem exec_sramClear {s : State} {src : Src} (v : W64) (h : TakesWrite s src .memSramclr 0 Addr.memSramclr) : ∃ new,
    bit new 63 = true ∧ fld new 41 0 = fld v 41 0 ∧ fld new 62 42 = fld v 62 42 ∧
      exec (.sramClear src v) s = .next (s.sramClear new) := by
  have hwrite : exec (.sramClear src v) s = .next _ := busWrite_takes (setBit v 63 true) rfl h locate_memSramclr rfl rfl
  have hfields : ∀ hi lo, hi < 63 → fld (storeReg ⟨.memSramclr, 0xB00038, [], 0x0, 0xFFFFFFFFFFFFFFFF, 0x0⟩ (s.rd Addr.memSramclr)
      (setBit v 63 true) 0xFF) hi lo = fld v hi lo := fun hi lo hlt => by
    rw [storeReg_plain rfl, fld_overlay _ _ _ fun i _ hi' => ?_, fld_setBit_other _ _ (by decide) (.inl hlt)]
    have hi64 : i < 64 := by omega
    interval_cases i <;> rfl
  refine ⟨_, ?_, ?_, ?_, hwrite⟩
  · rw [bit_setBit_same _ _ (by decide), and_byteMask_full, bit_setBit_same _ _ (by decide)]
  · rw [fld_setBit_other _ _ (by decide) (by decide), hfields _ _ (by decide)]
  · rw [fld_setBit_other _ _ (by decide) (by decide), hfields _ _ (by decide)]

theorem onChip_lt {a : Nat} (h : onChip a = true) : a < 0x1C000000 := by
  by_contra hge
  unfold onChip region at h
  rw [if_neg (by omega), if_neg (by omega)] at h
  split_ifs at h

/-- A line on chip that is not listed is invalid and has tag 0 (R548). -/
theorem lineDefault_onChip {k : Nat} (h : onChip (k * 64) = true) : lineDefault k = ⟨false, 0, 0, false, false⟩ := by
  have hlt := onChip_lt h
  have hk : ¬0x40000000000 ≤ k := by omega
  simp [lineDefault, hk]

section
variable (s : State) {new : W64} (h : bit new 63 = true)
include h

theorem State.sramClear_frame : s.sramClear new = { s with regs := (s.sramClear new).regs, lines := (s.sramClear new).lines } := by
  rw [State.sramClear_go s h]
  rfl

theorem State.rd_sramClear (off : Nat) : (s.sramClear new).rd off = (s.wr Addr.memSramclr (setBit new 63 true)).rd off := by
  rw [State.sramClear_go s h]
  rfl

theorem State.onlyRegs_sramClear : s.onlyRegs (s.sramClear new) [Addr.memSramclr] := fun off hoff =>
  (s.rd_sramClear h off).trans (State.rd_wr_other _ _ (List.ne_of_not_mem_cons hoff))

theorem State.busy_sramClear : (s.sramClear new).rb Addr.memSramclr 63 = true := by
  rw [State.rb, State.rd_sramClear s h, State.rd_wr_same]
  exact bit_setBit_same _ _ (by decide)

/-- The lines of the range are invalid with tag 0. -/
theorem State.line_sramClear (k : Nat) : (s.sramClear new).line k =
    if fld new 41 0 ≤ k / 64 ∧ k / 64 < fld new 41 0 + fld new 62 42 ∧ onChip (k / 64 * 64) = true
    then ⟨false, 0, 0, false, false⟩ else s.line k := by
  have hlines : (s.sramClear new).lines = Sparse.keep (fun k => !(decide (fld new 41 0 ≤ k) &&
      decide (k < fld new 41 0 + fld new 62 42) && onChip (k * 64))) s.lines := by
    rw [State.sramClear_go s h]
  rw [State.line, hlines, Sparse.get_keep]
  by_cases hin : fld new 41 0 ≤ k / 64 ∧ k / 64 < fld new 41 0 + fld new 62 42 ∧ onChip (k / 64 * 64) = true
  · rw [if_pos hin, if_neg (by simp [hin]), lineDefault_onChip hin.2.2]
  · rw [if_neg hin, if_pos (by rw [Bool.not_eq_true', Bool.eq_false_iff]; simpa [and_assoc] using hin)]
    rfl

end

/-! ## Advance of a generation (R566, R568) -/

/-- A region as an advance leaves it: its generation moved and its erase scrub queued, or its advance waiting. -/
def State.AdvancedIn (s u : State) (r : Nat) : Prop :=
  (nextScrubGen (s.gen r) = s.rf (Addr.memGen r) 27 16 → u.gen r = s.gen r ∧ r ∈ u.pendAdv) ∧
  (nextScrubGen (s.gen r) ≠ s.rf (Addr.memGen r) 27 16 → u.gen r = nextScrubGen (s.gen r) ∧ r ∈ u.scrubQ)

/-- A region that advances of others leave alone. -/
def State.KeptIn (s u : State) (r : Nat) : Prop :=
  u.rd (Addr.memGen r) = s.rd (Addr.memGen r) ∧ (r ∈ u.scrubQ ↔ r ∈ s.scrubQ) ∧ (r ∈ u.pendAdv ↔ r ∈ s.pendAdv)

theorem State.KeptIn.trans {s t u : State} {r : Nat} (h : s.KeptIn t r) (h' : t.KeptIn u r) : s.KeptIn u r :=
  ⟨h'.1.trans h.1, h'.2.1.trans h.2.1, h'.2.2.trans h.2.2⟩

theorem State.KeptIn.gen {s u : State} {r : Nat} (h : s.KeptIn u r) : u.gen r = s.gen r := congrArg (fld · 11 0) h.1

theorem State.KeptIn.low {s u : State} {r : Nat} (h : s.KeptIn u r) : u.rf (Addr.memGen r) 27 16 = s.rf (Addr.memGen r) 27 16 :=
  congrArg (fld · 27 16) h.1

theorem State.AdvancedIn.kept {s t u : State} {r : Nat} (h : s.AdvancedIn t r) (h' : t.KeptIn u r) : s.AdvancedIn u r :=
  ⟨fun hlow => ⟨h'.gen.trans (h.1 hlow).1, h'.2.2.mpr (h.1 hlow).2⟩, fun hmove => ⟨h'.gen.trans (h.2 hmove).1, h'.2.1.mpr (h.2 hmove).2⟩⟩

theorem State.KeptIn.advanced {s t u : State} {r : Nat} (h : s.KeptIn t r) (h' : t.AdvancedIn u r) : s.AdvancedIn u r := by
  unfold State.AdvancedIn at h' ⊢
  rwa [h.gen, h.low] at h'

theorem nextScrubGen_lt (g : Nat) : nextScrubGen g < 2 ^ 12 := by
  unfold nextScrubGen
  split <;> omega

/-- Two states differ at most in their registers and in the scrub engine's lists. -/
def State.ScrubOnly (s t : State) : Prop := t = { s with regs := t.regs, scrubQ := t.scrubQ, pendAdv := t.pendAdv }

theorem State.ScrubOnly.trans {s t u : State} (h : s.ScrubOnly t) (h' : t.ScrubOnly u) : s.ScrubOnly u := by
  unfold State.ScrubOnly at *
  rw [h', h]

/-- A region's advance where it does not meet LOW. -/
def State.regionMoved (s : State) (r : Nat) : State :=
  State.scrubSync { s.wf (Addr.memGen r) 11 0 (nextScrubGen (s.gen r)) with
    scrubQ := if s.scrubQ.contains r then s.scrubQ else s.scrubQ ++ [r] }

theorem State.advanceRegion_eq (s : State) (r : Nat) : s.advanceRegion r =
    if nextScrubGen (s.gen r) = s.rf (Addr.memGen r) 27 16 then { s with pendAdv := s.pendAdv ++ [r] } else s.regionMoved r := rfl

theorem State.scrubOnly_regionMoved (s : State) (r : Nat) : s.ScrubOnly (s.regionMoved r) := rfl

theorem State.mem_scrubQ_regionMoved (s : State) (r j : Nat) : j ∈ (s.regionMoved r).scrubQ ↔ j ∈ s.scrubQ ∨ j = r := by
  have hq : (s.regionMoved r).scrubQ = if s.scrubQ.contains r then s.scrubQ else s.scrubQ ++ [r] := rfl
  rw [hq]
  split
  · next hin => exact ⟨.inl, fun h => h.elim id fun e => e ▸ List.contains_iff_mem.mp hin⟩
  · rw [List.mem_append, List.mem_singleton]

theorem State.rd_regionMoved (s : State) (r : Nat) {off : Nat} (hoff : off ≠ Addr.memScrubStat) :
    (s.regionMoved r).rd off = (s.wf (Addr.memGen r) 11 0 (nextScrubGen (s.gen r))).rd off :=
  State.rd_wf_other _ _ _ _ hoff

theorem State.scrubOnly_advanceRegion (s : State) (r : Nat) : s.ScrubOnly (s.advanceRegion r) := by
  rw [State.advanceRegion_eq]
  split
  · rfl
  · exact s.scrubOnly_regionMoved r

theorem State.advanceRegion_same (s : State) (r : Nat) : s.AdvancedIn (s.advanceRegion r) r := by
  rw [State.advanceRegion_eq]
  refine ⟨fun hlow => ?_, fun hmove => ?_⟩
  · rw [if_pos hlow]
    exact ⟨rfl, List.mem_append_right _ (List.mem_singleton.mpr rfl)⟩
  · rw [if_neg hmove]
    refine ⟨?_, (s.mem_scrubQ_regionMoved r r).mpr (.inr rfl)⟩
    rw [State.gen, State.rf, State.rd_regionMoved _ _ (memGen_ne_scrubStat r), State.rd_wf_same]
    exact (fld_setFld_same _ 11 0 _ (by decide) (by decide)).trans (Nat.mod_eq_of_lt (nextScrubGen_lt _))

theorem State.advanceRegion_other (s : State) {r j : Nat} (h : j ≠ r) : s.KeptIn (s.advanceRegion r) j := by
  rw [State.advanceRegion_eq]
  split
  · exact ⟨rfl, .rfl, by simp [h]⟩
  · refine ⟨?_, ?_, .rfl⟩
    · rw [State.rd_regionMoved _ _ (memGen_ne_scrubStat j)]
      exact State.rd_wf_other _ _ _ _ fun e => h (memGen_inj e)
    · rw [State.mem_scrubQ_regionMoved, or_iff_left h]

theorem State.advanceAll {l : List Nat} (hl : l.Nodup) (s : State) :
    s.ScrubOnly (l.foldl (fun s r => s.advanceRegion r) s) ∧ (∀ r, r ∉ l → s.KeptIn (l.foldl (fun s r => s.advanceRegion r) s) r) ∧
      ∀ r ∈ l, s.AdvancedIn (l.foldl (fun s r => s.advanceRegion r) s) r := by
  induction l generalizing s with
  | nil => exact ⟨rfl, fun _ _ => ⟨rfl, .rfl, .rfl⟩, fun _ h => absurd h List.not_mem_nil⟩
  | cons a l ih =>
    obtain ⟨ha, hl'⟩ := List.nodup_cons.mp hl
    obtain ⟨hframe, hkept, hmoved⟩ := ih hl' (s.advanceRegion a)
    rw [List.foldl_cons]
    refine ⟨(s.scrubOnly_advanceRegion a).trans hframe, fun r hr => ?_, fun r hr => ?_⟩
    · obtain ⟨hra, hrl⟩ := not_or.mp (mt List.mem_cons.mpr hr)
      exact (s.advanceRegion_other hra).trans (hkept r hrl)
    · by_cases hra : r = a
      · subst hra
        exact (s.advanceRegion_same r).kept (hkept r ha)
      · exact (s.advanceRegion_other hra).advanced (hmoved r ((List.mem_cons.mp hr).resolve_left hra))

/-- SCRUB_ADVANCE advances the regions of the range of the value written. -/
theorem exec_scrubAdvance {s : State} {src : Src} (v : W64) (h : TakesWrite s src .memScrubCmd 0 Addr.memScrubCmd) :
    exec (.scrubAdvance src v) s = .next (((List.range 384).filter fun r => decide (fld v 8 0 ≤ r) && decide (r ≤ fld v 24 16)).foldl
      (fun s r => s.advanceRegion r) s) := by
  have hwrite : exec (.scrubAdvance src v) s = .next (s.scrubCmd (setBit v 40 true &&& byteMask 0xFF)) :=
    busWrite_takes (setBit v 40 true) rfl h locate_memScrubCmd rfl rfl
  rw [hwrite, and_byteMask_full, State.scrubCmd, if_pos (bit_setBit_same _ _ (by decide)), fld_setBit_other _ _ (by decide) (by decide),
    fld_setBit_other _ _ (by decide) (by decide)]

/-! ## Scrub reads (R556, R557, R567, R570) -/

theorem State.gen_moveBursts (s : State) (ch n r : Nat) : (s.moveBursts ch n).gen r = s.gen r := State.rf_moveBursts _ _ _ _ (by decide)

theorem State.line_moveBursts (s : State) (ch n k : Nat) : (s.moveBursts ch n).line k = s.line k :=
  State.line_of_lines (State.moveBursts_lines ..) k

theorem exec_patrolScrub_due {s : State} {a : Nat} (fail : Bool) (hregion : region a = .ddr) (hen : s.rf Addr.memScrubCfg 15 8 ≠ 0)
    (haddr : s.memAddr (a / 64 * 64) = true) (hup : s.ddrUp (a / 64 * 64) = true) :
    exec (.patrolScrub a fail) s = .next (s.scrubRead (a / 64 * 64) fail) := by
  have hexec : exec (.patrolScrub a fail) s = execPatrolScrub a fail s := rfl
  rw [hexec, execPatrolScrub, if_pos hregion, if_pos ⟨hen, haddr, hup⟩]

/-- A scrub read by what its burst holds: poisoned, failing, or sound. -/
theorem State.scrubRead_cases (s : State) (la : Nat) (fail : Bool) : s.scrubRead la fail =
    if (s.line (s.rkey la)).poison then (s.moveBursts (chanOf (s.rkey la)) 1).burstFail la false
    else if (s.line (s.rkey la)).bad || fail
      then ((s.moveBursts (chanOf (s.rkey la)) 1).burstRetry (chanOf (s.rkey la)) 3).burstFail la true
      else s.moveBursts (chanOf (s.rkey la)) 1 := by
  rw [State.scrubRead_eq, State.burstRead, State.line_moveBursts]

/-- A burst that the erase scrub has rewritten, counted on its channel and in MEM_SCRUB_STAT. -/
def State.burstErased (s : State) (la ch : Nat) : State := ((s.eraseBurst la).moveBursts ch 1).inc Addr.memScrubStat 31 0 1

theorem exec_eraseScrubBurst_due {s : State} {a : Nat} (fail : Bool) (hregion : region a = .ddr)
    (haddr : s.memAddr (a / 64 * 64) = true) (hup : s.ddrUp (a / 64 * 64) = true) (hhead : s.scrubQ.head? = some (scrubRegion (a / 64 * 64))) :
    exec (.eraseScrubBurst a fail) s = .next (s.eraseScrub a fail) ∧
    ∀ m w, m = s.line (s.rkey (a / 64 * 64)) → w = s.moveBursts (chanOf (s.rkey (a / 64 * 64))) 1 →
      (fail = false → m.bad = false → s.eraseScrub a false =
        if m.poison || m.gen != s.gen (scrubRegion (a / 64 * 64)) then w.burstErased (a / 64 * 64) (chanOf (s.rkey (a / 64 * 64))) else w) ∧
      (m.poison = false → s.eraseScrub a true =
        State.burstErased ((w.burstRetry (chanOf (s.rkey (a / 64 * 64))) 3).burstFail (a / 64 * 64) true) (a / 64 * 64)
          (chanOf (s.rkey (a / 64 * 64)))) := by
  have hexec : exec (.eraseScrubBurst a fail) s = execEraseScrubBurst a fail s := rfl
  have hdue : (s.memAddr (a / 64 * 64) && s.ddrUp (a / 64 * 64) && s.scrubQ.head? == some (scrubRegion (a / 64 * 64))) = true := by
    simp [haddr, hup, hhead]
  refine ⟨by rw [hexec, execEraseScrubBurst, if_pos hregion], ?_⟩
  rintro m w rfl rfl
  unfold State.eraseScrub
  refine ⟨fun _ hsound => ?_, fun hpoison => ?_⟩
  · simp [hdue, hsound, State.gen_moveBursts, State.burstErased]
  · simp [hdue, hpoison, State.burstErased]

/-! ## The end of an erase scrub (R567, R568) -/

theorem exec_eraseScrubComplete_due {s : State} {r : Nat} (hr : r < 384) (hready : s.rb Addr.memStat 0 = true)
    (hhead : s.scrubQ.head? = some r) : exec (.eraseScrubComplete r) s = .next (s.scrubEnd r) := by
  have hexec : exec (.eraseScrubComplete r) s = execEraseScrubComplete r s := rfl
  rw [hexec, execEraseScrubComplete, if_pos hr, if_pos (by simp [hready, hhead])]

/-- Memory without the stale bursts of a region. -/
def State.withoutStale (s : State) (r : Nat) : State :=
  { s with mem := Sparse.keep (fun k => !s.staleKey r k) s.mem, lines := Sparse.keep (fun k => !s.staleKey r (k * 64)) s.lines }

/-- The registers of a region whose erase scrub has ended, n bursts of it rewritten. -/
def State.scrubCounted (s : State) (r n : Nat) : State :=
  ((s.withoutStale r).inc Addr.memScrubStat 31 0 n).wf (Addr.memGen r) 27 16 (s.gen r)

theorem State.scrubEnd_steps (s : State) (r : Nat) : ∃ n, s.scrubEnd r =
    ((s.scrubCounted r n).pendAdv.filter (· == r)).foldl (fun s r => s.advanceRegion r)
      (State.scrubSync { s.scrubCounted r n with
        scrubQ := (s.scrubCounted r n).scrubQ.erase r, pendAdv := (s.scrubCounted r n).pendAdv.filter (· != r) }) := ⟨_, rfl⟩

theorem State.scrubCounted_frame (s : State) (r n : Nat) :
    s.scrubCounted r n = { s.withoutStale r with regs := (s.scrubCounted r n).regs } := rfl

/-- Where no advance of the region waits, its erase scrub ends with LOW at GEN. -/
theorem State.scrubEnd_eq {s : State} {r : Nat} {q : List Nat} (hq : s.scrubQ = r :: q) (hwait : r ∉ s.pendAdv) :
    ∃ n, s.scrubEnd r = State.scrubSync { s.scrubCounted r n with scrubQ := q } := by
  have hnone : s.pendAdv.filter (· == r) = [] := by
    rw [List.filter_eq_nil_iff]
    intro x hx e
    exact hwait (beq_iff_eq.mp e ▸ hx)
  have hall : s.pendAdv.filter (· != r) = s.pendAdv := by
    rw [List.filter_eq_self]
    intro x hx
    exact bne_iff_ne.mpr fun e => hwait (e ▸ hx)
  obtain ⟨n, hsteps⟩ := s.scrubEnd_steps r
  have hpend : (s.scrubCounted r n).pendAdv = s.pendAdv := rfl
  have hqueue : (s.scrubCounted r n).scrubQ = s.scrubQ := rfl
  refine ⟨n, ?_⟩
  rw [hsteps, hpend, hqueue, hnone, hall, hq, List.erase_cons_head, List.foldl_nil, ← hpend]

theorem State.rd_scrubSync (s : State) {off : Nat} (h : off ≠ Addr.memScrubStat) : s.scrubSync.rd off = s.rd off :=
  State.rd_wf_other _ _ _ _ h

theorem State.rd_scrubCounted (s : State) (r n : Nat) :
    (s.scrubCounted r n).rd (Addr.memGen r) = setFld (s.rd (Addr.memGen r)) 27 16 (s.gen r) := by
  rw [State.scrubCounted, State.rd_wf_same, State.rd_inc_other _ _ _ _ (memGen_ne_scrubStat r)]
  rfl

/-- The end of an erase scrub: LOW is GEN, and no stale byte is left. -/
theorem State.scrubEnd_effect {s : State} {r : Nat} {q : List Nat} (hq : s.scrubQ = r :: q) (hwait : r ∉ s.pendAdv) :
    s.scrubEnd r = { s with regs := (s.scrubEnd r).regs, mem := (s.scrubEnd r).mem, lines := (s.scrubEnd r).lines, scrubQ := q } ∧
    (s.scrubEnd r).rf (Addr.memGen r) 27 16 = s.gen r ∧ (s.scrubEnd r).gen r = s.gen r ∧
    ∀ k, (s.scrubEnd r).byte k = if s.staleKey r k = true then 0 else s.byte k := by
  obtain ⟨n, heq⟩ := State.scrubEnd_eq hq hwait
  have hgen : (s.scrubEnd r).rd (Addr.memGen r) = setFld (s.rd (Addr.memGen r)) 27 16 (s.gen r) := by
    rw [heq, State.rd_scrubSync _ (memGen_ne_scrubStat r)]
    exact s.rd_scrubCounted r n
  refine ⟨?_, ?_, ?_, fun k => ?_⟩
  · rw [heq]
    rfl
  · rw [State.rf, hgen]
    exact (fld_setFld_same _ 27 16 _ (by decide) (by decide)).trans (Nat.mod_eq_of_lt (fld_lt _ 11 0))
  · rw [State.gen, State.rf, hgen, fld_setFld_other _ _ _ _ _ _ (by decide) (by decide) (by decide)]
    rfl
  · have hmem : (s.scrubEnd r).mem = Sparse.keep (fun k => !s.staleKey r k) s.mem := by rw [heq]; rfl
    rw [State.byte, hmem, Sparse.get_keep]
    cases s.staleKey r k <;> rfl

/-! ## Unpinning (R590) -/

theorem exec_tdunpin {s : State} {src : Src} (v : W64) (h : TakesWrite s src .memTdunpin 0 Addr.memTdunpin) :
    exec (.tdunpin src v) s = .next (s.unpin (srcAddrs src) (fld v 47 0)) := by
  have hwrite : exec (.tdunpin src v) s = .next (s.unpin (srcAddrs src) (fld (v &&& byteMask 0xFF) 47 0)) :=
    busWrite_takes v rfl h locate_memTdunpin rfl rfl
  rw [hwrite, and_byteMask_full]

theorem State.unpin_entry {s : State} {p a d : Nat} (haddr : s.devAddr p .write a 64 = some d) (hregion : region d = .global)
    (haligned : d % 64 = 0) : s.unpin p a =
      if s.peekNat (d + 16) 2 = 0 then s.wb Addr.memStat 3 true else s.poke (d + 16) (bytesOf 2 (s.peekNat (d + 16) 2 - 1)) := by
  rw [State.unpin, haddr]
  simp only [hregion, haligned, decide_true, Bool.and_self, if_true]

end Sys2Proof.Machine
end

section
/-! The obligation on the scrubs of memory. -/

open Sys2Proof Sys2Proof.Machine

/-- Settles O39: each register write as the fold or the update that it is, each scrub by what the burst that it reads holds. -/
theorem memoryScrub : Obligations.MemoryScrub := by
  unfold Obligations.MemoryScrub
  intro s src v
  refine ⟨?_, fun hmesh => ?_, fun hwrite => ?_, ?_, ?_, ?_⟩
  · rintro hwrite lo hi rfl rfl
    obtain ⟨new, hgo, hlo, hlen, hexec⟩ := exec_sramClear v hwrite
    refine ⟨_, hexec, s.sramClear_frame hgo, s.onlyRegs_sramClear hgo, s.busy_sramClear hgo, fun k => ?_⟩
    rw [State.line_sramClear s hgo, hlo, hlen]
  · exact congrArg Host.Outcome.next (if_pos hmesh)
  · obtain ⟨hframe, hkept, hmoved⟩ := s.advanceAll (List.nodup_range.filter fun r => decide (fld v 8 0 ≤ r) && decide (r ≤ fld v 24 16))
    refine ⟨_, exec_scrubAdvance v hwrite, hframe, fun r hr => ⟨fun hout => ?_, ?_⟩⟩
    · have hr' := hkept r (by simpa [hr] using hout)
      exact ⟨hr'.gen, hr'.2.1⟩
    · rintro hlo hhi g rfl
      exact hmoved r (by simp [hr, hlo, hhi])
  · rintro a la k r m hregion rfl rfl rfl rfl haddr hup
    refine ⟨?_, ?_⟩
    · rintro hhead w rfl
      have hdue := fun fail => exec_eraseScrubBurst_due fail hregion haddr hup hhead
      refine ⟨fun hsound hclean hgen => ?_, fun hsound hstale => ?_, fun hclean => ?_⟩
      · rw [(hdue false).1, ((hdue false).2 _ _ rfl rfl).1 rfl hsound, if_neg (by simp [hclean, hgen])]
      · rw [(hdue false).1, ((hdue false).2 _ _ rfl rfl).1 rfl hsound, if_pos (by simpa using hstale)]
        rfl
      · rw [(hdue true).1, ((hdue true).2 _ _ rfl rfl).2 hclean]
        rfl
    · rintro hen w rfl f
      have hdue := fun fail => exec_patrolScrub_due fail hregion hen haddr hup
      refine ⟨?_, fun hpoison => ?_, fun hclean hfail => ?_⟩
      · rintro hclean hsound rfl
        rw [hdue, State.scrubRead_cases, if_neg (by simp [hclean]), if_neg (by simp [hsound])]
      · rw [hdue, State.scrubRead_cases, if_pos hpoison]
      · rw [hdue, State.scrubRead_cases, if_neg (by simp [hclean]), if_pos (by simpa using hfail)]
  · intro r q hr hready hq hwait
    have heffect := State.scrubEnd_effect hq hwait
    exact ⟨_, exec_eraseScrubComplete_due hr hready (by rw [hq]; rfl), heffect⟩
  · rintro hwrite d n haddr hregion haligned rfl
    have hexec := (exec_tdunpin v hwrite).trans (congrArg _ (State.unpin_entry haddr hregion haligned))
    exact ⟨fun hzero => hexec.trans (congrArg _ (if_pos hzero)), fun hpos => hexec.trans (congrArg _ (if_neg hpos.ne'))⟩

end

section
/-! The canonical form of memory, carried through every step. The sections below go through the model's files in their order: an
operation that writes no byte leaves memory as it was (`_mem`), any other keeps its form (`_memWf`), and so does every command
(`MemWf`). A chain of several writes is closed by `simp` with a discharger that proves the form of what the chain begins with. -/

namespace Sys2Proof.Machine

open Sys2Proof

/-- A command that answers a next state leaves memory in canonical form. -/
def MemWf (o : Host.Outcome State Fault Refusal) : Prop := ∀ t, o = .next t → Memory.wf t.mem = true

@[simp] theorem memWf_next (s : State) : MemWf (.next s) ↔ Memory.wf s.mem = true :=
  ⟨fun h => h s rfl, fun h _ e => (Host.Outcome.next.inj e) ▸ h⟩

@[simp] theorem memWf_fault (r : Fault) : MemWf (.fault r) := fun _ => nofun

@[simp] theorem memWf_ite {c : Prop} [Decidable c] (a b : Host.Outcome State Fault Refusal) (ha : MemWf a) (hb : MemWf b) :
    MemWf (if c then a else b) := by split <;> assumption

/-- The state of a pair, once the pair is known by its parts. -/
theorem memWf_of_fst {α : Type} {x : State × α} {t : State} {a : α} (e : x = (t, a)) (hx : Memory.wf x.1.mem = true) :
    Memory.wf t.mem = true := by
  subst e; exact hx

/-- The state of a pair, once the pair is known by its parts. -/
theorem memWf_of_snd {α : Type} {x : α × State} {t : State} {a : α} (e : x = (a, t)) (hx : Memory.wf x.2.mem = true) :
    Memory.wf t.mem = true := by
  subst e; exact hx

/-- The state of a triple, once the triple is known by its parts. -/
theorem memWf_of_mid {α β : Type} {x : α × State × β} {t : State} {a : α} {b : β} (e : x = (a, t, b))
    (hx : Memory.wf x.2.1.mem = true) : Memory.wf t.mem = true := by
  subst e; exact hx

/-- Memory in canonical form, as a predicate of the state that does not unfold by itself: two states are then compared as states,
where comparing their memories would evaluate a step that is long to evaluate. -/
def WfMem (s : State) : Prop := Memory.wf s.mem = true

theorem WfMem.foldl {α : Type} {f : State → α → State} {s : State} (l : List α) (h : WfMem s)
    (hf : ∀ s a, WfMem s → WfMem (f s a)) : WfMem (l.foldl f s) := by
  induction l generalizing s with
  | nil => exact h
  | cons a l ih => exact ih (hf s a h)

theorem Memory.wf_keep (p : Nat → Bool) (m : Sparse Byte) (h : Memory.wf m = true) : Memory.wf (Sparse.keep p m) = true :=
  Sparse.wf_keep _ p m h

end Sys2Proof.Machine
end

section
/-! Laws of memory: what every operation of Machine/Ptb.lean leaves of it, and that its form is kept. -/

namespace Sys2Proof.Machine

open Sys2Proof

@[simp] theorem State.raiseWake_mem (s : State) (n sub : Nat) : (s.raiseWake n sub).mem = s.mem := by
  simp [State.raiseWake]

@[simp] theorem State.endPwait_mem (s : State) (t : Nat) (gd : Reg) (st : Nat) : (s.endPwait t gd st).mem = s.mem := by
  simp [State.endPwait]

@[simp] theorem State.wakePos_mem (s : State) (n : Nat) : (s.wakePos n).mem = s.mem := by
  simp only [State.wakePos]
  refine foldl_mem _ _ _ fun s a => ?_
  (repeat' split) <;> simp

@[simp] theorem State.posEvent_mem (s : State) (c k : Nat) : (s.posEvent c k).mem = s.mem := by
  simp only [State.posEvent]; split
  · simp
  · refine (foldl_mem _ _ _ fun s t => ?_).trans (by simp)
    split <;> simp

@[simp] theorem State.pushFire_mem (s : State) (k : Nat) (cnts : List Cnt) (lost : List Bool) (time slot : Nat) :
    (s.pushFire k cnts lost time slot).mem = s.mem := by
  simp only [State.pushFire]; (repeat' split) <;> simp

@[simp] theorem State.cxtFire_mem (s : State) (k slot : Nat) : (s.cxtFire k slot).mem = s.mem := by
  simp only [State.cxtFire]; (repeat' split) <;> simp

@[simp] theorem State.outFire_mem (s : State) (o slot : Nat) : (s.outFire o slot).mem = s.mem := by
  simp only [State.outFire]; (repeat' split) <;> simp

@[simp] theorem State.fireOuts_mem (s : State) (k : Nat) : (s.fireOuts k).mem = s.mem := by
  simp [State.fireOuts, ite_mem]

@[simp] theorem State.disarm_mem (s : State) (k : Nat) : (s.disarm k).mem = s.mem := by
  simp [State.disarm]

@[simp] theorem State.slotFire_mem (s : State) (k n : Nat) : (s.slotFire k n).mem = s.mem := by
  simp only [State.slotFire]; (repeat' split) <;> simp

@[simp] theorem State.evalSlots_mem (s : State) (n : Nat) (old new : Cnt) : (s.evalSlots n old new).mem = s.mem := by
  simp [State.evalSlots, ite_mem]

@[simp] theorem State.arm_mem (s : State) (k : Nat) : (s.arm k).mem = s.mem := by
  simp only [State.arm]; (repeat' split) <;> simp

@[simp] theorem State.slotCtl_mem (s : State) (r : Src) (k : Nat) (v : W64) (be : BitVec 8) : (s.slotCtl r k v be).mem = s.mem := by
  simp only [State.slotCtl]; (repeat' split) <;> simp

@[simp] theorem State.velRestart_mem (s : State) (n : Nat) : (s.velRestart n).mem = s.mem := by
  simp [State.velRestart]

@[simp] theorem State.axCfgWrite_mem (s : State) (n : Nat) (new : W64) : (s.axCfgWrite n new).mem = s.mem := by
  simp only [State.axCfgWrite]; (repeat' split) <;> simp

@[simp] theorem State.pulseStart_mem (s : State) (o : Nat) : (s.pulseStart o).mem = s.mem := by
  simp only [State.pulseStart]; (repeat' split) <;> simp

@[simp] theorem State.pulseEnd_mem (s : State) (o : Nat) : (s.pulseEnd o).mem = s.mem := by
  simp only [State.pulseEnd]; (repeat' split) <;> simp

@[simp] theorem State.outCfgWrite_mem (s : State) (r : Src) (o : Nat) (old new : W64) : (s.outCfgWrite r o old new).mem = s.mem := by
  simp only [State.outCfgWrite]; (repeat' split) <;> simp

@[simp] theorem State.phaseTick_mem (s : State) : s.phaseTick.mem = s.mem := by
  simp [State.phaseTick, ite_mem]

@[simp] theorem State.aonTick_mem (s : State) : s.aonTick.mem = s.mem := by
  simp only [State.aonTick]; (repeat' split) <;> simp

@[simp] theorem State.tick_mem (s : State) : s.tick.mem = s.mem := by
  simp only [State.tick]; (repeat' split) <;> simp

@[simp] theorem State.setLatency_mem (s : State) (q rtt res : Nat) : (s.setLatency q rtt res).mem = s.mem := by
  simp [State.setLatency]

section
variable {s : State} (h : Memory.wf s.mem = true)
include h

@[simp] theorem State.noteHist_memWf : Memory.wf s.noteHist.mem = true := by
  simp [State.noteHist, h]

@[simp] theorem State.afterCount_memWf (n : Nat) : Memory.wf (s.afterCount n).mem = true := by
  simp [State.afterCount, h]

@[simp] theorem State.moveTo_memWf (n : Nat) (new : Cnt) : Memory.wf (s.moveTo n new).mem = true := by
  simp [State.moveTo, h]

@[simp] theorem State.count_memWf (n : Nat) (down : Bool) : Memory.wf (s.count n down).mem = true := by
  simp [State.count, h]

@[simp] theorem State.loadCnt_memWf (n : Nat) (v : Cnt) : Memory.wf (s.loadCnt n v).mem = true := by
  simp [State.loadCnt, h]

@[simp] theorem State.cntWrite_memWf (r : Src) (n : Nat) (v : W64) (be : BitVec 8) : Memory.wf (s.cntWrite r n v be).mem = true := by
  simp [State.cntWrite, h]

@[simp] theorem State.illegal_memWf (n : Nat) : Memory.wf (s.illegal n).mem = true := by
  simp only [State.illegal]; (repeat' split) <;> simp [h]

@[simp] theorem State.zAct_memWf (n m : Nat) : Memory.wf (s.zAct n m).mem = true := by
  simp only [State.zAct]; (repeat' split) <;> simp [h]

@[simp] theorem State.countZ_memWf (n : Nat) (down : Bool) : Memory.wf (s.countZ n down).mem = true := by
  simp only [State.countZ]; (repeat' split) <;> simp [h]

@[simp] theorem State.encoder_memWf (n : Nat) (a b : Bool) : Memory.wf (s.encoder n a b).mem = true := by
  simp only [State.encoder]; (repeat' split) <;> simp [h]

@[simp] theorem execEncoderTransition_memWf (n : Nat) (a b : Bool) : MemWf (execEncoderTransition n a b s) := by
  simp [execEncoderTransition, h]

@[simp] theorem State.zEdge_memWf (n : Nat) : Memory.wf (s.zEdge n).mem = true := by
  simp [State.zEdge, h]

@[simp] theorem execZEdge_memWf (n : Nat) : MemWf (execZEdge n s) := by
  simp [execZEdge, h]

@[simp] theorem execAxisStopped_memWf (n : Nat) : MemWf (execAxisStopped n s) := by
  simp [execAxisStopped, h]

@[simp] theorem State.velUpdate_memWf (n : Nat) : Memory.wf (s.velUpdate n).mem = true := by
  simp [State.velUpdate, h]

@[simp] theorem execVelocityUpdate_memWf : MemWf (execVelocityUpdate s) := by
  unfold execVelocityUpdate
  refine (memWf_next _).2 (ite_memWf _ _ _ (State.evalAll_memWf _ ?_) h)
  exact foldl_memWf _ _ _ (fun s n hs => by simp [hs]) h

@[simp] theorem execTrigPulseStart_memWf (o : Nat) : MemWf (execTrigPulseStart o s) := by
  simp [execTrigPulseStart, h]

@[simp] theorem execTrigPulseEnd_memWf (o : Nat) : MemWf (execTrigPulseEnd o s) := by
  simp [execTrigPulseEnd, h]

@[simp] theorem execMarkPulseStart_memWf (o : Nat) : MemWf (execMarkPulseStart o s) := by
  simp [execMarkPulseStart, h]

@[simp] theorem execMarkPulseEnd_memWf (o : Nat) : MemWf (execMarkPulseEnd o s) := by
  simp [execMarkPulseEnd, h]

@[simp] theorem State.followBy_memWf (n : Nat) (e : Int) : Memory.wf (s.followBy n e).mem = true := by
  simp only [State.followBy]; (repeat' split) <;> simp [h]

@[simp] theorem State.applyPacket_memWf (n : Nat) (count : Cnt) (v : Int) (l : Nat) : Memory.wf (s.applyPacket n count v l).mem = true := by
  simp only [State.applyPacket]; (repeat' split) <;> simp [h]

@[simp] theorem execFollowerStep_memWf (n : Nat) : MemWf (execFollowerStep n s) := by
  simp only [execFollowerStep]; (repeat' split) <;> simp [h]

@[simp] theorem execFollowerLost_memWf (n : Nat) : MemWf (execFollowerLost n s) := by
  simp only [execFollowerLost]; (repeat' split) <;> simp [h]

@[simp] theorem execLinkLatencyMeasure_memWf (q rtt res : Nat) : MemWf (execLinkLatencyMeasure q rtt res s) := by
  simp [execLinkLatencyMeasure, h]

end

end Sys2Proof.Machine
end

section
/-! Laws of memory: what every operation of Machine/Issue.lean leaves of it, and that its form is kept. -/

namespace Sys2Proof.Machine

open Sys2Proof

@[simp] theorem State.tally_mem (s : State) (t : Nat) : (s.tally t).mem = s.mem := by
  simp only [State.tally]; (repeat' split) <;> simp

@[simp] theorem State.goTo_mem (s : State) (t : Nat) (pc : W64) : (s.goTo t pc).mem = s.mem := by
  simp [State.goTo]

@[simp] theorem State.nextPc_mem (s : State) (t : Nat) : (s.nextPc t).mem = s.mem := by
  simp [State.nextPc]

@[simp] theorem State.retG_mem (s : State) (t : Nat) (gd : Reg) (v : W64) : (s.retG t gd v).mem = s.mem := by
  simp [State.retG]

@[simp] theorem State.retP_mem (s : State) (t : Nat) (pd : BitVec 3) (v : Bool) : (s.retP t pd v).mem = s.mem := by
  simp [State.retP]

section
variable {s : State} (h : Memory.wf s.mem = true)
include h

@[simp] theorem State.stopPair_memWf (code g1 : Nat) : Memory.wf (s.stopPair code g1).mem = true := by
  simp only [State.stopPair]; (repeat' split) <;> simp [h]

@[simp] theorem State.haltBase_memWf (c : Nat) : Memory.wf (s.haltBase c).mem = true := by
  simp [State.haltBase, h]

@[simp] theorem State.fatal_memWf (t code : Nat) : Memory.wf (s.fatal t code).mem = true := by
  simp only [State.fatal]; (repeat' split) <;> simp [h]

@[simp] theorem State.raise_memWf (t : Nat) (e : Exc) (val : W64) : Memory.wf (s.raise t e val).mem = true := by
  simp [State.raise, h]

@[simp] theorem State.issue_memWf (t : Nat) (f : State → State) (hf : Memory.wf (f s).mem = true) :
    Memory.wf (s.issue t f).mem = true := by
  unfold State.issue; split <;> assumption

/-- An instruction keeps the form of memory where its meaning does. -/
@[simp] theorem instr_memWf (t : Nat) (f : State → State) (hf : Memory.wf (f s).mem = true) : MemWf (instr t f s) := by
  unfold instr; split <;> simp [h, hf]

@[simp] theorem State.must_memWf (t : Nat) (ok : Bool) (e : Exc) (val : W64) (f : State → State)
    (hf : Memory.wf (f s).mem = true) : Memory.wf (s.must t ok e val f).mem = true := by
  unfold State.must; split <;> simp [h, hf]

end

end Sys2Proof.Machine
end

section
/-! Laws of memory: what every operation of Machine/Ledger.lean leaves of it, and that its form is kept. -/

namespace Sys2Proof.Machine

open Sys2Proof

@[simp] theorem State.staleCount_mem (s : State) (p : Nat) : (s.staleCount p).mem = s.mem := by
  simp [State.staleCount]

@[simp] theorem State.postDetached_mem (s : State) (t out : Nat) : (s.postDetached t out).mem = s.mem := by
  simp only [State.postDetached]; (repeat' split) <;> simp

@[simp] theorem State.sealBlock_mem (s : State) (t : Nat) (gd : Reg) (p : Nat) (b : List Byte) : (s.sealBlock t gd p b).mem = s.mem := by
  simp only [State.sealBlock]; (repeat' split) <;> simp

@[simp] theorem State.ringRaise_mem (s : State) (r : Nat) (fs : List Nat) : (s.ringRaise r fs).mem = s.mem := by
  simp [State.ringRaise]

@[simp] theorem State.ringInt_mem (s : State) (r f : Nat) : (s.ringInt r f).mem = s.mem := by
  simp only [State.ringInt]; (repeat' split) <;> simp

@[simp] theorem State.ringSync_mem (s : State) (r : Nat) : (s.ringSync r).mem = s.mem := by
  simp [State.ringSync]

@[simp] theorem State.writeRecord_mem (s : State) (r : Nat) : (s.writeRecord r).mem = s.mem := by
  simp only [State.writeRecord]; (repeat' split) <;> simp

@[simp] theorem State.modExpiry_mem (s : State) (r : Nat) : (s.modExpiry r).mem = s.mem := by
  simp only [State.modExpiry]; (repeat' split) <;> simp

@[simp] theorem State.evModExpiry_mem (s : State) (f : Nat) : (s.evModExpiry f).mem = s.mem := by
  simp only [State.evModExpiry]; (repeat' split) <;> simp

section
variable {s : State} (h : Memory.wf s.mem = true)
include h

@[simp] theorem State.withBytes_memWf (t : Nat) (a : W64) (n flt : Nat) (f : State → List Byte → State)
    (hf : ∀ s b, Memory.wf s.mem = true → Memory.wf (f s b).mem = true) : Memory.wf (s.withBytes t a n flt f).mem = true := by
  simp only [State.withBytes]; (repeat' split) <;> simp [h, hf]

@[simp] theorem State.withBlock_memWf (t : Nat) (a : W64) (n flt : Nat) (f : State → List Byte → State)
    (hf : ∀ s b, Memory.wf s.mem = true → Memory.wf (f s b).mem = true) : Memory.wf (s.withBlock t a n flt f).mem = true := by
  unfold State.withBlock; split
  · simp [h]
  · exact State.withBytes_memWf h t a n flt f hf

@[simp] theorem State.readModel_memWf (p i flt : Nat) : Memory.wf (s.readModel p i flt).1.mem = true := by
  simp only [State.readModel]; (repeat' split) <;> simp [h]

@[simp] theorem State.enqueue_memWf (j : Job) (by_ : Option (Nat × Nat)) : Memory.wf (s.enqueue j by_).mem = true := by
  simp only [State.enqueue]; (repeat' split) <;> simp [h]

@[simp] theorem State.passBlock_memWf (t : Nat) (gd : Reg) (sel mflt : Nat) (b : List Byte) :
    Memory.wf (s.passBlock t gd sel mflt b).mem = true := by
  simp only [State.passBlock]; (repeat' split) <;> simp [h]

@[simp] theorem execPass_memWf (t : Nat) (gd ga : Reg) (sel : BitVec 16) (flt mflt : Nat) : MemWf (execPass t gd ga sel flt mflt s) := by
  simp only [execPass]; grind [State.illegal_memWf, State.passBlock_memWf, State.raise_memWf, State.withBlock_memWf, instr_memWf]

@[simp] theorem State.verd_memWf (t : Nat) (gd ga : Reg) (sel : BitVec 14) (op flt : Nat) (f : State → Nat → List Byte → State)
    (hf : ∀ s p b, Memory.wf s.mem = true → Memory.wf (f s p b).mem = true) :
    Memory.wf (s.verd t gd ga sel op flt f).mem = true := by
  simp only [State.verd]; split
  · simp [h]
  · refine State.withBlock_memWf h t _ 32 flt _ fun s b hs => ?_
    (repeat' split) <;> simp [hs, hf]

@[simp] theorem State.openBlock_memWf (t : Nat) (gd : Reg) (p : Nat) (b : List Byte) : Memory.wf (s.openBlock t gd p b).mem = true := by
  simp only [State.openBlock]; (repeat' split) <;> simp [h]

@[simp] theorem execVerdOpen_memWf (t : Nat) (gd ga : Reg) (sel : BitVec 14) (flt : Nat) : MemWf (execVerdOpen t gd ga sel flt s) := by
  simp only [execVerdOpen]; grind [State.openBlock_memWf, State.verd_memWf, instr_memWf]

@[simp] theorem State.postBlock_memWf (t : Nat) (gd : Reg) (p : Nat) (b : List Byte) : Memory.wf (s.postBlock t gd p b).mem = true := by
  simp only [State.postBlock]; (repeat' split) <;> simp [h]

@[simp] theorem execVerdPost_memWf (t : Nat) (gd ga : Reg) (sel : BitVec 14) (flt : Nat) : MemWf (execVerdPost t gd ga sel flt s) := by
  simp only [execVerdPost]; grind [State.postBlock_memWf, State.verd_memWf, instr_memWf]

@[simp] theorem execVerdSeal_memWf (t : Nat) (gd ga : Reg) (sel : BitVec 14) (flt : Nat) : MemWf (execVerdSeal t gd ga sel flt s) := by
  simp [execVerdSeal, h]

@[simp] theorem State.closeBlock_memWf (t : Nat) (gd : Reg) (p : Nat) (b : List Byte) : Memory.wf (s.closeBlock t gd p b).mem = true := by
  simp only [State.closeBlock]; (repeat' split) <;> simp [h]

@[simp] theorem execVerdClose_memWf (t : Nat) (gd ga : Reg) (sel : BitVec 14) (flt : Nat) : MemWf (execVerdClose t gd ga sel flt s) := by
  simp only [execVerdClose]; grind [State.closeBlock_memWf, State.verd_memWf, instr_memWf]

@[simp] theorem execDieAcquired_memWf (e : Nat) : MemWf (execDieAcquired e s) := by
  simp [execDieAcquired, h]

@[simp] theorem execDieForce_memWf (e : Nat) : MemWf (execDieForce e s) := by
  simp only [execDieForce]; (repeat' split) <;> simp [h]

@[simp] theorem execVerdictRecordWrite_memWf (r : Nat) : MemWf (execVerdictRecordWrite r s) := by
  simp [execVerdictRecordWrite, h]

@[simp] theorem State.readCons_memWf (r : Nat) : Memory.wf (s.readCons r).mem = true := by
  simp [State.readCons, h]

@[simp] theorem State.readEvCons_memWf (f : Nat) : Memory.wf (s.readEvCons f).mem = true := by
  simp [State.readEvCons, h]

@[simp] theorem execConsumerIndexRead_memWf (r : Nat) : MemWf (execConsumerIndexRead r s) := by
  simp only [execConsumerIndexRead]; (repeat' split) <;> simp [h]

@[simp] theorem execInterruptModerationExpiry_memWf (r : Nat) : MemWf (execInterruptModerationExpiry r s) := by
  simp [execInterruptModerationExpiry, h]

end

end Sys2Proof.Machine
end

section
/-! Laws of memory: what every operation of Machine/Sched.lean leaves of it, and that its form is kept. -/

namespace Sys2Proof.Machine

open Sys2Proof

@[simp] theorem State.learn_mem (s : State) (c x : Nat) : (s.learn c x).mem = s.mem := by
  simp only [State.learn]; (repeat' split) <;> simp

@[simp] theorem State.dequeue_mem (s : State) (j : Job) : (s.dequeue j).mem = s.mem := by
  simp [State.dequeue]

section
variable {s : State} (h : Memory.wf s.mem = true)
include h

@[simp] theorem State.reseed_memWf (p : Nat) : Memory.wf (s.reseed p).mem = true := by
  refine foldl_memWf _ _ _ (fun s i hs => ?_) h
  have hm := State.readModel_memWf hs p i 0
  split <;> simp_all

@[simp] theorem State.take_memWf (c x mflt : Nat) (j : Job) : Memory.wf (s.take c x mflt j).mem = true := by
  have hm : Memory.wf ((s.dequeue j).readModel j.part j.entry mflt).1.mem = true := by simp [h]
  simp only [State.take]; (repeat' split) <;> simp_all

@[simp] theorem execJobTake_memWf (c x mflt : Nat) : MemWf (execJobTake c x mflt s) := by
  simp only [execJobTake]; (repeat' split) <;> simp [h]

@[simp] theorem State.inningsEnd_memWf (c : Nat) : Memory.wf (s.inningsEnd c).mem = true := by
  simp only [State.inningsEnd]; (repeat' split) <;> simp [h]

@[simp] theorem execInningsBoundary_memWf (c : Nat) : MemWf (execInningsBoundary c s) := by
  simp only [execInningsBoundary]; (repeat' split) <;> simp [h]

@[simp] theorem execPreemptTileBoundary_memWf (c : Nat) : MemWf (execPreemptTileBoundary c s) := by
  simp only [execPreemptTileBoundary]; (repeat' split) <;> simp [h]

@[simp] theorem State.overrun_memWf (t : Nat) : Memory.wf (s.overrun t).mem = true := by
  simp [State.overrun, h]

@[simp] theorem execOverrunFault_memWf (uid : Nat) : MemWf (execOverrunFault uid s) := by
  simp only [execOverrunFault]; (repeat' split) <;> simp [h]

@[simp] theorem execHoldFault_memWf (c k : Nat) : MemWf (execHoldFault c k s) := by
  simp only [execHoldFault]; (repeat' split) <;> simp [h]

@[simp] theorem execAgeLimitExpiry_memWf (p jseq : Nat) : MemWf (execAgeLimitExpiry p jseq s) := by
  simp only [execAgeLimitExpiry]; (repeat' split) <;> simp [h]

end

end Sys2Proof.Machine
end

section
/-! Laws of memory: what every operation of Machine/Scalar.lean leaves of it, and that its form is kept. -/

namespace Sys2Proof.Machine

open Sys2Proof

@[simp] theorem State.rr_mem (s : State) (t : Nat) (gd ga gb : Reg) (f : W64 → W64 → W64) : (s.rr t gd ga gb f).mem = s.mem := by
  simp [State.rr]

@[simp] theorem State.ri_mem (s : State) (t : Nat) (gd ga : Reg) (f : W64 → W64) : (s.ri t gd ga f).mem = s.mem := by
  simp [State.ri]

@[simp] theorem State.branch_mem (s : State) (t : Nat) (p : BitVec 3) (n : Bool) (off : BitVec 21) : (s.branch t p n off).mem = s.mem := by
  simp only [State.branch]; (repeat' split) <;> simp

section
variable {s : State} (h : Memory.wf s.mem = true)
include h

@[simp] theorem State.r1_memWf (t : Nat) (gd ga gb : Reg) (func : Nat) (f : W64 → W64) : Memory.wf (s.r1 t gd ga gb func f).mem = true := by
  simp [State.r1, h]

@[simp] theorem State.cmp_memWf (t : Nat) (gd ga gb : Reg) (func : Nat) (f : W64 → W64 → Bool) :
    Memory.wf (s.cmp t gd ga gb func f).mem = true := by
  simp [State.cmp, h]

@[simp] theorem State.plog_memWf (t : Nat) (gd ga gb : Reg) (func : Nat) (f : Bool → Bool → Bool) :
    Memory.wf (s.plog t gd ga gb func f).mem = true := by
  simp [State.plog, h]

@[simp] theorem execAdd_memWf (th : Nat) (gd ga gb : Reg) : MemWf (execAdd th gd ga gb s) := by
  simp [execAdd, h]

@[simp] theorem execSub_memWf (th : Nat) (gd ga gb : Reg) : MemWf (execSub th gd ga gb s) := by
  simp [execSub, h]

@[simp] theorem execAnd_memWf (th : Nat) (gd ga gb : Reg) : MemWf (execAnd th gd ga gb s) := by
  simp [execAnd, h]

@[simp] theorem execOr_memWf (th : Nat) (gd ga gb : Reg) : MemWf (execOr th gd ga gb s) := by
  simp [execOr, h]

@[simp] theorem execXor_memWf (th : Nat) (gd ga gb : Reg) : MemWf (execXor th gd ga gb s) := by
  simp [execXor, h]

@[simp] theorem execAndn_memWf (th : Nat) (gd ga gb : Reg) : MemWf (execAndn th gd ga gb s) := by
  simp [execAndn, h]

@[simp] theorem execSll_memWf (th : Nat) (gd ga gb : Reg) : MemWf (execSll th gd ga gb s) := by
  simp [execSll, h]

@[simp] theorem execSrl_memWf (th : Nat) (gd ga gb : Reg) : MemWf (execSrl th gd ga gb s) := by
  simp [execSrl, h]

@[simp] theorem execSra_memWf (th : Nat) (gd ga gb : Reg) : MemWf (execSra th gd ga gb s) := by
  simp [execSra, h]

@[simp] theorem execRor_memWf (th : Nat) (gd ga gb : Reg) : MemWf (execRor th gd ga gb s) := by
  simp [execRor, h]

@[simp] theorem execMin_memWf (th : Nat) (gd ga gb : Reg) : MemWf (execMin th gd ga gb s) := by
  simp [execMin, h]

@[simp] theorem execMax_memWf (th : Nat) (gd ga gb : Reg) : MemWf (execMax th gd ga gb s) := by
  simp [execMax, h]

@[simp] theorem execMinu_memWf (th : Nat) (gd ga gb : Reg) : MemWf (execMinu th gd ga gb s) := by
  simp [execMinu, h]

@[simp] theorem execMaxu_memWf (th : Nat) (gd ga gb : Reg) : MemWf (execMaxu th gd ga gb s) := by
  simp [execMaxu, h]

@[simp] theorem execClz_memWf (th : Nat) (gd ga gb : Reg) : MemWf (execClz th gd ga gb s) := by
  simp [execClz, h]

@[simp] theorem execPopc_memWf (th : Nat) (gd ga gb : Reg) : MemWf (execPopc th gd ga gb s) := by
  simp [execPopc, h]

@[simp] theorem execSx48_memWf (th : Nat) (gd ga gb : Reg) : MemWf (execSx48 th gd ga gb s) := by
  simp [execSx48, h]

@[simp] theorem execZx48_memWf (th : Nat) (gd ga gb : Reg) : MemWf (execZx48 th gd ga gb s) := by
  simp [execZx48, h]

@[simp] theorem execMul_memWf (th : Nat) (gd ga gb : Reg) : MemWf (execMul th gd ga gb s) := by
  simp [execMul, h]

@[simp] theorem execMulh_memWf (th : Nat) (gd ga gb : Reg) : MemWf (execMulh th gd ga gb s) := by
  simp [execMulh, h]

@[simp] theorem execMulhu_memWf (th : Nat) (gd ga gb : Reg) : MemWf (execMulhu th gd ga gb s) := by
  simp [execMulhu, h]

@[simp] theorem execDiv_memWf (th : Nat) (gd ga gb : Reg) : MemWf (execDiv th gd ga gb s) := by
  simp [execDiv, h]

@[simp] theorem execDivu_memWf (th : Nat) (gd ga gb : Reg) : MemWf (execDivu th gd ga gb s) := by
  simp [execDivu, h]

@[simp] theorem execRem_memWf (th : Nat) (gd ga gb : Reg) : MemWf (execRem th gd ga gb s) := by
  simp [execRem, h]

@[simp] theorem execRemu_memWf (th : Nat) (gd ga gb : Reg) : MemWf (execRemu th gd ga gb s) := by
  simp [execRemu, h]

@[simp] theorem execCmpeq_memWf (th : Nat) (gd ga gb : Reg) : MemWf (execCmpeq th gd ga gb s) := by
  simp [execCmpeq, h]

@[simp] theorem execCmpne_memWf (th : Nat) (gd ga gb : Reg) : MemWf (execCmpne th gd ga gb s) := by
  simp [execCmpne, h]

@[simp] theorem execCmplt_memWf (th : Nat) (gd ga gb : Reg) : MemWf (execCmplt th gd ga gb s) := by
  simp [execCmplt, h]

@[simp] theorem execCmpge_memWf (th : Nat) (gd ga gb : Reg) : MemWf (execCmpge th gd ga gb s) := by
  simp [execCmpge, h]

@[simp] theorem execCmpltu_memWf (th : Nat) (gd ga gb : Reg) : MemWf (execCmpltu th gd ga gb s) := by
  simp [execCmpltu, h]

@[simp] theorem execCmpgeu_memWf (th : Nat) (gd ga gb : Reg) : MemWf (execCmpgeu th gd ga gb s) := by
  simp [execCmpgeu, h]

@[simp] theorem execPand_memWf (th : Nat) (gd ga gb : Reg) : MemWf (execPand th gd ga gb s) := by
  simp [execPand, h]

@[simp] theorem execPor_memWf (th : Nat) (gd ga gb : Reg) : MemWf (execPor th gd ga gb s) := by
  simp [execPor, h]

@[simp] theorem execPxor_memWf (th : Nat) (gd ga gb : Reg) : MemWf (execPxor th gd ga gb s) := by
  simp [execPxor, h]

@[simp] theorem execPandn_memWf (th : Nat) (gd ga gb : Reg) : MemWf (execPandn th gd ga gb s) := by
  simp [execPandn, h]

@[simp] theorem execSel_memWf (th : Nat) (gd ga gb : Reg) (p : BitVec 3) : MemWf (execSel th gd ga gb p s) := by
  simp [execSel, h]

@[simp] theorem execAddi_memWf (th : Nat) (gd ga : Reg) (imm : W16) : MemWf (execAddi th gd ga imm s) := by
  simp [execAddi, h]

@[simp] theorem execAndi_memWf (th : Nat) (gd ga : Reg) (imm : W16) : MemWf (execAndi th gd ga imm s) := by
  simp [execAndi, h]

@[simp] theorem execOri_memWf (th : Nat) (gd ga : Reg) (imm : W16) : MemWf (execOri th gd ga imm s) := by
  simp [execOri, h]

@[simp] theorem execXori_memWf (th : Nat) (gd ga : Reg) (imm : W16) : MemWf (execXori th gd ga imm s) := by
  simp [execXori, h]

@[simp] theorem execSeth_memWf (th : Nat) (gd ga : Reg) (imm : W16) : MemWf (execSeth th gd ga imm s) := by
  simp only [execSeth]; (repeat' split) <;> simp [h]

@[simp] theorem execInsh_memWf (th : Nat) (gd ga : Reg) (imm : W16) : MemWf (execInsh th gd ga imm s) := by
  simp only [execInsh]; (repeat' split) <;> simp [h]

@[simp] theorem execCmpi_memWf (th : Nat) (gd ga : Reg) (imm : W16) : MemWf (execCmpi th gd ga imm s) := by
  simp [execCmpi, h]

@[simp] theorem execShi_memWf (th : Nat) (gd ga : Reg) (imm : W16) : MemWf (execShi th gd ga imm s) := by
  simp only [execShi]; (repeat' split) <;> simp [h]

@[simp] theorem execB_memWf (th : Nat) (p : BitVec 3) (n z : Bool) (off : BitVec 21) : MemWf (execB th p n z off s) := by
  simp only [execB]; (repeat' split) <;> simp [h]

@[simp] theorem execBl_memWf (th : Nat) (p : BitVec 3) (n z : Bool) (off : BitVec 21) : MemWf (execBl th p n z off s) := by
  simp only [execBl]; (repeat' split) <;> simp [h]

@[simp] theorem execJr_memWf (th : Nat) (gd ga gb : Reg) (fn : BitVec 11) : MemWf (execJr th gd ga gb fn s) := by
  simp only [execJr]; (repeat' split) <;> simp [h]

end

end Sys2Proof.Machine
end

section
/-! Laws of memory: what every operation of Machine/System.lean leaves of it, and that its form is kept. -/

namespace Sys2Proof.Machine

open Sys2Proof

@[simp] theorem State.syWrite_mem (s : State) (t n : Nat) (v : W64) : (s.syWrite t n v).mem = s.mem := by
  simp only [State.syWrite]; (repeat' split) <;> simp

@[simp] theorem State.holdAt_mem (s : State) (t : Nat) (w : Wait) : (s.holdAt t w).mem = s.mem := by
  simp only [State.holdAt]; (repeat' split) <;> simp

@[simp] theorem State.joinSem_mem (s : State) (k t : Nat) : (s.joinSem k t).mem = s.mem := by
  simp [State.joinSem]

@[simp] theorem State.parm_mem (s : State) (t : Nat) (gd : Reg) (k : Nat) (b : List Byte) : (s.parm t gd k b).mem = s.mem := by
  simp only [State.parm]; (repeat' split) <;> simp

@[simp] theorem State.restartPair_mem (s : State) : s.restartPair.mem = s.mem := by
  simp [State.restartPair]

section
variable {s : State} (h : Memory.wf s.mem = true)
include h

@[simp] theorem execMfs_memWf (th : Nat) (gd ga : Reg) (n : BitVec 12) : MemWf (execMfs th gd ga n s) := by
  simp only [execMfs]; (repeat' split) <;> simp [h]

@[simp] theorem execMts_memWf (th : Nat) (_gd ga : Reg) (n : BitVec 12) : MemWf (execMts th _gd ga n s) := by
  simp only [execMts]; (repeat' split) <;> simp [h]

@[simp] theorem execFence_memWf (th : Nat) (gd ga : Reg) (k : BitVec 12) : MemWf (execFence th gd ga k s) := by
  simp only [execFence]; (repeat' split) <;> simp [h]

@[simp] theorem execEret_memWf (th : Nat) (gd ga : Reg) (z : BitVec 12) : MemWf (execEret th gd ga z s) := by
  simp (disch := simp [h]) [execEret]

@[simp] theorem execBrk_memWf (th : Nat) (_gd _ga : Reg) (n : BitVec 12) : MemWf (execBrk th _gd _ga n s) := by
  simp [execBrk, h]

@[simp] theorem execYieldInnings_memWf (th : Nat) (gd ga : Reg) (z : BitVec 11) : MemWf (execYieldInnings th gd ga z s) := by
  simp only [execYieldInnings]; (repeat' split) <;> simp [h]

@[simp] theorem execYieldEnd_memWf (th : Nat) (gd ga : Reg) (z : BitVec 11) : MemWf (execYieldEnd th gd ga z s) := by
  simp only [execYieldEnd]; (repeat' split) <;> simp [h]

@[simp] theorem execCaprd_memWf (th : Nat) (gd ga : Reg) (n : BitVec 12) : MemWf (execCaprd th gd ga n s) := by
  simp only [execCaprd]; (repeat' split) <;> simp [h]

@[simp] theorem execTwait_memWf (th : Nat) (gd ga : Reg) (z : BitVec 11) (eta : Nat) : MemWf (execTwait th gd ga z eta s) := by
  simp only [execTwait]
  grind [State.evalCtx_memWf, State.holdAt_mem, State.illegal_memWf, State.nextPc_mem, State.raise_memWf, State.retG_mem, instr_memWf]

@[simp] theorem execTwaitTry_memWf (th : Nat) (gd ga : Reg) (z : BitVec 11) : MemWf (execTwaitTry th gd ga z s) := by
  simp only [execTwaitTry]; (repeat' split) <;> simp [h]

@[simp] theorem State.withSem_memWf (t : Nat) (ga : Reg) (g : Bool) (base : Byte) (f : State → Nat → W64 → State)
    (hf : ∀ k n, Memory.wf (f s k n).mem = true) : Memory.wf (s.withSem t ga g base f).mem = true := by
  unfold State.withSem
  exact ite_memWf _ _ _ (by simp [h]) (hf _ _)

@[simp] theorem execSemacq_memWf (th : Nat) (gd ga : Reg) (g : Bool) (z : BitVec 4) (base : Byte) :
    MemWf (execSemacq th gd ga g z base s) := by
  simp only [execSemacq]
  grind [State.block_mem, State.grant_mem, State.illegal_memWf, State.joinSem_mem, State.nextPc_mem, State.raise_memWf, State.retG_mem,
    State.withSem_memWf, instr_memWf]

@[simp] theorem execSemacqTry_memWf (th : Nat) (gd ga : Reg) (g : Bool) (z : BitVec 4) (base : Byte) :
    MemWf (execSemacqTry th gd ga g z base s) := by
  simp only [execSemacqTry]; (repeat' split) <;> simp (disch := simp [h])

@[simp] theorem execSemrel_memWf (th : Nat) (gd ga : Reg) (g t : Bool) (z : BitVec 4) (base : Byte) :
    MemWf (execSemrel th gd ga g t z base s) := by
  simp only [execSemrel]; (repeat' split) <;> simp (disch := simp (disch := simp [h]) [h])

@[simp] theorem execPwaitPosition_memWf (th : Nat) (gd ga : Reg) (falling : Bool) (ax : BitVec 2) (scan z : Bool) (tmo : BitVec 10) :
    MemWf (execPwaitPosition th gd ga falling ax scan z tmo s) := by
  simp only [execPwaitPosition]; (repeat' split) <;> simp (disch := simp [h])

@[simp] theorem execPwaitSlot_memWf (th : Nat) (gd ga : Reg) (ax : BitVec 2) (scan z : Bool) (tmo : BitVec 10) :
    MemWf (execPwaitSlot th gd ga ax scan z tmo s) := by
  simp only [execPwaitSlot]; (repeat' split) <;> simp (disch := simp [h])

@[simp] theorem execPwaitTimeout_memWf (th : Nat) : MemWf (execPwaitTimeout th s) := by
  simp only [execPwaitTimeout]; (repeat' split) <;> simp [h]

@[simp] theorem execParm_memWf (th : Nat) (gd ga : Reg) (sel : BitVec 16) (flt : Nat) : MemWf (execParm th gd ga sel flt s) := by
  simp only [execParm]; (repeat' split) <;> simp [h]

@[simp] theorem State.setJob_memWf (t : Nat) (j : Job) : Memory.wf (s.setJob t j).mem = true := by
  simp [State.setJob, h]

@[simp] theorem State.dlset_memWf (t : Nat) (gd ga : Reg) (z : BitVec 13) (mode : Nat) (d bad : Bool) (f : Job → W64 → Job) :
    Memory.wf (s.dlset t gd ga z mode d bad f).mem = true := by
  simp only [State.dlset]; (repeat' split) <;> simp [h]

@[simp] theorem execDlsetExplicit_memWf (th : Nat) (gd ga : Reg) (z : BitVec 13) (d : Bool) : MemWf (execDlsetExplicit th gd ga z d s) := by
  simp [execDlsetExplicit, h]

@[simp] theorem execDlsetDefault_memWf (th : Nat) (gd ga : Reg) (z : BitVec 13) (d : Bool) : MemWf (execDlsetDefault th gd ga z d s) := by
  simp [execDlsetDefault, h]

@[simp] theorem execDlsetNone_memWf (th : Nat) (gd ga : Reg) (z : BitVec 13) (d : Bool) : MemWf (execDlsetNone th gd ga z d s) := by
  simp [execDlsetNone, h]

@[simp] theorem execReservedOpcode_memWf (th : Nat) (w : W32) : MemWf (execReservedOpcode th w s) := by
  simp only [execReservedOpcode]; (repeat' split) <;> simp [h]

@[simp] theorem execLockstepMismatch_memWf : MemWf (execLockstepMismatch s) := by
  simp only [execLockstepMismatch]; (repeat' split) <;> simp [h]

@[simp] theorem execSupervisorRestart_memWf : MemWf (execSupervisorRestart s) := by
  simp [execSupervisorRestart, h]

end

end Sys2Proof.Machine
end

section
/-! Laws of memory: what every operation of Machine/Ingest.lean leaves of it, and that its form is kept. -/

namespace Sys2Proof.Machine

open Sys2Proof

@[simp] theorem State.expireFires_mem (s : State) (k : Nat) : (s.expireFires k).mem = s.mem := by
  simp only [State.expireFires]; (repeat' split) <;> simp

@[simp] theorem State.takeStamp_mem (s : State) (k arr : Nat) : (s.takeStamp k arr).2.mem = s.mem := by
  simp only [State.takeStamp]; (repeat' split) <;> simp

@[simp] theorem State.ringDrop_mem (s : State) (r : Nat) : (s.ringDrop r).mem = s.mem := by
  simp [State.ringDrop]

@[simp] theorem State.conCfgWrite_mem (s : State) (n : Nat) (new : W64) : (s.conCfgWrite n new).mem = s.mem := by
  simp only [State.conCfgWrite]; (repeat' split) <;> simp

@[simp] theorem State.bufWrite_mem (s : State) (reg : Nat → Nat) (off : Nat) (bs : List Byte) : (s.bufWrite reg off bs).mem = s.mem := by
  simp [State.bufWrite]

@[simp] theorem State.bufPut_mem (s : State) (ptr : Nat) (reg : Nat → Nat) (bs : List Byte) : (s.bufPut ptr reg bs).2.mem = s.mem := by
  simp only [State.bufPut]; (repeat' split) <;> simp

@[simp] theorem State.ctlWrite_mem (s : State) (k : Nat) (new : W64) (send : Bool) : (s.ctlWrite k new send).mem = s.mem := by
  simp only [State.ctlWrite]; (repeat' split) <;> simp

@[simp] theorem State.jesCfgWrite_mem (s : State) (new : W64) : (s.jesCfgWrite new).mem = s.mem := by
  simp only [State.jesCfgWrite]; (repeat' split) <;> simp

section
variable {s : State} (h : Memory.wf s.mem = true)
include h

@[simp] theorem State.ringWrite_memWf (r off : Nat) (bs : List Byte) : Memory.wf (s.ringWrite r off bs).mem = true := by
  simp only [State.ringWrite]; (repeat' split) <;> simp [h]

@[simp] theorem State.ringPut_memWf (r : Nat) (entry : List Byte) : Memory.wf (s.ringPut r entry).mem = true := by
  simp only [State.ringPut]; (repeat' split) <;> simp [h]

@[simp] theorem State.calLoadNow_memWf (t : Nat) : Memory.wf (s.calLoadNow t).mem = true := by
  simp only [State.calLoadNow]; (repeat' split) <;> simp [h]

@[simp] theorem State.calStoreNow_memWf (t : Nat) : Memory.wf (s.calStoreNow t).mem = true := by
  simp only [State.calStoreNow]; grind [State.setCal_memory, State.writeMem_memWf]

@[simp] theorem State.calLoad_memWf (t : Nat) : Memory.wf (s.calLoad t).mem = true := by
  simp [State.calLoad, h]

@[simp] theorem State.calCtl_memWf (t : Nat) (v : W64) : Memory.wf (s.calCtl t v).mem = true := by
  simp only [State.calCtl]; (repeat' split) <;> simp [h]

@[simp] theorem State.calDue_memWf (t : Nat) : Memory.wf (s.calDue t).mem = true := by
  simp only [State.calDue]; (repeat' split) <;> simp [h]

@[simp] theorem State.camFresh_memWf (k : Nat) : Memory.wf (s.camFresh k).mem = true := by
  simp [State.camFresh, h]

@[simp] theorem State.camCfgWrite_memWf (k : Nat) (new : W64) : Memory.wf (s.camCfgWrite k new).mem = true := by
  simp only [State.camCfgWrite]; (repeat' split) <;> simp [h]

@[simp] theorem State.ingCfgWrite_memWf (k : Nat) (new : W64) : Memory.wf (s.ingCfgWrite k new).mem = true := by
  simp only [State.ingCfgWrite]; (repeat' split) <;> simp [h]

@[simp] theorem State.windowEnd_memWf (t : Nat) : Memory.wf (s.windowEnd t).mem = true := by
  simp [State.windowEnd, h]

@[simp] theorem State.lineBoundary_memWf (t : Nat) (h : Hdr) (l : LineBuf) (fmt : Nat) (bg : Bool) (pix : List Nat) :
    Memory.wf (s.lineBoundary t h l fmt bg pix).mem = true := by
  simp only [State.lineBoundary]; grind [State.calDue_memWf, State.inc_memory, State.setCal_memory, State.windowEnd_memWf]

@[simp] theorem State.lineEnd_memWf (k : Nat) : Memory.wf (s.lineEnd k).mem = true := by
  simp only [State.lineEnd]; (repeat' split) <;> simp [h]

@[simp] theorem State.header_memWf (k arr : Nat) (ok rect : Bool) (fmts : List Nat) (w d : Nat) :
    Memory.wf (s.header k arr ok rect fmts w d).mem = true := by
  have hl := State.lineEnd_memWf h k
  simp only [State.header]; (repeat' split) <;> simp [hl]

@[simp] theorem State.newLine_memWf (k arr plane : Nat) (dmg inc : Bool) : Memory.wf (s.newLine k arr plane dmg inc).mem = true := by
  simp only [State.newLine]; (repeat' split) <;> simp [h]

@[simp] theorem State.pixels_memWf (k x : Nat) (vals : List Nat) : Memory.wf (s.pixels k x vals).mem = true := by
  simp only [State.pixels]; (repeat' split) <;> simp [h]

@[simp] theorem State.lostMarker_memWf (k arr x : Nat) (dmg : Bool) : Memory.wf (s.lostMarker k arr x dmg).mem = true := by
  simp only [State.lostMarker]; (repeat' split) <;> simp [h]

@[simp] theorem State.items_memWf (arr : Nat) (p : StreamPacket) : Memory.wf (s.items arr p).mem = true := by
  simp only [State.items]
  refine foldl_memWf _ _ _ (fun s t hs => by split <;> simp [hs]) ?_
  refine ite_memWf _ _ _ (State.lineEnd_memWf ?_ _) ?_
  all_goals
    refine foldl_memWf _ _ _ (fun s i hs => ?_) h
    cases i with
    | header ok rect fmts w h => simp [hs]
    | line plane => simp [hs]
    | pixels x vals =>
      refine State.pixels_memWf ?_ ..
      split <;> simp [hs]

@[simp] theorem State.camRecord_memWf (k : Nat) : Memory.wf (s.camRecord k).mem = true := by
  simp only [State.camRecord]; (repeat' split) <;> simp [h]

@[simp] theorem State.conRecord_memWf (n k : Nat) : Memory.wf (s.conRecord n k).mem = true := by
  simp only [State.conRecord]; (repeat' split) <;> simp [h]

@[simp] theorem State.deliver_memWf (k n : Nat) : Memory.wf (s.deliver k n).mem = true := by
  induction n generalizing s with
  | zero => exact h
  | succ n ih =>
    simp only [State.deliver]; split
    · exact h
    · refine ih (State.items_memWf ?_ ..)
      split <;> simp [h]

@[simp] theorem State.streamPacket_memWf (p : StreamPacket) : Memory.wf (s.streamPacket p).mem = true := by
  simp only [State.streamPacket]; (repeat' split) <;> simp [h]

@[simp] theorem execCxpStreamPacket_memWf (p : StreamPacket) : MemWf (execCxpStreamPacket p s) := by
  simp [execCxpStreamPacket, h]

@[simp] theorem execCxpLockLoss_memWf (n : Nat) : MemWf (execCxpLockLoss n s) := by
  unfold execCxpLockLoss; split
  · simp only [memWf_next]
    refine ite_memWf _ _ _ h (foldl_memWf _ _ _ (fun s k hs => ?_) (by simp [h]))
    split <;> simp [hs]
  · simp

@[simp] theorem execCxpLockAcquire_memWf (n : Nat) : MemWf (execCxpLockAcquire n s) := by
  simp [execCxpLockAcquire, h]

@[simp] theorem execUplinkTriggerRising_memWf (k b fin : Nat) : MemWf (execUplinkTriggerRising k b fin s) := by
  simp [execUplinkTriggerRising, h]

@[simp] theorem execUplinkTriggerFalling_memWf (k b fin : Nat) : MemWf (execUplinkTriggerFalling k b fin s) := by
  simp [execUplinkTriggerFalling, h]

@[simp] theorem execControlReceive_memWf (k : Nat) (payload : List Byte) : MemWf (execControlReceive k payload s) := by
  unfold execControlReceive; split
  · rw [memWf_next]; split
    · exact h
    · split
      · next e => exact memWf_of_snd e (by simp [h])
      · next e => simp [memWf_of_snd e (by simp [h])]
  · simp

@[simp] theorem execEventPacketReceive_memWf (k : Nat) (payload : List Byte) : MemWf (execEventPacketReceive k payload s) := by
  unfold execEventPacketReceive; split
  · rw [memWf_next]; split
    · exact h
    · split
      · next e => exact memWf_of_snd e (by simp [h])
      · next e => simp [memWf_of_snd e (by simp [h])]
  · simp

@[simp] theorem execHeartbeat_memWf (k : Nat) : MemWf (execHeartbeat k s) := by
  simp [execHeartbeat, h]

@[simp] theorem execFireRecordExpire_memWf (k : Nat) : MemWf (execFireRecordExpire k s) := by
  simp only [execFireRecordExpire]; (repeat' split) <;> simp [h]

@[simp] theorem execSysrefEdge_memWf (phase : Nat) : MemWf (execSysrefEdge phase s) := by
  simp only [execSysrefEdge]; (repeat' split) <;> simp [h]

@[simp] theorem execJesdLaneLock_memWf : MemWf (execJesdLaneLock s) := by
  simp only [execJesdLaneLock]; (repeat' split) <;> simp [h]

@[simp] theorem execJesdLockLoss_memWf (l : Nat) : MemWf (execJesdLockLoss l s) := by
  simp [execJesdLockLoss, h]

@[simp] theorem State.laneRecord_memWf (l : Nat) : Memory.wf (s.laneRecord l).mem = true := by
  simp only [State.laneRecord]; (repeat' split) <;> simp [h]

@[simp] theorem State.jesBlock_memWf (a : Nat) (samples : List W16) (bad : List Nat) : Memory.wf (s.jesBlock a samples bad).mem = true := by
  refine State.ringPut_memWf ?_ ..
  refine foldl_memWf _ _ _ (fun s l hs => ?_) h
  simp [hs]

@[simp] theorem execJesdBlockComplete_memWf (age : Nat) (samples : List W16) (crcLanes : List Nat) :
    MemWf (execJesdBlockComplete age samples crcLanes s) := by
  simp [execJesdBlockComplete, h]

end

end Sys2Proof.Machine
end

section
/-! Laws of memory: what every operation of Machine/Fabric.lean leaves of it, and that its form is kept. -/

namespace Sys2Proof.Machine

open Sys2Proof

@[simp] theorem State.setPortState_mem (s : State) (q n : Nat) : (s.setPortState q n).mem = s.mem := by
  simp only [State.setPortState]; (repeat' split) <;> simp

@[simp] theorem State.routeReset_mem (s : State) : s.routeReset.mem = s.mem := by
  simp [State.routeReset]

@[simp] theorem State.fabCfgWrite_mem (s : State) (new : W64) : (s.fabCfgWrite new).mem = s.mem := by
  simp only [State.fabCfgWrite]; (repeat' split) <;> simp

@[simp] theorem State.queueAt_mem (s : State) (q : Option Nat) (b : Block) : (s.queueAt q b).mem = s.mem := by
  simp only [State.queueAt]; (repeat' split) <;> simp

@[simp] theorem State.sendOn_mem (s : State) (din : Nat) (b : Block) : (s.sendOn din b).mem = s.mem := by
  simp only [State.sendOn]; (repeat' split) <;> simp

@[simp] theorem State.seal_mem (s : State) (p : Nat) (b : Block) : (s.seal p b).2.mem = s.mem := by
  simp only [State.seal]; (repeat' split) <;> simp

@[simp] theorem State.inject_mem (s : State) (p : Nat) (b : Block) : (s.inject p b).2.mem = s.mem := by
  simp only [State.inject]; grind [State.seal_mem, State.sendOn_mem]

@[simp] theorem State.fabKeySync_mem (s : State) (p : Nat) : (s.fabKeySync p).mem = s.mem := by
  simp [State.fabKeySync]

@[simp] theorem State.ctlWord_mem (s : State) (q k v : Nat) : (s.ctlWord q k v).mem = s.mem := by
  simp [State.ctlWord]

@[simp] theorem State.sendAck_mem (s : State) (q : Nat) : (s.sendAck q).mem = s.mem := by
  simp [State.sendAck]

@[simp] theorem State.credit_mem (s : State) (q : Nat) (b : Block) : (s.credit q b).mem = s.mem := by
  simp only [State.credit]; (repeat' split) <;> simp

@[simp] theorem State.place_mem (s : State) (q : Nat) (b : Block) : (s.place q b).mem = s.mem := by
  simp only [State.place]; (repeat' split) <;> simp

@[simp] theorem State.wire_mem (s : State) (b : Block) : (s.wire b).2.mem = s.mem := by
  simp only [State.wire]; (repeat' split) <;> simp

@[simp] theorem State.dropPos_mem (s : State) (q : Nat) : (s.dropPos q).mem = s.mem := by
  simp [State.dropPos]

@[simp] theorem State.portCfgWrite_mem (s : State) (q : Nat) (new : W64) : (s.portCfgWrite q new).mem = s.mem := by
  simp only [State.portCfgWrite]; (repeat' split) <;> simp

@[simp] theorem State.goUp_mem (s : State) (q : Nat) : (s.goUp q).mem = s.mem := by
  simp [State.goUp]

@[simp] theorem State.sendPos_mem (s : State) (dom d : Nat) (pay : List Byte) : (s.sendPos dom d pay).mem = s.mem := by
  simp [State.sendPos]

section
variable {s : State} (h : Memory.wf s.mem = true)
include h

@[simp] theorem State.fabAdvance_memWf (p : Nat) (retire force : Bool) : Memory.wf (s.fabAdvance p retire force).mem = true := by
  simp [State.fabAdvance, h]

@[simp] theorem State.fabEpochWrite_memWf (p : Nat) (v : W64) : Memory.wf (s.fabEpochWrite p v).mem = true := by
  simp [State.fabEpochWrite, h]

omit h in
@[simp] theorem State.onLanes_mem (s : State) (q : Nat) (f : State → Nat → State) (hf : ∀ s l, (f s l).mem = s.mem) :
    (s.onLanes q f).mem = s.mem :=
  foldl_mem _ _ _ fun s l => hf s (2 * q + l)

@[simp] theorem State.onLanes_memWf (q : Nat) (f : State → Nat → State)
    (hf : ∀ s l, Memory.wf s.mem = true → Memory.wf (f s l).mem = true) : Memory.wf (s.onLanes q f).mem = true :=
  foldl_memWf _ _ _ (fun s l => hf s (2 * q + l)) h

@[simp] theorem State.discard_memWf (q : Nat) : Memory.wf (s.discard q).mem = true := by
  have hl : Memory.wf (s.onLanes q fun s u => s.detect 12 u).mem = true := by simp +contextual [h]
  simp only [State.discard]; split <;> simp [hl]

@[simp] theorem State.blockIn_memWf (q : Nat) (b : Block) (crcOk : Bool) : Memory.wf (s.blockIn q b crcOk).mem = true := by
  simp only [State.blockIn]; (repeat' split) <;> simp +contextual [h]

@[simp] theorem execFabricBlockReceive_memWf (q : Nat) (blk : Block) (crcOk : Bool) : MemWf (execFabricBlockReceive q blk crcOk s) := by
  simp only [execFabricBlockReceive]; (repeat' split) <;> simp [h]

@[simp] theorem execAckReceive_memWf (q seq : Nat) : MemWf (execAckReceive q seq s) := by
  simp only [execAckReceive]; (repeat' split) <;> simp [h]

@[simp] theorem State.startReplay_memWf (q : Nat) : Memory.wf (s.startReplay q).mem = true := by
  simp only [State.startReplay]; (repeat' split)
  · exact h
  · simp [h]
  · exact State.onLanes_memWf (by simp [h]) _ _ fun s u hs => by simp [hs]

@[simp] theorem execNakReceive_memWf (q _seq : Nat) : MemWf (execNakReceive q _seq s) := by
  simp only [execNakReceive]; (repeat' split) <;> simp [h]

@[simp] theorem execReplayTimeout_memWf (q : Nat) : MemWf (execReplayTimeout q s) := by
  simp only [execReplayTimeout]; (repeat' split) <;> simp [h]

@[simp] theorem execAckDelayExpiry_memWf (q : Nat) : MemWf (execAckDelayExpiry q s) := by
  simp [execAckDelayExpiry, h]

@[simp] theorem execCreditReturn_memWf (q buf n : Nat) : MemWf (execCreditReturn q buf n s) := by
  simp [execCreditReturn, h]

@[simp] theorem State.blockOut_memWf (q tWait : Nat) : Memory.wf (s.blockOut q tWait).mem = true := by
  simp only [State.blockOut]; (repeat' split) <;> grind [State.dropPos_mem, State.inc_memory, State.setPort_memory, State.wire_mem]

@[simp] theorem execBlockSend_memWf (q tWait : Nat) : MemWf (execBlockSend q tWait s) := by
  simp only [execBlockSend]; (repeat' split) <;> simp [h]

@[simp] theorem execPortTrainingStart_memWf (q : Nat) : MemWf (execPortTrainingStart q s) := by
  simp [execPortTrainingStart, h]

@[simp] theorem execTrainingComplete_memWf (q nid nport w d : Nat) (loop : Bool) (rtt res : Nat) :
    MemWf (execTrainingComplete q nid nport w d loop rtt res s) := by
  simp only [execTrainingComplete]; (repeat' split) <;> simp [h]

@[simp] theorem execTrainingTimeout_memWf (q : Nat) : MemWf (execTrainingTimeout q s) := by
  simp only [execTrainingTimeout]; (repeat' split) <;> simp [h]

@[simp] theorem execFastRetrainComplete_memWf (q : Nat) (bit0 bit1 : Bool) (rtt res : Nat) :
    MemWf (execFastRetrainComplete q bit0 bit1 rtt res s) := by
  simp only [execFastRetrainComplete]; (repeat' split) <;> simp [h]

@[simp] theorem execEqRequest_memWf (q lane req : Nat) : MemWf (execEqRequest q lane req s) := by
  simp [execEqRequest, h]

@[simp] theorem execBcastInterval_memWf : MemWf (execBcastInterval s) := by
  simp only [execBcastInterval]; (repeat' split) <;> simp [h]

@[simp] theorem State.applyPos_memWf (q : Nat) (pay : List Byte) (t : Nat) : Memory.wf (s.applyPos q pay t).mem = true := by
  simp +contextual [State.applyPos, h]

@[simp] theorem State.posIn_memWf (q : Nat) (b : Block) (tApply tRes : Nat) : Memory.wf (s.posIn q b tApply tRes).mem = true := by
  simp only [State.posIn]; (repeat' split) <;> simp [h]

@[simp] theorem execPosPacketReceive_memWf (q tApply tRes : Nat) : MemWf (execPosPacketReceive q tApply tRes s) := by
  simp only [execPosPacketReceive]; (repeat' split) <;> simp [h]

end

end Sys2Proof.Machine
end

section
/-! Laws of memory: what every operation of Machine/HealthCmds.lean leaves of it, and that its form is kept. -/

namespace Sys2Proof.Machine

open Sys2Proof

@[simp] theorem State.thrWrite_mem (s : State) (k : Nat) (new : W64) : (s.thrWrite k new).mem = s.mem := by
  simp [State.thrWrite]

@[simp] theorem State.wdKick_mem (s : State) : s.wdKick.mem = s.mem := by
  simp [State.wdKick]

section
variable {s : State} (h : Memory.wf s.mem = true)
include h

@[simp] theorem execErrorWindowEnd_memWf (k u : Nat) : MemWf (execErrorWindowEnd k u s) := by
  simp [execErrorWindowEnd, h]

@[simp] theorem execSuspectExpiry_memWf (k u : Nat) : MemWf (execSuspectExpiry k u s) := by
  simp [execSuspectExpiry, h]

@[simp] theorem State.retWrite_memWf (k : Nat) (v : W64) : Memory.wf (s.retWrite k v).mem = true := by
  simp +contextual [State.retWrite, h]

@[simp] theorem execCheckpointDue_memWf : MemWf (execCheckpointDue s) := by
  simp [execCheckpointDue, h]

@[simp] theorem execWatchdogExpiry_memWf : MemWf (execWatchdogExpiry s) := by
  simp [execWatchdogExpiry, h]

@[simp] theorem State.scRestart_memWf (v : W64) : Memory.wf (s.scRestart v).mem = true := by
  simp [State.scRestart, h]

end

end Sys2Proof.Machine
end

section
/-! Laws of memory: what every operation of Machine/MemTiers.lean leaves of it, and that its form is kept. -/

namespace Sys2Proof.Machine

open Sys2Proof

@[simp] theorem State.sramClear_mem (s : State) (new : W64) : (s.sramClear new).mem = s.mem := by
  simp only [State.sramClear]; (repeat' split) <;> simp

@[simp] theorem State.scrubSync_mem (s : State) : s.scrubSync.mem = s.mem := by
  simp [State.scrubSync]

@[simp] theorem State.advanceRegion_mem (s : State) (r : Nat) : (s.advanceRegion r).mem = s.mem := by
  simp only [State.advanceRegion]; (repeat' split) <;> simp

@[simp] theorem State.scrubCmd_mem (s : State) (v : W64) : (s.scrubCmd v).mem = s.mem := by
  simp only [State.scrubCmd]; (repeat' split) <;> simp

@[simp] theorem State.evacuateNext_mem (s : State) : s.evacuateNext.mem = s.mem := by
  simp only [State.evacuateNext]; (repeat' split) <;> simp

section
variable {s : State} (h : Memory.wf s.mem = true)
include h

@[simp] theorem execSramClearDone_memWf : MemWf (execSramClearDone s) := by
  simp [execSramClearDone, h]

@[simp] theorem State.eraseBurst_memWf (la : Nat) : Memory.wf (s.eraseBurst la).mem = true := by
  simp +contextual [State.eraseBurst, h]

@[simp] theorem State.scrubRead_memWf (la : Nat) (fail : Bool) : Memory.wf (s.scrubRead la fail).mem = true := by
  simp only [State.scrubRead]; (repeat' split) <;> simp [h]

@[simp] theorem State.eraseScrub_memWf (a : Nat) (crcFail : Bool) : Memory.wf (s.eraseScrub a crcFail).mem = true := by
  simp only [State.eraseScrub]; (repeat' split) <;> simp (disch := simp [h]) [h]

@[simp] theorem execEraseScrubBurst_memWf (a : Nat) (crcFail : Bool) : MemWf (execEraseScrubBurst a crcFail s) := by
  simp [execEraseScrubBurst, h]

@[simp] theorem State.scrubEnd_memWf (r : Nat) : Memory.wf (s.scrubEnd r).mem = true := by
  have hk := Sparse.wf_keep _ (fun k => !s.staleKey r k) s.mem h
  refine foldl_memWf _ _ _ (fun s r hs => by simp [hs]) ?_
  simpa [Memory.wf] using hk

@[simp] theorem execEraseScrubComplete_memWf (r : Nat) : MemWf (execEraseScrubComplete r s) := by
  simp only [execEraseScrubComplete]; (repeat' split) <;> simp [h]

@[simp] theorem execPatrolScrub_memWf (a : Nat) (fail : Bool) : MemWf (execPatrolScrub a fail s) := by
  simp only [execPatrolScrub]; (repeat' split) <;> simp [h]

@[simp] theorem execChannelInitComplete_memWf (ch : Nat) : MemWf (execChannelInitComplete ch s) := by
  simp [execChannelInitComplete, h]

@[simp] theorem execRotationStart_memWf : MemWf (execRotationStart s) := by
  simp only [execRotationStart]; (repeat' split) <;> simp [h]

@[simp] theorem State.copyBurst_memWf (m : Mig) (bad : List Nat) (i : Nat) : Memory.wf (s.copyBurst m bad i).mem = true := by
  simp [State.copyBurst, h]

@[simp] theorem execMigrationUnitCopy_memWf (bad : List Nat) : MemWf (execMigrationUnitCopy bad s) := by
  simp only [execMigrationUnitCopy]; (repeat' split) <;> simp +contextual [h]

@[simp] theorem State.migDone_memWf (m : Mig) : Memory.wf (s.migDone m).mem = true := by
  simp only [State.migDone]; (repeat' split) <;> simp [h]

@[simp] theorem execMigrationComplete_memWf : MemWf (execMigrationComplete s) := by
  simp only [execMigrationComplete]; (repeat' split) <;> simp [h]

@[simp] theorem execRetrainComplete_memWf (ch : Nat) : MemWf (execRetrainComplete ch s) := by
  simp [execRetrainComplete, h]

@[simp] theorem State.unpin_memWf (p a : Nat) : Memory.wf (s.unpin p a).mem = true := by
  simp only [State.unpin]; (repeat' split) <;> simp [h]

end

end Sys2Proof.Machine
end

section
/-! Laws of memory: what every operation of Machine/TileIssue.lean leaves of it, and that its form is kept. -/

namespace Sys2Proof.Machine

open Sys2Proof

@[simp] theorem State.seedLoad_mem (s : State) (o : Op) (u : Nat) : (s.seedLoad o u).1.mem = s.mem := by
  simp only [State.seedLoad]; (repeat' split) <;> simp

@[simp] theorem State.accept_mem (s : State) (o : Op) : (s.accept o).mem = s.mem := by
  simp only [State.accept]; (repeat' split) <;> simp

end Sys2Proof.Machine
end

section
/-! Laws of memory: what every operation of Machine/Tensor.lean leaves of it, and that its form is kept. -/

namespace Sys2Proof.Machine

open Sys2Proof

@[simp] theorem State.modes_mem (s : State) (o : Op) (key : Nat) (need : List Nat) : (s.modes o key need).1.mem = s.mem := by
  simp only [State.modes]; (repeat' split) <;> simp

@[simp] theorem State.failedDraws_mem (s : State) (o : Op) (p : PieceRec) : (s.failedDraws o p).mem = s.mem := by
  simp only [State.failedDraws]; (repeat' split) <;> simp

@[simp] theorem State.convRows_mem (s : State) (o : Op) (d : Desc) (c : Option Scales) (same : Bool) (x : Ten) (p : PieceRec) :
    (s.convRows o d c same x p).1.mem = s.mem := by
  simp [State.convRows]

section
variable {s : State} (h : Memory.wf s.mem = true)
include h

@[simp] theorem State.opReadF_memWf (o : Op) (a n flt : Nat) : Memory.wf (s.opReadF o a n flt).s.mem = true := by
  simp only [State.opReadF]; (repeat' split) <;> simp [h]

@[simp] theorem State.opRead_memWf (o : Op) (a n : Nat) : Memory.wf (s.opRead o a n).s.mem = true := by
  simp [State.opRead, h]

@[simp] theorem State.spareWrite_memWf (tag d : Nat) (bs : List Byte) : Memory.wf (s.spareWrite tag d bs).mem = true := by
  unfold State.spareWrite; split
  · simp [h]
  · refine foldl_memWf _ _ _ (fun s i hs => ?_) h
    split <;> simp [hs]

@[simp] theorem State.opStore_memWf (o : Op) (a : Nat) (bs : List Byte) : Memory.wf (s.opStore o a bs).mem = true := by
  unfold State.opStore; (repeat' split) <;> simp [h]

@[simp] theorem State.readRow_memWf (o : Op) (d : Desc) (r : Nat × Nat × Nat) : Memory.wf (s.readRow o d r).1.mem = true := by
  simp [State.readRow, h]

@[simp] theorem State.readRaw_memWf (o : Op) (d : Desc) : Memory.wf (s.readRaw o d).1.mem = true := by
  refine List.foldlRecOn (motive := fun a : State × Option (List (List Nat)) => Memory.wf a.1.mem = true) _ _ h fun a ha r _ => ?_
  split <;> simp [ha]

@[simp] theorem State.writeRow_memWf (o : Op) (d : Desc) (r : Nat × Nat × Nat) (q : List Nat) :
    Memory.wf (s.writeRow o d r q).mem = true := by
  simp only [State.writeRow]; exact State.opStore_memWf h ..

@[simp] theorem State.readScales_memWf (o : Op) (d : Desc) : Memory.wf (s.readScales o d).1.mem = true := by
  simp [State.readScales, h]

@[simp] theorem State.decodeRows_memWf (o : Op) (d : Desc) (raw : List (List Nat)) : Memory.wf (s.decodeRows o d raw).1.mem = true := by
  simp only [State.decodeRows]; grind [State.readScales_memWf]

@[simp] theorem State.readTen_memWf (o : Op) (d : Desc) : Memory.wf (s.readTen o d).1.mem = true := by
  have hr := State.readRaw_memWf h o d
  unfold State.readTen; split <;> simp_all

@[simp] theorem State.convPiece_memWf (o : Op) (d : Desc) (same : Bool) (x : Ten) (a : Stored) (p : PieceRec) :
    Memory.wf (s.convPiece o d same x a p).1.mem = true := by
  simp only [State.convPiece]; (repeat' split) <;> simp [h]

@[simp] theorem State.writeTab_memWf (o : Op) (a : Nat) (new : List Byte) (keep : Nat → Bool) :
    Memory.wf (s.writeTab o a new keep).mem = true := by
  simp [State.writeTab, h]

@[simp] theorem State.scalesFor_memWf (o : Op) (d : Desc) (x : Ten) : Memory.wf (s.scalesFor o d x).1.mem = true := by
  simp only [State.scalesFor]; (repeat' split) <;> simp [h]

@[simp] theorem State.writeScales_memWf (o : Op) (d : Desc) (fixed : Bool) (k : Scales) (keep : Nat → Bool) :
    Memory.wf (s.writeScales o d fixed k keep).mem = true := by
  simp only [State.writeScales]; (repeat' split) <;> simp (disch := simp [h]) [h]

@[simp] theorem State.writeAmx_memWf (o : Op) (d : Desc) (x : Ten) (sc : Option Scales) (heavy : Bool) (keep : Nat → Bool) :
    Memory.wf (s.writeAmx o d x sc heavy keep).mem = true := by
  simp only [State.writeAmx]; (repeat' split) <;> simp [h]

@[simp] theorem State.convTen_memWf (o : Op) (d : Desc) (x : Ten) (pieces : List PieceRec) (keep : Nat → Bool) (same : Bool) :
    Memory.wf (s.convTen o d x pieces keep same).1.mem = true := by
  have hf := State.scalesFor_memWf h o d x
  have hp := List.foldlRecOn (motive := fun a : State × Stored => Memory.wf a.1.mem = true) pieces
    (fun a p => a.1.convPiece o d same x a.2 p) (b := ((s.scalesFor o d x).1, ⟨[], (s.scalesFor o d x).2.1, 0, false⟩)) hf
    fun a ha p _ => by simp [ha]
  unfold State.convTen
  dsimp only
  split
  · exact hf
  · have hw (l : List (Nat × List Conv)) : Memory.wf (l.foldl (fun (s : State) (q : Nat × List Conv) =>
        if keep q.1 then s.writeRow o d (d.rows.getD q.1 (0, 0, 0)) (q.2.map Conv.q) else s) _).mem = true :=
      foldl_memWf _ _ _ (fun s q hs => by split <;> simp [hs]) hp
    split
    · exact State.writeScales_memWf (hw _) ..
    · exact hw _

@[simp] theorem State.storeTen_memWf (o : Op) (d : Desc) (x : Ten) (pieces : List PieceRec) (keep : Nat → Bool) (same : Bool) :
    Memory.wf (s.storeTen o d x pieces keep same).1.mem = true := by
  have hc := State.convTen_memWf h o d x pieces keep same
  simp only [State.storeTen]; split
  · simp_all
  · next e => simp only [e] at hc; split <;> simp [hc]

end

end Sys2Proof.Machine
end

section
/-! Laws of memory: what every operation of Machine/Saffron.lean leaves of it, and that its form is kept. -/

namespace Sys2Proof.Machine

open Sys2Proof

section
variable {s : State} (h : Memory.wf s.mem = true)
include h

@[simp] theorem State.decStream_memWf (o : Op) (d : Desc) (bk : Book) (k : Nat) (l : Dec) :
    Memory.wf (s.decStream o d bk k l).1.mem = true := by
  induction k generalizing s l with
  | zero => exact h
  | succ k ih => simp only [State.decStream]; (repeat' split) <;> simp (disch := simp [h]) [h, ih]

@[simp] theorem State.readBook_memWf (o : Op) (d : Option Desc) : Memory.wf (s.readBook o d).1.mem = true := by
  simp only [State.readBook]; grind [State.readRaw_memWf]

@[simp] theorem State.readStream_memWf (o : Op) (d : Desc) (book : Option Desc) : Memory.wf (s.readStream o d book).1.mem = true := by
  have hb := State.readBook_memWf h o book
  unfold State.readStream; split
  · simp_all
  · next t bk e =>
    have hd := State.decStream_memWf (memWf_of_fst e hb) o d bk (d.str 1 + 1) dec0
    split <;> simp_all

end

end Sys2Proof.Machine
end

section
/-! Laws of memory: what every operation of Machine/Engines.lean leaves of it, and that its form is kept. -/

namespace Sys2Proof.Machine

open Sys2Proof

section
variable {s : State} (h : Memory.wf s.mem = true)
include h

omit h in
@[simp] theorem Eng.then_memWf {α β : Type} {e : Eng α} {f : State → α → Eng β} (he : Memory.wf e.1.mem = true)
    (hf : ∀ s a, Memory.wf s.mem = true → Memory.wf (f s a).1.mem = true) : Memory.wf (e.then f).1.mem = true := by
  obtain ⟨s, x | a⟩ := e
  · exact he
  · exact hf s a he

omit h in
theorem Eng.ite_memWf {α : Type} (c : Prop) [Decidable c] {a b : Eng α} (ha : Memory.wf a.1.mem = true)
    (hb : Memory.wf b.1.mem = true) : Memory.wf (if c then a else b).1.mem = true := by
  split <;> assumption

omit h in
@[simp] theorem engOf_state {α : Type} (e : State × Except Bad α) : (engOf e).1 = e.1 := by
  obtain ⟨s, x | a⟩ := e <;> rfl

@[simp] theorem State.ten_memWf (o : Op) (d : Desc) : Memory.wf (s.ten o d).1.mem = true := by
  simp [State.ten, h]

@[simp] theorem State.tenC_memWf (o : Op) (d : Desc) (book : Option Desc) : Memory.wf (s.tenC o d book).1.mem = true := by
  simp only [State.tenC]; grind [State.decodeRows_memWf, State.readStream_memWf, State.ten_memWf]

@[simp] theorem State.vec_memWf (o : Op) (a n : Nat) : Memory.wf (s.vec o a n).1.mem = true := by
  simp [State.vec, h]

@[simp] theorem State.biasVec_memWf (o : Op) : Memory.wf (s.biasVec o).1.mem = true := by
  simp only [State.biasVec]; (repeat' split) <;> simp [h]

@[simp] theorem State.oldD_memWf (o : Op) : Memory.wf (s.oldD o).1.mem = true := by
  simp only [State.oldD]; (repeat' split) <;> simp [h]

@[simp] theorem State.mxMul_memWf (o : Op) (i : Nat) : Memory.wf (s.mxMul o i).1.mem = true := by
  unfold State.mxMul
  repeat' refine Eng.then_memWf ?_ fun s _ h => ?_
  all_goals simp [h]

@[simp] theorem State.convForward_memWf (o : Op) (i : Nat) : Memory.wf (s.convForward o i).1.mem = true := by
  unfold State.convForward
  repeat' refine Eng.then_memWf ?_ fun s _ h => ?_
  all_goals simp [h]

@[simp] theorem State.convInput_memWf (o : Op) (i : Nat) : Memory.wf (s.convInput o i).1.mem = true := by
  unfold State.convInput
  repeat' refine Eng.then_memWf ?_ fun s _ h => ?_
  all_goals simp [h]

@[simp] theorem State.convFilter_memWf (o : Op) (i : Nat) : Memory.wf (s.convFilter o i).1.mem = true := by
  unfold State.convFilter
  repeat' refine Eng.then_memWf ?_ fun s _ h => ?_
  all_goals simp [h]

@[simp] theorem State.opt_memWf (o : Op) (i : Nat) : Memory.wf (s.opt o i).1.mem = true := by
  exact Eng.then_memWf (State.ten_memWf h ..) fun s _ h => Eng.then_memWf (State.ten_memWf h ..) fun s _ h =>
    Eng.then_memWf (State.ten_memWf h ..) fun s _ h => h

@[simp] theorem State.vx_memWf (o : Op) (i : Nat) : Memory.wf (s.vx o i).1.mem = true := by
  have hu (s : State) (c : Bool) (d : Desc) (h : Memory.wf s.mem = true) :
      Memory.wf (if c then s.ten o d else ((s, .ok []) : Eng Ten)).1.mem = true := by split <;> simp [h]
  unfold State.vx
  dsimp only
  split
  case h_1 => split <;> simp +contextual [h]
  case h_3 | h_6 =>
    refine Eng.then_memWf (by simp [h]) fun s _ h => Eng.then_memWf (by simp [h]) fun s _ h => Eng.then_memWf ?_ fun s _ h => h
    simp [h, hu]
  all_goals simp +contextual (disch := simp +contextual [h, hu]) [h]

@[simp] theorem State.expand_memWf (o : Op) (i : Nat) : Memory.wf (s.expand o i).1.mem = true := by
  simp only [State.expand]; grind [State.decodeRows_memWf, State.readStream_memWf]

@[simp] theorem State.compressOp_memWf (o : Op) (i : Nat) : Memory.wf (s.compressOp o i).1.mem = true := by
  unfold State.compressOp
  dsimp only
  split
  · refine Eng.then_memWf (State.ten_memWf h ..) fun s _ h => Eng.then_memWf (State.ten_memWf h ..) fun s _ h => ?_
    simp [h]
  · have hr := State.readRaw_memWf h o o.A
    split
    · simp_all
    · next t raw e =>
      have hb := State.readBook_memWf (memWf_of_fst e hr) o (if o.usesB then some o.B else none)
      split <;> simp_all

end

end Sys2Proof.Machine
end

section
/-! Laws of memory: what every operation of Machine/Pools.lean leaves of it, and that its form is kept. -/

namespace Sys2Proof.Machine

open Sys2Proof

@[simp] theorem State.putPool_mem (s : State) (p c : Nat) (l : List Nat) : (s.putPool p c l).mem = s.mem := by
  simp [State.putPool]

section
variable {s : State} (h : Memory.wf s.mem = true)
include h

@[simp] theorem State.recPut_memWf (p c i k n v : Nat) : Memory.wf (s.recPut p c i k n v).mem = true := by
  simp [State.recPut, h]

@[simp] theorem State.alloc_memWf (p c : Nat) : Memory.wf (s.alloc p c).2.mem = true := by
  simp only [State.alloc]; (repeat' split) <;> simp [h]

@[simp] theorem State.retireObj_memWf (p c i : Nat) : Memory.wf (s.retireObj p c i).mem = true := by
  simp only [State.retireObj]; (repeat' split) <;> simp [h]

@[simp] theorem State.releaseObj_memWf (p c : Nat) (a : Option Nat) : Memory.wf (s.releaseObj p c a).mem = true := by
  simp only [State.releaseObj]; (repeat' split) <;> simp [h]

@[simp] theorem State.poolCfgWrite_memWf (p c : Nat) (new : W64) : Memory.wf (s.poolCfgWrite p c new).mem = true := by
  simp [State.poolCfgWrite, Memory.wf_keep, h]

@[simp] theorem State.allocReg_memWf (view p c : Nat) : Memory.wf (s.allocReg view p c).2.mem = true := by
  simp only [State.allocReg]; grind [State.alloc_memWf]

@[simp] theorem State.freeReg_memWf (view p c a : Nat) : Memory.wf (s.freeReg view p c a).mem = true := by
  simp [State.freeReg, h]

@[simp] theorem State.eread_memWf (o : Op) (a n : Nat) : Memory.wf (s.eread o a n).1.mem = true := by
  simp [State.eread, h]

@[simp] theorem eachE_memWf {α β : Type} (l : List α) {f : State → α → Eng β}
    (hf : ∀ s a, Memory.wf s.mem = true → Memory.wf (f s a).1.mem = true) : Memory.wf (eachE l f s).1.mem = true := by
  have key : ∀ e : Eng (List β), Memory.wf e.1.mem = true →
      Memory.wf (l.foldl (fun (a : Eng (List β)) x => a.then fun s out => (f s x).then fun s y => (s,
      .ok (out ++ [y]))) e).1.mem = true := by
    induction l with
    | nil => exact fun e he => he
    | cons x l ih => exact fun e he => ih _ (Eng.then_memWf he fun s out hs => Eng.then_memWf (hf s x hs) fun s y hs => hs)
  exact key _ h

end

end Sys2Proof.Machine
end

section
/-! Laws of memory: what every operation of Machine/Attention.lean leaves of it, and that its form is kept. -/

namespace Sys2Proof.Machine

open Sys2Proof

@[simp] theorem State.forkRefused_mem (s : State) (o : Op) : (s.forkRefused o).1.mem = s.mem := by
  simp [State.forkRefused]

section
variable {s : State} (h : Memory.wf s.mem = true)
include h

@[simp] theorem State.readRoot_memWf (o : Op) (a : Nat) : Memory.wf (s.readRoot o a).1.mem = true := by
  have leaf (s : State) (l : Nat) (h : Memory.wf s.mem = true) : Memory.wf (if l = 0 then ((s, .ok []) : Eng (List Nat)) else
      (s.eread o l 512).then fun s e => (s, .ok ((List.range 64).map fun i => recNat e (8 * i) 8))).1.mem = true :=
    Eng.ite_memWf _ h (Eng.then_memWf (State.eread_memWf h ..) fun s _ h => h)
  unfold State.readRoot
  refine Eng.ite_memWf _ h (Eng.then_memWf (State.eread_memWf h ..) fun s b h => ?_)
  dsimp only
  generalize (List.range 64).map (fun i => recNat b (64 + 8 * i) 8) = leaves
  refine Eng.then_memWf (eachE_memWf h leaves leaf) fun s _ h => ?_
  exact h

@[simp] theorem State.readSq_memWf (o : Op) (a : Nat) : Memory.wf (s.readSq o a).1.mem = true := by
  simp only [State.readSq]; (repeat' split) <;> simp [h]

@[simp] theorem State.kvRow_memWf (o : Op) (page rowA scaleA hd fmt : Nat) (vq : Bool) (s2 cb cbn : Nat) :
    Memory.wf (s.kvRow o page rowA scaleA hd fmt vq s2 cb cbn).1.mem = true := by
  refine Eng.then_memWf (State.eread_memWf h ..) fun s b h => Eng.ite_memWf _ h (Eng.ite_memWf _ ?_ (Eng.ite_memWf _ h ?_))
  · refine Eng.ite_memWf _ h (Eng.then_memWf (eachE_memWf h _ fun s c h => ?_) fun s _ h => h)
    exact State.eread_memWf h ..
  · exact Eng.then_memWf (State.eread_memWf h ..) fun s c h => Eng.ite_memWf _ h h

@[simp] theorem State.kvAt_memWf (o : Op) (q : Sq) (page k t : Nat) : Memory.wf (s.kvAt o q page k t).1.mem = true :=
  Eng.then_memWf (State.kvRow_memWf h ..) fun _ _ h => Eng.then_memWf (State.kvRow_memWf h ..) fun _ _ h => h

@[simp] theorem State.prefixPages_memWf (o : Op) (layer d a : Nat) : Memory.wf (s.prefixPages o layer d a).1.mem = true := by
  induction d generalizing s a with
  | zero => exact h
  | succ d ih =>
    exact Eng.then_memWf (State.eread_memWf h ..) fun s b h => Eng.ite_memWf _ h (Eng.then_memWf (ih h _) fun s _ h => h)

@[simp] theorem State.attnEntry_memWf (o : Op) (i : Nat) (ta : Ten) (heads : List Nat) (l : List (Nat × Nat × Nat)) (ix : Nat) :
    Memory.wf (s.attnEntry o i ta heads l ix).1.mem = true := by
  have kv (s : State) (q : Sq) (toks : List (Nat × Nat)) (h : Memory.wf s.mem = true) : Memory.wf
      (eachE (List.range q.kvh) (fun s h => eachE toks (fun s t => s.kvAt o q t.1 h t.2) s) s).1.mem = true :=
    eachE_memWf h _ fun s _ h => eachE_memWf h _ fun s _ h => State.kvAt_memWf h ..
  refine Eng.ite_memWf _ h (Eng.then_memWf (State.readSq_memWf h ..) fun s q h => Eng.ite_memWf _ h (Eng.ite_memWf _ h ?_))
  refine Eng.then_memWf (State.readRoot_memWf h ..) fun s r h => Eng.ite_memWf _ h ?_
  refine Eng.then_memWf (Eng.ite_memWf _ (State.prefixPages_memWf h ..) h) fun s pp h => ?_
  cases pp with
  | none => exact h
  | some pp =>
    refine Eng.ite_memWf _ h (Eng.ite_memWf _ h (Eng.ite_memWf _ h (Eng.then_memWf (kv s q _ h) fun s kv h => ?_)))
    exact ite_memWf _ _ _ (by simp [h]) h

@[simp] theorem State.writeList_memWf (o : Op) (l : List EntRes) : Memory.wf (s.writeList o l).mem = true := by
  simp only [State.writeList]
  refine foldl_memWf _ _ _ (fun s a h => ?_) h
  simp [h]

@[simp] theorem State.attn_memWf (o : Op) (i : Nat) : Memory.wf (s.attn o i).1.mem = true := by
  refine Eng.then_memWf (State.ten_memWf h ..) fun s ta h => Eng.then_memWf (State.eread_memWf h ..) fun s b h => ?_
  refine Eng.then_memWf (eachE_memWf h _ fun s _ h => State.attnEntry_memWf h ..) fun s res h => ?_
  have hw := State.writeList_memWf h o res
  show Memory.wf (State.inc _ _ _ _ _).mem = true
  rw [State.inc_memory]
  exact foldl_memWf _ _ _ (fun s e h => by split <;> simp [h]) hw

@[simp] theorem State.putSide_memWf (o : Op) (r base sbase fmt : Nat) (vq : Bool) (s2 cbn : Nat) (cbk : List (List Val)) (row : Nat)
    (x : List Val) :
    Memory.wf (s.putSide o r base sbase fmt vq s2 cbn cbk row x).1.mem = true := by
  simp only [State.putSide]; (repeat' split) <;> simp [h]

@[simp] theorem State.putToken_memWf (o : Op) (q : Sq) (page h t : Nat) (kb vb : List (List Val)) (k v : List Val) :
    Memory.wf (s.putToken o q page h t kb vb k v).1.mem = true := by
  simp only [State.putToken]; grind [State.putSide_memWf]

@[simp] theorem State.editAlloc_memWf (o : Op) (c : Nat) (e : Edit) : Memory.wf (s.editAlloc o c e).2.1.mem = true := by
  simp only [State.editAlloc]; grind [State.alloc_memWf]

@[simp] theorem State.releaseAllOf_memWf (o : Op) (l : List (Nat × Nat)) : Memory.wf (s.releaseAllOf o l).mem = true := by
  simp +contextual [State.releaseAllOf, h]

@[simp] theorem State.editPut_memWf (o : Op) (e : Edit) (bs : List Byte) : Memory.wf (s.editPut o e bs).2.1.mem = true := by
  simp only [State.editPut]; grind [State.editAlloc_memWf, State.opStore_memWf]

@[simp] theorem State.editLeaves_memWf (o : Op) (r : Root) (changed : List Nat) (e : Edit) :
    Memory.wf (s.editLeaves o r changed e).2.1.mem = true := by
  refine List.foldlRecOn (motive := fun a : Option (List Nat) × State × Edit => Memory.wf a.2.1.mem = true) _ _ h fun a ha n _ => ?_
  split <;> simp [ha]

@[simp] theorem State.buildRoot_memWf (o : Op) (r : Root) (changed : List Nat) (e : Edit) :
    Memory.wf (s.buildRoot o r changed e).2.1.mem = true := by
  simp only [State.buildRoot]; split <;> simp [h]

@[simp] theorem State.editPage_memWf (o : Op) (q : Sq) (r : Root) (m : List (Nat × Nat)) (e : Edit) (n : Nat) :
    Memory.wf (s.editPage o q r m e n).2.1.mem = true := by
  have ha := State.editAlloc_memWf h o q.pclass e
  unfold State.editPage; dsimp only; split
  · exact h
  · split
    · next e => exact memWf_of_mid e ha
    · next e => have ht := memWf_of_mid e ha; split <;> simp [ht]

@[simp] theorem State.editPages_memWf (o : Op) (q : Sq) (r : Root) (pages : List Nat) :
    Memory.wf (s.editPages o q r pages).2.1.mem = true := by
  refine List.foldlRecOn (motive := fun x : Option (Root × List (Nat × Nat)) × State × Edit => Memory.wf x.2.1.mem = true)
    _ _ h fun x hx n _ => ?_
  split <;> simp [hx]

@[simp] theorem State.publish_memWf (o : Op) (q : Sq) (addr nrow head root : Nat) (r : Root) (changed : List Nat) (e : Edit) :
    Memory.wf (s.publish o q addr nrow head root r changed e).mem = true := by
  simp only [State.publish]; (repeat' split) <;> simp (disch := simp (disch := simp [h]) [h])

@[simp] theorem State.putTokens_memWf (o : Op) (q : Sq) (nrow row0 : Nat) (pos : List Nat) (m : List (Nat × Nat)) (ta tb : Ten)
    (kb vb : List (List Val)) : Memory.wf (s.putTokens o q nrow row0 pos m ta tb kb vb).1.mem = true :=
  List.foldlRecOn (motive := fun w : State × Bool => Memory.wf w.1.mem = true) _ _ h fun _ hw _ _ => State.putToken_memWf hw ..

@[simp] theorem State.undefTokens_memWf (o : Op) (q : Sq) (r : Root) (pos : List Nat) (m : List (Nat × Nat)) :
    Memory.wf (s.undefTokens o q r pos m).mem = true := by
  simp +contextual [State.undefTokens, h]

@[simp] theorem State.appendEnd_memWf (o : Op) (q : Sq) (addr nrow head : Nat) (forced sat : Bool) (r r' : Root) (e : Edit) :
    Memory.wf (s.appendEnd o q addr nrow head forced sat r r' e).1.mem = true := by
  have hb := State.buildRoot_memWf h o r' ((List.range 64).filter fun n => r'.ents.getD n [] != r.ents.getD n []) e
  unfold State.appendEnd; dsimp only; split
  · next e => simp [memWf_of_mid e hb]
  · next e => have ht := memWf_of_mid e hb; split <;> simp [ht]

@[simp] theorem State.appendTry_memWf (o : Op) (q : Sq) (addr nrow row0 head : Nat) (forced : Bool) (ta tb : Ten)
    (kb vb : List (List Val)) : Memory.wf (s.appendTry o q addr nrow row0 head forced ta tb kb vb).1.mem = true := by
  refine Eng.then_memWf (State.readRoot_memWf h ..) fun s r h => Eng.ite_memWf _ h ?_
  split
  · exact h
  · next pos refilled _ =>
    have he := State.editPages_memWf h o q r (pos.map (· / q.tpp)).dedup
    split
    · next e => simp [memWf_of_mid e he]
    · next e =>
      have ht := memWf_of_mid e he
      refine State.appendEnd_memWf (ite_memWf _ _ _ ?_ ?_) .. <;> simp [ht]

omit h in
theorem State.appendLoop_zero (s : State) (o : Op) (q : Sq) (addr nrow row0 : Nat) (forced : Bool) (ta tb : Ten)
    (kb vb : List (List Val)) (head : Nat) :
    s.appendLoop o q addr nrow row0 forced ta tb kb vb 0 head =
      (s.appendTry o q addr nrow row0 head forced ta tb kb vb).then fun s r => match r with
      | .done st sat => (s, .ok (st, sat))
      | .again => (s, .ok (7, false)) := by
  delta State.appendLoop
  exact congrArg (Eng.then _) (funext fun s => funext fun r => by cases r <;> rfl)

omit h in
theorem State.appendLoop_succ (s : State) (o : Op) (q : Sq) (addr nrow row0 : Nat) (forced : Bool) (ta tb : Ten)
    (kb vb : List (List Val)) (n head : Nat) :
    s.appendLoop o q addr nrow row0 forced ta tb kb vb (n + 1) head =
      (s.appendTry o q addr nrow row0 head forced ta tb kb vb).then fun s r => match r with
      | .done st sat => (s, .ok (st, sat))
      | .again => (s.sat (Addr.awCnt1 (thClu o.th)) 47 32 1).appendLoop o q addr nrow row0 forced ta tb kb vb n (s.opPeekNat o addr 8) := by
  delta State.appendLoop
  exact congrArg (Eng.then _) (funext fun s => funext fun r => by cases r <;> rfl)

@[simp] theorem State.appendLoop_memWf (o : Op) (q : Sq) (addr nrow row0 : Nat) (forced : Bool) (ta tb : Ten)
    (kb vb : List (List Val)) (n head : Nat) :
    Memory.wf (s.appendLoop o q addr nrow row0 forced ta tb kb vb n head).1.mem = true := by
  induction n generalizing s head with
  | zero =>
    rw [State.appendLoop_zero]
    refine Eng.then_memWf (State.appendTry_memWf h ..) fun s r h => ?_
    cases r <;> exact h
  | succ n ih =>
    rw [State.appendLoop_succ]
    refine Eng.then_memWf (State.appendTry_memWf h ..) fun s r h => ?_
    cases r with
    | done st sat => exact h
    | again => exact ih (s := s.sat _ 47 32 1) (by simp [h]) _

@[simp] theorem State.readCb_memWf (o : Op) (vq : Bool) (cb cbn : Nat) : Memory.wf (s.readCb o vq cb cbn).1.mem = true := by
  simp only [State.readCb]; (repeat' split) <;> simp [h]

@[simp] theorem State.appendEntry_memWf (o : Op) (ta tb : Ten) (conf : List Nat) (l : List (Nat × Nat × Nat)) (ix : Nat) :
    Memory.wf (s.appendEntry o ta tb conf l ix).1.mem = true := by
  refine Eng.ite_memWf _ h (Eng.then_memWf (State.readSq_memWf h ..) fun s q h => Eng.ite_memWf _ h ?_)
  refine Eng.then_memWf (State.readCb_memWf h ..) fun s kb h => Eng.then_memWf (State.readCb_memWf h ..) fun s vb h => ?_
  exact State.appendLoop_memWf h ..

@[simp] theorem State.overLimit_memWf (o : Op) (l : List (Nat × Nat × Nat)) (ix : Nat) : Memory.wf (s.overLimit o l ix).1.mem = true := by
  simp only [State.overLimit]; (repeat' split) <;> simp [h]

@[simp] theorem State.append_memWf (o : Op) (conf : List Nat) : Memory.wf (s.append o conf).1.mem = true := by
  unfold State.append
  extract_lets n
  refine Eng.then_memWf (State.ten_memWf h ..) fun s ta h => Eng.then_memWf (State.ten_memWf h ..) fun s tb h => ?_
  refine Eng.then_memWf (State.eread_memWf h ..) fun s b h => ?_
  refine Eng.then_memWf (eachE_memWf h _ fun s ix h => State.overLimit_memWf h ..) fun s lim h => ?_
  refine Eng.ite_memWf _ (State.writeList_memWf h ..) (State.writeList_memWf ?_ ..)
  refine List.foldlRecOn (motive := fun x : State × List EntRes × Bool × Bool => Memory.wf x.1.mem = true) _ _ h fun x hx ix _ => ?_
  have hr := State.appendEntry_memWf hx o ta tb conf ((List.range n).map (entryOf b)) ix
  split
  · exact hx
  · extract_lets r
    split <;> exact hr

@[simp] theorem State.sharePages_memWf (o : Op) (q : Sq) (ents : List Nat) : Memory.wf (s.sharePages o q ents).mem = true := by
  simp only [State.sharePages]
  refine foldl_memWf _ _ _ (fun s a h => ?_) h
  (repeat' split) <;> simp [h]

@[simp] theorem State.fork_memWf (o : Op) : Memory.wf (s.fork o).1.mem = true := by
  refine Eng.then_memWf (State.readSq_memWf h ..) fun s q h => Eng.ite_memWf _ (by simp [h]) ?_
  refine Eng.then_memWf (State.eread_memWf h ..) fun s body h => Eng.ite_memWf _ (by simp [h]) ?_
  refine Eng.then_memWf (State.readRoot_memWf h ..) fun s r h => Eng.ite_memWf _ (by simp [h]) ?_
  have hb := State.buildRoot_memWf h o r ((List.range 64).filter fun n => r.leaves.getD n 0 != 0) ⟨[], [], false⟩
  rcases e : s.buildRoot o r ((List.range 64).filter fun n => r.leaves.getD n 0 != 0) ⟨[], [], false⟩ with ⟨_ | root, t, x⟩ <;>
    have ht := memWf_of_mid e hb <;> simp only [e]
  · simp [ht]
  · refine State.opStore_memWf (State.opStore_memWf (ite_memWf _ _ _ ?_ ?_) ..) .. <;> simp [ht]

@[simp] theorem State.freeSeq_memWf (o : Op) : Memory.wf (s.freeSeq o).1.mem = true := by
  refine Eng.then_memWf (State.readSq_memWf h ..) fun s q h => Eng.ite_memWf _ h ?_
  refine Eng.then_memWf (State.readRoot_memWf (ite_memWf _ _ _ h (by simp [h])) ..) fun s r h => ?_
  have hp := State.releaseAllOf_memWf (State.opStore_memWf h o (o.num 16 6) (bytesOf 8 (nextHead q.head 0))) o
    (((r.ents.flatMap id).filter fun e => entSt e == 1).map entPage |>.map fun p => (q.pclass, p))
  have hr := State.releaseAllOf_memWf (ite_memWf (headRoot q.head = 0) _ _ hp (State.releaseAllOf_memWf hp o [(9, headRoot q.head)])) o
    ((r.leaves.filter (· != 0)).map fun l => (9, l))
  exact ite_memWf _ _ _ hr (State.opStore_memWf hr ..)

@[simp] theorem State.findChild_memWf (o : Op) (hash : Nat) (toks : List Byte) (n a : Nat) :
    Memory.wf (s.findChild o hash toks n a).1.mem = true := by
  induction n generalizing s a with
  | zero => exact Eng.ite_memWf _ h h
  | succ n ih =>
    refine Eng.ite_memWf _ h (Eng.then_memWf (State.eread_memWf h ..) fun s b h => Eng.ite_memWf _ ?_ (ih h _))
    exact Eng.then_memWf (State.eread_memWf h ..) fun s t h => Eng.ite_memWf _ h (ih h _)

@[simp] theorem State.descend_memWf (o : Op) (l : List (List Byte)) (c : BitVec 64) (node : Nat) (acc : List Nat) :
    Memory.wf (s.descend o l c node acc).1.mem = true := by
  induction l generalizing s c node acc with
  | nil => exact h
  | cons blk rest ih =>
    refine Eng.then_memWf (State.eread_memWf h ..) fun s b h => Eng.then_memWf (State.findChild_memWf h ..) fun s r h => ?_
    split
    · exact ih h _ _ _
    · exact h

@[simp] theorem State.prefixLookup_memWf (o : Op) : Memory.wf (s.prefixLookup o).1.mem = true := by
  refine Eng.ite_memWf _ h (Eng.then_memWf (State.eread_memWf h ..) fun s b h => ?_)
  refine Eng.then_memWf (State.descend_memWf h ..) fun s r h => ?_
  have hs : Memory.wf (if r.2 then s.sat (Addr.awCnt1 (thClu o.th)) 63 48 1 else s).mem = true := ite_memWf _ _ _ (by simp [h]) h
  dsimp only
  split
  · exact State.opStore_memWf hs ..
  · exact hs

@[simp] theorem State.atOp_memWf (o : Op) (conf : List Nat) : Memory.wf (s.atOp o conf).1.mem = true := by
  unfold State.atOp; split <;> simp [h]

@[simp] theorem State.corruptPage_memWf (o : Op) (a : Nat) : Memory.wf (s.corruptPage o a).mem = true := by
  refine foldl_memWf _ _ _ (fun s c hs => ?_) (by simp [h])
  split <;> simp [hs]

end

end Sys2Proof.Machine
end

section
/-! Laws of memory: what every operation of Machine/SeqEngine.lean leaves of it, and that its form is kept. -/

namespace Sys2Proof.Machine

open Sys2Proof

@[simp] theorem State.setSqRes_mem (s : State) (c k r : Nat) : (s.setSqRes c k r).mem = s.mem := by
  simp [State.setSqRes]

@[simp] theorem State.sqLiveSync_mem (s : State) (c : Nat) : (s.sqLiveSync c).mem = s.mem := by
  simp [State.sqLiveSync]

@[simp] theorem State.sqCfgWrite_mem (s : State) (c k : Nat) (new : W64) : (s.sqCfgWrite c k new).mem = s.mem := by
  simp only [State.sqCfgWrite]; (repeat' split) <;> simp

@[simp] theorem State.sqLiveWrite_mem (s : State) (c k : Nat) (new : W64) : (s.sqLiveWrite c k new).mem = s.mem := by
  simp only [State.sqLiveWrite]; (repeat' split) <;> simp

@[simp] theorem State.swapMoved_mem (s : State) (c dst n : Nat) : (s.swapMoved c dst n).mem = s.mem := by
  simp [State.swapMoved]

section
variable {s : State} (h : Memory.wf s.mem = true)
include h

@[simp] theorem State.sqRead_memWf (c a n : Nat) : Memory.wf (s.sqRead c a n).s.mem = true := by
  simp only [State.sqRead]; (repeat' split) <;> simp [h]

@[simp] theorem State.sqWrite_memWf (c a : Nat) (bs : List Byte) : Memory.wf (s.sqWrite c a bs).mem = true := by
  simp only [State.sqWrite]; (repeat' split) <;> simp [h]

@[simp] theorem State.swapIn_memWf (c k uid : Nat) : Memory.wf (s.swapIn c k uid).mem = true := by
  have hm : (s.swapIn c k uid).mem = ((s.setSqRes c k 3).wb (Addr.sqStrStat c k) 39 false).mem := by
    unfold State.swapIn; with_reducible rfl
  simp [hm, h]

@[simp] theorem State.swapIns_memWf (c : Nat) : Memory.wf (s.swapIns c).mem = true := by
  refine foldl_memWf _ _ _ (fun s k hs => ?_) h
  (repeat' split) <;> simp [hs]

@[simp] theorem State.sqAccepted_memWf (uid : Nat) : Memory.wf (s.sqAccepted uid).mem = true := by
  unfold State.sqAccepted; (repeat' split) <;> simp [h]

@[simp] theorem State.carried_memWf (c : Nat) (h : Option Nat) (n chans : Nat) : Memory.wf (s.carried c h n chans).1.mem = true := by
  simp only [State.carried]; (repeat' split) <;> simp [h]

@[simp] theorem State.sqRun_memWf (o : Op) (i : Nat) : Memory.wf (s.sqRun o i).1.mem = true := by
  unfold State.sqRun
  refine Eng.then_memWf (State.ten_memWf h ..) fun s ta h => Eng.then_memWf (State.ten_memWf h ..) fun s tb h => ?_
  refine Eng.then_memWf (Eng.ite_memWf _ h (State.eread_memWf h ..)) fun s _ h => ?_
  refine Eng.then_memWf (Eng.ite_memWf _ h (State.eread_memWf h ..)) fun s _ h => ?_
  exact Eng.then_memWf (eachE_memWf h _ fun s r h => State.carried_memWf h ..) fun s _ h => h

@[simp] theorem State.sqCommit_memWf (c : Nat) (news : List (Nat × List Nat)) : Memory.wf (s.sqCommit c news).mem = true := by
  simp +contextual [State.sqCommit, h]

@[simp] theorem State.sqError_memWf (o : Op) : Memory.wf (s.sqError o).mem = true := by
  simp only [State.sqError]; split <;> simp (disch := simp [h])

@[simp] theorem State.sqStart_memWf (o : Op) : Memory.wf (s.sqStart o).mem = true := by
  simp only [State.sqStart]; (repeat' split) <;> simp [h]

@[simp] theorem State.swapInDone_memWf (c k : Nat) (fail : Bool) : Memory.wf (s.swapInDone c k fail).mem = true := by
  have hq := State.sqRead_memWf h c (s.rf (Addr.sqStrBack c k) 47 0) (s.imgLen c k)
  simp only [State.swapInDone]; (repeat' split) <;> simp [h, hq]

@[simp] theorem State.swapOutDone_memWf (c k : Nat) : Memory.wf (s.swapOutDone c k).mem = true := by
  have hq := State.sqRead_memWf h c (s.imgAddr c k (s.curImg c k)) (s.imgLen c k)
  simp only [State.swapOutDone]; (repeat' split) <;> simp [h, hq]

end

end Sys2Proof.Machine
end

section
/-! Laws of memory: what every operation of Machine/DataMover.lean leaves of it, and that its form is kept. -/

namespace Sys2Proof.Machine

open Sys2Proof

@[simp] theorem State.putOp_mem (s : State) (o : Op) : (s.putOp o).mem = s.mem := by
  simp [State.putOp]

theorem State.sealPage_mem (s : State) (p e a : Nat) (page : List Byte) {t : State} (hs : s.sealPage p e a page = some t) :
    t.mem = s.mem := by
  unfold State.sealPage at hs
  obtain ⟨k, _, rfl⟩ := Option.map_eq_some_iff.mp hs
  simp

theorem State.sealRuns_mem (s : State) (o : Op) (e : Nat) (l : List Run) (data : List Byte) {t : State}
    (hs : s.sealRuns o e l data = some t) : t.mem = s.mem := by
  cases l with
  | nil => cases hs
  | cons r l =>
    obtain ⟨d, _, hd⟩ := Option.bind_eq_some_iff.mp hs
    dsimp only at hd
    split at hd
    · simpa using State.sealPage_mem _ _ _ _ _ hd
    · cases hd

@[simp] theorem State.sendBlocks_mem (s : State) (p type id : Nat) (l : List (Nat × List Byte)) :
    (s.sendBlocks p type id l).2.mem = s.mem := by
  induction l generalizing s with
  | nil => rfl
  | cons x l ih =>
    have hi := State.inject_mem s p (mkBlk type id (x.1 / 64) l.isEmpty x.2)
    unfold State.sendBlocks; split <;> simp_all

section
variable {s : State} (h : Memory.wf s.mem = true)
include h

@[simp] theorem State.moveFail_memWf (o : Op) (sub : Nat) : Memory.wf (s.moveFail o sub).mem = true := by
  simp [State.moveFail, h]

@[simp] theorem State.moveDone_memWf (o : Op) (data : List Byte) (n : Nat) : Memory.wf (s.moveDone o data n).mem = true := by
  simp [State.moveDone, h]

@[simp] theorem State.readRun_memWf (o : Op) (r : Run) (flt : Nat) : Memory.wf (s.readRun o r flt).s.mem = true := by
  simp only [State.readRun]; (repeat' split) <;> simp [h]

@[simp] theorem State.readBlock_memWf (o : Op) (flt : Nat) (l : List Run) : Memory.wf (s.readBlock o flt l).s.mem = true := by
  induction l generalizing s flt with
  | nil => exact h
  | cons r l ih => exact ih (State.readRun_memWf h ..) _

@[simp] theorem State.storeRun_memWf (o : Op) (r : Run) (bs : List Byte) : Memory.wf (s.storeRun o r bs).mem = true := by
  simp [State.storeRun, h]

@[simp] theorem State.storeBlock_memWf (o : Op) (l : List Run) (bs : List Byte) : Memory.wf (s.storeBlock o l bs).mem = true := by
  induction l generalizing s bs with
  | nil => exact h
  | cons r l ih => exact ih (State.storeRun_memWf h ..) _

@[simp] theorem State.sendWr_memWf (o : Op) (kind id : Nat) (l : List (Nat × List Byte)) (n : Nat) (data : List Byte) :
    Memory.wf (s.sendWr o kind id l n data).mem = true := by
  have hb := State.sendBlocks_mem s o.part (if kind = 2 then 7 else 1) id l
  unfold State.sendWr; split
  · simp [h]
  · split
    · next e => simp [memWf_of_snd e (by simp [h])]
    · next e => simp [memWf_of_snd e (by simp [h])]

@[simp] theorem State.sendReq_memWf (o : Op) (r : Run) : Memory.wf (s.sendReq o r).mem = true := by
  simp only [State.sendReq]; (repeat' split)
  · simp [h]
  · simp [h]
  · next e => simp [memWf_of_snd e (by simp [h])]
  · next e => simp [memWf_of_snd e (by simp [h])]

@[simp] theorem State.sendData_memWf (o : Op) (l : List Run) (data : List Byte) : Memory.wf (s.sendData o l data).mem = true := by
  unfold State.sendData; split <;> simp [h]

@[simp] theorem State.encBlock_memWf (o : Op) (l : List Run) (flt : Nat) : Memory.wf (s.encBlock o l flt).mem = true := by
  simp only [State.encBlock]
  (repeat' split) <;> grind [State.readBlock_memWf, State.sealRuns_mem, State.endOp_memWf, State.moveFail_memWf, State.moveDone_memWf,
    State.sendReq_memWf, State.sendData_memWf, State.storeBlock_memWf, State.failOp_memWf, State.record_mem]

@[simp] theorem State.encGot_memWf (o : Op) (r : Run) (data : List Byte) : Memory.wf (s.encGot o r data).mem = true := by
  simp only [State.encGot]
  (repeat' split) <;> grind [State.sealRuns_mem, State.moveFail_memWf, State.moveDone_memWf]

@[simp] theorem State.sendFlag_memWf (o : Op) (d : Nat) : Memory.wf (s.sendFlag o d).mem = true := by
  simp [State.sendFlag, h]

@[simp] theorem State.resend_memWf (o : Op) (x : Xfer) : Memory.wf (s.resend o x).mem = true := by
  simp only [State.resend]; (repeat' split) <;> simp [h]

@[simp] theorem State.acked_memWf (o : Op) (x : Xfer) : Memory.wf (s.acked o x).mem = true := by
  simp only [State.acked]; (repeat' split) <;> simp [h]

@[simp] theorem State.gotData_memWf (o : Op) (x : Xfer) (b : Block) (pay : List Byte) :
    Memory.wf (s.gotData o x b pay).mem = true := by
  simp only [State.gotData]
  (repeat' split) <;> grind [State.storeRun_memWf, State.sendData_memWf, State.encGot_memWf, State.moveDone_memWf, State.putOp_mem]

@[simp] theorem State.mismatch_memWf (o : Op) (n : Nat) : Memory.wf (s.mismatch o n).mem = true := by
  simp only [State.mismatch]; (repeat' split) <;> simp +contextual (disch := simp +contextual [h])

@[simp] theorem State.moveBlock_memWf (o : Op) (mism flt : Nat) : Memory.wf (s.moveBlock o mism flt).mem = true := by
  have hq (l : List Run) := State.readBlock_memWf h o flt l
  simp only [State.moveBlock]; (repeat' split) <;> simp (disch := simp [h, hq]) [h]

@[simp] theorem State.signal_memWf (o : Op) : Memory.wf (s.signal o).mem = true := by
  simp only [State.signal]; (repeat' split) <;> simp [h]

@[simp] theorem State.copyAmx_memWf (o : Op) : Memory.wf (s.copyAmx o).1.mem = true := by
  simp only [State.copyAmx]
  grind [State.decodeRows_memWf, State.fresh_memory, State.readScales_memWf, State.readTen_memWf, State.writeAmx_memWf,
    State.writeMem_memWf]

@[simp] theorem State.copyEnd_memWf (o : Op) : Memory.wf (s.copyEnd o).mem = true := by
  simp only [State.copyEnd]
  grind [State.copyAmx_memWf, State.endOp_memWf, State.failOp_memWf, State.moveFail_memWf, State.record_mem, State.signal_memWf]

@[simp] theorem State.setDir_memWf (e n : Nat) : Memory.wf (s.setDir e n).mem = true := by
  simp [State.setDir, h]

@[simp] theorem State.dirAdd_memWf (a : Nat) (d : Int) : Memory.wf (s.dirAdd a d).mem = true := by
  simp [State.dirAdd, h]

@[simp] theorem State.promoteStart_memWf (o : Op) : Memory.wf (s.promoteStart o).mem = true := by
  simp only [State.promoteStart]; (repeat' split) <;> simp (disch := simp [h])

@[simp] theorem State.evictStart_memWf (o : Op) : Memory.wf (s.evictStart o).mem = true := by
  simp only [State.evictStart]; (repeat' split) <;> simp [h]

@[simp] theorem State.dirEnd_memWf (o : Op) : Memory.wf (s.dirEnd o).mem = true := by
  simp only [State.dirEnd]; (repeat' split) <;> simp (disch := simp [h])

@[simp] theorem State.dirCopyEnd_memWf (uid opc : Nat) (err : Bool) : Memory.wf (s.dirCopyEnd uid opc err).mem = true := by
  simp only [State.dirCopyEnd]; (repeat' split) <;> simp [h]

@[simp] theorem State.settle_memWf : Memory.wf s.settle.mem = true := by
  simp only [State.settle]
  refine foldl_memWf _ _ _ (fun s a h => ?_) h
  (repeat' split) <;> simp [h]

@[simp] theorem State.ckptTable_memWf (t a n : Nat) : Memory.wf (s.ckptTable t a n).1.mem = true := by
  simp only [State.ckptTable]; (repeat' split) <;> simp [h]

@[simp] theorem State.ckptGo_memWf (t : Nat) (gd : Reg) (pb : List Byte) : Memory.wf (s.ckptGo t gd pb).mem = true := by
  simp [State.ckptGo, h]

@[simp] theorem State.ckptBlock_memWf (t : Nat) (gd : Reg) (a : W64) (b : List Byte) : Memory.wf (s.ckptBlock t gd a b).mem = true := by
  simp only [State.ckptBlock]; grind [State.ckptGo_memWf, State.ckptTable_memWf, State.raise_memWf]

@[simp] theorem State.commit_memWf (o : Op) (err : Bool) : Memory.wf (s.commit o err).mem = true := by
  simp only [State.commit]; (repeat' split) <;> simp [h]

end

end Sys2Proof.Machine
end

section
/-! Laws of memory: what every operation of Machine/Start.lean leaves of it, and that its form is kept. -/

namespace Sys2Proof.Machine

open Sys2Proof

@[simp] theorem State.tileSync_mem (s : State) : s.tileSync.mem = s.mem := by
  simp [State.tileSync]

section
variable {s : State} (h : Memory.wf s.mem = true)
include h

@[simp] theorem State.startOp_memWf (o : Op) : Memory.wf (s.startOp o).mem = true := by
  simp only [State.startOp]; (repeat' split) <;> simp +contextual [h]

@[simp] theorem State.startRounds_memWf (n : Nat) : Memory.wf (State.startRounds n s).mem = true := by
  induction n generalizing s with
  | zero => exact h
  | succ n ih =>
    unfold State.startRounds; split
    · exact ih (by simp [h])
    · exact h

@[simp] theorem State.startOps_memWf : Memory.wf s.startOps.mem = true :=
  State.startRounds_memWf (by simp [h]) _

@[simp] theorem State.progress_memWf (uid : Nat) (f : State → Op → State)
    (hf : ∀ s o, Memory.wf s.mem = true → Memory.wf (f s o).mem = true) : Memory.wf (s.progress uid f).mem = true := by
  have hs := State.startOps_memWf h
  simp only [State.progress]; split
  · split
    · exact State.startOps_memWf (hf _ _ (by simp [hs]))
    · exact hs
  · exact hs

@[simp] theorem State.tiIssue_memWf (t cls opc : Nat) (ti : TiFields) (pb : List Byte) :
    Memory.wf (s.tiIssue t cls opc ti pb).mem = true := by
  simp only [State.tiIssue]; (repeat' split)
  · simp [h]
  · simp [h]
  · exact State.startOps_memWf (by simp [h])

@[simp] theorem State.ti_memWf (t cls opc : Nat) (ti : TiFields) : Memory.wf (s.ti t cls opc ti).mem = true := by
  simp only [State.ti]; (repeat' split) <;> simp [h]

@[simp] theorem tileCmd_memWf (cls opc th : Nat) (ti : TiFields) : MemWf (tileCmd cls opc th ti s) := by
  simp [tileCmd, h]

@[simp] theorem execMxMul_memWf (th : Nat) (ti : TiFields) : MemWf (execMxMul th ti s) := by
  simp [execMxMul, h]

@[simp] theorem execCvConv_memWf (th : Nat) (ti : TiFields) : MemWf (execCvConv th ti s) := by
  simp [execCvConv, h]

@[simp] theorem execVxEw1_memWf (th : Nat) (ti : TiFields) : MemWf (execVxEw1 th ti s) := by
  simp [execVxEw1, h]

@[simp] theorem execVxEw2_memWf (th : Nat) (ti : TiFields) : MemWf (execVxEw2 th ti s) := by
  simp [execVxEw2, h]

@[simp] theorem execVxFma_memWf (th : Nat) (ti : TiFields) : MemWf (execVxFma th ti s) := by
  simp [execVxFma, h]

@[simp] theorem execVxRed_memWf (th : Nat) (ti : TiFields) : MemWf (execVxRed th ti s) := by
  simp [execVxRed, h]

@[simp] theorem execVxSoftmax_memWf (th : Nat) (ti : TiFields) : MemWf (execVxSoftmax th ti s) := by
  simp [execVxSoftmax, h]

@[simp] theorem execVxNorm_memWf (th : Nat) (ti : TiFields) : MemWf (execVxNorm th ti s) := by
  simp [execVxNorm, h]

@[simp] theorem execVxQuant_memWf (th : Nat) (ti : TiFields) : MemWf (execVxQuant th ti s) := by
  simp [execVxQuant, h]

@[simp] theorem execVxDequant_memWf (th : Nat) (ti : TiFields) : MemWf (execVxDequant th ti s) := by
  simp [execVxDequant, h]

@[simp] theorem execVxAmax_memWf (th : Nat) (ti : TiFields) : MemWf (execVxAmax th ti s) := by
  simp [execVxAmax, h]

@[simp] theorem execVxPool_memWf (th : Nat) (ti : TiFields) : MemWf (execVxPool th ti s) := by
  simp [execVxPool, h]

@[simp] theorem execVxDwconv_memWf (th : Nat) (ti : TiFields) : MemWf (execVxDwconv th ti s) := by
  simp [execVxDwconv, h]

@[simp] theorem execVxHad_memWf (th : Nat) (ti : TiFields) : MemWf (execVxHad th ti s) := by
  simp [execVxHad, h]

@[simp] theorem execVxOpt_memWf (th : Nat) (ti : TiFields) : MemWf (execVxOpt th ti s) := by
  simp [execVxOpt, h]

@[simp] theorem execVxTrans_memWf (th : Nat) (ti : TiFields) : MemWf (execVxTrans th ti s) := by
  simp [execVxTrans, h]

@[simp] theorem execVxGather_memWf (th : Nat) (ti : TiFields) : MemWf (execVxGather th ti s) := by
  simp [execVxGather, h]

@[simp] theorem execVxSelect_memWf (th : Nat) (ti : TiFields) : MemWf (execVxSelect th ti s) := by
  simp [execVxSelect, h]

@[simp] theorem execVxFill_memWf (th : Nat) (ti : TiFields) : MemWf (execVxFill th ti s) := by
  simp [execVxFill, h]

@[simp] theorem execAtAttn_memWf (th : Nat) (ti : TiFields) : MemWf (execAtAttn th ti s) := by
  simp [execAtAttn, h]

@[simp] theorem execAtAppend_memWf (th : Nat) (ti : TiFields) : MemWf (execAtAppend th ti s) := by
  simp [execAtAppend, h]

@[simp] theorem execAtPrefix_memWf (th : Nat) (ti : TiFields) : MemWf (execAtPrefix th ti s) := by
  simp [execAtPrefix, h]

@[simp] theorem execAtFork_memWf (th : Nat) (ti : TiFields) : MemWf (execAtFork th ti s) := by
  simp [execAtFork, h]

@[simp] theorem execAtFree_memWf (th : Nat) (ti : TiFields) : MemWf (execAtFree th ti s) := by
  simp [execAtFree, h]

@[simp] theorem execSqChunk_memWf (th : Nat) (ti : TiFields) : MemWf (execSqChunk th ti s) := by
  simp [execSqChunk, h]

@[simp] theorem execSqStep_memWf (th : Nat) (ti : TiFields) : MemWf (execSqStep th ti s) := by
  simp [execSqStep, h]

@[simp] theorem execSqEvict_memWf (th : Nat) (ti : TiFields) : MemWf (execSqEvict th ti s) := by
  simp [execSqEvict, h]

@[simp] theorem execSqClear_memWf (th : Nat) (ti : TiFields) : MemWf (execSqClear th ti s) := by
  simp [execSqClear, h]

@[simp] theorem execPpConv_memWf (th : Nat) (ti : TiFields) : MemWf (execPpConv th ti s) := by
  simp [execPpConv, h]

@[simp] theorem execPpStream_memWf (th : Nat) (ti : TiFields) : MemWf (execPpStream th ti s) := by
  simp [execPpStream, h]

@[simp] theorem execCxExpand_memWf (th : Nat) (ti : TiFields) : MemWf (execCxExpand th ti s) := by
  simp [execCxExpand, h]

@[simp] theorem execCxCompress_memWf (th : Nat) (ti : TiFields) : MemWf (execCxCompress th ti s) := by
  simp [execCxCompress, h]

@[simp] theorem execDmCopy_memWf (th : Nat) (ti : TiFields) : MemWf (execDmCopy th ti s) := by
  simp [execDmCopy, h]

@[simp] theorem execDmFill_memWf (th : Nat) (ti : TiFields) : MemWf (execDmFill th ti s) := by
  simp [execDmFill, h]

@[simp] theorem execDmPromote_memWf (th : Nat) (ti : TiFields) : MemWf (execDmPromote th ti s) := by
  simp [execDmPromote, h]

@[simp] theorem execDmEvict_memWf (th : Nat) (ti : TiFields) : MemWf (execDmEvict th ti s) := by
  simp [execDmEvict, h]

@[simp] theorem execCkpt_memWf (th : Nat) (gd ga : Reg) (sel : BitVec 16) (flt : Nat) : MemWf (execCkpt th gd ga sel flt s) := by
  refine instr_memWf h _ _ ?_
  dsimp only
  (repeat' split)
  · simp [h]
  · simp [h]
  · simp [h]
  · exact State.withBytes_memWf h _ _ _ _ _ fun s b hs => State.startOps_memWf (State.ckptBlock_memWf hs ..)

end

end Sys2Proof.Machine
end

section
/-! Laws of memory: what every operation of Machine/TileExec.lean leaves of it, and that its form is kept. -/

namespace Sys2Proof.Machine

open Sys2Proof

@[simp] theorem State.unitCnt_mem (s : State) (o : Op) (u hi lo n : Nat) : (s.unitCnt o u hi lo n).mem = s.mem := by
  simp only [State.unitCnt]; (repeat' split) <;> simp

@[simp] theorem State.cxServed_mem (s : State) (o : Op) : (s.cxServed o).mem = s.mem := by
  simp only [State.cxServed]; (repeat' split) <;> simp

section
variable {s : State} (h : Memory.wf s.mem = true)
include h

@[simp] theorem State.pieceGood_memWf (o : Op) (u row n cc : Nat) : Memory.wf (s.pieceGood o u row n cc).mem = true := by
  simp [State.pieceGood, h]

@[simp] theorem State.pieceBad_memWf (o : Op) (u row : Nat) : Memory.wf (s.pieceBad o u row).mem = true := by
  simp only [State.pieceBad]; (repeat' split) <;> simp (disch := simp [h])

@[simp] theorem State.piece_memWf (o : Op) (u row n cc : Nat) (err : Bool) : Memory.wf (s.piece o u row n cc err).mem = true := by
  simp only [State.piece]; (repeat' split) <;> simp [h]

@[simp] theorem execPieceComplete_memWf (uid unit row n cc : Nat) (err : Bool) : MemWf (execPieceComplete uid unit row n cc err s) := by
  simp +contextual [execPieceComplete, h]

@[simp] theorem execWeightBlockLoaded_memWf (uid tile : Nat) : MemWf (execWeightBlockLoaded uid tile s) := by
  simp +contextual [execWeightBlockLoaded, h]

@[simp] theorem State.store_memWf (o : Op) (d : Desc) (x : Ten) (pieces : List PieceRec) (keep : Nat → Bool) (same : Bool) :
    Memory.wf (s.store o d x pieces keep same).1.mem = true := by
  simp [State.store, h]

@[simp] theorem State.storeOut_memWf (o : Op) (r : Out) : Memory.wf (s.storeOut o r).1.mem = true := by
  simp [State.storeOut, h]

@[simp] theorem State.compressAmx_memWf (o : Op) : Memory.wf (s.compressAmx o).1.mem = true := by
  unfold State.compressAmx
  refine Eng.ite_memWf _ h (Eng.ite_memWf _ (by simp [h]) (Eng.then_memWf (State.ten_memWf h ..) fun s x h => ?_))
  dsimp only
  split <;> simp [h]

@[simp] theorem State.compressOut_memWf (o : Op) (bytes : List Byte) (blocks stored : Nat) :
    Memory.wf (s.compressOut o bytes blocks stored).1.mem = true := by
  have ht : Memory.wf (if o.D.scl ∧ o.D.comp ≠ 3 then s.readMem o.part (o.A.tab (thClu o.th)) o.A.scaleLen 0
      else ⟨s, [], true⟩).s.mem = true := by split <;> simp [h]
  unfold State.compressOut
  dsimp only
  generalize (if o.D.scl ∧ o.D.comp ≠ 3 then _ else _ : ReadRes) = t at ht ⊢
  refine Eng.ite_memWf _ ht (Eng.ite_memWf _ ht (Eng.ite_memWf _ (by simp [ht]) (Eng.then_memWf (State.compressAmx_memWf ?_ _)
    fun s _ h => ?_)))
  · split <;> simp [ht]
  · split <;> simp [h]

@[simp] theorem State.streamEnd_memWf (o : Op) : Memory.wf (s.streamEnd o).1.mem = true := by
  simp only [State.streamEnd]; grind [State.readScales_memWf, State.writeAmx_memWf]

@[simp] theorem State.work_memWf (o : Op) (i : Nat) (conf : List Nat) : Memory.wf (s.work o i conf).1.mem = true := by
  have hc : Memory.wf (match o.mode with
      | 0 => s.convForward o i
      | 1 => s.convInput o i
      | _ => s.convFilter o i).1.mem = true := by split <;> simp [h]
  unfold State.work
  dsimp only
  split
  case h_2 => exact Eng.then_memWf hc fun s r h => State.storeOut_memWf h ..
  case h_3 =>
    refine Eng.then_memWf (State.opt_memWf h ..) fun s r h => Eng.then_memWf (State.store_memWf h ..) fun s f h => ?_
    exact Eng.then_memWf (State.store_memWf h ..) fun s g h => h
  all_goals simp +contextual (disch := simp +contextual [h]) [h]

@[simp] theorem State.requestFor_memWf (t : Nat) (row : Row) : Memory.wf (s.requestFor t row).mem = true := by
  simp [State.requestFor, h]

@[simp] theorem State.finishOp_memWf (o : Op) (r : Res) : Memory.wf (s.finishOp o r).mem = true := by
  simp only [State.finishOp]; (repeat' split) <;> simp [h]

@[simp] theorem State.flagDone_memWf (q : Op) (f : Nat) : Memory.wf (s.flagDone q f).mem = true := by
  simp [State.flagDone, h]

@[simp] theorem State.recompute_memWf (q : Op) (e : Ext) : Memory.wf (s.recompute q e).mem = true := by
  simp [State.recompute, h]

theorem State.replayLines_memWf (o : Op) (l : List Ext) {t : State} (hs : s.replayLines o l = some t) :
    Memory.wf t.mem = true := by
  unfold State.replayLines at hs
  split at hs
  · cases hs
  · obtain ⟨q, _, rfl⟩ := Option.map_eq_some_iff.mp hs
    rw [State.putOp_mem]
    refine foldl_memWf _ _ _ (fun s e hs => ?_) h
    have hu : Memory.wf (if (s.line (s.rkey e.lo)).bad then s.setLine (s.rkey e.lo) { s.line (s.rkey e.lo) with bad := false }
        else s).mem = true := by split <;> simp [hs]
    dsimp only
    generalize (if (s.line (s.rkey e.lo)).bad then _ else s : State) = u at hu ⊢
    cases (u.producers o e).head? <;> simp [hu]

@[simp] theorem State.cxLast_memWf (o : Op) (a chk fetch : Nat) : Memory.wf (s.cxLast o a chk fetch).mem = true := by
  simp [State.cxLast, h]

@[simp] theorem State.markDamaged_memWf (o : Op) (a chk : Nat) : Memory.wf (s.markDamaged o a chk).mem = true := by
  simp [State.markDamaged, h]

@[simp] theorem State.streamRow_memWf (o : Op) (i r : Nat) (bias : List Val) (tb : Ten) :
    Memory.wf (s.streamRow o i r bias tb).1.mem = true := by
  unfold State.streamRow
  refine Eng.then_memWf (by simp [h]) fun s w h => ?_
  simp (disch := simp [h])

@[simp] theorem State.streamRows_memWf (uid i : Nat) (bias : List Val) (tb : Ten) (n : Nat) :
    Memory.wf (s.streamRows uid i bias tb n).1.mem = true := by
  induction n generalizing s with
  | zero => exact h
  | succ n ih =>
    unfold State.streamRows; split
    · exact h
    · exact Eng.ite_memWf _ (Eng.then_memWf (State.streamRow_memWf h ..) fun s f h => ih (by simp [h])) h

@[simp] theorem State.scaleErr_memWf (o : Op) (a : Nat) : Memory.wf (s.scaleErr o a).mem = true := by
  simp [State.scaleErr, h]

@[simp] theorem State.drainRows_memWf (o : Op) (lost : State → Op → State)
    (hl : ∀ s o, Memory.wf s.mem = true → Memory.wf (lost s o).mem = true) : Memory.wf (s.drainRows o lost).mem = true := by
  have hr (i : Nat) : Memory.wf ((s.fresh.2.tenC o o.B none).then fun s tb => (s.biasVec o).then fun s bias =>
      s.streamRows o.uid i bias tb (o.streamRows + 1)).1.mem = true :=
    Eng.then_memWf (State.tenC_memWf (by simp [h]) ..) fun s tb h => Eng.then_memWf (State.biasVec_memWf h _) fun s bias h =>
      State.streamRows_memWf h ..
  simp only [State.drainRows]; split
  · next e => exact memWf_of_fst e (hr _)
  · next t x e =>
    have ht := memWf_of_fst e (hr _)
    split
    · exact ht
    · split
      · simp [ht]
      · simp [ht]
      · exact hl _ _ ht

@[simp] theorem State.streamDrain_memWf (o : Op) : Memory.wf (s.streamDrain o).mem = true := by
  have hl (s : State) (o : Op) (hs : Memory.wf s.mem = true) : Memory.wf (s.lostOp o 7 o.unit 0).mem = true := by simp [hs]
  refine State.drainRows_memWf h o _ fun s o h => ?_
  split
  · next e =>
    have ht := State.replayLines_memWf h _ _ e
    split
    · exact State.drainRows_memWf ht _ _ hl
    · exact ht
  · exact hl s o h

@[simp] theorem State.corruptBlock_memWf (o : Op) (a chk : Nat) : Memory.wf (s.corruptBlock o a chk).mem = true := by
  simp only [State.corruptBlock]; (repeat' split) <;> simp (disch := simp [h])

@[simp] theorem State.refetch_memWf (o : Op) (chk : Nat) : Memory.wf (s.refetch o chk).mem = true := by
  simp only [State.refetch]; (repeat' split) <;> simp [h]

@[simp] theorem execBlockRefetch_memWf (uid chk : Nat) : MemWf (execBlockRefetch uid chk s) := by
  simp only [execBlockRefetch]; (repeat' split) <;> simp +contextual [h]

@[simp] theorem State.workEnd_memWf (o : Op) (conf : List Nat) (lost : State → State)
    (hl : ∀ s, Memory.wf s.mem = true → Memory.wf (lost s).mem = true) : Memory.wf (s.workEnd o conf lost).mem = true := by
  have hw : Memory.wf (s.fresh.2.work o s.fresh.1 conf).1.mem = true := by simp [h]
  simp only [State.workEnd]; split
  · next e => simp [memWf_of_fst e hw]
  · next e => simp [memWf_of_fst e hw]
  · next e => simp [memWf_of_fst e hw]
  · next e => exact hl _ (memWf_of_fst e hw)

@[simp] theorem State.lostWork_memWf (o : Op) : Memory.wf (s.lostWork o).mem = true := by
  simp [State.lostWork, h]

@[simp] theorem State.replayWork_memWf (o : Op) (conf : List Nat) (l : List Ext) :
    Memory.wf (s.replayWork o conf l).mem = true := by
  unfold State.replayWork; split
  · next e =>
    have ht := State.replayLines_memWf h _ _ e
    split
    · exact State.workEnd_memWf ht _ _ _ fun s hs => State.lostWork_memWf hs _
    · exact ht
  · simp [h]

@[simp] theorem State.complete_memWf (o : Op) (conf : List Nat) : Memory.wf (s.complete o conf).mem = true :=
  State.workEnd_memWf h _ _ _ fun _ hs => State.replayWork_memWf hs ..

@[simp] theorem State.opComplete_memWf (o : Op) (env : OpEnv) : Memory.wf (s.opComplete o env).mem = true := by
  simp only [State.opComplete]; (repeat' split) <;> simp (disch := simp [h]) [h]

@[simp] theorem execTileOpComplete_memWf (uid : Nat) (env : OpEnv) : MemWf (execTileOpComplete uid env s) := by
  simp +contextual [execTileOpComplete, h]

@[simp] theorem State.ringRead_memWf (p r off n : Nat) : Memory.wf (s.ringRead p r off n).s.mem = true := by
  simp only [State.ringRead]; (repeat' split) <;> simp [h]

@[simp] theorem State.lineBufErr_memWf (o : Op) : Memory.wf (s.lineBufErr o).mem = true := by
  simp [State.lineBufErr, h]

@[simp] theorem State.streamEntryIn_memWf (o : Op) (lbErr : Bool) : Memory.wf (s.streamEntryIn o lbErr).mem = true := by
  simp only [State.streamEntryIn]; (repeat' split) <;> simp (disch := simp (disch := simp [h]) [h]) [h]

@[simp] theorem execPpStreamEntry_memWf (n : Nat) (lbErr : Bool) : MemWf (execPpStreamEntry n lbErr s) := by
  simp only [execPpStreamEntry]; (repeat' split) <;> simp +contextual (disch := simp +contextual [h]) [h]

@[simp] theorem execSwapInComplete_memWf (c k : Nat) (fail : Bool) : MemWf (execSwapInComplete c k fail s) := by
  simp only [execSwapInComplete]; (repeat' split) <;> simp [h]

@[simp] theorem execSwapOutComplete_memWf (c k : Nat) : MemWf (execSwapOutComplete c k s) := by
  simp only [execSwapOutComplete]; (repeat' split) <;> simp [h]

@[simp] theorem execMovementBlock_memWf (uid mism flt : Nat) : MemWf (execMovementBlock uid mism flt s) := by
  simp only [execMovementBlock]; simp +contextual (disch := simp +contextual [h])

@[simp] theorem execFillComplete_memWf (uid : Nat) (err : Bool) : MemWf (execFillComplete uid err s) := by
  simp (disch := simp [h]) [execFillComplete]

@[simp] theorem execDrainComplete_memWf (uid : Nat) (err : Bool) : MemWf (execDrainComplete uid err s) := by
  simp (disch := simp [h]) [execDrainComplete]

@[simp] theorem execCkptCommit_memWf (uid : Nat) (err : Bool) : MemWf (execCkptCommit uid err s) := by
  simp only [execCkptCommit]; simp +contextual (disch := simp +contextual [h])

end

end Sys2Proof.Machine
end

section
/-! Laws of memory: what every operation of Machine/FabricOps.lean leaves of it, and that its form is kept. -/

namespace Sys2Proof.Machine

open Sys2Proof

@[simp] theorem State.rxDrop_mem (s : State) (q : Nat) (b : Block) : (s.rxDrop q b).mem = s.mem := by
  simp [State.rxDrop]

@[simp] theorem State.answer_mem (s : State) (p type dst off : Nat) (pay : List Byte) : (s.answer p type dst off pay).mem = s.mem := by
  simp [State.answer]

@[simp] theorem State.nak_mem (s : State) (p type dst off reason : Nat) : (s.nak p type dst off reason).mem = s.mem := by
  simp [State.nak]

@[simp] theorem State.tagFail_mem (s : State) (p : Nat) : (s.tagFail p).mem = s.mem := by
  simp [State.tagFail]

@[simp] theorem State.sendRsp_mem (s : State) (p dst off : Nat) (data : List Byte) : (s.sendRsp p dst off data).mem = s.mem := by
  simp [State.sendRsp]

section
variable {s : State} (h : Memory.wf s.mem = true)
include h

@[simp] theorem State.impWrite_memWf (p d : Nat) (bs : List Byte) : Memory.wf (s.impWrite p d bs).mem = true := by
  simp [State.impWrite, h]

@[simp] theorem State.impRead_memWf (p d n flt : Nat) : Memory.wf (s.impRead p d n flt).s.mem = true := by
  simp only [State.impRead]; (repeat' split) <;> simp [h]

@[simp] theorem State.wrIn_memWf (p : Nat) (b : Block) : Memory.wf (s.wrIn p b).mem = true := by
  simp only [State.wrIn]; (repeat' split) <;> simp [h]

@[simp] theorem State.rdIn_memWf (p : Nat) (b : Block) (flt : Nat) : Memory.wf (s.rdIn p b flt).mem = true := by
  simp only [State.rdIn]; (repeat' split) <;> simp [h]

@[simp] theorem State.flagIn_memWf (p : Nat) (b : Block) : Memory.wf (s.flagIn p b).mem = true := by
  simp only [State.flagIn]; (repeat' split) <;> simp [h]

@[simp] theorem State.serve_memWf (q type : Nat) (f : State → Nat → Block → State)
    (hf : ∀ s p b, Memory.wf s.mem = true → Memory.wf (f s p b).mem = true) : Memory.wf (s.serve q type f).mem = true := by
  simp only [State.serve]; (repeat' split) <;> simp [h, hf]

@[simp] theorem fabRecv_memWf (q type : Nat) (f : State → Nat → Block → State)
    (hf : ∀ s p b, Memory.wf s.mem = true → Memory.wf (f s p b).mem = true) : MemWf (fabRecv q type f s) := by
  unfold fabRecv; split
  · simpa using State.serve_memWf h q type f hf
  · simp

@[simp] theorem execWrReceive_memWf (q : Nat) : MemWf (execWrReceive q s) := by
  simp +contextual [execWrReceive, h]

@[simp] theorem execRdreqReceive_memWf (q flt : Nat) : MemWf (execRdreqReceive q flt s) := by
  simp +contextual [execRdreqReceive, h]

@[simp] theorem execFlagReceive_memWf (q : Nat) : MemWf (execFlagReceive q s) := by
  simp +contextual [execFlagReceive, h]

@[simp] theorem State.response_memWf (p : Nat) (b : Block) (f : State → Op → Xfer → State)
    (hf : ∀ o x, Memory.wf (f s o x).mem = true) : Memory.wf (s.response p b f).mem = true := by
  unfold State.response; split <;> simp [h, hf]

@[simp] theorem execWrackReceive_memWf (q : Nat) : MemWf (execWrackReceive q s) := by
  refine fabRecv_memWf h q 2 _ fun s p b hs => ?_
  split <;> simp [hs]

@[simp] theorem execWrnakReceive_memWf (q : Nat) : MemWf (execWrnakReceive q s) := by
  refine fabRecv_memWf h q 3 _ fun s p b hs => ?_
  split
  · simp [hs]
  · exact State.response_memWf hs _ _ _ fun o x => ite_memWf _ _ _ (by simp [hs]) (by simp [hs])

@[simp] theorem execRdrspReceive_memWf (q : Nat) : MemWf (execRdrspReceive q s) := by
  refine fabRecv_memWf h q 5 _ fun s p b hs => State.response_memWf hs _ _ _ fun o x => ?_
  split <;> simp [hs]

@[simp] theorem execRdnakReceive_memWf (q : Nat) : MemWf (execRdnakReceive q s) := by
  refine fabRecv_memWf h q 6 _ fun s p b hs => ?_
  split <;> simp [hs]

@[simp] theorem execE2eTimeout_memWf (uid : Nat) : MemWf (execE2eTimeout uid s) := by
  simp only [execE2eTimeout]; (repeat' split) <;> simp [h]

end

end Sys2Proof.Machine
end

section
/-! Laws of memory: what every operation of Machine/Pcie.lean leaves of it, and that its form is kept. -/

namespace Sys2Proof.Machine

open Sys2Proof

@[simp] theorem State.tlp_mem (s : State) : s.tlp.mem = s.mem := by
  simp only [State.tlp]; (repeat' split) <;> simp

@[simp] theorem State.reply_mem (s : State) (status : Nat) (data : List Byte) : (s.reply status data).mem = s.mem := by
  simp [State.reply]

@[simp] theorem State.evRestart_mem (s : State) (f : Nat) : (s.evRestart f).mem = s.mem := by
  simp [State.evRestart]

@[simp] theorem State.endpointReset_mem (s : State) : s.endpointReset.mem = s.mem := by
  simp [State.endpointReset]

@[simp] theorem State.tlpIn_mem (s : State) : s.tlpIn.mem = s.mem := by
  simp only [State.tlpIn]; (repeat' split) <;> simp

@[simp] theorem State.winErr_mem (s : State) (f : Nat) : (s.winErr f).mem = s.mem := by
  simp [State.winErr]

@[simp] theorem State.rqCmd_mem (s : State) (v : W64) : (s.rqCmd v).mem = s.mem := by
  simp only [State.rqCmd]; (repeat' split) <;> simp

@[simp] theorem State.evInt_mem (s : State) (f : Nat) : (s.evInt f).mem = s.mem := by
  simp only [State.evInt]; (repeat' split) <;> simp

@[simp] theorem State.writeEvent_mem (s : State) (f : Nat) : (s.writeEvent f).mem = s.mem := by
  simp only [State.writeEvent]; (repeat' split) <;> simp

section
variable {s : State} (h : Memory.wf s.mem = true)
include h

@[simp] theorem execPcieLinkUp_memWf (width speed : Nat) : MemWf (execPcieLinkUp width speed s) := by
  simp [execPcieLinkUp, h]

@[simp] theorem execEndpointReset_memWf : MemWf (execEndpointReset s) := by
  simp [execEndpointReset, h]

@[simp] theorem execPcieLinkDown_memWf : MemWf (execPcieLinkDown s) := by
  simp [execPcieLinkDown, h]

@[simp] theorem execFunctionLevelReset_memWf (f : Nat) : MemWf (execFunctionLevelReset f s) := by
  simp only [execFunctionLevelReset]; (repeat' split) <;> simp [h]

@[simp] theorem State.cfgWrite_memWf (f d : Nat) (v : BitVec 32) : Memory.wf (s.cfgWrite f d v).mem = true := by
  simp [State.cfgWrite, h]

@[simp] theorem execConfigRequest_memWf (f : Nat) (wr : Bool) (off : Nat) (v : W32) : MemWf (execConfigRequest f wr off v s) := by
  simp only [execConfigRequest]; (repeat' split) <;> simp [h]

@[simp] theorem State.msixWrite_memWf (f o : Nat) (be : BitVec 8) (v : W64) : Memory.wf (s.msixWrite f o be v).mem = true := by
  simp [State.msixWrite, h]

@[simp] theorem execBar2Read_memWf (f off len flt : Nat) : MemWf (execBar2Read f off len flt s) := by
  simp only [execBar2Read]; (repeat' split) <;> simp [h]

@[simp] theorem execBar2Write_memWf (f off : Nat) (data : List Byte) : MemWf (execBar2Write f off data s) := by
  simp only [execBar2Write]; (repeat' split) <;> simp [h]

@[simp] theorem execHostReadFail_memWf (who : HostReader) : MemWf (execHostReadFail who s) := by
  cases who with
  | mover uid =>
    refine (memWf_next _).2 (State.progress_memWf h uid _ fun s o hs => ?_)
    split <;> simp [hs]
  | scalar th a =>
    refine instr_memWf h _ _ ?_
    (repeat' split) <;> simp [h]

@[simp] theorem State.writeMirror_memWf (f n : Nat) (heads : List (Option (List Byte))) :
    Memory.wf (s.writeMirror f n heads).mem = true := by
  simp [State.writeMirror, h]

@[simp] theorem execRequestScanComplete_memWf (fails : List Nat) : MemWf (execRequestScanComplete fails s) := by
  simp only [execRequestScanComplete]; (repeat' split) <;> simp [h]

@[simp] theorem State.evpost_memWf (v : W64) : Memory.wf (s.evpost v).mem = true := by
  simp only [State.evpost]; (repeat' split) <;> simp [h]

@[simp] theorem execEventRecordWrite_memWf (f : Nat) : MemWf (execEventRecordWrite f s) := by
  simp [execEventRecordWrite, h]

end

end Sys2Proof.Machine
end

section
/-! Laws of memory: what every operation of Machine/Trust.lean leaves of it, and that its form is kept. -/

namespace Sys2Proof.Machine

open Sys2Proof

@[simp] theorem State.flashPut_mem (s : State) (a : Nat) (l : List Byte) : (s.flashPut a l).mem = s.mem := by
  induction l generalizing s a with
  | nil => rfl
  | cons b l ih => exact ih _ _

@[simp] theorem State.draw_mem (s : State) : s.draw.2.mem = s.mem := by
  simp [State.draw]

@[simp] theorem State.sealEntry_mem (s : State) (e : DomEnt) : (s.sealEntry e).2.mem = s.mem := by
  simp [State.sealEntry]

@[simp] theorem State.sealArea_mem (s : State) (l : List DomEnt) : (s.sealArea l).2.mem = s.mem :=
  List.foldlRecOn (motive := fun a : List Byte × State => a.2.mem = s.mem) _ _ rfl fun a ha e _ => by simp [ha]

@[simp] theorem State.finishRecord_mem (s : State) (r : List Byte) (seq floor : Nat) (l : List DomEnt) :
    (s.finishRecord r seq floor l).2.mem = s.mem := by
  simp [State.finishRecord]

@[simp] theorem State.cfgSync_mem (s : State) : s.cfgSync.mem = s.mem := by
  simp [State.cfgSync]

@[simp] theorem State.commitRecord_mem (s : State) (r : List Byte) (floor : Nat) (l : List DomEnt) :
    (s.commitRecord r floor l).mem = s.mem := by
  simp [State.commitRecord]

@[simp] theorem State.selectAtBoot_mem (s : State) : s.selectAtBoot.mem = s.mem := by
  unfold State.selectAtBoot
  extract_lets ok
  clear_value ok
  dsimp only
  split <;> simp +zetaDelta

@[simp] theorem State.extendM_mem (s : State) (target : Nat) (d : List Byte) (kind : Nat) : (s.extendM target d kind).mem = s.mem := by
  simp only [State.extendM]; (repeat' split) <;> simp

@[simp] theorem State.promoteStaged_mem (s : State) : s.promoteStaged.mem = s.mem := by
  simp only [State.promoteStaged]; (repeat' split) <;> simp

@[simp] theorem State.unstageCmd_mem (s : State) : s.unstageCmd.2.mem = s.mem := by
  simp [State.unstageCmd]

@[simp] theorem State.hostKeySync_mem (s : State) (p : Nat) : (s.hostKeySync p).mem = s.mem := by
  simp [State.hostKeySync]

@[simp] theorem State.attSync_mem (s : State) : s.attSync.mem = s.mem := by
  simp [State.attSync]

@[simp] theorem State.attGo_mem (s : State) (v : W64) : (s.attGo v).mem = s.mem := by
  simp only [State.attGo]; (repeat' split) <;> simp

@[simp] theorem State.newChallenge_mem (s : State) : s.newChallenge.mem = s.mem := by
  simp only [State.newChallenge]; (repeat' split) <;> simp

@[simp] theorem State.relock_mem (s : State) : s.relock.mem = s.mem := by
  simp [State.relock]

section
variable {s : State} (h : Memory.wf s.mem = true)
include h

@[simp] theorem State.truRead_memWf (a n : Nat) : Memory.wf (s.truRead a n).1.mem = true := by
  simp only [State.truRead]; (repeat' split) <;> simp [h]

@[simp] theorem State.copyImage_memWf (b : List Byte) (m : Img) : Memory.wf (s.copyImage b m).mem = true := by
  simp [State.copyImage, h]

@[simp] theorem State.runImage_memWf (b : List Byte) (m : Img) (g1 : Nat) (imgB : Bool) :
    Memory.wf (s.runImage b m g1 imgB).mem = true := by
  simp [State.runImage, h]

@[simp] theorem State.tryImage_memWf (o : Nat) : Memory.wf (s.tryImage o).1.mem = true := by
  simp only [State.tryImage]; (repeat' split) <;> simp [h]

@[simp] theorem State.bootFlash_memWf (g1 : Nat) : Memory.wf (s.bootFlash g1).1.mem = true := by
  simp only [State.bootFlash]; grind [State.runImage_memWf, State.tryImage_memWf]

@[simp] theorem State.truCmd_memWf (f : State → Nat × State)
    (hf : ∀ s, Memory.wf s.mem = true → Memory.wf (f s).2.mem = true) : Memory.wf (s.truCmd f).mem = true := by
  simp only [State.truCmd]; split <;> simp [h, hf]

@[simp] theorem State.stageCmd_memWf (blk : Nat) : Memory.wf (s.stageCmd blk).2.mem = true := by
  have hr := State.truRead_memWf h blk 64
  unfold State.stageCmd; split
  · next e => exact memWf_of_fst e hr
  · next t c e =>
    have hq := State.truRead_memWf (memWf_of_fst e hr) (recNat c 0 6) (recNat c 8 4)
    split
    · next e => exact memWf_of_fst e hq
    · next e =>
      have hu := memWf_of_fst e hq
      (repeat' split) <;> simp [hu]

@[simp] theorem State.extendCmd_memWf (blk : Nat) : Memory.wf (s.extendCmd blk).2.mem = true := by
  have hr := State.truRead_memWf h blk 64
  unfold State.extendCmd; split
  · next e => exact memWf_of_fst e hr
  · next e => have ht := memWf_of_fst e hr; split <;> simp [ht]

@[simp] theorem State.cfgWriteCmd_memWf (blk : Nat) (flashOk : Bool) : Memory.wf (s.cfgWriteCmd blk flashOk).2.mem = true := by
  have hr := State.truRead_memWf h blk 64
  unfold State.cfgWriteCmd; split
  · next e => exact memWf_of_fst e hr
  · next t c e =>
    have hq := State.truRead_memWf (memWf_of_fst e hr) (recNat c 0 6) 65536
    split
    · next e => exact memWf_of_fst e hq
    · next u r e =>
      have hu := memWf_of_fst e hq
      split
      · exact hu
      · next old _ =>
        have hs : Memory.wf (if sub r 16 64 != sub old 16 64 then u.truRead (recNat c 16 6) 29792 else (u, some [])).1.mem = true := by
          split <;> simp [hu]
        dsimp only
        generalize (if sub r 16 64 != sub old 16 64 then _ else _ : State × Option (List Byte)) = x at hs ⊢
        (repeat' split) <;> simp [hs]

@[simp] theorem State.loadSeedCmd_memWf (blk : Nat) (flashOk : Bool) : Memory.wf (s.loadSeedCmd blk flashOk).2.mem = true := by
  have hr := State.truRead_memWf h blk 64
  unfold State.loadSeedCmd; split
  · next e => exact memWf_of_fst e hr
  · next e =>
    have ht := memWf_of_fst e hr
    dsimp only
    (repeat' split) <;> simp [ht]

@[simp] theorem State.truCmdWrite_memWf (op blk : Nat) (flashOk : Bool) : Memory.wf (s.truCmdWrite op blk flashOk).mem = true := by
  refine State.truCmd_memWf h _ fun s hs => ?_
  split <;> simp [hs]

@[simp] theorem truCmdOf_memWf (src : Src) (op blk : Nat) (flashOk : Bool) : MemWf (truCmdOf src op blk flashOk s) := by
  unfold truCmdOf
  exact (memWf_next _).2 (ite_memWf _ _ _ (by simp [h]) h)

@[simp] theorem execCfgwrite_memWf (src : Src) (blk : Nat) (flashOk : Bool) : MemWf (execCfgwrite src blk flashOk s) := by
  simp [execCfgwrite, h]

@[simp] theorem execStage_memWf (src : Src) (blk : Nat) : MemWf (execStage src blk s) := by
  simp [execStage, h]

@[simp] theorem execUnstage_memWf (src : Src) (blk : Nat) : MemWf (execUnstage src blk s) := by
  simp [execUnstage, h]

@[simp] theorem execExtend_memWf (src : Src) (blk : Nat) : MemWf (execExtend src blk s) := by
  simp [execExtend, h]

@[simp] theorem execLoadseed_memWf (src : Src) (blk : Nat) (flashOk : Bool) : MemWf (execLoadseed src blk flashOk s) := by
  simp [execLoadseed, h]

@[simp] theorem execTruCommandComplete_memWf : MemWf (execTruCommandComplete s) := by
  simp only [execTruCommandComplete]; (repeat' split) <;> simp [h]

@[simp] theorem execKeyDeriveComplete_memWf (p : Nat) : MemWf (execKeyDeriveComplete p s) := by
  simp only [execKeyDeriveComplete]; (repeat' split) <;> simp [h]

@[simp] theorem execKeyZeroise_memWf (p : Nat) (host : Bool) : MemWf (execKeyZeroise p host s) := by
  simp [execKeyZeroise, h]

@[simp] theorem execRngReseed_memWf : MemWf (execRngReseed s) := by
  simp [execRngReseed, h]

@[simp] theorem State.hostAdvance_memWf (p : Nat) (retire : Bool) : Memory.wf (s.hostAdvance p retire).mem = true := by
  simp [State.hostAdvance, h]

@[simp] theorem execAttestComplete_memWf : MemWf (execAttestComplete s) := by
  refine (memWf_next _).2 ?_
  split
  · exact h
  · rw [State.attSync_mem]
    dsimp only
    rw [State.inc_memory]
    refine foldl_memWf _ _ _ (fun s i hs => by simp [hs]) ?_
    rw [State.draw_mem]
    exact h

@[simp] theorem execDebugUnlock_memWf : MemWf (execDebugUnlock s) := by
  simp only [execDebugUnlock]; (repeat' split) <;> simp [h]

@[simp] theorem execDebugLifeExpiry_memWf : MemWf (execDebugLifeExpiry s) := by
  simp only [execDebugLifeExpiry]; (repeat' split) <;> simp [h]

end

end Sys2Proof.Machine
end

section
/-! Laws of memory: what every operation of Machine/Parts.lean leaves of it, and that its form is kept. -/

namespace Sys2Proof.Machine

open Sys2Proof

@[simp] theorem State.segRefuse_mem (s : State) (p i reason : Nat) : (s.segRefuse p i reason).mem = s.mem := by
  simp [State.segRefuse]

@[simp] theorem State.segCfgWrite_mem (s : State) (p i : Nat) (new : W64) : (s.segCfgWrite p i new).mem = s.mem := by
  simp only [State.segCfgWrite]; (repeat' split) <;> simp

@[simp] theorem State.segAddrWrite_mem (s : State) (p i off : Nat) (new : W64) : (s.segAddrWrite p i off new).mem = s.mem := by
  simp only [State.segAddrWrite]; (repeat' split) <;> simp

@[simp] theorem State.segDrop_mem (s : State) (p c : Nat) : (s.segDrop p c).mem = s.mem := by
  simp only [State.segDrop]
  refine foldl_mem _ _ _ fun s a => ?_
  (repeat' split) <;> simp

@[simp] theorem State.segOff_mem (s : State) (p : Nat) : (s.segOff p).mem = s.mem := by
  simp [State.segOff]

@[simp] theorem State.retSync_mem (s : State) (c : Nat) : (s.retSync c).mem = s.mem := by
  unfold State.retSync
  extract_lets +onlyGivenNames mark
  have hm (s : State) (k u : Nat) : (mark s k u).mem = s.mem := by
    simp only [mark]; (repeat' split) <;> simp
  clear_value mark
  dsimp only
  simp [hm]

@[simp] theorem State.startBase_mem (s : State) (c : Nat) : (s.startBase c).mem = s.mem := by
  simp only [State.startBase]; (repeat' split) <;> simp

@[simp] theorem State.joinPart_mem (s : State) (p c : Nat) : (s.joinPart p c).mem = s.mem := by
  simp [State.joinPart]

@[simp] theorem State.createPart_mem (s : State) (p x : Nat) : (s.createPart p x).mem = s.mem := by
  simp [State.createPart]

@[simp] theorem State.freeDies_mem (s : State) (p : Nat) : (s.freeDies p).mem = s.mem := by
  simp [State.freeDies]

@[simp] theorem State.disarmOf_mem (s : State) (p : Nat) : (s.disarmOf p).mem = s.mem := by
  simp [State.disarmOf]

@[simp] theorem State.dropGlobal_mem (s : State) (p : Nat) : (s.dropGlobal p).mem = s.mem := by
  simp [State.dropGlobal]

@[simp] theorem State.disown_mem (s : State) (p n hi lo : Nat) (off : Nat → Nat) : (s.disown p n hi lo off).mem = s.mem := by
  simp [State.disown, ite_mem]

@[simp] theorem State.disownAll_mem (s : State) (p : Nat) : (s.disownAll p).mem = s.mem := by
  simp [State.disownAll]

section
variable {s : State} (h : Memory.wf s.mem = true)
include h

@[simp] theorem State.clearSram_memWf (c : Nat) : Memory.wf (s.clearSram c).mem = true :=
  Memory.wf_keep _ _ h

@[simp] theorem State.clearCluster_memWf (c : Nat) : Memory.wf (s.clearCluster c).mem = true :=
  State.clearSram_memWf h c

@[simp] theorem execClusterClearComplete_memWf (c : Nat) : MemWf (execClusterClearComplete c s) := by
  simp [execClusterClearComplete, h]

@[simp] theorem State.clusterReset_memWf (c : Nat) : Memory.wf (s.clusterReset c).mem = true := by
  simp only [State.clusterReset]
  simp (disch := simp [h])

@[simp] theorem State.rstWrite_memWf (c : Nat) : Memory.wf (s.rstWrite c).mem = true := by
  unfold State.rstWrite; split <;> simp [h]

@[simp] theorem execClusterResetComplete_memWf (c : Nat) : MemWf (execClusterResetComplete c s) := by
  unfold execClusterResetComplete; split
  · refine (memWf_next _).2 (ite_memWf _ _ _ ?_ h)
    dsimp only
    simp [h]
  · simp

@[simp] theorem State.gateCluster_memWf (c : Nat) : Memory.wf (s.gateCluster c).mem = true := by
  simp [State.gateCluster, h]

@[simp] theorem State.powerCluster_memWf (c : Nat) : Memory.wf (s.powerCluster c).mem = true := by
  simp [State.powerCluster, h]

@[simp] theorem State.pwrWrite_memWf (c : Nat) (on : Bool) : Memory.wf (s.pwrWrite c on).mem = true := by
  simp only [State.pwrWrite]; (repeat' split) <;> simp [h]

@[simp] theorem State.basectlWrite_memWf (c : Nat) (be : BitVec 8) (v : W64) : Memory.wf (s.basectlWrite c be v).mem = true := by
  simp only [State.basectlWrite]; (repeat' split) <;> simp [h]

@[simp] theorem State.leavePart_memWf (p c : Nat) : Memory.wf (s.leavePart p c).mem = true := by
  simp [State.leavePart, h]

@[simp] theorem State.resizePart_memWf (p x : Nat) : Memory.wf (s.resizePart p x).mem = true := by
  simp +contextual (disch := simp +contextual [h]) [State.resizePart]

@[simp] theorem State.partCfgWrite_memWf (p : Nat) (new : W64) : Memory.wf (s.partCfgWrite p new).mem = true := by
  simp only [State.partCfgWrite]; (repeat' split) <;> simp [h]

@[simp] theorem State.tearStart_memWf (p : Nat) : Memory.wf (s.tearStart p).mem = true := by
  have hj : Memory.wf ((s.jobsOf fun j => j.part == p).foldl (fun s j => s.endJob j 6 0)
      ((s.wf (Addr.truPartStat p) 1 0 2).freeDies p)).mem = true :=
    foldl_memWf _ _ _ (fun s j hs => by simp [hs]) (by simp [h])
  have hh (s : State) (l : List Nat) (h : Memory.wf s.mem = true) : Memory.wf (l.foldl (fun s c => s.haltBase c) s).mem = true :=
    foldl_memWf _ _ _ (fun s c hs => by simp [hs]) h
  unfold State.tearStart
  rw [State.setTd_memory]
  exact State.hostAdvance_memWf (by simp [hh _ _ hj]) ..

@[simp] theorem State.partCtlWrite_memWf (p : Nat) (v : W64) : Memory.wf (s.partCtlWrite p v).mem = true := by
  simp only [State.partCtlWrite]; (repeat' split) <;> simp [h]

@[simp] theorem State.tearScrub_memWf (p : Nat) : Memory.wf (s.tearScrub p).mem = true := by
  simp only [State.tearScrub]
  split <;> simp +contextual [h]

@[simp] theorem execTeardownScrub_memWf (p : Nat) : MemWf (execTeardownScrub p s) := by
  simp only [execTeardownScrub]; (repeat' split) <;> simp [h]

theorem State.leavePart_wfMem (p c : Nat) : WfMem (s.leavePart p c) := State.leavePart_memWf h p c

@[simp] theorem State.freePart_memWf (p : Nat) : Memory.wf (s.freePart p).mem = true := by
  have hk : Memory.wf ((s.setKey p keys0).wr (Addr.fabPartDom p) 0).mem = true := by simp [h]
  unfold State.freePart
  rw [State.wf_memory, State.wr_memory, State.segOff_mem, State.mapSync_mem]
  exact WfMem.foldl _ hk fun s c hs => State.leavePart_wfMem hs p c

@[simp] theorem State.tearEnd_memWf (p : Nat) : Memory.wf (s.tearEnd p).mem = true := by
  have e : (s.tearEnd p).mem = ((s.disownAll p).freePart p).mem := (State.evPush_mem _ _ _ _).trans (State.setTd_memory _ _ _)
  rw [e]
  exact State.freePart_memWf (by simp [h]) _

@[simp] theorem execTeardownComplete_memWf (p : Nat) : MemWf (execTeardownComplete p s) := by
  simp only [execTeardownComplete]; (repeat' split) <;> simp [h]

end

end Sys2Proof.Machine
end

section
/-! Laws of memory: what every operation of Machine/Power.lean leaves of it, and that its form is kept. -/

namespace Sys2Proof.Machine

open Sys2Proof

@[simp] theorem State.findRoot_mem (s : State) : s.findRoot.mem = s.mem := by
  simp only [State.findRoot]; (repeat' split) <;> simp

@[simp] theorem State.cluClk_mem (s : State) (c : Nat) : (s.cluClk c).mem = s.mem := by
  simp [State.cluClk]

@[simp] theorem State.clkSelWrite_mem (s : State) (new : W64) : (s.clkSelWrite new).mem = s.mem := by
  simp [State.clkSelWrite, ite_mem]

@[simp] theorem State.bootClocks_mem (s : State) : s.bootClocks.mem = s.mem := by
  simp only [State.bootClocks]; (repeat' split) <;> simp

@[simp] theorem State.pllLock_mem (s : State) (d : Nat) : (s.pllLock d).mem = s.mem := by
  simp only [State.pllLock]; (repeat' split) <;> simp

@[simp] theorem State.levelSync_mem (s : State) (c : Nat) : (s.levelSync c).mem = s.mem := by
  simp only [State.levelSync]; (repeat' split) <;> simp

@[simp] theorem State.plWrite_mem (s : State) (c x : Nat) : (s.plWrite c x).mem = s.mem := by
  simp [State.plWrite]

@[simp] theorem State.setPhase_mem (s : State) (n : Nat) : (s.setPhase n).mem = s.mem := by
  simp [State.setPhase]

@[simp] theorem State.enterSleep_mem (s : State) (st ph : Nat) : (s.enterSleep st ph).mem = s.mem := by
  simp [State.enterSleep]

@[simp] theorem State.sleepWrite_mem (s : State) (v : W64) : (s.sleepWrite v).mem = s.mem := by
  simp only [State.sleepWrite]; (repeat' split) <;> simp

@[simp] theorem State.lastWake_mem (s : State) (point : Nat) : (s.lastWake point).mem = s.mem := by
  simp [State.lastWake]

@[simp] theorem State.abandon_mem (s : State) (n : Nat) : (s.abandon n).mem = s.mem := by
  unfold State.abandon
  rw [State.supEvent_mem, State.wr_memory]
  refine (foldl_mem _ _ _ fun s c => State.cluClk_mem s c).trans ?_
  dsimp only
  simp

@[simp] theorem State.liveBits_mem (s : State) (hi lo : Nat) (b : Bool) : (s.liveBits hi lo b).mem = s.mem := by
  simp [State.liveBits]

@[simp] theorem State.wakependWrite_mem (s : State) (new : W64) : (s.wakependWrite new).mem = s.mem := by
  simp [State.wakependWrite]

@[simp] theorem State.thermalEntry_mem (s : State) : s.thermalEntry.mem = s.mem := by
  simp only [State.thermalEntry]; (repeat' split) <;> simp

@[simp] theorem State.setCap_mem (s : State) (c x : Nat) (rising : Bool) : (s.setCap c x rising).mem = s.mem := by
  simp [State.setCap]

@[simp] theorem State.rerole_mem (s : State) (ch : Nat) : (s.rerole ch).mem = s.mem := by
  simp [State.rerole]

@[simp] theorem State.unitSync_mem (s : State) : s.unitSync.mem = s.mem := by
  simp [State.unitSync, ite_mem]

@[simp] theorem State.firc_mem (s : State) : s.firc.mem = s.mem := by
  simp [State.firc]

@[simp] theorem State.recovWrite_mem (s : State) (v : W64) : (s.recovWrite v).mem = s.mem := by
  simp only [State.recovWrite]; (repeat' split) <;> simp

@[simp] theorem State.enterImage_mem (s : State) (g1 : Nat) : (s.enterImage g1).mem = s.mem := by
  simp [State.enterImage]

section
variable {s : State} (h : Memory.wf s.mem = true)
include h

omit h in
@[simp] theorem State.cold_memWf : Memory.wf s.cold.mem = true := rfl

@[simp] theorem execPowerUp_memWf : MemWf (execPowerUp s) := by
  unfold execPowerUp
  refine (memWf_next _).2 (ite_memWf _ _ _ h ?_)
  rw [State.findRoot_mem, State.wr_memory, State.wr_memory, State.wb_memory]
  show Memory.wf s.cold.mem = true
  exact State.cold_memWf

@[simp] theorem execPowerDown_memWf : MemWf (execPowerDown s) := by
  unfold execPowerDown
  exact (memWf_next _).2 (ite_memWf _ _ _ State.cold_memWf h)

@[simp] theorem State.cluCtlWrite_memWf (c : Nat) (be : BitVec 8) (v : W64) : Memory.wf (s.cluCtlWrite c be v).mem = true := by
  simp only [State.cluCtlWrite]; (repeat' split) <;> simp [h]

@[simp] theorem execLevelSwitchComplete_memWf (c : Nat) : MemWf (execLevelSwitchComplete c s) := by
  simp [execLevelSwitchComplete, h]

@[simp] theorem State.phaseWork_memWf (n : Nat) : Memory.wf (s.phaseWork n).mem = true := by
  simp only [State.phaseWork]; (repeat' split) <;> simp +contextual [h]

@[simp] theorem State.phaseEnd_memWf : Memory.wf s.phaseEnd.mem = true := by
  unfold State.phaseEnd; (repeat' split) <;> simp [h]

@[simp] theorem execWakeEvent_memWf (n sub : Nat) : MemWf (execWakeEvent n sub s) := by
  simp [execWakeEvent, h]

@[simp] theorem execAonTimerMatch_memWf : MemWf (execAonTimerMatch s) := by
  simp [execAonTimerMatch, h]

@[simp] theorem execThermalSample_memWf (temps : List Int) : MemWf (execThermalSample temps s) := by
  simp only [execThermalSample]; (repeat' split) <;> simp [h]

@[simp] theorem State.throttle_memWf (c : Nat) : Memory.wf (s.throttle c).mem = true := by
  simp only [State.throttle]; (repeat' split) <;> simp [h]

@[simp] theorem execThrottleStep_memWf (c : Nat) : MemWf (execThrottleStep c s) := by
  simp only [execThrottleStep]; (repeat' split) <;> simp [h]

@[simp] theorem execPowerAverageUpdate_memWf (dev : Nat) (rails clus : List W64) : MemWf (execPowerAverageUpdate dev rails clus s) := by
  simp [execPowerAverageUpdate, h]

@[simp] theorem execCounterSnapshot_memWf : MemWf (execCounterSnapshot s) := by
  simp [execCounterSnapshot, h]

@[simp] theorem State.softReset_memWf (sl3 : Bool) (g1 rst : Nat) : Memory.wf (s.softReset sl3 g1 rst).mem = true := by
  have hp : Memory.wf s.endpointReset.relock.mem = true := by simp [h]
  unfold State.softReset
  rw [State.wr_memory]
  refine ite_memWf _ _ _ (foldl_memWf _ _ _ (fun s n hs => by simp [hs]) ?_) ?_
  all_goals
    rw [State.mapSync_mem, State.unitSync_mem]
    refine foldl_memWf _ _ _ (fun s c hs => by simp [hs]) ?_
    refine foldl_memWf _ _ _ (fun s c hs => by simp [hs]) ?_
    refine foldl_memWf _ _ _ (fun s c hs => by simp [hs]) ?_
    refine foldl_memWf _ _ _ (fun s c hs => by split <;> simp [hs]) ?_
    rw [State.wb_memory, State.wb_memory]
    dsimp only
    exact Memory.wf_keep _ _ hp

@[simp] theorem State.warmReset_memWf (rst : Nat) : Memory.wf (s.warmReset rst).mem = true := by
  simp only [State.warmReset]; (repeat' split) <;> simp [h]

@[simp] theorem State.sleepExit_memWf : Memory.wf s.sleepExit.mem = true := by
  have hf (u : State) (hu : Memory.wf u.mem = true) : Memory.wf
      ((List.range 6).foldl (fun s c => if s.rb (Addr.pmuCluCtl c) 8 then s.powerCluster c else s) u).mem = true :=
    foldl_memWf _ _ _ (fun s c hs => by split <;> simp [hs]) hu
  unfold State.sleepExit
  dsimp only
  split
  · exact h
  · split
    · simp [h]
    · rw [State.supEvent_mem]
      refine ite_memWf _ _ _ (hf _ ?_) ?_
      · rw [State.liveBits_mem, State.firc_mem]
        dsimp only
        simp [h]
      · rw [State.firc_mem]
        dsimp only
        simp [h]

@[simp] theorem execChannelTrainingComplete_memWf : MemWf (execChannelTrainingComplete s) := by
  simp [execChannelTrainingComplete, h]

@[simp] theorem State.readClaim_memWf (a : Nat) : Memory.wf (s.readClaim a).1.mem = true := by
  simp only [State.readClaim]; grind [State.truRead_memWf]

@[simp] theorem State.takeClaim_memWf (a : Nat) : Memory.wf (s.takeClaim a).mem = true := by
  simp only [State.takeClaim]
  grind [State.commitRecord_mem, State.copyImage_memWf, State.finishRecord_mem, State.readClaim_memWf, State.runImage_memWf,
    State.wb_memory]

@[simp] theorem State.bootOrRecover_memWf : Memory.wf s.bootOrRecover.mem = true := by
  simp only [State.bootOrRecover]; grind [State.bootFlash_memWf, State.wf_memory]

@[simp] theorem State.warmEntry_memWf : Memory.wf s.warmEntry.mem = true := by
  simp [State.warmEntry, h]

@[simp] theorem State.resumeImage_memWf : Memory.wf s.resumeImage.mem = true := by
  simp [State.resumeImage, h]

@[simp] theorem execBootImageVerify_memWf : MemWf (execBootImageVerify s) := by
  simp only [execBootImageVerify]; (repeat' split) <;> simp [h]

end

end Sys2Proof.Machine
end

section
/-! Laws of memory: what every operation of Machine/RegBus.lean leaves of it, and that its form is kept. -/

namespace Sys2Proof.Machine

open Sys2Proof

@[simp] theorem State.semCfgWrite_mem (s : State) (k : Nat) (new : W64) : (s.semCfgWrite k new).mem = s.mem := by
  simp [State.semCfgWrite]

@[simp] theorem State.memCfgWrite_mem (s : State) (new : W64) : (s.memCfgWrite new).mem = s.mem := by
  simp [State.memCfgWrite]

@[simp] theorem State.chCfgWrite_mem (s : State) (c : Nat) (new : W64) : (s.chCfgWrite c new).mem = s.mem := by
  simp only [State.chCfgWrite]; (repeat' split) <;> simp

@[simp] theorem State.ppCfgWrite_mem (s : State) (n : Nat) (new : W64) : (s.ppCfgWrite n new).mem = s.mem := by
  simp only [State.ppCfgWrite]; (repeat' split) <;> simp

@[simp] theorem State.gpioWake_mem (old new : State) : (State.gpioWake old new).mem = new.mem := by
  refine foldl_mem _ _ _ fun s i => ?_
  dsimp only
  (repeat' split) <;> simp

@[simp] theorem State.tokenWrite_mem (s : State) (off i : Nat) (new : W64) : (s.tokenWrite off i new).mem = s.mem := by
  simp only [State.tokenWrite]; (repeat' split) <;> simp

section
variable {s : State} (h : Memory.wf s.mem = true)
include h

@[simp] theorem State.regRead_memWf (src : Src) (off : Nat) (be : BitVec 8) : Memory.wf (s.regRead src off be).2.mem = true := by
  simp only [State.regRead]; (repeat' split) <;> simp [h]

@[simp] theorem State.scctlWrite_memWf (m : W64) : Memory.wf (s.scctlWrite m).mem = true := by
  simp [State.scctlWrite, h]

@[simp] theorem State.regStore_memWf (src : Src) (row : RegRow) (off i j : Nat) (be : BitVec 8) (v : W64) :
    Memory.wf (s.regStore src row off i j be v).mem = true := by
  unfold State.regStore
  extract_lets m old new
  clear_value m old new
  split <;> (repeat' split) <;> simp +zetaDelta [h]

@[simp] theorem State.regWrite_memWf (src : Src) (off : Nat) (be : BitVec 8) (v : W64) :
    Memory.wf (s.regWrite src off be v).mem = true := by
  simp only [State.regWrite]; (repeat' split) <;> simp [h]

@[simp] theorem State.replay_memWf : Memory.wf s.replay.mem = true :=
  foldl_memWf _ _ _ (fun s b hs => by simp [hs]) h

@[simp] theorem State.bar0Write_memWf (f o : Nat) (be : BitVec 8) (v : W64) : Memory.wf (s.bar0Write f o be v).mem = true := by
  simp only [State.bar0Write]; (repeat' split) <;> simp [h]

@[simp] theorem execRegisterWrite_memWf (src : Src) (off : Nat) (be : BitVec 8) (v : W64) :
    MemWf (execRegisterWrite src off be v s) := by
  simp only [execRegisterWrite]; (repeat' split) <;> simp [h]

end

end Sys2Proof.Machine
end

section
/-! Laws of memory: what every operation of Machine/BusCmds.lean leaves of it, and that its form is kept. -/

namespace Sys2Proof.Machine

open Sys2Proof

section
variable {s : State} (h : Memory.wf s.mem = true)
include h

@[simp] theorem busWrite_memWf (src : Src) (ok : Bool) (off : Nat) (v : W64) : MemWf (busWrite src ok off v s) := by
  simp only [busWrite]; (repeat' split) <;> simp [h]

@[simp] theorem busRead_memWf (src : Src) (ok : Bool) (off : Nat) : MemWf (busRead src ok off s) := by
  simp only [busRead]; (repeat' split) <;> simp [h]

@[simp] theorem execAxisCounterWrite_memWf (src : Src) (n : Nat) (v : W64) : MemWf (execAxisCounterWrite src n v s) := by
  simp [execAxisCounterWrite, h]

@[simp] theorem execSlotArm_memWf (src : Src) (k : Nat) (v : W64) : MemWf (execSlotArm src k v s) := by
  simp [execSlotArm, h]

@[simp] theorem execSlotDisarm_memWf (src : Src) (k : Nat) (v : W64) : MemWf (execSlotDisarm src k v s) := by
  simp [execSlotDisarm, h]

@[simp] theorem execCameraConfigWrite_memWf (src : Src) (k : Nat) (v : W64) : MemWf (execCameraConfigWrite src k v s) := by
  simp [execCameraConfigWrite, h]

@[simp] theorem execIngCameraEnable_memWf (src : Src) (k : Nat) (v : W64) : MemWf (execIngCameraEnable src k v s) := by
  simp [execIngCameraEnable, h]

@[simp] theorem execControlSend_memWf (src : Src) (k : Nat) (v : W64) : MemWf (execControlSend src k v s) := by
  simp [execControlSend, h]

@[simp] theorem execCalLoad_memWf (src : Src) (t : Nat) (v : W64) : MemWf (execCalLoad src t v s) := by
  simp [execCalLoad, h]

@[simp] theorem execCalStore_memWf (src : Src) (t : Nat) (v : W64) : MemWf (execCalStore src t v s) := by
  simp [execCalStore, h]

@[simp] theorem execJesdConfigWrite_memWf (src : Src) (v : W64) : MemWf (execJesdConfigWrite src v s) := by
  simp [execJesdConfigWrite, h]

@[simp] theorem execMtabWrite_memWf (src : Src) (p : Nat) (v : W64) : MemWf (execMtabWrite src p v s) := by
  simp [execMtabWrite, h]

@[simp] theorem execSemConfigWrite_memWf (src : Src) (c k : Nat) (v : W64) : MemWf (execSemConfigWrite src c k v s) := by
  simp [execSemConfigWrite, h]

@[simp] theorem execDlmReseed_memWf (src : Src) (p : Nat) (v : W64) : MemWf (execDlmReseed src p v s) := by
  simp [execDlmReseed, h]

@[simp] theorem execPoolFree_memWf (src : Src) (p c : Nat) (v : W64) : MemWf (execPoolFree src p c v s) := by
  simp [execPoolFree, h]

@[simp] theorem execTableFree_memWf (src : Src) (p : Nat) (v : W64) : MemWf (execTableFree src p v s) := by
  simp [execTableFree, h]

@[simp] theorem execPoolConfigWrite_memWf (src : Src) (p c : Nat) (v : W64) : MemWf (execPoolConfigWrite src p c v s) := by
  simp [execPoolConfigWrite, h]

@[simp] theorem execSqStreamConfigWrite_memWf (src : Src) (c k : Nat) (v : W64) : MemWf (execSqStreamConfigWrite src c k v s) := by
  simp [execSqStreamConfigWrite, h]

@[simp] theorem execSqLiveWrite_memWf (src : Src) (c k : Nat) (v : W64) : MemWf (execSqLiveWrite src c k v s) := by
  simp [execSqLiveWrite, h]

@[simp] theorem execSramClear_memWf (src : Src) (v : W64) : MemWf (execSramClear src v s) := by
  simp [execSramClear, h]

@[simp] theorem execScrubAdvance_memWf (src : Src) (v : W64) : MemWf (execScrubAdvance src v s) := by
  simp [execScrubAdvance, h]

@[simp] theorem execTdunpin_memWf (src : Src) (v : W64) : MemWf (execTdunpin src v s) := by
  simp [execTdunpin, h]

@[simp] theorem execFabricEpochAdvance_memWf (src : Src) (p : Nat) (v : W64) : MemWf (execFabricEpochAdvance src p v s) := by
  simp [execFabricEpochAdvance, h]

@[simp] theorem execFabricEpochRetire_memWf (src : Src) (p : Nat) (v : W64) : MemWf (execFabricEpochRetire src p v s) := by
  simp [execFabricEpochRetire, h]

@[simp] theorem execRequestScan_memWf (src : Src) (v : W64) : MemWf (execRequestScan src v s) := by
  simp [execRequestScan, h]

@[simp] theorem execEvpost_memWf (src : Src) (v : W64) : MemWf (execEvpost src v s) := by
  simp [execEvpost, h]

@[simp] theorem execThresholdWrite_memWf (src : Src) (k : Nat) (v : W64) : MemWf (execThresholdWrite src k v s) := by
  simp [execThresholdWrite, h]

@[simp] theorem execRetireWrite_memWf (src : Src) (k : Nat) (v : W64) : MemWf (execRetireWrite src k v s) := by
  simp [execRetireWrite, h]

@[simp] theorem execWatchdogKick_memWf (src : Src) (v : W64) : MemWf (execWatchdogKick src v s) := by
  simp [execWatchdogKick, h]

@[simp] theorem execRequestedRestart_memWf (src : Src) (v : W64) : MemWf (execRequestedRestart src v s) := by
  simp [execRequestedRestart, h]

@[simp] theorem execPartitionCreate_memWf (src : Src) (p : Nat) (v : W64) : MemWf (execPartitionCreate src p v s) := by
  simp [execPartitionCreate, h]

@[simp] theorem execPartitionResize_memWf (src : Src) (p : Nat) (v : W64) : MemWf (execPartitionResize src p v s) := by
  simp [execPartitionResize, h]

@[simp] theorem execHostEpochAdvance_memWf (src : Src) (p : Nat) (v : W64) : MemWf (execHostEpochAdvance src p v s) := by
  simp [execHostEpochAdvance, h]

@[simp] theorem execTeardown_memWf (src : Src) (p : Nat) (v : W64) : MemWf (execTeardown src p v s) := by
  simp [execTeardown, h]

@[simp] theorem execAttestGo_memWf (src : Src) (v : W64) : MemWf (execAttestGo src v s) := by
  simp [execAttestGo, h]

@[simp] theorem execClaimPackage_memWf (src : Src) (v : W64) : MemWf (execClaimPackage src v s) := by
  simp [execClaimPackage, h]

@[simp] theorem execDebugToken_memWf (src : Src) (v : W64) : MemWf (execDebugToken src v s) := by
  simp [execDebugToken, h]

@[simp] theorem execDebugRelock_memWf (src : Src) (v : W64) : MemWf (execDebugRelock src v s) := by
  simp [execDebugRelock, h]

@[simp] theorem execSleepRequest_memWf (src : Src) (v : W64) : MemWf (execSleepRequest src v s) := by
  simp [execSleepRequest, h]

@[simp] theorem execClockSelect_memWf (src : Src) (v : W64) : MemWf (execClockSelect src v s) := by
  simp only [execClockSelect]; (repeat' split) <;> simp [h]

@[simp] theorem execSelfRefreshExit_memWf (src : Src) (v : W64) : MemWf (execSelfRefreshExit src v s) := by
  simp [execSelfRefreshExit, h]

@[simp] theorem execLevelRequest_memWf (src : Src) (c : Nat) (v : W64) : MemWf (execLevelRequest src c v s) := by
  simp only [execLevelRequest]; (repeat' split) <;> simp [h]

@[simp] theorem execClusterReset_memWf (src : Src) (c : Nat) (v : W64) : MemWf (execClusterReset src c v s) := by
  simp [execClusterReset, h]

@[simp] theorem execClusterPower_memWf (src : Src) (c : Nat) (v : W64) : MemWf (execClusterPower src c v s) := by
  simp [execClusterPower, h]

@[simp] theorem execSegmentEnable_memWf (src : Src) (p i : Nat) (v : W64) : MemWf (execSegmentEnable src p i v s) := by
  simp [execSegmentEnable, h]

@[simp] theorem execSegmentDisable_memWf (src : Src) (p i : Nat) (v : W64) : MemWf (execSegmentDisable src p i v s) := by
  simp [execSegmentDisable, h]

@[simp] theorem execBaseStart_memWf (src : Src) (c : Nat) (v : W64) : MemWf (execBaseStart src c v s) := by
  simp [execBaseStart, h]

@[simp] theorem execBaseHalt_memWf (src : Src) (c : Nat) (v : W64) : MemWf (execBaseHalt src c v s) := by
  simp [execBaseHalt, h]

@[simp] theorem execPoolAlloc_memWf (src : Src) (p c : Nat) : MemWf (execPoolAlloc src p c s) := by
  simp [execPoolAlloc, h]

@[simp] theorem execTableAlloc_memWf (src : Src) (p : Nat) : MemWf (execTableAlloc src p s) := by
  simp [execTableAlloc, h]

@[simp] theorem execDebugChallenge_memWf (src : Src) : MemWf (execDebugChallenge src s) := by
  simp [execDebugChallenge, h]

@[simp] theorem execWarmReset_memWf (pin : Bool) (src : Src) (v : W64) : MemWf (execWarmReset pin src v s) := by
  simp [execWarmReset, h]

@[simp] theorem execPllLock_memWf (d : Nat) : MemWf (execPllLock d s) := by
  simp [execPllLock, h]

@[simp] theorem execSleepPhaseEnd_memWf : MemWf (execSleepPhaseEnd s) := by
  simp [execSleepPhaseEnd, h]

@[simp] theorem execSleepExit_memWf : MemWf (execSleepExit s) := by
  simp [execSleepExit, h]

end

end Sys2Proof.Machine
end

section
/-! Laws of memory: what every operation of Machine/LoadStore.lean leaves of it, and that its form is kept. -/

namespace Sys2Proof.Machine

open Sys2Proof

section
variable {s : State} (h : Memory.wf s.mem = true)
include h

@[simp] theorem State.access_memWf (t : Nat) (k : Acc) (a : W64) (n : Nat) (f : Route → State)
    (hf : ∀ r, Memory.wf (f r).mem = true) : Memory.wf (s.access t k a n f).mem = true := by
  unfold State.access; (repeat' split) <;> simp [h, hf]

@[simp] theorem State.coreErr_memWf (t flt : Nat) (f : State → State) (hf : Memory.wf (f s).mem = true) :
    Memory.wf (s.coreErr t flt f).mem = true := by
  simp only [State.coreErr]; (repeat' split) <;> simp (disch := simp (disch := simp [h]) [h]) [hf]

@[simp] theorem State.meshDrop_memWf : Memory.wf s.meshDrop.mem = true := by
  have hd (u : Nat) : Memory.wf ((List.range 4).foldl (fun (s : State) _ => s.detect 13 u) s.fresh.2).mem = true :=
    foldl_memWf _ _ _ (fun s _ hs => by simp [hs]) (by simp [h])
  simp [State.meshDrop, hd]

@[simp] theorem State.fetch_memWf (t : Nat) (a : W64) (n flt : Nat) (f : State → Nat → State) (r : Route)
    (hf : ∀ s v, Memory.wf s.mem = true → Memory.wf (f s v).mem = true) : Memory.wf (s.fetch t a n flt f r).mem = true := by
  simp only [State.fetch]; (repeat' split) <;> simp [h, hf]

@[simp] theorem State.load_memWf (t : Nat) (gt gb : Reg) (imm : W16) (n flt : Nat) (ext : Nat → W64) :
    Memory.wf (s.load t gt gb imm n flt ext).mem = true :=
  State.access_memWf h _ _ _ _ _ fun r => State.fetch_memWf h _ _ _ _ _ _ fun s v hs => by simp [hs]

@[simp] theorem State.put_memWf (t : Nat) (a : W64) (bs : List Byte) (flt : Nat) (r : Route) :
    Memory.wf (s.put t a bs flt r).mem = true := by
  simp only [State.put]; (repeat' split) <;> simp [h]

@[simp] theorem State.storeG_memWf (t : Nat) (gt gb : Reg) (imm : W16) (n flt : Nat) :
    Memory.wf (s.storeG t gt gb imm n flt).mem = true :=
  State.access_memWf h _ _ _ _ _ fun r => by simp [h]

@[simp] theorem execLdbu_memWf (th : Nat) (gt gb : Reg) (imm : W16) (flt : Nat) : MemWf (execLdbu th gt gb imm flt s) := by
  simp (disch := simp [h]) [execLdbu]

@[simp] theorem execLdhu_memWf (th : Nat) (gt gb : Reg) (imm : W16) (flt : Nat) : MemWf (execLdhu th gt gb imm flt s) := by
  simp (disch := simp [h]) [execLdhu]

@[simp] theorem execLdwu_memWf (th : Nat) (gt gb : Reg) (imm : W16) (flt : Nat) : MemWf (execLdwu th gt gb imm flt s) := by
  simp (disch := simp [h]) [execLdwu]

@[simp] theorem execLdw_memWf (th : Nat) (gt gb : Reg) (imm : W16) (flt : Nat) : MemWf (execLdw th gt gb imm flt s) := by
  simp (disch := simp [h]) [execLdw]

@[simp] theorem execLdd_memWf (th : Nat) (gt gb : Reg) (imm : W16) (flt : Nat) : MemWf (execLdd th gt gb imm flt s) := by
  simp (disch := simp [h]) [execLdd]

@[simp] theorem execStb_memWf (th : Nat) (gt gb : Reg) (imm : W16) (flt : Nat) : MemWf (execStb th gt gb imm flt s) := by
  simp (disch := simp [h]) [execStb]

@[simp] theorem execSth_memWf (th : Nat) (gt gb : Reg) (imm : W16) (flt : Nat) : MemWf (execSth th gt gb imm flt s) := by
  simp (disch := simp [h]) [execSth]

@[simp] theorem execStw_memWf (th : Nat) (gt gb : Reg) (imm : W16) (flt : Nat) : MemWf (execStw th gt gb imm flt s) := by
  simp (disch := simp [h]) [execStw]

@[simp] theorem execStd_memWf (th : Nat) (gt gb : Reg) (imm : W16) (flt : Nat) : MemWf (execStd th gt gb imm flt s) := by
  simp (disch := simp [h]) [execStd]

@[simp] theorem execDld_memWf (th : Nat) (gt gb : Reg) (imm : W16) (flt : Nat) : MemWf (execDld th gt gb imm flt s) := by
  simp only [execDld]; (repeat' split) <;> simp (disch := simp (disch := simp [h]) [h])

@[simp] theorem execDst_memWf (th : Nat) (gt gb : Reg) (imm : W16) (flt : Nat) : MemWf (execDst th gt gb imm flt s) := by
  simp only [execDst]; (repeat' split) <;> simp (disch := simp (disch := simp [h]) [h])

@[simp] theorem State.atomic_memWf (t : Nat) (gd ga : Reg) (flt : Nat) (new : W64 → Option W64) :
    Memory.wf (s.atomic t gd ga flt new).mem = true := by
  refine State.access_memWf h _ _ _ _ _ fun r => State.fetch_memWf h _ _ _ _ _ _ fun s v hs => ?_
  dsimp only
  split <;> simp [hs]

@[simp] theorem execAmoswp_memWf (th : Nat) (gd ga gb : Reg) (flt : Nat) : MemWf (execAmoswp th gd ga gb flt s) := by
  simp (disch := simp [h]) [execAmoswp]

@[simp] theorem execAmoadd_memWf (th : Nat) (gd ga gb : Reg) (flt : Nat) : MemWf (execAmoadd th gd ga gb flt s) := by
  simp (disch := simp [h]) [execAmoadd]

@[simp] theorem execAmoand_memWf (th : Nat) (gd ga gb : Reg) (flt : Nat) : MemWf (execAmoand th gd ga gb flt s) := by
  simp (disch := simp [h]) [execAmoand]

@[simp] theorem execAmoor_memWf (th : Nat) (gd ga gb : Reg) (flt : Nat) : MemWf (execAmoor th gd ga gb flt s) := by
  simp (disch := simp [h]) [execAmoor]

@[simp] theorem execAmocas_memWf (th : Nat) (gd ga gb : Reg) (flt : Nat) : MemWf (execAmocas th gd ga gb flt s) := by
  simp (disch := simp [h]) [execAmocas]

end

end Sys2Proof.Machine
end

section
/-! Laws of memory: what every operation of Machine/Signals.lean leaves of it, and that its form is kept. -/

namespace Sys2Proof.Machine

open Sys2Proof

@[simp] theorem State.selectIr_mem (s : State) (ir : Byte) (dr : Nat) : (s.selectIr ir dr).mem = s.mem := by
  simp [State.selectIr]

@[simp] theorem State.jtagBoundary_mem (s : State) (ir : Byte) (cells : Nat) : (s.jtagBoundary ir cells).mem = s.mem := by
  simp [State.jtagBoundary]

@[simp] theorem State.smbReply_mem (s : State) (l : List Byte) : (s.smbReply l).mem = s.mem := by
  simp [State.smbReply]

section
variable {s : State} (h : Memory.wf s.mem = true)
include h

@[simp] theorem execTestMode_memWf (level : Bool) : MemWf (execTestMode level s) := by
  unfold execTestMode
  refine (memWf_next _).2 ?_
  dsimp only
  split <;> simp [h]

@[simp] theorem execJtagExtest_memWf (cells : Nat) : MemWf (execJtagExtest cells s) := by
  simp [execJtagExtest, h]

@[simp] theorem execJtagIdcode_memWf : MemWf (execJtagIdcode s) := by
  simp [execJtagIdcode, h]

@[simp] theorem execJtagSamplePreload_memWf (cells : Nat) : MemWf (execJtagSamplePreload cells s) := by
  simp [execJtagSamplePreload, h]

@[simp] theorem execJtagExtestPulse_memWf (cells : Nat) : MemWf (execJtagExtestPulse cells s) := by
  simp [execJtagExtestPulse, h]

@[simp] theorem execJtagExtestTrain_memWf (cells : Nat) : MemWf (execJtagExtestTrain cells s) := by
  simp [execJtagExtestTrain, h]

@[simp] theorem execJtagHighz_memWf : MemWf (execJtagHighz s) := by
  simp [execJtagHighz, h]

@[simp] theorem execJtagClamp_memWf : MemWf (execJtagClamp s) := by
  simp [execJtagClamp, h]

@[simp] theorem execJtagTuchal_memWf : MemWf (execJtagTuchal s) := by
  simp [execJtagTuchal, h]

@[simp] theorem execJtagBypass_memWf : MemWf (execJtagBypass s) := by
  simp [execJtagBypass, h]

@[simp] theorem State.debugAccess_memWf (wr : Bool) (a : Nat) (v : W64) : Memory.wf (s.debugAccess wr a v).mem = true := by
  simp only [State.debugAccess]; (repeat' split) <;> simp [h]

@[simp] theorem execJtagDbgacc_memWf (wr : Bool) (a : Nat) (v : W64) : MemWf (execJtagDbgacc wr a v s) := by
  simp [execJtagDbgacc, h]

@[simp] theorem execSmbTemp_memWf : MemWf (execSmbTemp s) := by
  simp [execSmbTemp, h]

@[simp] theorem execSmbPower_memWf : MemWf (execSmbPower s) := by
  simp [execSmbPower, h]

@[simp] theorem execSmbHealth_memWf : MemWf (execSmbHealth s) := by
  simp [execSmbHealth, h]

@[simp] theorem execSmbState_memWf : MemWf (execSmbState s) := by
  simp [execSmbState, h]

@[simp] theorem execSmbIdent_memWf : MemWf (execSmbIdent s) := by
  simp [execSmbIdent, h]

@[simp] theorem execSmbAlertResponse_memWf : MemWf (execSmbAlertResponse s) := by
  simp [execSmbAlertResponse, h]

end

end Sys2Proof.Machine
end

section
/-! Laws of memory: what every operation of Machine/Dispatch.lean leaves of it, and that its form is kept. -/

namespace Sys2Proof.Machine

open Sys2Proof

section
variable {s : State} (h : Memory.wf s.mem = true)
include h

@[simp] theorem exec_memWf (i : Instr) : MemWf (exec i s) := by
  cases i <;> simp [exec, h]

end

end Sys2Proof.Machine
end

section
/-! Laws of memory: what every operation of Machine/Step.lean leaves of it, and that its form is kept. -/

namespace Sys2Proof.Machine

open Sys2Proof

section
variable {s : State} (h : Memory.wf s.mem = true)
include h

@[simp] theorem step_memWf : MemWf (step s) := by
  unfold step; split
  · simp [h]
  · next c rest _ => exact exec_memWf (s := { s with pending := rest }) h c

end

end Sys2Proof.Machine
end

section
/-! The canonical form of memory through every step. -/

open Sys2Proof Sys2Proof.Machine

/-- Settles O57: every operation writes memory byte by byte or drops bytes of it, and neither breaks its form (`exec_memWf` for a
command, `State.tick_memWf` for a tick). -/
theorem memoryStaysCanonical : Obligations.MemoryStaysCanonical :=
  fun _ t h hs => step_memWf h t hs

end

section
/-! Blocks and control words of a fabric port whatever they meet, and the block that leaves next (R602 to R607, R614, R615, R621). -/

namespace Sys2Proof.Machine

open Sys2Proof

/-- Two states differ at most in ports and registers. -/
def State.PortsOnly (s t : State) : Prop := t = { s with ports := t.ports, regs := t.regs }

/-- Two states differ at most in ports, registers and counts of operations. -/
def State.LinkOnly (s t : State) : Prop := t = { s with ports := t.ports, regs := t.regs, health := t.health }

theorem State.PortsOnly.trans {s t u : State} (h : s.PortsOnly t) (h' : t.PortsOnly u) : s.PortsOnly u := by
  unfold State.PortsOnly at *
  rw [h', h]

theorem State.LinkOnly.trans {s t u : State} (h : s.LinkOnly t) (h' : t.LinkOnly u) : s.LinkOnly u := by
  unfold State.LinkOnly at *
  rw [h', h]

theorem State.PortsOnly.linkOnly {s t : State} (h : s.PortsOnly t) : s.LinkOnly t := by
  unfold State.PortsOnly at h
  unfold State.LinkOnly
  rw [h]

theorem State.portsOnly_setPort (s : State) (q : Nat) (x : Port) : s.PortsOnly (s.setPort q x) := rfl
theorem State.portsOnly_wf (s : State) (off hi lo x : Nat) : s.PortsOnly (s.wf off hi lo x) := rfl
theorem State.portsOnly_inc (s : State) (off hi lo n : Nat) : s.PortsOnly (s.inc off hi lo n) := rfl

theorem State.linkOnly_countOps (s : State) (k u n : Nat) : s.LinkOnly (s.countOps k u n) := by
  unfold State.LinkOnly
  rw [State.countOps_frame]

theorem State.linkOnly_blockCounted (s : State) (q : Nat) : s.LinkOnly (s.blockCounted q) := by
  unfold State.blockCounted State.onLanes
  generalize s.lanesIn q = l
  induction l generalizing s with
  | nil => rfl
  | cons l ls ih => exact (s.linkOnly_countOps 12 (2 * q + l) 1).trans (ih _)

/-! ## Blocks that arrive (R603, R604, Table 17.7) -/

/-- A block that arrives while the pair's clock is stopped wakes it. -/
def State.blockWoken (s : State) (q : Nat) : State := if s.clk 0 = true then s else s.raiseWake 5 q

theorem State.blockWoken_keeps (s : State) (q : Nat) : (s.blockWoken q).ports = s.ports ∧ (s.blockWoken q).time = s.time := by
  unfold State.blockWoken
  split <;> exact ⟨rfl, rfl⟩

theorem exec_fabricBlockReceive_up {s : State} {q : Nat} (b : Block) (crcOk : Bool) (hq : q < 4) (hup : s.portUp q = true) :
    exec (.fabricBlockReceive q b crcOk) s = .next (((s.blockWoken q).blockCounted q).blockTaken q b crcOk) := by
  have hexec : exec (.fabricBlockReceive q b crcOk) s = execFabricBlockReceive q b crcOk s := rfl
  rw [hexec, execFabricBlockReceive, if_pos hq, if_pos hup, State.blockIn_eq]
  rfl

section
variable {s : State} {q : Nat} {b : Block}

theorem State.blockTaken_damaged {crcOk : Bool} (h : crcOk = false ∨ badBlock b = true) :
    s.blockTaken q b crcOk = (s.sat (Addr.fabPortCnt1 q) 63 48 1).discard q := by
  rw [State.blockTaken, if_pos (by rcases h with h | h <;> simp [h])]

theorem State.blockTaken_outOfTurn (hgood : badBlock b = false) (hseq : b.seq ≠ (s.port q).rxSeq) {k : Nat}
    (hk : k = ((s.port q).rxSeq + 65536 - b.seq % 65536) % 65536) : s.blockTaken q b true =
      if 1 ≤ k ∧ k ≤ 64 then (s.onLanes q fun s u => s.detect 12 u).sendAck q else s.discard q := by
  rw [State.blockTaken, if_neg (by simp [hgood]), if_pos hseq, ← hk]

end

/-- The port after a block in its turn, which may be the eighth without an ACK. -/
theorem State.port_blockAcked_eq (s : State) (q : Nat) : (s.blockAcked q).port q = { s.port q with
    rxSeq := ((s.port q).rxSeq + 1) % 65536, nakSent := false,
    unacked := if 7 ≤ (s.port q).unacked then 0 else (s.port q).unacked + 1,
    unackedAt := if (s.port q).unacked = 0 then s.time else (s.port q).unackedAt,
    ctl := if 7 ≤ (s.port q).unacked then (s.port q).ctl ++ [(0, (s.port q).rxSeq % 65536)] else (s.port q).ctl } := by
  unfold State.blockAcked
  by_cases h : 7 ≤ (s.port q).unacked
  · have hseq : (((s.port q).rxSeq + 1) % 65536 + 65535) % 65536 = (s.port q).rxSeq % 65536 := by omega
    rw [if_pos (Nat.succ_le_succ h), State.port_sendAck, State.port_blockAccepted, if_pos h, if_pos h, ← hseq]
    rfl
  · rw [if_neg (by omega), State.port_blockAccepted, if_neg h, if_neg h]
    rfl

theorem State.linkOnly_blockAcked (s : State) (q : Nat) : s.LinkOnly (s.blockAcked q) := by
  have haccept : s.PortsOnly (s.blockAccepted q) := (s.portsOnly_setPort _ _).trans (State.portsOnly_inc _ _ _ _ _)
  unfold State.blockAcked
  split
  · exact (haccept.trans (State.portsOnly_setPort _ _ _)).linkOnly
  · exact haccept.linkOnly

theorem State.port_blockAcked_other (s : State) {q j : Nat} (h : j ≠ q) : (s.blockAcked q).port j = s.port j := by
  have haccept : (s.blockAccepted q).port j = s.port j := s.port_setPort_other _ h
  unfold State.blockAcked
  split
  · exact (State.port_setPort_other _ _ h).trans haccept
  · exact haccept

/-! ## Control words (R604 to R607) -/

theorem exec_ackReceive_none {s : State} {q n : Nat} (hq : q < 4) (hup : s.portUp q = true)
    (hlen : ((s.port q).replay.filter fun b => !decide (seqBack n b.blk.seq < 64)).length = (s.port q).replay.length) :
    exec (.ackReceive q n) s = .next s := by
  have hexec : exec (.ackReceive q n) s = execAckReceive q n s := rfl
  rw [hexec, execAckReceive, if_pos hq, if_pos hup]
  exact congrArg Host.Outcome.next (if_neg (hlen ▸ lt_irrefl _))

theorem State.startReplay_empty {s : State} {q : Nat} (h : (s.port q).replay = []) : s.startReplay q = s := by
  rw [State.startReplay, h]

/-- A port whose oldest block has been sent again for the eighth time. -/
def Port.escalated (x : Port) (b : Sent) (rest : List Sent) (now : Nat) : Port :=
  { x with replay := { b with tries := b.tries + 1 } :: rest, progressAt := now, esc := true, again := 0, trainAt := now }

/-- The state in which an escalated port trains again. -/
def State.escalated (s : State) (q : Nat) (b : Sent) (rest : List Sent) : State :=
  ((((s.sat (Addr.fabPortCnt1 q) 47 32 1).setPort q ((s.port q).escalated b rest s.time)).setPortState q 1).sat (Addr.fabPortCnt1 q) 31 16 1)

theorem State.startReplay_escalates {s : State} {q : Nat} {b : Sent} {rest : List Sent} (hreplay : (s.port q).replay = b :: rest)
    (htries : 7 ≤ b.tries) : s.startReplay q = (s.escalated q b rest).onLanes q fun w u => w.exhaustWith 12 u
      { report 12 .exhaust u 0 with
        sub := b.tries + 1, detail := bytesOf 2 b.blk.seq ++ bytesOf 1 ((s.escalated q b rest).lanesIn q).length } := by
  rw [State.startReplay, hreplay]
  exact if_neg (Nat.not_lt.mpr (Nat.succ_le_succ htries))

theorem exec_replayTimeout_early {s : State} {q : Nat} (hq : q < 4) (h : s.time < (s.port q).progressAt + 1600) :
    exec (.replayTimeout q) s = .next s := by
  have hexec : exec (.replayTimeout q) s = execReplayTimeout q s := rfl
  rw [hexec, execReplayTimeout, if_pos hq, if_neg fun ⟨_, hdue⟩ => Nat.not_le.mpr h hdue]

theorem exec_ackDelayExpiry_early {s : State} {q : Nat} (hq : q < 4) (h : s.time < (s.port q).unackedAt + 200) :
    exec (.ackDelayExpiry q) s = .next s := by
  have hexec : exec (.ackDelayExpiry q) s = execAckDelayExpiry q s := rfl
  rw [hexec, execAckDelayExpiry, if_pos hq, if_neg fun ⟨_, _, hdue⟩ => Nat.not_le.mpr h hdue]

/-! ## The block that leaves next (R614, R615, R621) -/

/-- The next block of virtual channel v that may leave a port: of the device's own and the forwarded ones in turn. -/
def State.vcOut (s : State) (q v : Nat) : Option (Block × Nat) :=
  let l := (s.port q).tx.filter fun e => e.1.type != 8 && bufOf e.1 == v && !s.heldBack e.1
  let mine := l.find? fun e => e.1.src == s.fabId
  let fwd := l.find? fun e => e.1.src != s.fabId
  if (s.port q).credits.getD v 0 = 0 then none
  else if (s.port q).turn.testBit (1 + v) then mine.orElse fun _ => fwd else fwd.orElse fun _ => mine

/-- A position packet that may leave: it has a credit and can be sealed. -/
def State.posGoes (s : State) (q : Nat) (e : Block × Nat) : Bool :=
  e.1.type == 8 && decide (0 < (s.port q).credits.getD (bufOf e.1) 0) &&
    (match s.domPart e.1.dom with | some p => s.canSeal p | none => false)

theorem State.nextOut_eq (s : State) (q : Nat) : s.nextOut q = match (s.port q).tx.find? (s.posGoes q) with
    | some e => some e
    | none => if (s.port q).turn.testBit 0 then (s.vcOut q 1).orElse fun _ => s.vcOut q 0
      else (s.vcOut q 0).orElse fun _ => s.vcOut q 1 := rfl

theorem or_of_orElse {α : Type} {a b : Option α} {e : α} (h : (a.orElse fun _ => b) = some e) : a = some e ∨ b = some e :=
  ((Option.orElse_eq_some a b e).mp h).imp_right And.right

/-- What leaves a port on a virtual channel stood in its queue and has a credit. -/
theorem State.vcOut_queued {s : State} {q v : Nat} {e : Block × Nat} (h : s.vcOut q v = some e) :
    e ∈ (s.port q).tx ∧ 0 < (s.port q).credits.getD (bufOf e.1) 0 := by
  unfold State.vcOut at h
  dsimp only at h
  split at h
  · exact absurd h (Option.some_ne_none e).symm
  next hcredit =>
    have hmem : e ∈ (s.port q).tx.filter fun e => e.1.type != 8 && bufOf e.1 == v && !s.heldBack e.1 := by
      split at h
      · exact (or_of_orElse h).elim List.mem_of_find?_eq_some List.mem_of_find?_eq_some
      · exact (or_of_orElse h).elim List.mem_of_find?_eq_some List.mem_of_find?_eq_some
    obtain ⟨htx, hfits⟩ := List.mem_filter.mp hmem
    simp only [Bool.and_eq_true, beq_iff_eq] at hfits
    obtain ⟨⟨-, hbuf⟩, -⟩ := hfits
    exact ⟨htx, hbuf ▸ Nat.pos_of_ne_zero hcredit⟩

theorem State.nextOut_queued {s : State} {q : Nat} {e : Block × Nat} (h : s.nextOut q = some e) :
    e ∈ (s.port q).tx ∧ 0 < (s.port q).credits.getD (bufOf e.1) 0 := by
  rw [State.nextOut_eq] at h
  split at h
  next p hfind =>
    cases h
    have hgoes := List.find?_some hfind
    simp only [State.posGoes, Bool.and_eq_true, decide_eq_true_eq] at hgoes
    obtain ⟨⟨-, hcredit⟩, -⟩ := hgoes
    exact ⟨List.mem_of_find?_eq_some hfind, hcredit⟩
  next =>
    split at h
    · exact (or_of_orElse h).elim State.vcOut_queued State.vcOut_queued
    · exact (or_of_orElse h).elim State.vcOut_queued State.vcOut_queued

theorem State.dropPos_setCtl (s : State) (q : Nat) (c : List (Nat × Nat)) :
    (s.setPort q { s.port q with ctl := c }).dropPos q = s.setPort q { (s.dropPos q).port q with ctl := c } := by
  unfold State.dropPos
  simp only [State.port_setPort_same, State.setPort_setPort]
  rfl

/-- Control words do not bear on the block that leaves next. -/
theorem State.nextOut_dropPos_setCtl (s : State) (q : Nat) (c : List (Nat × Nat)) :
    ((s.setPort q { s.port q with ctl := c }).dropPos q).nextOut q = (s.dropPos q).nextOut q := by
  rw [State.dropPos_setCtl]
  unfold State.nextOut State.dropPos
  simp only [State.port_setPort_same]
  rfl

theorem exec_blockSend_full {s : State} {q : Nat} (t : Nat) (hq : q < 4) (hup : s.portUp q = true) (hagain : (s.port q).again = 0)
    (hfull : 64 ≤ (s.port q).replay.length) : exec (.blockSend q t) s = .next (s.setPort q { s.port q with ctl := [] }) := by
  have hexec : exec (.blockSend q t) s = execBlockSend q t s := rfl
  rw [hexec, execBlockSend, if_pos hq, if_pos hup, State.blockOut, if_neg (by omega), if_pos hfull]

/-- Whose turn it is, of the channels and of own and forwarded blocks, after block b has left (R615). -/
def State.turnAfter (s : State) (x : Port) (b : Block) : Nat :=
  if bufOf b = 2 then x.turn else putBit (putBit x.turn 0 (bufOf b == 0)) (1 + bufOf b) (b.src != s.fabId)

/-- A port after block b, queued at t0, has left it. -/
def Port.sent (x : Port) (b : Block) (t0 now turn : Nat) : Port :=
  { x with
    tx := x.tx.erase (b, t0), txSeq := (x.txSeq + 1) % 65536, replay := x.replay ++ [⟨{ b with seq := x.txSeq }, 0⟩],
    progressAt := if x.replay.isEmpty then now else x.progressAt,
    credits := x.credits.set (bufOf b) (x.credits.getD (bufOf b) 0 - 1), turn := turn, out := some { b with seq := x.txSeq }, ctl := [] }

theorem State.blockOut_new {s : State} {q t0 : Nat} {b : Block} (t : Nat) (hagain : (s.port q).again = 0)
    (hroom : (s.port q).replay.length < 64) (hnext : (s.dropPos q).nextOut q = some (b, t0)) (htype : b.type ≠ 8) : s.blockOut q t =
      (s.setPort q (((s.dropPos q).port q).sent b t0 s.time (s.turnAfter ((s.dropPos q).port q) b))).inc (Addr.fabPortCnt0 q) 63 32 1 := by
  have hready := (s.nextOut_dropPos_setCtl q []).trans hnext
  rw [State.blockOut, if_neg (by omega), if_neg (by omega)]
  simp only [hready, if_neg htype, State.wire_plain htype]
  simp only [State.dropPos_setCtl, State.port_setPort_same, State.setPort_setPort]
  rfl

theorem exec_blockSend_new {s : State} {q t0 : Nat} {b : Block} (t : Nat) (hq : q < 4) (hup : s.portUp q = true)
    (hagain : (s.port q).again = 0) (hroom : (s.port q).replay.length < 64) (hnext : (s.dropPos q).nextOut q = some (b, t0))
    (htype : b.type ≠ 8) : exec (.blockSend q t) s =
      .next ((s.setPort q (((s.dropPos q).port q).sent b t0 s.time (s.turnAfter ((s.dropPos q).port q) b))).inc (Addr.fabPortCnt0 q) 63 32 1) := by
  have hexec : exec (.blockSend q t) s = execBlockSend q t s := rfl
  rw [hexec, execBlockSend, if_pos hq, if_pos hup, State.blockOut_new t hagain hroom hnext htype]

end Sys2Proof.Machine
end

section
/-! The training of a fabric port: what it leaves of the port and its registers, where it fails, and the lane that a fast retrain retires
(R607 to R613). -/

namespace Sys2Proof.Machine

open Sys2Proof

theorem exec_portTrainingStart_idle {s : State} {q : Nat} (hq : q < 4) (h : s.rb (Addr.fabPortCfg q) 0 = false ∨ s.portState q = 5) :
    exec (.portTrainingStart q) s = .next s := by
  have hexec : exec (.portTrainingStart q) s = execPortTrainingStart q s := rfl
  rw [hexec, execPortTrainingStart, if_pos hq, if_neg]
  rintro ⟨-, hen, hin⟩
  exact h.elim (fun hoff => Bool.false_ne_true (hoff.symm.trans hen)) hin

/-! ## The end of a training (R611, R612) -/

section
variable (s : State) (q nid np rtt res : Nat)

theorem State.port_goUp_trained : ((s.portTrained q nid np rtt res).goUp q).port q =
    { (s.port q).restarted s.time with latAt := s.time } := by
  rw [State.goUp_eq, State.port_wf, State.portTrained, State.port_setLatency, State.port_wf, State.port_wf, State.port_setPort_same]
  rfl

theorem State.portsOnly_goUp_trained : s.PortsOnly ((s.portTrained q nid np rtt res).goUp q) := by
  have hset := s.portsOnly_setPort q ((s.port q).restarted s.time)
  have hname := (hset.trans (State.portsOnly_wf _ (Addr.fabPortStat q) 48 40 nid)).trans (State.portsOnly_wf _ (Addr.fabPortStat q) 54 52 np)
  rw [State.goUp_eq, State.portTrained, State.setLatency]
  exact ((hname.trans (State.portsOnly_setPort _ _ _)).trans (State.portsOnly_wf _ _ _ _ _)).trans (State.portsOnly_wf _ _ _ _ _)

end

/-- The status register of a port that has gone up. -/
theorem State.rd_stat_goUp_trained (s : State) {q : Nat} (nid np rtt res : Nat) (hq : q < 4) :
    ((s.portTrained q nid np rtt res).goUp q).rd (Addr.fabPortStat q) =
      setFld (setFld (setFld (s.rd (Addr.fabPortStat q)) 48 40 nid) 54 52 np) 2 0 (if (s.lanesIn q).length = 2 then 2 else 3) := by
  rw [State.goUp_eq, State.lanesIn_trained _ _ _ _ _ hq, State.rd_wf_same, State.portTrained,
    State.rd_setLatency _ _ _ (fabPort_ne_linkoff hq).1, State.rd_wf_same, State.rd_wf_same, State.rd_setPort]

theorem State.rd_linkoff_goUp_trained (s : State) {q : Nat} (nid np rtt res : Nat) (hq : q < 4) :
    ((s.portTrained q nid np rtt res).goUp q).rf (Addr.ptbLinkoff q) 23 0 = (rtt - res) / 2 % 2 ^ 24 := by
  rw [State.rf, State.goUp_eq, State.rd_wf_other _ _ _ _ (fabPort_ne_linkoff hq).1.symm, State.portTrained, State.setLatency, State.rd_wf_same]
  exact fld_setFld_same _ 23 0 _ (by decide) (by decide)

theorem State.onlyRegs_goUp_trained (s : State) (q nid np rtt res : Nat) :
    s.onlyRegs ((s.portTrained q nid np rtt res).goUp q) [Addr.fabPortStat q, Addr.ptbLinkoff q] := by
  intro off hoff
  simp only [List.mem_cons, List.not_mem_nil, or_false, not_or] at hoff
  obtain ⟨hstat, hlink⟩ := hoff
  rw [State.goUp_eq, State.rd_wf_other _ _ _ _ hstat, State.portTrained, State.rd_setLatency _ _ _ hlink, State.rd_wf_other _ _ _ _ hstat,
    State.rd_wf_other _ _ _ _ hstat, State.rd_setPort]

theorem exec_trainingComplete_stranger {s : State} {q nid np w h : Nat} {loop : Bool} (rtt res : Nat) (hq : q < 4)
    (hclk : s.clk (11 + q) = true) (htrain : s.portState q = 1) (hesc : (s.port q).esc = false)
    (hpartner : s.partnerOk q nid np w h loop = false) : exec (.trainingComplete q nid np w h loop rtt res) s =
      .next (((s.wb (Addr.fabPortStat q) 7 true).setPortState q 4).record (report 12 .config (2 * q) 0)) := by
  have hexec : exec (.trainingComplete q nid np w h loop rtt res) s = execTrainingComplete q nid np w h loop rtt res s := rfl
  rw [hexec, execTrainingComplete, if_pos hq, if_pos ⟨hclk, htrain, by simp [hesc]⟩, if_neg (by simp [hpartner])]

/-! ## Training that fails (R610, R611) -/

theorem exec_trainingTimeout_early {s : State} {q : Nat} (hq : q < 4) (h : s.time < (s.port q).trainAt + 4000000) :
    exec (.trainingTimeout q) s = .next s := by
  have hexec : exec (.trainingTimeout q) s = execTrainingTimeout q s := rfl
  rw [hexec, execTrainingTimeout, if_pos hq, if_neg fun ⟨_, _, hdue⟩ => Nat.not_le.mpr h hdue]

theorem exec_trainingTimeout_retires {s : State} {q : Nat} (hq : q < 4) (hclk : s.clk (11 + q) = true) (htrain : s.portState q = 1)
    (hdue : (s.port q).trainAt + 4000000 ≤ s.time) (hfails : 2 ≤ (s.port q).fails) : exec (.trainingTimeout q) s =
      .next (((s.setPort q { s.port q with fails := (s.port q).fails + 1, esc := false, trainAt := s.time }).retire 12 (2 * q)).retire 12
        (2 * q + 1)) := by
  have hexec : exec (.trainingTimeout q) s = execTrainingTimeout q s := rfl
  rw [hexec, execTrainingTimeout, if_pos hq, if_pos ⟨hclk, htrain, hdue⟩]
  exact congrArg Host.Outcome.next (if_neg (Nat.not_lt.mpr (Nat.succ_le_succ hfails)))

/-! ## Fast retraining and coefficient requests (R607, R608, R613) -/

/-- A port whose fast retraining has ended: it sends its replay buffer again, its retries at 0. -/
def Port.retrained (x : Port) (now : Nat) : Port :=
  { x with
    esc := false, declared := false, fails := 0, replay := x.replay.map (fun (b : Sent) => { b with tries := 0 }),
    again := x.replay.length, ctl := [(3, 0)], progressAt := now }

/-- A declared port loses its worse lane as its fast retraining ends; it goes up on the other, where it has one. -/
theorem exec_fastRetrainComplete_declared {s w : State} {q : Nat} (b0 b1 : Bool) (rtt res : Nat) (hq : q < 4) (hclk : s.clk (11 + q) = true)
    (htrain : s.portState q = 1) (hesc : (s.port q).esc = true) (hdecl : (s.port q).declared = true)
    (hw : w = s.setPort q ((s.port q).retrained s.time)) : exec (.fastRetrainComplete q b0 b1 rtt res) s =
      .next (if (w.retire 12 (2 * q + w.worseLane q b0 b1)).portState q = 5 then w.retire 12 (2 * q + w.worseLane q b0 b1)
        else ((w.retire 12 (2 * q + w.worseLane q b0 b1)).setLatency q rtt res).goUp q) := by
  have hexec : exec (.fastRetrainComplete q b0 b1 rtt res) s = execFastRetrainComplete q b0 b1 rtt res s := rfl
  rw [hexec, execFastRetrainComplete, if_pos hq, if_pos ⟨hclk, htrain, hesc⟩, hw]
  simp only [hdecl, if_true]
  rfl

theorem exec_eqRequest_on {s : State} {q l : Nat} (r : Nat) (hq : q < 4) (hclk : s.clk (11 + q) = true) (hl : l < 2)
    (hst : s.portState q = 1 ∨ s.portUp q = true) : exec (.eqRequest q l r) s =
      .next (s.setPort q { s.port q with eq := (s.port q).eq.set l (((s.port q).eq.getD l ⟨0, 0, 0⟩).apply r) }) := by
  have hexec : exec (.eqRequest q l r) s = execEqRequest q l r s := rfl
  rw [hexec, execEqRequest, if_pos ⟨hq, hl⟩, if_pos ⟨hclk, hst⟩]

theorem EqTap.apply_cases (t : EqTap) (r : Nat) :
    (r % 16 = 1 → t.apply r = { t with pre := t.pre + 1 }) ∧ (r % 16 = 2 → t.apply r = { t with pre := t.pre - 1 }) ∧
    (r % 16 = 3 → t.apply r = { t with post := t.post + 1 }) ∧ (r % 16 = 4 → t.apply r = { t with post := t.post - 1 }) ∧
    (r % 16 = 5 → t.apply r = ⟨r / 16 % 16, 0, 0⟩) := by
  unfold EqTap.apply
  refine ⟨fun h => ?_, fun h => ?_, fun h => ?_, fun h => ?_, fun h => ?_⟩
  all_goals simp only [h]

end Sys2Proof.Machine
end

section
/-! The obligation on the links of the fabric. -/

open Sys2Proof Sys2Proof.Machine

/-- Settles O41: a block by its CRC, its fields and its place in the order of SEQ; control words by whether they are due; the next block
by the room that the replay buffer has; training by the partner, the failures in a row and the lanes that are left. -/
theorem fabricLinks : Obligations.FabricLinks := by
  unfold Obligations.FabricLinks
  refine ⟨?_, ?_⟩
  · rintro s q x hq hup rfl
    refine ⟨?block, ?ack, ?nakEmpty, ?early, ?replay, ?ackDelay, ?credit, ?next, ?full, ?new, ?again⟩
    case block =>
      intro b z w hz hw
      have hwoken : z = s.blockWoken q := hz
      have hcounted : w = z.blockCounted q := hw
      have hexec := fun ok => exec_fabricBlockReceive_up b ok hq hup
      rw [← hwoken, ← hcounted] at hexec
      obtain ⟨hports, htime⟩ := s.blockWoken_keeps q
      have hz : ∀ j, z.port j = s.port j := fun j => by rw [State.port, hwoken, hports, ← State.port]
      have hlink : z.LinkOnly w := hcounted ▸ z.linkOnly_blockCounted q
      have hport : ∀ j, w.port j = s.port j := fun j => by rw [hcounted, State.port_blockCounted, hz]
      have hnow : w.time = s.time := by rw [hlink, hwoken, htime]
      refine ⟨fun hbad => ?_, ?_, fun hgood hseq k hk => ?_, fun hgood hseq => ?_⟩
      · rw [hexec, State.blockTaken_damaged (.inr hbad)]
      · rw [hexec, State.blockTaken_damaged (.inl rfl)]
      · rw [← hport q] at hseq hk
        rw [hexec, State.blockTaken_outOfTurn hgood hseq hk]
        exact ⟨fun h1 h64 => by rw [if_pos ⟨h1, h64⟩], fun hout => by rw [if_neg (by omega)]⟩
      · refine ⟨w.blockAcked q, ?_, ?_, fun j hj => (w.port_blockAcked_other hj).trans (hport j), hlink.trans (w.linkOnly_blockAcked q)⟩
        · rw [hexec, State.blockTaken_inTurn hgood (by rw [hport, hseq])]
        · rw [State.port_blockAcked_eq, hport, hnow]
    case ack =>
      rintro n l rfl
      exact ⟨fun hlen => exec_ackReceive_progress hq hup rfl hlen, fun hlen => exec_ackReceive_none hq hup hlen⟩
    case nakEmpty => exact fun n hnone => by rw [exec_nakReceive_up n hq hup, State.startReplay_empty hnone]
    case early => exact exec_replayTimeout_early hq
    case replay =>
      have hboth : ∀ n y, s.startReplay q = y → exec (.nakReceive q n) s = .next y ∧
          ((s.port q).progressAt + 1600 ≤ s.time → exec (.replayTimeout q) s = .next y) := by
        rintro n y rfl
        exact ⟨exec_nakReceive_up n hq hup, exec_replayTimeout_due hq hup⟩
      rintro n b rest u hreplay rfl
      refine ⟨?_, ?_⟩
      · rintro htries y rfl
        exact hboth n _ (State.startReplay_again hreplay htries)
      · rintro htries w y rfl rfl
        exact hboth n _ (State.startReplay_escalates hreplay htries)
    case ackDelay =>
      exact fun hun => ⟨exec_ackDelayExpiry_due hq hup hun, exec_ackDelayExpiry_early hq⟩
    case credit => exact fun v n hv h1 h8 => exec_creditReturn_up hq hup hv h1 h8
    case next => exact fun e => State.nextOut_queued
    case full => exact fun t hagain hfull => exec_blockSend_full t hq hup hagain hfull
    case new =>
      intro b t0 t hagain hroom hnext htype
      refine ⟨_, exec_blockSend_new t hq hup hagain hroom hnext htype, ?_⟩
      simp only [State.port_inc, State.port_setPort_same]
      simp only [State.dropPos, State.port_setPort_same]
      exact ⟨rfl, rfl, rfl, rfl, rfl, rfl, rfl⟩
    case again => exact fun b t hagain hb htype => exec_blockSend_replay t hq hup hagain hb htype
  · rintro s q x hq hclk rfl
    refine ⟨?start, ?idle, ?complete, ?early, ?late, ?retrain, ?taps⟩
    case start =>
      rintro p hen hin rfl
      exact exec_portTrainingStart_due hq hclk hen hin
    case idle => exact exec_portTrainingStart_idle hq
    case complete =>
      intro nid np w h loop rtt res htrain hesc
      refine ⟨fun hpartner => ?_, fun hpartner => exec_trainingComplete_stranger rtt res hq hclk htrain hesc hpartner⟩
      obtain ⟨-, -, hstate, hnid⟩ := s.goUp_trained nid np rtt res hq rfl
      refine ⟨_, exec_trainingComplete_partner rtt res hq hclk htrain hesc hpartner, s.port_goUp_trained q nid np rtt res, hstate, hnid, ?_,
        s.rd_linkoff_goUp_trained nid np rtt res hq, s.portsOnly_goUp_trained q nid np rtt res, s.onlyRegs_goUp_trained q nid np rtt res⟩
      rw [State.rf, State.rd_stat_goUp_trained _ _ _ _ _ hq, fld_setFld_other _ 2 0 _ _ _ (by decide) (by decide) (by decide)]
      exact fld_setFld_same _ 54 52 _ (by decide) (by decide)
    case early => exact fun _ => exec_trainingTimeout_early hq
    case late =>
      rintro htrain hdue w rfl
      exact ⟨exec_trainingTimeout_again hq hclk htrain hdue, exec_trainingTimeout_retires hq hclk htrain hdue⟩
    case retrain =>
      intro b0 b1 rtt res htrain hesc w hw
      refine ⟨fun hkept => ?_, ?_⟩
      · rw [hw]
        exact exec_fastRetrainComplete_kept b0 b1 rtt res hq hclk htrain hesc hkept
      · rintro hdecl y rfl
        rw [exec_fastRetrainComplete_declared b0 b1 rtt res hq hclk htrain hesc hdecl hw]
        exact ⟨fun hout => by rw [if_pos hout], fun hin => by rw [if_neg hin]⟩
    case taps =>
      rintro l r hl hst t rfl
      rw [exec_eqRequest_on r hq hclk hl hst]
      obtain ⟨h1, h2, h3, h4, h5⟩ := ((s.port q).eq.getD l ⟨0, 0, 0⟩).apply_cases r
      exact ⟨fun h => by rw [h1 h], fun h => by rw [h2 h], fun h => by rw [h3 h], fun h => by rw [h4 h], fun h => by rw [h5 h]⟩

end

section
/-! Blocks served for another device, the responses to this device's transfers, and what each leaves (R626 to R632, R638). -/

namespace Sys2Proof.Machine

open Sys2Proof

/-! ## The head of a receive buffer (R625, R626, R632) -/

theorem State.rxHead_type {s : State} {q t : Nat} {b : Block} (h : s.rxHead q t = some b) : b.type = t := by
  unfold State.rxHead at h
  split at h
  · split at h
    next htype => exact (Option.some.inj h) ▸ htype.1
    next => exact absurd h (Option.some_ne_none b).symm
  · exact absurd h (Option.some_ne_none b).symm

section
variable {s : State} {q t p : Nat} {b : Block} (hq : q ≤ 4) (hhead : s.rxHead q t = some b) (f : State → Nat → Block → State)
include hq hhead

/-- A block of a domain that no partition holds is dropped and counted. -/
theorem fabRecv_stray (hdom : s.domPart b.dom = none) : fabRecv q t f s = .next ((s.sat Addr.fabDrop 31 0 1).rxDrop q b) := by
  rw [fabRecv, if_pos (show q ≤ inner from hq), State.serve]
  simp only [hhead, hdom]

/-- A block of a partition's domain leaves the buffer and is handled, unless it is a request whose memory is not to be reached now. -/
theorem fabRecv_handled (hdom : s.domPart b.dom = some p)
    (hgo : (t = 1 ∨ t = 4 ∨ t = 7) → s.impWaits p (s.touches p b).1 (s.touches p b).2.1 (s.touches p b).2.2 = false) :
    fabRecv q t f s = .next (f (s.rxDrop q b) p b) := by
  rw [fabRecv, if_pos (show q ≤ inner from hq), State.serve]
  simp only [hhead, hdom]
  exact congrArg Host.Outcome.next (if_neg fun ⟨ht, hwaits⟩ => Bool.false_ne_true ((hgo ht).symm.trans hwaits))

end

/-- A response leaves the buffer, and no memory holds it up. -/
theorem fabRecv_response {s w y : State} {q t p : Nat} {b : Block} {f : State → Nat → Block → State} (hq : q ≤ 4)
    (hhead : s.rxHead q t = some b) (hdom : s.domPart b.dom = some p) (ht : ¬(t = 1 ∨ t = 4 ∨ t = 7)) (hw : w = s.rxDrop q b)
    (hf : f w p b = y) : fabRecv q t f s = .next y := by
  rw [fabRecv_handled hq hhead f hdom fun h => absurd h ht, ← hw, hf]

section
variable {s : State} {q p : Nat} {b : Block} (hq : q ≤ 4) (hdom : s.domPart b.dom = some p)
include hq hdom

theorem exec_wrReceive_head (hhead : s.rxHead q 1 = some b)
    (hgo : s.impWaits p .write (b.off * 64) ((s.open_ p b).getD []).length = false) :
    exec (.wrReceive q) s = .next ((s.rxDrop q b).wrIn p b) := by
  have htouch : s.touches p b = (.write, b.off * 64, ((s.open_ p b).getD []).length) := by
    simp only [State.touches, State.rxHead_type hhead]
  exact fabRecv_handled hq hhead (fun s p b => s.wrIn p b) hdom fun _ => by rw [htouch]; exact hgo

theorem exec_rdreqReceive_head (flt : Nat) (hhead : s.rxHead q 4 = some b)
    (hgo : s.impWaits p .read (b.off * 64) (recNat ((s.open_ p b).getD []) 0 4) = false) :
    exec (.rdreqReceive q flt) s = .next ((s.rxDrop q b).rdIn p b flt) := by
  have htouch : s.touches p b = (.read, b.off * 64, recNat ((s.open_ p b).getD []) 0 4) := by
    simp only [State.touches, State.rxHead_type hhead]
  exact fabRecv_handled hq hhead (fun s p b => s.rdIn p b flt) hdom fun _ => by rw [htouch]; exact hgo

theorem exec_flagReceive_head (hhead : s.rxHead q 7 = some b)
    (hgo : s.impWaits p .write (recNat ((s.open_ p b).getD []) 0 8) 8 = false) :
    exec (.flagReceive q) s = .next ((s.rxDrop q b).flagIn p b) := by
  have htouch : s.touches p b = (.write, recNat ((s.open_ p b).getD []) 0 8, 8) := by
    simp only [State.touches, State.rxHead_type hhead]
  exact fabRecv_handled hq hhead (fun s p b => s.flagIn p b) hdom fun _ => by rw [htouch]; exact hgo

end

/-! ## Writes, reads and flags for another device (R626, R630 to R632, R638) -/

section
variable {w : State} {p : Nat} {b : Block}

/-- A failed write of a WR block is noted until the LAST block is answered. -/
theorem State.wrIn_tagFail (hopen : w.open_ p b = none) (hlast : b.last = false) :
    w.wrIn p b = { w with wrFail := w.wrFail ++ [(b.src, b.dom, 1)] } := by
  simp [State.wrIn, hopen, hlast]

theorem State.rdIn_refused {f : Nat} {pay : List Byte} (hopen : w.open_ p b = some pay)
    (hbad : recNat pay 0 4 % 64 ≠ 0 ∨ recNat pay 0 4 < 64 ∨ 4096 < recNat pay 0 4 ∨ w.impAddr p .read (b.off * 64) (recNat pay 0 4) = none) :
    w.rdIn p b f = w.nak p 6 b.src b.off 2 := by
  have hnone : (if recNat pay 0 4 % 64 = 0 ∧ 64 ≤ recNat pay 0 4 ∧ recNat pay 0 4 ≤ 4096 then
      w.impAddr p .read (b.off * 64) (recNat pay 0 4) else none) = none := by
    split
    next hfits =>
      obtain ⟨hwhole, hmin, hmax⟩ := hfits
      rcases hbad with h | h | h | h
      · exact absurd hwhole h
      · exact absurd hmin (Nat.not_le.mpr h)
      · exact absurd hmax (Nat.not_le.mpr h)
      · exact h
    next => rfl
  rw [State.rdIn]
  simp only [hopen, hnone]

theorem State.rdIn_permitted {y : State} {f d : Nat} {pay data : List Byte} {ok : Bool} (hopen : w.open_ p b = some pay)
    (hwhole : recNat pay 0 4 % 64 = 0) (hmin : 64 ≤ recNat pay 0 4) (hmax : recNat pay 0 4 ≤ 4096)
    (haddr : w.impAddr p .read (b.off * 64) (recNat pay 0 4) = some d) (hread : w.impRead p d (recNat pay 0 4) f = ⟨y, data, ok⟩) :
    w.rdIn p b f = if ok then y.sendRsp p b.src (b.off * 64) data else y.nak p 6 b.src b.off 2 := by
  have hfits : (if recNat pay 0 4 % 64 = 0 ∧ 64 ≤ recNat pay 0 4 ∧ recNat pay 0 4 ≤ 4096 then
      w.impAddr p .read (b.off * 64) (recNat pay 0 4) else none) = some d := (if_pos ⟨hwhole, hmin, hmax⟩).trans haddr
  rw [State.rdIn]
  simp only [hopen, hfits, hread]

theorem State.flagIn_refused {pay : List Byte} (hopen : w.open_ p b = some pay)
    (hbad : recNat pay 0 8 % 8 ≠ 0 ∨ w.impAddr p .write (recNat pay 0 8) 8 = none) :
    w.flagIn p b = w.nak p 3 b.src (recNat pay 0 8 / 64) 2 := by
  have hnone : (if recNat pay 0 8 % 8 = 0 then w.impAddr p .write (recNat pay 0 8) 8 else none) = none := by
    split
    next haligned => exact hbad.resolve_left (not_not_intro haligned)
    next => rfl
  rw [State.flagIn]
  simp only [hopen, hnone]

theorem State.flagIn_permitted {d : Nat} {pay : List Byte} (hopen : w.open_ p b = some pay) (haligned : recNat pay 0 8 % 8 = 0)
    (haddr : w.impAddr p .write (recNat pay 0 8) 8 = some d) : w.flagIn p b =
      (w.impWrite p d ((pay.drop 8).take 8)).answer p 2 b.src (recNat pay 0 8 / 64) [] := by
  rw [State.flagIn]
  simp only [hopen, if_pos haligned, haddr]

section
variable {pay : List Byte} (hopen : w.open_ p b = some pay)
include hopen

theorem State.wrIn_access (haddr : w.impAddr p .write (b.off * 64) pay.length = none) (hlast : b.last = false) :
    w.wrIn p b = { w with wrFail := w.wrFail ++ [(b.src, b.dom, 2)] } := by
  simp [State.wrIn, hopen, haddr, hlast]

theorem State.wrIn_more {d : Nat} (haddr : w.impAddr p .write (b.off * 64) pay.length = some d) (hlast : b.last = false) :
    w.wrIn p b = w.impWrite p d pay := by
  simp [State.wrIn, hopen, haddr, hlast]

/-- The LAST block of a transfer is answered with the highest reason noted for its sender, which is then forgotten. -/
theorem State.wrIn_last {d : Nat} {y z : State} (haddr : w.impAddr p .write (b.off * 64) pay.length = some d) (hlast : b.last = true)
    (hy : y = w.impWrite p d pay) (hz : z = { y with wrFail := y.wrFail.filter fun e => !(e.1 == b.src && e.2.1 == b.dom) }) :
    w.wrIn p b = if y.wrReason b.src b.dom = 0 then z.answer p 2 b.src b.off [] else z.nak p 3 b.src b.off (y.wrReason b.src b.dom) := by
  subst hz hy
  simp only [State.wrIn, hopen, haddr, hlast, Bool.not_true, Bool.false_eq_true, if_false]

end
end

/-! ## Responses (R628 to R630) -/

section
variable {w : State} {p : Nat} {b : Block} {f : State → Op → Xfer → State}

theorem State.response_matched {o : Op} {x : Xfer} (h : w.match_ p b = some (o, x)) : w.response p b f = f w o x := by
  rw [State.response, h]

theorem State.response_stray (h : w.match_ p b = none) : w.response p b f = w.sat Addr.fabE2e 15 0 1 := by
  rw [State.response, h]

end

theorem State.acked_flag {w : State} {o : Op} {x : Xfer} (h : x.kind = 2) :
    w.acked o x = w.putOp { o with moved := o.moved + 1, resend := 0, xfer := none } := by
  simp only [State.acked, h]

theorem State.acked_op {w : State} {o : Op} {x : Xfer} (h : x.kind = 3) : w.acked o x = w.endOp o 0 o.flags := by
  simp only [State.acked, h]

theorem State.acked_data {w : State} {o : Op} {x : Xfer} (h2 : x.kind ≠ 2) (h3 : x.kind ≠ 3) : w.acked o x = w.moveDone o x.buf x.len := by
  unfold State.acked
  split
  next h => exact absurd h h2
  next h => exact absurd h h3
  next => rfl

/-! ## The end-to-end timeout (R628, R630) -/

section
variable {s : State} {uid : Nat} {o : Op} {x : Xfer} (hop : s.opOf uid = some o) (hx : o.xfer = some x)
include hop hx

theorem exec_e2eTimeout : exec (.e2eTimeout uid) s =
    .next (if x.at_ + 400 * max 1 (s.rf Addr.fabCfg 63 48) ≤ s.time then (s.sat Addr.fabE2e 31 16 1).resend o x else s) := by
  have hexec : exec (.e2eTimeout uid) s = execE2eTimeout uid s := rfl
  have hticks : s.e2eTo = 400 * max 1 (s.rf Addr.fabCfg 63 48) := Nat.mul_comm _ _
  rw [hexec, execE2eTimeout, ← hticks]
  simp only [hop, hx]

end

end Sys2Proof.Machine
end

section
/-! The epochs of a partition's fabric keys (R637, R639, R713). -/

namespace Sys2Proof.Machine

open Sys2Proof

/-! ## Words given as numbers -/

theorem fld_ofNat {n : Nat} (hi lo : Nat) (h : n < 2 ^ 64) : fld (BitVec.ofNat 64 n) hi lo = n / 2 ^ lo % 2 ^ (hi + 1 - lo) := by
  rw [fld, BitVec.extractLsb'_toNat, BitVec.toNat_ofNat, Nat.mod_eq_of_lt h, Nat.shiftRight_eq_div_pow]

theorem bit_ofNat (n : Nat) {i : Nat} (h : i < 64) : bit (BitVec.ofNat 64 n) i = n.testBit i := by
  rw [bit, BitVec.getLsbD_ofNat, decide_eq_true h, Bool.true_and]

/-! ## FAB_PARTp_EPOCH (R639) -/

theorem locate_fabPartEpoch : ∀ p, p < 5 → 1 ≤ p → locate (Addr.fabPartEpoch p) =
    some (⟨.fabPartEpoch, 0x1302000, [(0x100, 4, 1)], 0x1, 0x0, 0x0⟩, [p]) := by decide

theorem State.rd_fabKeySync (s : State) (p off : Nat) : (s.fabKeySync p).rd off = s.rd off := rfl

theorem State.fabKeySync_frame (s : State) (p : Nat) : s.fabKeySync p = { s with keys := (s.fabKeySync p).keys } := rfl

theorem State.RegsOnly.fabKeySync {s t : State} (h : s.RegsOnly t) (p : Nat) :
    t.fabKeySync p = { s with regs := (t.fabKeySync p).regs, keys := (t.fabKeySync p).keys } := by
  have hframe := t.fabKeySync_frame p
  generalize t.fabKeySync p = u at hframe
  unfold State.RegsOnly at h
  rw [hframe, h]

section
variable {s : State} {src : Src} {p : Nat} (v : W64) (hp : 1 ≤ p) (hp4 : p ≤ 4)
  (h : TakesWrite s src .fabPartEpoch p (Addr.fabPartEpoch p))
include hp hp4 h

theorem exec_fabricEpochAdvance : exec (.fabricEpochAdvance src p v) s = .next (s.fabAdvance p (bit v 25) false) := by
  have hwrite : exec (.fabricEpochAdvance src p v) s = .next (s.fabEpochWrite p (setBit v 24 true &&& byteMask 0xFF)) :=
    busWrite_takes (setBit v 24 true) (decide_eq_true ⟨hp, hp4⟩) h (locate_fabPartEpoch p (Nat.lt_succ_of_le hp4) hp) rfl rfl
  rw [hwrite, and_byteMask_full, State.fabEpochWrite, if_pos (bit_setBit_same _ _ (by decide)), bit_setBit_other _ _ (by decide) (by decide)]

theorem exec_fabricEpochRetire : exec (.fabricEpochRetire src p v) s = .next ((s.wb (Addr.fabPartEpoch p) 16 false).fabKeySync p) := by
  have hwrite : exec (.fabricEpochRetire src p v) s = .next (s.fabEpochWrite p (setBit (setBit v 24 false) 25 true &&& byteMask 0xFF)) :=
    busWrite_takes (setBit (setBit v 24 false) 25 true) (decide_eq_true ⟨hp, hp4⟩) h (locate_fabPartEpoch p (Nat.lt_succ_of_le hp4) hp) rfl rfl
  have hkeep : bit (setBit (setBit v 24 false) 25 true) 24 = false := by
    rw [bit_setBit_other _ _ (by decide) (by decide), bit_setBit_same _ _ (by decide)]
  rw [hwrite, and_byteMask_full, State.fabEpochWrite, if_neg (Bool.eq_false_iff.mp hkeep), if_pos (bit_setBit_same _ _ (by decide))]

end

/-- An advance for which no next epoch or no key of it is there shows in KEYMISS. -/
theorem State.fabAdvance_refused {s : State} {p : Nat} (retire : Bool)
    (h : s.rf (Addr.fabPartEpoch p) 7 0 = 255 ∨ s.fabKey p (s.rf (Addr.fabPartEpoch p) 7 0 + 1) = none) :
    s.fabAdvance p retire false = s.wb (Addr.fabPartStat p) 1 true := by
  refine if_pos ?_
  rcases h with h | h <;> simp [h]

/-- The word of FAB_PARTp_EPOCH after the advance from epoch c. -/
def epochWord (c : Nat) (retire : Bool) : Nat := c + 1 + c * 2 ^ 8 + (!retire).toNat * 2 ^ 16

theorem epochWord_fields {c : Nat} (retire : Bool) (h : c < 255) :
    fld (BitVec.ofNat 64 (epochWord c retire)) 7 0 = c + 1 ∧ fld (BitVec.ofNat 64 (epochWord c retire)) 15 8 = c ∧
      bit (BitVec.ofNat 64 (epochWord c retire)) 16 = !retire := by
  have hbit : (!retire).toNat ≤ 1 := Bool.toNat_le _
  have hlt : epochWord c retire < 2 ^ 64 := by unfold epochWord; omega
  have hbyte : epochWord c retire / 2 ^ 8 = c + 256 * (!retire).toNat := by unfold epochWord; omega
  have hhigh : epochWord c retire / 2 ^ 16 = (!retire).toNat := by unfold epochWord; omega
  rw [fld_ofNat _ _ hlt, fld_ofNat _ _ hlt, bit_ofNat _ (by decide), Nat.testBit_eq_decide_div_mod_eq, hbyte, hhigh]
  refine ⟨by unfold epochWord; omega, by omega, ?_⟩
  cases retire <;> rfl

theorem State.fabAdvance_goes {s : State} {p c : Nat} (retire : Bool) (hc : c = s.rf (Addr.fabPartEpoch p) 7 0) (hlast : c < 255)
    (hkey : (s.fabKey p (c + 1)).isSome = true) : s.fabAdvance p retire false =
      ((s.wr (Addr.fabPartEpoch p) (BitVec.ofNat 64 (epochWord c retire))).wr (Addr.fabPartCtr p) 0).fabKeySync p := by
  obtain ⟨k, hk⟩ := Option.isSome_iff_exists.mp hkey
  subst hc
  unfold State.fabAdvance
  simp only [hk, hlast.ne, Bool.not_false, Bool.true_and, decide_false, Option.isNone_some, Bool.or_self, Bool.false_eq_true, if_false]
  rfl

end Sys2Proof.Machine
end

section
/-! The obligation on the transfers of the fabric. -/

open Sys2Proof Sys2Proof.Machine

/-- Settles O42: a request by its tag, its window and its place in the transfer, a response by its tag and the transfer that it answers, an
advance of the epoch by whether its key is placed. -/
theorem fabricTransfers : Obligations.FabricTransfers := by
  unfold Obligations.FabricTransfers
  intro s w src q p b v hq hp hp4
  refine ⟨?stray, ?block, ?timeout, ?epoch⟩
  case stray =>
    intro t hhead hdom c hc ht
    simp only [List.mem_cons, List.not_mem_nil, or_false] at hc
    subst ht
    rcases hc with rfl | rfl | rfl | rfl | rfl | rfl | rfl
    all_goals exact fabRecv_stray hq hhead _ hdom
  case block =>
    intro hdom hw
    refine ⟨?write, ?read, ?flag, ?tag, ?unmatched, ?matched⟩
    case write =>
      intro hhead hgo
      rw [exec_wrReceive_head hq hdom hhead hgo, ← hw]
      refine ⟨fun hopen hlast => by rw [State.wrIn_tagFail hopen hlast],
        fun pay hopen => ⟨fun haddr hlast => ?_, fun d y haddr hy => ⟨fun hlast => ?_, ?_⟩⟩⟩
      · rw [State.wrIn_access hopen haddr hlast]
      · rw [State.wrIn_more hopen haddr hlast, hy]
      · rintro hlast z r rfl hz
        rw [State.wrIn_last hopen haddr hlast hy hz]
        exact ⟨fun hnone => by rw [if_pos hnone], fun hsome => by rw [if_neg hsome]⟩
    case read =>
      rintro f pay n hhead hgo hopen rfl
      rw [exec_rdreqReceive_head hq hdom f hhead hgo, ← hw]
      refine ⟨fun hbad => by rw [State.rdIn_refused hopen hbad], fun d hwhole hmin hmax haddr y data ok hread => ?_⟩
      rw [State.rdIn_permitted hopen hwhole hmin hmax haddr hread]
    case flag =>
      rintro pay off hhead hgo hopen rfl
      rw [exec_flagReceive_head hq hdom hhead hgo, ← hw]
      exact ⟨fun hbad => by rw [State.flagIn_refused hopen hbad], fun d haligned haddr => by rw [State.flagIn_permitted hopen haligned haddr]⟩
    case tag =>
      intro hopen c hc hhead
      simp only [List.mem_cons, List.not_mem_nil, or_false] at hc
      rcases hc with rfl | rfl | rfl
      all_goals exact fabRecv_response hq hhead hdom (by decide) hw (by simp only [hopen])
    case unmatched =>
      intro pay hopen hmatch c hc hhead
      simp only [List.mem_cons, List.not_mem_nil, or_false] at hc
      rcases hc with rfl | rfl | rfl | rfl
      all_goals exact fabRecv_response hq hhead hdom (by decide) hw (by simp only [hopen, State.response_stray hmatch])
    case matched =>
      intro pay o x hopen hmatch
      have hack : s.rxHead q 2 = some b → exec (.wrackReceive q) s = .next (w.acked o x) := fun hhead =>
        fabRecv_response hq hhead hdom (by decide) hw (by simp only [hopen, State.response_matched hmatch])
      have hnak : s.rxHead q 3 = some b → exec (.wrnakReceive q) s =
          .next (if recNat pay 0 1 = 1 then w.resend o x else w.moveFail o o.resend) := fun hhead =>
        fabRecv_response hq hhead hdom (by decide) hw (by simp only [hopen, State.response_matched hmatch])
      refine ⟨fun hhead hkind => ?_, fun hhead hkind => ?_, fun hhead h2 h3 => ?_, fun hhead htag => ?_, fun hhead hacc => ?_,
        fun hhead => ?_, fun hhead => ?_⟩
      · rw [hack hhead, State.acked_flag hkind]
      · rw [hack hhead, State.acked_op hkind]
      · rw [hack hhead, State.acked_data h2 h3]
      · rw [hnak hhead, if_pos htag]
      · rw [hnak hhead, if_neg hacc]
      · exact fabRecv_response hq hhead hdom (by decide) hw (by simp only [hopen, State.response_matched hmatch])
      · exact fabRecv_response hq hhead hdom (by decide) hw (by simp only [hopen, State.response_matched hmatch])
  case timeout =>
    intro uid o x hop hx
    rw [exec_e2eTimeout hop hx]
    exact ⟨fun hdue => by rw [if_pos hdue], fun hearly => by rw [if_neg (Nat.not_le.mpr hearly)]⟩
  case epoch =>
    intro htake c hc
    have hne : Addr.fabPartEpoch p ≠ Addr.fabPartCtr p := by unfold Addr.fabPartEpoch Addr.fabPartCtr; omega
    rw [exec_fabricEpochAdvance v hp hp4 htake, exec_fabricEpochRetire v hp hp4 htake]
    refine ⟨fun hno => ?_, fun hlast hkey => ?_, ⟨_, rfl, ?_, ?_, (s.regsOnly_wb _ _ _).fabKeySync p, ?_⟩⟩
    · rw [State.fabAdvance_refused _ (hc ▸ hno)]
    · rw [State.fabAdvance_goes _ hc hlast hkey]
      obtain ⟨hcur, hprev, hpacc⟩ := epochWord_fields (bit v 25) hlast
      refine ⟨_, rfl, ?_, ?_, ?_, ?_, ((s.regsOnly_wr _ _).trans (State.regsOnly_wr _ _ _)).fabKeySync p, ?_⟩
      · rw [State.rf, State.rd_fabKeySync, State.rd_wr_other _ _ hne, State.rd_wr_same, hcur]
      · rw [State.rf, State.rd_fabKeySync, State.rd_wr_other _ _ hne, State.rd_wr_same, hprev]
      · rw [State.rb, State.rd_fabKeySync, State.rd_wr_other _ _ hne, State.rd_wr_same, hpacc]
        rfl
      · rw [State.rd_fabKeySync, State.rd_wr_same]
      · intro off hoff
        simp only [List.mem_cons, List.not_mem_nil, or_false, not_or] at hoff
        rw [State.rd_fabKeySync, State.rd_wr_other _ _ hoff.2, State.rd_wr_other _ _ hoff.1]
    · rw [State.rb, State.rd_fabKeySync, State.rd_wb_same, bit_setBit_same _ _ (by decide)]
    · rw [State.rf, State.rd_fabKeySync, State.rd_wb_same, fld_setBit_other _ _ (by decide) (by decide), ← State.rf]
    · intro off hoff
      rw [State.rd_fabKeySync, State.rd_wb_other _ _ _ (fun h => hoff (List.mem_singleton.mpr h))]

end

section
/-! The PCI Express endpoint: its link and resets, configuration requests and BAR2 (R644 to R649, R653, R779). -/

namespace Sys2Proof.Machine

open Sys2Proof

/-! ## The link (R644, Table 14.7) -/

/-- The word of PCI_LINK for a link that is up with a width and a speed. -/
def linkWord (width speed : Nat) : Nat := width * 2 ^ 16 + 2 ^ 8 + speed

theorem linkWord_fields {width speed : Nat} (hw : width ≤ 8) (hs : speed ≤ 4) :
    fld (BitVec.ofNat 64 (linkWord width speed)) 31 16 = width ∧ fld (BitVec.ofNat 64 (linkWord width speed)) 7 0 = speed ∧
      bit (BitVec.ofNat 64 (linkWord width speed)) 8 = true := by
  have hlt : linkWord width speed < 2 ^ 64 := by unfold linkWord; omega
  rw [fld_ofNat _ _ hlt, fld_ofNat _ _ hlt, bit_ofNat _ (by decide), Nat.testBit_eq_decide_div_mod_eq]
  unfold linkWord
  exact ⟨by omega, by omega, decide_eq_true (by omega)⟩

theorem exec_pcieLinkUp_on {s : State} {width speed : Nat} (hon : s.pciOn = true) (hw : width = 1 ∨ width = 2 ∨ width = 4 ∨ width = 8)
    (h1 : 1 ≤ speed) (h4 : speed ≤ 4) :
    exec (.pcieLinkUp width speed) s = .next (s.wr Addr.pciLink (BitVec.ofNat 64 (linkWord width speed))) :=
  congrArg Host.Outcome.next (if_pos ⟨hon, hw, h1, h4⟩)

theorem exec_endpointReset (s : State) : exec .endpointReset s = .next s.endpointReset := rfl

theorem exec_pcieLinkDown (s : State) : exec .pcieLinkDown s = .next (if s.linkUp then s.endpointReset else s) := rfl

/-! ## Resets (R653, Table 17.10) -/

/-- Two states differ at most in the endpoint: its registers, its state and its event rings. -/
def State.EndpointOnly (s t : State) : Prop := t = { s with regs := t.regs, pcie := t.pcie, evrings := t.evrings }

theorem State.EndpointOnly.trans {s t u : State} (h : s.EndpointOnly t) (h' : t.EndpointOnly u) : s.EndpointOnly u := by
  unfold State.EndpointOnly at *
  rw [h', h]

theorem State.EndpointOnly.ite {s t u : State} {c : Prop} [Decidable c] (ht : s.EndpointOnly t) (hu : s.EndpointOnly u) :
    s.EndpointOnly (if c then t else u) := by
  split
  · exact ht
  · exact hu

theorem State.endpointOnly_resetRegs (s : State) (p : Nat → Bool) : s.EndpointOnly (s.resetRegs p) := rfl
theorem State.endpointOnly_wb (s : State) (off i : Nat) (b : Bool) : s.EndpointOnly (s.wb off i b) := rfl
theorem State.endpointOnly_pcie (s : State) (x : Pcie) : s.EndpointOnly { s with pcie := x } := rfl
theorem State.endpointOnly_evRestart (s : State) (f : Nat) : s.EndpointOnly (s.evRestart f) := rfl

theorem State.rd_resetRegs (s : State) (p : Nat → Bool) (off : Nat) : (s.resetRegs p).rd off = if p off then resetOf off else s.rd off := by
  rw [State.rd, State.resetRegs, Sparse.get_keep]
  cases p off <;> rfl

/-- An event ring that starts again at index 0, its queue as before. -/
def EvRing.restarted (x : EvRing) : EvRing := { x with cons := 0, readAt := none, stopped := false, intAt := none, intPend := false }

theorem State.evring_evRestart (s : State) (f g : Nat) :
    (s.evRestart f).evring g = if g = f then (s.evring g).restarted else s.evring g := by
  split
  next h => subst h; exact Sparse.get_set_same _ _ _ _
  next h => exact Sparse.get_set_other _ _ _ h

theorem State.evring_restartAll (l : List Nat) (s : State) (g : Nat) :
    (l.foldl State.evRestart s).evring g = if g ∈ l then (s.evring g).restarted else s.evring g := by
  induction l generalizing s with
  | nil => rfl
  | cons f l ih =>
    rw [List.foldl_cons, ih, State.evring_evRestart]
    by_cases hf : g = f
    · simp only [hf, if_true, List.mem_cons, true_or]
      exact ite_self _
    · simp only [List.mem_cons, hf, if_false, false_or]

/-- Restarting event rings changes nothing else. -/
theorem State.restartAll_frame (l : List Nat) (s : State) :
    l.foldl State.evRestart s = { s with evrings := (l.foldl State.evRestart s).evrings } := by
  induction l generalizing s with
  | nil => rfl
  | cons f l ih => rw [List.foldl_cons, ih]; rfl

/-- The endpoint with its registers, configuration space and MSI-X state as after reset, before its event rings restart. -/
def State.endpointCleared (s : State) : State :=
  { s.resetRegs (fun k => decide (0xC00000 ≤ k) && decide (k < 0xD00000)) with pcie := { s.pcie with cfg := [], msix := [], scan := none } }

theorem State.endpointReset_frame (s : State) :
    s.endpointReset = { s.endpointCleared with evrings := s.endpointReset.evrings } := State.restartAll_frame (List.range 5) s.endpointCleared

theorem State.evring_endpointReset (s : State) {f : Nat} (hf : f < 5) : s.endpointReset.evring f = (s.evring f).restarted :=
  (State.evring_restartAll (List.range 5) s.endpointCleared f).trans (if_pos (List.mem_range.mpr hf))

theorem State.rd_endpointReset (s : State) (off : Nat) :
    s.endpointReset.rd off = if 0xC00000 ≤ off ∧ off < 0xD00000 then resetOf off else s.rd off := by
  have hregs : s.endpointReset.rd off = s.endpointCleared.rd off := by rw [State.endpointReset_frame]; rfl
  have hcleared : s.endpointCleared.rd off =
      if decide (0xC00000 ≤ off) && decide (off < 0xD00000) then resetOf off else s.rd off :=
    s.rd_resetRegs (fun k => decide (0xC00000 ≤ k) && decide (k < 0xD00000)) off
  rw [hregs, hcleared]
  simp only [Bool.and_eq_true, decide_eq_true_eq]

/-- The endpoint's state after a function level reset of function f. -/
def Pcie.functionReset (x : Pcie) (f : Nat) : Pcie :=
  { x with
    cfg := Sparse.keep (fun k => k / 1024 != f) x.cfg, msix := Sparse.keep (· != f) x.msix,
    scan := if x.scan.map (fun (q : Nat × Nat) => q.1) = some f then none else x.scan }

/-- The device after a function level reset of function f, before its event is delivered. -/
def State.functionReset (s : State) (f : Nat) : State :=
  let t := { s.resetRegs (isFnReg f) with pcie := s.pcie.functionReset f }
  ((if (s.pcie.functionReset f).scan.isNone then t.wb Addr.pciRqStat 16 false else t).evRestart f).wb (Addr.pciFnStat f) 2 true

theorem exec_functionLevelReset_up {s : State} {f : Nat} (hf : f < 5) (hup : s.linkUp = true) (hfn : f < s.pcie.nfunc.getD 0) :
    exec (.functionLevelReset f) s = .next (s.functionReset f).supEvent := by
  have hexec : exec (.functionLevelReset f) s = execFunctionLevelReset f s := rfl
  rw [hexec, execFunctionLevelReset, if_pos hf, if_pos (by simp [hup, hfn])]
  rfl

theorem State.functionReset_pcie (s : State) (f : Nat) : (s.functionReset f).pcie = s.pcie.functionReset f := by
  unfold State.functionReset
  dsimp only
  split <;> rfl

theorem State.endpointOnly_functionReset (s : State) (f : Nat) : s.EndpointOnly (s.functionReset f) := by
  have hclear := (s.endpointOnly_resetRegs (isFnReg f)).trans (State.endpointOnly_pcie _ (s.pcie.functionReset f))
  exact ((State.EndpointOnly.ite (hclear.trans (State.endpointOnly_wb _ _ _ _)) hclear).trans (State.endpointOnly_evRestart _ f)).trans
    (State.endpointOnly_wb _ _ _ _)

theorem State.rd_functionReset (s : State) {f off : Nat} (hstat : off ≠ Addr.pciFnStat f) (hscan : off ≠ Addr.pciRqStat) :
    (s.functionReset f).rd off = if isFnReg f off then resetOf off else s.rd off := by
  have hclear : State.rd { s.resetRegs (isFnReg f) with pcie := s.pcie.functionReset f } off =
      if isFnReg f off then resetOf off else s.rd off := s.rd_resetRegs _ off
  have hring : ∀ t : State, (t.evRestart f).rd off = t.rd off := fun _ => rfl
  rw [State.functionReset, State.rd_wb_other _ _ _ hstat, hring, ← hclear]
  split
  · exact State.rd_wb_other _ _ _ hscan
  · rfl

theorem State.rb_stat_functionReset (s : State) (f : Nat) : (s.functionReset f).rb (Addr.pciFnStat f) 2 = true := by
  rw [State.rb, State.functionReset, State.rd_wb_same]
  exact bit_setBit_same _ _ (by decide)

theorem isFnReg_stat (f : Nat) : isFnReg f (Addr.pciFnStat f) = true := by
  simp only [isFnReg, Bool.and_eq_true, decide_eq_true_eq]
  unfold Addr.pciFnStat
  omega

theorem isFnReg_ne_rqStat {f off : Nat} (h : isFnReg f off = true) : off ≠ Addr.pciRqStat := by
  simp only [isFnReg, Bool.and_eq_true, decide_eq_true_eq] at h
  unfold Addr.pciRqStat
  omega

/-! ## Configuration requests (R644, R645, R779) -/

section
variable {s : State} {f off : Nat} (x : W32) (hf : f < 5) (hoff : off < 4096) (hon : s.pciOn = true)
include hf hoff hon

theorem exec_configRequest_early (wr : Bool) (h : s.pcie.nfunc = none) : exec (.configRequest f wr off x) s = .next (s.reply 2 []) := by
  have hexec : exec (.configRequest f wr off x) s = execConfigRequest f wr off x s := rfl
  rw [hexec, execConfigRequest, if_pos ⟨hf, hoff⟩, if_neg (by simp [hon]), h]

theorem exec_configRequest_absent (wr : Bool) {n : Nat} (h : s.pcie.nfunc = some n) (hn : n ≤ f) :
    exec (.configRequest f wr off x) s = .next (s.reply 1 []) := by
  have hexec : exec (.configRequest f wr off x) s = execConfigRequest f wr off x s := rfl
  rw [hexec, execConfigRequest, if_pos ⟨hf, hoff⟩, if_neg (by simp [hon]), h]
  exact congrArg _ (if_pos hn)

theorem exec_configRequest_function (wr : Bool) {n : Nat} (h : s.pcie.nfunc = some n) (hn : f < n) :
    exec (.configRequest f wr off x) s = .next (if wr then (s.tlp.cfgWrite f (off / 4) x).reply 0 []
      else s.tlp.reply 0 (bytesOf 4 (s.tlp.cfgRead f (off / 4)).toNat)) := by
  have hexec : exec (.configRequest f wr off x) s = execConfigRequest f wr off x s := rfl
  rw [hexec, execConfigRequest, if_pos ⟨hf, hoff⟩, if_neg (by simp [hon]), h]
  exact congrArg _ (if_neg (Nat.not_le.mpr hn))

end

theorem State.cfgRead_ids (s : State) (f : Nat) :
    (s.cfgRead f 0).toNat = (if f = 0 then 0x0648 else 0x0649) * 65536 + 0x1EA7 := by
  have hlt : (if f = 0 then 0x0648 else 0x0649) * 65536 + 0x1EA7 < 2 ^ 32 := by split <;> decide
  exact (BitVec.toNat_ofNat _ _).trans (Nat.mod_eq_of_lt hlt)

/-! ## BAR2 (R648, R649) -/

section
variable {s : State} {f off len flt : Nat} (hf : f < 5) (hok : s.bar2Ok f off len = true)
include hf hok

theorem exec_bar2Read_nothing (haddr : s.bar2Addr f off len .read = none) : exec (.bar2Read f off len flt) s =
    .next ((s.wb (Addr.pciFnStat f) 1 true).reply 0 (List.replicate len 0xFF)) := by
  have hexec : exec (.bar2Read f off len flt) s = execBar2Read f off len flt s := rfl
  rw [hexec, execBar2Read, if_pos hf, if_neg (by simp [hok]), haddr]
  rfl

theorem exec_bar2Read_memory {d : Nat} {r : ReadRes} (haddr : s.bar2Addr f off len .read = some d) (hgo : s.mustWait d = false)
    (hread : s.readMem f d len flt = r) : exec (.bar2Read f off len flt) s =
      .next (if r.ok then r.s.reply 0 r.data else (r.s.wb (Addr.pciFnStat f) 1 true).reply 5 r.data) := by
  have hexec : exec (.bar2Read f off len flt) s = execBar2Read f off len flt s := rfl
  rw [hexec, execBar2Read, if_pos hf, if_neg (by simp [hok]), haddr]
  simp only [hgo, hread, Bool.false_eq_true, if_false]
  rfl

end

section
variable {s : State} {f off : Nat} {data : List Byte} (hf : f < 5) (hok : s.bar2Ok f off data.length = true)
include hf hok

theorem exec_bar2Write_nothing (haddr : s.bar2Addr f off data.length .write = none) :
    exec (.bar2Write f off data) s = .next (s.wb (Addr.pciFnStat f) 1 true) := by
  have hexec : exec (.bar2Write f off data) s = execBar2Write f off data s := rfl
  rw [hexec, execBar2Write, if_pos hf, if_neg (by simp [hok]), haddr]
  rfl

theorem exec_bar2Write_memory {d : Nat} (haddr : s.bar2Addr f off data.length .write = some d) (hgo : s.mustWait d = false) :
    exec (.bar2Write f off data) s = .next (s.writeMem f d data) := by
  have hexec : exec (.bar2Write f off data) s = execBar2Write f off data s := rfl
  rw [hexec, execBar2Write, if_pos hf, if_neg (by simp [hok]), haddr]
  exact congrArg _ (if_neg (by simp [hgo]))

end

end Sys2Proof.Machine
end

section
/-! What the device does in host memory: reads that fail, request scans, event records (R652, R655 to R661). -/

namespace Sys2Proof.Machine

open Sys2Proof

/-! ## Reads of the host window that fail (R652) -/

theorem State.Progresses.hostReadFail {s w : State} {uid : Nat} {o : Op} (h : s.Progresses uid w o) (hturn : w.onTurn o = true)
    (hreads : w.readsHost o = true) : exec (.hostReadFail (.mover uid)) s = .next (w.moveFail o 0).startOps :=
  congrArg Host.Outcome.next ((h _).trans (congrArg State.startOps (if_pos ⟨hturn, hreads⟩)))

theorem traps_hostReadFail {s : State} {t d : Nat} {a : W64} (hruns : Runs s t) (haddr : s.devAddr (s.thPart t) .read a.toNat 1 = some d)
    (hhost : region d = .host) : Traps (.hostReadFail (.scalar t a)) s t .dataErr a := by
  refine traps_instr hruns rfl ?_
  simp only [haddr, if_pos hhost]

/-! ## Request scans (R655 to R658) -/

theorem locate_pciRqCmd : locate Addr.pciRqCmd = some (⟨.pciRqCmd, 0xC00008, [], 0x0, 0x0, 0x0⟩, []) := by decide

theorem exec_requestScan {s : State} {src : Src} (v : W64) (h : TakesWrite s src .pciRqCmd 0 Addr.pciRqCmd) :
    exec (.requestScan src v) s = .next (if fld v 2 0 < 5 ∧ s.rb (Addr.pciFnRqcfg (fld v 2 0)) 0 = true ∧ s.pcie.scan = none then
      ({ s with pcie := { s.pcie with scan := some (fld v 2 0, s.nslot (fld v 2 0)) } }).wb Addr.pciRqStat 16 true else s) := by
  have hwrite : exec (.requestScan src v) s = .next (s.rqCmd (setBit v 8 true &&& byteMask 0xFF)) :=
    busWrite_takes (setBit v 8 true) rfl h locate_pciRqCmd rfl rfl
  rw [hwrite, and_byteMask_full, State.rqCmd, fld_setBit_other _ _ (by decide) (by decide), bit_setBit_same _ _ (by decide)]
  simp only [Bool.true_and, Bool.and_eq_true, decide_eq_true_eq, Option.isNone_iff_eq_none, and_assoc]

/-- The slots of a scan that are pending (R657). -/
def State.pendingSlots (s : State) (f n : Nat) (fails : List Nat) : List Nat :=
  (List.range n).filter fun i =>
    s.linkUp && !fails.contains i && slotPending (s.hostRead (s.rf (Addr.pciFnRqbase f) 63 8 * 256 + 256 * i) 8)

/-- The mirror counts the pending slots; one whose read fails is none of them. -/
theorem State.rd_rqStat_writeMirror (s t : State) (f n : Nat) (fails : List Nat) :
    (t.writeMirror f n ((List.range n).map fun i => s.slotHead f i fails)).rd Addr.pciRqStat =
      BitVec.ofNat 64 (s.pendingSlots f n fails).length := by
  unfold State.writeMirror
  dsimp only
  rw [State.rd_wr_same]
  refine congrArg (fun l => BitVec.ofNat 64 (List.length l)) (List.filter_congr fun k hk => ?_)
  have hhead : ((List.range n).map fun i => s.slotHead f i fails).getD k none = s.slotHead f k fails := by
    simp [List.getD, List.mem_range.mp hk]
  rw [hhead, State.slotHead]
  generalize s.hostRead _ 8 = head
  cases s.linkUp <;> cases fails.contains k <;> rfl

theorem exec_requestScanComplete_due {s : State} {f n : Nat} (fails : List Nat) (hscan : s.pcie.scan = some (f, n))
    (hmesh : s.meshOn = true) (hon : s.pciOn = true) : exec (.requestScanComplete fails) s =
      .next (State.writeMirror { s with pcie := { s.pcie with scan := none } } f n
        ((List.range n).map fun i => s.slotHead f i fails)).supEvent := by
  have hexec : exec (.requestScanComplete fails) s = execRequestScanComplete fails s := rfl
  rw [hexec, execRequestScanComplete]
  simp only [hscan, hmesh, hon, Bool.and_self, if_true]

/-! ## Event rings (R659 to R661) -/

theorem State.evPush_room {s : State} {f : Nat} (type : Nat) (body : List Byte) (h : (s.evring f).q.length < 256) :
    (s.evPush f type body).2 = s.setEvring f { s.evring f with q := (s.evring f).q ++ [⟨type, s.time, fit 48 body⟩] } := by
  simp only [State.evPush, if_pos h]

theorem State.evPush_full {s : State} {f : Nat} (type : Nat) (body : List Byte) (h : 256 ≤ (s.evring f).q.length) :
    (s.evPush f type body).2 = s.sat (Addr.pciFnStat f) 63 32 1 := by
  simp only [State.evPush, if_neg (Nat.not_lt.mpr h)]

theorem locate_pciEvpost : locate Addr.pciEvpost = some (⟨.pciEvpost, 0xC00018, [], 0x0, 0x0, 0x0⟩, []) := by decide

/-- The supervisor program posts the record whose image it has written. -/
theorem exec_evpost_read {s y : State} {src : Src} {v : W64} {data : List Byte} (h : TakesWrite s src .pciEvpost 0 Addr.pciEvpost)
    (hf : fld v 50 48 < 5) (hregion : region (fld v 47 6 * 64) = .global) (hread : s.readMem 0 (fld v 47 6 * 64) 64 0 = ⟨y, data, true⟩) :
    exec (.evpost src v) s = .next (y.evPush (fld v 50 48) 3 (data.drop 16)).2 := by
  have hwrite : exec (.evpost src v) s = .next (s.evpost (v &&& byteMask 0xFF)) := busWrite_takes v rfl h locate_pciEvpost rfl rfl
  rw [hwrite, and_byteMask_full, State.evpost]
  simp only [hf, hregion, and_self, if_true, hread]

/-- Event ring f takes no record now: it is full, or stopped, or the host is not to be reached. -/
theorem exec_eventRecordWrite_held {s : State} {f : Nat} (hf : f < 5)
    (h : ringFull (s.rf (Addr.pciFnEvpidx f) 31 0) (s.evring f).cons (ringLog (s.rf (Addr.pciFnEvcfg f) 12 8)) = true ∨
      (s.evring f).stopped = true ∨ s.linkUp = false) : exec (.eventRecordWrite f) s = .next s := by
  have hexec : exec (.eventRecordWrite f) s = execEventRecordWrite f s := rfl
  have hheld : (!bit (s.rd (Addr.pciFnEvcfg f)) 0 || (s.evring f).stopped || !s.linkUp || !s.pciOn || ringFull (s.rf (Addr.pciFnEvpidx f) 31 0)
      (s.evring f).cons (ringLog (fld (s.rd (Addr.pciFnEvcfg f)) 12 8))) = true := by
    simp only [State.rf] at h ⊢
    rcases h with h | h | h <;> simp [h]
  rw [hexec, execEventRecordWrite, if_pos hf, State.writeEvent]
  split
  · rfl
  · exact congrArg _ (if_pos hheld)

/-- Record r of event ring f and then the producer index stand in host memory (R172, R173, R659). -/
def State.eventPut (s : State) (f : Nat) (r : EvRec) : State :=
  let pidx := s.rf (Addr.pciFnEvpidx f) 31 0
  let log := ringLog (s.rf (Addr.pciFnEvcfg f) 12 8)
  (s.hostWrite (s.rf (Addr.pciFnEvbase f) 63 12 * 4096 + 64 * (pidx % 2 ^ log)) (r.bytes pidx (pidx / 2 ^ log % 2))).hostWrite
    (s.rf (Addr.pciFnEvpaddr f) 63 3 * 8) (bytesOf 4 (pidx + 1))

/-- The state after the first record of an event ring's queue has been written. -/
def State.eventWritten (s : State) (f : Nat) (r : EvRec) (q : List EvRec) : State :=
  ((s.eventPut f r).inc (Addr.pciFnEvpidx f) 31 0 1).setEvring f { s.evring f with q := q }

theorem exec_eventRecordWrite_room {s : State} {f : Nat} {r : EvRec} {q : List EvRec} (hf : f < 5) (hq : (s.evring f).q = r :: q)
    (hen : s.rb (Addr.pciFnEvcfg f) 0 = true) (hgo : (s.evring f).stopped = false) (hlink : s.linkUp = true) (hon : s.pciOn = true)
    (hroom : ringFull (s.rf (Addr.pciFnEvpidx f) 31 0) (s.evring f).cons (ringLog (s.rf (Addr.pciFnEvcfg f) 12 8)) = false) :
    exec (.eventRecordWrite f) s = .next ((s.eventWritten f r q).evInt f) := by
  have hexec : exec (.eventRecordWrite f) s = execEventRecordWrite f s := rfl
  have hgoes : (!bit (s.rd (Addr.pciFnEvcfg f)) 0 || (s.evring f).stopped || !s.linkUp || !s.pciOn || ringFull (s.rf (Addr.pciFnEvpidx f) 31 0)
      (s.evring f).cons (ringLog (fld (s.rd (Addr.pciFnEvcfg f)) 12 8))) = false := by
    simp only [State.rf, State.rb] at hroom hen ⊢
    simp [hen, hgo, hlink, hon, hroom]
  have hpaddr : ∀ a l, (s.hostWrite a l).rf (Addr.pciFnEvpaddr f) 63 3 = s.rf (Addr.pciFnEvpaddr f) 63 3 := fun a l =>
    congrArg (fld · 63 3) (s.rd_hostWrite a l _)
  rw [hexec, execEventRecordWrite, if_pos hf]
  unfold State.writeEvent
  simp only [hq, hgoes, hpaddr, Bool.false_eq_true, if_false]
  rfl

theorem State.rd_setEvring (s : State) (f : Nat) (x : EvRing) (off : Nat) : (s.setEvring f x).rd off = s.rd off := rfl

section
variable (s : State) (f : Nat) (r : EvRec) (q : List EvRec)

theorem State.eventPut_frame : s.eventPut f r = { s with host := (s.eventPut f r).host } := by
  unfold State.eventPut
  dsimp only
  rw [State.hostWrite_frame (s.hostWrite _ _), State.hostWrite_frame s]

theorem State.evring_eventWritten : (s.eventWritten f r q).evring f = { s.evring f with q := q } := Sparse.get_set_same _ _ _ _

theorem State.pidx_eventWritten :
    (s.eventWritten f r q).rf (Addr.pciFnEvpidx f) 31 0 = (s.rf (Addr.pciFnEvpidx f) 31 0 + 1) % 2 ^ 32 := by
  rw [State.rf, State.eventWritten, State.rd_setEvring, State.rd_inc_same, State.eventPut, State.rd_hostWrite, State.rd_hostWrite, wrapFld,
    fld_setFld_same _ 31 0 _ (by decide) (by decide)]
  rfl

theorem State.eventWritten_frame : s.eventWritten f r q = { s with
    host := (s.eventWritten f r q).host, regs := (s.eventWritten f r q).regs, evrings := (s.eventWritten f r q).evrings } := by
  have hput := s.eventPut_frame f r
  unfold State.eventWritten
  generalize s.eventPut f r = t at hput
  rw [hput]
  rfl

end

end Sys2Proof.Machine
end

section
/-! The obligation on the host interface. -/

open Sys2Proof Sys2Proof.Machine

/-- Settles O43: the link and the resets by what they leave of the endpoint; configuration and BAR2 requests by what answers them; scans and
event records by whether they are due and what there is to write. -/
theorem hostInterface : Obligations.HostInterface := by
  unfold Obligations.HostInterface
  intro s src f v hf
  refine ⟨?linkUp, ?reset, ?down, ?flr, ?config, ?bar2Read, ?bar2Write, ?moverFail, ?scalarFail, ?scan, ?scanned, ?post, ?event⟩
  case linkUp =>
    intro w p hon hw h1 h4
    simp only [List.mem_cons, List.not_mem_nil, or_false] at hw
    obtain ⟨hwidth, hspeed, hbit⟩ := linkWord_fields (width := w) (speed := p) (by omega) h4
    refine ⟨_, exec_pcieLinkUp_on hon hw h1 h4, s.regsOnly_wr _ _, fun off hoff => ?_, ?_, ?_, ?_⟩
    · exact State.rd_wr_other _ _ fun h => hoff (List.mem_singleton.mpr h)
    · rw [State.linkUp, State.rb, State.rd_wr_same, hbit]
    · rw [State.rf, State.rd_wr_same, hwidth]
    · rw [State.rf, State.rd_wr_same, hspeed]
  case reset =>
    refine ⟨_, exec_endpointReset s, fun hup => by rw [exec_pcieLinkDown, if_pos hup], ?_, ?_, s.rd_endpointReset, s.evring_endpointReset hf⟩
    · rw [State.linkUp, State.rb, State.rd_endpointReset, if_pos (by decide)]
      decide
    · have hframe := s.endpointReset_frame
      generalize s.endpointReset = u at hframe
      rw [hframe]
      rfl
  case down => exact fun hdown => by rw [exec_pcieLinkDown, if_neg (Bool.eq_false_iff.mp hdown)]
  case flr =>
    intro hup hfn
    refine ⟨_, exec_functionLevelReset_up hf hup hfn, s.rb_stat_functionReset f, ?_, ?_, fun g hg => ?_, fun g d hg hd => ?_, fun n hscan => ?_,
      fun off hreg hstat => ?_, fun off hreg hscan => ?_, s.endpointOnly_functionReset f⟩
    · rw [State.msi, State.functionReset_pcie, Pcie.functionReset, Sparse.get_keep]
      simp
    · rw [State.functionReset_pcie, Pcie.functionReset]
    · rw [State.msi, State.functionReset_pcie, Pcie.functionReset, Sparse.get_keep]
      simp [hg, State.msi]
    · have hkey : (g * 1024 + d) / 1024 = g := by omega
      rw [State.cfgStored, State.functionReset_pcie, Pcie.functionReset, Sparse.get_keep, hkey]
      by_cases h : g = f <;> simp [h, State.cfgStored]
    · rw [State.functionReset_pcie, Pcie.functionReset, hscan]
      exact if_pos rfl
    · rw [State.rd_functionReset _ hstat (isFnReg_ne_rqStat hreg), if_pos hreg]
    · have hstat : off ≠ Addr.pciFnStat f := fun h => Bool.false_ne_true (hreg.symm.trans (h ▸ isFnReg_stat f))
      rw [State.rd_functionReset _ hstat hscan, if_neg (Bool.eq_false_iff.mp hreg)]
  case config =>
    intro wr off x hoff hon
    refine ⟨exec_configRequest_early x hf hoff hon wr, fun n => exec_configRequest_absent x hf hoff hon wr, fun n hn hfn => ?_⟩
    have hread := exec_configRequest_function x hf hoff hon false hn hfn
    refine ⟨fun hid => ?_, hread, exec_configRequest_function x hf hoff hon true hn hfn⟩
    rw [hread, if_neg Bool.false_ne_true, Nat.div_eq_of_lt hid, State.cfgRead_ids]
  case bar2Read =>
    intro off len flt hok
    refine ⟨exec_bar2Read_nothing hf hok, fun d y data haddr hgo => ⟨fun hread => ?_, fun hread => ?_⟩⟩
    · exact exec_bar2Read_memory hf hok haddr hgo hread
    · exact exec_bar2Read_memory hf hok haddr hgo hread
  case bar2Write =>
    exact fun off data hok => ⟨exec_bar2Write_nothing hf hok, fun d haddr hgo => exec_bar2Write_memory hf hok haddr hgo⟩
  case moverFail =>
    rintro uid q o w hop hstart hgoes hwait rfl rfl hturn hreads
    have hruns : s.startOps.Runs uid q := ⟨hop, hstart, hgoes, hwait⟩
    exact hruns.progresses.hostReadFail hturn hreads
  case scalarFail => exact fun t a d hruns haddr hhost => traps_hostReadFail hruns haddr hhost
  case scan =>
    rintro htake g rfl
    rw [exec_requestScan v htake]
    refine ⟨fun hg hen hidle => by rw [if_pos ⟨hg, hen, hidle⟩], fun hno => congrArg _ (if_neg ?_)⟩
    rintro ⟨-, hen, hidle⟩
    exact hno.elim (fun hoff => Bool.false_ne_true (hoff.symm.trans hen)) (absurd hidle)
  case scanned =>
    exact fun n fails hscan hmesh hon => ⟨_, exec_requestScanComplete_due fails hscan hmesh hon, s.rd_rqStat_writeMirror _ f n fails⟩
  case post =>
    rintro htake g a y data rfl rfl hg hregion hread
    rw [exec_evpost_read htake hg hregion hread]
    exact ⟨fun hroom => by rw [State.evPush_room 3 _ hroom], fun hfull => by rw [State.evPush_full 3 _ hfull]⟩
  case event =>
    rintro r q pidx log hq rfl rfl
    refine ⟨exec_eventRecordWrite_held hf, fun hen hgo hlink hon hroom => ?_⟩
    exact ⟨_, exec_eventRecordWrite_room hf hq hen hgo hlink hon hroom, by rw [State.evring_eventWritten], s.pidx_eventWritten f r q, rfl,
      s.eventWritten_frame f r q⟩

end

section
/-! A new error record, and what a record leaves of the health counts (R685 to R689). -/

namespace Sys2Proof.Machine

open Sys2Proof

section
variable (s : State) (r : Report)

/-- The serial number that the next record carries. -/
def State.nextHseq : Nat := nextSerial (s.rf Addr.errHead 31 0)

/-- What the record kept for an occurrence says, beside where it was delivered. -/
def State.newEntry : ErrRec :=
  ⟨s.nextHseq, r.kind, r.cond.code, r.cond.sev, r.part, r.unit, min r.n 65535, r.jseq, s.time, r.addr, r.sub, fit 16 r.detail, s.time, 0⟩

theorem State.evPush_frame (f type : Nat) (body : List Byte) :
    (s.evPush f type body).2 = { s with regs := (s.evPush f type body).2.regs, evrings := (s.evPush f type body).2.evrings } := by
  unfold State.evPush
  dsimp only
  split <;> rfl

theorem State.newRec_health : (s.newRec r).health = s.health := by
  have hpush (t : State) (f type : Nat) (body : List Byte) : (t.evPush f type body).2.health = t.health := by rw [State.evPush_frame]
  have hevent (t : State) : t.supEvent.health = t.health := by rw [State.supEvent_frame]
  simp only [State.newRec]
  (repeat' split) <;> simp [hpush, hevent]

theorem State.record_health : (s.record r).health = s.health := by
  unfold State.record
  dsimp only
  split
  · rfl
  · exact s.newRec_health r

/-- A new record is kept at its serial number; no other changes. -/
theorem State.newRec_recs : ∃ dlv, (s.newRec r).recs =
    Sparse.set (fun _ => err0) s.recs (s.nextHseq % 4096) { s.newEntry r with dlv := dlv } := by
  have hpush (t : State) (f type : Nat) (body : List Byte) : (t.evPush f type body).2.recs = t.recs := by rw [State.evPush_frame]
  have hevent (t : State) : t.supEvent.recs = t.recs := by rw [State.supEvent_frame]
  simp only [State.newRec]
  (repeat' split) <;> exact ⟨_, by simp [hpush, hevent, State.nextHseq, State.newEntry]; rfl⟩

theorem State.head_newRec (h : r.part ≤ 4) : (s.newRec r).rd Addr.errHead = setFld (s.rd Addr.errHead) 31 0 s.nextHseq := by
  have hpush (t : State) (f type : Nat) (body : List Byte) (hf : f ≤ 4) :
      Sparse.get resetOf (t.evPush f type body).2.regs Addr.errHead = Sparse.get resetOf t.regs Addr.errHead :=
    State.rd_evPush _ _ _ _ (by unfold Addr.errHead Addr.pciFnStat; omega)
  have hcounted (n lo : Nat) : Sparse.get resetOf (((s.wf Addr.errHead 31 0 n).sat Addr.errCnt (lo + 15) lo 1).sat
      Addr.hltSummary 15 0 1).regs Addr.errHead = setFld (s.rd Addr.errHead) 31 0 n :=
    (State.rd_sat_other _ _ _ _ (by decide)).trans ((State.rd_sat_other _ _ _ _ (by decide)).trans (State.rd_wf_same _ _ _ _ _))
  unfold State.rd at *
  simp only [State.newRec]
  (repeat' split) <;> simp [hpush, hcounted, h, State.nextHseq]

/-- Where records are not merged, each is a new one (R687). -/
theorem State.record_unmerged (h : s.rf Addr.hltCfg 15 0 = 0) : s.record r = s.newRec r := by
  have hnone : s.recs.find? (fun e => s.rf Addr.hltCfg 15 0 != 0 && e.2.takes r s.time (msTicks (s.rf Addr.hltCfg 15 0))) = none := by
    simp [h]
  unfold State.record
  simp only [hnone]

theorem State.nextHseq_lt : s.nextHseq < 2 ^ 32 := by
  unfold State.nextHseq nextSerial
  split <;> omega

theorem State.nextHseq_eq : s.nextHseq = if s.rf Addr.errHead 31 0 + 1 = 2 ^ 32 then 1 else s.rf Addr.errHead 31 0 + 1 :=
  have hlt : s.rf Addr.errHead 31 0 < 2 ^ 32 := fld_lt _ 31 0
  if_congr (by omega) rfl rfl

theorem State.rf_head_newRec (h : r.part ≤ 4) : (s.newRec r).rf Addr.errHead 31 0 = s.nextHseq := by
  rw [State.rf, s.head_newRec r h, fld_setFld_same _ 31 0 _ (by decide) (by decide)]
  exact Nat.mod_eq_of_lt s.nextHseq_lt

end
end Sys2Proof.Machine
end

section
/-! Suspicion, windows of operations and thresholds (R671 to R673). -/

namespace Sys2Proof.Machine

open Sys2Proof

/-! ## Where a unit's marks stand -/

/-- The registers that show a unit's suspicion. -/
def susRegs (k u : Nat) : List Nat := [(susBit k u).1, Addr.mtTileStat (u / 8) (u % 8), Addr.veEngStat (u / 2) (u % 2)]

theorem kindUnits_le {k : Nat} (h : k ≠ 10) : kindUnits k ≤ 48 := by
  unfold kindUnits
  split <;> omega

theorem susBit_range {k u : Nat} (hk : k ≤ 13) (hu : u < kindUnits k) :
    0x1100130 ≤ (susBit k u).1 ∧ (susBit k u).1 < 0x1200000 ∧ (susBit k u).2 < 64 := by
  unfold susBit
  by_cases h : k = 10
  · subst h
    have hu : u < 2560 := hu
    rw [if_pos rfl]
    unfold Addr.hltSramsus
    dsimp only
    omega
  · have hu := hu.trans_le (kindUnits_le h)
    rw [if_neg h]
    unfold Addr.hltKindSus
    dsimp only
    omega

/-- The suspect bit has a register of its own beside the records' and the units'. -/
theorem susBit_apart {k u : Nat} (hk : k ≤ 13) (hu : u < kindUnits k) :
    (susBit k u).1 ∉ recordRegs 0 ∧ (susBit k u).1 ≠ Addr.mtTileStat (u / 8) (u % 8) ∧ (susBit k u).1 ≠ Addr.veEngStat (u / 2) (u % 2) := by
  obtain ⟨hlow, hhigh, -⟩ := susBit_range hk hu
  simp only [recordRegs, List.mem_cons, List.not_mem_nil, or_false, not_or]
  unfold Addr.errHead Addr.errCnt Addr.hltSummary Addr.pciFnStat Addr.mtTileStat Addr.veEngStat
  omega

theorem hltKindThr_not_susRegs {k : Nat} (hk : 1 ≤ k) (hk13 : k ≤ 13) (u : Nat) : Addr.hltKindThr k ∉ susRegs k u := by
  simp only [susRegs, List.mem_cons, List.not_mem_nil, or_false, not_or]
  unfold susBit
  refine ⟨?_, ?_, ?_⟩
  · split <;> simp only [Addr.hltKindThr, Addr.hltSramsus, Addr.hltKindSus] <;> omega
  · unfold Addr.hltKindThr Addr.mtTileStat; omega
  · unfold Addr.hltKindThr Addr.veEngStat; omega

section
variable (s : State) (k u : Nat)

/-! ## Suspicion (R673) -/

theorem State.suspect_iff : s.suspect k u = true ↔ 0 < (s.hu k u).errs ∨
    ∃ t ∈ (s.hu k u).exh, s.time ≤ t + 400000000 * max 1 (s.rf (Addr.hltKindThr k) 63 48) := by
  simp [State.suspect, State.xwin, sTicks, Nat.mul_comm]

/-- A unit's marks brought to its suspicion, before the record of a unit that becomes suspect. -/
def State.susMarked : State :=
  let t := s.wb (susBit k u).1 (susBit k u).2 (s.suspect k u)
  if k = 1 then t.wb (Addr.mtTileStat (u / 8) (u % 8)) 3 (s.suspect k u)
  else if k = 2 then t.wb (Addr.veEngStat (u / 2) (u % 2)) 3 (s.suspect k u) else t

theorem State.susSync_eq : s.susSync k u =
    if s.suspect k u && !s.rb (susBit k u).1 (susBit k u).2 then (s.susMarked k u).record (report k .suspect u 0) else s.susMarked k u := rfl

theorem State.susMarked_plain (h1 : k ≠ 1) (h2 : k ≠ 2) :
    s.susMarked k u = s.wb (susBit k u).1 (susBit k u).2 (s.suspect k u) := by
  rw [State.susMarked, if_neg h1, if_neg h2]

theorem State.regsOnly_susMarked : s.RegsOnly (s.susMarked k u) := by
  unfold State.susMarked
  dsimp only
  (repeat' split) <;> rfl

theorem State.rd_susMarked {off : Nat} (h : off ∉ susRegs k u) : (s.susMarked k u).rd off = s.rd off := by
  simp only [susRegs, List.mem_cons, List.not_mem_nil, or_false, not_or] at h
  obtain ⟨hsus, htile, heng⟩ := h
  unfold State.susMarked
  dsimp only
  (repeat' split) <;> simp only [State.rd_wb_other _ _ _ hsus, State.rd_wb_other _ _ _ htile, State.rd_wb_other _ _ _ heng]

theorem State.susSync_health : (s.susSync k u).health = s.health := by
  have hmarked : (s.susMarked k u).health = s.health := by rw [s.regsOnly_susMarked k u]
  rw [State.susSync_eq]
  split
  · rw [State.record_health, hmarked]
  · exact hmarked

end

/-- A unit's suspect bit shows its suspicion. -/
theorem State.rb_susSync (s : State) {k u : Nat} (hk : k ≤ 13) (hu : u < kindUnits k) :
    (s.susSync k u).rb (susBit k u).1 (susBit k u).2 = s.suspect k u := by
  obtain ⟨-, -, hbit⟩ := susBit_range hk hu
  obtain ⟨hrec, htile, heng⟩ := susBit_apart hk hu
  have hmarked : (s.susMarked k u).rb (susBit k u).1 (susBit k u).2 = s.suspect k u := by
    have hbits := bit_setBit_same (s.rd (susBit k u).1) (s.suspect k u) hbit
    unfold State.susMarked State.rb
    dsimp only
    (repeat' split) <;> simp only [State.rd_wb_other _ _ _ htile, State.rd_wb_other _ _ _ heng, State.rd_wb_same, hbits]
  rw [State.susSync_eq]
  split
  · exact (congrArg (bit · _) (State.rd_record (s.susMarked k u) (report k .suspect u 0) hrec)).trans hmarked
  · exact hmarked

/-- A unit that is not suspect has its marks cleared and no record. -/
theorem State.susSync_clear {s : State} {k u : Nat} (h : s.suspect k u = false) : s.susSync k u = s.susMarked k u := by
  rw [State.susSync_eq, if_neg (by simp [h])]

/-! ## Windows and expiries (R672, R673) -/

section
variable {s : State} {k u : Nat} (hu : u < kindUnits k)
include hu

theorem exec_errorWindowEnd (s : State) : exec (.errorWindowEnd k u) s = .next (s.rollWindow k u) := if_pos hu

theorem exec_suspectExpiry (s : State) : exec (.suspectExpiry k u) s = .next (s.susSync k u) := if_pos hu

/-- A unit that is suspect no more; a tile or a vector engine has a second mark, in its own status register (R673). -/
theorem exec_suspectExpiry_clear (h : s.suspect k u = false) (h1 : k ≠ 1) (h2 : k ≠ 2) :
    exec (.suspectExpiry k u) s = .next (s.wb (susBit k u).1 (susBit k u).2 false) := by
  rw [exec_suspectExpiry hu, State.susSync_clear h, State.susMarked_plain _ _ _ h1 h2, h]

end

theorem State.rollWindow_over {s : State} {k u : Nat} (h : s.opsw k ≤ (s.hu k u).ops) :
    s.rollWindow k u = (s.setHu k u { s.hu k u with ops := (s.hu k u).ops % s.opsw k, errs := 0 }).susSync k u := if_pos h

theorem State.rollWindow_runs {s : State} {k u : Nat} (h : (s.hu k u).ops < s.opsw k) : s.rollWindow k u = s := if_neg (Nat.not_le.mpr h)

/-! ## A write of the thresholds (R672) -/

/-- A unit starts afresh. -/
def State.unitFresh (s : State) (k u : Nat) : State := (s.setHu k u unit0).susSync k u

theorem State.hu_setHu (s : State) {k u j n : Nat} (x : UnitH) (hu : u < 4096) (hn : n < 4096) :
    (s.setHu k u x).hu j n = if j = k ∧ n = u then x else s.hu j n := by
  split
  next h => obtain ⟨rfl, rfl⟩ := h; exact Sparse.get_set_same _ _ _ _
  next h => exact Sparse.get_set_other _ _ _ (by omega)

theorem State.suspect_fresh (s : State) (k : Nat) {u : Nat} (hu : u < 4096) : (s.setHu k u unit0).suspect k u = false := by
  rw [State.suspect, s.hu_setHu unit0 hu hu, if_pos ⟨rfl, rfl⟩]
  rfl

section
variable (s : State) {k : Nat} {l : List Nat} (hl : ∀ u ∈ l, u < 4096)
include hl

theorem State.rd_freshAll {off : Nat} (hoff : ∀ u, off ∉ susRegs k u) : (l.foldl (fun s u => s.unitFresh k u) s).rd off = s.rd off := by
  induction l generalizing s with
  | nil => rfl
  | cons u l ih =>
    rw [List.foldl_cons, ih _ fun v hv => hl v (List.mem_cons_of_mem u hv), State.unitFresh,
      State.susSync_clear (s.suspect_fresh k (hl u List.mem_cons_self)), State.rd_susMarked _ _ _ (hoff u)]
    rfl

theorem State.hu_freshAll (j : Nat) {n : Nat} (hn : n < 4096) :
    (l.foldl (fun s u => s.unitFresh k u) s).hu j n = if j = k ∧ n ∈ l then unit0 else s.hu j n := by
  induction l generalizing s with
  | nil => simp
  | cons u l ih =>
    have hunit : (s.unitFresh k u).hu j n = if j = k ∧ n = u then unit0 else s.hu j n := by
      rw [← s.hu_setHu unit0 (hl u List.mem_cons_self) hn, State.unitFresh, State.hu, State.susSync_health]
      rfl
    rw [List.foldl_cons, ih _ fun v hv => hl v (List.mem_cons_of_mem u hv), hunit]
    by_cases hj : j = k <;> by_cases hnu : n = u <;> simp [hj, hnu]

end

/-- A key that no entry has reads the default. -/
theorem Sparse.get_unlisted {β : Type} (d : Nat → β) {m : Sparse β} {k : Nat} (h : ∀ e ∈ m, e.1 ≠ k) : Sparse.get d m k = d k := by
  induction m with
  | nil => rfl
  | cons e m ih => rw [Sparse.get, if_neg (h e List.mem_cons_self), ih fun x hx => h x (List.mem_cons_of_mem e hx)]

/-- The units of a kind that have counts. -/
def State.unitsOf (s : State) (k : Nat) : List Nat := (s.health.filter fun e => e.1 / 4096 == k).map fun e => e.1 % 4096

theorem State.unitsOf_lt {s : State} {k u : Nat} (h : u ∈ s.unitsOf k) : u < 4096 := by
  obtain ⟨e, -, rfl⟩ := List.mem_map.mp h
  exact Nat.mod_lt _ (by decide)

theorem State.hu_of_not_unitsOf {s : State} {k n : Nat} (hn : n < 4096) (h : n ∉ s.unitsOf k) : s.hu k n = unit0 := by
  refine Sparse.get_unlisted _ fun e he hkey => h (List.mem_map.mpr ⟨e, List.mem_filter.mpr ⟨he, ?_⟩, ?_⟩)
  · rw [beq_iff_eq]; omega
  · omega

theorem State.thrWrite_eq (s : State) (k : Nat) (new : W64) :
    s.thrWrite k new = (s.unitsOf k).foldl (fun s u => s.unitFresh k u) (s.wr (Addr.hltKindThr k) new) := rfl

section
variable (s : State) {k : Nat} (new : W64)

theorem State.rd_thrWrite (hk : 1 ≤ k) (hk13 : k ≤ 13) : (s.thrWrite k new).rd (Addr.hltKindThr k) = new := by
  rw [State.thrWrite_eq, State.rd_freshAll _ (fun _ => State.unitsOf_lt) (hltKindThr_not_susRegs hk hk13), State.rd_wr_same]

theorem State.hu_thrWrite (j : Nat) {n : Nat} (hn : n < 4096) : (s.thrWrite k new).hu j n = if j = k then unit0 else s.hu j n := by
  have hwr : (s.wr (Addr.hltKindThr k) new).hu j n = s.hu j n := rfl
  rw [State.thrWrite_eq, State.hu_freshAll _ (fun _ => State.unitsOf_lt) j hn, hwr]
  by_cases hj : j = k
  · subst hj
    by_cases hin : n ∈ s.unitsOf j
    · rw [if_pos ⟨rfl, hin⟩, if_pos rfl]
    · rw [if_neg (fun h => hin h.2), if_pos rfl, State.hu_of_not_unitsOf hn hin]
  · rw [if_neg (fun h => hj h.1), if_neg hj]

end

end Sys2Proof.Machine
end

section
/-! The health ledger's registers and the supervisor pair's timers (R676, R692 to R695). -/

namespace Sys2Proof.Machine

open Sys2Proof

theorem locate_hltKindThr : ∀ k, k < 14 → 1 ≤ k → locate (Addr.hltKindThr k) =
    some (⟨.hltKindThr, 0x1100120, [(0x20, 13, 1)], 0xE102004000F4240, 0xFFFFF0FFFFFFFFFF, 0x0⟩, [k]) := by decide

theorem locate_hltKindRet : ∀ k, k < 14 → 1 ≤ k → locate (Addr.hltKindRet k) =
    some (⟨.hltKindRet, 0x1100128, [(0x20, 13, 1)], 0x0, 0xFFFFFFFFFFFFFFFF, 0x0⟩, [k]) := by decide

theorem locate_hltWdkick : locate Addr.hltWdkick = some (⟨.hltWdkick, 0x1101008, [], 0x0, 0x0, 0x0⟩, []) := by decide

theorem locate_hltScctl : locate Addr.hltScctl = some (⟨.hltScctl, 0x1101010, [], 0x0, 0x0, 0x0⟩, []) := by decide

section
variable {s : State} {src : Src} {k : Nat} (v : W64) (hk : 1 ≤ k) (hk13 : k ≤ 13)
include hk hk13

theorem exec_thresholdWrite (h : TakesWrite s src .hltKindThr k (Addr.hltKindThr k)) :
    exec (.thresholdWrite src k v) s = .next (s.thrWrite k (s.stored (Addr.hltKindThr k) v)) := by
  have hloc := locate_hltKindThr k (Nat.lt_succ_of_le hk13) hk
  rw [State.stored_of_locate hloc]
  exact busWrite_takes v (decide_eq_true ⟨hk, hk13⟩) h hloc rfl rfl

theorem exec_retireWrite (h : TakesWrite s src .hltKindRet k (Addr.hltKindRet k)) :
    exec (.retireWrite src k v) s = .next (s.retWrite k v) := by
  have hwrite : exec (.retireWrite src k v) s = .next (s.retWrite k (v &&& byteMask 0xFF)) :=
    busWrite_takes v (decide_eq_true (⟨hk, hk13⟩ : 1 ≤ k ∧ k ≤ 13)) h (locate_hltKindRet k (Nat.lt_succ_of_le hk13) hk) rfl rfl
  rw [hwrite, and_byteMask_full]

end

section
variable {s : State}

theorem exec_watchdogKick {src : Src} (v : W64) (h : TakesWrite s src .hltWdkick 0 Addr.hltWdkick) :
    exec (.watchdogKick src v) s = .next { s with sup := { s.sup with kick := s.time } } :=
  busWrite_takes v rfl h locate_hltWdkick rfl rfl

/-- A requested restart stops the pair with cause 0x102, and a staged image becomes the running one (R694, R729). -/
theorem exec_requestedRestart {src : Src} (v : W64) (h : TakesWrite s src .hltScctl 0 Addr.hltScctl) :
    exec (.requestedRestart src v) s = .next (if s.pairUp then (s.stopPair 4 0x102).promoteStaged else s) := by
  have hwrite : exec (.requestedRestart src v) s = .next (s.scctlWrite (setBit v 0 true &&& byteMask 0xFF)) :=
    busWrite_takes (setBit v 0 true) rfl h locate_hltScctl rfl rfl
  have hgo : bit (setBit v 0 true) 0 = true := bit_setBit_same v true (by decide)
  rw [hwrite, and_byteMask_full, State.scctlWrite, State.scRestart, hgo, Bool.true_and]
  by_cases hup : s.pairUp = true
  · simp only [hup, if_true]
  · rw [if_neg hup, if_neg hup]

/-- A unit without a bit of its own in HLT_KINDk_RET, or retired already, stays as it is (R676). -/
theorem State.retire_none {k u : Nat} (h : k = 9 ∨ k = 10 ∨ k = 13 ∨ s.rb (Addr.hltKindRet k) u = true) : s.retire k u = s := if_pos h

/-! ## Checkpoints (R692) -/

theorem exec_checkpointDue_due (hon : s.ptbOn = true) (hn : s.rf Addr.hltCkptint 15 0 ≠ 0)
    (hdue : s.sup.ckpt + 400000000 * s.rf Addr.hltCkptint 15 0 ≤ s.time) :
    exec .checkpointDue s = .next (State.supEvent { s with sup := { s.sup with ckpt := s.time } }) := by
  rw [Nat.mul_comm] at hdue
  exact congrArg Host.Outcome.next (if_pos ⟨hon, hn, hdue⟩)

theorem exec_checkpointDue_early (h : s.rf Addr.hltCkptint 15 0 = 0 ∨ s.time < s.sup.ckpt + 400000000 * s.rf Addr.hltCkptint 15 0) :
    exec .checkpointDue s = .next s := by
  refine congrArg Host.Outcome.next (if_neg ?_)
  rintro ⟨-, hn, hdue⟩
  rw [sTicks] at hdue
  omega

/-! ## The supervisor watchdog (R693, R695) -/

theorem exec_watchdogExpiry_due (hup : s.pairUp = true) (hen : s.rb Addr.hltWdog 32 = true)
    (hdue : s.sup.kick + 400000 * max 1 (s.rf Addr.hltWdog 15 0) ≤ s.time) : ∃ y, exec .watchdogExpiry s = .next y ∧
      y.sup = { s.sup with st := .stopped, kick := s.time, g1 := 0x101 } := by
  have hgo : (s.pairUp && bit (s.rd Addr.hltWdog) 32 &&
      decide (s.sup.kick + msTicks (max 1 (fld (s.rd Addr.hltWdog) 15 0)) ≤ s.time)) = true := by
    rw [hup, Bool.true_and, Bool.and_eq_true, decide_eq_true_eq, msTicks, Nat.mul_comm]
    exact ⟨hen, hdue⟩
  have htime : (s.record (report 9 .watchdog 0 0)).time = s.time := by rw [(State.StoreOnly.refl s).record _]
  refine ⟨_, congrArg Host.Outcome.next (if_pos hgo), ?_⟩
  rw [State.stopPair_sup, htime, ((State.KeepsCore.refl s).record _).sup]

theorem exec_watchdogExpiry_early (hdue : s.time < s.sup.kick + 400000 * max 1 (s.rf Addr.hltWdog 15 0)) :
    exec .watchdogExpiry s = .next s := by
  refine congrArg Host.Outcome.next (if_neg ?_)
  rw [Bool.and_eq_true, decide_eq_true_eq, msTicks, Nat.mul_comm]
  exact fun h => absurd h.2 (Nat.not_le.mpr hdue)

end

end Sys2Proof.Machine
end

section
/-! The obligation on the health ledger. -/

open Sys2Proof Sys2Proof.Machine

/-- Settles O44: windows and thresholds by what they make of the units' counts, the pair's timers by whether they are due, a record that is
not merged as the next of the ledger. -/
theorem healthLedger : Obligations.HealthLedger := by
  intro s src k u v hk hk13
  refine ⟨?units, ?threshold, ?retire, State.retire_none, ?checkpoint, exec_watchdogKick v, ?watchdog, ?restart, ?record⟩
  case units =>
    rintro hu h n rfl rfl
    refine ⟨fun hover => ?_, fun hruns => ?_, s.suspect_iff k u, exec_suspectExpiry_clear hu, ?_⟩
    · rw [exec_errorWindowEnd hu, State.rollWindow_over hover]
      rfl
    · rw [exec_errorWindowEnd hu, State.rollWindow_runs hruns]
    · exact ⟨_, exec_suspectExpiry hu s, s.rb_susSync hk13 hu, s.susSync_health k u⟩
  case threshold =>
    intro htake
    exact ⟨_, exec_thresholdWrite v hk hk13 htake, s.rd_thrWrite _ hk hk13, fun j n => s.hu_thrWrite _ j⟩
  case retire => exact exec_retireWrite v hk hk13
  case checkpoint =>
    rintro n rfl hon
    exact ⟨exec_checkpointDue_due hon, exec_checkpointDue_early⟩
  case watchdog =>
    rintro hup hen d rfl
    refine ⟨fun hdue => ?_, exec_watchdogExpiry_early⟩
    obtain ⟨y, hexec, hsup⟩ := exec_watchdogExpiry_due hup hen hdue
    exact ⟨y, hexec, by rw [hsup], by rw [hsup], by rw [hsup]⟩
  case restart =>
    intro htake
    rw [exec_requestedRestart v htake]
    exact ⟨fun hup => by rw [if_pos hup], fun hdown => by rw [if_neg (Bool.eq_false_iff.mp hdown)]⟩
  case record =>
    rintro r h hpart hmerge rfl y e rfl rfl
    obtain ⟨dlv, hrecs⟩ := s.newRec_recs r
    rw [← s.nextHseq_eq, s.record_unmerged r hmerge, hrecs, Sparse.get_set_same]
    exact ⟨s.rf_head_newRec r hpart, rfl, rfl, rfl, rfl, rfl, rfl, fun i hi => Sparse.get_set_other _ _ _ hi⟩

end

section
/-! Power-up and power-down, and the clocks that start as PLLs lock (R691, R707, R720, R748, R784). -/

namespace Sys2Proof.Machine

open Sys2Proof

/-! ## The device root (R707) -/

theorem State.flashPut_frame (s : State) (a : Nat) (l : List Byte) : s.flashPut a l = { s with flash := (s.flashPut a l).flash } := by
  induction l generalizing s a with
  | nil => rfl
  | cons b l ih => rw [State.flashPut, ih]

/-- The helper area is erased: the root was never enrolled. -/
def State.helperBlank (s : State) : Bool := (s.flashRead 0 4096).all (· == 0xFF)

/-- The device with its helper data in flash, enrolled now where the helper area was erased. -/
def State.enrolled (s : State) : State :=
  if s.helperBlank then (s.flashPut 0 (fit 4096 Config.helperData)).wb Addr.truStat 8 true else s

/-- The identity public key shown in TRU_IDPK. -/
def State.showId (s : State) : State :=
  (List.range 8).foldl (fun s i => s.wr (Addr.truIdpk i) (BitVec.ofNat 64 (recNat s.trust.idPk (8 * i) 8))) s

theorem State.findRoot_eq (s : State) : s.findRoot =
    State.showId { s.enrolled with trust := { s.enrolled.trust with root := Config.pufRoot (s.enrolled.flashRead 0 4096) } } := by
  unfold State.findRoot State.showId State.enrolled State.helperBlank
  dsimp only

section
variable (s : State)

theorem State.rd_withTrust (t : Trust) (off : Nat) : State.rd { s with trust := t } off = s.rd off := rfl
theorem State.rd_withPmu (p : Pmu) (off : Nat) : State.rd { s with pmu := p } off = s.rd off := rfl

theorem State.enrolled_frame : s.enrolled = { s with flash := s.enrolled.flash, regs := s.enrolled.regs } := by
  unfold State.enrolled
  split
  · rw [State.flashPut_frame]; rfl
  · rfl

theorem State.rd_enrolled {off : Nat} (h : off ≠ Addr.truStat) : s.enrolled.rd off = s.rd off := by
  unfold State.enrolled
  split
  · rw [State.rd_wb_other _ _ _ h, State.flashPut_frame]; rfl
  · rfl

theorem State.regsOnly_showId : s.RegsOnly s.showId := by
  unfold State.showId
  generalize List.range 8 = l
  induction l generalizing s with
  | nil => rfl
  | cons i l ih => exact (s.regsOnly_wr _ _).trans (ih _)

theorem State.rd_showId {off : Nat} (h : ∀ i, i < 8 → off ≠ Addr.truIdpk i) : s.showId.rd off = s.rd off := by
  have hl : ∀ i ∈ List.range 8, off ≠ Addr.truIdpk i := fun i hi => h i (List.mem_range.mp hi)
  unfold State.showId
  generalize List.range 8 = l at hl
  induction l generalizing s with
  | nil => rfl
  | cons i l ih =>
    rw [List.foldl_cons, ih _ fun j hj => hl j (List.mem_cons_of_mem i hj), State.rd_wr_other _ _ (hl i List.mem_cons_self)]

/-- Finding the root changes the flash, the root and two of the trust unit's registers alone. -/
theorem State.findRoot_frame : s.findRoot = { s with
    flash := s.enrolled.flash, regs := s.findRoot.regs, trust := { s.trust with root := Config.pufRoot (s.enrolled.flashRead 0 4096) } } := by
  have henr := s.enrolled_frame
  rw [State.findRoot_eq, State.regsOnly_showId]
  generalize s.enrolled = t at henr
  rw [henr]

theorem State.rd_findRoot {off : Nat} (hstat : off ≠ Addr.truStat) (hid : ∀ i, i < 8 → off ≠ Addr.truIdpk i) :
    s.findRoot.rd off = s.rd off := by
  rw [State.findRoot_eq, State.rd_showId _ hid, State.rd_withTrust]
  exact s.rd_enrolled hstat

end

/-- A helper area with a programmed byte is not enrolled again. -/
theorem State.enrolled_before {s : State} (h : ∃ k, k < 4096 ∧ Sparse.get (fun _ => flash0) s.flash k ≠ 0xFF) : s.enrolled = s := by
  obtain ⟨k, hk, hbyte⟩ := h
  refine if_neg fun hblank => hbyte ?_
  have hread := List.all_eq_true.mp hblank _ (List.mem_map.mpr ⟨k, List.mem_range.mpr hk, rfl⟩)
  rwa [Nat.zero_add, beq_iff_eq] at hread

/-! ## Power-up and power-down (R691, R784) -/

/-- The device with power, on FIRC, before its root is found. -/
def State.poweredUp (s : State) : State :=
  let g := fun (i : Nat) => (s.pins.gpio.getLsbD i).toNat
  let t := { s.cold with
    pins := { s.pins with smbAddr := BitVec.ofNat 8 (0x58 + 2 * g 15 + g 14) },
    pmu := { s.cold.pmu with on := true, boot := 1 }, sup := { s.cold.sup with st := .rom, g1 := 0x300 } }
  ((t.wb Addr.pmuStat 0 true).wr Addr.clkLive 0x81).wr Addr.clkSel 0x4001

theorem exec_powerUp_off {s : State} (hoff : s.pmu.on = false) (htest : s.pins.test = false) :
    exec .powerUp s = .next s.poweredUp.findRoot := by
  refine congrArg Host.Outcome.next (if_neg ?_)
  simp [hoff, htest]

section
variable (s : State)

theorem State.rd_poweredUp {off : Nat} (hstat : off ≠ Addr.pmuStat) (hlive : off ≠ Addr.clkLive) (hsel : off ≠ Addr.clkSel) :
    s.poweredUp.rd off = State.reset.rd off :=
  (State.rd_wr_other _ _ hsel).trans ((State.rd_wr_other _ _ hlive).trans (State.rd_wb_other _ _ _ hstat))

theorem State.clkSel_poweredUp : s.poweredUp.rd Addr.clkSel = 0x4001 := State.rd_wr_same _ _ _

theorem State.clkLive_poweredUp : s.poweredUp.rd Addr.clkLive = 0x81 :=
  (State.rd_wr_other _ _ (by decide)).trans (State.rd_wr_same _ _ _)

theorem State.power_poweredUp : s.poweredUp.rb Addr.pmuStat 0 = true := by
  have hstat : s.poweredUp.rd Addr.pmuStat = setBit (State.reset.rd Addr.pmuStat) 0 true :=
    (State.rd_wr_other _ _ (by decide)).trans ((State.rd_wr_other _ _ (by decide)).trans (State.rd_wb_same _ _ _ _))
  rw [State.rb, hstat]
  exact bit_setBit_same _ _ (by decide)

theorem State.root_findRoot : s.findRoot.trust.root = Config.pufRoot (s.findRoot.flashRead 0 4096) := by
  have hread (t u : State) (h : t.flash = u.flash) : t.flashRead 0 4096 = u.flashRead 0 4096 := by
    rw [State.flashRead, State.flashRead, h]
  have hframe := s.findRoot_frame
  rw [hread s.findRoot s.enrolled (by rw [hframe]), hframe]

/-- A device enrolled before keeps its flash and does not report an enrolment. -/
theorem State.poweredUp_before {s : State} (h : ∃ k, k < 4096 ∧ Sparse.get (fun _ => flash0) s.flash k ≠ 0xFF) :
    s.poweredUp.findRoot.flash = s.flash ∧ s.poweredUp.findRoot.rb Addr.truStat 8 = false := by
  have henr : s.poweredUp.enrolled = s.poweredUp := State.enrolled_before h
  have hid (i : Nat) (_ : i < 8) : Addr.truStat ≠ Addr.truIdpk i := by unfold Addr.truStat Addr.truIdpk; omega
  have hstat : s.poweredUp.findRoot.rd Addr.truStat = State.reset.rd Addr.truStat := by
    rw [State.findRoot_eq, State.rd_showId _ hid, State.rd_withTrust, henr]
    exact s.rd_poweredUp (by decide) (by decide) (by decide)
  refine ⟨?_, ?_⟩
  · rw [State.findRoot_frame, henr]
    rfl
  · rw [State.rb, hstat]
    decide

theorem exec_powerDown : exec .powerDown s = .next (if s.pmu.on then s.cold else s) := by
  have hexec : exec .powerDown s = execPowerDown s := rfl
  rw [hexec, execPowerDown]

end

/-! ## Clocks (R748, R773) -/

section
variable (s : State) (d : Nat)

/-- Selecting the record changes the trust unit's state, the number of functions, and two of the trust unit's registers. -/
theorem State.selectAtBoot_eq : ∃ t p hi lo x,
    s.selectAtBoot = (State.wf { s with trust := t, pcie := p } Addr.truStat hi lo x).cfgSync := by
  unfold State.selectAtBoot
  extract_lets ok
  split
  · exact ⟨_, _, 5, 5, _, rfl⟩
  · exact ⟨_, _, 3, 0, 1, rfl⟩

theorem State.selectAtBoot_pmu : s.selectAtBoot.pmu = s.pmu := by
  obtain ⟨_, _, _, _, _, hsel⟩ := s.selectAtBoot_eq
  rw [hsel]
  rfl

theorem State.rd_selectAtBoot {off : Nat} (hstat : off ≠ Addr.truStat) (hseq : off ≠ Addr.truCfgseq) :
    s.selectAtBoot.rd off = s.rd off := by
  obtain ⟨_, _, _, _, _, hsel⟩ := s.selectAtBoot_eq
  rw [hsel]
  exact (State.rd_wr_other _ _ hseq).trans (State.rd_wf_other _ _ _ _ hstat)

/-- The pair and the mesh on their PLLs. -/
def State.onPlls : State := (s.wf Addr.clkSel 1 0 2).wf Addr.clkSel 15 14 2

theorem State.bootClocks_locked {s : State} (hboot : s.pmu.boot = 1) (hpair : s.rb Addr.clkLock 0 = true) (hmesh : s.rb Addr.clkLock 7 = true) :
    s.bootClocks = { s.onPlls.selectAtBoot with pmu := { s.pmu with boot := 2 } } := by
  have hpmu : s.onPlls.selectAtBoot.pmu = s.pmu := s.onPlls.selectAtBoot_pmu
  rw [State.bootClocks, if_pos ⟨hboot, hpair, hmesh⟩, ← hpmu, State.onPlls]

theorem State.bootClocks_other {s : State} (hboot : s.pmu.boot ≠ 1) : s.bootClocks = s := if_neg fun h => hboot h.1

theorem State.rd_bootClocks {off : Nat} (hsel : off ≠ Addr.clkSel) (hstat : off ≠ Addr.truStat) (hseq : off ≠ Addr.truCfgseq) :
    s.bootClocks.rd off = s.rd off := by
  unfold State.bootClocks
  split
  · rw [State.rd_withPmu, State.rd_selectAtBoot _ hstat hseq, State.rd_wf_other _ _ _ _ hsel, State.rd_wf_other _ _ _ _ hsel]
  · rfl

/-- A PLL locked, with the clock that it starts, before the boot ROM takes it. -/
def State.lockShown : State := if 8 ≤ d then (s.wb Addr.clkLock d true).wb Addr.clkLive d true else s.wb Addr.clkLock d true

theorem State.pllLock_on {s : State} (hon : s.pmu.on = true) (hphase : s.rf Addr.pmuSleepstat 6 4 < 5) :
    s.pllLock d = (s.lockShown d).bootClocks := if_pos ⟨hon, hphase⟩

theorem State.pllLock_ignored {s : State} (h : s.pmu.on = false ∨ 5 ≤ s.rf Addr.pmuSleepstat 6 4) : s.pllLock d = s := by
  refine if_neg fun ⟨hon, hphase⟩ => ?_
  rcases h with h | h
  · exact Bool.false_ne_true (h.symm.trans hon)
  · exact Nat.not_le.mpr hphase h

theorem State.regsOnly_lockShown : s.RegsOnly (s.lockShown d) := by
  unfold State.lockShown
  split <;> rfl

theorem State.rd_lockShown {off : Nat} (hlock : off ≠ Addr.clkLock) (hlive : off ≠ Addr.clkLive) : (s.lockShown d).rd off = s.rd off := by
  unfold State.lockShown
  split
  · rw [State.rd_wb_other _ _ _ hlive, State.rd_wb_other _ _ _ hlock]
  · exact State.rd_wb_other _ _ _ hlock

theorem State.lock_lockShown {d : Nat} (hd : d < 64) : (s.lockShown d).rb Addr.clkLock d = true := by
  have hlock : (s.lockShown d).rd Addr.clkLock = setBit (s.rd Addr.clkLock) d true := by
    unfold State.lockShown
    split
    · rw [State.rd_wb_other _ _ _ (by decide), State.rd_wb_same]
    · exact State.rd_wb_same _ _ _ _
  rw [State.rb, hlock]
  exact bit_setBit_same _ _ hd

theorem State.clk_lockShown {d : Nat} (h8 : 8 ≤ d) (hd : d < 64) : (s.lockShown d).clk d = true := by
  rw [State.clk, State.rb, State.lockShown, if_pos h8, State.rd_wb_same]
  exact bit_setBit_same _ _ hd

/-- What a PLL that locks leaves of a register but the choice of clocks and two of the trust unit's. -/
theorem State.rd_pllLock {s : State} (hon : s.pmu.on = true) (hphase : s.rf Addr.pmuSleepstat 6 4 < 5) {off : Nat}
    (hsel : off ≠ Addr.clkSel) (hstat : off ≠ Addr.truStat) (hseq : off ≠ Addr.truCfgseq) : (s.pllLock d).rd off = (s.lockShown d).rd off := by
  rw [State.pllLock_on d hon hphase, State.rd_bootClocks _ hsel hstat hseq]

theorem State.pllLock_other {s : State} (hon : s.pmu.on = true) (hphase : s.rf Addr.pmuSleepstat 6 4 < 5) (hboot : s.pmu.boot ≠ 1) :
    s.pllLock d = s.lockShown d := by
  have hpmu : (s.lockShown d).pmu = s.pmu := by rw [s.regsOnly_lockShown d]
  rw [State.pllLock_on d hon hphase, State.bootClocks_other (by rwa [hpmu])]

/-- At boot the pair and the mesh go to their PLLs once both have locked. -/
theorem State.pllLock_boot {s : State} (hon : s.pmu.on = true) (hphase : s.rf Addr.pmuSleepstat 6 4 < 5) (hboot : s.pmu.boot = 1)
    (hpair : (s.pllLock d).rb Addr.clkLock 0 = true) (hmesh : (s.pllLock d).rb Addr.clkLock 7 = true) :
    (s.pllLock d).pmu.boot = 2 ∧ (s.pllLock d).rf Addr.clkSel 1 0 = 2 ∧ (s.pllLock d).rf Addr.clkSel 15 14 = 2 := by
  have hlock : (s.pllLock d).rd Addr.clkLock = (s.lockShown d).rd Addr.clkLock :=
    State.rd_pllLock d hon hphase (by decide) (by decide) (by decide)
  have hpmu : (s.lockShown d).pmu = s.pmu := by rw [s.regsOnly_lockShown d]
  rw [State.rb, hlock] at hpair hmesh
  rw [State.pllLock_on d hon hphase, State.bootClocks_locked (hpmu ▸ hboot) hpair hmesh]
  have hsel : State.rd { (s.lockShown d).onPlls.selectAtBoot with pmu := { (s.lockShown d).pmu with boot := 2 } } Addr.clkSel =
      setFld (setFld ((s.lockShown d).rd Addr.clkSel) 1 0 2) 15 14 2 := by
    rw [State.rd_withPmu, State.rd_selectAtBoot _ (by decide) (by decide), State.onPlls, State.rd_wf_same, State.rd_wf_same]
  refine ⟨rfl, ?_, ?_⟩
  · rw [State.rf, hsel, fld_setFld_other _ 15 14 _ _ _ (by decide) (by decide) (by decide)]
    exact fld_setFld_same _ 1 0 _ (by decide) (by decide)
  · rw [State.rf, hsel]
    exact fld_setFld_same _ 15 14 _ (by decide) (by decide)

end

end Sys2Proof.Machine
end

section
/-! The boot ROM: the initial writes, the images it verifies, its warm entry (R569, R725, R785, R786). -/

namespace Sys2Proof.Machine

open Sys2Proof

theorem Sparse.get_setAll {β : Type} [DecidableEq β] (d : Nat → β) (v : β) (l : List Nat) (m : Sparse β) (k : Nat) :
    Sparse.get d (l.foldl (fun m k => Sparse.set d m k v) m) k = if k ∈ l then v else Sparse.get d m k := by
  induction l generalizing m with
  | nil => rfl
  | cons a l ih =>
    rw [List.foldl_cons, ih]
    by_cases hk : k = a
    · subst hk; simp
    · rw [Sparse.get_set_other _ _ _ hk]; simp [hk]

section
variable {s : State}

theorem exec_channelTrainingComplete_early (h : s.pmu.boot ≠ 2) : exec .channelTrainingComplete s = .next s :=
  congrArg Host.Outcome.next (if_neg h)

theorem exec_channelTrainingComplete_due (h : s.pmu.boot = 2) : exec .channelTrainingComplete s =
    .next { s with pmu := { s.pmu with boot := 3 },
                   trained := (List.range 26).foldl (fun m ch => Sparse.set (fun _ => 0) m ch s.time) s.trained } :=
  congrArg Host.Outcome.next (if_pos h)

theorem exec_bootImageVerify_away (h : s.sup.st ≠ .rom ∨ s.clk 0 = false) : exec .bootImageVerify s = .next s := by
  refine congrArg Host.Outcome.next (if_neg fun ⟨hrom, hclk⟩ => ?_)
  rcases h with h | h
  · exact h hrom
  · exact Bool.false_ne_true (h.symm.trans hclk)

/-- What the boot ROM of a device that is claimed and not in recovery does once the initial writes are over (R784 to R786). -/
def State.romBoots (s : State) : State :=
  if s.sup.g1 = 0x300 then s.bootOrRecover
  else if s.sup.g1 = 0x302 ∧ s.rb Addr.pmuResume 63 = true then s.resumeImage else s.warmEntry

section
variable (hrom : s.sup.st = .rom) (hclk : s.clk 0 = true)
include hrom hclk

theorem exec_bootImageVerify_claimed (hst : s.rf Addr.truStat 3 0 = 0) : exec .bootImageVerify s =
    .next (if s.pmu.boot = 3 ∧ s.rb Addr.memStat 0 = true then s.romBoots else s) := by
  refine congrArg Host.Outcome.next ((if_pos ⟨hrom, hclk⟩).trans ?_)
  rw [hst]
  rfl

theorem exec_bootImageVerify_idle (hst : s.rf Addr.truStat 3 0 ≠ 0) (hclaim : s.trust.claim = none) : exec .bootImageVerify s = .next s := by
  obtain ⟨n, hn⟩ := Nat.exists_eq_succ_of_ne_zero hst
  refine congrArg Host.Outcome.next ((if_pos ⟨hrom, hclk⟩).trans ?_)
  rw [hn, hclaim]
  rfl

theorem exec_bootImageVerify_claim {a : Nat} (hst : s.rf Addr.truStat 3 0 ≠ 0) (hclaim : s.trust.claim = some a) :
    exec .bootImageVerify s = .next (s.takeClaim a) := by
  obtain ⟨n, hn⟩ := Nat.exists_eq_succ_of_ne_zero hst
  refine congrArg Host.Outcome.next ((if_pos ⟨hrom, hclk⟩).trans ?_)
  rw [hn, hclaim]
  rfl

end

/-- The warm entry finds the running image in memory and enters it. -/
theorem State.warmEntry_sound (h : shake (s.peek s.trust.runaddr s.trust.runlen) = s.trust.rundig) : s.warmEntry = s.enterImage s.sup.g1 :=
  if_pos h

theorem State.enterImage_sup (s : State) (g1 : Nat) : (s.enterImage g1).sup = { s.sup with st := .run, g1 := g1 } := rfl

theorem State.enterImage_thread (s : State) (g1 : Nat) : ((s.enterImage g1).thread supTid).pc = pcOf (BitVec.ofNat 64 s.trust.runentry) ∧
    ((s.enterImage g1).thread supTid).gr 1 = BitVec.ofNat 64 g1 := by
  have hthread : (s.enterImage g1).thread supTid = { ({ thread0 with pc := pcOf (BitVec.ofNat 64 s.trust.runentry) }.setG 1 (BitVec.ofNat 64 g1)) with
      serial := (s.thread supTid).serial, tkts := (s.thread supTid).tkts, wrapped := (s.thread supTid).wrapped } :=
    State.thread_setThread_same _ _ _
  rw [hthread]
  exact ⟨Thread.setG_pc _ _ _, Thread.gr_setG_same _ 1 _ (by decide)⟩

end

end Sys2Proof.Machine
end

section
/-! What a reset restores outside the trust unit: the roles of channels, the generations, the marks of units, the clocks (R676, R773, Table 17.10). -/

namespace Sys2Proof.Machine

open Sys2Proof

/-- Two states differ at most in registers outside the trust unit, the scrub engine's lists and the fabric ports. -/
def State.UnitsOnly (s t : State) : Prop :=
  t = { s with regs := t.regs, scrubQ := t.scrubQ, pendAdv := t.pendAdv, ports := t.ports } ∧
    ∀ off, off / 0x100000 = 0x0D → t.rd off = s.rd off

theorem State.UnitsOnly.refl (s : State) : s.UnitsOnly s := ⟨rfl, fun _ _ => rfl⟩

theorem State.UnitsOnly.trans {s t u : State} (h : s.UnitsOnly t) (h' : t.UnitsOnly u) : s.UnitsOnly u := by
  refine ⟨?_, fun off hoff => (h'.2 off hoff).trans (h.2 off hoff)⟩
  rw [h'.1, h.1]

theorem State.UnitsOnly.ite {s t u : State} {c : Prop} [Decidable c] (ht : s.UnitsOnly t) (hu : s.UnitsOnly u) :
    s.UnitsOnly (if c then t else u) := by
  split
  · exact ht
  · exact hu

theorem inservBit_cluster {k u off : Nat} {r : Option Nat} (hk : k ≤ 6) (hmark : inservBit k u = some (off, r)) : 0x2000000 ≤ off := by
  unfold inservBit at hmark
  split at hmark
  case h_7 => omega
  case h_8 => exact absurd hmark (by simp)
  all_goals
    cases hmark
    simp only [Addr.mtTileStat, Addr.veEngStat, Addr.awStat, Addr.sqStat, Addr.cxStat, Addr.dmMvStat]
    omega

/-- A unit's marks taken from its retirement bit. -/
def State.markUnit (s : State) (k u : Nat) : State :=
  match inservBit k u with
  | some (off, r) =>
    let out := s.rb (Addr.hltKindRet k) u
    let s := s.wb off 0 (!out)
    match r with | some b => s.wb off b out | none => s
  | none => s

theorem cluStat_block (c : Nat) : Addr.cluStat c / 0x100000 ≠ 0x0D := by unfold Addr.cluStat; omega

section
variable {s t : State} (h : s.UnitsOnly t)
include h

theorem State.UnitsOnly.wr {off : Nat} (hoff : off / 0x100000 ≠ 0x0D) (v : W64) : s.UnitsOnly (t.wr off v) :=
  h.trans ⟨rfl, fun _ hk => State.rd_wr_other _ _ fun e => hoff (e ▸ hk)⟩

theorem State.UnitsOnly.wf {off : Nat} (hoff : off / 0x100000 ≠ 0x0D) (hi lo x : Nat) : s.UnitsOnly (t.wf off hi lo x) := h.wr hoff _

theorem State.UnitsOnly.wb {off : Nat} (hoff : off / 0x100000 ≠ 0x0D) (i : Nat) (b : Bool) : s.UnitsOnly (t.wb off i b) := h.wr hoff _

theorem State.UnitsOnly.sat {off : Nat} (hoff : off / 0x100000 ≠ 0x0D) (hi lo n : Nat) : s.UnitsOnly (t.sat off hi lo n) := h.wr hoff _

theorem State.UnitsOnly.setPort (q : Nat) (x : Port) : s.UnitsOnly (t.setPort q x) := h.trans ⟨rfl, fun _ _ => rfl⟩

theorem State.UnitsOnly.foldl {f : State → Nat → State} {l : List Nat} (hf : ∀ n ∈ l, ∀ {u : State}, s.UnitsOnly u → s.UnitsOnly (f u n)) :
    s.UnitsOnly (l.foldl f t) := by
  induction l generalizing t with
  | nil => exact h
  | cons n l ih => exact ih (hf n List.mem_cons_self h) fun m hm => hf m (List.mem_cons_of_mem n hm)

/-! ## Channels and generations -/

theorem State.UnitsOnly.rerole {ch : Nat} (hch : ch < 26) : s.UnitsOnly (t.rerole ch) :=
  h.wf (by unfold Addr.memChStat; omega) _ _ _

theorem State.UnitsOnly.advanceRegion {r : Nat} (hr : r < 384) : s.UnitsOnly (t.advanceRegion r) := by
  have hframe := t.scrubOnly_advanceRegion r
  refine h.trans ⟨?_, fun off hoff => ?_⟩
  · unfold State.ScrubOnly at hframe
    rw [hframe]
  · have hgen : off ≠ Addr.memGen r := fun e => by rw [e, Addr.memGen] at hoff; omega
    have hstat : off ≠ Addr.memScrubStat := fun e => by rw [e] at hoff; exact absurd hoff (by decide)
    rw [State.advanceRegion_eq]
    split
    · rfl
    · rw [State.rd_regionMoved _ _ hstat, State.rd_wf_other _ _ _ _ hgen]

/-! ## Marks of units -/

theorem State.UnitsOnly.markUnit {k : Nat} (hk : k ≤ 6) (u : Nat) : s.UnitsOnly (t.markUnit k u) := by
  unfold State.markUnit
  split
  case h_1 off r hmark =>
    have hlow := inservBit_cluster hk hmark
    have hoff : off / 0x100000 ≠ 0x0D := by omega
    dsimp only
    split
    · exact (h.wb hoff _ _).wb hoff _ _
    · exact h.wb hoff _ _
  case h_2 => exact h

theorem State.UnitsOnly.retSync (c : Nat) : s.UnitsOnly (t.retSync c) := by
  have htiles := h.foldl (l := List.range 8) fun n _ _ hu => hu.markUnit (by decide : 1 ≤ 6) (8 * c + n)
  have hengs := htiles.foldl (l := List.range 2) fun n _ _ hu => hu.markUnit (by decide : 2 ≤ 6) (2 * c + n)
  have hone := ((hengs.markUnit (by decide : 3 ≤ 6) c).markUnit (by decide : 4 ≤ 6) c).markUnit (by decide : 5 ≤ 6) c
  have hmovers := hone.foldl (l := List.range 4) fun n _ _ hu => hu.markUnit (by decide : 6 ≤ 6) (4 * c + n)
  refine State.UnitsOnly.wb (.foldl (.foldl hmovers fun n _ u hu => ?_) fun n _ u hu => ?_) (cluStat_block c) _ _
  · exact hu.wb (by unfold Addr.mtTileStat; omega) _ _
  · exact hu.wb (by unfold Addr.veEngStat; omega) _ _

theorem State.UnitsOnly.portOut (q : Nat) : s.UnitsOnly (t.portOut q) :=
  (((h.sat (by unfold Addr.fabPortCnt1; omega) _ _ _).sat (by decide) _ _ _).setPort _ _).wf (by unfold Addr.fabPortStat; omega) _ _ _

theorem State.UnitsOnly.laneOut (u : Nat) : s.UnitsOnly (t.laneOut u) := by
  have hstat (q : Nat) : Addr.fabPortStat q / 0x100000 ≠ 0x0D := by unfold Addr.fabPortStat; omega
  have hlanes := (h.wf (off := Addr.fabPortLane (u / 2)) (by unfold Addr.fabPortLane; omega) (u % 2) (u % 2) 1).wf (hstat (u / 2)) 33 32
    (3 - (t.wf (Addr.fabPortLane (u / 2)) (u % 2) (u % 2) 1).rf (Addr.fabPortLane (u / 2)) 1 0)
  exact .ite (hlanes.portOut _) (.ite (hlanes.wf (hstat _) _ _ _) hlanes)

theorem State.UnitsOnly.unitSync : s.UnitsOnly t.unitSync := by
  have hengs := h.foldl (l := List.range 2) (f := fun s n => s.wb (Addr.ppEngStat n) 0 (!s.rb (Addr.hltKindRet 7) n)) fun n hn u hu =>
    hu.wb (by have := List.mem_range.mp hn; unfold Addr.ppEngStat; omega) _ _
  exact hengs.foldl fun n _ u hu => .ite (hu.laneOut n) hu

theorem State.UnitsOnly.mapSync : s.UnitsOnly t.mapSync := h.foldl fun _ _ _ hu => hu.wf (by decide) _ _ _

theorem State.UnitsOnly.firc : s.UnitsOnly t.firc :=
  ((((h.wb (by decide) _ _).wb (by decide) _ _).wb (by decide) _ _).wf (by decide) _ _ _).wr (by decide) _

end

end Sys2Proof.Machine
end

section
/-! A warm reset: what it keeps, what it restores, and what it leaves of the partitions and the sleep state (R780, Table 17.10). -/

namespace Sys2Proof.Machine

open Sys2Proof

/-- What a warm reset keeps of a device whose endpoint has been reset and whose debug has relocked (Table 17.10). -/
def State.warmKept (s : State) (g1 : Nat) : State :=
  { State.reset with
    pending := s.pending, freeCtr := s.freeCtr, time := s.time, velN := s.velN, hist := s.hist,
    regs := Sparse.keep (keepsReg false) s.regs, lastRd := s.lastRd,
    mem := Sparse.keep (fun k => decide (0x1000000000000 ≤ k * 1)) s.mem,
    lines := Sparse.keep (fun k => decide (0x1000000000000 ≤ k * 64)) s.lines, host := s.host, flash := s.flash,
    born := s.born, opCount := s.opCount, trained := s.trained, rotAt := s.rotAt, scrubQ := s.scrubQ, pcie := s.pcie,
    recs := s.recs, badLines := s.badLines, spares := s.spares, groupsOut := s.groupsOut, trust := s.trust,
    pmu := { s.pmu with asleep := 0, req := 0, thermal := false, clearing := [] }, pins := s.pins,
    sup := { State.reset.sup with st := .rom, g1 := g1, kick := s.time } }

/-- Channels take their roles again and every region's generation advances; the marks of s that a reset keeps stay. -/
def State.memRestored (s t : State) : State :=
  let t := (t.wb Addr.memStat 0 (s.rb Addr.memStat 0)).wb Addr.memCfg 1 (s.rb Addr.memCfg 1)
  let t := (List.range 26).foldl (fun t ch => if ((List.range 26).map s.role).getD ch 6 = 6 then t else t.rerole ch) t
  (List.range 384).foldl (fun t r => t.advanceRegion r) t

/-- Partition p made free, without clusters. -/
def State.partFreed (s : State) (p : Nat) : State := (s.wf (Addr.truPartStat p) 1 0 0).wr (Addr.truPartCfg p) 0

/-- Every partition is free. -/
def State.partsFreed (s : State) : State := [1, 2, 3, 4].foldl (fun s p => s.partFreed p) s

/-- Every unit takes its marks from the retirement bits. -/
def State.unitsMarked (s : State) : State :=
  let s := (List.range 6).foldl (fun s c => (s.retSync c).wb (Addr.cluStat c) 9 (s.rb (Addr.pmuCluStat c) 7)) s
  s.unitSync.mapSync

theorem State.softReset_warm (s : State) (g1 rst : Nat) : s.softReset false g1 rst =
    (s.endpointReset.relock.memRestored (s.endpointReset.relock.warmKept g1)).partsFreed.unitsMarked.wr Addr.pmuRststat (BitVec.ofNat 64 rst) := by
  unfold State.softReset State.memRestored State.partsFreed State.partFreed State.unitsMarked State.warmKept
  simp only [Bool.false_eq_true, if_false]

theorem State.relocked_frame (s : State) : s.endpointReset.relock = { s with
    regs := s.endpointReset.relock.regs, pcie := s.endpointReset.pcie, evrings := s.endpointReset.evrings,
    trust := { s.trust with unlockEnd := none } } := by
  have hframe := s.endpointReset_frame
  generalize s.endpointReset = t at hframe
  rw [hframe]
  rfl

theorem State.unitsOnly_memRestored (s t : State) : t.UnitsOnly (s.memRestored t) := by
  have hmarks := ((State.UnitsOnly.refl t).wb (off := Addr.memStat) (by decide) 0 (s.rb Addr.memStat 0)).wb (off := Addr.memCfg) (by decide) 1
    (s.rb Addr.memCfg 1)
  refine .foldl (.foldl hmarks fun ch hch u hu => ?_) fun r hr u hu => hu.advanceRegion (List.mem_range.mp hr)
  exact .ite hu (hu.rerole (List.mem_range.mp hch))

theorem State.unitsOnly_unitsMarked (s : State) : s.UnitsOnly s.unitsMarked :=
  ((State.UnitsOnly.refl s).foldl fun c _ _ hu => (hu.retSync c).wb (cluStat_block c) _ _).unitSync.mapSync

theorem State.regsOnly_partsFreed (s : State) : s.RegsOnly s.partsFreed := by
  unfold State.partsFreed
  generalize [1, 2, 3, 4] = l
  induction l generalizing s with
  | nil => rfl
  | cons p l ih => exact State.RegsOnly.trans (State.RegsOnly.trans (s.regsOnly_wf _ _ _ _) (State.regsOnly_wr _ _ _)) (ih (s.partFreed p))

theorem truPartStat_ne_cfg (p q : Nat) : Addr.truPartStat p ≠ Addr.truPartCfg q := by
  unfold Addr.truPartStat Addr.truPartCfg
  omega

theorem State.partState_partFreed_same (s : State) (p : Nat) : (s.partFreed p).partState p = 0 := by
  rw [State.partState, State.rf, State.partFreed, State.rd_wr_other _ _ (truPartStat_ne_cfg p p), State.rd_wf_same]
  exact fld_setFld_same _ 1 0 0 (by decide) (by decide)

theorem State.partState_partFreed_other (s : State) {p q : Nat} (hp : 1 ≤ p) (hq : 1 ≤ q) (h : p ≠ q) :
    (s.partFreed q).partState p = s.partState p := by
  have hne : Addr.truPartStat p ≠ Addr.truPartStat q := by unfold Addr.truPartStat; omega
  rw [State.partState, State.rf, State.partFreed, State.rd_wr_other _ _ (truPartStat_ne_cfg p q), State.rd_wf_other _ _ _ _ hne]
  rfl

theorem State.partState_freeAll {p : Nat} (hp : 1 ≤ p) {l : List Nat} (hl : ∀ q ∈ l, 1 ≤ q) (s : State)
    (h : p ∈ l ∨ s.partState p = 0) : (l.foldl (fun s q => s.partFreed q) s).partState p = 0 := by
  induction l generalizing s with
  | nil => exact h.resolve_left List.not_mem_nil
  | cons q l ih =>
    refine ih (fun r hr => hl r (List.mem_cons_of_mem q hr)) _ ?_
    by_cases hpq : p = q
    · exact .inr (hpq ▸ s.partState_partFreed_same p)
    · rw [s.partState_partFreed_other hp (hl q List.mem_cons_self) hpq]
      exact h.imp_left fun hin => (List.mem_cons.mp hin).resolve_left hpq

theorem State.partState_partsFreed (s : State) {p : Nat} (hp : 1 ≤ p) (hp4 : p ≤ 4) : s.partsFreed.partState p = 0 :=
  State.partState_freeAll hp (by decide) s (.inl (by simp; omega))

/-- A warm reset leaves what it keeps, beside registers, the scrub engine's lists and the fabric ports. -/
theorem State.softReset_units (s : State) (g1 rst : Nat) : ∃ regs scrubQ pendAdv ports, s.softReset false g1 rst =
    { s.endpointReset.relock.warmKept g1 with regs := regs, scrubQ := scrubQ, pendAdv := pendAdv, ports := ports } := by
  have hmem := (State.unitsOnly_memRestored s.endpointReset.relock (s.endpointReset.relock.warmKept g1)).1
  have hparts := State.regsOnly_partsFreed (s.endpointReset.relock.memRestored (s.endpointReset.relock.warmKept g1))
  have hmarks := (State.unitsOnly_unitsMarked (s.endpointReset.relock.memRestored (s.endpointReset.relock.warmKept g1)).partsFreed).1
  rw [State.softReset_warm]
  unfold State.RegsOnly at hparts
  generalize State.unitsMarked _ = w at *
  generalize State.partsFreed _ = v at *
  generalize State.memRestored _ _ = u at *
  rw [hmarks, hparts, hmem]
  exact ⟨_, _, _, _, rfl⟩

theorem truPartStat_block {p : Nat} (hp4 : p ≤ 4) : Addr.truPartStat p / 0x100000 = 0x0D := by
  unfold Addr.truPartStat
  omega

theorem State.partState_softReset (s : State) (g1 rst : Nat) {p : Nat} (hp : 1 ≤ p) (hp4 : p ≤ 4) :
    (s.softReset false g1 rst).partState p = 0 := by
  have hfree := State.partState_partsFreed (s.endpointReset.relock.memRestored (s.endpointReset.relock.warmKept g1)) hp hp4
  have hblock := truPartStat_block hp4
  have hkept := (State.UnitsOnly.wr (State.unitsOnly_unitsMarked (s.endpointReset.relock.memRestored
    (s.endpointReset.relock.warmKept g1)).partsFreed) (off := Addr.pmuRststat) (by decide) (BitVec.ofNat 64 rst)).2 _ hblock
  rw [State.softReset_warm, State.partState, State.rf, hkept]
  exact hfree

theorem State.cause_softReset (s : State) (g1 rst : Nat) : (s.softReset false g1 rst).rd Addr.pmuRststat = BitVec.ofNat 64 rst := by
  rw [State.softReset_warm, State.rd_wr_same]

/-- PMU_SLEEPSTAT shows no phase of a sleep state. -/
def State.sleepCleared (s : State) : State := if s.phase = 0 then s else s.wr Addr.pmuSleepstat 0

/-- The device out of a sleep state: where its clocks were stopped they run on FIRC. -/
def State.awakened (s : State) (stopped : Bool) : State := (if stopped then s.firc else s).sleepCleared

theorem State.warmReset_on {s : State} (r : Nat) (hon : s.pmu.on = true) (hsl3 : s.phase ≠ 6 ∨ s.pmu.req ≠ 3) :
    s.warmReset r = (s.softReset false 0x301 r).awakened (s.pmu.asleep != 0) := by
  refine if_neg ?_
  rw [hon]
  simpa [or_iff_not_imp_left] using hsl3

theorem State.warmReset_ignored {s : State} {r : Nat} (h : s.pmu.on = false ∨ s.phase = 6 ∧ s.pmu.req = 3) : s.warmReset r = s := by
  refine if_pos ?_
  rcases h with hoff | ⟨hphase, hreq⟩
  · simp [hoff]
  · simp [hphase, hreq]

section
variable (s : State) (stopped : Bool)

theorem State.unitsOnly_awakened : s.UnitsOnly (s.awakened stopped) := by
  have hclocks := State.UnitsOnly.ite (c := stopped = true) (State.UnitsOnly.refl s).firc (.refl s)
  exact .ite hclocks (hclocks.wr (by decide) _)

theorem State.rd_firc {off : Nat} (hlive : off ≠ Addr.clkLive) (hsel : off ≠ Addr.clkSel) : s.firc.rd off = s.rd off := by
  rw [State.firc, State.rd_wr_other _ _ hsel, State.liveBits, State.rd_wf_other _ _ _ _ hlive, State.rd_wb_other _ _ _ hlive,
    State.rd_wb_other _ _ _ hlive, State.rd_wb_other _ _ _ hlive]

theorem State.phase_sleepCleared : s.sleepCleared.phase = 0 := by
  unfold State.sleepCleared
  split
  next h => exact h
  next h =>
    rw [State.phase, State.rf, State.rd_wr_same]
    rfl

theorem State.rd_sleepCleared {off : Nat} (h : off ≠ Addr.pmuSleepstat) : s.sleepCleared.rd off = s.rd off := by
  unfold State.sleepCleared
  split
  · rfl
  · exact State.rd_wr_other _ _ h

theorem State.cause_awakened : (s.awakened stopped).rd Addr.pmuRststat = s.rd Addr.pmuRststat := by
  rw [State.awakened, State.rd_sleepCleared _ (by decide)]
  split
  · exact s.rd_firc (by decide) (by decide)
  · rfl

end

/-- Starting the clocks and clearing PMU_SLEEPSTAT add nothing to what a warm reset changes. -/
theorem State.warmReset_kept {s : State} (r : Nat) (hon : s.pmu.on = true) (hsl3 : s.phase ≠ 6 ∨ s.pmu.req ≠ 3) :
    ∃ regs scrubQ pendAdv ports, s.warmReset r =
      { s.endpointReset.relock.warmKept 0x301 with regs := regs, scrubQ := scrubQ, pendAdv := pendAdv, ports := ports } := by
  obtain ⟨_, _, _, _, hreset⟩ := s.softReset_units 0x301 r
  have hawake := ((s.softReset false 0x301 r).unitsOnly_awakened (s.pmu.asleep != 0)).1
  rw [State.warmReset_on r hon hsl3, hawake, hreset]
  exact ⟨_, _, _, _, rfl⟩

theorem State.byte_warmKept (s : State) (g1 k : Nat) : (s.warmKept g1).byte k = if 0x1000000000000 ≤ k then s.byte k else 0 := by
  rw [State.byte, State.warmKept, Sparse.get_keep]
  simp [State.byte]

theorem locate_pmuRstctl : locate Addr.pmuRstctl = some (⟨.pmuRstctl, 0x1000050, [], 0x0, 0x0, 0x0⟩, []) := by decide

theorem exec_warmReset_written {s : State} {src : Src} (v : W64) (h : TakesWrite s src .pmuRstctl 0 Addr.pmuRstctl) :
    exec (.warmReset false src v) s = .next (s.warmReset 2) := by
  have hwrite : exec (.warmReset false src v) s = .next (if bit (setBit v 0 true &&& byteMask 0xFF) 0 then s.warmReset 2 else s) :=
    busWrite_takes (setBit v 0 true) rfl h locate_pmuRstctl rfl rfl
  rw [hwrite, and_byteMask_full, bit_setBit_same _ _ (by decide), if_pos rfl]

end Sys2Proof.Machine
end

section
/-! The obligation on power-up, power-down and warm resets. -/

open Sys2Proof Sys2Proof.Machine

/-- Settles O50: power by whether it is there, a PLL by the boot step, the boot ROM by what it waits for, a warm reset by what it keeps. -/
theorem powerAndBoot : Obligations.PowerAndBoot := by
  intro s d r src v hd
  refine ⟨fun h => congrArg Host.Outcome.next (if_pos h), ?powerUp, ?downOff, ?downOn, ?cold, if_pos hd, State.pllLock_ignored d, ?lock,
    exec_channelTrainingComplete_early, ?trained, exec_bootImageVerify_away, ?rom, ?entry, rfl, exec_warmReset_written v,
    State.warmReset_ignored, ?reset⟩
  case powerUp =>
    intro hoff htest
    have hkept {off : Nat} (h : off / 0x100000 ≠ 0x0D) : s.poweredUp.findRoot.rd off = s.poweredUp.rd off :=
      State.rd_findRoot _ (fun e => h (e ▸ by decide)) fun i hi e => h (by rw [e]; unfold Addr.truIdpk; omega)
    refine ⟨_, exec_powerUp_off hoff htest, ?_, ?_, ?_, ?_, (hkept (by decide)).trans s.clkLive_poweredUp,
      (hkept (by decide)).trans s.clkSel_poweredUp, (congrArg (bit · 0) (hkept (by decide))).trans s.power_poweredUp, ?_, ?_, ?_,
      s.poweredUp.root_findRoot, State.poweredUp_before, ?others⟩
    case others =>
      intro off hoff hid
      simp only [List.mem_cons, List.not_mem_nil, or_false, not_or] at hoff
      obtain ⟨hlive, hsel, hpmu, htru⟩ := hoff
      exact (State.rd_findRoot _ htru hid).trans (s.rd_poweredUp hpmu hlive hsel)
    all_goals
      rw [s.poweredUp.findRoot_frame]
      rfl
  case downOff => exact fun hoff => by rw [exec_powerDown, if_neg (Bool.eq_false_iff.mp hoff)]
  case downOn => exact fun hon => by rw [exec_powerDown, if_pos hon]
  case cold =>
    rintro u rfl
    exact ⟨fun _ => rfl, fun _ => rfl, fun _ => rfl, rfl, rfl, rfl, rfl⟩
  case lock =>
    rintro hon hphase u rfl
    have hrd {off : Nat} := State.rd_pllLock d hon hphase (off := off)
    refine ⟨?_, fun h8 => ?_, fun hboot => ?_, State.pllLock_boot d hon hphase⟩
    · rw [State.rb, hrd (by decide) (by decide) (by decide)]
      exact s.lock_lockShown (by omega)
    · rw [State.clk, State.rb, hrd (by decide) (by decide) (by decide)]
      exact s.clk_lockShown h8 (by omega)
    · rw [State.pllLock_other d hon hphase hboot]
      exact ⟨by rw [s.regsOnly_lockShown d], s.rd_lockShown d (by decide) (by decide)⟩
  case trained =>
    intro hboot
    refine ⟨_, exec_channelTrainingComplete_due hboot, rfl, fun ch hch => ?_, rfl⟩
    rw [Sparse.get_setAll, if_pos (List.mem_range.mpr hch)]
  case rom =>
    intro hrom hclk
    refine ⟨fun hst h => ?_, fun hst hboot hinit => ?_, exec_bootImageVerify_idle hrom hclk, fun a => exec_bootImageVerify_claim hrom hclk⟩
    · rw [exec_bootImageVerify_claimed hrom hclk hst, if_neg]
      rintro ⟨hboot, hinit⟩
      exact h.elim (absurd hboot) fun hlate => Bool.false_ne_true (hlate.symm.trans hinit)
    · rw [exec_bootImageVerify_claimed hrom hclk hst, if_pos ⟨hboot, hinit⟩]
      rfl
  case entry =>
    rintro hsound u rfl
    rw [State.warmEntry_sound hsound, State.enterImage_sup]
    exact ⟨rfl, s.enterImage_thread _⟩
  case reset =>
    rintro hon hsl3 - u rfl
    obtain ⟨_, _, _, _, hkept⟩ := State.warmReset_kept r hon hsl3
    have hbase := s.relocked_frame
    have hreset := State.warmReset_on r hon hsl3
    have hunits := ((s.softReset false 0x301 r).unitsOnly_awakened (s.pmu.asleep != 0)).2
    refine ⟨?_, ?_, ?bytes, ?_, ?_, ?_, ?cause, ?power, ?phase, ?_, ?parts⟩
    case bytes =>
      intro k
      have hmem : (s.warmReset r).byte k = (s.endpointReset.relock.warmKept 0x301).byte k := by rw [hkept]; rfl
      rw [hmem, State.byte_warmKept, hbase]
      rfl
    case cause => rw [hreset, State.cause_awakened, State.cause_softReset]
    case power =>
      rw [hkept, State.warmKept, hbase]
      exact hon
    case phase =>
      rw [hreset]
      exact State.phase_sleepCleared _
    case parts =>
      intro p hp hp4
      rw [State.partState, State.rf, hreset, hunits _ (truPartStat_block hp4)]
      exact s.partState_softReset 0x301 r hp hp4
    all_goals rw [hkept, State.warmKept, hbase]

end
